-- ==== Sys2Proof/Word.lean ====
section
/-!
DEFINITION. The plain data the model is built from: finite tables in one canonical form, bit fields of
numbers, saturating counters.
-/

namespace Sys2Proof

/-- A finite table: keys strictly rising, no entry equal to what an unlisted key reads as. -/
abbrev Tab (α : Type) := List (Nat × α)

/-- What the table holds at a key; `d` where it lists nothing. -/
def Tab.get {α : Type} (d : α) : Tab α → Nat → α
  | [], _ => d
  | (k, v) :: t, x => if x = k then v else Tab.get d t x

/-- Puts an entry in front unless it is what an unlisted key reads as. -/
def Tab.cons {α : Type} [DecidableEq α] (d : α) (k : Nat) (v : α) (t : Tab α) : Tab α :=
  if v = d then t else (k, v) :: t

/-- The table with one key set; setting the unlisted value removes the entry. -/
def Tab.set {α : Type} [DecidableEq α] (d : α) : Tab α → Nat → α → Tab α
  | [], x, v => Tab.cons d x v []
  | (k, w) :: t, x, v =>
    if x < k then Tab.cons d x v ((k, w) :: t)
    else if x = k then Tab.cons d x v t
    else (k, w) :: Tab.set d t x v

/-- The table with the value at one key changed. -/
def Tab.upd {α : Type} [DecidableEq α] (d : α) (t : Tab α) (x : Nat) (f : α → α) : Tab α :=
  t.set d x (f (t.get d x))

/-- Every key above `b` and rising, no entry at its unlisted value. -/
def Tab.wfAbove {α : Type} [DecidableEq α] (d : α) : Nat → Tab α → Bool
  | _, [] => true
  | b, (k, v) :: t => decide (b < k) && decide (v ≠ d) && Tab.wfAbove d k t

/-- The canonical form of a table. -/
def Tab.wf {α : Type} [DecidableEq α] (d : α) : Tab α → Bool
  | [] => true
  | (k, v) :: t => decide (v ≠ d) && Tab.wfAbove d k t

/-- Changes every listed entry, keeping the canonical form. -/
def Tab.mapVals {α : Type} [DecidableEq α] (d : α) (f : Nat → α → α) : Tab α → Tab α
  | [] => []
  | (k, v) :: t => Tab.cons d k (f k v) (Tab.mapVals d f t)

/-- Keeps the listed entries a test accepts. -/
def Tab.keep {α : Type} (p : Nat → α → Bool) (t : Tab α) : Tab α := t.filter fun e => p e.1 e.2

/-- The listed entries a test accepts, as key and value. -/
def Tab.find {α : Type} (p : Nat → α → Bool) (t : Tab α) : Option (Nat × α) := t.find? fun e => p e.1 e.2

/-- How many listed entries a test accepts. -/
def Tab.count {α : Type} (p : Nat → α → Bool) (t : Tab α) : Nat := (t.filter fun e => p e.1 e.2).length

/-- The sum of a measure over the listed entries. -/
def Tab.sum {α : Type} (f : Nat → α → Nat) : Tab α → Nat
  | [] => 0
  | (k, v) :: t => f k v + Tab.sum f t

/-- The smallest number from `lo` on, at most `n` tried, that a test accepts. -/
def firstFrom (p : Nat → Bool) (lo : Nat) : Nat → Option Nat
  | 0 => none
  | n + 1 => if p lo then some lo else firstFrom p (lo + 1) n

/-- Bits `[lo + w - 1 : lo]` of a number. -/
def bits (x lo w : Nat) : Nat := x / 2 ^ lo % 2 ^ w

/-- One bit of a number. -/
def bit (x i : Nat) : Bool := x / 2 ^ i % 2 = 1

/-- 1 for true and 0 for false. -/
def b2n (b : Bool) : Nat := if b then 1 else 0

/-- The sum, held at the largest `w`-bit number. -/
def satAdd (w a b : Nat) : Nat := min (a + b) (2 ^ w - 1)

/-- The sum modulo `2 ^ w`. -/
def wrapAdd (w a b : Nat) : Nat := (a + b) % 2 ^ w

/-- Division rounded up. -/
def ceilDiv (a b : Nat) : Nat := (a + b - 1) / b

end Sys2Proof
end

