-- ==== Sys2Proof/Syntax.lean ====
section
/-!
DEFINITION. The commands of the block: one constructor per row of spec/opcode_table.json. An operand is what the
surroundings decide: the fields of a host's request, a measured value, a result of the media or of host memory.
-/

namespace Sys2Proof

/-- Zone Send Actions (R43). -/
inductive ZAct where
  | close
  | finish
  | open_
  | reset
  | offline
  | setZde
  deriving DecidableEq, Repr

/-- I/O command opcodes intake tells apart (R43, R78 check 1). -/
inductive Opc where
  | read
  | write
  | writeZeroes
  | append
  | dsm
  | flush
  | zoneSend
  | zoneRecv
  | resRegister
  | resAcquire
  | resRelease
  | resReport
  | ioMgmtSend
  | ioMgmtRecv
  | fixity
  /-- Commands of an admin queue: an Asynchronous Event Request, an Abort, any other. -/
  | aer
  | abort
  | admin
  | unsupported
  deriving DecidableEq, Repr

/-- Protection information of a namespace (R33, Table 2.2): its type (0 none, 1 or 3), a 64-bit guard (else a 16-bit
one), in the first bytes of the host metadata (else the last). -/
structure PiFormat where
  kind : Nat := 0
  guard64 : Bool := false
  first : Bool := false
  deriving DecidableEq, Repr

/-- What the Sieve's verify-after-match meets at a lookup (R122 to R124): nothing, a false hit that the repeat confirms or
does not, a shadow copy's error that SECDED corrects or does not. -/
inductive FalseHit where
  | none_
  | transient (pos : Nat)
  | lasting (pos : Nat)
  | corrected (pos : Nat)
  | uncorrectable (pos : Nat)
  deriving DecidableEq, Repr

/-- A submission queue entry, with the data buffer it points to. -/
structure HostCmd where
  cid : Nat := 0
  opc : Opc := .read
  nsid : Nat := 1
  slba : Nat := 0
  /-- Blocks (the count, not the count less one). -/
  nlb : Nat := 1
  /-- One number for each block: its 4,096 bytes with its host metadata. -/
  data : List Nat := []
  /-- Ranges of a Dataset Management: SLBA and blocks. -/
  ranges : List (Nat × Nat) := []
  dealloc : Bool := false
  selectAll : Bool := false
  zact : ZAct := .open_
  /-- The 64 bytes of a zone descriptor extension, as a number. -/
  zde : Nat := 0
  /-- Data placement directive: reclaim group and placement handle. -/
  directive : Option (Nat × Nat) := none
  /-- Key tag of a Key Per I/O namespace. -/
  keyTag : Option Nat := none
  /-- PRINFO (R217, R218): PRACT in bit 3, the checks of guard, application and reference tag in bits 2 to 0. -/
  prinfo : Nat := 0
  /-- ILBRT, LBAT and the mask of LBAT. -/
  ilbrt : Nat := 0
  lbat : Nat := 0
  lbatMask : Nat := 0xFFFF
  /-- Other command fields, in the order the row's rule names them. -/
  args : List Nat := []
  /-- Data length in bytes of a command other than Read, Write and Zone Append. -/
  bytes : Nat := 0
  /-- The 4 KiB pages of host memory that its data buffer touches, by page number (R386). -/
  pages : List Nat := []
  /-- What the Sieve's lookups for it meet when its row makes them. -/
  hit : FalseHit := .none_
  /-- Every reserved field is 0 and every field has a defined value. -/
  fieldsOk : Bool := true
  deriving DecidableEq, Repr

/-- Where a word crosses the fabric: a Switch segment between two ports (R22), or the bridge of a clock domain in a
direction (R28). -/
inductive WordAt where
  | segment (seg src dst : Nat)
  | bridge (domain dir : Nat)
  deriving DecidableEq, Repr

/-- The resource record of Instance Resources Set (Table 13.6), with its fields' raw values. -/
structure ResRec where
  instNo : Nat := 0
  valid : Nat := 0
  weight : Nat := 16
  sieve : Nat := 0
  nrQuota : Nat := 0
  nrShare : Nat := 0
  fwQuota : Nat := 0
  fwShare : Nat := 0
  keySlots : Nat := 0
  flags : Nat := 0
  dieSets : List Nat := []
  /-- The bytes the table gives as zero are zero. -/
  zerosOk : Bool := true
  deriving DecidableEq, Repr

/-- A queue in host memory: its entries, its base address, whether it is physically contiguous. -/
structure QMem where
  size : Nat := 2
  base : Nat := 0
  pc : Bool := true
  deriving DecidableEq, Repr

/-- A queue pair of a state record (Table 13.11). -/
structure QPair where
  sq : Nat := 0
  cq : Nat := 0
  sqBase : Nat := 0
  cqBase : Nat := 0
  pc : Bool := true
  sqSize : Nat := 0
  cqSize : Nat := 0
  sqHead : Nat := 0
  sqTail : Nat := 0
  cqTail : Nat := 0
  cqHead : Nat := 0
  vector : Nat := 0
  phase : Bool := true
  ien : Bool := true
  prio : Nat := 0
  deriving DecidableEq, Repr

/-- An instance state record (Table 13.11). -/
structure InstRec where
  /-- Header: "CZIS" in byte order, the part and the firmware it comes from, its source instance. -/
  magic : Nat := 0x53495A43
  part : Nat := 0x1024
  fw : Nat := 0x32
  source : Nat := 0
  /-- The CRC-32C at its end. -/
  crc : Nat := 0
  /-- CC.AMS = 001b. -/
  wrr : Bool := false
  arbitration : Nat := 0
  powerFeature : Nat := 0
  coalescing : Nat := 0
  asyncConfig : Nat := 0
  apstOn : Bool := false
  apst : List (Nat × Nat) := []
  hostId : Nat := 0
  resMask : List (Nat × Nat) := []
  /-- Feature 0x13 of each controlled set: set, enabled, events. -/
  plm : List (Nat × Bool × Nat) := []
  /-- Namespaces whose Feature 0x83 holds PTPL = 1. -/
  ptpl : List Nat := []
  queues : List QPair := []
  nsids : List Nat := []
  aers : List Nat := []
  events : List (Nat × Nat × Nat) := []
  deriving DecidableEq, Repr

/-- A Glaze descriptor (Table 9.3). -/
structure GDesc where
  op : Nat := 1
  urgent : Bool := false
  hash : Bool := false
  slotA : Nat := 0
  genA : Nat := 0
  slotB : Nat := 0
  genB : Nat := 0
  /-- OWNER: tag or job number, generation, instance, internal job. -/
  tag : Nat := 0
  gen : Nat := 0
  inst : Nat := 0
  internal : Bool := false
  units : Nat := 1
  hashLane : Nat := 0
  /-- Hamper addresses of the first source and destination units. -/
  src : Nat := 0
  dst : Nat := 0
  nsid : Nat := 0
  lba : Nat := 0
  wseq : Nat := 0
  /-- The Hamper parity of its input is right (Table 9.5, INVALID). -/
  parityOk : Bool := true
  deriving DecidableEq, Repr


/-- The columns of a locking range that a Set gives (R289, R293). -/
structure LockSet where
  lo : Nat := 0
  hi : Nat := 0
  readLockEnabled : Bool := false
  writeLockEnabled : Bool := false
  readLocked : Bool := false
  writeLocked : Bool := false
  /-- LockOnReset: Power Cycle, Hot Reset. -/
  lockOnCycle : Bool := false
  lockOnReset : Bool := false
  authority : Option Nat := none
  deriving DecidableEq, Repr

/-- Who asks for an operation on a Hamper unit (R314, R316): its owner kind (Table 10.2) and the source code of its block
(Table 17.3). `glitch`: the first check of a request that the repeat accepts is disturbed. -/
structure Requester where
  kind : Nat := 1
  source : Nat := 0x1A0
  glitch : Bool := false
  deriving DecidableEq, Repr

/-- A word of an SRAM macro group, and the Near Hamper unit whose data it is part of (R234, R317). -/
structure SramWord where
  word : Nat := 0
  unit : Option Nat := none
  deriving DecidableEq, Repr

/-- A DRAM request: one 64-byte burst on one subchannel (R326, R329, R331, R332, R337). -/
structure DramReq where
  /-- The requester's number for its answer. -/
  id : Nat := 0
  write : Bool := false
  /-- Burst address on the subchannel, in 64-byte units. -/
  addr : Nat := 0
  bank : Nat := 0
  row : Nat := 0
  /-- The 64 bytes of a write, as a number. -/
  data : Nat := 0
  poison : Bool := false
  /-- Shorter than 64 bytes: a read-modify-write. -/
  part : Bool := false
  /-- Page hint close-after. -/
  closeAfter : Bool := false
  /-- Requester class privileged (Table 11.5). -/
  priv : Bool := false
  /-- The requester is the Trail writer (R338). -/
  trail : Bool := false
  /-- The write-back of a corrected burst. -/
  writeBack : Bool := false
  /-- The Hamper unit whose data the burst is part of (R317), or the table page (R339). -/
  unit : Option Nat := none
  page : Option Nat := none
  deriving DecidableEq, Repr

/-- The conversions of a housekeeping round (Table 16.1). -/
structure AdcRound where
  /-- What the four reference channels and the self-check read, as deviation from nominal in 0.1 % (R432). -/
  refs : List Int := []
  check : Int := 0
  /-- Current of each domain in mA, domain 0 first (R433). -/
  currents : List Nat := []
  /-- The nine rails in mV, in the order of Table 20.2. -/
  rails : List Nat := []
  /-- The setpoint as AVSBus reads it back in the round, in mV (Table 15.8). -/
  readback : Nat := 750
  /-- Diodes 0 and 1, in 1/8 °C. -/
  diode0 : Int := 0
  diode1 : Int := 0
  /-- Ring monitors, two per Bay, in 1/8 °C. -/
  rings : List Int := []
  deriving DecidableEq, Repr

/-- A round is accepted: references and self-check read within 1 % of nominal (R432). -/
def AdcRound.ok (a : AdcRound) : Bool := (a.check :: a.refs).all fun d => decide (d.natAbs ≤ 10)

/-- How the AVSBus target answers a setpoint change (R426): with the action taken and a readback in mV, with nothing, with
a wrong CRC, with another acknowledgement. -/
inductive AvsAnswer where
  | readback (mv : Nat)
  | nothing
  | badCrc
  | refused
  deriving DecidableEq, Repr

/-- Parts of a function's configuration space that the spec gives an effect. -/
inductive PField where
  /-- Bus Master Enable and Memory Space Enable. -/
  | command (master mem : Bool)
  /-- PMCSR: D-state and PME_En. -/
  | power (d : Nat) (pme : Bool)
  | ltr (on : Bool)
  /-- LTR maxima in microseconds. -/
  | ltrMax (snoop noSnoop : Nat)
  | readSize (mrrs : Nat)
  | tenBitTags (on : Bool)
  | relaxed (on : Bool)
  | tph (on : Bool)
  | aspm (l1 l11 l12 : Bool)
  | l12Threshold (us : Nat)
  | l0p (on : Bool)
  /-- Selective IDE Stream Enable and the Stream ID (R359). -/
  | ide (on : Bool) (stream : Nat)
  /-- The mask bit of an MSI-X table entry (R348); the table lies in BAR4/5. -/
  | msixMask (vector : Nat) (on : Bool)
  /-- The steering tag of an MSI-X table entry (R349). -/
  | msixSteer (vector tag : Nat)
  /-- Read-only: TotalVFs, First VF Offset, VF Stride (R345). -/
  | sriov
  /-- Read-only: the sizes of the three BARs in bytes (Table 12.3). -/
  | barSizes
  /-- Read-only: the MSI-X Table Size field (R347). -/
  | msixSize
  /-- Read-only: L1 exit latency, T_POWER_ON and Common Mode Restore Time in microseconds (R352). -/
  | l1Advert
  /-- Initiate Function Level Reset. -/
  | flr
  /-- Any other dword, by its index. -/
  | dword (idx : Nat)
  deriving DecidableEq, Repr

/-- A die found at discovery (R34, R135, R136, Table 2.3). -/
structure DieSpec where
  name : Nat := 0
  /-- Geometry: planes, blocks of 4 KiB in a program unit, wordlines, blocks per plane. -/
  planes : Nat := 4
  unitBlocks : Nat := 64
  wordlines : Nat := 768
  blocksPerPlane : Nat := 2232
  /-- Its target was ready within 10 ms, and it does not answer in Toggle mode only (Tables 5.1 and 5.4). -/
  ready : Bool := true
  onfi : Bool := true
  /-- Features of Table 5.2: per-block SLC mode, page of user data and spare bytes, multi-plane operations, split program,
  suspends of an erase, offset sets for read-retry, soft bits, sensor accuracy in °C, copies of a parameter page with a
  valid CRC, pass and fail status. -/
  slcMode : Bool := true
  pageUser : Nat := 16384
  pageSpare : Nat := 1872
  multiPlane : Bool := true
  splitProgram : Bool := true
  suspends : Nat := 8
  retrySets : Nat := 16
  softBits : Nat := 2
  sensor : Nat := 3
  paramCopies : Nat := 2
  status : Bool := true
  /-- Timing of Table 5.3 in microseconds: QLC read, SLC read, QLC pass, SLC program, erase, suspend, resume. -/
  tRead : Nat := 60
  tSlcRead : Nat := 25
  tPass : Nat := 1450
  tSlcProgram : Nat := 200
  tErase : Nat := 4000
  tSuspend : Nat := 50
  tResume : Nat := 10
  /-- Signature and maximum-rate code of the capability block of its parameter page (R139). -/
  capSignature : List Nat := []
  capRate : Nat := 0
  /-- Smallest eye margin of a bit in the training at 4,800 MT/s, percent of the unit interval (R139). -/
  margin : Nat := 0
  /-- ONFI rates its target passes in training, and rates at which its read check fails (Table 5.4, steps 3 and 5). -/
  trains : List Nat := [1600, 2400, 3200, 3600]
  checkFails : List Nat := []
  deriving DecidableEq, Repr

/-- What a die returns with a read (R152, R219): the largest corrected-bit count, the read-retry step that decoded, and how
often a recomputed guard did not match. -/
structure ReadReturn where
  cbc : Nat := 0
  retry : Nat := 1
  guardMisses : Nat := 0
  deriving DecidableEq, Repr

/-- One read of a codeword by a verify (Table 6.5): decode path (0 hard, 1 to 16 a retry step, 17 soft), corrected bits,
page tag as recorded, trailer as written, protection information guard. -/
structure CodewordRead where
  path : Nat := 0
  cbc : Nat := 0
  tagOk : Bool := true
  trailerOk : Bool := true
  guardOk : Bool := true
  deriving DecidableEq, Repr

/-- The codeword of a verify that stood worst, read once and, where that failed, once more (R179). -/
structure VerifyReads where
  first : CodewordRead := {}
  second : CodewordRead := {}
  deriving DecidableEq, Repr

/-- A section of a firmware image: where it lies, its length, the SHA-384 that the header names (Table 19.9). -/
structure Section where
  offset : Nat := 512
  length : Nat := 0
  digest : Nat := 0
  deriving DecidableEq, Repr

/-- A firmware image header (Table 19.9). -/
structure FwHeader where
  /-- "CZPH", in byte order. -/
  magic : List Nat := [0x43, 0x5A, 0x50, 0x48]
  format : Nat := 1
  part : Nat := 0x1024
  steppings : Nat := 2
  release : Nat := 0x32
  length : Nat := 33554432
  rollback : Nat := 0
  flags : Nat := 0
  build : Nat := 0
  cfgFormat : Nat := 1
  /-- The steward overlay and the control firmware. -/
  overlay : Section := {}
  control : Section := {}
  crc : Nat := 0
  deriving DecidableEq, Repr

/-- A configuration image header (Table 18.4). -/
structure CfgHeader where
  /-- "CZCF", in byte order. -/
  magic : List Nat := [0x43, 0x5A, 0x43, 0x46]
  format : Nat := 1
  part : Nat := 0x1024
  steppings : Nat := 2
  fwMin : Nat := 0x32
  length : Nat := 4352
  rollback : Nat := 0
  imageSeq : Nat := 0
  records : Nat := 0
  bodyLen : Nat := 0
  /-- BODY_DIGEST. -/
  digest : Nat := 0
  module : Nat := 0
  crc : Nat := 0
  deriving DecidableEq, Repr

/-- The SIGNER record of a signature block (Table 19.10). -/
structure Signer where
  ecdsa : Nat := 0
  lms : Nat := 0
  validFrom : Nat := 0
  validTo : Nat := 0
  usage : Nat := 0
  id : Nat := 0
  deriving DecidableEq, Repr

/-- A signature block (Table 19.10). -/
structure SigBlock where
  /-- "CZSG", in byte order. -/
  magic : List Nat := [0x43, 0x5A, 0x53, 0x47]
  format : Nat := 1
  rootEcdsa : Nat := 0
  rootLms : Nat := 0
  signer : Signer := {}
  rootEcdsaSig : Nat := 0
  rootLmsSig : Nat := 0
  imageEcdsaSig : Nat := 0
  imageLmsSig : Nat := 0
  deriving DecidableEq, Repr

/-- What the check of an image's chain reads (R468, R491): its signature block, M, which is SHA-384 over every byte before it,
and the SHA-384 of each section, or of the body, as received. -/
structure Chain where
  block : SigBlock := {}
  m : Nat := 0
  parts : List Nat := []
  deriving DecidableEq, Repr

/-- A configuration field record (R467): ID, INDEX, VALUE. -/
structure CfgRec where
  id : Nat := 0
  idx : Nat := 0
  value : Nat := 0
  deriving DecidableEq, Repr

/-- What the surroundings give a start-up (Tables 5.4, 8.9, 11.3, 19.2, 20.8). -/
structure BootInfo where
  /-- Straps, sampled at a cold power-on only: dual-port, spread spectrum, the two test straps. -/
  dualPort : Bool := false
  ssc : Bool := false
  test : Nat := 0
  /-- SVC_RXD held low from before the zero point until 100 ms after it. -/
  svcLow : Bool := false
  pwrfailLow : Bool := false
  pwrdisHigh : Bool := false
  /-- The OTP integrity check and the steward's checkers pass. -/
  otpOk : Bool := true
  checkersOk : Bool := true
  /-- Boot Area dies (channels 0 to 3) that fail. -/
  bootDead : List Nat := []
  /-- Firmware slots (1 and 2) and configuration slots (0 and 1) that no copy gives as they were written, so that their digests
  fail. -/
  fwBad : List Nat := []
  cfgBad : List Nat := []
  /-- Key store copies (0 to 3) whose records fail KW integrity (R290). -/
  keyStoreBad : List Nat := []
  /-- Control clusters that pass. -/
  clusters : Nat := 4
  /-- Other checkers that fail their test before their domain's first use, by kind and index (R238, Table 7.10). -/
  checkersBad : List (Nat × Nat) := []
  /-- Sieve positions that fail the array self-test of a cold power-on (R126). -/
  sieveBad : List Nat := []
  /-- The DRAM rates in MT/s at which every subchannel trains (R322, R323). -/
  dramTrains : List Nat := [8800, 8000, 7200, 6400, 5600, 4800]
  dies : List DieSpec := []
  /-- Dump units that neither the dump nor the media give: namespace and LBA (R264). -/
  dumpLost : List (Nat × Nat) := []
  /-- No dump header copy is readable. -/
  headerLost : Bool := false
  /-- Ends of steps 1 to 10 in microseconds from the zero point (Table 19.5). -/
  stepEnds : List Nat := []
  deriving DecidableEq, Repr
/-- The commands, in the order of spec/opcode_table.json. -/
inductive Instr where
  /-- REGISTER_WRITE (R6): A write to a BAR2 or tenant register field that has no row of its own is applied according to its access type and kind. -/
  | registerWrite (inst offset value : Nat)
  /-- SWITCH_WORD_DISCARD (R22): A receiver discards a Switch word that carries an invalid code or a parity error and reports it. -/
  | switchWordDiscard (w : WordAt)
  /-- HANDSHAKE_WATCHDOG_EXPIRY (R22): A handshake cycle that has not finished within 64 handshake periods is discarded and reported. -/
  | handshakeWatchdogExpiry (w : WordAt)
  /-- SWITCH_RETRANSMIT_RESULT (R23): A retransmitted word ends as a transient Notice, or as a lasting segment fault that reroutes to the other half, or as a removed port. -/
  | switchRetransmitResult (w : WordAt) (second third : Bool) (tags : List Nat)
  /-- GLOBAL_OP_STALL_RELEASE (R21): An issuer stalled by 64 outstanding global operations issues once the oldest completes at the root. -/
  | globalOpStallRelease
  /-- ISLAND_CLOCK_STOP (R29): A clocked island stops its clock once both of its bridge FIFOs are empty. -/
  | islandClockStop (domain inWords outWords : Nat)
  /-- ISLAND_CLOCK_RESTART (R29): An interior request held at the bridge of a stopped island restarts the island. -/
  | islandClockRestart (domain : Nat)
  /-- SQ_DOORBELL_WRITE (R69): A submission queue tail doorbell write is checked and passed to intake as a notice, or ignored with an asynchronous event. -/
  | sqDoorbellWrite (inst qid tail : Nat)
  /-- CQ_DOORBELL_WRITE (R69): A completion queue head doorbell write is checked and applied, or ignored with an asynchronous event. -/
  | cqDoorbellWrite (inst qid head : Nat)
  /-- COMMAND_FETCH (R73): Intake reserves a completion queue slot and a tag, fetches the head entry of a queue and stages it. -/
  | commandFetch (inst sq : Nat) (c : HostCmd)
  /-- DRR_ROUND_START (R71): A Class B deficit round begins and adds each eligible instance's quantum to its deficit counter. -/
  | drrRoundStart
  /-- ADMISSION (R78): A staged command that holds all its resources passes the zone checks, advances the write pointer, inserts its Sieve entries and allocates Hamper units in one indivisible step. -/
  | admission (tag : Nat) (hit : FalseHit)
  /-- WRITE_DATA_IN_FAR_HAMPER (R241): All of a write's data has arrived in Far Hamper, so it counts as exposure, its completion can be posted and forwarded reads waiting on it proceed. -/
  | writeDataInFarHamper (tag pi : Nat)
  /-- COMPLETION_POST (R91): A finished command enters the completion-post stage under its tag lock and posts its entry exactly once, releasing held zone completions in admission order. -/
  | completionPost (tag : Nat)
  /-- INTERRUPT_COALESCING_EXPIRY (R93): A completion queue's aggregation time expires and its interrupt is signalled. -/
  | interruptCoalescingExpiry (inst cq : Nat)
  /-- THROTTLE_MESSAGE (R81): A throttle factor f and power factor g arrive from the steward and apply from the next admission. -/
  | throttleMessage (f g : Nat)
  /-- THROTTLE_TIMEOUT (R82): No throttle message has arrived for 30 ms, so intake applies f = 25 % and reports a Degraded fault. -/
  | throttleTimeout
  /-- WRITE (R43): A Write command is admitted and changes zone state and write pointer, or writes a conventional range. -/
  | write (inst sq : Nat) (c : HostCmd)
  /-- WRITE_ZEROES (R43): A Write Zeroes command writes zeros as a write to a zone or conventional range. -/
  | writeZeroes (inst sq : Nat) (c : HostCmd)
  /-- ZONE_APPEND (R43): A Zone Append writes at the zone's write pointer and returns the assigned LBA. -/
  | zoneAppend (inst sq : Nat) (c : HostCmd)
  /-- READ (R85): A Read returns each block from the last earlier-admitted write covering it, or from media as mapped. -/
  | read (inst sq : Nat) (c : HostCmd)
  /-- DATASET_MANAGEMENT (R84): Dataset Management deallocates conventional ranges as writes and changes nothing in zoned namespaces. -/
  | datasetManagement (inst sq : Nat) (c : HostCmd)
  /-- FLUSH (R90): A Flush completes once every earlier-admitted write to its namespace or namespaces has posted. -/
  | flush (inst sq : Nat) (c : HostCmd)
  /-- ZONE_OPEN (R43): Zone Management Send Open makes a zone explicitly opened, or opens zones in ZSLBA order with Select All. -/
  | zoneOpen (inst sq : Nat) (c : HostCmd)
  /-- ZONE_CLOSE (R43): Zone Management Send Close moves open zones to ZSC. -/
  | zoneClose (inst sq : Nat) (c : HostCmd)
  /-- ZONE_FINISH (R44): Zone Management Send Finish pads each die and writes the trailer, moving the zone to ZSF. -/
  | zoneFinish (inst sq : Nat) (c : HostCmd)
  /-- ZONE_RESET (R45): Zone Management Send Reset empties a zone, clears its attributes and digest, abandons any Refire and frees the row for erase. -/
  | zoneReset (inst sq : Nat) (c : HostCmd)
  /-- ZONE_OFFLINE (R43): Zone Management Send Offline moves a ZSRO zone to ZSO. -/
  | zoneOffline (inst sq : Nat) (c : HostCmd)
  /-- SET_ZONE_DESCRIPTOR_EXTENSION (R43): Set Zone Descriptor Extension binds an empty zone in ZSC and sets ZDEV. -/
  | setZoneDescriptorExtension (inst sq : Nat) (c : HostCmd)
  /-- ZONE_MANAGEMENT_RECEIVE (R128): Zone Management Receive returns zone descriptors and extensions. -/
  | zoneManagementReceive (inst sq : Nat) (c : HostCmd)
  /-- ZONE_ROW_RELEASE (R131): After earlier reads of a reset zone have been removed and its admitted programs have finished, the old row is released for erase. -/
  | zoneRowRelease (group row : Nat)
  /-- ZONE_FZR_AGE_REACHED (R55): An active zone passes CFG_ZONE_FZR_AGE and has Finish Zone Recommended set and reported. -/
  | zoneFzrAgeReached (nsid zone : Nat)
  /-- ZONE_FINISH_AGE_REACHED (R55): An active zone passes CFG_ZONE_FINISH_AGE and is finished by the controller with ZFC set. -/
  | zoneFinishAgeReached (nsid zone : Nat)
  /-- NAMESPACE_MANAGEMENT_CREATE (R32): A Namespace Management create makes a zoned or conventional namespace in a die set, or is refused. -/
  | namespaceManagementCreate (inst cid : Nat) (zoned kpio : Bool) (set size lbaf : Nat) (pi : PiFormat) (handles : List Nat)
  /-- NAMESPACE_MANAGEMENT_DELETE (R77): A Namespace Management delete waits for the namespace to be idle and removes it. -/
  | namespaceManagementDelete (inst cid nsid : Nat)
  /-- FORMAT_NVM (R33): Format NVM sets an LBA format, with crypto erase when SES = 010b. -/
  | formatNvm (inst cid nsid lbaf : Nat) (pi : PiFormat) (ses : Nat)
  /-- SANITIZE_CRYPTO_ERASE (R291): Sanitize Crypto Erase replaces the MEKs and erases the old key store. -/
  | sanitizeCryptoErase (inst cid : Nat)
  /-- CAPACITY_MANAGEMENT_SELECT (R37): Capacity Management Select Capacity Configuration installs a configuration of die sets, or is refused. -/
  | capacityManagementSelect (inst cid config : Nat)
  /-- NAMESPACE_ATTACHMENT (R369): Namespace Attachment attaches or detaches a namespace for instances, checked against their die sets. -/
  | namespaceAttachment (inst cid nsid : Nat) (attach : Bool) (targets : List Nat)
  /-- IDENTIFY (R32): Identify returns the controller, namespace or secondary controller data structure. -/
  | identify (inst cid cns nsid : Nat)
  /-- GET_FEATURES (R106): Get Features returns the value of a feature. -/
  | getFeatures (inst cid fid nsid : Nat)
  /-- SET_FEATURES_ARBITRATION (R72): Set Features 0x01 sets the arbitration burst and priority weights of the instance. -/
  | setFeaturesArbitration (inst cid value : Nat)
  /-- SET_FEATURES_POWER_MANAGEMENT (R102): Set Features 0x02 selects a power state, changing g at once or entering PS3 or PS4 once intake is idle. -/
  | setFeaturesPowerManagement (inst cid ps : Nat)
  /-- SET_FEATURES_INTERRUPT_COALESCING (R93): Set Features 0x08 sets the aggregation time and threshold of completion queues. -/
  | setFeaturesInterruptCoalescing (inst cid value : Nat)
  /-- SET_FEATURES_APST (R410): Set Features 0x0C configures Autonomous Power State Transition. -/
  | setFeaturesApst (inst cid : Nat) (enable : Bool) (entries : List (Nat × Nat))
  /-- SET_FEATURES_TIMESTAMP (R189): Set Features 0x0E sets the timestamp, and the first one after power-on adds the off interval to the Firing Index and zone ages. -/
  | setFeaturesTimestamp (inst cid value : Nat)
  /-- SET_FEATURES_PLM_CONFIG (R157): Set Features 0x13 enables or disables Predictable Latency Mode for an NVM Set. -/
  | setFeaturesPlmConfig (inst cid set : Nat) (enable : Bool) (events : Nat)
  /-- SET_FEATURES_PLM_WINDOW (R160): Set Features 0x14 selects a deterministic or non-deterministic window for an NVM Set. -/
  | setFeaturesPlmWindow (inst cid set : Nat) (deterministic : Bool)
  /-- SET_FEATURES_FDP (R60): Set Features 0x1D enables or disables Flexible Data Placement on an Endurance Group. -/
  | setFeaturesFdp (inst cid set : Nat) (enable : Bool)
  /-- SET_FEATURES_FDP_EVENTS (R61): Set Features 0x1E selects the FDP events to record. -/
  | setFeaturesFdpEvents (inst cid nsid mask : Nat)
  /-- SET_FEATURES_TEMPERATURE_THRESHOLD (R474): Set Features 0x04 sets the over and under temperature thresholds. -/
  | setFeaturesTemperatureThreshold (inst cid : Nat) (under : Bool) (value : Nat)
  /-- SET_FEATURES_HOST_IDENTIFIER (R360): Set Features 0x81 sets the host identifier that groups instances into one reservation host. -/
  | setFeaturesHostIdentifier (inst cid id : Nat)
  /-- SET_FEATURES_RESERVATION (R362): Set Features 0x82 or 0x83 sets the reservation notification mask or persistence. -/
  | setFeaturesReservation (inst cid fid nsid value : Nat)
  /-- IO_MANAGEMENT_SEND (R61): I/O Management Send Reclaim Unit Handle Update moves placement handles to new reclaim units. -/
  | ioManagementSend (inst sq : Nat) (c : HostCmd)
  /-- IO_MANAGEMENT_RECEIVE (R61): I/O Management Receive returns Reclaim Unit Handle Status. -/
  | ioManagementReceive (inst sq : Nat) (c : HostCmd)
  /-- GET_LOG_PAGE (R209): Get Log Page returns a log page. -/
  | getLogPage (inst cid page lsi : Nat)
  /-- GET_LOG_CHANGED_ZONE_LIST (R56): A read of log 0xBF returns and clears the reading instance's changed zone list. -/
  | getLogChangedZoneList (inst cid nsid : Nat)
  /-- GET_LOG_SMART_HEALTH (R474): A read of log 0x02 returns the drive's SMART/Health fields. -/
  | getLogSmartHealth (inst cid : Nat)
  /-- GET_LOG_ARCHIVE (R475): A read of log 0xC2 returns the Archive page for a die set or the drive. -/
  | getLogArchive (inst cid lsi : Nat)
  /-- GET_LOG_FIXITY_JOB_RESULT (R231): A read of log 0xC4 returns the header and result records of a fixity job. -/
  | getLogFixityJobResult (inst cid job : Nat)
  /-- GET_LOG_PERSISTENT_EVENT (R460): A read of log 0x0D returns Kiln Log records as vendor-specific events within a context. -/
  | getLogPersistentEvent (inst cid action : Nat)
  /-- GET_LOG_TELEMETRY_HOST (R460): A read of log 0x07 returns, or with Create captures, the telemetry areas. -/
  | getLogTelemetryHost (inst cid : Nat) (create : Bool)
  /-- GET_LOG_TELEMETRY_CONTROLLER (R460): A read of log 0x08 returns the telemetry captured at the first Severe message. -/
  | getLogTelemetryController (inst cid : Nat)
  /-- CREATE_IO_SUBMISSION_QUEUE (R68): Create I/O Submission Queue makes a queue within the instance's quota, or is refused. -/
  | createIoSubmissionQueue (inst cid qid cqid : Nat) (mem : QMem) (prio : Nat)
  /-- CREATE_IO_COMPLETION_QUEUE (R68): Create I/O Completion Queue makes a queue within the instance's quota, or is refused. -/
  | createIoCompletionQueue (inst cid qid : Nat) (mem : QMem) (vector : Nat) (ien : Bool)
  /-- DELETE_IO_SUBMISSION_QUEUE (R68): Delete I/O Submission Queue removes a submission queue. -/
  | deleteIoSubmissionQueue (inst cid qid : Nat)
  /-- DELETE_IO_COMPLETION_QUEUE (R68): Delete I/O Completion Queue removes a completion queue, or is refused while a submission queue uses it. -/
  | deleteIoCompletionQueue (inst cid qid : Nat)
  /-- ABORT (R94): Abort looks up its target by tag and generation and aborts it according to the stage the target has reached. -/
  | abort (inst cid sq targetCid outstanding : Nat)
  /-- ASYNCHRONOUS_EVENT_REQUEST (R101): An Asynchronous Event Request is held outstanding until an event is reported. -/
  | asynchronousEventRequest (inst cid : Nat)
  /-- SIEVE_RULE_INSERT (R121): A rule insertion is queued, recorded in the Trail and shifted into place in the rule region. -/
  | sieveRuleInsert (pos lo hi scope prio payload : Nat) (access replace : Bool)
  /-- SIEVE_RULE_REMOVE (R121): A rule removal is queued and the rules above it are moved down. -/
  | sieveRuleRemove (pos : Nat)
  /-- SIEVE_SHIFT_COMPLETE (R120): A background shift reaches its commit step, and the rule change takes effect and completes to its requester. -/
  | sieveShiftComplete
  /-- SIEVE_SHADOW_REWRITE_DONE (R124): After an uncorrectable shadow copy has been rewritten by its owner, the waiting lookup is repeated. -/
  | sieveShadowRewriteDone (pos : Nat)
  /-- SIEVE_SCRUB_STEP (R125): The scrub compares a position's cells with its shadow copy, repairs it or retires it. -/
  | sieveScrubStep (mismatch : Nat)
  /-- SIEVE_DIAG_CAPTURE (R134): A write to SIEVE_DIAG_POS captures the entry at a position, from the cells or the shadow copy. -/
  | sieveDiagCapture (pos src : Nat)
  /-- WALK_SLOT_FREED (R115): A freed walk slot lets a read waiting at the admission point proceed. -/
  | walkSlotFreed
  /-- MAP_UPDATE (R88): Once earlier reads have taken the block, a write's map update is applied unless it is older than the entry. -/
  | mapUpdate (seq : Nat) (hit : FalseHit)
  /-- CHANNEL_RETRAIN (R140): A 4,800 MT/s target is retrained after a 20 °C temperature move or 24 h, and falls back to 3,600 MT/s on failure. -/
  | channelRetrain (channel target : Nat) (ok : Bool)
  /-- DIE_OPERATION_ISSUE (R154): The die scheduler fills a free die slot with the first allowed operation in issue order. -/
  | dieOperationIssue (die glitch : Nat)
  /-- OPERATION_AGING (R154): An operation that has waited more than 50 ms moves to the head of its queue. -/
  | operationAging (die idx : Nat) (long : Bool)
  /-- NAND_READ_COMPLETE (R152): A die read returns with its corrected-bit count, decode path and warning flag. -/
  | nandReadComplete (die : Nat) (r : ReadReturn)
  /-- DECODE_LADDER_STEP (R213): A codeword that fails decode moves to read-retry, soft decode, confirmation or rebuild from parity. -/
  | decodeLadderStep (die step : Nat) (ok : Bool)
  /-- QLC_PASS_COMPLETE (R155): A QLC program pass completes, opening a gap, or with the last pass completes the unit. -/
  | qlcPassComplete (die : Nat) (ok : Bool)
  /-- QLC_NEXT_PASS_START (R144): A unit's next pass starts when the gap's reads are done or no read waits. -/
  | qlcNextPassStart (die : Nat)
  /-- SLC_PROGRAM_COMPLETE (R143): An SLC program completes with a pass or failure status. -/
  | slcProgramComplete (die : Nat) (ok : Bool)
  /-- ERASE_COMPLETE (R171): An erase completes, leaving the block Erased with its count incremented, or Retired. -/
  | eraseComplete (die : Nat) (ok : Bool)
  /-- ERASE_SUSPEND_REQUEST (R145): A suspend is requested for a running erase when a short operation waits and MIN_PROGRESS has passed. -/
  | eraseSuspendRequest (die : Nat)
  /-- ERASE_SUSPEND_COMPLETE (R144): A suspended erase lets a waiting read or SLC program run. -/
  | eraseSuspendComplete (die : Nat)
  /-- ERASE_RESUME (R144): A suspended erase resumes when its short queue is empty or SUSP_HOLD has passed. -/
  | eraseResume (die : Nat) (holdPassed : Bool)
  /-- DETERMINISTIC_WINDOW_ENTERED (R160): Once every die of the set has reached the state a window requires, the window begins and Set Features 0x14 completes. -/
  | deterministicWindowEntered (set : Nat)
  /-- DTWIN_MAX_EXPIRY (R161): A deterministic window that has lasted CFG_PLM_DTWIN_MAX is ended by the controller. -/
  | dtwinMaxExpiry (set : Nat)
  /-- BROWN_OUT_DETECT (R163): A rail below its brown-out threshold for 100 ns closes the Bay's Pulse Gate and holds programs and erases. -/
  | brownOutDetect (bay rail : Nat)
  /-- PULSE_GATE_REOPEN (R164): Both rails above their release levels for 1 ms reopen the gate and issue the held operations. -/
  | pulseGateReopen (bay : Nat)
  /-- DIE_FAILURE (R206): A die that fails to become ready or to answer reset is failed, its group withdrawn and its data rebuilt or lost. -/
  | dieFailure (die : Nat)
  /-- VERIFY_COMPLETE (R179): A zone or row verify ends, writing a VERIFIED record or queueing a Refire for a lasting failure. -/
  | verifyComplete (group row : Nat) (result : VerifyReads) (die plane : Nat)
  /-- BLANKET_RELEASE (R180): Once the verified record is durable, the pool blocks are released or copied to a kept parity row. -/
  | blanketRelease (group row : Nat)
  /-- NAND_TEMPERATURE_SUMMARY (R188): Each second's summary advances every group's Firing Index counter and queues threshold Refires and patrols. -/
  | nandTemperatureSummary (temps : List (Nat × Nat))
  /-- FI_SUMMARY_TIMEOUT (R188): No summary for 5 s makes the controller count missing seconds at the last temperature plus 10 °C and report a fault. -/
  | fiSummaryTimeout (seconds : Nat)
  /-- TIMESTAMP_WAIT_EXPIRY (R189): No Timestamp within 1 h of ready adds nothing for the off time and records FI_OFF_UNKNOWN. -/
  | timestampWaitExpiry
  /-- EARLY_WARNING_CONFIRM (R191): A second read of a warned page either counts the warning as transient or queues the zone with reason early. -/
  | earlyWarningConfirm (nsid zone : Nat) (warned : Bool)
  /-- REFIRE_START (R194): A queued zone is taken, a target row chosen and an internal Sieve entry inserted. -/
  | refireStart (set : Nat)
  /-- REFIRE_TARGET_PROGRAMMED (R194): After the last unit is programmed, the trailer with the old digest is written and the target verified. -/
  | refireTargetProgrammed (job : Nat) (mismatch : Option (List Nat)) (lost : List Nat)
  /-- REFIRE_SWITCH (R194): Once the target is verified, the zone's row binding switches in one map update and the Trail record is written. -/
  | refireSwitch (job : Nat)
  /-- REFIRE_OLD_ROW_RELEASE (R194): The old row and parity are released once the reads latched by the walk have been removed. -/
  | refireOldRowRelease (job : Nat)
  /-- REFIRE_RETRY_TIMER (R197): A zone that failed four targets is queued again for Refire after 1 h. -/
  | refireRetryTimer (nsid zone : Nat)
  /-- RELOCATION_START (R201): Too few free conventional rows start relocation from the victim row. -/
  | relocationStart (nsid : Nat)
  /-- RELOCATION_SWITCH (R202): Once a target row has passed verify, its units' map entries switch unless they have changed since the copy. -/
  | relocationSwitch (job : Nat)
  /-- RELOCATION_RETRY_TIMER (R203): A source that failed four targets is tried again after 1 h. -/
  | relocationRetryTimer (nsid group row : Nat)
  /-- FBE_MM_BLK_CAPTURE (R211): A write to FBE_MM_BLK_SEL captures a block state table entry. -/
  | fbeMmBlkCapture (die plane block : Nat)
  /-- FIXITY_VERIFY (R228): Fixity Verify starts a job over a run of zones and returns its job ID, or completes once the job ends with WAIT. -/
  | fixityVerify (inst sq : Nat) (c : HostCmd)
  /-- FIXITY_CANCEL (R228): Fixity Verify with CANCEL stops the named job at its next zone boundary. -/
  | fixityCancel (inst sq : Nat) (c : HostCmd)
  /-- FIXITY_ZONE_START (R229): A job reaches a zone and acts on its state, starting to read and hash it. -/
  | fixityZoneStart (job : Nat)
  /-- FIXITY_ZONE_DONE (R229): A zone's hash is compared with its trailer and a result record is written, and the job's end raises the event. -/
  | fixityZoneDone (job zone : Nat) (bad : List Nat) (trailerOk : Bool)
  /-- SRAM_CHECK_READ (R233): A check read after a corrected write-back classes the error as transient or lasting and remaps a lasting one. -/
  | sramCheckRead (group word : Nat) (clean : Bool)
  /-- SRAM_UNCORRECTABLE_REREAD (R234): A second read of an uncorrectable word either succeeds or returns the word poisoned. -/
  | sramUncorrectableReread (group : Nat) (word : SramWord) (ok : Bool)
  /-- ECC_SELFTEST_RUN (R238): A write of FLT_ECC_CTRL.RUN starts an on-demand self-test of every checker. -/
  | eccSelftestRun
  /-- ECC_SELFTEST_DONE (R238): The self-test ends, its results are shown and failed checkers take effect once their work drains. -/
  | eccSelftestDone (tested : Nat) (failed : List (Nat × Nat))
  /-- PWRFAIL_ASSERT (R244): PWRFAIL_N held low for 5 µs enters dump mode and asserts DUMP, and a shorter pulse is counted as a glitch. -/
  | pwrfailAssert (ns : Nat)
  /-- DUMP_COMPLETE (R245): The dump-complete marker is programmed, flash activity stops and PWR_LOSS_STATUS is updated. -/
  | dumpComplete
  /-- PWRFAIL_RELEASE_TIMEOUT (R251): PWRFAIL_N high again for 100 ms after a dump causes a controller reset through the power-loss path. -/
  | pwrfailReleaseTimeout
  /-- NORMAL_SHUTDOWN (R253): CC.SHN = 01b stops fetching, drains commands, programs or parks exposure and writes a shutdown checkpoint. -/
  | normalShutdown (inst : Nat)
  /-- ABRUPT_SHUTDOWN (R253): CC.SHN = 10b runs the dump sequence and sets CSTS.SHST. -/
  | abruptShutdown (inst : Nat)
  /-- SHUTDOWN_COMPLETE (R253): Once the shutdown checkpoint is durable, CSTS.SHST = 10b is set. -/
  | shutdownComplete
  /-- TRAIL_FLUSH_START (R255): Every flush interval, when a half reaches 4 MiB, or when a durable fence asks, the filled Trail half is written as segments. -/
  | trailFlushStart
  /-- TRAIL_FLUSH_DURABLE (R255): All segments of a flush have been programmed and its records are durable. -/
  | trailFlushDurable
  /-- CHECKPOINT_START (R258): A checkpoint begins after CFG_TRAIL_CKPT_BYTES or CFG_TRAIL_CKPT_MAX_S, or after a lost flush. -/
  | checkpointStart
  /-- CHECKPOINT_END (R259): A durable CKPT_END releases older segments and pages and ends any Trail hold. -/
  | checkpointEnd
  /-- DUMP_ROW_RELEASE (R243): A dump row whose units are all programmed with parity is released, erased and armed. -/
  | dumpRowRelease (group : Nat)
  /-- GLAZE_DESCRIPTOR_SUBMIT (R274): A descriptor is queued by class and takes a lane, suspending a bulk descriptor if it is urgent. -/
  | glazeDescriptorSubmit (d : GDesc)
  /-- GLAZE_DESCRIPTOR_COMPLETE (R273): A descriptor ends with a result code and its lane takes further work or resumes a context. -/
  | glazeDescriptorComplete (lane : Nat) (auth again rebuilt : Bool) (address : Nat)
  /-- GLAZE_CONTEXT_AGED_RESUME (R277): A context suspended for 100 µs resumes and runs to its end. -/
  | glazeContextAgedResume (lane : Nat)
  /-- KEY_UNWRAP_LOAD (R287): A wrapped key is unwrapped by Glaze and loaded into a slot with a new generation. -/
  | keyUnwrapLoad (nsid range : Nat) (halvesDiffer : Bool)
  /-- KEY_SLOT_UNLOAD (R288): An unload or lock moves a slot to Draining. -/
  | keySlotUnload (slot reason : Nat)
  /-- KEY_SLOT_DRAINED (R288): Once the last accepted descriptor of a draining slot has ended, its key is cleared. -/
  | keySlotDrained (slot : Nat)
  /-- OPAL_AUTHENTICATE (R289): An Opal authority authenticates, and the MEKs it guards are unwrapped and loaded. -/
  | opalAuthenticate (authority credential : Nat)
  /-- OPAL_SET_CREDENTIAL (R289): An authority's credential changes and the MEKs it guards are rewrapped. -/
  | opalSetCredential (authority credential : Nat)
  /-- OPAL_SET_LOCKING (R293): A locking range is configured, locked or unlocked. -/
  | opalSetLocking (nsid range : Nat) (x : LockSet)
  /-- OPAL_GENKEY (R291): GenKey or Revert crypto-erases ranges by generating new MEKs. -/
  | opalGenkey (nsid range : Nat) (revert : Bool)
  /-- KEY_TAG_INJECT (R294): The host injects a Key Per I/O key for a key tag into a slot. -/
  | keyTagInject (inst nsid tag under key : Nat) (halvesDiffer : Bool)
  /-- KEY_TAG_CLEAR (R294): Clearing a key tag drains its slot. -/
  | keyTagClear (nsid tag : Nat)
  /-- SEALED_WAIT_WARNING (R270): Each hour that sealed Refires or relocations wait for an MEK, a Warning is written. -/
  | sealedWaitWarning (nsid : Nat)
  /-- ENTROPY_HEALTH_FAIL (R292): An entropy health test failure stops key generation and raises a Severe fault. -/
  | entropyHealthFail
  /-- GLAZE_ALARM (R298): A qualified alarm source asserts ZEROIZE and every key slot, root key and context is zeroized. -/
  | glazeAlarm (code : Nat)
  /-- ALARM_RECOVERY (R300): After a Severe alarm has been absent for CFG_GLZ_RECOVER_MS, the keys are derived and loaded again. -/
  | alarmRecovery (otpOk : Bool)
  /-- OTP_INTEGRITY_RECHECK (R507): Every second the OTP rows are checked, and a failure is a Grave fault. -/
  | otpIntegrityRecheck (ok : Bool)
  /-- HAMPER_ALLOCATE (R310): A pool meets a unit request in full from the head of its free list, serving internal pools first come first served. -/
  | hamperAllocate (pool kind id need : Nat)
  /-- HAMPER_HAND (R314): The owner of a unit hands it to a new owner. -/
  | hamperHand (unit : Nat) (kind : Requester) (id toKind toId : Nat)
  /-- HAMPER_CLAIM (R314): An engine takes a claim on a unit, or is refused. -/
  | hamperClaim (unit : Nat)
  /-- HAMPER_DROP (R314): A claimant drops its claim, freeing a released unit on the last drop. -/
  | hamperDrop (unit : Nat) (kind : Requester)
  /-- HAMPER_RELEASE (R314): The owner releases a unit, which is freed or waits for its claims. -/
  | hamperRelease (unit : Nat) (kind : Requester) (id : Nat)
  /-- POOL_WAIT_NOTICE (R310): A pool request at the head that has waited 100 ms is reported as a Notice. -/
  | poolWaitNotice (pool : Nat)
  /-- FREE_LIST_REBUILD (R317): An uncorrectable state word stops allocation and the pool's free list is rebuilt. -/
  | freeListRebuild (pool unit : Nat)
  /-- FREE_LIST_REBUILD_DONE (R317): The rebuild ends and the pool resumes allocating. -/
  | freeListRebuildDone (pool : Nat)
  /-- DRAM_REQUEST_ARRIVAL (R331): A DRAM request is queued, answered from a queued write or merged into one. -/
  | dramRequestArrival (chan sub : Nat) (req : DramReq)
  /-- DRAM_REQUEST_ISSUE (R327): A bank's next request is chosen by refresh, age cap, row hit and write-drain rules and issued. -/
  | dramRequestIssue (chan sub bank : Nat)
  /-- DRAM_READ_RETURN (R337): Returned burst data is corrected, retried or poisoned according to its requester class. -/
  | dramReadReturn (chan sub id outcome again : Nat)
  /-- REFRESH_DUE (R330): A refresh interval elapses and REFsb is issued, postponed or forced. -/
  | refreshDue (chan sub bankIdx : Nat)
  /-- ZQ_CALIBRATION_TIMER (R324): Every 128 ms ZQ calibration is issued. -/
  | zqCalibrationTimer
  /-- DQS_OSCILLATOR_CHECK (R324): Every 100 ms a subchannel whose oscillator drifted by more than 3 % is retrained. -/
  | dqsOscillatorCheck (chan sub : Nat) (drifted : Bool)
  /-- CA_PARITY_ALERT (R333): ALERT_n stops issue and the retry buffer is replayed, with retraining or fallback on repeated failure. -/
  | caParityAlert (chan sub outcome rate : Nat)
  /-- DRAM_SCRUB_STEP (R340): The scrubber reads a burst, correcting it or writing its poison flag. -/
  | dramScrubStep (chan sub addr outcome : Nat)
  /-- PERST_ASSERT (R356): A PERST assertion drains and resets the controller in ×16 mode, or resets the port's functions in dual-port mode. -/
  | perstAssert (port ns : Nat)
  /-- PERST_RELEASE (R355): Release of PERST starts link detection and training. -/
  | perstRelease (port : Nat)
  /-- LINK_UP (R355): Training reaches the highest common rate and Configuration Requests get Retry Status until ready. -/
  | linkUp (port rate width : Nat)
  /-- ASPM_L1_ENTRY (R352): After CFG_PCIE_L1_IDLE_US of idleness the port requests L1 and its substates. -/
  | aspmL1Entry (port sub : Nat)
  /-- L0P_NARROW (R353): Traffic below 40 % of the narrower width for 1 ms makes the port request half width. -/
  | l0pNarrow (port : Nat)
  /-- L0P_WIDEN (R353): Traffic above 80 % over 10 µs makes the port request full width. -/
  | l0pWiden (port : Nat)
  /-- PCIE_READ_ERROR (R351): A failed read of host memory is reported through AER and ends its command with Data Transfer Error. -/
  | pcieReadError (tag aer : Nat)
  /-- MSIX_VECTOR_UNMASK (R348): Unmasking a vector sends the message pending in its PBA bit. -/
  | msixVectorUnmask (inst vector : Nat)
  /-- WAKE_N_ASSERT (R354): WAKE_N is asserted while a function with PME_En in D3hot has an event to report, and released at L0. -/
  | wakeNAssert (inst : Nat)
  /-- DOE_OBJECT (R357): A DOE data object is carried to the steward and its response returned. -/
  | doeObject (inst : Nat) (object : List Nat)
  /-- DOE_ABORT (R357): A DOE Abort ends the object in progress within 1 ms. -/
  | doeAbort (inst : Nat)
  /-- SPDM_GET_MEASUREMENTS (R358): GET_MEASUREMENTS returns the six signed measurement blocks. -/
  | spdmGetMeasurements (inst nonce : Nat)
  /-- SPDM_REQUEST (R357): Another SPDM request is answered by the steward within 1 s. -/
  | spdmRequest (inst code session : Nat) (body : List Nat)
  /-- IDE_KM_REQUEST (R359): An IDE_KM message queries, programs, starts or stops IDE keys. -/
  | ideKmRequest (session op stream keySet dir key : Nat)
  /-- RESERVATION_REGISTER (R360): Reservation Register adds, replaces or removes a registrant of a namespace. -/
  | reservationRegister (inst sq : Nat) (c : HostCmd)
  /-- RESERVATION_ACQUIRE (R361): Reservation Acquire takes, preempts or preempts and aborts a reservation at its admission point. -/
  | reservationAcquire (inst sq : Nat) (c : HostCmd)
  /-- RESERVATION_RELEASE (R361): Reservation Release releases or clears a reservation. -/
  | reservationRelease (inst sq : Nat) (c : HostCmd)
  /-- RESERVATION_REPORT (R360): Reservation Report returns the namespace's registrants and reservation. -/
  | reservationReport (inst sq : Nat) (c : HostCmd)
  /-- VIRT_MGMT_ASSIGN (R347): Secondary Controller Assign gives VQ or VI resources to an Offline tenant. -/
  | virtMgmtAssign (inst cid target rt n : Nat)
  /-- VIRT_MGMT_ONLINE (R365): Secondary Controller Online brings an Offline tenant Online. -/
  | virtMgmtOnline (inst cid target : Nat)
  /-- VIRT_MGMT_OFFLINE (R384): Secondary Controller Offline removes a tenant and returns its resources to defaults. -/
  | virtMgmtOffline (inst cid target : Nat)
  /-- INSTANCE_QUIESCE_PAUSE (R377): Instance Quiesce Pause stops fetching for a tenant and lets admitted commands drain. -/
  | instanceQuiescePause (inst cid target limit : Nat) (reservedOk : Bool)
  /-- PAUSE_DRAIN_COMPLETE (R377): Once only Asynchronous Event Requests remain, the instance becomes Paused and the Pause completes. -/
  | pauseDrainComplete (target : Nat)
  /-- PAUSE_LIMIT_EXPIRY (R377): A Pause limit that passes first sends the instance to Stopping. -/
  | pauseLimitExpiry (target : Nat)
  /-- INSTANCE_QUIESCE_STOP (R378): Instance Quiesce Stop broadcasts a quiesce, stops DMA and withdraws the instance's operations. -/
  | instanceQuiesceStop (inst cid target : Nat) (reservedOk : Bool)
  /-- INSTANCE_QUIESCE_RESUME (R365): Instance Quiesce Resume returns a Paused or Held instance to Online. -/
  | instanceQuiesceResume (inst cid target : Nat) (reservedOk : Bool)
  /-- STOP_DRAIN_COMPLETE (R378): Once the operations at the NAND and the key and Sieve removal have ended, the function reset completes and the drain report is written. -/
  | stopDrainComplete (target : Nat)
  /-- FUNCTION_LEVEL_RESET (R366): An FLR starts a Stop of its instance, or of every tenant of the port for a physical function. -/
  | functionLevelReset (inst : Nat)
  /-- CONTROLLER_DISABLE (R365): A write of CC.EN from 1 to 0 by a tenant is handled as a Stop. -/
  | controllerDisable (inst : Nat)
  /-- CONTROLLER_ENABLE (R345): A write of CC.EN = 1 sets CSTS.RDY unless the instance is Offline or Held. -/
  | controllerEnable (inst : Nat) (asq acq : QMem) (wrr : Bool)
  /-- TENANT_SHUTDOWN (R367): A tenant's CC.SHN = 01b stops its fetching, waits for its commands and sets SHST. -/
  | tenantShutdown (inst : Nat)
  /-- INSTANCE_RESOURCES_SET (R371): Instance Resources Set applies the selected resource fields at once, or refuses them all. -/
  | instanceResourcesSet (inst cid target : Nat) (r : ResRec) (reservedOk : Bool)
  /-- INSTANCE_RESOURCES_GET (R370): Instance Resources Get returns an instance's resource record. -/
  | instanceResourcesGet (inst cid target : Nat)
  /-- INSTANCE_STATE_SAVE (R390): Instance State Save writes a Paused instance's state record. -/
  | instanceStateSave (inst cid target size : Nat)
  /-- INSTANCE_STATE_RESTORE (R392): Instance State Restore loads a saved record and leaves the instance Paused. -/
  | instanceStateRestore (inst cid target : Nat) (r : InstRec)
  /-- MBX_T_DOORBELL (R374): A tenant's mailbox doorbell copies its message to the manager, or sets ERR. -/
  | mbxTDoorbell (inst : Nat)
  /-- MBX_T_ACK (R374): A tenant's acknowledgement completes the manager's message. -/
  | mbxTAck (inst seq status : Nat)
  /-- MBX_INST_DOORBELL (R374): The manager's doorbell copies its window message to the selected tenant. -/
  | mbxInstDoorbell
  /-- MBX_INST_ACK (R374): The manager's acknowledgement completes the tenant's message. -/
  | mbxInstAck (seq status : Nat)
  /-- DIRTY_LOG_ENABLE (R387): MIG_CTRL.ENABLE set to 1 starts logging into bitmap A, or is refused beyond 16 instances. -/
  | dirtyLogEnable
  /-- DIRTY_LOG_DISABLE (R385): MIG_CTRL.ENABLE set to 0 writes back the cache and stops logging. -/
  | dirtyLogDisable
  /-- HARVEST (R388): MIG_CTRL.HARVEST swaps the active bitmap, writes back the cache and issues a fence. -/
  | harvest (inst : Nat)
  /-- HARVEST_COMPLETE (R388): The harvest fence completes, HARVEST_BUSY falls and ACTIVE shows the new bitmap. -/
  | harvestComplete (inst : Nat)
  /-- REPORT_RING_SIZE_WRITE (R383): A write of MIG_RPT_SIZE sets the ring size and resets HEAD and TAIL. -/
  | reportRingSizeWrite (size : Nat)
  /-- FENCE_ISSUE (R395): A write of WMK_ISSUE, or a request on another port, sends a fence of a class and scope down the tree. -/
  | fenceIssue (port cls scope target : Nat) (snap : Bool)
  /-- FENCE_COMPLETE (R398): A fence whose covered events have reached their condition completes in ID order per port, with a snapshot bank when flagged. -/
  | fenceComplete (port id : Nat)
  /-- SNAPSHOT_VIEW (R402): WMK_SNAP.VIEW switches manager reads of counters to the snapshot bank. -/
  | snapshotView (view : Bool)
  /-- NVM_SUBSYSTEM_RESET (R404): An NVM Subsystem Reset drains every instance, programs exposure, writes a checkpoint and resets the controller. -/
  | nvmSubsystemReset
  /-- CONTROLLER_RESET (R11): A controller reset resets the control, data and non-AON management planes and restarts from boot step 3. -/
  | controllerReset
  /-- NONOP_ENTRY_START (R416): A chosen PS3 or PS4 programs exposure, writes a quiet record and asks the domain groups to vote. -/
  | nonopEntryStart (target : Nat) (refusal : Option (Nat × Nat))
  /-- NONOP_STATE_REACHED (R416): Once every voting domain has stopped and the setpoint is lowered, the state is entered and LTR sent. -/
  | nonopStateReached (stepDownOk : Bool)
  /-- ENTRY_BACKOFF_RETRY (R418): After a refusal's back-off the entry is retried, or abandoned after CFG_PWR_TRIES. -/
  | entryBackoffRetry (refusal : Option (Nat × Nat))
  /-- APST_IDLE_EXPIRY (R410): After the APST idle time the controller chooses the deepest state allowed by the entry and T_host. -/
  | apstIdleExpiry (refusal : Option (Nat × Nat))
  /-- PS3_PS4_CHANGE (R420): A change between PS3 and PS4 gates or repowers retention without a new vote. -/
  | ps3Ps4Change
  /-- WAKE_SOURCE (R423): A qualified wake source or a doorbell ends an entry or starts the exit from PS3 or PS4. -/
  | wakeSource (code : Nat)
  /-- EXIT_COMPLETE (R424): The exit ends, firmware resumes, heat-work is added and intake fetches. -/
  | exitComplete
  /-- MAINTENANCE_WAKE (R422): Every CFG_PWR_MAINT_H in PS3 or PS4 the controller wakes internally to run queued work. -/
  | maintenanceWake
  /-- MAINTENANCE_REENTRY (R422): When the maintenance work is done or 1 h has passed, the same state is entered again. -/
  | maintenanceReentry (refusal : Option (Nat × Nat))
  /-- WAKE_DOMAIN_IDLE_RETURN (R423): After 100 ms without SMBus or Service Port traffic, domain 93 returns to its previous state. -/
  | wakeDomainIdleReturn
  /-- DOMAIN_IDLE_GATE (R413): An idle channel domain, or Glaze domain 79, is retention-gated in PS0 to PS2. -/
  | domainIdleGate (domain : Nat)
  /-- ISOLATION_GATE_WAKE (R414): A request at a gated domain's isolation gate is held while the gate wakes the domain. -/
  | isolationGateWake (domain : Nat)
  /-- AVS_STEP_REQUEST (R426): A VDD_CORE setpoint change is sent as write-and-commit. -/
  | avsStepRequest (mv : Nat)
  /-- AVS_STEP_RESULT (R426): The response, slew wait and readback confirm a step, or fail it and repeat it once. -/
  | avsStepResult (answer : AvsAnswer)
  /-- AVS_EXIT_RETRY (R428): After a step up fails twice on exit, the sequencer repeats the exit from step 2 every 1 ms. -/
  | avsExitRetry (answer : AvsAnswer)
  /-- HOUSEKEEPING_ROUND (R432): Every 10 ms the ADC converts its channels, Cone updates the model and sends f and g, and figures are recomputed. -/
  | housekeepingRound (adc : AdcRound)
  /-- DIE_TEMPERATURE_READINGS (R434): Control firmware posts the round's die sensor readings to the steward. -/
  | dieTemperatureReadings (temps : List (Nat × Int))
  /-- DIODE_ANCHOR (R436): Once a second the model is anchored to the diodes and the NAND temperature summary is sent. -/
  | diodeAnchor (diode0 diode1 : Int)
  /-- TEMPERATURE_HISTORY_TICK (R443): Once a second the histogram bin and life sum are updated. -/
  | temperatureHistoryTick
  /-- THERMAL_TRIP (R440): A diode at 120 °C for 1 µs or a model node at 125 °C asserts THERMTRIP_N and a Grave fault. -/
  | thermalTrip (where_ : Nat)
  /-- FAULT_MESSAGE (R450): A fault message is counted, classed with escalation, latched if qualifying and recorded in the Kiln Log. -/
  | faultMessage (word : Nat)
  /-- FAULT_HANDLER (R454): The steward takes the interrupt and host-visible actions of a queued Degraded or Severe message. -/
  | faultHandler
  /-- GRAVE_STOP_ISOLATE (R453): After the dump marker or 45 ms, STOP and ISOLATE are asserted and the Grave hold powers down domains. -/
  | graveStopIsolate
  /-- KLOG_TOKEN_REFILL (R457): A refill tick adds a token to each code's bucket. -/
  | klogTokenRefill
  /-- KLOG_PERSIST_SEGMENT (R459): Unsaved records are written as a 64 KiB segment to the persisted area. -/
  | klogPersistSegment
  /-- PERSIST_NOW (R459): A write of KLOG_CFG.PERSIST_NOW persists a segment at once. -/
  | persistNow
  /-- FIRST_SOURCE_CLEAR (R449): A write of 1 to FLT_FIRST_CTRL.VALID clears the latch so that the next qualifying message is latched. -/
  | firstSourceClear
  /-- FAULT_INJECT (R462): A write of FLT_INJECT_HI sends a message marked as injected. -/
  | faultInject (word : Nat)
  /-- KLOG_RECORD_CAPTURE (R462): A write of KLOG_RD_SEQ captures the ring record with that sequence. -/
  | klogRecordCapture (seq : Nat)
  /-- IMAGE_BEGIN (R468): IMAGE_BEGIN opens an image session and checks the header. -/
  | imageBegin (path : Nat) (hdr : CfgHeader) (length : Nat)
  /-- IMAGE_CHUNK (R464): IMAGE_CHUNK appends the next body data to the session. -/
  | imageChunk (path offset length : Nat) (recs : List CfgRec)
  /-- IMAGE_COMMIT (R469): IMAGE_COMMIT verifies the image, writes the other slot and puts its Live and Staged fields into force. -/
  | imageCommit (path : Nat) (chain : Chain)
  /-- IMAGE_ABORT (R464): IMAGE_ABORT ends the session and changes nothing. -/
  | imageAbort (path : Nat)
  /-- FIELD_READ (R464): FIELD_READ returns the values in force of the named fields. -/
  | fieldRead (path : Nat) (recs : List CfgRec)
  /-- FIELD_WRITE (R466): FIELD_WRITE applies its records at once between admission points, skipping changed Static fields. -/
  | fieldWrite (path : Nat) (recs : List CfgRec)
  /-- NS_MODE_SET (R269): NS_MODE_SET sets the encryption mode for the manager's next namespace create. -/
  | nsModeSet (path mode : Nat)
  /-- CFG_MBX_BAD_DOORBELL (R463): A doorbell written while BUSY, or with an unknown opcode, is ignored with ERR or answered with Bad opcode. -/
  | cfgMbxBadDoorbell (opcode : Nat)
  /-- IMAGE_SESSION_TIMEOUT (R465): A session with no request for CFG_MGMT_SESSION_S is closed. -/
  | imageSessionTimeout
  /-- MI_BASIC_MANAGEMENT_COMMAND (R471): The Basic Management Command returns status flags, warnings, temperature and percentage used. -/
  | miBasicManagementCommand
  /-- MI_KILN_LOG_READ (R472): NVMe-MI command 0xC0 returns ring records from a sequence. -/
  | miKilnLogRead (transport start count : Nat)
  /-- MI_TUNNELLED_ADMIN (R470): A tunnelled admin command is admitted as a Class U command of instance 0. -/
  | miTunnelledAdmin (transport opcode : Nat) (body : List Nat)
  /-- MI_CONTROL_PRIMITIVE (R470): A Pause, Resume, Abort, Get State or Replay primitive acts on the MI transport. -/
  | miControlPrimitive (transport op slot : Nat)
  /-- MI_HEALTH_STATUS_POLL (R470): A subsystem or controller health status poll returns health data. -/
  | miHealthStatusPoll (transport : Nat) (subsystem clear : Bool)
  /-- MI_READ_DATA_STRUCTURE (R470): Read NVMe-MI Data Structure returns a management data structure. -/
  | miReadDataStructure (transport kind : Nat)
  /-- MI_CONFIGURATION_GET (R470): Configuration Get returns an MI configuration value. -/
  | miConfigurationGet (transport id port : Nat)
  /-- MI_CONFIGURATION_SET (R470): Configuration Set changes an MI configuration value. -/
  | miConfigurationSet (transport id port value : Nat)
  /-- MI_VPD_READ (R470): VPD Read returns vital product data. -/
  | miVpdRead (transport offset length : Nat)
  /-- MI_VPD_WRITE (R470): VPD Write stores vital product data. -/
  | miVpdWrite (transport offset : Nat) (data : List Nat)
  /-- MI_RESET (R470): The NVMe-MI Reset command resets the subsystem. -/
  | miReset (transport : Nat)
  /-- STEWARD_MAILBOX_TIMEOUT (R473): A message left unacknowledged for 1 s raises MAILBOX_TIMEOUT as a Severe fault. -/
  | stewardMailboxTimeout
  /-- BOOT_SEQUENCE (R479): Release of the AON power-on reset runs the boot steps up to PCIe ready. -/
  | bootSequence (info : BootInfo)
  /-- TRIAL_SLOT_CONFIRM (R486): One hour after PCIe ready with no Grave fault, a Trial slot becomes Confirmed and the firmware counter may advance. -/
  | trialSlotConfirm
  /-- CONFIG_ROLLBACK_ADVANCE (R492): After a configuration has been in force for 1 h, its anti-rollback counter is advanced. -/
  | configRollbackAdvance
  /-- BOOT_AREA_REFRESH (R485): Every 365 days the Boot Area copies are read and weak regions rewritten. -/
  | bootAreaRefresh (weak failed : List Nat)
  /-- FIRMWARE_IMAGE_DOWNLOAD (R494): Firmware Image Download stages a piece of an image. -/
  | firmwareImageDownload (inst cid offset length : Nat) (hdr : FwHeader)
  /-- FIRMWARE_COMMIT (R495): Firmware Commit writes or selects a slot by its commit action. -/
  | firmwareCommit (inst cid slot action : Nat) (chain : Chain)
  /-- STAGING_TIMEOUT (R494): Staging with no piece for CFG_MGMT_SESSION_S is cleared. -/
  | stagingTimeout
  /-- SMILI_BAD_FRAME (R503): A frame that fails its CRC, length or escaping gets a Nak. -/
  | smiliBadFrame (seq reason : Nat)
  /-- SERVICE_PORT_AUTOBAUD (R501): A break followed by 0x55 switches the port to a measured standard rate. -/
  | servicePortAutobaud (baud : Nat)
  /-- SERVICE_PORT_RATE_TIMEOUT (R501): After 10 s without a valid frame above 115,200 baud the port returns to 115,200. -/
  | servicePortRateTimeout
  /-- IDENTIFY_SMILI (R504): Smili IDENTIFY returns CZ_ID, row 0, lifecycle, mode and slot states. -/
  | identifySmili (seq : Nat)
  /-- BOOT_TIMES (R482): Smili BOOT_TIMES returns the start-up record. -/
  | bootTimes (seq : Nat)
  /-- LOG_READ (R504): Smili LOG_READ returns ring records from a sequence. -/
  | logRead (seq start count : Nat)
  /-- LOG_AREA_READ (R504): Smili LOG_AREA_READ returns bytes of the persisted log area. -/
  | logAreaRead (seq offset length : Nat)
  /-- SERVICE_RESET (R504): Smili RESET performs a controller reset or restarts from boot step 1. -/
  | serviceReset (seq kind : Nat)
  /-- FW_BEGIN (R497): FW_BEGIN takes the staging area, or in Bisque mode a slot, and checks the header. -/
  | fwBegin (seq : Nat) (hdr : FwHeader) (length : Nat)
  /-- FW_CHUNK (R497): FW_CHUNK adds the next gapless chunk of the image. -/
  | fwChunk (seq offset length : Nat)
  /-- FW_COMMIT (R497): FW_COMMIT checks the chain and makes the slot Valid or Trial. -/
  | fwCommit (seq slot action : Nat) (chain : Chain)
  /-- FW_ABORT (R497): FW_ABORT ends the Service Port firmware session. -/
  | fwAbort (seq : Nat)
  /-- CFG_MSG (R504): CFG_MSG carries a configuration mailbox request over the Service Port. -/
  | cfgMsg (seq opcode : Nat) (hdr : CfgHeader) (offset length : Nat) (recs : List CfgRec) (chain : Chain)
  /-- TRACE (R504): TRACE enables firmware trace records. -/
  | trace (seq : Nat) (token : SigBlock) (on : Bool)
  /-- OTP_READ (R504): OTP_READ returns an OTP row, or only the CRC of a key row. -/
  | otpRead (seq row : Nat)
  /-- OTP_PROGRAM (R508): OTP_PROGRAM programs bits of an unlocked row with verified pulses. -/
  | otpProgram (seq row mask failedAt : Nat)
  /-- PROVISION_KEYS (R504): PROVISION_KEYS generates and programs the root and identity seeds and advances to Provisioned. -/
  | provisionKeys (seq : Nat)
  /-- CERT_WRITE (R504): CERT_WRITE writes the SPDM certificate chain to the Boot Area. -/
  | certWrite (seq offset length : Nat)
  /-- LIFECYCLE_ADVANCE (R504): LIFECYCLE_ADVANCE moves the OTP lifecycle to Production or Returned. -/
  | lifecycleAdvance (seq target : Nat) (token : SigBlock)
  /-- DEBUG_CHALLENGE (R505): DEBUG_CHALLENGE returns a nonce for a token. -/
  | debugChallenge (seq : Nat)
  /-- DEBUG_UNLOCK (R505): DEBUG_UNLOCK accepts a token and unlocks debug, zeroizing keys in Production. -/
  | debugUnlock (seq : Nat) (token : SigBlock)
  /-- RAIL_LOW (R512): A rail below its monitor level enters dump mode or ignores its sideband inputs, and raises RAIL_LOW. -/
  | railLow (rail : Nat)
  /-- IO33_RESTORED (R512): VDD_IO33 back above its monitor level for 1 ms restores PERST and SMBus. -/
  | io33Restored
  /-- AON_RESET (R512): VDD_AON below its reset threshold resets the whole chip without a dump. -/
  | aonReset
  /-- PWRDIS_ASSERT (R516): PWRDIS high for 1 ms runs an orderly shutdown and sets CSTS.SHST on every function. -/
  | pwrdisAssert
  /-- PWRDIS_RELEASE (R516): PWRDIS falling after the shutdown causes a controller reset by the clean path. -/
  | pwrdisRelease
  /-- OFF_DOMAIN_READ (R9): A management-plane read of a register in a domain that is off, gated or clock-stopped returns 0xFFFF_FFFF and sets PWR_STATUS.OFFREAD. -/
  | offDomainRead (offset : Nat)
  /-- HOST_DATA_UNIT_ARRIVAL (R86): A 4 KiB unit of host write data arrives by DMA, is checked for protection information and releases forwarded reads that wait for that block alone. -/
  | hostDataUnitArrival (tag idx pi : Nat)
  /-- LINK_DOWN (R359): The PCIe link goes down, the IDE stream enters Insecure and commands lose their completions. -/
  | linkDown (port : Nat)
  /-- IDE_INTEGRITY_CHECK_FAILURE (R359): A received TLP of the IDE stream fails its integrity check, the stream enters Insecure and AER reports it. -/
  | ideIntegrityCheckFailure
  /-- ASPM_L1_EXIT (R352): In an operational state a port leaves L1 or its substates, with CLKREQ_N asserted, when a TLP must be sent or the host exits electrical idle. -/
  | aspmL1Exit (port : Nat)
  /-- CONFIGURATION_REQUEST (R355): A PCIe Configuration Request is answered with Retry Status before PCIe ready, and afterwards is completed and applied. -/
  | configurationRequest (inst : Nat) (field : PField) (write : Bool) (value : Nat)
  /-- DRAM_ROW_IDLE_CLOSE (R329): A keep-open row that no request has hit for DMC_CFG.IDLE_CLOSE is closed by a precharge. -/
  | dramRowIdleClose (chan sub bank : Nat)
  /-- AON_DIODE_READ (R421): Once a second in PS3 and PS4 the AON domain reads the diodes and adds af256 of the hotter one to the heat-work count. -/
  | aonDiodeRead (diode0 diode1 : Int)
  /-- ENTROPY_HEALTH_TEST_PASS (R292): An entropy-source health test passes after a failure, and generation of MEKs, salts and keys resumes. -/
  | entropyHealthTestPass
  /-- PWRFAIL_HIGH_BEFORE_START (R514): PWRFAIL_N has stayed high for 10 ms while the ROM waits after boot step 2, and step 3 starts. -/
  | pwrfailHighBeforeStart
  /-- SET_FEATURES_ASYNC_EVENT_CONFIG (R56): Set Features 0x0B enables or disables the asynchronous event notices of the instance, such as Zone Descriptor Changed and vendor-specific notices. -/
  | setFeaturesAsyncEventConfig (inst cid value : Nat)
  /-- KEY_PER_IO_KEK_SET (R290): The host sets a namespace's Key Per I/O KEK through the Key Per I/O SSC, and the key store is rewritten wrapped under K_wrap. -/
  | keyPerIoKekSet (nsid kek : Nat)
  deriving DecidableEq, Repr

end Sys2Proof
end

