-- ==== Sys2Proof/Decode.lean ====
section
/-!
DEFINITION. The command a word spells by the table's bits. No row of spec/opcode_table.json gives bits: the commands
reach the block as register writes, protocol messages and events, so no word spells one.
-/

namespace Sys2Proof

/-- The command of an `nbits`-bit word `w`: the table spells none. -/
def decodeTableWord (_nbits _w : Nat) : Option Instr := none

end Sys2Proof
end

