-- ==== Sys2Proof/Config.lean ====
section
/-!
DEFINITION. What the spec leaves open as a number, as constants without a body, and the numbers a whole chapter
shares. Nothing can be proved about an opaque constant but what holds of every value.
-/

namespace Sys2Proof.Config

/-- A free value: the value an undefined result takes at the `n`-th use (DESIGN CHOICE, log entry 2). -/
opaque freeValue : Nat → Nat

/-- SHA-256 (R221), whose arithmetic the spec does not repeat: the state before the first block, the state after 4,096 more
bytes, the digest of a state and the number of blocks folded into it (DESIGN CHOICE, log entry 3). -/
opaque shaInit : Nat
opaque shaBlock (state data : Nat) : Nat
opaque shaEnd (state count : Nat) : Nat

/-- The state of a hash lane after more blocks, and the digest of a list of blocks. -/
def shaFold (state : Nat) (l : List Nat) : Nat := l.foldl shaBlock state
def sha256 (l : List Nat) : Nat := shaEnd (shaFold shaInit l) l.length

/-- The protection information guard over a block's 4,096 bytes: the 64-bit one, or the 16-bit one (DESIGN CHOICE, log
entry 3). (DESIGN CHOICE, log entry 3.) -/
opaque guard (wide : Bool) (data : Nat) : Nat

/-- SHA-384 of a list of numbers, as a number (DESIGN CHOICE, log entry 3). -/
opaque sha384 : List Nat → Nat

/-- A key derived from a key and a label (DESIGN CHOICE, log entry 3). -/
opaque kdf : Nat → List Nat → Nat

/-- The output of the DRBG after its `s`-th reseed, at the `n`-th call (DESIGN CHOICE, log entry 3). -/
opaque drbg (s n : Nat) : Nat

/-- A signature by a key over a digest (DESIGN CHOICE, log entry 3). -/
opaque sign : Nat → Nat → Nat

/-- The public keys under which a P-384 signature verifies a digest: the `k`-th of the candidates that the signature and the
digest give (DESIGN CHOICE, log entry 3). -/
opaque ecdsaKey (digest sig k : Nat) : Nat

/-- The root that an LMS signature over a message leads to, for a public key's type and identifier (DESIGN CHOICE, log entry
3). (DESIGN CHOICE, log entry 3.) -/
opaque lmsRoot (id : Nat) (message : List Nat) (sig : Nat) : Nat

/-- The content of an SPDM response the spec does not lay out, by request code, key and request (DESIGN CHOICE, log entry 3). -/
opaque spdm : Nat → Nat → List Nat → Nat

/-- CFG_CONE_MODEL's default: the share R(i,j) in m°C/W and the time constant of node j in ms (Table 16.6: set at
characterisation, not stated; DESIGN CHOICE, log entry 12). -/
opaque coneR : Nat → Nat → Nat
opaque coneTau : Nat → Nat

/-- The length in bytes of a Kiln Log record whose body the spec does not lay out, by code, as a raw number
(DESIGN CHOICE, log entry 4): `recordLength` brings it into the range R456 states. -/
opaque recordLengthRaw : Nat → Nat

/-- A record length the spec allows: a multiple of 4, 20 to 1,024 (R456). (DESIGN CHOICE, log entry 4.) -/
def recordLength (code : Nat) : Nat := 20 + 4 * (recordLengthRaw code % 252)

/-- The bytes after the common word of a Kiln Log record whose body the spec does not lay out, by its code and the objects its
rule names (DESIGN CHOICE, log entry 4). -/
opaque recordBody : Nat → List Nat → List Nat

/-- The 4 KiB pages of host memory of an admin command's data buffer, by instance and command identifier; the page of a
slot of a queue that is not physically contiguous, by its page list's address (DESIGN CHOICE, log entry 112). -/
opaque adminPages : Nat → Nat → List Nat
opaque queuePage : Nat → Nat → Nat

/-- A block's 4,096 bytes as one XTS data unit under a key and a tweak; the GCM ciphertext and tag under a key, a nonce and
additional data (DESIGN CHOICE, log entry 3). -/
opaque xts (key tweak data : Nat) : Nat
opaque gcm (key nonce : Nat) (aad : List Nat) (data : Nat) : Nat × Nat

/-- The LDPC parity of a codeword's first 4,224 bytes; the SECDED code of a 64-bit word; the 32-bit CRC of a burst's words and
its address (DESIGN CHOICE, log entry 3). -/
opaque ldpc : List Nat → List Nat
opaque secded : Nat → Nat
opaque burstCrc : List Nat → Nat → Nat

/-- The packed bytes of the features of an instance state record, whose widths Table 13.11 does not state (DESIGN CHOICE,
DESIGN CHOICE, log entry 112). -/
opaque packFeatures : List Nat → List Nat

end Sys2Proof.Config
end

