-- ==== Sys2Proof/Machine/Cfg.lean ====
section
/-!
DEFINITION. The fields of the configuration image: IDs, ranges, steps, defaults and kinds (Tables 2.8, 3.9, 5.25,
6.13, 7.11, 8.11, 9.10, 10.5, 11.6, 12.8, 15.10, 16.6, 17.12 and 18.9; IDs and encoding units by R467). Values are
integer counts of the field's encoding unit; a negative temperature is held modulo 2^32.
-/

namespace Sys2Proof.Machine

/-- The kind of a field (R8): Static, Live, or Staged with the boundary its table names. -/
inductive CfgKind where
  | static
  | live
  /-- The next housekeeping round. -/
  | round
  /-- The next idle period of intake. -/
  | idle
  /-- The next idle period of the link. -/
  | linkIdle
  /-- The next NAND temperature summary. -/
  | summary
  /-- The next transition from ZSE. -/
  | open_
  /-- The next Trail flush. -/
  | flush
  /-- The next checkpoint. -/
  | checkpoint
  /-- The next entry attempt of PS3 or PS4. -/
  | attempt
  /-- The next entry to PS2. -/
  | ps2
  /-- The next entry to PS3 or PS4. -/
  | nonop
  /-- The next window start of each source. -/
  | window
  /-- The next Kiln Log segment. -/
  | segment
  /-- The next deterministic window. -/
  | dwindow
  deriving DecidableEq, Repr

/-- One row of the field tables. -/
structure CfgInfo where
  id : Nat
  lo : Nat
  hi : Nat
  step : Nat
  dflt : Nat
  kind : CfgKind
  maxIndex : Nat
  deriving DecidableEq, Repr

namespace Cfg

/-- CFG_CAPCFG. -/
abbrev CAPCFG : Nat := 0x0100
/-- CFG_DS_KEPT_BLANKET. -/
abbrev DS_KEPT_BLANKET : Nat := 0x0101
/-- CFG_DS_OPEN_BUDGET. -/
abbrev DS_OPEN_BUDGET : Nat := 0x0102
/-- CFG_DS_ACTIVE_BUDGET. -/
abbrev DS_ACTIVE_BUDGET : Nat := 0x0103
/-- CFG_ZONE_FZR_AGE. -/
abbrev ZONE_FZR_AGE : Nat := 0x0104
/-- CFG_ZONE_FINISH_AGE. -/
abbrev ZONE_FINISH_AGE : Nat := 0x0105
/-- CFG_LADDER_AMBER. -/
abbrev LADDER_AMBER : Nat := 0x0106
/-- CFG_LADDER_RED. -/
abbrev LADDER_RED : Nat := 0x0107
/-- CFG_FDP_RUH_COUNT. -/
abbrev FDP_RUH_COUNT : Nat := 0x0108
/-- CFG_INTAKE_WEIGHT. -/
abbrev INTAKE_WEIGHT : Nat := 0x0200
/-- CFG_INTAKE_QUANTUM. -/
abbrev INTAKE_QUANTUM : Nat := 0x0201
/-- CFG_INTAKE_TENANT_ADMIN_MAX. -/
abbrev INTAKE_TENANT_ADMIN_MAX : Nat := 0x0202
/-- CFG_INTAKE_THROTTLE_REF. -/
abbrev INTAKE_THROTTLE_REF : Nat := 0x0203
/-- CFG_INTAKE_THROTTLE_BURST. -/
abbrev INTAKE_THROTTLE_BURST : Nat := 0x0204
/-- CFG_INTAKE_LTR_ACTIVE. -/
abbrev INTAKE_LTR_ACTIVE : Nat := 0x0205
/-- CFG_MEDIA_ZONE_ROWS. -/
abbrev MEDIA_ZONE_ROWS : Nat := 0x0300
/-- CFG_MEDIA_ROWS_BLANKET. -/
abbrev MEDIA_ROWS_BLANKET : Nat := 0x0301
/-- CFG_MEDIA_ROWS_TRAIL. -/
abbrev MEDIA_ROWS_TRAIL : Nat := 0x0302
/-- CFG_MEDIA_VFY_CBC. -/
abbrev MEDIA_VFY_CBC : Nat := 0x0303
/-- CFG_MEDIA_FI_EA. -/
abbrev MEDIA_FI_EA : Nat := 0x0304
/-- CFG_MEDIA_FI_THRESH. -/
abbrev MEDIA_FI_THRESH : Nat := 0x0305
/-- CFG_MEDIA_FI_OFF_TEMP. -/
abbrev MEDIA_FI_OFF_TEMP : Nat := 0x0306
/-- CFG_MEDIA_REFIRE_MAX. -/
abbrev MEDIA_REFIRE_MAX : Nat := 0x0307
/-- CFG_MEDIA_WL_GAP. -/
abbrev MEDIA_WL_GAP : Nat := 0x0308
/-- CFG_MEDIA_QLC_RATED. -/
abbrev MEDIA_QLC_RATED : Nat := 0x0309
/-- CFG_MEDIA_SLC_RATED. -/
abbrev MEDIA_SLC_RATED : Nat := 0x030A
/-- CFG_LDPC_RETRY_STEPS. -/
abbrev LDPC_RETRY_STEPS : Nat := 0x0400
/-- CFG_LDPC_RETRY_ORDER. -/
abbrev LDPC_RETRY_ORDER : Nat := 0x0401
/-- CFG_FIX_CHUNKS. -/
abbrev FIX_CHUNKS : Nat := 0x0402
/-- CFG_FIX_VERIFY_RATE. -/
abbrev FIX_VERIFY_RATE : Nat := 0x0403
/-- CFG_FIX_JOBS_INST. -/
abbrev FIX_JOBS_INST : Nat := 0x0404
/-- CFG_TRAIL_FLUSH_MS. -/
abbrev TRAIL_FLUSH_MS : Nat := 0x0500
/-- CFG_TRAIL_CKPT_BYTES. -/
abbrev TRAIL_CKPT_BYTES : Nat := 0x0501
/-- CFG_TRAIL_CKPT_MAX_S. -/
abbrev TRAIL_CKPT_MAX_S : Nat := 0x0502
/-- CFG_GLZ_DUMMY_MAX. -/
abbrev GLZ_DUMMY_MAX : Nat := 0x0600
/-- CFG_GLZ_ALARM_TEMP_LO. -/
abbrev GLZ_ALARM_TEMP_LO : Nat := 0x0601
/-- CFG_GLZ_ALARM_TEMP_HI. -/
abbrev GLZ_ALARM_TEMP_HI : Nat := 0x0602
/-- CFG_GLZ_RECOVER_MS. -/
abbrev GLZ_RECOVER_MS : Nat := 0x0603
/-- CFG_GLZ_NS_MODE_DEFAULT. -/
abbrev GLZ_NS_MODE_DEFAULT : Nat := 0x0604
/-- CFG_HMP_FAR_SIZE. -/
abbrev HMP_FAR_SIZE : Nat := 0x0700
/-- CFG_HMP_FAR_INTERNAL. -/
abbrev HMP_FAR_INTERNAL : Nat := 0x0701
/-- CFG_HMP_NEAR_INTERNAL. -/
abbrev HMP_NEAR_INTERNAL : Nat := 0x0702
/-- CFG_HMP_AMBER. -/
abbrev HMP_AMBER : Nat := 0x0703
/-- CFG_HMP_RED. -/
abbrev HMP_RED : Nat := 0x0704
/-- CFG_DMC_TIMING. -/
abbrev DMC_TIMING : Nat := 0x0800
/-- CFG_DMC_ECC_WIDTH. -/
abbrev DMC_ECC_WIDTH : Nat := 0x0801
/-- CFG_DMC_RATE_MAX. -/
abbrev DMC_RATE_MAX : Nat := 0x0802
/-- CFG_DMC_AGE_CAP. -/
abbrev DMC_AGE_CAP : Nat := 0x0803
/-- CFG_DMC_WR. -/
abbrev DMC_WR : Nat := 0x0804
/-- CFG_DMC_SCRUB_H. -/
abbrev DMC_SCRUB_H : Nat := 0x0805
/-- CFG_PCIE_SEC_FIRST. -/
abbrev PCIE_SEC_FIRST : Nat := 0x0900
/-- CFG_PCIE_MGR_VECTORS. -/
abbrev PCIE_MGR_VECTORS : Nat := 0x0901
/-- CFG_PCIE_L1_IDLE_US. -/
abbrev PCIE_L1_IDLE_US : Nat := 0x0902
/-- CFG_PCIE_L0P_MIN. -/
abbrev PCIE_L0P_MIN : Nat := 0x0903
/-- CFG_PCIE_TPH_PH. -/
abbrev PCIE_TPH_PH : Nat := 0x0904
/-- CFG_PWR_IDLE_GATE. -/
abbrev PWR_IDLE_GATE : Nat := 0x0A00
/-- CFG_PWR_CH_IDLE_MS. -/
abbrev PWR_CH_IDLE_MS : Nat := 0x0A01
/-- CFG_PWR_BACKOFF_MS. -/
abbrev PWR_BACKOFF_MS : Nat := 0x0A02
/-- CFG_PWR_TRIES. -/
abbrev PWR_TRIES : Nat := 0x0A03
/-- CFG_PWR_MARGIN. -/
abbrev PWR_MARGIN : Nat := 0x0A04
/-- CFG_PWR_PS2_VMAX. -/
abbrev PWR_PS2_VMAX : Nat := 0x0A05
/-- CFG_PWR_AVS_SLEW. -/
abbrev PWR_AVS_SLEW : Nat := 0x0A06
/-- CFG_PWR_AVS_ACK_US. -/
abbrev PWR_AVS_ACK_US : Nat := 0x0A07
/-- CFG_PWR_MAINT_H. -/
abbrev PWR_MAINT_H : Nat := 0x0A08
/-- CFG_CONE_T_THROTTLE. -/
abbrev CONE_T_THROTTLE : Nat := 0x0B00
/-- CFG_CONE_K. -/
abbrev CONE_K : Nat := 0x0B01
/-- CFG_CONE_FLOOR. -/
abbrev CONE_FLOOR : Nat := 0x0B02
/-- CFG_CONE_NAND_THROTTLE. -/
abbrev CONE_NAND_THROTTLE : Nat := 0x0B03
/-- CFG_CONE_AVS_DELTA. -/
abbrev CONE_AVS_DELTA : Nat := 0x0B04
/-- CFG_CONE_AVS_STEP. -/
abbrev CONE_AVS_STEP : Nat := 0x0B05
/-- CFG_CONE_MODEL. -/
abbrev CONE_MODEL : Nat := 0x0B06
/-- CFG_FLT_ESC_COUNT. -/
abbrev FLT_ESC_COUNT : Nat := 0x0C00
/-- CFG_FLT_ESC_WINDOW. -/
abbrev FLT_ESC_WINDOW : Nat := 0x0C01
/-- CFG_KLOG_RATE. -/
abbrev KLOG_RATE : Nat := 0x0C02
/-- CFG_KLOG_BURST. -/
abbrev KLOG_BURST : Nat := 0x0C03
/-- CFG_KLOG_PERSIST_S. -/
abbrev KLOG_PERSIST_S : Nat := 0x0C04
/-- CFG_KLOG_PEL_MIN. -/
abbrev KLOG_PEL_MIN : Nat := 0x0C05
/-- CFG_MI_SMB_ADDR. -/
abbrev MI_SMB_ADDR : Nat := 0x0D00
/-- CFG_MI_VDM_EN. -/
abbrev MI_VDM_EN : Nat := 0x0D01
/-- CFG_MGMT_SESSION_S. -/
abbrev MGMT_SESSION_S : Nat := 0x0D02
/-- CFG_PLM_WRITE_ALLOW. -/
abbrev PLM_WRITE_ALLOW : Nat := 0x0E00
/-- CFG_PLM_DTWIN_MAX. -/
abbrev PLM_DTWIN_MAX : Nat := 0x0E01

end Cfg

/-- Table 2.8, R67. -/
def cfgTableZone : List CfgInfo :=
  [⟨Cfg.CAPCFG, 0, 2 ^ 2048 - 1, 1, 0, .static, 15⟩,
   ⟨Cfg.DS_KEPT_BLANKET, 0, 1, 1, 0, .static, 128⟩,
   ⟨Cfg.DS_OPEN_BUDGET, 1, 1024, 1, 0, .static, 128⟩,
   ⟨Cfg.DS_ACTIVE_BUDGET, 1, 4096, 1, 0, .static, 128⟩,
   ⟨Cfg.ZONE_FZR_AGE, 1, 168, 1, 24, .round, 0⟩,
   ⟨Cfg.ZONE_FINISH_AGE, 1, 720, 1, 72, .round, 0⟩,
   ⟨Cfg.LADDER_AMBER, 2, 50, 1, 10, .round, 0⟩,
   ⟨Cfg.LADDER_RED, 1, 49, 1, 3, .round, 0⟩,
   ⟨Cfg.FDP_RUH_COUNT, 1, 8, 1, 8, .static, 0⟩]

/-- Table 3.9, R106. -/
def cfgTableIntake : List CfgInfo :=
  [⟨Cfg.INTAKE_WEIGHT, 1, 255, 1, 16, .live, 511⟩,
   ⟨Cfg.INTAKE_QUANTUM, 16, 256, 4, 64, .static, 0⟩,
   ⟨Cfg.INTAKE_TENANT_ADMIN_MAX, 1, 64, 1, 16, .static, 0⟩,
   ⟨Cfg.INTAKE_THROTTLE_REF, 50, 204, 1, 204, .static, 0⟩,
   ⟨Cfg.INTAKE_THROTTLE_BURST, 2, 16, 1, 2, .static, 0⟩,
   ⟨Cfg.INTAKE_LTR_ACTIVE, 1, 1000, 1, 20, .idle, 0⟩]

/-- Table 6.13, R210. -/
def cfgTableMedia : List CfgInfo :=
  [⟨Cfg.MEDIA_ZONE_ROWS, 256, 2194, 1, 2048, .static, 0⟩,
   ⟨Cfg.MEDIA_ROWS_BLANKET, 4, 32, 1, 8, .static, 0⟩,
   ⟨Cfg.MEDIA_ROWS_TRAIL, 4, 16, 1, 8, .static, 0⟩,
   ⟨Cfg.MEDIA_VFY_CBC, 1, 1023, 1, 60, .live, 0⟩,
   ⟨Cfg.MEDIA_FI_EA, 50, 150, 1, 110, .static, 0⟩,
   ⟨Cfg.MEDIA_FI_THRESH, 720, 87600, 1, 8760, .summary, 0⟩,
   ⟨Cfg.MEDIA_FI_OFF_TEMP, 0, 85, 1, 40, .static, 0⟩,
   ⟨Cfg.MEDIA_REFIRE_MAX, 1, 16, 1, 2, .live, 0⟩,
   ⟨Cfg.MEDIA_WL_GAP, 50, 1000, 1, 300, .round, 0⟩,
   ⟨Cfg.MEDIA_QLC_RATED, 100, 100000, 1, 1500, .static, 0⟩,
   ⟨Cfg.MEDIA_SLC_RATED, 1000, 1000000, 1, 30000, .static, 0⟩]

/-- Table 7.11, R239. -/
def cfgTableFix : List CfgInfo :=
  [⟨Cfg.LDPC_RETRY_STEPS, 1, 16, 1, 16, .live, 0⟩,
   ⟨Cfg.LDPC_RETRY_ORDER, 0, 2 ^ 64 - 1, 1, 0xFEDCBA9876543210, .static, 0⟩,
   ⟨Cfg.FIX_CHUNKS, 0, 1, 1, 0, .open_, 128⟩,
   ⟨Cfg.FIX_VERIFY_RATE, 1, 96, 1, 32, .live, 0⟩,
   ⟨Cfg.FIX_JOBS_INST, 1, 16, 1, 16, .static, 0⟩]

/-- Table 8.11, R267. -/
def cfgTableTrail : List CfgInfo :=
  [⟨Cfg.TRAIL_FLUSH_MS, 1, 16, 1, 4, .flush, 0⟩,
   ⟨Cfg.TRAIL_CKPT_BYTES, 256, 2048, 256, 1024, .static, 0⟩,
   ⟨Cfg.TRAIL_CKPT_MAX_S, 60, 3600, 1, 600, .checkpoint, 0⟩]

/-- Table 9.10, R303. -/
def cfgTableGlz : List CfgInfo :=
  [⟨Cfg.GLZ_DUMMY_MAX, 0, 7, 1, 7, .static, 0⟩,
   ⟨Cfg.GLZ_ALARM_TEMP_LO, 4294967256, 4294967295, 1, 4294967276, .static, 0⟩,
   ⟨Cfg.GLZ_ALARM_TEMP_HI, 115, 130, 1, 125, .static, 0⟩,
   ⟨Cfg.GLZ_RECOVER_MS, 10, 10000, 1, 100, .static, 0⟩,
   ⟨Cfg.GLZ_NS_MODE_DEFAULT, 0, 2, 1, 1, .static, 0⟩]

/-- Table 10.5, R319. -/
def cfgTableHmp : List CfgInfo :=
  [⟨Cfg.HMP_FAR_SIZE, 1, 8, 1, 8, .static, 0⟩,
   ⟨Cfg.HMP_FAR_INTERNAL, 64, 1024, 64, 256, .static, 0⟩,
   ⟨Cfg.HMP_NEAR_INTERNAL, 512, 4096, 1, 2048, .static, 0⟩,
   ⟨Cfg.HMP_AMBER, 50, 93, 1, 85, .live, 1⟩,
   ⟨Cfg.HMP_RED, 52, 98, 1, 95, .live, 1⟩]

/-- Table 11.6, R341. -/
def cfgTableDmc : List CfgInfo :=
  [⟨Cfg.DMC_TIMING, 0, 4294967295, 1, 0, .static, 1023⟩,
   ⟨Cfg.DMC_ECC_WIDTH, 0, 1, 1, 1, .static, 0⟩,
   ⟨Cfg.DMC_RATE_MAX, 4800, 8800, 1, 8800, .static, 0⟩,
   ⟨Cfg.DMC_AGE_CAP, 500, 3100, 100, 2000, .live, 0⟩,
   ⟨Cfg.DMC_WR, 0, 192, 1, 64, .live, 1⟩,
   ⟨Cfg.DMC_SCRUB_H, 1, 168, 1, 24, .round, 0⟩]

/-- Table 12.8, R363. -/
def cfgTablePcie : List CfgInfo :=
  [⟨Cfg.PCIE_SEC_FIRST, 2, 511, 1, 256, .static, 0⟩,
   ⟨Cfg.PCIE_MGR_VECTORS, 1, 2048, 1, 64, .static, 0⟩,
   ⟨Cfg.PCIE_L1_IDLE_US, 8, 1024, 1, 32, .linkIdle, 0⟩,
   ⟨Cfg.PCIE_L0P_MIN, 0, 2, 1, 1, .live, 0⟩,
   ⟨Cfg.PCIE_TPH_PH, 0, 3, 1, 0, .static, 0⟩]

/-- Table 15.10, R430. -/
def cfgTablePwr : List CfgInfo :=
  [⟨Cfg.PWR_IDLE_GATE, 0, 1, 1, 1, .live, 0⟩,
   ⟨Cfg.PWR_CH_IDLE_MS, 1, 100, 1, 5, .live, 0⟩,
   ⟨Cfg.PWR_BACKOFF_MS, 1, 100, 1, 10, .attempt, 0⟩,
   ⟨Cfg.PWR_TRIES, 1, 16, 1, 8, .attempt, 0⟩,
   ⟨Cfg.PWR_MARGIN, 0, 5, 1, 1, .round, 0⟩,
   ⟨Cfg.PWR_PS2_VMAX, 650, 750, 5, 700, .ps2, 0⟩,
   ⟨Cfg.PWR_AVS_SLEW, 5, 40, 1, 10, .static, 0⟩,
   ⟨Cfg.PWR_AVS_ACK_US, 2, 100, 1, 10, .static, 0⟩,
   ⟨Cfg.PWR_MAINT_H, 1, 168, 1, 24, .nonop, 0⟩]

/-- Table 16.6, R444. -/
def cfgTableCone : List CfgInfo :=
  [⟨Cfg.CONE_T_THROTTLE, 85, 110, 1, 100, .round, 0⟩,
   ⟨Cfg.CONE_K, 1, 10, 1, 4, .round, 0⟩,
   ⟨Cfg.CONE_FLOOR, 10, 50, 1, 25, .round, 0⟩,
   ⟨Cfg.CONE_NAND_THROTTLE, 60, 90, 1, 80, .round, 0⟩,
   ⟨Cfg.CONE_AVS_DELTA, 3, 15, 1, 8, .round, 0⟩,
   ⟨Cfg.CONE_AVS_STEP, 5, 50, 5, 25, .round, 0⟩,
   ⟨Cfg.CONE_MODEL, 0, 65535, 1, 0, .static, 599⟩]

/-- Table 17.12, R461. -/
def cfgTableFlt : List CfgInfo :=
  [⟨Cfg.FLT_ESC_COUNT, 4, 255, 1, 16, .window, 0⟩,
   ⟨Cfg.FLT_ESC_WINDOW, 10, 3600, 1, 60, .window, 0⟩,
   ⟨Cfg.KLOG_RATE, 1, 256, 1, 16, .static, 0⟩,
   ⟨Cfg.KLOG_BURST, 1, 1024, 1, 32, .static, 0⟩,
   ⟨Cfg.KLOG_PERSIST_S, 10, 600, 1, 60, .segment, 0⟩,
   ⟨Cfg.KLOG_PEL_MIN, 1, 6, 1, 3, .live, 0⟩]

/-- Table 18.9, R477. -/
def cfgTableMgmt : List CfgInfo :=
  [⟨Cfg.MI_SMB_ADDR, 8, 119, 1, 29, .static, 0⟩,
   ⟨Cfg.MI_VDM_EN, 0, 1, 1, 1, .static, 0⟩,
   ⟨Cfg.MGMT_SESSION_S, 10, 600, 1, 60, .static, 0⟩]

/-- Table 5.25, R167. -/
def cfgTablePlm : List CfgInfo :=
  [⟨Cfg.PLM_WRITE_ALLOW, 64, 8192, 64, 0, .dwindow, 128⟩,
   ⟨Cfg.PLM_DTWIN_MAX, 1, 300, 1, 30, .dwindow, 0⟩]

/-- Every field of the configuration image. -/
def cfgTable : List CfgInfo :=
  cfgTableZone ++ cfgTableIntake ++ cfgTableMedia ++ cfgTableFix ++ cfgTableTrail ++ cfgTableGlz ++ cfgTableHmp ++ cfgTableDmc ++ cfgTablePcie ++ cfgTablePwr ++ cfgTableCone ++ cfgTableFlt ++ cfgTableMgmt ++ cfgTablePlm

/-- The row of a field ID. -/
def cfgInfo (id : Nat) : Option CfgInfo := cfgTable.find? fun r => r.id = id

/-- The key of a field's value: ID and index. -/
def cfgKey (id idx : Nat) : Nat := id * 4096 + idx

/-- The default of a field, where one number gives it for every index. In the row of CFG_DMC_WR_HIGH and
CFG_DMC_WR_LOW the second field takes index 1 (R467). (DESIGN CHOICE, log entry 12.) -/
def cfgDefault (id idx : Nat) : Nat :=
  if id = Cfg.DMC_WR ∧ idx = 1 then 16 else match cfgInfo id with
  | some r => r.dflt
  | none => 0

end Sys2Proof.Machine
end

