-- ==== Sys2Proof/Machine/Regs.lean ====
section
/-!
DEFINITION. The register fields of manager BAR2 (Tables 0.1, 4.7 to 4.15, 5.15 to 5.24, 6.14 to 6.17, 7.12, 7.13,
8.12, 8.13, 9.11 to 9.13, 10.6 to 10.8, 11.7 to 11.11, 13.15 to 13.17, 14.6 to 14.8, 15.11 to 15.13, 16.7, 16.8,
17.13, 17.14 and 18.10): one key per field, and the table of what R6, R7 and R8 need. A field's key is its register's
offset × 32 plus its lowest bit. The tenant registers of Table 13.14 are part of each mailbox.
-/

namespace Sys2Proof.Machine

/-- Access types of R6. -/
inductive Access where
  | ro
  | rw
  | rw1c
  | wo
  deriving DecidableEq, Repr

/-- Kinds of R8 with the boundary the table names; none for fields software does not write. -/
inductive RegKind where
  | none_
  | static
  | live
  | stagedRound
  | stagedFlush
  | stagedEnable
  | stagedSize
  deriving DecidableEq, Repr

/-- One register field: key, width, access, value at cold power-on, kept by a function reset (R7), kind. -/
structure FieldInfo where
  key : Nat
  width : Nat
  access : Access
  cold : Nat
  keep : Bool
  kind : RegKind
  deriving DecidableEq, Repr

namespace Reg

/-- CZ_ID.PART (Table 0.1). -/
abbrev CZ_ID_PART : Nat := 0x00000 * 32 + 16
/-- CZ_ID.STEPPING (Table 0.1). -/
abbrev CZ_ID_STEPPING : Nat := 0x00000 * 32 + 8
/-- CZ_ID.FW_MAJOR (Table 0.1). -/
abbrev CZ_ID_FW_MAJOR : Nat := 0x00000 * 32 + 4
/-- CZ_ID.FW_MINOR (Table 0.1). -/
abbrev CZ_ID_FW_MINOR : Nat := 0x00000 * 32 + 0
/-- SIEVE_CFG.RULE_SEGS (Table 4.7). -/
abbrev SIEVE_CFG_RULE_SEGS : Nat := 0x07000 * 32 + 0
/-- SIEVE_CFG.SCRUB_MS (Table 4.7). -/
abbrev SIEVE_CFG_SCRUB_MS : Nat := 0x07000 * 32 + 8
/-- SIEVE_OCC.INFLIGHT (Table 4.8). -/
abbrev SIEVE_OCC_INFLIGHT : Nat := 0x07004 * 32 + 0
/-- SIEVE_OCC.RULES (Table 4.8). -/
abbrev SIEVE_OCC_RULES : Nat := 0x07004 * 32 + 16
/-- SIEVE_STATUS.FULL (Table 4.9). -/
abbrev SIEVE_STATUS_FULL : Nat := 0x07008 * 32 + 0
/-- SIEVE_STATUS.SHIFT_BUSY (Table 4.9). -/
abbrev SIEVE_STATUS_SHIFT_BUSY : Nat := 0x07008 * 32 + 1
/-- SIEVE_STATUS.SHIFT_QUEUED (Table 4.9). -/
abbrev SIEVE_STATUS_SHIFT_QUEUED : Nat := 0x07008 * 32 + 2
/-- SIEVE_STATUS.WALKS (Table 4.9). -/
abbrev SIEVE_STATUS_WALKS : Nat := 0x07008 * 32 + 8
/-- SIEVE_STATUS.RETIRED (Table 4.9). -/
abbrev SIEVE_STATUS_RETIRED : Nat := 0x07008 * 32 + 16
/-- SIEVE_FH_COUNT.COUNT (Table 4.10). -/
abbrev SIEVE_FH_COUNT_COUNT : Nat := 0x07010 * 32 + 0
/-- SIEVE_SCRUB_COUNT.COUNT (Table 4.11). -/
abbrev SIEVE_SCRUB_COUNT_COUNT : Nat := 0x07014 * 32 + 0
/-- SIEVE_LAST_FAULT.POS (Table 4.12). -/
abbrev SIEVE_LAST_FAULT_POS : Nat := 0x07018 * 32 + 0
/-- SIEVE_LAST_FAULT.KIND (Table 4.12). -/
abbrev SIEVE_LAST_FAULT_KIND : Nat := 0x07018 * 32 + 16
/-- SIEVE_LAST_FAULT.VALID (Table 4.12). -/
abbrev SIEVE_LAST_FAULT_VALID : Nat := 0x07018 * 32 + 31
/-- SIEVE_FULL_COUNT.COUNT (Table 4.13). -/
abbrev SIEVE_FULL_COUNT_COUNT : Nat := 0x0701C * 32 + 0
/-- SIEVE_INST_SEL.INST (Table 4.14). -/
abbrev SIEVE_INST_SEL_INST : Nat := 0x07020 * 32 + 0
/-- SIEVE_INST_QUOTA.QUOTA (Table 4.14). -/
abbrev SIEVE_INST_QUOTA_QUOTA : Nat := 0x07024 * 32 + 0
/-- SIEVE_INST_USED.USED (Table 4.14). -/
abbrev SIEVE_INST_USED_USED : Nat := 0x07028 * 32 + 0
/-- SIEVE_INST_USED.HELD (Table 4.14). -/
abbrev SIEVE_INST_USED_HELD : Nat := 0x07028 * 32 + 16
/-- SIEVE_DIAG_POS.POS (Table 4.15). -/
abbrev SIEVE_DIAG_POS_POS : Nat := 0x07040 * 32 + 0
/-- SIEVE_DIAG_POS.SRC (Table 4.15). -/
abbrev SIEVE_DIAG_POS_SRC : Nat := 0x07040 * 32 + 16
/-- SIEVE_DIAG_POS.READY (Table 4.15). -/
abbrev SIEVE_DIAG_POS_READY : Nat := 0x07040 * 32 + 31
/-- SIEVE_DIAG_DATA0.ENTRY (Table 4.15). -/
abbrev SIEVE_DIAG_DATA0_ENTRY : Nat := 0x07044 * 32 + 0
/-- SIEVE_DIAG_DATA1.ENTRY (Table 4.15). -/
abbrev SIEVE_DIAG_DATA1_ENTRY : Nat := 0x07048 * 32 + 0
/-- SIEVE_DIAG_DATA2.ENTRY (Table 4.15). -/
abbrev SIEVE_DIAG_DATA2_ENTRY : Nat := 0x0704C * 32 + 0
/-- SIEVE_DIAG_DATA3.ENTRY (Table 4.15). -/
abbrev SIEVE_DIAG_DATA3_ENTRY : Nat := 0x07050 * 32 + 0
/-- SIEVE_DIAG_DATA4.ENTRY (Table 4.15). -/
abbrev SIEVE_DIAG_DATA4_ENTRY : Nat := 0x07054 * 32 + 0
/-- FBE_CFG.ERS_SUSP_MAX (Table 5.15). -/
abbrev FBE_CFG_ERS_SUSP_MAX : Nat := 0x0B000 * 32 + 0
/-- FBE_CFG.MIN_PROGRESS (Table 5.15). -/
abbrev FBE_CFG_MIN_PROGRESS : Nat := 0x0B000 * 32 + 4
/-- FBE_CFG.GAP_READS (Table 5.15). -/
abbrev FBE_CFG_GAP_READS : Nat := 0x0B000 * 32 + 12
/-- FBE_CFG.SUSP_HOLD (Table 5.15). -/
abbrev FBE_CFG_SUSP_HOLD : Nat := 0x0B000 * 32 + 16
/-- FBE_CFG.RATE_EXT_EN (Table 5.15). -/
abbrev FBE_CFG_RATE_EXT_EN : Nat := 0x0B000 * 32 + 24
/-- FBE_CBC_WARN.THRESH (Table 5.16). -/
abbrev FBE_CBC_WARN_THRESH : Nat := 0x0B004 * 32 + 0
/-- FBE_CBC_COUNT.COUNT (Table 5.17). -/
abbrev FBE_CBC_COUNT_COUNT : Nat := 0x0B008 * 32 + 0
/-- FBE_PG_STATUS.CLOSED (Table 5.18). -/
abbrev FBE_PG_STATUS_CLOSED : Nat := 0x0B00C * 32 + 0
/-- FBE_PG_STATUS.EVENTS (Table 5.18). -/
abbrev FBE_PG_STATUS_EVENTS : Nat := 0x0B00C * 32 + 16
/-- FBE_REFUSE_LAST.CODE (Table 5.19). -/
abbrev FBE_REFUSE_LAST_CODE : Nat := 0x0B010 * 32 + 0
/-- FBE_REFUSE_LAST.DIE (Table 5.19). -/
abbrev FBE_REFUSE_LAST_DIE : Nat := 0x0B010 * 32 + 4
/-- FBE_REFUSE_LAST.VALID (Table 5.19). -/
abbrev FBE_REFUSE_LAST_VALID : Nat := 0x0B010 * 32 + 31
/-- FBE_REFUSE_COUNT.COUNT (Table 5.20). -/
abbrev FBE_REFUSE_COUNT_COUNT : Nat := 0x0B014 * 32 + 0
/-- FBE_CH_SEL.CH (Table 5.21). -/
abbrev FBE_CH_SEL_CH : Nat := 0x0B020 * 32 + 0
/-- FBE_CH_STATUS.RATE (Table 5.22). -/
abbrev FBE_CH_STATUS_RATE : Nat := 0x0B024 * 32 + 0
/-- FBE_CH_STATUS.FALLBACK (Table 5.22). -/
abbrev FBE_CH_STATUS_FALLBACK : Nat := 0x0B024 * 32 + 3
/-- FBE_CH_STATUS.DIES (Table 5.22). -/
abbrev FBE_CH_STATUS_DIES : Nat := 0x0B024 * 32 + 4
/-- FBE_CH_STATUS.RETRAINS (Table 5.22). -/
abbrev FBE_CH_STATUS_RETRAINS : Nat := 0x0B024 * 32 + 16
/-- FBE_DIE_SEL.DIE (Table 5.23). -/
abbrev FBE_DIE_SEL_DIE : Nat := 0x0B030 * 32 + 0
/-- FBE_DIE_STATUS.STATE (Table 5.24). -/
abbrev FBE_DIE_STATUS_STATE : Nat := 0x0B034 * 32 + 0
/-- FBE_DIE_STATUS.SUSP_COUNT (Table 5.24). -/
abbrev FBE_DIE_STATUS_SUSP_COUNT : Nat := 0x0B034 * 32 + 4
/-- FBE_DIE_STATUS.PRESENT (Table 5.24). -/
abbrev FBE_DIE_STATUS_PRESENT : Nat := 0x0B034 * 32 + 8
/-- FBE_DIE_STATUS.IN_GROUP (Table 5.24). -/
abbrev FBE_DIE_STATUS_IN_GROUP : Nat := 0x0B034 * 32 + 9
/-- FBE_DIE_STATUS.PLM_OK (Table 5.24). -/
abbrev FBE_DIE_STATUS_PLM_OK : Nat := 0x0B034 * 32 + 10
/-- FBE_DIE_STATUS.RETIRED (Table 5.24). -/
abbrev FBE_DIE_STATUS_RETIRED : Nat := 0x0B034 * 32 + 11
/-- FBE_DIE_STATUS.UTIL (Table 5.24). -/
abbrev FBE_DIE_STATUS_UTIL : Nat := 0x0B034 * 32 + 16
/-- FBE_MM_BLANKET.HELD (Table 6.14). -/
abbrev FBE_MM_BLANKET_HELD : Nat := 0x0B100 * 32 + 0
/-- FBE_MM_BLANKET.BACKLOG (Table 6.14). -/
abbrev FBE_MM_BLANKET_BACKLOG : Nat := 0x0B100 * 32 + 16
/-- FBE_MM_POOL_FREE.FREE (Table 6.14). -/
abbrev FBE_MM_POOL_FREE_FREE : Nat := 0x0B104 * 32 + 0
/-- FBE_MM_REFIRE.RUNNING (Table 6.15). -/
abbrev FBE_MM_REFIRE_RUNNING : Nat := 0x0B108 * 32 + 0
/-- FBE_MM_REFIRE.QUEUED (Table 6.15). -/
abbrev FBE_MM_REFIRE_QUEUED : Nat := 0x0B108 * 32 + 8
/-- FBE_MM_REFIRE_COUNT.DONE (Table 6.15). -/
abbrev FBE_MM_REFIRE_COUNT_DONE : Nat := 0x0B10C * 32 + 0
/-- FBE_MM_EARLY.TRANSIENT (Table 6.15). -/
abbrev FBE_MM_EARLY_TRANSIENT : Nat := 0x0B110 * 32 + 0
/-- FBE_MM_EARLY.CONFIRMED (Table 6.15). -/
abbrev FBE_MM_EARLY_CONFIRMED : Nat := 0x0B110 * 32 + 16
/-- FBE_MM_RETIRED.BLOCKS (Table 6.15). -/
abbrev FBE_MM_RETIRED_BLOCKS : Nat := 0x0B114 * 32 + 0
/-- FBE_MM_RETIRED.DIES (Table 6.15). -/
abbrev FBE_MM_RETIRED_DIES : Nat := 0x0B114 * 32 + 24
/-- FBE_MM_DS_SEL.DS (Table 6.16). -/
abbrev FBE_MM_DS_SEL_DS : Nat := 0x0B120 * 32 + 0
/-- FBE_MM_DS_STATUS.SPARE_PCT (Table 6.16). -/
abbrev FBE_MM_DS_STATUS_SPARE_PCT : Nat := 0x0B124 * 32 + 0
/-- FBE_MM_DS_STATUS.STAGE (Table 6.16). -/
abbrev FBE_MM_DS_STATUS_STAGE : Nat := 0x0B124 * 32 + 8
/-- FBE_MM_DS_STATUS.KEPT (Table 6.16). -/
abbrev FBE_MM_DS_STATUS_KEPT : Nat := 0x0B124 * 32 + 10
/-- FBE_MM_DS_STATUS.SPARE_ROWS (Table 6.16). -/
abbrev FBE_MM_DS_STATUS_SPARE_ROWS : Nat := 0x0B124 * 32 + 16
/-- FBE_MM_DS_WEAR.QLC_MEAN (Table 6.16). -/
abbrev FBE_MM_DS_WEAR_QLC_MEAN : Nat := 0x0B128 * 32 + 0
/-- FBE_MM_DS_WEAR.SLC_MEAN (Table 6.16). -/
abbrev FBE_MM_DS_WEAR_SLC_MEAN : Nat := 0x0B128 * 32 + 16
/-- FBE_MM_DS_FI.FI_MAX (Table 6.16). -/
abbrev FBE_MM_DS_FI_FI_MAX : Nat := 0x0B12C * 32 + 0
/-- FBE_MM_BLK_SEL.DIE (Table 6.17). -/
abbrev FBE_MM_BLK_SEL_DIE : Nat := 0x0B130 * 32 + 0
/-- FBE_MM_BLK_SEL.PLANE (Table 6.17). -/
abbrev FBE_MM_BLK_SEL_PLANE : Nat := 0x0B130 * 32 + 14
/-- FBE_MM_BLK_SEL.BLOCK (Table 6.17). -/
abbrev FBE_MM_BLK_SEL_BLOCK : Nat := 0x0B130 * 32 + 17
/-- FBE_MM_BLK_STATUS.STATE (Table 6.17). -/
abbrev FBE_MM_BLK_STATUS_STATE : Nat := 0x0B134 * 32 + 0
/-- FBE_MM_BLK_STATUS.MODE (Table 6.17). -/
abbrev FBE_MM_BLK_STATUS_MODE : Nat := 0x0B134 * 32 + 3
/-- FBE_MM_BLK_STATUS.ROLE (Table 6.17). -/
abbrev FBE_MM_BLK_STATUS_ROLE : Nat := 0x0B134 * 32 + 4
/-- FBE_MM_BLK_STATUS.SUSPECT (Table 6.17). -/
abbrev FBE_MM_BLK_STATUS_SUSPECT : Nat := 0x0B134 * 32 + 7
/-- FBE_MM_BLK_STATUS.NEXT (Table 6.17). -/
abbrev FBE_MM_BLK_STATUS_NEXT : Nat := 0x0B134 * 32 + 8
/-- FBE_MM_BLK_WEAR.ERASES (Table 6.17). -/
abbrev FBE_MM_BLK_WEAR_ERASES : Nat := 0x0B138 * 32 + 0
/-- FBE_MM_BLK_WEAR.ROW (Table 6.17). -/
abbrev FBE_MM_BLK_WEAR_ROW : Nat := 0x0B138 * 32 + 16
/-- FBE_LDPC_RETRY.COUNT (Table 7.12). -/
abbrev FBE_LDPC_RETRY_COUNT : Nat := 0x0B200 * 32 + 0
/-- FBE_LDPC_SOFT.COUNT (Table 7.12). -/
abbrev FBE_LDPC_SOFT_COUNT : Nat := 0x0B204 * 32 + 0
/-- FBE_LDPC_TRANSIENT.COUNT (Table 7.12). -/
abbrev FBE_LDPC_TRANSIENT_COUNT : Nat := 0x0B208 * 32 + 0
/-- FBE_LDPC_CONFIRMED.COUNT (Table 7.12). -/
abbrev FBE_LDPC_CONFIRMED_COUNT : Nat := 0x0B20C * 32 + 0
/-- FBE_LDPC_REBUILT.COUNT (Table 7.12). -/
abbrev FBE_LDPC_REBUILT_COUNT : Nat := 0x0B210 * 32 + 0
/-- FLT_ECC_CTRL.RUN (Table 7.13). -/
abbrev FLT_ECC_CTRL_RUN : Nat := 0x03800 * 32 + 0
/-- FLT_ECC_CTRL.BUSY (Table 7.13). -/
abbrev FLT_ECC_CTRL_BUSY : Nat := 0x03800 * 32 + 1
/-- FLT_ECC_RESULT.TESTED (Table 7.13). -/
abbrev FLT_ECC_RESULT_TESTED : Nat := 0x03804 * 32 + 0
/-- FLT_ECC_RESULT.FAILED (Table 7.13). -/
abbrev FLT_ECC_RESULT_FAILED : Nat := 0x03804 * 32 + 16
/-- FLT_ECC_CORR.COUNT (Table 7.13). -/
abbrev FLT_ECC_CORR_COUNT : Nat := 0x03808 * 32 + 0
/-- FLT_ECC_UNCORR.COUNT (Table 7.13). -/
abbrev FLT_ECC_UNCORR_COUNT : Nat := 0x0380C * 32 + 0
/-- FLT_ECC_REMAP_SEL.GROUP (Table 7.13). -/
abbrev FLT_ECC_REMAP_SEL_GROUP : Nat := 0x03810 * 32 + 0
/-- FLT_ECC_REMAP_STATUS.USED (Table 7.13). -/
abbrev FLT_ECC_REMAP_STATUS_USED : Nat := 0x03814 * 32 + 0
/-- FLT_ECC_REMAP_STATUS.FULL (Table 7.13). -/
abbrev FLT_ECC_REMAP_STATUS_FULL : Nat := 0x03814 * 32 + 5
/-- FLT_ECC_REMAP_STATUS.OUT (Table 7.13). -/
abbrev FLT_ECC_REMAP_STATUS_OUT : Nat := 0x03814 * 32 + 6
/-- PWR_LOSS_STATUS.LAST (Table 8.12). -/
abbrev PWR_LOSS_STATUS_LAST : Nat := 0x05100 * 32 + 0
/-- PWR_LOSS_STATUS.LOST (Table 8.12). -/
abbrev PWR_LOSS_STATUS_LOST : Nat := 0x05100 * 32 + 2
/-- PWR_LOSS_STATUS.BROWNOUT (Table 8.12). -/
abbrev PWR_LOSS_STATUS_BROWNOUT : Nat := 0x05100 * 32 + 3
/-- PWR_LOSS_STATUS.DUMP_MS (Table 8.12). -/
abbrev PWR_LOSS_STATUS_DUMP_MS : Nat := 0x05100 * 32 + 8
/-- PWR_LOSS_STATUS.GLITCHES (Table 8.12). -/
abbrev PWR_LOSS_STATUS_GLITCHES : Nat := 0x05100 * 32 + 16
/-- PWR_EXPOSURE.UNITS (Table 8.12). -/
abbrev PWR_EXPOSURE_UNITS : Nat := 0x05104 * 32 + 0
/-- PWR_EXPOSURE_LIMIT.LIMIT (Table 8.12). -/
abbrev PWR_EXPOSURE_LIMIT_LIMIT : Nat := 0x05108 * 32 + 0
/-- PWR_TRAIL_CFG.FLUSH_MS (Table 8.13). -/
abbrev PWR_TRAIL_CFG_FLUSH_MS : Nat := 0x05110 * 32 + 0
/-- PWR_TRAIL_STATUS.SINCE_CKPT (Table 8.13). -/
abbrev PWR_TRAIL_STATUS_SINCE_CKPT : Nat := 0x05114 * 32 + 0
/-- PWR_TRAIL_STATUS.CKPT_BUSY (Table 8.13). -/
abbrev PWR_TRAIL_STATUS_CKPT_BUSY : Nat := 0x05114 * 32 + 16
/-- PWR_TRAIL_STATUS.HELD (Table 8.13). -/
abbrev PWR_TRAIL_STATUS_HELD : Nat := 0x05114 * 32 + 17
/-- PWR_TRAIL_CKPTS.COUNT (Table 8.13). -/
abbrev PWR_TRAIL_CKPTS_COUNT : Nat := 0x05118 * 32 + 0
/-- GLZ_CFG.DUMMY_MAX (Table 9.11). -/
abbrev GLZ_CFG_DUMMY_MAX : Nat := 0x09000 * 32 + 0
/-- GLZ_STATUS.ALARM (Table 9.12). -/
abbrev GLZ_STATUS_ALARM : Nat := 0x09004 * 32 + 0
/-- GLZ_STATUS.SOURCE (Table 9.12). -/
abbrev GLZ_STATUS_SOURCE : Nat := 0x09004 * 32 + 1
/-- GLZ_STATUS.READY (Table 9.12). -/
abbrev GLZ_STATUS_READY : Nat := 0x09004 * 32 + 4
/-- GLZ_STATUS.CONTEXTS (Table 9.12). -/
abbrev GLZ_STATUS_CONTEXTS : Nat := 0x09004 * 32 + 16
/-- GLZ_STATUS.DRBG_FAIL (Table 9.12). -/
abbrev GLZ_STATUS_DRBG_FAIL : Nat := 0x09004 * 32 + 23
/-- GLZ_ALARM_COUNT.COUNT (Table 9.12). -/
abbrev GLZ_ALARM_COUNT_COUNT : Nat := 0x09008 * 32 + 0
/-- GLZ_AUTH_FAIL.COUNT (Table 9.12). -/
abbrev GLZ_AUTH_FAIL_COUNT : Nat := 0x0900C * 32 + 0
/-- GLZ_SUSPEND_COUNT.COUNT (Table 9.12). -/
abbrev GLZ_SUSPEND_COUNT_COUNT : Nat := 0x09010 * 32 + 0
/-- GLZ_SLOT_SEL.SLOT (Table 9.13). -/
abbrev GLZ_SLOT_SEL_SLOT : Nat := 0x09020 * 32 + 0
/-- GLZ_SLOT_STATUS.STATE (Table 9.13). -/
abbrev GLZ_SLOT_STATUS_STATE : Nat := 0x09024 * 32 + 0
/-- GLZ_SLOT_STATUS.MODE (Table 9.13). -/
abbrev GLZ_SLOT_STATUS_MODE : Nat := 0x09024 * 32 + 2
/-- GLZ_SLOT_STATUS.REASON (Table 9.13). -/
abbrev GLZ_SLOT_STATUS_REASON : Nat := 0x09024 * 32 + 3
/-- GLZ_SLOT_STATUS.GEN (Table 9.13). -/
abbrev GLZ_SLOT_STATUS_GEN : Nat := 0x09024 * 32 + 5
/-- GLZ_SLOT_STATUS.OWNER (Table 9.13). -/
abbrev GLZ_SLOT_STATUS_OWNER : Nat := 0x09024 * 32 + 13
/-- HMP_POOL_SEL.POOL (Table 10.6). -/
abbrev HMP_POOL_SEL_POOL : Nat := 0x08000 * 32 + 0
/-- HMP_POOL_THRESH.AMBER (Table 10.6). -/
abbrev HMP_POOL_THRESH_AMBER : Nat := 0x08004 * 32 + 0
/-- HMP_POOL_THRESH.RED (Table 10.6). -/
abbrev HMP_POOL_THRESH_RED : Nat := 0x08004 * 32 + 8
/-- HMP_POOL_STATUS.USED (Table 10.6). -/
abbrev HMP_POOL_STATUS_USED : Nat := 0x08008 * 32 + 0
/-- HMP_POOL_STATUS.AMBER (Table 10.6). -/
abbrev HMP_POOL_STATUS_AMBER : Nat := 0x08008 * 32 + 22
/-- HMP_POOL_STATUS.RED (Table 10.6). -/
abbrev HMP_POOL_STATUS_RED : Nat := 0x08008 * 32 + 23
/-- HMP_POOL_STATUS.REBUILD (Table 10.6). -/
abbrev HMP_POOL_STATUS_REBUILD : Nat := 0x08008 * 32 + 24
/-- HMP_POOL_SIZE.UNITS (Table 10.6). -/
abbrev HMP_POOL_SIZE_UNITS : Nat := 0x0800C * 32 + 0
/-- HMP_INST_SEL.INST (Table 10.7). -/
abbrev HMP_INST_SEL_INST : Nat := 0x08010 * 32 + 0
/-- HMP_INST_SEL.POOL (Table 10.7). -/
abbrev HMP_INST_SEL_POOL : Nat := 0x08010 * 32 + 9
/-- HMP_INST_QUOTA.QUOTA (Table 10.7). -/
abbrev HMP_INST_QUOTA_QUOTA : Nat := 0x08014 * 32 + 0
/-- HMP_INST_SHARE.SHARE (Table 10.7). -/
abbrev HMP_INST_SHARE_SHARE : Nat := 0x08018 * 32 + 0
/-- HMP_INST_USED.USED (Table 10.7). -/
abbrev HMP_INST_USED_USED : Nat := 0x0801C * 32 + 0
/-- HMP_OWN_COUNT.COUNT (Table 10.8). -/
abbrev HMP_OWN_COUNT_COUNT : Nat := 0x08020 * 32 + 0
/-- HMP_OWN_LAST.POOL (Table 10.8). -/
abbrev HMP_OWN_LAST_POOL : Nat := 0x08024 * 32 + 0
/-- HMP_OWN_LAST.UNIT (Table 10.8). -/
abbrev HMP_OWN_LAST_UNIT : Nat := 0x08024 * 32 + 3
/-- HMP_OWN_LAST.REQ_KIND (Table 10.8). -/
abbrev HMP_OWN_LAST_REQ_KIND : Nat := 0x08024 * 32 + 25
/-- HMP_OWN_LAST.OP (Table 10.8). -/
abbrev HMP_OWN_LAST_OP : Nat := 0x08024 * 32 + 28
/-- HMP_OWN_LAST.VALID (Table 10.8). -/
abbrev HMP_OWN_LAST_VALID : Nat := 0x08024 * 32 + 31
/-- DMC_CFG.AGE_CAP (Table 11.7). -/
abbrev DMC_CFG_AGE_CAP : Nat := 0x0A000 * 32 + 0
/-- DMC_CFG.REF_POSTPONE (Table 11.7). -/
abbrev DMC_CFG_REF_POSTPONE : Nat := 0x0A000 * 32 + 5
/-- DMC_CFG.WR_HIGH (Table 11.7). -/
abbrev DMC_CFG_WR_HIGH : Nat := 0x0A000 * 32 + 8
/-- DMC_CFG.WR_LOW (Table 11.7). -/
abbrev DMC_CFG_WR_LOW : Nat := 0x0A000 * 32 + 16
/-- DMC_CFG.IDLE_CLOSE (Table 11.7). -/
abbrev DMC_CFG_IDLE_CLOSE : Nat := 0x0A000 * 32 + 24
/-- DMC_STATUS.RATE (Table 11.8). -/
abbrev DMC_STATUS_RATE : Nat := 0x0A004 * 32 + 0
/-- DMC_STATUS.FALLBACK (Table 11.8). -/
abbrev DMC_STATUS_FALLBACK : Nat := 0x0A004 * 32 + 3
/-- DMC_STATUS.RETRAIN (Table 11.8). -/
abbrev DMC_STATUS_RETRAIN : Nat := 0x0A004 * 32 + 4
/-- DMC_CH_SEL.CH (Table 11.9). -/
abbrev DMC_CH_SEL_CH : Nat := 0x0A008 * 32 + 0
/-- DMC_CH_STATUS.QUEUED (Table 11.9). -/
abbrev DMC_CH_STATUS_QUEUED : Nat := 0x0A00C * 32 + 0
/-- DMC_CH_STATUS.REMAP_USED (Table 11.9). -/
abbrev DMC_CH_STATUS_REMAP_USED : Nat := 0x0A00C * 32 + 9
/-- DMC_CH_STATUS.REMAP_FULL (Table 11.9). -/
abbrev DMC_CH_STATUS_REMAP_FULL : Nat := 0x0A00C * 32 + 15
/-- DMC_CH_STATUS.FORCED_REF (Table 11.9). -/
abbrev DMC_CH_STATUS_FORCED_REF : Nat := 0x0A00C * 32 + 16
/-- DMC_ERR_CORR.COUNT (Table 11.10). -/
abbrev DMC_ERR_CORR_COUNT : Nat := 0x0A010 * 32 + 0
/-- DMC_ERR_POISON.COUNT (Table 11.10). -/
abbrev DMC_ERR_POISON_COUNT : Nat := 0x0A014 * 32 + 0
/-- DMC_ERR_PRIV.COUNT (Table 11.10). -/
abbrev DMC_ERR_PRIV_COUNT : Nat := 0x0A018 * 32 + 0
/-- DMC_CA_REPLAY.TRANSIENT (Table 11.10). -/
abbrev DMC_CA_REPLAY_TRANSIENT : Nat := 0x0A01C * 32 + 0
/-- DMC_CA_REPLAY.LASTING (Table 11.10). -/
abbrev DMC_CA_REPLAY_LASTING : Nat := 0x0A01C * 32 + 24
/-- DMC_REMAP_SEL.ENTRY (Table 11.11). -/
abbrev DMC_REMAP_SEL_ENTRY : Nat := 0x0A030 * 32 + 0
/-- DMC_REMAP_ENTRY.ADDR (Table 11.11). -/
abbrev DMC_REMAP_ENTRY_ADDR : Nat := 0x0A034 * 32 + 0
/-- DMC_REMAP_ENTRY.VALID (Table 11.11). -/
abbrev DMC_REMAP_ENTRY_VALID : Nat := 0x0A034 * 32 + 31
/-- MBX_INST_SEL.INST (Table 13.15). -/
abbrev MBX_INST_SEL_INST : Nat := 0x01800 * 32 + 0
/-- MBX_INST_DOORBELL.SEND (Table 13.15). -/
abbrev MBX_INST_DOORBELL_SEND : Nat := 0x01804 * 32 + 0
/-- MBX_INST_ACK.SEQUENCE (Table 13.15). -/
abbrev MBX_INST_ACK_SEQUENCE : Nat := 0x01808 * 32 + 0
/-- MBX_INST_ACK.STATUS (Table 13.15). -/
abbrev MBX_INST_ACK_STATUS : Nat := 0x01808 * 32 + 16
/-- MBX_INST_STATUS.OUT_BUSY (Table 13.15). -/
abbrev MBX_INST_STATUS_OUT_BUSY : Nat := 0x0180C * 32 + 0
/-- MBX_INST_STATUS.IN_FULL (Table 13.15). -/
abbrev MBX_INST_STATUS_IN_FULL : Nat := 0x0180C * 32 + 1
/-- MBX_INST_STATUS.ERR (Table 13.15). -/
abbrev MBX_INST_STATUS_ERR : Nat := 0x0180C * 32 + 2
/-- MBX_INST_STATUS.DROPPED (Table 13.15). -/
abbrev MBX_INST_STATUS_DROPPED : Nat := 0x0180C * 32 + 3
/-- MBX_INST_STATUS.ACK_STATUS (Table 13.15). -/
abbrev MBX_INST_STATUS_ACK_STATUS : Nat := 0x0180C * 32 + 16
/-- MBX_MGR_CTRL.VECTOR (Table 13.15). -/
abbrev MBX_MGR_CTRL_VECTOR : Nat := 0x01810 * 32 + 0
/-- MBX_MGR_CTRL.IEN (Table 13.15). -/
abbrev MBX_MGR_CTRL_IEN : Nat := 0x01810 * 32 + 12
/-- MBX_PEND0.IN_FULL (Table 13.15). -/
abbrev MBX_PEND0_IN_FULL : Nat := 0x01840 * 32 + 0
/-- MBX_PEND1.IN_FULL (Table 13.15). -/
abbrev MBX_PEND1_IN_FULL : Nat := 0x01844 * 32 + 0
/-- MBX_PEND2.IN_FULL (Table 13.15). -/
abbrev MBX_PEND2_IN_FULL : Nat := 0x01848 * 32 + 0
/-- MBX_PEND3.IN_FULL (Table 13.15). -/
abbrev MBX_PEND3_IN_FULL : Nat := 0x0184C * 32 + 0
/-- MBX_PEND4.IN_FULL (Table 13.15). -/
abbrev MBX_PEND4_IN_FULL : Nat := 0x01850 * 32 + 0
/-- MBX_PEND5.IN_FULL (Table 13.15). -/
abbrev MBX_PEND5_IN_FULL : Nat := 0x01854 * 32 + 0
/-- MBX_PEND6.IN_FULL (Table 13.15). -/
abbrev MBX_PEND6_IN_FULL : Nat := 0x01858 * 32 + 0
/-- MBX_PEND7.IN_FULL (Table 13.15). -/
abbrev MBX_PEND7_IN_FULL : Nat := 0x0185C * 32 + 0
/-- MBX_PEND8.IN_FULL (Table 13.15). -/
abbrev MBX_PEND8_IN_FULL : Nat := 0x01860 * 32 + 0
/-- MBX_PEND9.IN_FULL (Table 13.15). -/
abbrev MBX_PEND9_IN_FULL : Nat := 0x01864 * 32 + 0
/-- MBX_PEND10.IN_FULL (Table 13.15). -/
abbrev MBX_PEND10_IN_FULL : Nat := 0x01868 * 32 + 0
/-- MBX_PEND11.IN_FULL (Table 13.15). -/
abbrev MBX_PEND11_IN_FULL : Nat := 0x0186C * 32 + 0
/-- MBX_PEND12.IN_FULL (Table 13.15). -/
abbrev MBX_PEND12_IN_FULL : Nat := 0x01870 * 32 + 0
/-- MBX_PEND13.IN_FULL (Table 13.15). -/
abbrev MBX_PEND13_IN_FULL : Nat := 0x01874 * 32 + 0
/-- MBX_PEND14.IN_FULL (Table 13.15). -/
abbrev MBX_PEND14_IN_FULL : Nat := 0x01878 * 32 + 0
/-- MBX_PEND15.IN_FULL (Table 13.15). -/
abbrev MBX_PEND15_IN_FULL : Nat := 0x0187C * 32 + 0
/-- MIG_SEL.INST (Table 13.16). -/
abbrev MIG_SEL_INST : Nat := 0x40000 * 32 + 0
/-- MIG_CTRL.ENABLE (Table 13.16). -/
abbrev MIG_CTRL_ENABLE : Nat := 0x40004 * 32 + 0
/-- MIG_CTRL.HARVEST (Table 13.16). -/
abbrev MIG_CTRL_HARVEST : Nat := 0x40004 * 32 + 1
/-- MIG_STATUS.ACTIVE (Table 13.16). -/
abbrev MIG_STATUS_ACTIVE : Nat := 0x40008 * 32 + 0
/-- MIG_STATUS.HARVEST_BUSY (Table 13.16). -/
abbrev MIG_STATUS_HARVEST_BUSY : Nat := 0x40008 * 32 + 1
/-- MIG_STATUS.OUTSIDE (Table 13.16). -/
abbrev MIG_STATUS_OUTSIDE : Nat := 0x40008 * 32 + 2
/-- MIG_STATUS.REFUSED (Table 13.16). -/
abbrev MIG_STATUS_REFUSED : Nat := 0x40008 * 32 + 3
/-- MIG_STATUS.RPT_LOST (Table 13.16). -/
abbrev MIG_STATUS_RPT_LOST : Nat := 0x40008 * 32 + 16
/-- MIG_INST_STATE.STATE (Table 13.16). -/
abbrev MIG_INST_STATE_STATE : Nat := 0x4000C * 32 + 0
/-- MIG_WIN_BASE_LO.BASE (Table 13.16). -/
abbrev MIG_WIN_BASE_LO_BASE : Nat := 0x40010 * 32 + 0
/-- MIG_WIN_BASE_HI.BASE (Table 13.16). -/
abbrev MIG_WIN_BASE_HI_BASE : Nat := 0x40014 * 32 + 0
/-- MIG_WIN_PAGES.PAGES (Table 13.16). -/
abbrev MIG_WIN_PAGES_PAGES : Nat := 0x40018 * 32 + 0
/-- MIG_LOG_A_LO.ADDR (Table 13.16). -/
abbrev MIG_LOG_A_LO_ADDR : Nat := 0x40020 * 32 + 0
/-- MIG_LOG_A_HI.ADDR (Table 13.16). -/
abbrev MIG_LOG_A_HI_ADDR : Nat := 0x40024 * 32 + 0
/-- MIG_LOG_B_LO.ADDR (Table 13.16). -/
abbrev MIG_LOG_B_LO_ADDR : Nat := 0x40028 * 32 + 0
/-- MIG_LOG_B_HI.ADDR (Table 13.16). -/
abbrev MIG_LOG_B_HI_ADDR : Nat := 0x4002C * 32 + 0
/-- MIG_OUTSIDE.COUNT (Table 13.16). -/
abbrev MIG_OUTSIDE_COUNT : Nat := 0x40030 * 32 + 0
/-- MIG_RPT_BASE_LO.ADDR (Table 13.17). -/
abbrev MIG_RPT_BASE_LO_ADDR : Nat := 0x40100 * 32 + 0
/-- MIG_RPT_BASE_HI.ADDR (Table 13.17). -/
abbrev MIG_RPT_BASE_HI_ADDR : Nat := 0x40104 * 32 + 0
/-- MIG_RPT_SIZE.SIZE (Table 13.17). -/
abbrev MIG_RPT_SIZE_SIZE : Nat := 0x40108 * 32 + 0
/-- MIG_RPT_HEAD.HEAD (Table 13.17). -/
abbrev MIG_RPT_HEAD_HEAD : Nat := 0x4010C * 32 + 0
/-- MIG_RPT_TAIL.TAIL (Table 13.17). -/
abbrev MIG_RPT_TAIL_TAIL : Nat := 0x40110 * 32 + 0
/-- WMK_ISSUE.CLASS (Table 14.6). -/
abbrev WMK_ISSUE_CLASS : Nat := 0x02000 * 32 + 0
/-- WMK_ISSUE.SCOPE (Table 14.6). -/
abbrev WMK_ISSUE_SCOPE : Nat := 0x02000 * 32 + 2
/-- WMK_ISSUE.TARGET (Table 14.6). -/
abbrev WMK_ISSUE_TARGET : Nat := 0x02000 * 32 + 4
/-- WMK_ISSUE.SNAP (Table 14.6). -/
abbrev WMK_ISSUE_SNAP : Nat := 0x02000 * 32 + 13
/-- WMK_CTRL.VECTOR (Table 14.6). -/
abbrev WMK_CTRL_VECTOR : Nat := 0x02010 * 32 + 0
/-- WMK_CTRL.IEN (Table 14.6). -/
abbrev WMK_CTRL_IEN : Nat := 0x02010 * 32 + 11
/-- WMK_LAST_ID.ID (Table 14.7). -/
abbrev WMK_LAST_ID_ID : Nat := 0x02004 * 32 + 0
/-- WMK_DONE.ID (Table 14.7). -/
abbrev WMK_DONE_ID : Nat := 0x02008 * 32 + 0
/-- WMK_DONE.RESULT (Table 14.7). -/
abbrev WMK_DONE_RESULT : Nat := 0x02008 * 32 + 16
/-- WMK_STATUS.OUTSTANDING (Table 14.7). -/
abbrev WMK_STATUS_OUTSTANDING : Nat := 0x0200C * 32 + 0
/-- WMK_STATUS.OVERRUN (Table 14.7). -/
abbrev WMK_STATUS_OVERRUN : Nat := 0x0200C * 32 + 5
/-- WMK_STATUS.REFUSED (Table 14.7). -/
abbrev WMK_STATUS_REFUSED : Nat := 0x0200C * 32 + 6
/-- WMK_STATUS.TREE (Table 14.7). -/
abbrev WMK_STATUS_TREE : Nat := 0x0200C * 32 + 7
/-- WMK_COUNT.COUNT (Table 14.7). -/
abbrev WMK_COUNT_COUNT : Nat := 0x02018 * 32 + 0
/-- WMK_SNAP.ID (Table 14.8). -/
abbrev WMK_SNAP_ID : Nat := 0x02014 * 32 + 0
/-- WMK_SNAP.VALID (Table 14.8). -/
abbrev WMK_SNAP_VALID : Nat := 0x02014 * 32 + 16
/-- WMK_SNAP.VIEW (Table 14.8). -/
abbrev WMK_SNAP_VIEW : Nat := 0x02014 * 32 + 17
/-- PWR_STATUS.PS (Table 15.11). -/
abbrev PWR_STATUS_PS : Nat := 0x05000 * 32 + 0
/-- PWR_STATUS.TARGET (Table 15.11). -/
abbrev PWR_STATUS_TARGET : Nat := 0x05000 * 32 + 3
/-- PWR_STATUS.OFFREAD (Table 15.11). -/
abbrev PWR_STATUS_OFFREAD : Nat := 0x05000 * 32 + 6
/-- PWR_STATUS.LTR_CLIP (Table 15.11). -/
abbrev PWR_STATUS_LTR_CLIP : Nat := 0x05000 * 32 + 7
/-- PWR_STATUS.AVS_HELD (Table 15.11). -/
abbrev PWR_STATUS_AVS_HELD : Nat := 0x05000 * 32 + 8
/-- PWR_STATUS.G (Table 15.11). -/
abbrev PWR_STATUS_G : Nat := 0x05000 * 32 + 9
/-- PWR_VOTE_LAST.DOMAIN (Table 15.11). -/
abbrev PWR_VOTE_LAST_DOMAIN : Nat := 0x05004 * 32 + 0
/-- PWR_VOTE_LAST.REASON (Table 15.11). -/
abbrev PWR_VOTE_LAST_REASON : Nat := 0x05004 * 32 + 7
/-- PWR_VOTE_LAST.TARGET (Table 15.11). -/
abbrev PWR_VOTE_LAST_TARGET : Nat := 0x05004 * 32 + 9
/-- PWR_VOTE_LAST.VALID (Table 15.11). -/
abbrev PWR_VOTE_LAST_VALID : Nat := 0x05004 * 32 + 31
/-- PWR_VOTE_COUNT.REFUSALS (Table 15.11). -/
abbrev PWR_VOTE_COUNT_REFUSALS : Nat := 0x05008 * 32 + 0
/-- PWR_VOTE_COUNT.ABORTS (Table 15.11). -/
abbrev PWR_VOTE_COUNT_ABORTS : Nat := 0x05008 * 32 + 16
/-- PWR_DOM_SEL.DOMAIN (Table 15.12). -/
abbrev PWR_DOM_SEL_DOMAIN : Nat := 0x05010 * 32 + 0
/-- PWR_DOM_STATUS.STATE (Table 15.12). -/
abbrev PWR_DOM_STATUS_STATE : Nat := 0x05014 * 32 + 0
/-- PWR_DOM_STATUS.IDLE (Table 15.12). -/
abbrev PWR_DOM_STATUS_IDLE : Nat := 0x05014 * 32 + 2
/-- PWR_DOM_STATUS.AUTO_WAKES (Table 15.12). -/
abbrev PWR_DOM_STATUS_AUTO_WAKES : Nat := 0x05014 * 32 + 16
/-- PWR_AVS_STATUS.CONFIRMED (Table 15.13). -/
abbrev PWR_AVS_STATUS_CONFIRMED : Nat := 0x05020 * 32 + 0
/-- PWR_AVS_STATUS.REQUESTED (Table 15.13). -/
abbrev PWR_AVS_STATUS_REQUESTED : Nat := 0x05020 * 32 + 16
/-- PWR_AVS_STATUS.BUSY (Table 15.13). -/
abbrev PWR_AVS_STATUS_BUSY : Nat := 0x05020 * 32 + 26
/-- PWR_AVS_FAIL.RETRIES (Table 15.13). -/
abbrev PWR_AVS_FAIL_RETRIES : Nat := 0x05024 * 32 + 0
/-- PWR_AVS_FAIL.FAILURES (Table 15.13). -/
abbrev PWR_AVS_FAIL_FAILURES : Nat := 0x05024 * 32 + 16
/-- PWR_WAKE_LAST.SOURCE (Table 15.13). -/
abbrev PWR_WAKE_LAST_SOURCE : Nat := 0x05028 * 32 + 0
/-- PWR_WAKE_LAST.EXIT_US (Table 15.13). -/
abbrev PWR_WAKE_LAST_EXIT_US : Nat := 0x05028 * 32 + 8
/-- CONE_CFG.T_THROTTLE (Table 16.7). -/
abbrev CONE_CFG_T_THROTTLE : Nat := 0x06000 * 32 + 0
/-- CONE_CFG.K (Table 16.7). -/
abbrev CONE_CFG_K : Nat := 0x06000 * 32 + 7
/-- CONE_CFG.FLOOR (Table 16.7). -/
abbrev CONE_CFG_FLOOR : Nat := 0x06000 * 32 + 11
/-- CONE_CFG.NAND_THROTTLE (Table 16.7). -/
abbrev CONE_CFG_NAND_THROTTLE : Nat := 0x06000 * 32 + 17
/-- CONE_CFG.AVS_DELTA (Table 16.7). -/
abbrev CONE_CFG_AVS_DELTA : Nat := 0x06000 * 32 + 24
/-- CONE_STATUS.F (Table 16.7). -/
abbrev CONE_STATUS_F : Nat := 0x06004 * 32 + 0
/-- CONE_STATUS.HOT_NODE (Table 16.7). -/
abbrev CONE_STATUS_HOT_NODE : Nat := 0x06004 * 32 + 7
/-- CONE_STATUS.AVS_DOWN (Table 16.7). -/
abbrev CONE_STATUS_AVS_DOWN : Nat := 0x06004 * 32 + 12
/-- CONE_STATUS.DIODE_FAIL (Table 16.7). -/
abbrev CONE_STATUS_DIODE_FAIL : Nat := 0x06004 * 32 + 13
/-- CONE_STATUS.TRIP (Table 16.7). -/
abbrev CONE_STATUS_TRIP : Nat := 0x06004 * 32 + 15
/-- CONE_TEMP.T_HOT (Table 16.8). -/
abbrev CONE_TEMP_T_HOT : Nat := 0x06008 * 32 + 0
/-- CONE_TEMP.T_NAND (Table 16.8). -/
abbrev CONE_TEMP_T_NAND : Nat := 0x06008 * 32 + 12
/-- CONE_ANCHOR.BASE (Table 16.8). -/
abbrev CONE_ANCHOR_BASE : Nat := 0x0600C * 32 + 0
/-- CONE_ANCHOR.RESIDUAL (Table 16.8). -/
abbrev CONE_ANCHOR_RESIDUAL : Nat := 0x0600C * 32 + 12
/-- CONE_POWER.TOTAL (Table 16.8). -/
abbrev CONE_POWER_TOTAL : Nat := 0x06010 * 32 + 0
/-- CONE_POWER.CORE (Table 16.8). -/
abbrev CONE_POWER_CORE : Nat := 0x06010 * 32 + 16
/-- CONE_NODE_SEL.NODE (Table 16.8). -/
abbrev CONE_NODE_SEL_NODE : Nat := 0x06014 * 32 + 0
/-- CONE_NODE.TEMP (Table 16.8). -/
abbrev CONE_NODE_TEMP : Nat := 0x06018 * 32 + 0
/-- CONE_NODE.POWER (Table 16.8). -/
abbrev CONE_NODE_POWER : Nat := 0x06018 * 32 + 12
/-- CONE_HIST_SEL.BIN (Table 16.8). -/
abbrev CONE_HIST_SEL_BIN : Nat := 0x06020 * 32 + 0
/-- CONE_HIST.SECONDS (Table 16.8). -/
abbrev CONE_HIST_SECONDS : Nat := 0x06024 * 32 + 0
/-- CONE_LIFE_AVG.AVG (Table 16.8). -/
abbrev CONE_LIFE_AVG_AVG : Nat := 0x06028 * 32 + 0
/-- FLT_CFG.LATCH_CLASS (Table 17.13). -/
abbrev FLT_CFG_LATCH_CLASS : Nat := 0x03000 * 32 + 0
/-- FLT_CFG.IEN (Table 17.13). -/
abbrev FLT_CFG_IEN : Nat := 0x03000 * 32 + 2
/-- FLT_CFG.VECTOR (Table 17.13). -/
abbrev FLT_CFG_VECTOR : Nat := 0x03000 * 32 + 3
/-- FLT_STATUS.GRAVE (Table 17.13). -/
abbrev FLT_STATUS_GRAVE : Nat := 0x03004 * 32 + 0
/-- FLT_STATUS.HANDLER_BUSY (Table 17.13). -/
abbrev FLT_STATUS_HANDLER_BUSY : Nat := 0x03004 * 32 + 1
/-- FLT_STATUS.QUEUED (Table 17.13). -/
abbrev FLT_STATUS_QUEUED : Nat := 0x03004 * 32 + 2
/-- FLT_STATUS.SELF (Table 17.13). -/
abbrev FLT_STATUS_SELF : Nat := 0x03004 * 32 + 11
/-- FLT_FIRST_LO.MSG (Table 17.13). -/
abbrev FLT_FIRST_LO_MSG : Nat := 0x03008 * 32 + 0
/-- FLT_FIRST_HI.MSG (Table 17.13). -/
abbrev FLT_FIRST_HI_MSG : Nat := 0x0300C * 32 + 0
/-- FLT_FIRST_TIME_LO.TIME (Table 17.13). -/
abbrev FLT_FIRST_TIME_LO_TIME : Nat := 0x03010 * 32 + 0
/-- FLT_FIRST_TIME_HI.TIME (Table 17.13). -/
abbrev FLT_FIRST_TIME_HI_TIME : Nat := 0x03014 * 32 + 0
/-- FLT_FIRST_CTRL.VALID (Table 17.13). -/
abbrev FLT_FIRST_CTRL_VALID : Nat := 0x03018 * 32 + 0
/-- FLT_FIRST_CTRL.OVERFLOW (Table 17.13). -/
abbrev FLT_FIRST_CTRL_OVERFLOW : Nat := 0x03018 * 32 + 1
/-- FLT_FIRST_CTRL.GRAVE_LATER (Table 17.13). -/
abbrev FLT_FIRST_CTRL_GRAVE_LATER : Nat := 0x03018 * 32 + 2
/-- FLT_OVF_COUNT.COUNT (Table 17.13). -/
abbrev FLT_OVF_COUNT_COUNT : Nat := 0x0301C * 32 + 0
/-- FLT_SRC_SEL.SOURCE (Table 17.13). -/
abbrev FLT_SRC_SEL_SOURCE : Nat := 0x03020 * 32 + 0
/-- FLT_SRC_COUNT.COUNT (Table 17.13). -/
abbrev FLT_SRC_COUNT_COUNT : Nat := 0x03024 * 32 + 0
/-- FLT_SRC_STATE.WIN_COUNT (Table 17.13). -/
abbrev FLT_SRC_STATE_WIN_COUNT : Nat := 0x03028 * 32 + 0
/-- FLT_SRC_STATE.ESCALATED (Table 17.13). -/
abbrev FLT_SRC_STATE_ESCALATED : Nat := 0x03028 * 32 + 8
/-- FLT_SRC_STATE.WORST (Table 17.13). -/
abbrev FLT_SRC_STATE_WORST : Nat := 0x03028 * 32 + 9
/-- FLT_SRC_STATE.LAST_KIND (Table 17.13). -/
abbrev FLT_SRC_STATE_LAST_KIND : Nat := 0x03028 * 32 + 11
/-- FLT_INJECT_LO.MSG (Table 17.13). -/
abbrev FLT_INJECT_LO_MSG : Nat := 0x03040 * 32 + 0
/-- FLT_INJECT_HI.MSG (Table 17.13). -/
abbrev FLT_INJECT_HI_MSG : Nat := 0x03044 * 32 + 0
/-- KLOG_CFG.PEL_MIN (Table 17.14). -/
abbrev KLOG_CFG_PEL_MIN : Nat := 0x04000 * 32 + 0
/-- KLOG_CFG.PERSIST_NOW (Table 17.14). -/
abbrev KLOG_CFG_PERSIST_NOW : Nat := 0x04000 * 32 + 3
/-- KLOG_STATUS.USED (Table 17.14). -/
abbrev KLOG_STATUS_USED : Nat := 0x04004 * 32 + 0
/-- KLOG_STATUS.PERSIST_BUSY (Table 17.14). -/
abbrev KLOG_STATUS_PERSIST_BUSY : Nat := 0x04004 * 32 + 17
/-- KLOG_STATUS.UNSAVED_LOST (Table 17.14). -/
abbrev KLOG_STATUS_UNSAVED_LOST : Nat := 0x04004 * 32 + 18
/-- KLOG_SEQ.NEXT (Table 17.14). -/
abbrev KLOG_SEQ_NEXT : Nat := 0x04008 * 32 + 0
/-- KLOG_SEQ.SAVED (Table 17.14). -/
abbrev KLOG_SEQ_SAVED : Nat := 0x04008 * 32 + 16
/-- KLOG_DROP_SEL.SEVERITY (Table 17.14). -/
abbrev KLOG_DROP_SEL_SEVERITY : Nat := 0x0400C * 32 + 0
/-- KLOG_DROP.COUNT (Table 17.14). -/
abbrev KLOG_DROP_COUNT : Nat := 0x04010 * 32 + 0
/-- KLOG_SUPP.COUNT (Table 17.14). -/
abbrev KLOG_SUPP_COUNT : Nat := 0x04014 * 32 + 0
/-- KLOG_RD_SEQ.SEQ (Table 17.14). -/
abbrev KLOG_RD_SEQ_SEQ : Nat := 0x04020 * 32 + 0
/-- KLOG_RD_SEQ.READY (Table 17.14). -/
abbrev KLOG_RD_SEQ_READY : Nat := 0x04020 * 32 + 16
/-- KLOG_RD_SEQ.MISSING (Table 17.14). -/
abbrev KLOG_RD_SEQ_MISSING : Nat := 0x04020 * 32 + 17
/-- CFG_MBX_HDR0.OPCODE (Table 18.10). -/
abbrev CFG_MBX_HDR0_OPCODE : Nat := 0x01000 * 32 + 0
/-- CFG_MBX_HDR0.SEQUENCE (Table 18.10). -/
abbrev CFG_MBX_HDR0_SEQUENCE : Nat := 0x01000 * 32 + 16
/-- CFG_MBX_HDR1.LENGTH (Table 18.10). -/
abbrev CFG_MBX_HDR1_LENGTH : Nat := 0x01004 * 32 + 0
/-- CFG_MBX_BUF_LO.ADDR (Table 18.10). -/
abbrev CFG_MBX_BUF_LO_ADDR : Nat := 0x01008 * 32 + 0
/-- CFG_MBX_BUF_HI.ADDR (Table 18.10). -/
abbrev CFG_MBX_BUF_HI_ADDR : Nat := 0x0100C * 32 + 0
/-- CFG_MBX_DOORBELL.SEND (Table 18.10). -/
abbrev CFG_MBX_DOORBELL_SEND : Nat := 0x01010 * 32 + 0
/-- CFG_MBX_STATUS.BUSY (Table 18.10). -/
abbrev CFG_MBX_STATUS_BUSY : Nat := 0x01014 * 32 + 0
/-- CFG_MBX_STATUS.DONE (Table 18.10). -/
abbrev CFG_MBX_STATUS_DONE : Nat := 0x01014 * 32 + 1
/-- CFG_MBX_STATUS.ERR (Table 18.10). -/
abbrev CFG_MBX_STATUS_ERR : Nat := 0x01014 * 32 + 2
/-- CFG_MBX_STATUS.SESSION (Table 18.10). -/
abbrev CFG_MBX_STATUS_SESSION : Nat := 0x01014 * 32 + 3
/-- CFG_MBX_STATUS.RSP_STATUS (Table 18.10). -/
abbrev CFG_MBX_STATUS_RSP_STATUS : Nat := 0x01014 * 32 + 16
/-- CFG_MBX_RSP.RSP_LENGTH (Table 18.10). -/
abbrev CFG_MBX_RSP_RSP_LENGTH : Nat := 0x01018 * 32 + 0
/-- CFG_MBX_RSP.RSP_SEQUENCE (Table 18.10). -/
abbrev CFG_MBX_RSP_RSP_SEQUENCE : Nat := 0x01018 * 32 + 16
/-- CFG_MBX_CTRL.VECTOR (Table 18.10). -/
abbrev CFG_MBX_CTRL_VECTOR : Nat := 0x0101C * 32 + 0
/-- CFG_MBX_CTRL.IEN (Table 18.10). -/
abbrev CFG_MBX_CTRL_IEN : Nat := 0x0101C * 32 + 11

end Reg

/-- Table 0.1 (R1). -/
def fields0_1 : List FieldInfo :=
  [⟨Reg.CZ_ID_PART, 16, .ro, 4132, true, .none_⟩,
   ⟨Reg.CZ_ID_STEPPING, 8, .ro, 177, true, .none_⟩,
   ⟨Reg.CZ_ID_FW_MAJOR, 4, .ro, 0, true, .none_⟩,
   ⟨Reg.CZ_ID_FW_MINOR, 4, .ro, 0, true, .none_⟩]

/-- Table 4.7 (R134). -/
def fields4_7 : List FieldInfo :=
  [⟨Reg.SIEVE_CFG_RULE_SEGS, 5, .rw, 4, true, .static⟩,
   ⟨Reg.SIEVE_CFG_SCRUB_MS, 8, .rw, 10, true, .live⟩]

/-- Table 4.8 (R134). -/
def fields4_8 : List FieldInfo :=
  [⟨Reg.SIEVE_OCC_INFLIGHT, 16, .ro, 0, false, .none_⟩,
   ⟨Reg.SIEVE_OCC_RULES, 16, .ro, 0, false, .none_⟩]

/-- Table 4.9 (R134). -/
def fields4_9 : List FieldInfo :=
  [⟨Reg.SIEVE_STATUS_FULL, 1, .ro, 0, false, .none_⟩,
   ⟨Reg.SIEVE_STATUS_SHIFT_BUSY, 1, .ro, 0, false, .none_⟩,
   ⟨Reg.SIEVE_STATUS_SHIFT_QUEUED, 6, .ro, 0, false, .none_⟩,
   ⟨Reg.SIEVE_STATUS_WALKS, 7, .ro, 0, false, .none_⟩,
   ⟨Reg.SIEVE_STATUS_RETIRED, 8, .ro, 0, true, .none_⟩]

/-- Table 4.10 (R134). -/
def fields4_10 : List FieldInfo :=
  [⟨Reg.SIEVE_FH_COUNT_COUNT, 32, .ro, 0, false, .none_⟩]

/-- Table 4.11 (R134). -/
def fields4_11 : List FieldInfo :=
  [⟨Reg.SIEVE_SCRUB_COUNT_COUNT, 32, .ro, 0, false, .none_⟩]

/-- Table 4.12 (R134). -/
def fields4_12 : List FieldInfo :=
  [⟨Reg.SIEVE_LAST_FAULT_POS, 16, .ro, 0, true, .none_⟩,
   ⟨Reg.SIEVE_LAST_FAULT_KIND, 3, .ro, 0, true, .none_⟩,
   ⟨Reg.SIEVE_LAST_FAULT_VALID, 1, .rw1c, 0, true, .none_⟩]

/-- Table 4.13 (R134). -/
def fields4_13 : List FieldInfo :=
  [⟨Reg.SIEVE_FULL_COUNT_COUNT, 32, .ro, 0, false, .none_⟩]

/-- Table 4.14 (R134). -/
def fields4_14 : List FieldInfo :=
  [⟨Reg.SIEVE_INST_SEL_INST, 9, .rw, 0, false, .live⟩,
   ⟨Reg.SIEVE_INST_QUOTA_QUOTA, 16, .rw, 16384, true, .live⟩,
   ⟨Reg.SIEVE_INST_USED_USED, 16, .ro, 0, false, .none_⟩,
   ⟨Reg.SIEVE_INST_USED_HELD, 16, .ro, 0, false, .none_⟩]

/-- Table 4.15 (R134). -/
def fields4_15 : List FieldInfo :=
  [⟨Reg.SIEVE_DIAG_POS_POS, 16, .rw, 0, false, .live⟩,
   ⟨Reg.SIEVE_DIAG_POS_SRC, 1, .rw, 0, false, .live⟩,
   ⟨Reg.SIEVE_DIAG_POS_READY, 1, .ro, 0, false, .none_⟩,
   ⟨Reg.SIEVE_DIAG_DATA0_ENTRY, 32, .ro, 0, false, .none_⟩,
   ⟨Reg.SIEVE_DIAG_DATA1_ENTRY, 32, .ro, 0, false, .none_⟩,
   ⟨Reg.SIEVE_DIAG_DATA2_ENTRY, 32, .ro, 0, false, .none_⟩,
   ⟨Reg.SIEVE_DIAG_DATA3_ENTRY, 32, .ro, 0, false, .none_⟩,
   ⟨Reg.SIEVE_DIAG_DATA4_ENTRY, 17, .ro, 0, false, .none_⟩]

/-- Table 5.15 (R166). -/
def fields5_15 : List FieldInfo :=
  [⟨Reg.FBE_CFG_ERS_SUSP_MAX, 4, .rw, 8, true, .live⟩,
   ⟨Reg.FBE_CFG_MIN_PROGRESS, 8, .rw, 30, true, .live⟩,
   ⟨Reg.FBE_CFG_GAP_READS, 4, .rw, 4, true, .live⟩,
   ⟨Reg.FBE_CFG_SUSP_HOLD, 8, .rw, 80, true, .live⟩,
   ⟨Reg.FBE_CFG_RATE_EXT_EN, 1, .rw, 1, true, .static⟩]

/-- Table 5.16 (R166). -/
def fields5_16 : List FieldInfo :=
  [⟨Reg.FBE_CBC_WARN_THRESH, 10, .rw, 120, true, .live⟩]

/-- Table 5.17 (R166). -/
def fields5_17 : List FieldInfo :=
  [⟨Reg.FBE_CBC_COUNT_COUNT, 32, .ro, 0, false, .none_⟩]

/-- Table 5.18 (R166). -/
def fields5_18 : List FieldInfo :=
  [⟨Reg.FBE_PG_STATUS_CLOSED, 8, .ro, 0, false, .none_⟩,
   ⟨Reg.FBE_PG_STATUS_EVENTS, 16, .ro, 0, true, .none_⟩]

/-- Table 5.19 (R166). -/
def fields5_19 : List FieldInfo :=
  [⟨Reg.FBE_REFUSE_LAST_CODE, 4, .ro, 0, true, .none_⟩,
   ⟨Reg.FBE_REFUSE_LAST_DIE, 14, .ro, 0, true, .none_⟩,
   ⟨Reg.FBE_REFUSE_LAST_VALID, 1, .rw1c, 0, true, .none_⟩]

/-- Table 5.20 (R166). -/
def fields5_20 : List FieldInfo :=
  [⟨Reg.FBE_REFUSE_COUNT_COUNT, 32, .ro, 0, false, .none_⟩]

/-- Table 5.21 (R166). -/
def fields5_21 : List FieldInfo :=
  [⟨Reg.FBE_CH_SEL_CH, 6, .rw, 0, false, .live⟩]

/-- Table 5.22 (R166). -/
def fields5_22 : List FieldInfo :=
  [⟨Reg.FBE_CH_STATUS_RATE, 3, .ro, 0, true, .none_⟩,
   ⟨Reg.FBE_CH_STATUS_FALLBACK, 1, .ro, 0, true, .none_⟩,
   ⟨Reg.FBE_CH_STATUS_DIES, 6, .ro, 0, true, .none_⟩,
   ⟨Reg.FBE_CH_STATUS_RETRAINS, 16, .ro, 0, true, .none_⟩]

/-- Table 5.23 (R166). -/
def fields5_23 : List FieldInfo :=
  [⟨Reg.FBE_DIE_SEL_DIE, 14, .rw, 0, false, .live⟩]

/-- Table 5.24 (R166). -/
def fields5_24 : List FieldInfo :=
  [⟨Reg.FBE_DIE_STATUS_STATE, 4, .ro, 0, false, .none_⟩,
   ⟨Reg.FBE_DIE_STATUS_SUSP_COUNT, 4, .ro, 0, false, .none_⟩,
   ⟨Reg.FBE_DIE_STATUS_PRESENT, 1, .ro, 0, true, .none_⟩,
   ⟨Reg.FBE_DIE_STATUS_IN_GROUP, 1, .ro, 0, true, .none_⟩,
   ⟨Reg.FBE_DIE_STATUS_PLM_OK, 1, .ro, 0, true, .none_⟩,
   ⟨Reg.FBE_DIE_STATUS_RETIRED, 1, .ro, 0, true, .none_⟩,
   ⟨Reg.FBE_DIE_STATUS_UTIL, 8, .ro, 0, false, .none_⟩]

/-- Table 6.14 (R211). -/
def fields6_14 : List FieldInfo :=
  [⟨Reg.FBE_MM_BLANKET_HELD, 16, .ro, 0, true, .none_⟩,
   ⟨Reg.FBE_MM_BLANKET_BACKLOG, 16, .ro, 0, true, .none_⟩,
   ⟨Reg.FBE_MM_POOL_FREE_FREE, 24, .ro, 0, true, .none_⟩]

/-- Table 6.15 (R211). -/
def fields6_15 : List FieldInfo :=
  [⟨Reg.FBE_MM_REFIRE_RUNNING, 8, .ro, 0, true, .none_⟩,
   ⟨Reg.FBE_MM_REFIRE_QUEUED, 16, .ro, 0, true, .none_⟩,
   ⟨Reg.FBE_MM_REFIRE_COUNT_DONE, 32, .ro, 0, true, .none_⟩,
   ⟨Reg.FBE_MM_EARLY_TRANSIENT, 16, .ro, 0, true, .none_⟩,
   ⟨Reg.FBE_MM_EARLY_CONFIRMED, 16, .ro, 0, true, .none_⟩,
   ⟨Reg.FBE_MM_RETIRED_BLOCKS, 24, .ro, 0, true, .none_⟩,
   ⟨Reg.FBE_MM_RETIRED_DIES, 8, .ro, 0, true, .none_⟩]

/-- Table 6.16 (R211). -/
def fields6_16 : List FieldInfo :=
  [⟨Reg.FBE_MM_DS_SEL_DS, 8, .rw, 1, true, .live⟩,
   ⟨Reg.FBE_MM_DS_STATUS_SPARE_PCT, 8, .ro, 0, true, .none_⟩,
   ⟨Reg.FBE_MM_DS_STATUS_STAGE, 2, .ro, 0, true, .none_⟩,
   ⟨Reg.FBE_MM_DS_STATUS_KEPT, 1, .ro, 0, true, .none_⟩,
   ⟨Reg.FBE_MM_DS_STATUS_SPARE_ROWS, 16, .ro, 0, true, .none_⟩,
   ⟨Reg.FBE_MM_DS_WEAR_QLC_MEAN, 16, .ro, 0, true, .none_⟩,
   ⟨Reg.FBE_MM_DS_WEAR_SLC_MEAN, 16, .ro, 0, true, .none_⟩,
   ⟨Reg.FBE_MM_DS_FI_FI_MAX, 24, .ro, 0, true, .none_⟩]

/-- Table 6.17 (R211). -/
def fields6_17 : List FieldInfo :=
  [⟨Reg.FBE_MM_BLK_SEL_DIE, 14, .rw, 0, false, .live⟩,
   ⟨Reg.FBE_MM_BLK_SEL_PLANE, 3, .rw, 0, false, .live⟩,
   ⟨Reg.FBE_MM_BLK_SEL_BLOCK, 12, .rw, 0, false, .live⟩,
   ⟨Reg.FBE_MM_BLK_STATUS_STATE, 3, .ro, 0, false, .none_⟩,
   ⟨Reg.FBE_MM_BLK_STATUS_MODE, 1, .ro, 0, false, .none_⟩,
   ⟨Reg.FBE_MM_BLK_STATUS_ROLE, 3, .ro, 0, false, .none_⟩,
   ⟨Reg.FBE_MM_BLK_STATUS_SUSPECT, 1, .ro, 0, false, .none_⟩,
   ⟨Reg.FBE_MM_BLK_STATUS_NEXT, 10, .ro, 0, false, .none_⟩,
   ⟨Reg.FBE_MM_BLK_WEAR_ERASES, 16, .ro, 0, false, .none_⟩,
   ⟨Reg.FBE_MM_BLK_WEAR_ROW, 12, .ro, 0, false, .none_⟩]

/-- Table 7.12 (R240). -/
def fields7_12 : List FieldInfo :=
  [⟨Reg.FBE_LDPC_RETRY_COUNT, 32, .ro, 0, false, .none_⟩,
   ⟨Reg.FBE_LDPC_SOFT_COUNT, 32, .ro, 0, false, .none_⟩,
   ⟨Reg.FBE_LDPC_TRANSIENT_COUNT, 32, .ro, 0, false, .none_⟩,
   ⟨Reg.FBE_LDPC_CONFIRMED_COUNT, 32, .ro, 0, false, .none_⟩,
   ⟨Reg.FBE_LDPC_REBUILT_COUNT, 32, .ro, 0, false, .none_⟩]

/-- Table 7.13 (R240). -/
def fields7_13 : List FieldInfo :=
  [⟨Reg.FLT_ECC_CTRL_RUN, 1, .wo, 0, false, .live⟩,
   ⟨Reg.FLT_ECC_CTRL_BUSY, 1, .ro, 0, false, .none_⟩,
   ⟨Reg.FLT_ECC_RESULT_TESTED, 16, .ro, 0, true, .none_⟩,
   ⟨Reg.FLT_ECC_RESULT_FAILED, 16, .ro, 0, true, .none_⟩,
   ⟨Reg.FLT_ECC_CORR_COUNT, 32, .ro, 0, true, .none_⟩,
   ⟨Reg.FLT_ECC_UNCORR_COUNT, 32, .ro, 0, true, .none_⟩,
   ⟨Reg.FLT_ECC_REMAP_SEL_GROUP, 9, .rw, 0, false, .live⟩,
   ⟨Reg.FLT_ECC_REMAP_STATUS_USED, 5, .ro, 0, true, .none_⟩,
   ⟨Reg.FLT_ECC_REMAP_STATUS_FULL, 1, .ro, 0, true, .none_⟩,
   ⟨Reg.FLT_ECC_REMAP_STATUS_OUT, 1, .ro, 0, true, .none_⟩]

/-- Table 8.12 (R268). -/
def fields8_12 : List FieldInfo :=
  [⟨Reg.PWR_LOSS_STATUS_LAST, 2, .ro, 0, true, .none_⟩,
   ⟨Reg.PWR_LOSS_STATUS_LOST, 1, .ro, 0, true, .none_⟩,
   ⟨Reg.PWR_LOSS_STATUS_BROWNOUT, 1, .ro, 0, true, .none_⟩,
   ⟨Reg.PWR_LOSS_STATUS_DUMP_MS, 8, .ro, 0, true, .none_⟩,
   ⟨Reg.PWR_LOSS_STATUS_GLITCHES, 16, .ro, 0, true, .none_⟩,
   ⟨Reg.PWR_EXPOSURE_UNITS, 22, .ro, 0, true, .none_⟩,
   ⟨Reg.PWR_EXPOSURE_LIMIT_LIMIT, 23, .ro, 0, true, .none_⟩]

/-- Table 8.13 (R268). -/
def fields8_13 : List FieldInfo :=
  [⟨Reg.PWR_TRAIL_CFG_FLUSH_MS, 5, .rw, 4, true, .stagedFlush⟩,
   ⟨Reg.PWR_TRAIL_STATUS_SINCE_CKPT, 16, .ro, 0, true, .none_⟩,
   ⟨Reg.PWR_TRAIL_STATUS_CKPT_BUSY, 1, .ro, 0, true, .none_⟩,
   ⟨Reg.PWR_TRAIL_STATUS_HELD, 1, .ro, 0, true, .none_⟩,
   ⟨Reg.PWR_TRAIL_CKPTS_COUNT, 32, .ro, 0, true, .none_⟩]

/-- Table 9.11 (R304). -/
def fields9_11 : List FieldInfo :=
  [⟨Reg.GLZ_CFG_DUMMY_MAX, 3, .rw, 7, true, .static⟩]

/-- Table 9.12 (R304). -/
def fields9_12 : List FieldInfo :=
  [⟨Reg.GLZ_STATUS_ALARM, 1, .ro, 0, true, .none_⟩,
   ⟨Reg.GLZ_STATUS_SOURCE, 3, .ro, 0, true, .none_⟩,
   ⟨Reg.GLZ_STATUS_READY, 12, .ro, 0, true, .none_⟩,
   ⟨Reg.GLZ_STATUS_CONTEXTS, 7, .ro, 0, true, .none_⟩,
   ⟨Reg.GLZ_STATUS_DRBG_FAIL, 1, .ro, 0, true, .none_⟩,
   ⟨Reg.GLZ_ALARM_COUNT_COUNT, 32, .ro, 0, true, .none_⟩,
   ⟨Reg.GLZ_AUTH_FAIL_COUNT, 32, .ro, 0, true, .none_⟩,
   ⟨Reg.GLZ_SUSPEND_COUNT_COUNT, 32, .ro, 0, true, .none_⟩]

/-- Table 9.13 (R304). -/
def fields9_13 : List FieldInfo :=
  [⟨Reg.GLZ_SLOT_SEL_SLOT, 11, .rw, 0, false, .live⟩,
   ⟨Reg.GLZ_SLOT_STATUS_STATE, 2, .ro, 0, true, .none_⟩,
   ⟨Reg.GLZ_SLOT_STATUS_MODE, 1, .ro, 0, true, .none_⟩,
   ⟨Reg.GLZ_SLOT_STATUS_REASON, 2, .ro, 0, true, .none_⟩,
   ⟨Reg.GLZ_SLOT_STATUS_GEN, 8, .ro, 0, true, .none_⟩,
   ⟨Reg.GLZ_SLOT_STATUS_OWNER, 9, .ro, 0, true, .none_⟩]

/-- Table 10.6 (R320). -/
def fields10_6 : List FieldInfo :=
  [⟨Reg.HMP_POOL_SEL_POOL, 3, .rw, 1, false, .live⟩,
   ⟨Reg.HMP_POOL_THRESH_AMBER, 7, .rw, 85, true, .live⟩,
   ⟨Reg.HMP_POOL_THRESH_RED, 7, .rw, 95, true, .live⟩,
   ⟨Reg.HMP_POOL_STATUS_USED, 22, .ro, 0, true, .none_⟩,
   ⟨Reg.HMP_POOL_STATUS_AMBER, 1, .ro, 0, true, .none_⟩,
   ⟨Reg.HMP_POOL_STATUS_RED, 1, .ro, 0, true, .none_⟩,
   ⟨Reg.HMP_POOL_STATUS_REBUILD, 1, .ro, 0, true, .none_⟩,
   ⟨Reg.HMP_POOL_SIZE_UNITS, 22, .ro, 0, true, .none_⟩]

/-- Table 10.7 (R320). -/
def fields10_7 : List FieldInfo :=
  [⟨Reg.HMP_INST_SEL_INST, 9, .rw, 0, false, .live⟩,
   ⟨Reg.HMP_INST_SEL_POOL, 1, .rw, 0, false, .live⟩,
   ⟨Reg.HMP_INST_QUOTA_QUOTA, 22, .rw, 0, true, .live⟩,
   ⟨Reg.HMP_INST_SHARE_SHARE, 22, .rw, 4194303, true, .live⟩,
   ⟨Reg.HMP_INST_USED_USED, 22, .ro, 0, false, .none_⟩]

/-- Table 10.8 (R320). -/
def fields10_8 : List FieldInfo :=
  [⟨Reg.HMP_OWN_COUNT_COUNT, 32, .ro, 0, true, .none_⟩,
   ⟨Reg.HMP_OWN_LAST_POOL, 3, .ro, 0, true, .none_⟩,
   ⟨Reg.HMP_OWN_LAST_UNIT, 22, .ro, 0, true, .none_⟩,
   ⟨Reg.HMP_OWN_LAST_REQ_KIND, 3, .ro, 0, true, .none_⟩,
   ⟨Reg.HMP_OWN_LAST_OP, 2, .ro, 0, true, .none_⟩,
   ⟨Reg.HMP_OWN_LAST_VALID, 1, .rw1c, 0, true, .none_⟩]

/-- Table 11.7 (R342). -/
def fields11_7 : List FieldInfo :=
  [⟨Reg.DMC_CFG_AGE_CAP, 5, .rw, 20, true, .live⟩,
   ⟨Reg.DMC_CFG_REF_POSTPONE, 3, .rw, 4, true, .live⟩,
   ⟨Reg.DMC_CFG_WR_HIGH, 8, .rw, 64, true, .live⟩,
   ⟨Reg.DMC_CFG_WR_LOW, 8, .rw, 16, true, .live⟩,
   ⟨Reg.DMC_CFG_IDLE_CLOSE, 5, .rw, 10, true, .live⟩]

/-- Table 11.8 (R342). -/
def fields11_8 : List FieldInfo :=
  [⟨Reg.DMC_STATUS_RATE, 3, .ro, 0, true, .none_⟩,
   ⟨Reg.DMC_STATUS_FALLBACK, 1, .ro, 0, true, .none_⟩,
   ⟨Reg.DMC_STATUS_RETRAIN, 1, .ro, 0, true, .none_⟩]

/-- Table 11.9 (R342). -/
def fields11_9 : List FieldInfo :=
  [⟨Reg.DMC_CH_SEL_CH, 2, .rw, 0, false, .live⟩,
   ⟨Reg.DMC_CH_STATUS_QUEUED, 9, .ro, 0, false, .none_⟩,
   ⟨Reg.DMC_CH_STATUS_REMAP_USED, 6, .ro, 0, true, .none_⟩,
   ⟨Reg.DMC_CH_STATUS_REMAP_FULL, 1, .ro, 0, true, .none_⟩,
   ⟨Reg.DMC_CH_STATUS_FORCED_REF, 16, .ro, 0, true, .none_⟩]

/-- Table 11.10 (R342). -/
def fields11_10 : List FieldInfo :=
  [⟨Reg.DMC_ERR_CORR_COUNT, 32, .ro, 0, true, .none_⟩,
   ⟨Reg.DMC_ERR_POISON_COUNT, 32, .ro, 0, true, .none_⟩,
   ⟨Reg.DMC_ERR_PRIV_COUNT, 32, .ro, 0, true, .none_⟩,
   ⟨Reg.DMC_CA_REPLAY_TRANSIENT, 24, .ro, 0, true, .none_⟩,
   ⟨Reg.DMC_CA_REPLAY_LASTING, 8, .ro, 0, true, .none_⟩]

/-- Table 11.11 (R342). -/
def fields11_11 : List FieldInfo :=
  [⟨Reg.DMC_REMAP_SEL_ENTRY, 5, .rw, 0, false, .live⟩,
   ⟨Reg.DMC_REMAP_ENTRY_ADDR, 28, .ro, 0, true, .none_⟩,
   ⟨Reg.DMC_REMAP_ENTRY_VALID, 1, .ro, 0, true, .none_⟩]

/-- Table 13.15 (R394). -/
def fields13_15 : List FieldInfo :=
  [⟨Reg.MBX_INST_SEL_INST, 9, .rw, 0, false, .live⟩,
   ⟨Reg.MBX_INST_DOORBELL_SEND, 1, .wo, 0, false, .live⟩,
   ⟨Reg.MBX_INST_ACK_SEQUENCE, 16, .wo, 0, false, .live⟩,
   ⟨Reg.MBX_INST_ACK_STATUS, 16, .wo, 0, false, .live⟩,
   ⟨Reg.MBX_INST_STATUS_OUT_BUSY, 1, .ro, 0, false, .none_⟩,
   ⟨Reg.MBX_INST_STATUS_IN_FULL, 1, .ro, 0, false, .none_⟩,
   ⟨Reg.MBX_INST_STATUS_ERR, 1, .rw1c, 0, false, .none_⟩,
   ⟨Reg.MBX_INST_STATUS_DROPPED, 1, .rw1c, 0, false, .none_⟩,
   ⟨Reg.MBX_INST_STATUS_ACK_STATUS, 16, .ro, 0, false, .none_⟩,
   ⟨Reg.MBX_MGR_CTRL_VECTOR, 12, .rw, 0, false, .live⟩,
   ⟨Reg.MBX_MGR_CTRL_IEN, 1, .rw, 0, false, .live⟩,
   ⟨Reg.MBX_PEND0_IN_FULL, 32, .ro, 0, false, .none_⟩,
   ⟨Reg.MBX_PEND1_IN_FULL, 32, .ro, 0, false, .none_⟩,
   ⟨Reg.MBX_PEND2_IN_FULL, 32, .ro, 0, false, .none_⟩,
   ⟨Reg.MBX_PEND3_IN_FULL, 32, .ro, 0, false, .none_⟩,
   ⟨Reg.MBX_PEND4_IN_FULL, 32, .ro, 0, false, .none_⟩,
   ⟨Reg.MBX_PEND5_IN_FULL, 32, .ro, 0, false, .none_⟩,
   ⟨Reg.MBX_PEND6_IN_FULL, 32, .ro, 0, false, .none_⟩,
   ⟨Reg.MBX_PEND7_IN_FULL, 32, .ro, 0, false, .none_⟩,
   ⟨Reg.MBX_PEND8_IN_FULL, 32, .ro, 0, false, .none_⟩,
   ⟨Reg.MBX_PEND9_IN_FULL, 32, .ro, 0, false, .none_⟩,
   ⟨Reg.MBX_PEND10_IN_FULL, 32, .ro, 0, false, .none_⟩,
   ⟨Reg.MBX_PEND11_IN_FULL, 32, .ro, 0, false, .none_⟩,
   ⟨Reg.MBX_PEND12_IN_FULL, 32, .ro, 0, false, .none_⟩,
   ⟨Reg.MBX_PEND13_IN_FULL, 32, .ro, 0, false, .none_⟩,
   ⟨Reg.MBX_PEND14_IN_FULL, 32, .ro, 0, false, .none_⟩,
   ⟨Reg.MBX_PEND15_IN_FULL, 32, .ro, 0, false, .none_⟩]

/-- Table 13.16 (R394). -/
def fields13_16 : List FieldInfo :=
  [⟨Reg.MIG_SEL_INST, 9, .rw, 0, true, .live⟩,
   ⟨Reg.MIG_CTRL_ENABLE, 1, .rw, 0, true, .live⟩,
   ⟨Reg.MIG_CTRL_HARVEST, 1, .wo, 0, false, .live⟩,
   ⟨Reg.MIG_STATUS_ACTIVE, 1, .ro, 0, true, .none_⟩,
   ⟨Reg.MIG_STATUS_HARVEST_BUSY, 1, .ro, 0, true, .none_⟩,
   ⟨Reg.MIG_STATUS_OUTSIDE, 1, .rw1c, 0, true, .none_⟩,
   ⟨Reg.MIG_STATUS_REFUSED, 1, .rw1c, 0, true, .none_⟩,
   ⟨Reg.MIG_STATUS_RPT_LOST, 16, .ro, 0, true, .none_⟩,
   ⟨Reg.MIG_INST_STATE_STATE, 3, .ro, 0, true, .none_⟩,
   ⟨Reg.MIG_WIN_BASE_LO_BASE, 32, .rw, 0, true, .stagedEnable⟩,
   ⟨Reg.MIG_WIN_BASE_HI_BASE, 32, .rw, 0, true, .stagedEnable⟩,
   ⟨Reg.MIG_WIN_PAGES_PAGES, 32, .rw, 0, true, .stagedEnable⟩,
   ⟨Reg.MIG_LOG_A_LO_ADDR, 32, .rw, 0, true, .stagedEnable⟩,
   ⟨Reg.MIG_LOG_A_HI_ADDR, 32, .rw, 0, true, .stagedEnable⟩,
   ⟨Reg.MIG_LOG_B_LO_ADDR, 32, .rw, 0, true, .stagedEnable⟩,
   ⟨Reg.MIG_LOG_B_HI_ADDR, 32, .rw, 0, true, .stagedEnable⟩,
   ⟨Reg.MIG_OUTSIDE_COUNT, 32, .ro, 0, true, .none_⟩]

/-- Table 13.17 (R394). -/
def fields13_17 : List FieldInfo :=
  [⟨Reg.MIG_RPT_BASE_LO_ADDR, 32, .rw, 0, true, .stagedSize⟩,
   ⟨Reg.MIG_RPT_BASE_HI_ADDR, 32, .rw, 0, true, .stagedSize⟩,
   ⟨Reg.MIG_RPT_SIZE_SIZE, 32, .rw, 0, true, .live⟩,
   ⟨Reg.MIG_RPT_HEAD_HEAD, 32, .rw, 0, true, .live⟩,
   ⟨Reg.MIG_RPT_TAIL_TAIL, 32, .ro, 0, true, .none_⟩]

/-- Table 14.6 (R405). -/
def fields14_6 : List FieldInfo :=
  [⟨Reg.WMK_ISSUE_CLASS, 2, .wo, 0, false, .live⟩,
   ⟨Reg.WMK_ISSUE_SCOPE, 2, .wo, 0, false, .live⟩,
   ⟨Reg.WMK_ISSUE_TARGET, 9, .wo, 0, false, .live⟩,
   ⟨Reg.WMK_ISSUE_SNAP, 1, .wo, 0, false, .live⟩,
   ⟨Reg.WMK_CTRL_VECTOR, 11, .rw, 0, false, .live⟩,
   ⟨Reg.WMK_CTRL_IEN, 1, .rw, 0, false, .live⟩]

/-- Table 14.7 (R405). -/
def fields14_7 : List FieldInfo :=
  [⟨Reg.WMK_LAST_ID_ID, 16, .ro, 65535, true, .none_⟩,
   ⟨Reg.WMK_DONE_ID, 16, .ro, 65535, true, .none_⟩,
   ⟨Reg.WMK_DONE_RESULT, 2, .ro, 0, false, .none_⟩,
   ⟨Reg.WMK_STATUS_OUTSTANDING, 5, .ro, 0, false, .none_⟩,
   ⟨Reg.WMK_STATUS_OVERRUN, 1, .rw1c, 0, false, .none_⟩,
   ⟨Reg.WMK_STATUS_REFUSED, 1, .rw1c, 0, false, .none_⟩,
   ⟨Reg.WMK_STATUS_TREE, 7, .ro, 0, true, .none_⟩,
   ⟨Reg.WMK_COUNT_COUNT, 32, .ro, 0, true, .none_⟩]

/-- Table 14.8 (R405). -/
def fields14_8 : List FieldInfo :=
  [⟨Reg.WMK_SNAP_ID, 16, .ro, 0, false, .none_⟩,
   ⟨Reg.WMK_SNAP_VALID, 1, .ro, 0, false, .none_⟩,
   ⟨Reg.WMK_SNAP_VIEW, 1, .rw, 0, false, .live⟩]

/-- Table 15.11 (R431). -/
def fields15_11 : List FieldInfo :=
  [⟨Reg.PWR_STATUS_PS, 3, .ro, 0, true, .none_⟩,
   ⟨Reg.PWR_STATUS_TARGET, 3, .ro, 0, true, .none_⟩,
   ⟨Reg.PWR_STATUS_OFFREAD, 1, .rw1c, 0, true, .none_⟩,
   ⟨Reg.PWR_STATUS_LTR_CLIP, 1, .ro, 0, true, .none_⟩,
   ⟨Reg.PWR_STATUS_AVS_HELD, 1, .ro, 0, true, .none_⟩,
   ⟨Reg.PWR_STATUS_G, 7, .ro, 100, true, .none_⟩,
   ⟨Reg.PWR_VOTE_LAST_DOMAIN, 7, .ro, 0, true, .none_⟩,
   ⟨Reg.PWR_VOTE_LAST_REASON, 2, .ro, 0, true, .none_⟩,
   ⟨Reg.PWR_VOTE_LAST_TARGET, 3, .ro, 0, true, .none_⟩,
   ⟨Reg.PWR_VOTE_LAST_VALID, 1, .rw1c, 0, true, .none_⟩,
   ⟨Reg.PWR_VOTE_COUNT_REFUSALS, 16, .ro, 0, true, .none_⟩,
   ⟨Reg.PWR_VOTE_COUNT_ABORTS, 16, .ro, 0, true, .none_⟩]

/-- Table 15.12 (R431). -/
def fields15_12 : List FieldInfo :=
  [⟨Reg.PWR_DOM_SEL_DOMAIN, 7, .rw, 0, false, .live⟩,
   ⟨Reg.PWR_DOM_STATUS_STATE, 2, .ro, 0, true, .none_⟩,
   ⟨Reg.PWR_DOM_STATUS_IDLE, 1, .ro, 0, true, .none_⟩,
   ⟨Reg.PWR_DOM_STATUS_AUTO_WAKES, 16, .ro, 0, true, .none_⟩]

/-- Table 15.13 (R431). -/
def fields15_13 : List FieldInfo :=
  [⟨Reg.PWR_AVS_STATUS_CONFIRMED, 10, .ro, 0, true, .none_⟩,
   ⟨Reg.PWR_AVS_STATUS_REQUESTED, 10, .ro, 0, true, .none_⟩,
   ⟨Reg.PWR_AVS_STATUS_BUSY, 1, .ro, 0, true, .none_⟩,
   ⟨Reg.PWR_AVS_FAIL_RETRIES, 16, .ro, 0, true, .none_⟩,
   ⟨Reg.PWR_AVS_FAIL_FAILURES, 16, .ro, 0, true, .none_⟩,
   ⟨Reg.PWR_WAKE_LAST_SOURCE, 3, .ro, 0, true, .none_⟩,
   ⟨Reg.PWR_WAKE_LAST_EXIT_US, 16, .ro, 0, true, .none_⟩]

/-- Table 16.7 (R445). -/
def fields16_7 : List FieldInfo :=
  [⟨Reg.CONE_CFG_T_THROTTLE, 7, .rw, 100, true, .stagedRound⟩,
   ⟨Reg.CONE_CFG_K, 4, .rw, 4, true, .stagedRound⟩,
   ⟨Reg.CONE_CFG_FLOOR, 6, .rw, 25, true, .stagedRound⟩,
   ⟨Reg.CONE_CFG_NAND_THROTTLE, 7, .rw, 80, true, .stagedRound⟩,
   ⟨Reg.CONE_CFG_AVS_DELTA, 4, .rw, 8, true, .stagedRound⟩,
   ⟨Reg.CONE_STATUS_F, 7, .ro, 100, true, .none_⟩,
   ⟨Reg.CONE_STATUS_HOT_NODE, 5, .ro, 0, true, .none_⟩,
   ⟨Reg.CONE_STATUS_AVS_DOWN, 1, .ro, 0, true, .none_⟩,
   ⟨Reg.CONE_STATUS_DIODE_FAIL, 2, .ro, 0, true, .none_⟩,
   ⟨Reg.CONE_STATUS_TRIP, 1, .ro, 0, true, .none_⟩]

/-- Table 16.8 (R445). -/
def fields16_8 : List FieldInfo :=
  [⟨Reg.CONE_TEMP_T_HOT, 12, .ro, 0, true, .none_⟩,
   ⟨Reg.CONE_TEMP_T_NAND, 12, .ro, 0, true, .none_⟩,
   ⟨Reg.CONE_ANCHOR_BASE, 12, .ro, 0, true, .none_⟩,
   ⟨Reg.CONE_ANCHOR_RESIDUAL, 12, .ro, 0, true, .none_⟩,
   ⟨Reg.CONE_POWER_TOTAL, 16, .ro, 0, true, .none_⟩,
   ⟨Reg.CONE_POWER_CORE, 16, .ro, 0, true, .none_⟩,
   ⟨Reg.CONE_NODE_SEL_NODE, 5, .rw, 0, false, .live⟩,
   ⟨Reg.CONE_NODE_TEMP, 12, .ro, 0, true, .none_⟩,
   ⟨Reg.CONE_NODE_POWER, 16, .ro, 0, true, .none_⟩,
   ⟨Reg.CONE_HIST_SEL_BIN, 4, .rw, 0, false, .live⟩,
   ⟨Reg.CONE_HIST_SECONDS, 32, .ro, 0, true, .none_⟩,
   ⟨Reg.CONE_LIFE_AVG_AVG, 12, .ro, 0, true, .none_⟩]

/-- Table 17.13 (R462). -/
def fields17_13 : List FieldInfo :=
  [⟨Reg.FLT_CFG_LATCH_CLASS, 2, .rw, 1, true, .live⟩,
   ⟨Reg.FLT_CFG_IEN, 1, .rw, 0, false, .live⟩,
   ⟨Reg.FLT_CFG_VECTOR, 11, .rw, 0, false, .live⟩,
   ⟨Reg.FLT_STATUS_GRAVE, 1, .ro, 0, true, .none_⟩,
   ⟨Reg.FLT_STATUS_HANDLER_BUSY, 1, .ro, 0, true, .none_⟩,
   ⟨Reg.FLT_STATUS_QUEUED, 9, .ro, 0, true, .none_⟩,
   ⟨Reg.FLT_STATUS_SELF, 1, .rw1c, 0, true, .none_⟩,
   ⟨Reg.FLT_FIRST_LO_MSG, 32, .ro, 0, true, .none_⟩,
   ⟨Reg.FLT_FIRST_HI_MSG, 32, .ro, 0, true, .none_⟩,
   ⟨Reg.FLT_FIRST_TIME_LO_TIME, 32, .ro, 0, true, .none_⟩,
   ⟨Reg.FLT_FIRST_TIME_HI_TIME, 32, .ro, 0, true, .none_⟩,
   ⟨Reg.FLT_FIRST_CTRL_VALID, 1, .rw1c, 0, true, .none_⟩,
   ⟨Reg.FLT_FIRST_CTRL_OVERFLOW, 1, .ro, 0, true, .none_⟩,
   ⟨Reg.FLT_FIRST_CTRL_GRAVE_LATER, 1, .ro, 0, true, .none_⟩,
   ⟨Reg.FLT_OVF_COUNT_COUNT, 32, .ro, 0, true, .none_⟩,
   ⟨Reg.FLT_SRC_SEL_SOURCE, 12, .rw, 0, false, .live⟩,
   ⟨Reg.FLT_SRC_COUNT_COUNT, 32, .ro, 0, true, .none_⟩,
   ⟨Reg.FLT_SRC_STATE_WIN_COUNT, 8, .ro, 0, true, .none_⟩,
   ⟨Reg.FLT_SRC_STATE_ESCALATED, 1, .ro, 0, true, .none_⟩,
   ⟨Reg.FLT_SRC_STATE_WORST, 2, .ro, 0, true, .none_⟩,
   ⟨Reg.FLT_SRC_STATE_LAST_KIND, 8, .ro, 0, true, .none_⟩,
   ⟨Reg.FLT_INJECT_LO_MSG, 32, .wo, 0, false, .live⟩,
   ⟨Reg.FLT_INJECT_HI_MSG, 32, .wo, 0, false, .live⟩]

/-- Table 17.14 (R462). -/
def fields17_14 : List FieldInfo :=
  [⟨Reg.KLOG_CFG_PEL_MIN, 3, .rw, 3, true, .live⟩,
   ⟨Reg.KLOG_CFG_PERSIST_NOW, 1, .wo, 0, false, .live⟩,
   ⟨Reg.KLOG_STATUS_USED, 17, .ro, 0, true, .none_⟩,
   ⟨Reg.KLOG_STATUS_PERSIST_BUSY, 1, .ro, 0, true, .none_⟩,
   ⟨Reg.KLOG_STATUS_UNSAVED_LOST, 14, .ro, 0, true, .none_⟩,
   ⟨Reg.KLOG_SEQ_NEXT, 16, .ro, 0, true, .none_⟩,
   ⟨Reg.KLOG_SEQ_SAVED, 16, .ro, 0, true, .none_⟩,
   ⟨Reg.KLOG_DROP_SEL_SEVERITY, 3, .rw, 0, false, .live⟩,
   ⟨Reg.KLOG_DROP_COUNT, 32, .ro, 0, true, .none_⟩,
   ⟨Reg.KLOG_SUPP_COUNT, 32, .ro, 0, true, .none_⟩,
   ⟨Reg.KLOG_RD_SEQ_SEQ, 16, .rw, 0, false, .live⟩,
   ⟨Reg.KLOG_RD_SEQ_READY, 1, .ro, 0, false, .none_⟩,
   ⟨Reg.KLOG_RD_SEQ_MISSING, 1, .ro, 0, false, .none_⟩]

/-- Table 18.10 (R478). -/
def fields18_10 : List FieldInfo :=
  [⟨Reg.CFG_MBX_HDR0_OPCODE, 16, .rw, 0, false, .live⟩,
   ⟨Reg.CFG_MBX_HDR0_SEQUENCE, 16, .rw, 0, false, .live⟩,
   ⟨Reg.CFG_MBX_HDR1_LENGTH, 13, .rw, 0, false, .live⟩,
   ⟨Reg.CFG_MBX_BUF_LO_ADDR, 32, .rw, 0, false, .live⟩,
   ⟨Reg.CFG_MBX_BUF_HI_ADDR, 32, .rw, 0, false, .live⟩,
   ⟨Reg.CFG_MBX_DOORBELL_SEND, 1, .wo, 0, false, .live⟩,
   ⟨Reg.CFG_MBX_STATUS_BUSY, 1, .ro, 0, false, .none_⟩,
   ⟨Reg.CFG_MBX_STATUS_DONE, 1, .rw1c, 0, false, .none_⟩,
   ⟨Reg.CFG_MBX_STATUS_ERR, 1, .rw1c, 0, false, .none_⟩,
   ⟨Reg.CFG_MBX_STATUS_SESSION, 1, .ro, 0, true, .none_⟩,
   ⟨Reg.CFG_MBX_STATUS_RSP_STATUS, 16, .ro, 0, false, .none_⟩,
   ⟨Reg.CFG_MBX_RSP_RSP_LENGTH, 13, .ro, 0, false, .none_⟩,
   ⟨Reg.CFG_MBX_RSP_RSP_SEQUENCE, 16, .ro, 0, false, .none_⟩,
   ⟨Reg.CFG_MBX_CTRL_VECTOR, 11, .rw, 0, false, .live⟩,
   ⟨Reg.CFG_MBX_CTRL_IEN, 1, .rw, 0, false, .live⟩]

/-- Every register field of manager BAR2 that holds a value of its own or shows one. -/
def fieldTable : List FieldInfo :=
  fields0_1 ++ fields4_7 ++ fields4_8 ++ fields4_9 ++ fields4_10 ++ fields4_11 ++
  fields4_12 ++ fields4_13 ++ fields4_14 ++ fields4_15 ++ fields5_15 ++ fields5_16 ++
  fields5_17 ++ fields5_18 ++ fields5_19 ++ fields5_20 ++ fields5_21 ++ fields5_22 ++
  fields5_23 ++ fields5_24 ++ fields6_14 ++ fields6_15 ++ fields6_16 ++ fields6_17 ++
  fields7_12 ++ fields7_13 ++ fields8_12 ++ fields8_13 ++ fields9_11 ++ fields9_12 ++
  fields9_13 ++ fields10_6 ++ fields10_7 ++ fields10_8 ++ fields11_7 ++ fields11_8 ++
  fields11_9 ++ fields11_10 ++ fields11_11 ++ fields13_15 ++ fields13_16 ++ fields13_17 ++
  fields14_6 ++ fields14_7 ++ fields14_8 ++ fields15_11 ++ fields15_12 ++ fields15_13 ++
  fields16_7 ++ fields16_8 ++ fields17_13 ++ fields17_14 ++ fields18_10

/-- The table row of a field key. -/
def fieldInfo (key : Nat) : Option FieldInfo := fieldTable.find? fun r => r.key = key

/-- The value of a field at cold power-on. -/
def fieldCold (key : Nat) : Nat :=
  match fieldInfo key with
  | some r => r.cold
  | none => 0

/-- The fields of the register at an offset. -/
def fieldsAt (off : Nat) : List FieldInfo := fieldTable.filter fun r => r.key / 32 = off

end Sys2Proof.Machine
end

