-- ==== Sys2Proof/Machine/Part/Boot.lean ====
section
/-! DEFINITION. State of start-up, firmware update and the Service Port (spec/19_startup_update_service.md,
spec/20_electrical_and_package.md). -/

namespace Sys2Proof.Machine

/-- Where the part stands between power-on and operation. -/
inductive Phase where
  /-- AON reset released, the boot sequence not run (R479). -/
  | fresh
  /-- The ROM waits for PWRFAIL_N or PWRDIS before step 3 (R514, R516). -/
  | romWait
  /-- PCIe ready (R480). -/
  | ready
  /-- Bisque mode (R499). -/
  | bisque
  /-- The steward ROM holds after step 2 in the Grave hold (R453), or stops at a failure of Table 19.6. -/
  | graveHold
  | stopped
  /-- Shut down or reset: waiting for the next start-up from step 3. -/
  | down
  deriving DecidableEq, Repr

/-- A firmware slot (Table 19.8). -/
structure FwSlot where
  /-- Code of Table 19.8. -/
  st : Nat := 0
  hdr : FwHeader := {}
  /-- The image's signature block and digests. -/
  chain : Chain := {}
  /-- Sequence of the directory page that marked it Valid (R487). -/
  seq : Nat := 0
  deriving DecidableEq, Repr

/-- The staging area (R494, R497): its path (1 NVMe, 2 Service Port), the header, the pieces received. -/
structure Staging where
  path : Nat := 1
  hdr : FwHeader := {}
  pieces : List (Nat × Nat) := []
  /-- AON time of the last piece (R494). -/
  at_ : Nat := 0
  deriving DecidableEq, Repr

/-- A shutdown or drain in progress (R253, R356, R404, R516). -/
inductive Shut where
  | normal
  | pwrdis
  /-- The drain before a device reset; true when a PERST caused it. -/
  | device (perst : Bool)
  deriving DecidableEq, Repr

/-- The start-up record (Table 19.5). -/
structure BootRec where
  path : Nat := 0
  fwSlot : Nat := 0
  cfgSlot : Nat := 0
  /-- Copies of the Boot Area used, bit c for channel c. -/
  copies : Nat := 0
  dramRate : Nat := 0
  lastStep : Nat := 0
  /-- Ends of steps 1 to 10 in µs, 0 for a step not run. -/
  stepEnds : List Nat := []
  /-- The NVMe timestamp at the first Set Features Timestamp. -/
  hostTime : Nat := 0
  deriving DecidableEq, Repr

/-- State of start-up and service. -/
structure BootPart where
  phase : Phase := .fresh
  /-- What the surroundings give a start-up that waits before its step 3 (R514, R516). -/
  waiting : Option BootInfo := none
  /-- The OTP integrity check of step 1 failed (Table 19.6). -/
  otpHold : Bool := false
  /-- A controller reset restarts from step 3; else from step 1. -/
  fromStep3 : Bool := false
  /-- The Trail has been replayed since the last cold power-on (R211). -/
  replayed : Bool := false
  /-- AON time of PCIe ready (Table 19.8). -/
  readyAt : Nat := 0
  /-- MTFA as this start-up computed it, in 100 ms (R496). -/
  mtfa : Nat := 0
  /-- Strap of the port mode, as sampled (R343, R520). -/
  dualPort : Bool := false
  ssc : Bool := false
  /-- STRAP_TEST is not 00: the AON reset stays asserted (R520). -/
  testHeld : Bool := false
  /-- OTP rows 0 to 63, each a 512-bit number (R506). -/
  otp : Tab Nat := []
  /-- One Severe fault per cold power-on for a key pair with one bad row (R507). -/
  otpReported : Bool := false
  slots : Tab FwSlot := []
  dirSeq : Nat := 0
  attempts : Nat := 0
  /-- The running slot, 1 or 2. -/
  running : Nat := 0
  staging : Option Staging := none
  /-- Slot being written in Bisque mode. -/
  bisqueSlot : Nat := 0
  record : BootRec := {}
  /-- SPDM certificate chain: bytes written (R504). -/
  certBytes : Nat := 0
  /-- Boot Area: copies abandoned, spares used (R485). -/
  copiesLost : List Nat := []
  sparesUsed : List Nat := []
  nonce : Option Nat := none
  unlocked : Bool := false
  tracing : Bool := false
  baud : Nat := 115200
  /-- AON time of the Service Port's last valid frame (R501). -/
  frameAt : Nat := 0
  /-- The last request's sequence and the frame of its response (R503). -/
  lastReq : Option (Nat × List Nat) := none
  pwrfailLow : Bool := false
  pwrdis : Bool := false
  io33Low : Bool := false
  /-- The shutdown or drain in progress. -/
  shut : Option Shut := none
  /-- A controller reset follows the shutdown of PWRDIS (R516). -/
  pwrdisFell : Bool := false
  deriving DecidableEq, Repr

end Sys2Proof.Machine
end

