-- ==== Sys2Proof/Machine/Part/Cone.lean ====
section
/-! DEFINITION. State of Cone (spec/16_cone_thermal.md). Temperatures are in 1/1000 °C. -/

namespace Sys2Proof.Machine

/-- The latest readings of a die in the running second: their sum and number (R434). -/
structure DieTemp where
  sum : Int := 0
  n : Nat := 0
  deriving DecidableEq, Repr

/-- State of Cone. -/
structure ConePart where
  /-- A round has been accepted since start-up (R436). -/
  started : Bool := false
  /-- Node temperatures by node, and the anchored base. -/
  nodes : Tab Int := []
  base : Int := 0
  diode0 : Int := 0
  diode1 : Int := 0
  /-- Diodes failed (R436). -/
  failed : List Nat := []
  /-- Ring monitors of the latest accepted round, two per Bay. -/
  rings : List Int := []
  /-- Power in mW of each domain in the latest accepted round (R433). -/
  power : List Nat := []
  /-- f in percent (R437). -/
  f : Nat := 100
  /-- T of R437 and its source code, the hottest die. -/
  hot : Int := 0
  hotNode : Nat := 0
  nand : Int := 0
  residual : Int := 0
  /-- Consecutive rounds discarded (R432), at the floor, and cool ones (R438). -/
  discarded : Nat := 0
  floorRounds : Nat := 0
  coolRounds : Nat := 0
  dieTemps : Tab DieTemp := []
  /-- Seconds per bin (Table 16.5), the life sum of T and the counted seconds (R443). -/
  hist : Tab Nat := []
  lifeSum : Int := 0
  lifeSecs : Nat := 0
  /-- Bins, sum and seconds as control firmware has them (every 60 s), and as the latest checkpoint does (R443). -/
  copied : Tab Nat × Int × Nat := ([], 0, 0)
  saved : Tab Nat × Int × Nat := ([], 0, 0)
  /-- Cone has made its AVS request of the round (R427, R438). -/
  asked : Bool := false
  /-- Seconds until the next Warning of R443 may be written. -/
  sinceWarn : Nat := 0
  /-- THERMTRIP_N low (R440). -/
  trip : Bool := false
  /-- AON time of the latest housekeeping round. -/
  roundAt : Nat := 0
  /-- A rail was outside Table 20.2 in the last round (R476). -/
  railsOut : List Nat := []
  /-- A rail has read beyond its absolute maximum since the cold power-on (R509). -/
  stressed : Bool := false
  deriving DecidableEq, Repr

end Sys2Proof.Machine
end

