-- ==== Sys2Proof/Machine/Part/Dram.lean ====
section
/-! DEFINITION. State of the DRAM controller (spec/11_dram_controller.md). -/

namespace Sys2Proof.Machine

/-- A 64-byte burst with its poison flag (R325). -/
structure Burst where
  data : Nat := 0
  poison : Bool := false
  deriving DecidableEq, Repr

/-- A queued request, the AON time of its arrival (R326, R327) and the age cap then in force, in ticks (Table 11.6). -/
structure DEntry where
  req : DramReq := {}
  at_ : Nat := 0
  cap : Nat := 200
  /-- The burst that an issued read has taken. -/
  got : Burst := {}
  deriving DecidableEq, Repr

/-- One subchannel. -/
structure Subchannel where
  /-- Open rows by bank, as the row plus 1; 0 for a closed bank (R329). -/
  rows : Tab Nat := []
  /-- Writes are being issued down to WR_LOW (R328). -/
  draining : Bool := false
  /-- REFsb postponed by bank index, and bank indexes whose refresh is forced (R330). -/
  postponed : Tab Nat := []
  forced : List Nat := []
  /-- DMC_CFG.REF_POSTPONE as the running interval began with it (Table 11.7). -/
  refLimit : Nat := 4
  /-- The retry buffer (R333): the banks of the last commands issued with the row each left open, plus 1, or 0. -/
  recent : List (Nat × Nat) := []
  /-- Reads issued whose data has not returned. -/
  inFlight : List DEntry := []
  /-- Bursts by address; unlisted ones hold zeros, as training writes them (Table 11.3, step 6). -/
  mem : Tab Burst := []
  deriving DecidableEq, Repr

/-- One channel of two subchannels. -/
structure DChannel where
  /-- The queue of 256 requests with their subchannel (R326). -/
  queue : List (Nat × DEntry) := []
  /-- Requests waiting at their bridge or engine queue for room. -/
  waiting : List (Nat × DEntry) := []
  subs : Tab Subchannel := []
  /-- Remapped burst addresses, at most 32, subchannel in bit 27 (R235, Table 11.11). -/
  remap : List Nat := []
  /-- A lasting fault found the table full (R235). -/
  remapFull : Bool := false
  /-- Forced refreshes (R330). -/
  forcedRef : Nat := 0
  /-- No rate trains: every word unreadable (R334). -/
  dead : Bool := false
  deriving DecidableEq, Repr

/-- A retraining that runs (R324, R334): of one subchannel, or of all at another rate; and when it ends. -/
structure Training where
  chan : Nat := 0
  sub : Nat := 0
  all : Bool := false
  rate : Nat := 0
  until_ : Nat := 0
  deriving DecidableEq, Repr

/-- State of the DRAM controller. -/
structure DramPart where
  /-- Data rate in MT/s; 0 before training (R322). -/
  rate : Nat := 0
  fallback : Bool := false
  chans : Tab DChannel := []
  training : Option Training := none
  /-- Bursts scrubbed since cold power-on (R340). -/
  scrubbed : Nat := 0
  /-- ZQ calibrations and DQ retrains run (R324). -/
  zqRuns : Nat := 0
  retrains : Nat := 0
  deriving DecidableEq, Repr

end Sys2Proof.Machine
end

