-- ==== Sys2Proof/Machine/Part/Fabric.lean ====
section
/-! DEFINITION. State of the self-timed fabric and the clocked islands (spec/01_architecture.md). -/

namespace Sys2Proof.Machine

/-- A handshake bridge (R28, R29): the words in its two FIFOs of 16, and the interior requests held at it. -/
structure Bridge where
  /-- Words from the interior to the island, and from the island to the interior. -/
  inFifo : Nat := 0
  outFifo : Nat := 0
  held : Nat := 0
  deriving DecidableEq, Repr

/-- State of the Switch, the handshake bridges and the islands. -/
structure FabricPart where
  /-- The bridges, by clock domain. -/
  bridges : Tab Bridge := []
  /-- Words discarded whose retransmission has not ended (R22, R23). -/
  discarded : List WordAt := []
  /-- Switch segments out of service (R23). -/
  segmentsOut : List Nat := []
  /-- Port pairs whose traffic uses the other Switch half only (R23). -/
  oneHalf : List (Nat × Nat) := []
  /-- Switch ports out of service (R23). -/
  portsOut : List Nat := []
  /-- Handshake bridges out of service, by clock domain (R28). -/
  bridgesOut : List Nat := []
  /-- Clock domains whose clock stop waits for empty FIFOs (R29). -/
  stopWaits : List Nat := []
  /-- Clock domains whose clock has stopped (R29). -/
  stopped : List Nat := []
  deriving DecidableEq, Repr

end Sys2Proof.Machine
end

