-- ==== Sys2Proof/Machine/Part/Fault.lean ====
section
/-! DEFINITION. State of the Fault Collector and the Kiln Log (spec/17_faults_and_kiln_log.md). -/

namespace Sys2Proof.Machine

/-- A fault message, Tables 17.1 and 17.2 (R446): the four fields of the 64-bit word, FLAGS taken apart. -/
structure Msg where
  source : Nat := 0
  kind : Nat := 0
  address : Nat := 0
  /-- 0 Notice, 1 Degraded, 2 Severe, 3 Grave. -/
  cls : Nat := 0
  transient : Bool := false
  host : Bool := false
  deriving DecidableEq, Repr

/-- What the Fault Collector keeps for one source (R450, R455, Table 17.13). -/
structure Src where
  /-- All messages of the source; saturates at 32 bits (R462, FLT_SRC_COUNT). -/
  count : Nat := 0
  /-- A window is open (a message has arrived). -/
  open_ : Bool := false
  /-- AON time at which the window started (R450). -/
  winStart : Nat := 0
  /-- Messages in the window (R450). -/
  winCount : Nat := 0
  /-- Escalated until the window restarts (R450). -/
  escalated : Bool := false
  /-- CFG_FLT_ESC_COUNT taken at the window start (Table 17.12, staged). -/
  escCount : Nat := 16
  /-- CFG_FLT_ESC_WINDOW in seconds taken at the window start (Table 17.12, staged). -/
  escWindow : Nat := 60
  /-- Highest class since cold power-on (FLT_SRC_STATE.WORST). -/
  worst : Nat := 0
  /-- Latest kind (FLT_SRC_STATE.LAST_KIND). -/
  lastKind : Nat := 0
  /-- The message the source's port holds while the input queue is full (R455). -/
  held : Option Msg := none
  /-- Further messages the port could not send, up to 255 (R455). -/
  heldMore : Nat := 0
  deriving DecidableEq, Repr

/-- A Kiln Log record, Tables 17.7 and 17.8 (R456). -/
structure Rec where
  length : Nat := 32
  code : Nat := 0
  severity : Nat := 0
  source : Nat := 0
  seq : Nat := 0
  time : Nat := 0
  suppressed : Nat := 0
  /-- RFLAGS: escalated, injected, latched. -/
  escalated : Bool := false
  injected : Bool := false
  latched : Bool := false
  msg : Option Msg := none
  winCount : Nat := 0
  /-- The object the record's rule names (zone, die, range, reason ...), as numbers. -/
  body : List Nat := []
  /-- The NVMe timestamp when it was written, 0 where the host had set none (Table 17.10). -/
  stamp : Nat := 0
  /-- In a persisted segment (R459). -/
  saved : Bool := false
  /-- Reaches the Persistent Event Log (Table 17.9 and KLOG_CFG.PEL_MIN at its writing). -/
  pel : Bool := false
  deriving DecidableEq, Repr

/-- A 64 KiB segment of the persisted area (R459). -/
structure Segment where
  seq : Nat := 0
  recs : List Rec := []
  deriving DecidableEq, Repr

/-- A telemetry log as captured (Table 17.10): the FLT and KLOG registers and the ring of Area 1, the persisted area of Area
2, the counter snapshot of Area 3. -/
structure TeleCopy where
  regs : List Nat := []
  ring : List Rec := []
  persisted : List Segment := []
  snap : List Nat := []
  deriving DecidableEq, Repr

/-- The reaction lines (R13, Table 17.5, R452, R453). -/
structure Lines where
  stop : Bool := false
  zeroize : Bool := false
  dump : Bool := false
  isolate : Bool := false
  deriving DecidableEq, Repr

/-- State of the Fault Collector. -/
structure FaultPart where
  /-- Per source code 0x000 to 0xFFF (R447, R450). -/
  srcs : Tab Src := []
  /-- The input queue behind the running handler, oldest first, at most 256 (R454). -/
  queue : List Msg := []
  /-- The message the steward's handler runs on (R454). -/
  handler : Option Msg := none
  /-- The Grave state, held in the AON domain (R453). -/
  grave : Bool := false
  /-- AON time at which the Grave message was accepted: the zero point of Table 17.6. -/
  graveAt : Nat := 0
  /-- Step 3 of Table 17.6 done: STOP and ISOLATE asserted. -/
  graveStopped : Bool := false
  /-- Step 4 of Table 17.6: the Grave hold. -/
  graveHold : Bool := false
  lines : Lines := {}
  /-- Degraded messages counted for the archive page (Table 17.5). -/
  degradedCount : Nat := 0
  /-- The low half of the next injection: what the last write of FLT_INJECT_LO brought (Table 17.13); no read gives it
  (R6). -/
  injectLo : Nat := 0
  /-- CSTS.CFS of every function (Table 17.5). -/
  cfs : Bool := false
  deriving DecidableEq, Repr

/-- State of the Kiln Log. -/
structure KlogPart where
  /-- The ring, oldest first; at most 1 MiB of record bytes (R458). -/
  ring : List Rec := []
  /-- Tokens missing from each code's bucket (R457). -/
  spent : Tab Nat := []
  /-- Records of each code not written since the last one was (Table 17.8). -/
  supp : Tab Nat := []
  /-- Dropped records by severity (KLOG_DROP, R458). -/
  drops : Tab Nat := []
  /-- A segment is due or being written (KLOG_STATUS.PERSIST_BUSY). -/
  persistDue : Bool := false
  segSeq : Nat := 0
  /-- AON time of the last segment written (R459). -/
  segAt : Nat := 0
  /-- The persisted area, newest first: 64 MiB of 64 KiB segments (R459). -/
  segments : List Segment := []
  /-- The captured record of KLOG_RD_DATA (R462). -/
  captured : Option Rec := none
  /-- Persistent Event Log contexts established by an attached controller: the fixed set of events (R460). -/
  pelContexts : Tab (Option (List Rec)) := []
  /-- Telemetry Host-Initiated capture (log 0x07). -/
  teleHost : Option TeleCopy := none
  /-- Telemetry Controller-Initiated capture (log 0x08), unread while present. -/
  teleCtrl : Option TeleCopy := none
  /-- Controller-Initiated Data Available (R460). -/
  teleAvail : Bool := false
  deriving DecidableEq, Repr

end Sys2Proof.Machine
end

