-- ==== Sys2Proof/Machine/Part/Fixity.lean ====
section
/-! DEFINITION. State of Fixity Verify jobs and of the SECDED memories (spec/07_integrity_and_fixity.md). -/

namespace Sys2Proof.Machine

/-- A result record (Table 7.8). -/
structure FixResult where
  zone : Nat := 0
  result : Nat := 0
  flags : Nat := 0
  unreadable : Nat := 0
  chunkMismatch : Nat := 0
  bytes : Nat := 0
  computed : Nat := 0
  stored : Nat := 0
  deriving DecidableEq, Repr

/-- A fixity job (R228 to R231, Table 7.9). -/
structure FixJob where
  /-- 0 none, 1 running, 2 ended, 3 cancelled. -/
  st : Nat := 0
  owner : Nat := 0
  /-- CDW12 bits 19:16: WAIT, REPORT, CHUNKS, CANCEL. -/
  options : Nat := 0
  nsid : Nat := 0
  /-- First zone, number of zones, zones reached so far. -/
  first : Nat := 0
  zones : Nat := 0
  started : Nat := 0
  /-- Zones being read and hashed, at most four (R229). -/
  active : List Nat := []
  /-- Records written, in zone order. -/
  results : List FixResult := []
  /-- NVMe timestamps in ms (Table 7.9). -/
  start : Nat := 0
  end_ : Nat := 0
  /-- Rate at which its zones are read, in hundredths of a GB/s: all jobs together have CFG_FIX_VERIFY_RATE, which PS1 and PS2
  scale (R232, R409). -/
  rate : Nat := 0
  /-- CANCEL has named the job: it stops at its next zone boundary. -/
  cancelling : Bool := false
  /-- With WAIT: the tag of the command to complete. -/
  tag : Option Nat := none
  deriving DecidableEq, Repr

/-- An SRAM macro group (R235, Table 7.13). -/
structure MacroGroup where
  used : Nat := 0
  full : Bool := false
  out : Bool := false
  deriving DecidableEq, Repr

/-- State of the jobs and of the SECDED checks. -/
structure FixityPart where
  /-- Jobs by ID 0 to 63. -/
  jobs : Tab FixJob := []
  /-- The ID given out last, plus 1 (R228). -/
  nextId : Nat := 0
  /-- Macro groups 0 to 383. -/
  groups : Tab MacroGroup := []
  /-- Words returned poisoned (R234). -/
  poisoned : List (Nat × Nat) := []
  /-- A self-test of the checkers runs (FLT_ECC_CTRL.BUSY). -/
  testBusy : Bool := false
  /-- Runs made: the flipped positions advance by one with each (R237). -/
  testRuns : Nat := 0
  /-- Control clusters, LDPC decoders (by channel), DRAM subchannels and other blocks out of service (Table 7.10). -/
  clustersOut : List Nat := []
  decodersOut : List Nat := []
  subchannelsOut : List Nat := []
  blocksOut : List Nat := []
  deriving DecidableEq, Repr

end Sys2Proof.Machine
end

