-- ==== Sys2Proof/Machine/Part/Intake.lean ====
section
/-! DEFINITION. State of command intake: tags, queues, throttle (spec/03_command_intake.md). -/

namespace Sys2Proof.Machine

/-- Where a tag stands in its life cycle (Table 3.3). -/
inductive Stage where
  | free
  | staged
  | inFlight
  | posting
  deriving DecidableEq, Repr

/-- Intake classes of Table 3.2. -/
inductive Class where
  | u
  | a
  | b
  deriving DecidableEq, Repr

/-- What a logical block holds. (DESIGN CHOICE, log entry 5.) -/
inductive Content where
  /-- Never written, deallocated, beyond the write pointer, or a hole: reads as zeros, protection information as ones
  (R49, R220). -/
  | zeros
  /-- 4,096 bytes, as a number. -/
  | data (v : Nat)
  /-- Lost: Unrecovered Read Error (0x81). -/
  | lost
  deriving DecidableEq, Repr

/-- Where a read takes one block from (R130). (DESIGN CHOICE, log entry 5.) -/
inductive Source where
  /-- The data the map gave at the read's latch, and whether its die read has returned. -/
  | media (c : Content) (here : Bool)
  | zeros
  /-- A unit of an earlier write still in flight, claimed by the read (R86), and that write's sequence. -/
  | fwd (unit : Nat) (seq : Nat)
  deriving DecidableEq, Repr

/-- One command between fetch and completion (Table 3.3, R75). -/
structure TagRec where
  stage : Stage := .free
  /-- 5-bit generation, incremented modulo 32 on entry to Free. -/
  gen : Nat := 0
  cls : Class := .b
  inst : Nat := 0
  sq : Nat := 0
  cq : Nat := 0
  cmd : HostCmd := {}
  /-- Admission sequence (R84). -/
  seq : Nat := 0
  /-- The step of Table 3.4 at which the staged command waits; 0 when not tried yet. -/
  waitStep : Nat := 0
  /-- It has passed the access lookup of check 5 (R129). -/
  checked : Bool := false
  /-- Positions of the command's Sieve entries (R79). -/
  entries : List Nat := []
  /-- Hamper units the command holds, in block order (R309). -/
  units : List Nat := []
  /-- The first LBA the command covers (a Zone Append's assigned LBA). -/
  lba : Nat := 0
  /-- Blocks of a write whose data has arrived (R86). -/
  arrived : List Nat := []
  /-- All of a write's data is in Far Hamper (R241). -/
  dataIn : Bool := false
  /-- Sources of a read's blocks, in block order (R130). -/
  sources : List Source := []
  /-- The command's work has ended with this status; its completion may be posted. -/
  done : Option Nat := none
  /-- Dword 0 of its completion: a Zone Append's assigned LBA, a fixity job, an Abort's outcome (R94). -/
  dw0 : Nat := 0
  /-- Its fate in a Stop of its instance (Table 13.9); 0 for none. -/
  fate : Nat := 0
  deriving DecidableEq, Repr

/-- A submission queue (R68, R69). -/
structure Sq where
  exists_ : Bool := false
  size : Nat := 0
  base : Nat := 0
  pc : Bool := true
  cq : Nat := 0
  /-- 0 urgent, 1 high, 2 medium, 3 low (CC.AMS = 001b). -/
  prio : Nat := 2
  head : Nat := 0
  tail : Nat := 0
  /-- The tag of the staged head command (R73). -/
  staged : Option Nat := none
  deriving DecidableEq, Repr

/-- A completion queue (R68, R93). -/
structure Cq where
  exists_ : Bool := false
  size : Nat := 0
  base : Nat := 0
  pc : Bool := true
  /-- Host's head, as the doorbell wrote it. -/
  head : Nat := 0
  /-- Controller's tail. -/
  tail : Nat := 0
  phase : Bool := true
  /-- Slots reserved by staged or admitted commands (Table 3.4, step 1). -/
  reserved : Nat := 0
  vector : Nat := 0
  ien : Bool := true
  /-- Entries posted and not yet signalled (R93). -/
  unsignalled : Nat := 0
  deriving DecidableEq, Repr

/-- State of intake. -/
structure IntakePart where
  /-- The tags 0 to 32,767 (R74). -/
  tags : Tab TagRec := []
  /-- The next admission sequence (R84). -/
  seqNext : Nat := 1
  /-- Throttle factor in force, percent (R81, R82). -/
  f : Nat := 100
  /-- Power factor in force, percent (R81). -/
  g : Nat := 100
  /-- No throttle message for 30 ms (R82). -/
  throttleLost : Bool := false
  /-- Bytes missing from the throttle bucket (R81). -/
  bucketSpent : Nat := 0
  /-- AON time to which the bucket has been refilled (R81). -/
  bucketTime : Nat := 0
  /-- Doorbell notices waiting: instance and queue (Table 1.3, R69). -/
  notices : List (Nat × Nat) := []
  /-- Tags waiting at check 2 of R118, longest first. -/
  sieveWait : List Nat := []
  /-- The read waiting at the admission point for a walk slot (R115). -/
  walkWait : Option Nat := none
  /-- The instance whose admin queue was served last in Class A (Table 3.2). -/
  lastAdmin : Nat := 0
  /-- The round of Class B being served (R71). -/
  rounds : Nat := 0
  /-- Intake has stopped fetching (shutdown, dump, STOP, drain). -/
  stopped : Bool := false
  /-- AON time at which intake became idle (R101). -/
  idleAt : Nat := 0
  /-- The latency tolerance reported last, in microseconds (R105). -/
  ltr : Nat := 1000
  deriving DecidableEq, Repr

end Sys2Proof.Machine
end

