-- ==== Sys2Proof/Machine/Part/Zone.lean ====
section
/-! DEFINITION. State of namespaces, zones, die sets and stripe groups (spec/02_zones_and_placement.md,
spec/06_media_management.md). -/

namespace Sys2Proof.Machine

/-- The seven zone states of R43. -/
inductive ZState where
  | zse
  | zsio
  | zseo
  | zsc
  | zsf
  | zsro
  | zso
  deriving DecidableEq, Repr

/-- A row of a stripe group. -/
structure RowRef where
  group : Nat := 0
  row : Nat := 0
  deriving DecidableEq, Repr

/-- The zone trailer (R225): what it records besides the digests. -/
structure Trailer where
  /-- FLAGS bit 2: a Refire found a mismatch (R227). -/
  mismatch : Bool := false
  /-- Blocks from ZSLBA to the last written one. -/
  dataEnd : Nat := 0
  /-- ZONE_DIGEST (R225), as a number. -/
  digest : Nat := 0
  /-- Holes: offset in the zone, length in blocks, reason (Table 7.5). -/
  holes : List (Nat × Nat × Nat) := []
  /-- Chunk digests are present (FLAGS bit 0), one for each 64 MiB. -/
  chunks : Bool := false
  chunkDigests : List Nat := []
  /-- Write sequence of the zone's first and last program. -/
  seqFirst : Nat := 0
  seqLast : Nat := 0
  deriving DecidableEq, Repr

/-- One zone (R43, R45, R55, R57, R178, R187). -/
structure Zone where
  st : ZState := .zse
  /-- Write pointer as an offset from ZSLBA; the reported one is ZCAP in ZSF (R44). -/
  wp : Nat := 0
  /-- Zone Descriptor Extension Valid, and the 64-byte extension as a number. -/
  zdev : Bool := false
  zde : Nat := 0
  /-- Finish Zone Recommended. -/
  fzr : Bool := false
  /-- Zone Finished by Controller. -/
  zfc : Bool := false
  /-- Age since the transition from ZSE, in 10 ms rounds (R55). -/
  age : Nat := 0
  /-- The row the zone is bound to (R57). -/
  row : Option RowRef := none
  /-- Admission sequence of the latest write or append, for the implicit close (R54). -/
  lastSeq : Nat := 0
  /-- Holes of the zone: offset, length and reason (R49, Table 7.5). -/
  holes : List (Nat × Nat × Nat) := []
  /-- The hash lane it was given when it left ZSE (R222). -/
  lane : Nat := 0
  trailer : Option Trailer := none
  /-- The hash state saved at the last reset, shutdown or dump: the offset it stands for, and the state (R224). -/
  hash : Option (Nat × Nat) := none
  /-- Chunk digests chosen at the transition from ZSE (CFG_FIX_CHUNKS). -/
  chunks : Bool := false
  /-- Key tag fixed by the first write after ZSE (R295). -/
  keyTag : Option Nat := none
  /-- Admission sequence of the latest Reset: older map updates are discarded (R45, R88). -/
  resetSeq : Nat := 0
  /-- Value of c(g) when the first program unit was issued (R187). -/
  fiStamp : Nat := 0
  /-- Patrols run: 0, 1 after 50 %, 2 after 75 % (R192). -/
  patrols : Nat := 0
  deriving DecidableEq, Repr

/-- A map entry: what a block holds, the sequence of the write that set it (R88), where it lies. -/
structure Blk where
  content : Content := .zeros
  seq : Nat := 0
  row : Option RowRef := none
  off : Nat := 0
  /-- Its 256 KiB piece of the write: units in it, and its number there (Table 8.8); 0 for an internal write. -/
  pieceLen : Nat := 0
  pieceIdx : Nat := 0
  deriving DecidableEq, Repr

/-- A registrant of a namespace (R360). -/
structure Registrant where
  host : Nat := 0
  key : Nat := 0
  deriving DecidableEq, Repr

/-- An open conventional row and the 4 KiB units of it given out (R59, R201). -/
structure OpenRow where
  row : RowRef := {}
  next : Nat := 0
  deriving DecidableEq, Repr

/-- The encryption modes of a namespace (R269). -/
inductive EncMode where
  | clear
  | xts
  | sealed_
  | keyPerIo
  deriving DecidableEq, Repr

/-- A namespace (R32, R33, R41, R59, R60). -/
structure Ns where
  exists_ : Bool := false
  zoned : Bool := true
  dieSet : Nat := 1
  lbaf : Nat := 0
  /-- Protection information (Table 2.2). -/
  pi : PiFormat := {}
  /-- Blocks. -/
  size : Nat := 0
  /-- ZCAP in blocks (R40). -/
  zcap : Nat := 786176
  mode : EncMode := .xts
  /-- Instances the namespace is attached to. -/
  attached : List Nat := []
  /-- Zones by number. -/
  zones : Tab Zone := []
  /-- Blocks by LBA. -/
  map : Tab Blk := []
  /-- Rows of a conventional namespace (R59). -/
  rows : List RowRef := []
  /-- The open conventional rows, by place key: one for each reclaim unit handle and reclaim group in use (R60). -/
  opens : Tab (Option OpenRow) := []
  /-- The open relocation target row and the units of it given out (R201). -/
  relRow : Option RowRef := none
  relNext : Nat := 0
  /-- Reclaim unit handles of the placement handles, in handle order (R60). -/
  handles : List Nat := []
  /-- A Format, Sanitize or delete waits for the namespace to be idle (R77). -/
  closing : Bool := false
  registrants : List Registrant := []
  /-- Holder's host and reservation type (R361). -/
  holder : Option (Nat × Nat) := none
  /-- Persist Through Power Loss (R362). -/
  ptpl : Bool := false
  /-- Reservation generation counter. -/
  resGen : Nat := 0
  deriving DecidableEq, Repr

/-- Ladder stages of Table 2.7. -/
inductive Ladder where
  | normal
  | amber
  | red
  | exhausted
  deriving DecidableEq, Repr

/-- Reasons of Table 6.8, in their order. -/
inductive Reason where
  | rebuild
  | verify
  | early
  | threshold
  | wear
  deriving DecidableEq, Repr

/-- A queued Refire (R190): of a zone, or under namespace 0 of a kept parity row, by the row's key (R199). -/
structure RefireReq where
  nsid : Nat := 0
  zone : Nat := 0
  reason : Reason := .threshold
  deriving DecidableEq, Repr

/-- A running Refire (Table 6.9). -/
structure Refire where
  job : Nat := 0
  nsid : Nat := 0
  zone : Nat := 0
  reason : Reason := .threshold
  old : RowRef := {}
  target : RowRef := {}
  /-- Its internal Sieve entry; none for a kept parity row, which has no blocks of its own. -/
  entry : Option Nat := none
  failures : Nat := 0
  /-- Step 5 done: target programmed and its trailer written. -/
  programmed : Bool := false
  /-- Target verified. -/
  verified : Bool := false
  /-- Step 3 found that the plaintext does not match the digest (R227). -/
  mismatch : Bool := false
  /-- Admission sequence of the switch: earlier reads hold the old row. -/
  seq : Nat := 0
  /-- Step 6 done: the zone's row binding switched. -/
  switched : Bool := false
  deriving DecidableEq, Repr

/-- A relocation of a conventional row (R200 to R203). -/
structure Reloc where
  job : Nat := 0
  nsid : Nat := 0
  source : RowRef := {}
  target : RowRef := {}
  /-- Its internal Sieve entry (Table 4.3). -/
  entry : Option Nat := none
  /-- Units copied: LBA, the sequence the map entry had at the copy, offset in the target. -/
  units : List (Nat × Nat × Nat) := []
  failures : Nat := 0
  verified : Bool := false
  switched : Bool := false
  deriving DecidableEq, Repr

/-- Predictable Latency windows. -/
structure Plm where
  enabled : Bool := false
  /-- Event bits enabled by Feature 0x13. -/
  events : Nat := 0
  deterministic : Bool := false
  /-- A deterministic window is wanted and waits for the dies; the instance and command to complete (R160). -/
  entering : Option (Nat × Nat) := none
  /-- The first admission sequence of the window: what later writes hold is its write use (R159). -/
  winSeq : Nat := 0
  /-- The allowance the window began with, in units (R159). -/
  allowance : Nat := 0
  /-- The non-deterministic window has lasted NDWIN Time Minimum Low (R161): age in rounds of 10 ms. -/
  ndRounds : Nat := 0
  /-- Events of logs 0x0A and 0x0B (R161). -/
  log : List Nat := []
  deriving DecidableEq, Repr

/-- A place in a kept parity row (R181): a die position holds the parity of one row. -/
structure KeptSlot where
  slot : Nat := 0
  of : RowRef := {}
  /-- The copy has passed its verify. -/
  done : Bool := false
  deriving DecidableEq, Repr

/-- A kept parity row (R181, R199). -/
structure KeptRow where
  row : RowRef := {}
  /-- Positions given out, 16 at most; one that has been given up is not used again before the row's erase. -/
  given : Nat := 0
  slots : List KeptSlot := []
  /-- The target of its Refire. -/
  next : Option RowRef := none
  deriving DecidableEq, Repr

/-- A die set: NVM Set and Endurance Group `d` (R36). -/
structure DieSet where
  groups : List Nat := []
  kept : Bool := false
  /-- Sum of the groups' spare rows when the die set was formed (R62). -/
  spareAtForm : Nat := 0
  stage : Ladder := .normal
  /-- Logical blocks lost, and digests that did not match (LOST_BLOCKS and FIXITY_MISMATCH of Table 18.9a). -/
  lostBlocks : Nat := 0
  mismatches : Nat := 0
  openBudget : Nat := 0
  activeBudget : Nat := 0
  fdp : Bool := false
  /-- Events recorded by Feature 0x1E: event types enabled, and the events. -/
  fdpEvents : Nat := 0
  fdpLog : List Nat := []
  plm : Plm := {}
  queue : List RefireReq := []
  running : List Refire := []
  /-- Zones whose Refire waits for its 1 h timer after four failed targets (R197). -/
  retryZones : List RefireReq := []
  relocs : List Reloc := []
  retryRows : List (Nat × RowRef) := []
  /-- Failed targets so far of a zone queued again, and of a source row (R197, R203). -/
  failed : List (Nat × Nat × Nat) := []
  failedRows : List (RowRef × Nat) := []
  /-- Conventional rows queued for relocation, with their reason (R199, R203). -/
  convQ : List (Nat × RowRef × Reason) := []
  /-- Kept parity rows (R181). -/
  keptRows : List KeptRow := []
  deriving DecidableEq, Repr

/-- Geometry codes of Table 2.3: planes, blocks of 4 KiB in a program unit, wordlines, blocks per plane. -/
structure Geometry where
  planes : Nat := 4
  unitBlocks : Nat := 64
  wordlines : Nat := 768
  blocksPerPlane : Nat := 2232
  deriving DecidableEq, Repr

/-- A stripe group (R34, R35, R168, R169, R207). -/
structure Group where
  formed : Bool := false
  withdrawn : Bool := false
  geo : Geometry := {}
  /-- The 16 dies in ascending channel order. -/
  dies : List Nat := []
  /-- Zone rows in service, spare rows (R169, R207). -/
  zoneRows : Nat := 0
  spareRows : Nat := 0
  /-- Rows of the Blanket pool and of the Trail area when the group was formed (R169). -/
  poolRows : Nat := 8
  trailRows : Nat := 8
  /-- Spare blocks of each die-plane at formation, less the finish reserve, and rows taken from them as zone rows
  (R58, R169, R207). -/
  spareBase : Nat := 0
  rowsTaken : Nat := 0
  /-- Spares that the unused remainder of its rows makes, where ZCAP is that of a smaller geometry (R40). -/
  remainder : Nat := 0
  spareAtForm : Nat := 0
  /-- Erased and free zone rows taken by zones and conventional namespaces: row to owner. -/
  bound : List Nat := []
  /-- Rows out of service (R208). -/
  gone : List Nat := []
  /-- Mean QLC erase count by row (R185); unlisted rows have 0. -/
  erases : Tab Nat := []
  /-- Firing Index counter c(g), 64 bits (R187). -/
  fi : Nat := 0
  /-- Temperature last used, in half degrees above -40 °C (R188). -/
  temp : Nat := 130
  /-- One row of the finish reserve has become a Refire target (R198). -/
  reserveUsed : Bool := false
  /-- A dump row holds an unreleased dump (R243). -/
  dumpHeld : Bool := false
  deriving DecidableEq, Repr

/-- A changed zone list of one attached controller for one namespace (R56). -/
structure ChangedList where
  zones : List Nat := []
  overflow : Bool := false
  deriving DecidableEq, Repr

/-- State of namespaces, zones and die sets. -/
structure ZonePart where
  nss : Tab Ns := []
  dieSets : Tab DieSet := []
  groups : Tab Group := []
  /-- Capacity configuration in force (R37). -/
  capConfig : Nat := 0
  /-- Changed zone lists by instance × 2048 + NSID (R56). -/
  changed : Tab ChangedList := []
  /-- Mode named by NS_MODE_SET for the manager's next create (R269). -/
  nextMode : Option EncMode := none
  deriving DecidableEq, Repr

end Sys2Proof.Machine
end

