-- ==== Sys2Proof/Machine/Part/Glaze.lean ====
section
/-! DEFINITION. State of Glaze: key slots, key store, locking ranges, descriptors and lanes
(spec/09_glaze_cipher.md). -/

namespace Sys2Proof.Machine

/-- Key slot states of Table 9.6, in code order. -/
inductive SlotState where
  | empty
  | ready
  | draining
  | locked
  deriving DecidableEq, Repr

/-- A key slot (R285, Table 9.6). -/
structure Slot where
  st : SlotState := .empty
  /-- GCM (else XTS). -/
  gcm : Bool := false
  /-- REASON of Locked: 1 Opal lock, 2 alarm, 3 key tag not injected. -/
  reason : Nat := 0
  /-- 8-bit generation. -/
  gen : Nat := 0
  owner : Nat := 0
  /-- The key, while present. -/
  key : Option Nat := none
  /-- Descriptors accepted in Ready and not ended. -/
  accepted : Nat := 0
  /-- What a draining slot becomes: Locked with this REASON, or Empty. -/
  lockAfter : Option Nat := none
  /-- What the slot is reserved for: namespace × 128 + range, or a key tag of a namespace. -/
  range : Option Nat := none
  tag : Option (Nat × Nat) := none
  deriving DecidableEq, Repr

/-- A wrapped key: the wrapping key and the key it holds; it unwraps under that wrapping key only (DESIGN CHOICE, log entry 3). -/
structure Wrapped where
  under : Nat := 0
  key : Nat := 0
  /-- No copy of the key store holds it (R290). -/
  lost : Bool := false
  deriving DecidableEq, Repr

/-- A locking range and its key store record (R289, R290, R293). -/
structure LockRange where
  exists_ : Bool := false
  lo : Nat := 0
  hi : Nat := 0
  readLockEnabled : Bool := false
  writeLockEnabled : Bool := false
  readLocked : Bool := false
  writeLocked : Bool := false
  /-- LockOnReset: Power Cycle, Hot Reset. -/
  lockOnCycle : Bool := false
  lockOnReset : Bool := false
  slot : Nat := 0
  /-- The wrapped MEK in the key store. -/
  wrapped : Wrapped := {}
  /-- The authority of the range (R289). -/
  authority : Option Nat := none
  deriving DecidableEq, Repr

/-- A suspended context (R276): its descriptor and the AON time of the suspend. -/
structure Ctx where
  desc : GDesc := {}
  since : Nat := 0
  deriving DecidableEq, Repr

/-- A Glaze lane: the running descriptor and its suspended contexts, latest first (R274, R277). -/
structure Lane where
  running : Option GDesc := none
  /-- AON time of the running descriptor's start or last resume (R276). -/
  since : Nat := 0
  contexts : List Ctx := []
  /-- AON time at which its latest descriptor ended (R413). -/
  doneAt : Nat := 0
  /-- The running descriptor resumed by age: runs to its end (R277). -/
  aged : Bool := false
  /-- A context has been suspended for 100 µs and resumes next (R277). -/
  agedDue : Bool := false
  deriving DecidableEq, Repr

/-- State of Glaze. -/
structure GlazePart where
  slots : Tab Slot := []
  /-- Locking ranges by namespace × 128 + number; number 0 is the global range. -/
  ranges : Tab LockRange := []
  /-- Slots of Key Per I/O tags by namespace × 1024 + tag. -/
  keyTags : Tab (Option Nat) := []
  /-- Key Per I/O KEKs by namespace, wrapped under K_wrap (R290). -/
  keks : Tab (Option Wrapped) := []
  /-- Authorities: the credential each has, as a number; and those authenticated (R289). -/
  credentials : Tab (Option Nat) := []
  authenticated : List Nat := []
  /-- The device root key, K_wrap and K_buf are present (Table 9.7). -/
  rootKeys : Bool := false
  /-- Key generation is stopped by an entropy failure (R292). -/
  drbgFail : Bool := false
  /-- Reseeds of the DRBG, and its calls since the latest (R292). -/
  drbgSeeds : Nat := 0
  drbgCalls : Nat := 0
  /-- How often the key store has been replaced, and its copies (0 to 3) whose records fail KW integrity (R290). -/
  storeSeq : Nat := 0
  storeBad : List Nat := []
  lanes : Tab Lane := []
  urgentQ : List GDesc := []
  bulkQ : List GDesc := []
  /-- Descriptors that wait in their engine queue while their class is full (R274). -/
  waiting : List GDesc := []
  /-- An alarm is active: its source (Table 9.8). -/
  alarm : Option Nat := none
  /-- A Grave alarm: no recovery until a power cycle (R300). -/
  alarmGrave : Bool := false
  /-- Code of the latest alarm (GLZ_STATUS.SOURCE). -/
  lastAlarm : Nat := 0
  /-- Warnings written for sealed work that waits for an MEK (R270). -/
  sealedWaits : Nat := 0
  deriving DecidableEq, Repr

end Sys2Proof.Machine
end

