-- ==== Sys2Proof/Machine/Part/Mgmt.lean ====
section
/-! DEFINITION. State of the configuration mailbox, the configuration image, NVMe-MI and the health logs
(spec/18_management_and_configuration.md). -/

namespace Sys2Proof.Machine

/-- An image session (R465). -/
structure CfgSession where
  /-- 0 BAR2, 1 the Service Port. -/
  path : Nat := 0
  hdr : CfgHeader := {}
  /-- Bytes received. -/
  got : Nat := 0
  recs : List CfgRec := []
  /-- AON time of the last request (R465). -/
  at_ : Nat := 0
  deriving DecidableEq, Repr

/-- A configuration slot of the Boot Area (R469). -/
structure CfgSlot where
  hdr : CfgHeader := {}
  recs : List CfgRec := []
  /-- The image's signature block and digest. -/
  chain : Chain := {}
  deriving DecidableEq, Repr

/-- A message of the steward mailbox: its row in Table 18.7 from 0, its numbers (R473). -/
structure Mail where
  kind : Nat := 0
  data : List Int := []
  deriving DecidableEq, Repr

/-- State of the management interfaces. -/
structure MgmtPart where
  session : Option CfgSession := none
  /-- Configuration slots 0 and 1. -/
  slots : Tab (Option CfgSlot) := []
  /-- The slot of the image in force, and the AON time since when. -/
  inForce : Option Nat := none
  forceAt : Nat := 0
  /-- Static fields of a committed image that wait for start-up (R469). -/
  staticWait : Nat := 0
  /-- NVMe-MI: paused transports, tunnelled commands in flight by transport, configuration values, VPD bytes. -/
  miPaused : List Nat := []
  miConfig : Tab Nat := []
  vpd : Tab Nat := []
  miLast : Tab (List Nat) := []
  /-- The health status as it stood when its changes were last cleared (Controller Health Status Poll). -/
  miChanged : Nat := 0
  /-- AON time of the last frame on SMBus (R423). -/
  smbusAt : Nat := 0
  /-- The steward mailbox (R473): its ring from the steward to control firmware and the one back, at most 64 entries each, oldest
  first, and what waits for room in them. -/
  mailOut : List Mail := []
  mailBack : List Mail := []
  mailOutWait : List Mail := []
  mailBackWait : List Mail := []
  /-- The Archive pages of the last housekeeping round, by LSI (R475). -/
  archive : Tab (List Nat) := []
  /-- SMART: dumps and abrupt shutdowns, host completions with 0x81 to 0x84, acknowledged data lost (R474). -/
  unsafeStops : Nat := 0
  mediaErrors : Nat := 0
  dataLost : Bool := false
  /-- Rounds at or above WCTEMP and CCTEMP (R474). -/
  warmRounds : Nat := 0
  critRounds : Nat := 0
  /-- Severe messages counted for the archive page. -/
  severeCount : Nat := 0
  /-- The first service-life condition found broken; 0 for none (R476). -/
  lifeCond : Nat := 0
  lifeBroken : Bool := false
  /-- Spare rows lost: die set and the counted second of each loss (Table 18.9a), and each die set's spare rows as the
  last round found them. -/
  spareLost : List (Nat × Nat) := []
  spareSeen : Tab Nat := []
  /-- Zones in FI bin 4: namespace, zone, the counted second since when (ADVICE bit 7). -/
  binFour : List (Nat × Nat × Nat) := []
  deriving DecidableEq, Repr

end Sys2Proof.Machine
end

