-- ==== Sys2Proof/Machine/Part/Pcie.lean ====
section
/-! DEFINITION. State of the PCIe ports and functions, DOE, SPDM and IDE (spec/12_pcie_attachment.md). -/

namespace Sys2Proof.Machine

/-- What the part has sent out of the package, in the order it was sent. -/
inductive Out where
  /-- A completion entry: instance, queues, command identifier, status, Dword 0; steering tag and processing hint where the
  write carries TPH (R349). -/
  | cqe (inst sq cq cid status dw0 : Nat) (tph : Option (Nat × Nat))
  /-- Data written to host memory for a command; whether the writes carry Relaxed Ordering (R348). -/
  | data (inst sq cid : Nat) (payload : List Nat) (relaxed : Bool) (tph : Option (Nat × Nat))
  /-- Bytes written to host memory for the controller itself: dirty-page bitmaps, drain reports. -/
  | mem (inst addr : Nat) (bytes : List Nat)
  /-- An interrupt message of an instance. -/
  | msi (inst vector : Nat)
  /-- A response or message on another port: port code, then its numbers. -/
  | reply (port : Nat) (payload : List Nat)
  deriving DecidableEq, Repr

/-- Link power states. -/
inductive LState where
  | l0
  | l1
  | l11
  | l12
  deriving DecidableEq, Repr

/-- One port. -/
structure PPort where
  /-- PERST asserted; it is asserted at the release of the AON reset (R355). -/
  perst : Bool := true
  up : Bool := false
  /-- The link went down after it had been up: what is sent to the host is lost (R246). -/
  lost : Bool := false
  /-- GT/s, and lanes trained and active (R353). -/
  rate : Nat := 0
  width : Nat := 0
  active : Nat := 0
  l : LState := .l0
  /-- AER events reported, newest first (R351, R359). -/
  aer : List Nat := []
  /-- Reads of host memory for write data (R350): those outstanding, as PCIe tag and the command's tag; those still to be
  made, as the command's tag and their number. -/
  reads : List (Nat × Nat) := []
  readQ : List (Nat × Nat) := []
  deriving DecidableEq, Repr

/-- Configuration space of a function, as far as the spec gives it an effect. -/
structure PFunc where
  ltrOn : Bool := false
  maxSnoop : Nat := 0
  maxNoSnoop : Nat := 0
  mrrs : Nat := 512
  tenBit : Bool := false
  relaxed : Bool := true
  tph : Bool := false
  l1 : Bool := false
  l11 : Bool := false
  l12 : Bool := false
  l12Threshold : Nat := 0
  l0p : Bool := false
  /-- Other dwords, by index. -/
  dwords : Tab Nat := []
  deriving DecidableEq, Repr

/-- A DOE mailbox and its SPDM sessions (R357, Table 12.5). -/
structure DoeBox where
  /-- The object in progress. -/
  object : Option (List Nat) := none
  /-- Open sessions, at most 2. -/
  sessions : List Nat := []
  nextSession : Nat := 1
  deriving DecidableEq, Repr

/-- The selective IDE stream (R359). -/
structure Ide where
  enabled : Bool := false
  secure : Bool := false
  stream : Nat := 0
  /-- Keys by key set × 2 + direction. -/
  keys : Tab (Option Nat) := []
  /-- The key set in use, by direction. -/
  inUse : Tab (Option Nat) := []
  deriving DecidableEq, Repr

/-- State of the PCIe attachment. -/
structure PciePart where
  ports : Tab PPort := []
  funcs : Tab PFunc := []
  does : Tab DoeBox := []
  ide : Ide := {}
  /-- What waits to be sent while the stream is Insecure, oldest first (R359). -/
  heldOut : List Out := []
  /-- WAKE_N driven low, CLKREQ_N released (R354). -/
  wakeLow : Bool := false
  clkreqReleased : Bool := false
  deriving DecidableEq, Repr

end Sys2Proof.Machine
end

