-- ==== Sys2Proof/Machine/Part/Power.lean ====
section
/-! DEFINITION. State of power states, domains and the regulator (spec/15_power_states.md). -/

namespace Sys2Proof.Machine

/-- One power domain (Table 15.12). -/
structure Domain where
  /-- 0 on, 1 clock-stopped, 2 retention-gated, 3 off. -/
  st : Nat := 0
  /-- Gated under R413. -/
  idle : Bool := false
  autoWakes : Nat := 0
  deriving DecidableEq, Repr

/-- The AVSBus step in progress (R426). -/
structure AvsStep where
  mv : Nat := 0
  /-- AON time of the write. -/
  at_ : Nat := 0
  /-- The change has failed once. -/
  retried : Bool := false
  deriving DecidableEq, Repr

/-- State of power states and domains. -/
structure PowerPart where
  /-- The power state in force, 0 to 4 (R407, R411). -/
  ps : Nat := 0
  /-- The last operational state. -/
  lastOp : Nat := 0
  /-- A non-operational state chosen by Set Features that waits for intake to be idle (R102). -/
  chosen : Option Nat := none
  /-- The state being entered: its domains have voted (Table 15.4). -/
  entering : Option Nat := none
  /-- The sources' message counts when the votes began: a message from a domain while it stops is a refusal (Table 15.7). -/
  entryCounts : Tab Nat := []
  /-- Consecutive refusals; the AON time at which the entry's back-off ends (R418). -/
  refusals : Nat := 0
  backoff : Option Nat := none
  /-- Given up until the next idle period (R418). -/
  gaveUp : Bool := false
  /-- The exit in progress: the wake source and the AON time of its zero point (Table 15.6). -/
  exiting : Option (Nat × Nat) := none
  /-- The running setpoint that applied before entry, in mV. -/
  running : Nat := 750
  domains : Tab Domain := []
  avs : Option AvsStep := none
  /-- The setpoint in mV; the regulator comes up at 750 mV (R513). -/
  confirmed : Nat := 750
  /-- A readback has confirmed the setpoint since the cold power-on (Table 15.13: CONFIRMED is 0 until then). -/
  readBack : Bool := false
  avsHeld : Bool := false
  /-- The power factor in percent (R408). -/
  g : Nat := 100
  /-- The power factor as the steward computes it, in millionths (R408). -/
  gFine : Nat := 1000000
  /-- A Class B command waited at step 7 in this round (R408). -/
  waited7 : Bool := false
  /-- Heat-work counted in PS3 and PS4, in 1/256 s (R421). -/
  heat : Nat := 0
  /-- A maintenance wake runs; the state to re-enter (R422). -/
  maint : Option Nat := none
  /-- AON time at which PS3 or PS4 was reached or entered again (R422); the power factor before a maintenance wake. -/
  sleptAt : Nat := 0
  gBefore : Nat := 1000000
  /-- AON time of the exit's latest failed setpoint change (R428). -/
  failedAt : Nat := 0
  /-- Function Level Resets and configuration requests that wait for step 9 of the exit, oldest first (Table 15.7): the
  instance, and a request's field, direction and value. -/
  held : List (Nat × Option (PField × Bool × Nat)) := []
  /-- CFG_PWR_CH_IDLE_MS before its latest write, and the AON time of that write (Table 15.10). -/
  chIdle : Nat × Nat := (5, 0)
  /-- Domain 93 was woken by SMBus or the Service Port; its state before (R423). -/
  portWake : Option Nat := none
  /-- AON time of that wake. -/
  wokenAt : Nat := 0
  deriving DecidableEq, Repr

end Sys2Proof.Machine
end

