-- ==== Sys2Proof/Machine/Part/Sieve.lean ====
section
/-! DEFINITION. State of the Sieve and of the Hamper pools (spec/04_sieve.md, spec/10_hamper_buffers.md). -/

namespace Sys2Proof.Machine

/-- One Sieve position (Table 4.1). The cells and the shadow copy hold the same fields between steps: a change writes both,
and a lookup that finds them apart mends them (R122, R123); a shadow copy that cannot be read is listed apart (R124). -/
structure Ent where
  lo : Nat := 0
  hi : Nat := 0
  scope : Nat := 0
  prio : Nat := 0
  payload : Nat := 0
  valid : Bool := false
  retiring : Bool := false
  deriving DecidableEq, Repr

/-- What intake keeps for an in-flight entry, by its position (R117, R130). -/
structure Holder where
  seq : Nat := 0
  nsid : Nat := 0
  /-- The instance of a command's entry (R118). -/
  inst : Nat := 0
  tag : Nat := 0
  /-- 0 supplies no data, 1 supplies its data, 2 supplies zeros. -/
  supply : Nat := 0
  deriving DecidableEq, Repr

/-- A walk that holds a slot (R113 to R115). -/
structure Walk where
  tag : Nat := 0
  positions : List Nat := []
  deriving DecidableEq, Repr

/-- What a rule change does (R121). -/
inductive RuleOp where
  | insert
  | remove
  | replace
  deriving DecidableEq, Repr

/-- A rule change (R121). -/
structure RuleChange where
  op : RuleOp := .insert
  pos : Nat := 0
  ent : Ent := {}
  /-- An access rule of the manager's request (else an FDP placement rule). -/
  access : Bool := true
  deriving DecidableEq, Repr

/-- A list of rules after a change; a position beyond the last rule stands for the end (DESIGN CHOICE, log entry 103). -/
def RuleChange.apply (c : RuleChange) (l : List Ent) : List Ent :=
  match c.op with
  | .insert => l.insertIdx (min c.pos l.length) c.ent
  | .remove => l.eraseIdx c.pos
  | .replace => l.set c.pos c.ent

/-- What an internal job of the firmware is (R195, R380). -/
inductive JobKind where
  | refire
  | relocation
  | fixity
  | keptWrite
  deriving DecidableEq, Repr

/-- State of the Sieve. That the change being shifted counts as queued is the model's choice (DESIGN CHOICE, log entry 103). -/
structure SievePart where
  /-- Positions 0 to 65,535 (R107). -/
  ents : Tab Ent := []
  /-- The command or job of each in-flight entry, by position. -/
  holders : Tab Holder := []
  /-- Retired positions, newest first (R126). -/
  retired : List Nat := []
  walks : List Walk := []
  /-- Rule changes taken, oldest first; the head is being shifted, and counts among the 32 (R121, DESIGN CHOICE, log entry
  103). -/
  shifts : List RuleChange := []
  /-- The tenant and FDP rules as durable records give them, in stored order (R121, R133). -/
  persisted : List Ent := []
  /-- Positions whose shadow copy has an uncorrectable error: their results are not returned (R124). -/
  unverified : List Nat := []
  /-- Internal jobs that hold entries: their kind and the admission sequence kept (R130, R195, R380). -/
  jobKinds : Tab (JobKind × Nat) := []
  /-- Times each instance was skipped at check 1 of R118 (SIEVE_INST_USED.HELD). -/
  heldCount : Tab Nat := []
  /-- The captured entry of SIEVE_DIAG_DATA (R134). -/
  diag : Option Ent := none
  /-- The next position the scrub compares (R125). -/
  scrubPos : Nat := 0
  deriving DecidableEq, Repr

/-- The owner kinds of Table 10.2. -/
inductive OwnerKind where
  | none_
  | command
  | writer
  | job
  | trail
  deriving DecidableEq, Repr

/-- A Hamper unit: its state word (Table 10.2) and its data. -/
structure HUnit where
  /-- 0 free, 1 allocated, 2 released and waiting for claims. -/
  st : Nat := 0
  inst : Nat := 0
  owner : OwnerKind := .none_
  ownerId : Nat := 0
  claims : Nat := 0
  /-- Engines whose claim waits for a drop (Table 10.4). -/
  claimWaits : Nat := 0
  /-- The 4,096 bytes as a number, once they have arrived. -/
  data : Option Nat := none
  /-- The data is poisoned (R317). -/
  poisoned : Bool := false
  deriving DecidableEq, Repr

/-- A waiting request of an internal pool (R310). -/
structure PoolReq where
  owner : OwnerKind := .job
  ownerId : Nat := 0
  need : Nat := 0
  deriving DecidableEq, Repr

/-- One pool (Table 10.3). The free list is the untouched units from `fresh` up to `size`, then `freed`. -/
structure Pool where
  size : Nat := 0
  fresh : Nat := 0
  freed : List Nat := []
  used : Nat := 0
  /-- Units taken out of the pool by a macro group's removal or a remapped location (R307, R317). -/
  gone : List Nat := []
  amber : Bool := false
  red : Bool := false
  /-- The free list is being rebuilt (R317). -/
  rebuild : Bool := false
  waiting : List PoolReq := []
  deriving DecidableEq, Repr

/-- State of Hamper. -/
structure HamperPart where
  /-- Pools by code: NU 0, NR 1, NI 2, FW 3, FI 4, FT 5 (Table 10.3). -/
  pools : Tab Pool := [(0, { size := 512 }), (1, { size := 9728 }), (2, { size := 2048 }),
    (3, { size := 2029568 }), (4, { size := 65536 }), (5, { size := 2048 })]
  /-- Units by pool code × 2^22 + index. -/
  units : Tab HUnit := []
  /-- The figure `n` of R312, taken at the start of the housekeeping round. -/
  shareN : Nat := 1
  deriving DecidableEq, Repr

end Sys2Proof.Machine
end

