-- ==== Sys2Proof/Machine/Part/Tenant.lean ====
section
/-! DEFINITION. State of the instances: queues, features, mailboxes, migration (spec/03_command_intake.md,
spec/13_tenants.md). -/

namespace Sys2Proof.Machine

/-- Instance states of Table 13.2, in code order. -/
inductive InstState where
  | offline
  | online
  | pausing
  | paused
  | stopping
  | held
  deriving DecidableEq, Repr

/-- One direction of a mailbox and its block (R373 to R375, Table 13.14). -/
structure Mailbox where
  /-- The outgoing buffer, by 32-bit word (64 words). -/
  out : Tab Nat := []
  /-- The delivered message, by 32-bit word. -/
  inMsg : Tab Nat := []
  outBusy : Bool := false
  inFull : Bool := false
  err : Bool := false
  dropped : Bool := false
  ackStatus : Nat := 0
  ackSeq : Nat := 0
  deriving DecidableEq, Repr

/-- A dirty-page log of one instance (R385 to R389). -/
structure DirtyLog where
  enabled : Bool := false
  /-- In force: the window in 4 KiB pages, and the bitmaps' addresses. -/
  windowBase : Nat := 0
  windowPages : Nat := 0
  logA : Nat := 0
  logB : Nat := 0
  /-- Staged until the next ENABLE 0 to 1 (Table 13.16). -/
  newBase : Nat := 0
  newPages : Nat := 0
  newA : Nat := 0
  newB : Nat := 0
  /-- False: bitmap A is active. -/
  activeB : Bool := false
  /-- The cache of the active bitmap (R387): lines of 512 pages with their bits, the one used last first. -/
  cache : List (Nat × Nat) := []
  /-- What the lines written back since the bitmap became active hold. -/
  written : Tab Nat := []
  harvestBusy : Bool := false
  /-- The fence a harvest waits for. -/
  harvestFence : Nat := 0
  outside : Bool := false
  refused : Bool := false
  outsideCount : Nat := 0
  deriving DecidableEq, Repr

/-- A quiesce in progress (R377 to R383). -/
structure Quiesce where
  active : Bool := false
  /-- A manager's Stop is among the causes (R365). -/
  byManager : Bool := false
  /-- Report kind (Table 13.10). -/
  kind : Nat := 0
  /-- The limit of a Pause in ms (R377). -/
  limit : Nat := 0
  tZero : Nat := 0
  tPoint : Nat := 0
  /-- Commands and their fates: sq, cid, opcode, fate, nsid, nlb, slba. -/
  fates : List (List Nat) := []
  /-- The manager's commands that complete at its end: status and command identifier. -/
  waiters : List (Nat × Nat) := []
  mbxDropped : Nat := 0
  dropped : Nat := 0
  deriving DecidableEq, Repr

/-- One instance. Instance 0 is the manager's. Feature 0x01 reads 0 at reset (DESIGN CHOICE, log entry 102). -/
structure Inst where
  st : InstState := .offline
  ccEn : Bool := false
  /-- CC.AMS = 001b. -/
  wrr : Bool := false
  ccShn : Nat := 0
  rdy : Bool := false
  /-- CSTS.SHST: 0 none, 1 occurring, 2 complete. -/
  shst : Nat := 0
  sqs : Tab Sq := []
  cqs : Tab Cq := []
  vq : Nat := 0
  vi : Nat := 0
  /-- Resource record (R368, R370); the weight is CFG_INTAKE_WEIGHT. -/
  sieveQuota : Nat := 16384
  nrQuota : Nat := 9728
  nrShare : Nat := 4194303
  fwQuota : Nat := 2029568
  fwShare : Nat := 4194303
  keyQuota : Nat := 2047
  flags : Nat := 0
  dieSets : List Nat := List.range' 1 128
  /-- Deficit counter in bytes (R71). -/
  deficit : Int := 0
  /-- Queue served last, commands of it fetched in a row, and the credits left of high, medium and low (R72). -/
  lastSq : Nat := 0
  burst : Nat := 0
  creditH : Nat := 1
  creditM : Nat := 1
  creditL : Nat := 1
  /-- Feature 0x01: AB, LPW, MPW, HPW (R72); all 0 until they are set, since the section states no reset value (DESIGN CHOICE,
  DESIGN CHOICE, log entry 102). -/
  arbitration : Nat := 0
  /-- Feature 0x02 power state asked last. -/
  powerFeature : Nat := 0
  /-- Feature 0x08 (R93). -/
  coalescing : Nat := 0
  /-- Vectors whose coalescing is disabled (Feature 0x09). -/
  noCoalesce : List Nat := []
  /-- Feature 0x0B bits (R56). -/
  asyncConfig : Nat := 0
  /-- Feature 0x0C: enabled and the 32 entries of ITPT and ITPS (R410). -/
  apstOn : Bool := false
  apst : List (Nat × Nat) := []
  /-- Feature 0x04 over and under thresholds in kelvin (R474). -/
  overTemp : Tab (Option Nat) := []
  underTemp : Tab (Option Nat) := []
  /-- Feature 0x81 host identifier (R360). -/
  hostId : Nat := 0
  /-- Feature 0x82 reservation notification mask by namespace (R362). -/
  resMask : Tab Nat := []
  /-- Asynchronous Event Requests outstanding, by command identifier, oldest first. -/
  aers : List Nat := []
  /-- Events waiting for a request: type, information, log page. -/
  events : List (Nat × Nat × Nat) := []
  /-- Event types masked until their log page is read. -/
  masked : List Nat := []
  /-- Flushes waiting: command identifier, queue, sequence, namespace (0xFFFFFFFF: all) (R90). -/
  flushes : List (Nat × Nat × Nat × Nat) := []
  mbxT : Mailbox := {}
  mbxM : Mailbox := {}
  mbxVector : Nat := 0
  mbxIen : Bool := false
  dirty : DirtyLog := {}
  quiesce : Quiesce := {}
  /-- Table 12.7: D-state and PME enable of the function (R354). -/
  dState : Nat := 0
  pmeEn : Bool := false
  busMaster : Bool := false
  memEnable : Bool := false
  /-- MSI-X: masked vectors and pending bits (R348). -/
  msixMasked : List Nat := []
  msixPending : List Nat := []
  /-- The steering tags of the MSI-X entries, by vector (R349). -/
  steering : Tab Nat := []
  /-- Reservation notifications of log 0x80. -/
  resLog : List (Nat × Nat) := []
  deriving DecidableEq, Repr

/-- Persisted settings of an instance, restored at start-up (R367). -/
structure SavedInst where
  vq : Nat := 0
  vi : Nat := 0
  weight : Nat := 16
  sieveQuota : Nat := 16384
  nrQuota : Nat := 9728
  nrShare : Nat := 4194303
  fwQuota : Nat := 2029568
  fwShare : Nat := 4194303
  keyQuota : Nat := 2047
  flags : Nat := 0
  dieSets : List Nat := List.range' 1 128
  deriving DecidableEq, Repr

/-- A drain report (Table 13.10). -/
structure DrainReport where
  inst : Nat := 0
  kind : Nat := 0
  seq : Nat := 0
  flags : Nat := 0
  tZero : Nat := 0
  tPoint : Nat := 0
  tStop : Nat := 0
  entries : List (List Nat) := []
  dropped : Nat := 0
  keys : Nat := 0
  jobs : Nat := 0
  mbx : Nat := 0
  offset : Nat := 0
  length : Nat := 0
  deriving DecidableEq, Repr

/-- State of the instances as a whole. -/
structure TenantPart where
  /-- Instances 0 to 511; instance 0 is never Offline (R364). -/
  insts : Tab Inst := [(0, { st := .online, hostId := 0 })]
  /-- Instance S in dual-port mode (R344). -/
  second : Option Nat := none
  saved : Tab SavedInst := []
  /-- The drain report ring: base and size in force, head, tail, sequence, lost reports (R383). -/
  rptBase : Nat := 0
  /-- MIG_RPT_BASE staged until the next write of SIZE (Table 13.17). -/
  rptNewBase : Nat := 0
  rptSize : Nat := 0
  rptHead : Nat := 0
  rptTail : Nat := 0
  rptSeq : Nat := 0
  rptLost : Nat := 0
  /-- Reports written, newest first. -/
  reports : List DrainReport := []
  deriving DecidableEq, Repr

end Sys2Proof.Machine
end

