-- ==== Sys2Proof/Machine/Part/Flash.lean ====
section
/-! DEFINITION. State of the flash back end and of media management (spec/05_flash_back_end.md,
spec/06_media_management.md). -/

namespace Sys2Proof.Machine

/-- The die states of Table 5.5, in code order. -/
inductive DieState where
  | idle
  | reading
  | slcProgramming
  | pass
  | gap
  | erasing
  | suspending
  | suspended
  | resuming
  deriving DecidableEq, Repr

/-- Die operations of Table 5.11. -/
inductive OpKind where
  | dumpProgram
  | trailProgram
  | hostRead
  | rebuildRead
  | parityProgram
  | internalRead
  | qlcUnit
  | erase
  deriving DecidableEq, Repr

/-- Who an operation is for. -/
inductive For where
  | none_
  /-- A host read: tag, generation and the blocks of the read (by index). -/
  | read (tag gen : Nat) (idx : List Nat)
  /-- Program unit `u` of a row, or the parity of its wordline `u`, or a read of it. -/
  | row (r : RowRef) (u : Nat)
  /-- A job of the firmware. -/
  | job (n : Nat)
  /-- Reads of a row for its verify, its Refire, its relocation or a fixity job (R178, R194, R200, R229): one operation for
  all the pages of a die. -/
  | scan (r : RowRef)
  /-- A program of the dump: 0 a header copy, 1 the Trail tail, else a chunk of its plan, plus 2. -/
  | dump (n : Nat)
  deriving DecidableEq, Repr

/-- A flash operation in a queue or a slot. -/
structure FlashOp where
  kind : OpKind := .hostRead
  plane : Nat := 0
  /-- The row, for an operation on a row's blocks. -/
  block : Nat := 0
  wordline : Nat := 0
  /-- The physical blocks of an operation on an SLC region, plane by plane, and its first SLC wordline there. -/
  phys : List Nat := []
  slcAt : Nat := 0
  owner : For := .none_
  /-- Refire or relocation data rather than host data (row 6 of Table 5.11). -/
  internal : Bool := false
  /-- Has waited more than 50 ms (R154). -/
  aged : Bool := false
  /-- Passes done of a QLC unit. -/
  passes : Nat := 0
  /-- The deepest step of Table 7.3 a read has reached; 6 for one that nothing could recover. -/
  stage : Nat := 1
  /-- CFG_LDPC_RETRY_STEPS when the read was issued (R215). -/
  retrySteps : Nat := 16
  /-- A read whose address has been translated again after a refusal (R151). -/
  again : Bool := false
  deriving DecidableEq, Repr

/-- One die. -/
structure Die where
  /-- Fitted: discovery has found something at this name (R34). -/
  fitted : Bool := false
  /-- Passed discovery. -/
  present : Bool := false
  /-- On the persisted list of dies (R141). -/
  listed : Bool := false
  inGroup : Bool := false
  group : Nat := 0
  plmOk : Bool := false
  /-- Failed or retired (R206). -/
  retired : Bool := false
  geo : Geometry := {}
  st : DieState := .idle
  long : Option FlashOp := none
  short : Option FlashOp := none
  shortQ : List FlashOp := []
  longQ : List FlashOp := []
  /-- Suspends of the running erase that count (R145). -/
  suspCount : Nat := 0
  /-- SUSP_HOLD has passed since the suspend (R144). -/
  holdPassed : Bool := false
  /-- Suspended by the Pulse Gate, dump mode or a window (R145, R158, R163). -/
  forced : Bool := false
  /-- Reads issued in the present gap, and FBE_CFG.GAP_READS when it began (R144, R166). -/
  gapReads : Nat := 0
  gapLimit : Nat := 4
  /-- AON time of the last change of state, and ticks at the NAND since the last housekeeping round (R156). -/
  since : Nat := 0
  /-- AON time at which the die last became Idle (R413). -/
  idleAt : Nat := 0
  busy : Nat := 0
  /-- Utilisation of the last housekeeping round, percent (R156). -/
  util : Nat := 0
  /-- Mean temperature posted last, in °C + 40 (R434, R188). -/
  temp : Nat := 65
  /-- The mean of its latest full second, in half degrees above -40 °C, rounded up (R188, R434). -/
  mean : Option Nat := none
  deriving DecidableEq, Repr

/-- Block states of Table 6.3, in code order. -/
inductive BlockState where
  | spare
  | dirty
  | erasing
  | eraseSuspended
  | erased
  | open_
  | full
  | retired
  deriving DecidableEq, Repr

/-- A block state table entry (R149, R173, Table 6.17). -/
structure Block where
  st : BlockState := .spare
  /-- SLC mode (else QLC). -/
  slc : Bool := false
  next : Nat := 0
  /-- 0 spare, 1 zone, 2 conventional, 3 kept parity, 4 Blanket pool, 5 dump, 6 Trail, 7 Boot Area (Table 6.17). -/
  role : Nat := 0
  /-- An erased block of an SLC region that is reserved for a row's parity, or being filled (R176). -/
  reserved : Bool := false
  /-- A substitute that has not taken the place of its retired block yet: it is erased first, then the wordlines below
  NEXT are copied to it (R205). -/
  subst : Bool := false
  suspect : Bool := false
  /-- Suspect for the second use in a row: retired once its data has been moved (Table 6.11). -/
  retireDue : Bool := false
  qlcErases : Nat := 0
  slcErases : Nat := 0
  row : Nat := 0
  deriving DecidableEq, Repr

/-- A data transfer of a channel (R138): a data-out of a read, or a data-in of a program. -/
structure Xfer where
  die : Nat := 0
  out : Bool := false
  /-- AON time at which it was asked for, and at which it ends once it has the bus. -/
  since : Nat := 0
  until_ : Nat := 0
  /-- 4 KiB units moved. -/
  units : Nat := 0
  deriving DecidableEq, Repr

/-- One channel (Table 5.22). -/
structure Chan where
  /-- The transfer that has the bus, and those that wait for it, oldest first (R138). -/
  bus : Option Xfer := none
  waits : List Xfer := []
  /-- Rate in MT/s; 0 before training. -/
  rate : Nat := 0
  fallback : Bool := false
  dies : Nat := 0
  retrains : Nat := 0
  deriving DecidableEq, Repr

/-- A bound row of a stripe group: how far it is programmed and covered (R170, R174 to R180). -/
structure RowRec where
  /-- Namespace, and zone for a zone row (none for a conventional row). -/
  nsid : Nat := 0
  zone : Option Nat := none
  /-- Program units issued to the die scheduler, in order. -/
  issued : Nat := 0
  /-- Program units whose last pass has passed. -/
  done : List Nat := []
  /-- Wordlines whose parity unit is queued; those whose parity unit is programmed, each with the unit's blocks, the XOR of
  the sixteen program units (R174). -/
  parityQueued : List Nat := []
  parity : List (Nat × List Nat) := []
  /-- The four pool dies that hold the row's parity, each with its block on every plane (R175), or with none where it is
  being replaced (R184); empty before the reservation of R176. -/
  pool : List (Nat × List Nat) := []
  /-- The parity is kept parity (R181). -/
  kept : Bool := false
  /-- The zone or row takes no more data: offset of its end in 4 KiB units. -/
  endAt : Option Nat := none
  /-- The trailer's copies are queued (R44), and the dies on which they have been programmed (R178). -/
  trailerQueued : Bool := false
  trailer : List Nat := []
  /-- No zone is bound to it any more: it waits for its release (R45). -/
  orphan : Bool := false
  /-- Verify is waiting or running (R178). -/
  verifying : Bool := false
  /-- A VERIFIED record waits for durability (R180). -/
  verifyPending : Bool := false
  verified : Bool := false
  /-- Write sequences of its first and last program (R225, R260). -/
  seqFirst : Nat := 0
  seqLast : Nat := 0
  /-- The write sequence of the first codeword of each program unit, by the unit's number (R260). -/
  unitSeq : Tab Nat := []
  /-- KIND of its data's page tags: 0 host data, 4 Refire copy, 5 relocation copy (Table 8.8). -/
  kind : Nat := 0
  /-- A block of the row is Suspect (R179). -/
  suspect : Bool := false
  /-- Admission order of the row's first write, for the relocation victim (R201). -/
  born : Nat := 0
  /-- Value of c(g) when its first program unit was issued (R187). -/
  stamp : Nat := 0
  /-- Patrols run on a conventional row (R192, R199). -/
  patrols : Nat := 0
  deriving DecidableEq, Repr

/-- A row that waits for earlier reads and programs before its release (R45, R131, R194 step 7, R202). -/
structure RelWait where
  row : RowRef := {}
  nsid : Nat := 0
  /-- LBA range the reads must not cover. -/
  lo : Nat := 0
  hi : Nat := 0
  /-- Reads with a lower admission sequence hold it. -/
  seq : Nat := 0
  /-- The target of a Refire that the command of that sequence abandoned (R45). -/
  refire : Bool := false
  deriving DecidableEq, Repr

/-- State of the flash back end. -/
structure FlashPart where
  /-- Dies by their 14-bit name (R166). -/
  dies : Tab Die := []
  chans : Tab Chan := []
  /-- Blocks by die × 2^15 + plane × 2^12 + block. -/
  blocks : Tab Block := []
  /-- The block of a row on a die-plane where it is not the row's number (R168), plus 1, by blockKey of the row. -/
  rowMap : Tab Nat := []
  /-- Spare blocks taken from a die-plane, by die × 8 + plane (R207). -/
  taken : Tab Nat := []
  /-- Dies that hold Boot Area blocks (R169). -/
  bootDies : List Nat := []
  /-- Bays whose Pulse Gate is closed. -/
  closed : List Nat := []
  /-- The captured block of FBE_MM_BLK_STATUS (R211). -/
  blkCaptured : Option Block := none
  /-- Bound rows by group × 4096 + row. -/
  rows : Tab RowRec := []
  /-- Rows waiting for verify, oldest first (R178). -/
  verifyQ : List RowRef := []
  /-- The blocks that the Trail, or the dump, is filling on a die, and the next SLC wordline of them, by die × 8 + role
  (R169, R255, R245). -/
  regionAt : Tab (Option (List Nat × Nat)) := []
  /-- Program units and parity units that the dies had begun when the last reset or the end of power came (Table 8.5,
  case 6). -/
  torn : List (Nat × FlashOp) := []
  /-- Full Trail blocks: die, block on every plane, last segment they hold (R259). -/
  trailUsed : List (Nat × List Nat × Nat) := []
  /-- Bays whose closing is still to be reported, with the rail (Table 5.14, step 6). -/
  gateNotice : List (Nat × Nat) := []
  /-- Rows waiting for earlier reads before their release (R131). -/
  relWaits : List RelWait := []
  /-- Pages warned and to be read a second time (R191): namespace, zone. -/
  warned : List (Nat × Nat) := []
  /-- Seconds without a NAND temperature summary (R188). -/
  fiSilent : Nat := 0
  /-- FI_OFF_UNKNOWN (R189). -/
  fiOffUnknown : Nat := 0
  /-- The off interval has been dealt with since power-on (R189). -/
  offDone : Bool := false
  /-- Completed Refires by reason, in the order of Table 6.8 (R209). -/
  refireDone : List Nat := [0, 0, 0, 0, 0]
  /-- Released rows whose erase waits or runs (R172). -/
  releasing : List RowRef := []
  /-- Bytes programmed by die set, in 4 KiB units, under 0 those of dies of no set (Media Units Written, R209). -/
  unitsWritten : Tab Nat := []
  nextJob : Nat := 0
  /-- Health figures of the last housekeeping round (Table 6.12): percentage used by die set. -/
  pctUsed : Tab Nat := []
  deriving DecidableEq, Repr

end Sys2Proof.Machine
end

