-- ==== Sys2Proof/Machine/Part/Trail.lean ====
section
/-! DEFINITION. State of write exposure, the dump and the Trail journal (spec/08_power_loss_and_trail.md). -/

namespace Sys2Proof.Machine

/-- One 4 KiB block of a write: its LBA, its Far Hamper unit, its offset in its row. (DESIGN CHOICE, log entry 5.) -/
structure XBlk where
  lba : Nat := 0
  unit : Nat := 0
  off : Nat := 0
  deriving DecidableEq, Repr

/-- A write-like command from its admission until its map update is done (R241, Table 8.3). -/
structure Expo where
  seq : Nat := 0
  nsid : Nat := 0
  slba : Nat := 0
  nlb : Nat := 0
  /-- The row its data goes to (none until a conventional write's data is all in). -/
  row : Option RowRef := none
  /-- Blocks not yet counted as programmed: the exposure. -/
  left : List XBlk := []
  /-- Blocks programmed and covered by parity, whose map update is to be made (R88). -/
  ready : List XBlk := []
  /-- Place key of a conventional write: its reclaim group and handle (R60). -/
  place : Nat := 0
  /-- A Write Zeroes or deallocate of a conventional namespace: no data, a DEALLOC record. -/
  zeros : Bool := false
  /-- That record is durable (R241). -/
  zerosDurable : Bool := false
  /-- Whole 256 KiB pieces in Far Hamper, counted from the start (R100, R242). -/
  pieces : Nat := 0
  /-- All the command's data is in Far Hamper. -/
  dataIn : Bool := false
  /-- Failed after admission: a hole, or left as it was (R49, R87). -/
  failed : Bool := false
  /-- Its completion has been posted. -/
  posted : Bool := false
  /-- Units parked in a dump row (R254). -/
  parked : List XBlk := []
  deriving DecidableEq, Repr

/-- Trail record kinds of Table 8.7, with the objects they name. -/
inductive TrailRec where
  | convMap (nsid lba count seq : Nat)
  | dealloc (nsid lba count seq : Nat)
  | zone (nsid zone : Nat)
  | bind (nsid zone group row stamp : Nat)
  | verified (nsid zoneOrRow group : Nat)
  | block (die plane block : Nat)
  | rowMap (group diePlane row block : Nat)
  | hole (nsid lba count reason : Nat)
  | wseqReserve (next : Nat)
  | fi (group value : Nat)
  | timestamp (t : Nat)
  | settings (what inst : Nat)
  | rule (c : RuleChange)
  | dumpRelease (group : Nat)
  | rowRelease (group row planes : Nat)
  | dirty (die : Nat) (blocks : List Nat)
  | ckptBegin (seq : Nat)
  | ckptEnd (seq : Nat)
  | quiet
  deriving DecidableEq, Repr

/-- A flush whose segments are being programmed (R255). -/
structure Flush where
  seq : Nat := 0
  /-- SEG_SEQ of its first segment. -/
  first : Nat := 0
  recs : List TrailRec := []
  /-- Segments whose programs no die has taken yet (R255). -/
  todo : Nat := 0
  /-- The namespaces as they stood when the flush was cut. -/
  snap : Tab Ns := []
  deriving DecidableEq, Repr

/-- Dump header and contents (Table 8.3). -/
structure Dump where
  seq : Nat := 0
  timestamp : Nat := 0
  aonTime : Nat := 0
  exposure : List Expo := []
  /-- Saved hash states of active zones: namespace, zone, offset, state (R224). -/
  hash : List (Nat × Nat × Nat × Nat) := []
  /-- c(g) of every formed group. -/
  fi : List (Nat × Nat) := []
  wseq : Nat := 0
  /-- Header copies programmed, and the Trail tail (Table 8.2, step 5). -/
  headers : Nat := 0
  tail : Bool := false
  /-- The dump-complete marker has been programmed. -/
  marker : Bool := false
  deriving DecidableEq, Repr

/-- A unit that a dump row holds: the block's namespace and LBA, its write, its 4,096 bytes as a number (R245, R254).
(DESIGN CHOICE, log entry 5.) -/
structure DUnit where
  nsid : Nat := 0
  lba : Nat := 0
  seq : Nat := 0
  data : Nat := 0
  poisoned : Bool := false
  deriving DecidableEq, Repr

/-- State of exposure, dump and Trail. -/
structure TrailPart where
  /-- Power ended while a brown-out held the dump's programs (Table 8.5, case 3). -/
  brownEnd : Bool := false
  expos : List Expo := []
  /-- Dump mode entered (R244). -/
  dumpMode : Bool := false
  /-- The dump being written or last written. -/
  dump : Option Dump := none
  dumpSeq : Nat := 0
  /-- What the dump rows hold of the dump or the park (R245, R254). -/
  dumpUnits : List DUnit := []
  /-- Units the dump has still to program, in 64 KiB chunks by their number (Table 8.2, step 6). -/
  dumpPlan : List (Nat × List DUnit) := []
  /-- Units programmed and not yet in the map when the last reset came, as the tag scan finds them (R262, stage 4). -/
  mediaUnits : List DUnit := []
  /-- AON time of the dump's zero point. -/
  dumpStart : Nat := 0
  /-- Records of the half being filled, newest first (R255). -/
  half : List TrailRec := []
  /-- Flushes being programmed, oldest first. -/
  flushes : List Flush := []
  /-- Durable records since the last complete checkpoint, newest first. -/
  durable : List TrailRec := []
  flushSeq : Nat := 0
  /-- The last flush whose records are durable (R255). -/
  doneSeq : Nat := 0
  segSeq : Nat := 0
  ckptSeq : Nat := 0
  /-- The last segment before the latest CKPT_BEGIN (R259). -/
  ckptSeg : Nat := 0
  ckptBusy : Bool := false
  /-- Trail bytes since the last CKPT_BEGIN and since the last complete one. -/
  sinceBegin : Nat := 0
  sinceDone : Nat := 0
  held : Bool := false
  /-- The last segment carries the shutdown flag, or a quiet record and nothing after it (R252, R253). -/
  clean : Bool := false
  quiet : Bool := false
  /-- Write sequence: next value and end of the reservation made durable (R260). -/
  wseq : Nat := 0
  wseqReserved : Nat := 4294967296
  /-- The map and zone tables as the latest durable records and checkpoint give them. -/
  saved : Tab Ns := []
  /-- The host's timestamp in ms and the AON time of its setting; none since power-on until a Set Features (R189). -/
  timestamp : Option (Nat × Nat) := none
  /-- The recorded timestamp, and the AON time of the record (R189). -/
  recordedTs : Option Nat := none
  recordedAt : Nat := 0
  /-- Running time between the record and the last loss of power, in ms (R189). -/
  tailMs : Nat := 0
  /-- A park stands in dump rows: its DUMP_SEQ (R254). -/
  park : Option Nat := none
  /-- The last stop left a dump, complete or not, to be restored (R262, R264). -/
  toRestore : Bool := false
  deriving DecidableEq, Repr

end Sys2Proof.Machine
end

