-- ==== Sys2Proof/Machine/Part/Waymark.lean ====
section
/-! DEFINITION. State of Waymark (spec/14_waymark_and_global_operations.md). -/

namespace Sys2Proof.Machine

/-- An outstanding fence (R395). -/
structure Fence where
  id : Nat := 0
  cls : Nat := 0
  scope : Nat := 0
  target : Nat := 0
  snap : Bool := false
  /-- It has entered the tree at the root (R21, R400). -/
  started : Bool := false
  /-- The flush that makes the last record before the cut durable (class 2); the time at which the words at the bridges
  have passed them (class 0). -/
  mark : Nat := 0
  /-- The sources whose ports held a message at the cut (class 3). -/
  held : List Nat := []
  /-- Snapshot copies taken at the cut: field key and value (R401). -/
  copies : List (Nat × Nat) := []
  /-- Its result, once its drain has ended (R398). -/
  ended : Option Nat := none
  /-- Its result is discarded: a Function Level Reset of instance 0 has met it (Table 14.3). -/
  dropped : Bool := false
  deriving DecidableEq, Repr

/-- An issue port (R398). -/
structure FPort where
  nextId : Nat := 0
  /-- Outstanding fences in ID order. -/
  out : List Fence := []
  deriving DecidableEq, Repr

/-- A global operation in the tree (R21): a fence, the quiesce of an instance, a device reset. -/
inductive TreeOp where
  | fence (port id : Nat)
  | quiesce (inst : Nat)
  | reset
  deriving DecidableEq, Repr

/-- A global operation whose issuer is stalled (R21): a fence waits at the root (R400); a Stop with its report kind, its
cause and the command it answers; a Pause with its limit and command. -/
inductive Stalled where
  | fence (port id : Nat)
  | stop (inst kind : Nat) (byManager : Bool) (waiter : Option (Nat × Nat))
  | pause (inst limit cid : Nat)
  deriving DecidableEq, Repr

/-- State of Waymark. -/
structure WmkPart where
  /-- Ports 0 to 7. -/
  ports : Tab FPort := []
  /-- The operations in the tree from the oldest that has not completed on, and whether each has completed (R21). -/
  tree : List (TreeOp × Bool) := []
  /-- Operations waiting for room in the tree, oldest first (R21, R400). -/
  stalled : List Stalled := []
  /-- The snapshot bank (R401). -/
  bank : List (Nat × Nat) := []
  deriving DecidableEq, Repr

end Sys2Proof.Machine
end

