-- ==== Sys2Proof/Machine/State.lean ====
section
/-! DEFINITION. The state of the block as plain data, the reasons a step can stop, and the state after reset. -/

namespace Sys2Proof.Machine

/-- Conditions under which a step could stop: there is none. Every command of the table has an effect in every state; a
value the spec leaves open is a free value. -/
inductive Fault where
  deriving DecidableEq, Repr

/-- Refusals. -/
inductive Refusal where
  /-- Raised by exec for a command whose meaning is not written. Safe: the model stops. -/
  | notModelled (mnemonic : String)
  deriving DecidableEq, Repr

/-- The state of the block. -/
structure State where
  /-- Commands waiting, first in, first out. -/
  pending : List Instr := []
  /-- AON timer, 10 ns ticks since the last cold power-on (Table 17.7). -/
  now : Nat := 0
  /-- Uses of free values so far (the model's own, DESIGN CHOICE, log entry 2). -/
  freeCtr : Nat := 0
  /-- What has been sent out, newest first (the model's own record of the outputs). -/
  out : List Out := []
  /-- Register fields that differ from their cold value, by key (Machine/Regs.lean). -/
  regs : Tab (Option Nat) := []
  /-- Fields of the configuration image in force that differ from their default, by key. -/
  cfg : Tab (Option Nat) := []
  /-- Staged fields written and not yet in force (R8, R466). -/
  cfgStaged : Tab (Option Nat) := []
  fault : FaultPart := {}
  klog : KlogPart := {}
  intake : IntakePart := {}
  sieve : SievePart := {}
  hamper : HamperPart := {}
  zone : ZonePart := {}
  flash : FlashPart := {}
  trail : TrailPart := {}
  tenant : TenantPart := {}
  boot : BootPart := {}
  glaze : GlazePart := {}
  power : PowerPart := {}
  fabric : FabricPart := {}
  fixity : FixityPart := {}
  dram : DramPart := {}
  pcie : PciePart := {}
  wmk : WmkPart := {}
  cone : ConePart := {}
  mgmt : MgmtPart := {}
  deriving DecidableEq, Repr

/-- The block right after the release of the AON power-on reset (R7, R479). (DESIGN CHOICE, log entry 6.)
(DESIGN CHOICE, log entry 7.) -/
def State.reset : State := {}

end Sys2Proof.Machine
end

