-- ==== Sys2Proof/Machine/OpsBase.lean ====
section
/-!
DEFINITION. Access to the tables, the registers and the configuration fields of the state.
-/

namespace Sys2Proof.Machine

/-- The result type of every meaning. -/
abbrev Res := Host.Outcome State Fault Refusal

/-- A number as `n` bytes, the least significant first. -/
def le (n v : Nat) : List Nat := (List.range n).map fun k => v / 256 ^ k % 256

/-- A number as `n` bytes, the most significant first. -/
def be (n v : Nat) : List Nat := (le n v).reverse

/-- The number that bytes give, the least significant first; `n` bytes of a list from `off` on. -/
def ofLe (l : List Nat) : Nat := l.foldr (fun b v => b % 256 + 256 * v) 0
def leAt (l : List Nat) (off n : Nat) : Nat := ofLe ((l.drop off).take n)

/-- A list of bytes cut or filled with zeros to `n`. -/
def padTo (n : Nat) (l : List Nat) : List Nat := l.take n ++ List.replicate (n - l.length) 0

/-- CRC-32C, whose polynomial the spec names by the CRC's name only (PRESUMED, log entry 3): one bit, one byte, a list of bytes. -/
def crcBit (c : Nat) : Nat := if c % 2 = 1 then (c / 2) ^^^ 0x82F63B78 else c / 2
def crcByte (c b : Nat) : Nat := crcBit (crcBit (crcBit (crcBit (crcBit (crcBit (crcBit (crcBit (c ^^^ (b % 256)))))))))
def crc32c (l : List Nat) : Nat := (l.foldl crcByte 0xFFFFFFFF) ^^^ 0xFFFFFFFF

/-! ### Tables -/

def State.inst (s : State) (i : Nat) : Inst := s.tenant.insts.get {} i
def State.modInst (s : State) (i : Nat) (f : Inst → Inst) : State :=
  { s with tenant := { s.tenant with insts := s.tenant.insts.upd {} i f } }

def State.ns (s : State) (n : Nat) : Ns := s.zone.nss.get {} n
def State.modNs (s : State) (n : Nat) (f : Ns → Ns) : State :=
  { s with zone := { s.zone with nss := s.zone.nss.upd {} n f } }

def State.zoneAt (s : State) (n z : Nat) : Zone := (s.ns n).zones.get {} z
def State.modZone (s : State) (n z : Nat) (f : Zone → Zone) : State :=
  s.modNs n fun x => { x with zones := x.zones.upd {} z f }

def State.blkAt (s : State) (n lba : Nat) : Blk := (s.ns n).map.get {} lba
def State.modBlk (s : State) (n lba : Nat) (f : Blk → Blk) : State :=
  s.modNs n fun x => { x with map := x.map.upd {} lba f }

def State.dieSet (s : State) (d : Nat) : DieSet := s.zone.dieSets.get {} d
def State.modDieSet (s : State) (d : Nat) (f : DieSet → DieSet) : State :=
  { s with zone := { s.zone with dieSets := s.zone.dieSets.upd {} d f } }

/-- Logical blocks of a namespace are lost; a digest of one of its zones did not match (Table 18.9a). -/
def State.countLost (s : State) (nsid k : Nat) : State :=
  s.modDieSet (s.ns nsid).dieSet fun x => { x with lostBlocks := x.lostBlocks + k }
def State.countMismatch (s : State) (nsid : Nat) : State :=
  s.modDieSet (s.ns nsid).dieSet fun x => { x with mismatches := x.mismatches + 1 }

def State.group (s : State) (g : Nat) : Group := s.zone.groups.get {} g
def State.modGroup (s : State) (g : Nat) (f : Group → Group) : State :=
  { s with zone := { s.zone with groups := s.zone.groups.upd {} g f } }

def State.tag (s : State) (t : Nat) : TagRec := s.intake.tags.get {} t
def State.modTag (s : State) (t : Nat) (f : TagRec → TagRec) : State :=
  { s with intake := { s.intake with tags := s.intake.tags.upd {} t f } }

def State.die (s : State) (d : Nat) : Die := s.flash.dies.get {} d
def State.modDie (s : State) (d : Nat) (f : Die → Die) : State :=
  { s with flash := { s.flash with dies := s.flash.dies.upd {} d f } }

/-- The key of a block: die, plane, block. -/
def blockKey (die plane block : Nat) : Nat := die * 32768 + plane * 4096 + block
def State.block (s : State) (k : Nat) : Block := s.flash.blocks.get {} k
def State.modBlock (s : State) (k : Nat) (f : Block → Block) : State :=
  { s with flash := { s.flash with blocks := s.flash.blocks.upd {} k f } }

def State.pool (s : State) (p : Nat) : Pool := s.hamper.pools.get {} p
def State.modPool (s : State) (p : Nat) (f : Pool → Pool) : State :=
  { s with hamper := { s.hamper with pools := s.hamper.pools.upd {} p f } }

/-- The key of a Hamper unit: pool code and index. -/
def unitKey (pool idx : Nat) : Nat := pool * 4194304 + idx
def State.hunit (s : State) (u : Nat) : HUnit := s.hamper.units.get {} u
def State.modUnit (s : State) (u : Nat) (f : HUnit → HUnit) : State :=
  { s with hamper := { s.hamper with units := s.hamper.units.upd {} u f } }

def State.ent (s : State) (p : Nat) : Ent := s.sieve.ents.get {} p
def State.modEnt (s : State) (p : Nat) (f : Ent → Ent) : State :=
  { s with sieve := { s.sieve with ents := s.sieve.ents.upd {} p f } }

def State.src (s : State) (c : Nat) : Src := s.fault.srcs.get {} c
def State.modSrc (s : State) (c : Nat) (f : Src → Src) : State :=
  { s with fault := { s.fault with srcs := s.fault.srcs.upd {} c f } }

/-- A change applied for every element of a list, first to last. -/
def State.each {α : Type} (s : State) (l : List α) (f : State → α → State) : State := l.foldl f s

/-- The data rates of Table 11.1. -/
def dramRates : List Nat := [8800, 8000, 7200, 6400, 5600, 4800]

/-! ### Registers and configuration fields (R6, R8) -/

/-- The value of a register field. -/
def State.reg (s : State) (k : Nat) : Nat :=
  match s.regs.get none k with
  | some v => v
  | none => fieldCold k

/-- A register field set; its cold value is held as no entry. -/
def State.setReg (s : State) (k v : Nat) : State :=
  { s with regs := s.regs.set none k (if v = fieldCold k then none else some v) }

/-- A counter field raised by `n`, held at its largest value. -/
def State.bumpBy (s : State) (k n : Nat) : State :=
  let w := match fieldInfo k with
    | some r => r.width
    | none => 32
  s.setReg k (satAdd w (s.reg k) n)

/-- A counter field raised by one, held at its largest value. -/
def State.bump (s : State) (k : Nat) : State := s.bumpBy k 1

/-- The value in force of a configuration field. -/
def State.cfgAt (s : State) (id idx : Nat) : Nat :=
  match s.cfg.get none (cfgKey id idx) with
  | some v => v
  | none => cfgDefault id idx

/-- The value in force of a configuration field with one value. -/
def State.cfgOf (s : State) (id : Nat) : Nat := s.cfgAt id 0

/-- The field's value as the image gives it, if the image names it (for defaults no single number gives). -/
def State.cfgNamed (s : State) (id idx : Nat) : Option Nat := s.cfg.get none (cfgKey id idx)

/-- Puts a configuration field in force. -/
def State.setCfg (s : State) (id idx v : Nat) : State :=
  { s with cfg := s.cfg.set none (cfgKey id idx) (if v = cfgDefault id idx then none else some v) }

/-- Puts the staged values of a boundary in force, for the indexes a test accepts (R8, R466). -/
def State.takeCfg (s : State) (k : CfgKind) (p : Nat → Bool) : State :=
  let due := s.cfgStaged.filter fun e => (match cfgInfo (e.1 / 4096) with
    | some r => decide (r.kind = k)
    | none => false) && p (e.1 % 4096)
  let s := { s with cfgStaged := s.cfgStaged.filter fun e => !(due.any fun x => decide (x.1 = e.1)) }
  due.foldl (fun s e => s.setCfg (e.1 / 4096) (e.1 % 4096) (e.2.getD 0)) s

/-- A free value, and the state in which it has been used (DESIGN CHOICE, log entry 2). -/
def State.free (s : State) : Nat × State :=
  (Config.freeValue s.freeCtr, { s with freeCtr := s.freeCtr + 1 })

/-- The NVMe timestamp now in ms; 0 if the host has set none (Table 7.9, R189). -/
def State.hostTime (s : State) : Nat :=
  match s.trail.timestamp with
  | some (v, at_) => v + (s.now - at_) / 100000
  | none => 0

end Sys2Proof.Machine
end

