-- ==== Sys2Proof/Machine/OpsPool.lean ====
section
/-!
DEFINITION. The Hamper pools: allocation, thresholds, shares and unit operations (R305 to R317).
-/

namespace Sys2Proof.Machine

/-- Pool codes of Table 10.3. -/
abbrev poolNU : Nat := 0
abbrev poolNR : Nat := 1
abbrev poolNI : Nat := 2
abbrev poolFW : Nat := 3
abbrev poolFI : Nat := 4
abbrev poolFT : Nat := 5

/-- Untouched units of a pool: those that a rebuild left out are not among them (R317). -/
def Pool.untouched (p : Pool) : Nat := (p.size - p.fresh) - (p.gone.filter fun k => decide (p.fresh ≤ k) && decide (k < p.size)).length

/-- Free units of a pool. -/
def Pool.free (p : Pool) : Nat := p.untouched + p.freed.length

/-- The thresholds of NR and FW in units (R311): a level, and where its state ends. -/
def levelOf (size pct : Nat) : Nat := size * pct / 100
def leaveOf (size pct : Nat) : Nat := size * (pct - 2) / 100

/-- The pool's Amber and Red states after its used units changed (R311). -/
def Pool.settle (p : Pool) (amber red : Nat) : Pool :=
  { p with
    amber := if p.amber then decide (leaveOf p.size amber < p.used) else decide (levelOf p.size amber ≤ p.used)
    red := if p.red then decide (leaveOf p.size red < p.used) else decide (levelOf p.size red ≤ p.used) }

/-- Amber and Red of NR (index 0) and FW (index 1) in percent (Table 10.5). -/
def State.amberPct (s : State) (p : Nat) : Nat := s.cfgAt Cfg.HMP_AMBER (if p = poolNR then 0 else 1)
def State.redPct (s : State) (p : Nat) : Nat := s.cfgAt Cfg.HMP_RED (if p = poolNR then 0 else 1)

/-- Recomputes the states of the pools with thresholds. (DEDUCED, log entry 94.) -/
def State.settlePool (s : State) (p : Nat) : State :=
  if p = poolNR ∨ p = poolFW then s.modPool p fun x => x.settle (s.amberPct p) (s.redPct p) else s

/-- The first `n` indexes of the free list, and the pool without them (R308). -/
def Pool.take (p : Pool) (n : Nat) : List Nat × Pool :=
  let k := min n p.untouched
  let new := ((List.range' p.fresh (k + p.gone.length)).filter fun i => !(p.gone.contains i)).take k
  let next := match new.getLast? with
    | some i => i + 1
    | none => p.fresh
  (new ++ p.freed.take (n - k), { p with fresh := next, freed := p.freed.drop (n - k), used := p.used + n })

/-- Allocates `n` units in full or not at all (R308), with their owner; gives the unit keys in order. -/
def State.alloc (s : State) (p n inst : Nat) (o : OwnerKind) (oid : Nat) : Option (List Nat) × State :=
  let x := s.pool p
  if x.rebuild ∨ x.free < n then (none, s)
  else
    let (idx, x') := x.take n
    let keys := idx.map (unitKey p)
    let s := s.modPool p fun _ => x'
    let s := s.each keys fun s k => s.modUnit k fun _ => { st := 1, inst := inst, owner := o, ownerId := oid }
    (some keys, s.settlePool p)

/-- Gives a unit back to the tail of its pool's free list (R308). -/
def State.freeUnit (s : State) (k : Nat) : State :=
  let p := k / 4194304
  let s := s.modUnit k fun _ => {}
  let s := s.modPool p fun x => { x with freed := x.freed ++ [k % 4194304], used := x.used - 1 }
  s.settlePool p

/-- Serves the requests waiting at an internal pool, first come first served (R310). (DEDUCED, log entry 94.) -/
def State.servePool (s : State) (p : Nat) : Nat → State
  | 0 => s
  | n + 1 =>
    match (s.pool p).waiting with
    | [] => s
    | r :: rest =>
      match s.alloc p r.need 0 r.owner r.ownerId with
      | (none, _) => s
      | (some _, s') => (s'.modPool p fun x => { x with waiting := rest }).servePool p n

/-- Answers the engines whose claims wait (Table 10.4): 1 for a refusal. -/
def State.refuseClaims (s : State) (k : Nat) : State :=
  let n := (s.hunit k).claimWaits
  (s.each (List.replicate n k) fun s k => { s with out := .reply 9 [k, 1] :: s.out }).modUnit k fun u => { u with claimWaits := 0 }

/-- The owner's release of a unit it owns: freed, or waiting for its claims (R314); claims that wait are refused. -/
def State.releaseUnit (s : State) (k : Nat) : State :=
  let u := s.hunit k
  if u.st ≠ 1 then s
  else if u.claims = 0 then
    (s.freeUnit k).servePool (k / 4194304) (s.pool (k / 4194304)).waiting.length
  else (s.refuseClaims k).modUnit k fun u => { u with st := 2 }

def State.releaseUnits (s : State) (ks : List Nat) : State := s.each ks fun s k => s.releaseUnit k

/-- A claim on a unit (R314): refused when it is free or released. (DEDUCED, log entry 77.) -/
def State.claimOk (s : State) (k : Nat) : Bool := (s.hunit k).st = 1 && decide ((s.hunit k).claims < 255)
def State.claimUnit (s : State) (k : Nat) : State := s.modUnit k fun u => { u with claims := u.claims + 1 }

/-- The drop of a claim; the last one frees a released unit, and a waiting claim takes its place (R314). -/
def State.dropClaim (s : State) (k : Nat) : State :=
  let u := s.hunit k
  if u.claims = 0 then s
  else if u.claimWaits ≠ 0 then
    { s with out := .reply 9 [k, 0] :: s.out }.modUnit k fun u => { u with claimWaits := u.claimWaits - 1 }
  else if u.st = 2 ∧ u.claims = 1 then
    (s.freeUnit k).servePool (k / 4194304) (s.pool (k / 4194304)).waiting.length
  else s.modUnit k fun u => { u with claims := u.claims - 1 }

/-- Units of a pool charged to an instance (R312). -/
def State.unitsOf (s : State) (p inst : Nat) : Nat :=
  Tab.count (fun k u => decide (k / 4194304 = p) && decide (u.inst = inst) && decide (u.st ≠ 0)) s.hamper.units

/-- QUOTA and SHARE of an instance in NR or FW (R312). -/
def State.quotaOf (s : State) (p inst : Nat) : Nat := if p = poolNR then (s.inst inst).nrQuota else (s.inst inst).fwQuota
def State.shareOf (s : State) (p inst : Nat) : Nat :=
  let v := if p = poolNR then (s.inst inst).nrShare else (s.inst inst).fwShare
  if v = 0x3FFFFF then levelOf (s.pool p).size (s.amberPct p) / max 1 s.hamper.shareN else v

/-- Step 5 of Table 3.4 for a need in one pool (R311, R312). -/
def State.hamperOk (s : State) (p inst need : Nat) : Bool :=
  need = 0 ||
    (let x := s.pool p
     let mine := s.unitsOf p inst + need
     !x.rebuild && !x.red && decide (x.used + need ≤ levelOf x.size (s.redPct p)) && decide (mine ≤ s.quotaOf p inst) &&
       (!(x.amber || decide (levelOf x.size (s.amberPct p) < x.used + need)) || decide (mine ≤ s.shareOf p inst)) &&
       decide (need ≤ x.free))

end Sys2Proof.Machine
end

