-- ==== Sys2Proof/Machine/Ops.lean ====
section
/-!
DEFINITION. The named operations over the state that every part shares: what is sent out, completion entries,
interrupts, the end of a command, asynchronous events.
-/

namespace Sys2Proof.Machine

/-! ### What is sent out -/

/-- The port of an instance (R344, R345). -/
def State.portOf (s : State) (i : Nat) : Nat :=
  match s.tenant.second with
  | some p => if p ≤ i then 1 else 0
  | none => 0

/-- The port neither sends nor accepts TLPs of the stream: IDE is enabled and the stream Insecure (R359); its
associations are taken to cover all of the host's memory and the BARs (DEDUCED, log entry 17). -/
def State.ideBlocked (s : State) : Bool := s.pcie.ide.enabled && !s.pcie.ide.secure

/-- The instance whose requester ID a write carries. -/
def Out.writer : Out → Option Nat
  | .cqe i _ _ _ _ _ _ => some i
  | .data i _ _ _ _ _ => some i
  | .mem i _ _ => some i
  | .msi i _ => some i
  | .reply _ _ => none

/-- Whether what is sent reaches its receiver: nothing reaches the host over a link that went down (R246),
and ISOLATE ends the writes to host memory (Table 17.6, step 3).
(DEDUCED, log entry 51.) -/
def State.reaches (s : State) (o : Out) : Bool := match o.writer with
  | some i => !(s.pcie.ports.get {} (s.portOf i)).lost && !s.fault.lines.isolate
  | none => true

/-- Sends something out. A write to the host's memory waits while the stream is Insecure (R359). -/
def State.emit (s : State) (o : Out) : State :=
  if s.ideBlocked ∧ o.writer.isSome then { s with pcie := { s.pcie with heldOut := s.pcie.heldOut ++ [o] } }
  else if s.reaches o then { s with out := o :: s.out } else s

/-- An interrupt by MSI-X: a masked vector sets its pending bit instead (R348). (PRESUMED, log entry 55.) -/
def State.interrupt (s : State) (i vector : Nat) : State :=
  if (s.inst i).msixMasked.contains vector then
    s.modInst i fun x =>
      { x with msixPending := if x.msixPending.contains vector then x.msixPending else x.msixPending ++ [vector] }
  else s.emit (.msi i vector)

/-- A posted entry is signalled at once, or held for aggregation (R93). The threshold of Feature 0x08 is counted
from 0 as NVMe counts it (DESIGN CHOICE, log entry 30); an admin completion queue is not coalesced, and an aggregation
time of 0 turns coalescing off (DESIGN CHOICE, log entry 102). (DEDUCED, log entry 84.) -/
def State.signalCq (s : State) (i cq : Nat) : State :=
  let x := s.inst i
  let q := x.cqs.get {} cq
  let time := bits x.coalescing 8 8
  let thr := bits x.coalescing 0 8
  if !q.ien then s
  else if cq ≠ 0 ∧ time ≠ 0 ∧ !(x.noCoalesce.contains q.vector) ∧ q.unsignalled < thr + 1 then s
  else (s.modInst i fun x => { x with cqs := x.cqs.upd {} cq fun q => { q with unsignalled := 0 } }).interrupt i q.vector

/-! ### Attributes of writes (R348, R349) -/

/-- The steering tag and the processing hint of an instance's writes for a completion queue: the tag is the one its
vector's MSI-X entry holds (R349). -/
def State.tph (s : State) (i cq : Nat) : Option (Nat × Nat) :=
  if (s.pcie.funcs.get {} i).tph then
    some ((s.inst i).steering.get 0 ((s.inst i).cqs.get {} cq).vector, s.cfgOf Cfg.PCIE_TPH_PH)
  else none

/-! ### The dirty-page log (R385 to R387) -/

/-- The 64 bytes of a line. -/
def lineBytes (v : Nat) : List Nat := le 64 v

/-- Writes a line of the active bitmap back; the write carries instance 0's requester ID (R387, R388). -/
def State.writeLine (s : State) (i : Nat) (l : Nat × Nat) : State :=
  let d := (s.inst i).dirty
  let s := s.modInst i fun x => { x with dirty := { x.dirty with written := x.dirty.written.set 0 l.1 l.2 } }
  s.emit (.mem 0 ((if d.activeB then d.logB else d.logA) + 64 * l.1) (lineBytes l.2))

/-- Writes every line of the cache back (R387, R388). -/
def State.writeCache (s : State) (i : Nat) : State :=
  let s := s.each (s.inst i).dirty.cache fun s l => s.writeLine i l
  s.modInst i fun x => { x with dirty := { x.dirty with cache := [] } }

/-- A line of the active bitmap as the cache or memory holds it: what the manager left in a line that the controller has
not written since the bitmap became active is a free value (DESIGN CHOICE, log entry 112). -/
def State.readLine (s : State) (i line : Nat) : Nat × State :=
  let d := (s.inst i).dirty
  match d.cache.find? fun e => decide (e.1 = line) with
  | some e => (e.2, s)
  | none =>
    if d.written.any fun e => decide (e.1 = line) then (d.written.get 0 line, s)
    else (s.free.1 % 2 ^ 512, s.free.2)

/-- Marks a page that a logging instance's memory write touches, before the write is issued (R386, R387). -/
def State.markPage (s : State) (i p : Nat) : State :=
  let d := (s.inst i).dirty
  if !d.enabled then s
  else if p < d.windowBase ∨ d.windowBase + d.windowPages ≤ p then
    s.modInst i fun x => { x with dirty := { x.dirty with outside := true, outsideCount := satAdd 32 x.dirty.outsideCount 1 } }
  else
    let n := p - d.windowBase
    let line := n / 512
    let r := s.readLine i line
    let v := if bit r.1 (n % 512) then r.1 else r.1 + 2 ^ (n % 512)
    let cache := (line, v) :: d.cache.filter fun e => decide (e.1 ≠ line)
    let s := match cache[64]? with
      | some l => r.2.writeLine i l
      | none => r.2
    s.modInst i fun x => { x with dirty := { x.dirty with cache := cache.take 64 } }

/-- Marks the pages of memory that writes of an instance touch (R386). -/
def State.dirtyPages (s : State) (i : Nat) (pages : List Nat) : State := s.each pages fun s p => s.markPage i p

/-- Logging stops: the cache is written back (Table 13.16). -/
def State.dirtyOff (s : State) (i : Nat) : State :=
  (s.writeCache i).modInst i fun x => { x with dirty := { x.dirty with enabled := false, written := [] } }

/-- The page of a completion queue's slot; that of a queue in scattered pages is its page list's. (DESIGN CHOICE, log entry 112.) -/
def Cq.page (q : Cq) (slot : Nat) : Nat := if q.pc then (q.base + 16 * slot) / 4096 else Config.queuePage q.base slot

/-- Writes a completion entry into a completion queue (R91): the slot was reserved at fetch (Table 3.4, step 1). -/
def State.postCqe (s : State) (i sq cq cid status dw0 : Nat) : State :=
  let q := (s.inst i).cqs.get {} cq
  let s := (s.dirtyPages i [q.page q.tail]).emit (.cqe i sq cq cid status dw0 (s.tph i cq))
  let s := s.modInst i fun x => { x with cqs := x.cqs.upd {} cq fun q =>
    let wrap := decide (q.tail + 1 ≥ q.size)
    { q with
      tail := if wrap then 0 else q.tail + 1
      phase := if wrap then !q.phase else q.phase
      unsignalled := q.unsignalled + 1 } }
  s.signalCq i cq

/-- The tag that holds a command of a queue (R75). -/
def State.findTag (s : State) (i q cid : Nat) : Option Nat :=
  (s.intake.tags.find? fun t => t.2.stage ≠ .free && decide (t.2.inst = i) && decide (t.2.sq = q) &&
    decide (t.2.cmd.cid = cid)).map (·.1)

/-- Data returned to the host for a command: its pages are marked (R386); read data carries the function's Relaxed
Ordering and TPH (R348, R349). The pages of an admin command's buffer are not among its row's operands (DESIGN CHOICE,
DESIGN CHOICE, log entry 112). -/
def State.reply (s : State) (i sq cid : Nat) (payload : List Nat) : State :=
  let c := match s.findTag i sq cid with
    | some t => (s.tag t).cmd
    | none => {}
  let cq := ((s.inst i).sqs.get {} sq).cq
  let isRead := decide (sq ≠ 0) && c.opc = .read
  let s := s.dirtyPages i (if sq = 0 then Config.adminPages i cid else c.pages)
  s.emit (.data i sq cid payload (isRead && (s.pcie.funcs.get {} i).relaxed) (if isRead then s.tph i cq else none))

/-! ### Ports other than the instances' queues -/

/-! The codes of `Out.reply`. -/
namespace Port
/-- PCIe messages: LTR and others. -/
abbrev pcie : Nat := 1
abbrev smbus : Nat := 2
abbrev service : Nat := 3
abbrev cfgMbx : Nat := 4
abbrev avs : Nat := 5
abbrev doe : Nat := 6
abbrev pin : Nat := 7
abbrev waymark : Nat := 8
/-- Results an engine returns to its requester. -/
abbrev engine : Nat := 9
/-- Results of TCG methods. -/
abbrev tcg : Nat := 10
/-- Data of a register or captured object read. -/
abbrev register : Nat := 11
end Port

/-! ### Status codes: NVMe's status code type × 256 + status code -/

namespace Status
abbrev success : Nat := 0
abbrev invalidOpcode : Nat := 0x001
abbrev invalidField : Nat := 0x002
abbrev dataTransferError : Nat := 0x004
abbrev internalError : Nat := 0x006
abbrev abortRequested : Nat := 0x007
abbrev invalidNamespace : Nat := 0x00B
abbrev sequenceError : Nat := 0x00C
abbrev nsWriteProtected : Nat := 0x020
abbrev lbaOutOfRange : Nat := 0x080
abbrev reservationConflict : Nat := 0x083
abbrev cqInvalid : Nat := 0x100
abbrev invalidQueueId : Nat := 0x101
abbrev invalidQueueSize : Nat := 0x102
abbrev abortSqDeletion : Nat := 0x008
abbrev abortLimit : Nat := 0x103
abbrev aerLimit : Nat := 0x105
abbrev invalidQueueDeletion : Nat := 0x10C
abbrev nsInsufficientCapacity : Nat := 0x115
abbrev nsIdUnavailable : Nat := 0x116
abbrev ctrlListInvalid : Nat := 0x11C
abbrev invalidCtrlId : Nat := 0x11F
abbrev invalidResourceId : Nat := 0x122
abbrev nsAlreadyAttached : Nat := 0x118
abbrev nsNotAttached : Nat := 0x11A
abbrev invalidCtrlState : Nat := 0x120
abbrev invalidResourceCount : Nat := 0x121
abbrev zoneBoundary : Nat := 0x1B8
abbrev zoneFull : Nat := 0x1B9
abbrev zoneReadOnly : Nat := 0x1BA
abbrev zoneOffline : Nat := 0x1BB
abbrev zoneInvalidWrite : Nat := 0x1BC
abbrev tooManyActive : Nat := 0x1BD
abbrev tooManyOpen : Nat := 0x1BE
abbrev invalidTransition : Nat := 0x1BF
abbrev unrecoveredRead : Nat := 0x281
abbrev guardCheck : Nat := 0x282
abbrev appTagCheck : Nat := 0x283
abbrev refTagCheck : Nat := 0x284
abbrev fixityJobLimit : Nat := 0x7C0
abbrev accessDenied : Nat := 0x286
end Status

/-! ### The end of a command (Table 3.3, R75, R91, R101, R105) -/

/-- Commands between fetch and completion: an outstanding Asynchronous Event Request does not count (R101). -/
def TagRec.busy (r : TagRec) : Bool := r.stage ≠ .free && r.cmd.opc ≠ .aer
def State.busyTags (s : State) : Bool := s.intake.tags.any fun t => t.2.busy

/-- Intake is idle (R101): posting is part of a step. -/
def State.intakeIdle (s : State) : Bool := !s.busyTags && s.intake.notices.isEmpty

/-- An instance has commands between fetch and completion. -/
def State.hasCommands (s : State) (i : Nat) : Bool := s.intake.tags.any fun t => t.2.busy && decide (t.2.inst = i)

/-- The host's tolerance in µs (R410): the smaller of a physical function's two LTR maxima while its LTR is on, over both
physical functions in dual-port mode. -/
def State.tolerance (s : State) : Option Nat :=
  let one := fun (i : Nat) => let f := s.pcie.funcs.get {} i
    if f.ltrOn then some (min f.maxSnoop f.maxNoSnoop) else none
  match one 0, s.tenant.second.bind one with
  | some a, some b => some (min a b)
  | some a, none => some a
  | none, b => b

/-- The latency tolerance while idle in a power state, in µs (R105). -/
def stateLtr (ps : Nat) : Nat := if ps = 4 then 15000 else if ps = 3 then 2000 else 1000

/-- The latency tolerance to report (R105): sent when it changes, reduced to the host's tolerance (R411). -/
def State.ltrUpdate (s : State) (idle : Nat) : State :=
  let v := if s.busyTags then s.cfgOf Cfg.INTAKE_LTR_ACTIVE else idle
  if v = s.intake.ltr then s
  else
    let t := match s.tolerance with
      | some t => min v t
      | none => v
    -- each port sends its own (R352)
    let s := ({ s with intake := { s.intake with ltr := v } } : State).emit (.reply Port.pcie [0, t])
    if s.boot.dualPort then s.emit (.reply Port.pcie [1, t]) else s

/-- An idle period of intake begins: what waited for it comes into force (Table 3.9). -/
def State.idleBegins (s : State) : State :=
  if s.intakeIdle then
    let s := (s.takeCfg .idle fun _ => true).takeCfg .linkIdle fun _ => true
    { s with intake := { s.intake with idleAt := s.now } }
  else s

/-! ### Reads of host memory for write data (R350) -/

def State.portAt (s : State) (p : Nat) : PPort := s.pcie.ports.get {} p
def State.modPortAt (s : State) (p : Nat) (f : PPort → PPort) : State :=
  { s with pcie := { s.pcie with ports := s.pcie.ports.upd {} p f } }

/-- The physical function of a port (R344). -/
def State.portPf (s : State) (p : Nat) : Nat := if p = 0 then 0 else s.tenant.second.getD 0

/-- The PCIe tags of a port: with 10-bit tags those whose bits 9 and 8 are not 00. -/
def State.readTags (s : State) (p : Nat) : List Nat :=
  if (s.pcie.funcs.get {} (s.portPf p)).tenBit then List.range' 256 768 else List.range 256

/-- Gives free PCIe tags to the reads still to be made, the oldest command's first: the reads made, and those left. -/
def assignReads : List Nat → List (Nat × Nat) → List (Nat × Nat) × List (Nat × Nat)
  | k :: ks, (t, n) :: q =>
    let r := assignReads ks (if n ≤ 1 then q else (t, n - 1) :: q)
    ((k, t) :: r.1, r.2)
  | _, q => ([], q)

/-- Makes as many reads as the port may have outstanding. -/
def State.issueReads (s : State) (p : Nat) : State :=
  let x := s.portAt p
  if x.readQ.isEmpty then s
  else
    let all := s.readTags p
    let free := (all.filter fun k => !(x.reads.any fun r => decide (r.1 = k))).take (all.length - x.reads.length)
    let r := assignReads free x.readQ
    s.modPortAt p fun x => { x with reads := x.reads ++ r.1, readQ := r.2 }

/-- Reads of at most the function's Max_Read_Request_Size that bring one block of 4,096 bytes. -/
def State.readsPerBlock (s : State) (i : Nat) : Nat := 4096 / max 1 (s.pcie.funcs.get {} i).mrrs

/-- A command's write data is asked for. -/
def State.startReads (s : State) (t blocks : Nat) : State :=
  let i := (s.tag t).inst
  let p := s.portOf i
  (s.modPortAt p fun x => { x with readQ := x.readQ ++ [(t, blocks * s.readsPerBlock i)] }).issueReads p

/-- Reads of a command are answered: those made first, then, where the row of the data's arrival stands for their issue
too, those still to be made (DESIGN CHOICE, log entry 112). -/
def PPort.answered (x : PPort) (t n : Nat) : PPort :=
  let gone := (x.reads.filter fun r => decide (r.2 = t)).take n
  { x with
    reads := x.reads.filter fun r => !(gone.contains r)
    readQ := x.readQ.filterMap fun r =>
      if r.1 ≠ t then some r else if n - gone.length < r.2 then some (t, r.2 - (n - gone.length)) else none }

/-- Blocks of a command's data have come; the port makes further reads. -/
def State.answerReads (s : State) (t blocks : Nat) : State :=
  let i := (s.tag t).inst
  let p := s.portOf i
  let x := s.portAt p
  if (x.reads.any fun r => decide (r.2 = t)) || (x.readQ.any fun r => decide (r.1 = t)) then
    (s.modPortAt p fun x => x.answered t (blocks * s.readsPerBlock i)).issueReads p
  else s

/-- A tenant's normal shutdown ends once its commands have posted (R367). -/
def State.shutdownDone (s : State) (i : Nat) : State :=
  let x := s.inst i
  if i ≠ 0 ∧ x.ccShn = 1 ∧ x.shst = 1 ∧ !(s.hasCommands i) then s.modInst i fun x => { x with shst := 2 } else s

/-- Frees a tag: its generation advances modulo 32 (Table 3.3). A command of Class U gives its unit of the reserve back
(R77). -/
def State.freeTagOf (s : State) (t : Nat) : State :=
  let r := s.tag t
  -- its reads that are out run to their end unseen
  let s := s.answerReads t r.cmd.nlb
  let s := if r.cls = .u then s.releaseUnits r.units else s
  let s := s.modInst r.inst fun x => { x with
    sqs := x.sqs.upd {} r.sq fun a => { a with staged := if a.staged = some t then none else a.staged }
    cqs := x.cqs.upd {} r.cq fun a => { a with reserved := a.reserved - 1 } }
  let s := s.modTag t fun r => { gen := (r.gen + 1) % 32 }
  let s := s.shutdownDone r.inst
  let s := { s with intake := { s.intake with
    sieveWait := s.intake.sieveWait.filter (· ≠ t)
    walkWait := if s.intake.walkWait = some t then none else s.intake.walkWait } }
  (if r.busy then s.idleBegins else s).ltrUpdate (stateLtr s.power.ps)

/-- Posts a tag's completion entry exactly once and frees it (R91). -/
def State.postTag (s : State) (t status dw0 : Nat) : State :=
  let r := s.tag t
  let bad := b2n (decide (0x281 ≤ status) && decide (status ≤ 0x284))
  -- Media and Data Integrity Errors (Table 18.8)
  let s := { s with mgmt := { s.mgmt with mediaErrors := s.mgmt.mediaErrors + bad } }
  (s.postCqe r.inst r.sq r.cq r.cmd.cid status dw0).freeTagOf t

/-- The completion of an admin command: the tag that holds it posts it, unless a Stop of the instance has taken it; while
the stream is Insecure the command waits (R359). -/
def State.adminCqe (s : State) (i cid status dw0 : Nat) : State :=
  match s.findTag i 0 cid with
  | some t =>
    if (s.tag t).fate ≠ 0 then s
    else if s.ideBlocked then s.modTag t fun x => { x with done := some status, dw0 := dw0 }
    else s.postTag t status dw0
  | none => s

/-! ### Asynchronous events -/

/-! Event types and the notices the spec names; the numbers are NVMe's. -/
namespace Ev
abbrev error : Nat := 0
abbrev smart : Nat := 1
abbrev notice : Nat := 2
abbrev io : Nat := 6
abbrev vendor : Nat := 7
abbrev invalidDoorbellRegister : Nat := 0x00
abbrev invalidDoorbellValue : Nat := 0x01
abbrev persistentInternalError : Nat := 0x03
abbrev zoneDescriptorChanged : Nat := 0xEF
abbrev firmwareActivationStarting : Nat := 0x01
abbrev telemetryLogChanged : Nat := 0x02
abbrev plmAggregateChanged : Nat := 0x04
end Ev

/-- Reports the oldest waiting event whose type is not masked to the oldest outstanding request. -/
def State.deliverEvent (s : State) (i : Nat) : State :=
  let x := s.inst i
  if s.ideBlocked then s
  else match x.aers, x.events.find? (fun e => !(x.masked.contains e.1)) with
  | cid :: rest, some e =>
    (s.modInst i fun x => { x with aers := rest, events := x.events.erase e, masked := x.masked ++ [e.1] }).adminCqe
      i cid Status.success (e.1 + e.2.1 * 256 + e.2.2 * 65536)
  | _, _ => s

/-- The stream is Secure again, or IDE disabled: what waited is sent, waiting events are reported (R359). -/
def State.ideRelease (s : State) : State :=
  if s.ideBlocked then s
  else
    let s := s.each s.pcie.heldOut fun s o => s.emit o
    let s : State := { s with pcie := { s.pcie with heldOut := [] } }
    s.each (s.tenant.insts.map (·.1)) State.deliverEvent

/-- An asynchronous event of an instance: reported to an outstanding request, or kept until one arrives. An event
already waiting is kept once. -/
def State.event (s : State) (i type info log : Nat) : State :=
  (s.modInst i fun x =>
    { x with events := if x.events.contains (type, info, log) then x.events else x.events ++ [(type, info, log)] })
    |>.deliverEvent i

/-- Reading an event's log page unmasks its type. (DEDUCED, log entry 84.) -/
def State.unmask (s : State) (i type : Nat) : State :=
  (s.modInst i fun x => { x with masked := x.masked.filter (· ≠ type) }).deliverEvent i

/-- A Vendor Specific event of an instance, where it has enabled such notices. (DEDUCED, log entry 84.) -/
def State.vendorEvent (s : State) (i info log : Nat) : State :=
  if bit (s.inst i).asyncConfig 31 then s.event i Ev.vendor info log else s

/-! ### The steward mailbox (R473) -/

/-- Kinds that replace their queued message when the ring is full (Table 18.7). -/
def mailLatest (kind : Nat) : Bool := kind ≤ 2 || kind = 4

/-- The last message of a kind replaced. -/
def replaceLast (m : Mail) : List Mail → List Mail
  | [] => []
  | x :: t => if x.kind = m.kind ∧ t.all (fun y => decide (y.kind ≠ m.kind)) then m :: t else x :: replaceLast m t

/-- A message put on a ring of 64 entries, or behind it: the ring and what waits. -/
def ringPut (ring waits : List Mail) (m : Mail) : List Mail × List Mail :=
  if ring.length < 64 ∧ waits.isEmpty then (ring ++ [m], waits)
  else if mailLatest m.kind ∧ ring.any (fun x => decide (x.kind = m.kind)) then (replaceLast m ring, waits)
  else (ring, waits ++ [m])

/-- A message of Table 18.7 from the steward, or back to it. What it changes on the other side is done when it is sent
(DESIGN CHOICE, log entry 113). -/
def State.post (s : State) (kind : Nat) (data : List Int) : State :=
  let r := ringPut s.mgmt.mailOut s.mgmt.mailOutWait { kind := kind, data := data }
  { s with mgmt := { s.mgmt with mailOut := r.1, mailOutWait := r.2 } }
def State.postBack (s : State) (kind : Nat) (data : List Int) : State :=
  let r := ringPut s.mgmt.mailBack s.mgmt.mailBackWait { kind := kind, data := data }
  { s with mgmt := { s.mgmt with mailBack := r.1, mailBackWait := r.2 } }

/-- The oldest message of each ring is delivered, and one that waits enters (DESIGN CHOICE, log entry 113). -/
def State.tickMail (s : State) : State :=
  let m := s.mgmt
  { s with mgmt := { m with
    mailOut := m.mailOut.drop 1 ++ m.mailOutWait.take 1, mailOutWait := m.mailOutWait.drop 1
    mailBack := m.mailBack.drop 1 ++ m.mailBackWait.take 1, mailBackWait := m.mailBackWait.drop 1 } }

end Sys2Proof.Machine
end

