-- ==== Sys2Proof/Machine/OpsBlocks.lean ====
section
/-!
DEFINITION. Blocks of the dies: names (R166), regions (R169), states (R171), the choice of SLC blocks (R175, R185), the
dies' queues (R154) and the time they spend at the NAND (R156).
-/

namespace Sys2Proof.Machine

/-! ### Names -/

/-- Bay and channel of a die name (R166). -/
def bayOf (die : Nat) : Nat := die / 2048
def channelOf (die : Nat) : Nat := die / 32 % 64

/-- A die name whose channel belongs to its Bay (R4). -/
def dieNameOk (die : Nat) : Bool := decide (die < 16384) && decide (channelOf die / 8 = bayOf die)

/-- The address of a block in a fault message: die, plane, block. -/
def blockAddress (die plane block : Nat) : Nat := blockKey die plane block

/-! ### Regions (R169, Table 6.17) -/

abbrev roleZone : Nat := 1
abbrev rolePool : Nat := 4
abbrev roleDump : Nat := 5
abbrev roleTrail : Nat := 6
abbrev roleBoot : Nat := 7

/-- The first block of the Boot Area, above which a die has no other: 4 blocks of each plane (R169). -/
def State.bootStart (s : State) (die : Nat) : Nat :=
  (s.die die).geo.blocksPerPlane - (if s.flash.bootDies.contains die then 4 else 0)

/-- First block and number of blocks of an SLC region on every plane of a die (R169). In a group the regions lie at the
top of each plane, pool above dump above Trail; a die of no group gives four fifths to the pool, once the manager's
capacity configuration includes it (R141). (DESIGN CHOICE, log entry 83.) -/
def State.region (s : State) (die role : Nat) : Nat × Nat :=
  let d := s.die die
  let top := s.bootStart die
  if d.inGroup then
    let g := s.group d.group
    match role with
    | 4 => (top - g.poolRows, g.poolRows)
    | 5 => (top - g.poolRows - 2, 2)
    | 6 => (top - g.poolRows - 2 - g.trailRows, g.trailRows)
    | _ => (0, 0)
  else if d.listed then
    let share := d.geo.blocksPerPlane * 4 / 5
    match role with
    | 4 => (0, share)
    | 5 => (share, top - share)
    | _ => (0, 0)
  else (0, 0)

def State.inRegion (s : State) (die role b : Nat) : Bool :=
  decide ((s.region die role).1 ≤ b) && decide (b < (s.region die role).1 + (s.region die role).2)

/-- The role of a block by its place, and its index within its region. -/
def State.roleOf (s : State) (die b : Nat) : Nat × Nat :=
  let d := s.die die
  if d.geo.blocksPerPlane ≤ b then (0, 0)
  else if s.bootStart die ≤ b then (roleBoot, b - s.bootStart die)
  else match [rolePool, roleDump, roleTrail].find? fun r => s.inRegion die r b with
    | some r => (r, b - (s.region die r).1)
    | none =>
      if d.inGroup ∧ b < (s.group d.group).zoneRows + (s.group d.group).gone.length then (roleZone, b) else (0, 0)

/-- What its place makes of a block: erased in a row or an SLC region, full in the Boot Area, spare elsewhere.
(DESIGN CHOICE, log entry 83.) -/
def State.placed (s : State) (die b : Nat) : Block :=
  match s.roleOf die b with
  | (0, _) => {}
  | (1, n) => { st := .erased, role := roleZone, row := n }
  | (7, n) => { st := .full, slc := true, role := roleBoot, row := n }
  | (r, n) => { st := .erased, slc := true, role := r, row := n }

/-- A block's entry (R149): what has happened to it, or what its place makes it. -/
def State.blockOf (s : State) (die plane b : Nat) : Block :=
  let x := s.block (blockKey die plane b)
  if x ≠ {} then x else s.placed die b

def State.setBlock (s : State) (die plane b : Nat) (f : Block → Block) : State :=
  let x := f (s.blockOf die plane b)
  s.modBlock (blockKey die plane b) fun _ => x

/-- The physical block of a row on a die-plane (R168). (DESIGN CHOICE, log entry 83.) -/
def State.physBlock (s : State) (die plane row : Nat) : Nat :=
  match s.flash.rowMap.get 0 (blockKey die plane row) with
  | 0 => row
  | n + 1 => n

/-- The blocks of a row on a die, plane by plane. -/
def State.rowPhys (s : State) (die row : Nat) : List Nat :=
  (List.range (s.die die).geo.planes).map fun p => s.physBlock die p row

/-- The blocks an operation acts on, each with its plane. -/
def State.opBlocks (s : State) (die : Nat) (o : FlashOp) : List (Nat × Nat) :=
  if o.phys.isEmpty then (s.rowPhys die o.block).zipIdx else o.phys.zipIdx o.plane

/-- A change of the entries of some blocks of a die, each given with its plane. -/
def State.setBlocks (s : State) (die : Nat) (bs : List (Nat × Nat)) (f : Block → Block) : State :=
  s.each bs fun s b => s.setBlock die b.2 b.1 f

/-- Every plane's block of a row on a die. -/
def State.rowBlocks (s : State) (die row : Nat) (f : Block → Block) : State := s.setBlocks die (s.rowPhys die row).zipIdx f

/-! ### The dies' queues and time -/

/-- Queues an operation at a die (R154). -/
def State.enqueue (s : State) (die : Nat) (o : FlashOp) : State :=
  s.modDie die fun d =>
    match o.kind with
    | .qlcUnit => { d with longQ := d.longQ ++ [o] }
    | .erase => { d with longQ := d.longQ ++ [o] }
    | _ => { d with shortQ := d.shortQ ++ [o] }

/-- States in which the NAND works (Table 5.5). -/
def DieState.atNand : DieState → Bool
  | .idle => false
  | .gap => false
  | .suspended => false
  | .reading => true
  | .slcProgramming => true
  | .pass => true
  | .erasing => true
  | .suspending => true
  | .resuming => true

/-- Ticks at the NAND up to a moment (R156). -/
def Die.busyTo (d : Die) (now : Nat) : Nat := if d.st.atNand then d.busy + (now - d.since) else d.busy

/-- A die goes to a state. -/
def Die.goes (d : Die) (now : Nat) (st : DieState) : Die := { d with
  st := st, busy := d.busyTo now, since := now, idleAt := if st = .idle then now else d.idleAt }

/-! ### The bus of a channel (R138) -/

def State.chan (s : State) (c : Nat) : Chan := s.flash.chans.get {} c
def State.modChan (s : State) (c : Nat) (f : Chan → Chan) : State :=
  { s with flash := { s.flash with chans := s.flash.chans.upd {} c f } }

/-- Ticks that a transfer of 4 KiB units takes at a rate in MT/s, a byte a transfer (R137). -/
def xferTicks (rate units : Nat) : Nat := if rate = 0 then 0 else ceilDiv (units * 409600) rate

/-- The transfer that has the bus next: a data-in that has waited 20 µs, else a data-out, else the oldest. -/
def Chan.next (c : Chan) (now : Nat) : Option Xfer :=
  match c.waits.find? fun x => !x.out && decide (2000 ≤ now - x.since) with
  | some x => some x
  | none => match c.waits.find? fun x => x.out with
    | some x => some x
    | none => c.waits.head?

/-- A free bus goes to the next transfer. -/
def Chan.grant (c : Chan) (now : Nat) : Chan :=
  if c.bus.isSome then c
  else match c.next now with
    | none => c
    | some x => { c with bus := some { x with until_ := now + xferTicks c.rate x.units }, waits := c.waits.erase x }

/-- A die has a transfer on the bus, or one that waits for it. -/
def Chan.has (c : Chan) (die : Nat) : Bool := c.bus.any fun x => decide (x.die = die)
def Chan.waitsFor (c : Chan) (die : Nat) : Bool := c.waits.any fun x => decide (x.die = die)

/-- A die asks for the bus of its channel, and gives up what it has or waits for. -/
def State.askBus (s : State) (die : Nat) (out : Bool) (units : Nat) : State :=
  s.modChan (channelOf die) fun c =>
    if c.has die || c.waitsFor die then c.grant s.now
    else ({ c with waits := c.waits ++ [{ die := die, out := out, since := s.now, units := units }] } : Chan).grant s.now
def State.leaveBus (s : State) (die : Nat) : State :=
  s.modChan (channelOf die) fun c =>
    ({ c with bus := c.bus.filter fun x => decide (x.die ≠ die), waits := c.waits.filter fun x => decide (x.die ≠ die) } : Chan).grant s.now

/-- A tick of a channel: a data-in that has run its time leaves the bus to the next. -/
def Chan.tick (c : Chan) (now : Nat) : Chan :=
  ({ c with bus := c.bus.filter fun x => x.out || decide (now < x.until_) } : Chan).grant now

/-! ### SLC blocks (R172, R175, R185) -/

/-- A die whose blocks serve the pool, the dump and the Trail (R135, R141). -/
def State.dieServes (s : State) (die : Nat) : Bool :=
  let d := s.die die
  d.present && !d.retired && (d.listed || d.inGroup)

/-- A block that can be taken for a region: erased and not reserved. -/
def Block.ready (b : Block) (role : Nat) : Bool := decide (b.role = role) && decide (b.st = .erased) && !b.reserved

/-- Blocks of a region that can be taken on a die-plane: those of its range but what has been used, and substitutes. -/
def State.freeIn (s : State) (role die plane : Nat) : Nat :=
  let key := blockKey die plane 0
  let r := s.region die role
  let inside := fun (k : Nat) => decide (key + r.1 ≤ k) && decide (k < key + r.1 + r.2)
  r.2 - Tab.count (fun k b => inside k && !(b.ready role)) s.flash.blocks +
    Tab.count (fun k b => !(inside k) && decide (k / 4096 = key / 4096) && b.ready role) s.flash.blocks

/-- The block taken first on a die-plane: one with the fewest SLC erases, the lowest on equal counts.
(DESIGN CHOICE, log entry 11.) -/
def State.pickBlock (s : State) (role die plane : Nat) : Option Nat :=
  let key := blockKey die plane 0
  let r := s.region die role
  match firstFrom (fun b => s.block (key + b) = {}) r.1 (min r.2 (s.flash.blocks.length + 1)) with
  | some b => some b
  | none => ((s.flash.blocks.filter fun e => decide (e.1 / 4096 = key / 4096) && e.2.ready role).foldl (fun b e =>
      match b with
      | none => some e
      | some x => if e.2.slcErases < x.2.slcErases then some e else some x) none).map fun e => e.1 % 4096

/-- One block on every plane of a die, reserved; none when a plane has none left. -/
def State.takeBlocks (s : State) (role die : Nat) : Option (List Nat × State) :=
  let n := (s.die die).geo.planes
  let l := (List.range n).filterMap (s.pickBlock role die)
  if n ≠ 0 ∧ l.length = n then some (l, s.setBlocks die l.zipIdx fun b => { b with reserved := true }) else none

/-- SLC wordlines of a region block that are given out: the Trail and the dump fill their blocks in order (R255, R245). -/
def State.regionNext (s : State) (role die : Nat) : Option ((List Nat × Nat) × State) :=
  let k := die * 8 + role
  let at_ := s.flash.regionAt.get none k
  let set := fun (s : State) (x : List Nat × Nat) => { s with flash := { s.flash with regionAt := s.flash.regionAt.set none k (some x) } }
  match at_.filter fun x => decide (x.2 < (s.die die).geo.wordlines) with
  | some x => some (x, set s (x.1, x.2 + 1))
  | none => (s.takeBlocks role die).map fun t =>
    let s := set t.2 (t.1, 1)
    let old := match at_ with
      | some x => if role = roleTrail then [(die, x.1, s.trail.segSeq)] else []
      | none => []
    ((t.1, 0), { s with flash := { s.flash with trailUsed := s.flash.trailUsed ++ old } })

/-- 4 KiB blocks a plane-block holds in SLC mode: a quarter of its QLC content (Table 6.2). -/
def slcBlocks (g : Geometry) : Nat := if g.planes = 0 then 0 else g.wordlines * (g.unitBlocks / g.planes) / 4

/-- Erased dump plane-blocks of a die that count as armed: one row of a group's, all of a die of no group (R243). -/
def State.armedOn (s : State) (die : Nat) : Nat :=
  if !(s.dieServes die) then 0
  else ((List.range (s.die die).geo.planes).map fun p =>
    if (s.die die).inGroup then min 1 (s.freeIn roleDump die p) else s.freeIn roleDump die p).sum

/-- The dump reserve in 4 KiB blocks (R65, R243). -/
def State.dumpReserve (s : State) : Nat :=
  Tab.sum (fun k (d : Die) => s.armedOn k * slcBlocks d.geo) s.flash.dies

end Sys2Proof.Machine
end

