-- ==== Sys2Proof/Machine/OpsFence.lean ====
section
/-!
DEFINITION. Waymark fences that end: the result of each, reported in ID order at its port, and the snapshot bank
(R398, R401, R402, Table 14.3).
-/

namespace Sys2Proof.Machine

def State.fport (s : State) (p : Nat) : FPort := s.wmk.ports.get {} p
def State.modFport (s : State) (p : Nat) (f : FPort → FPort) : State :=
  { s with wmk := { s.wmk with ports := s.wmk.ports.upd {} p f } }

/-- A fence of a port changed. -/
def State.modFence (s : State) (p id : Nat) (f : Fence → Fence) : State :=
  s.modFport p fun x => { x with out := x.out.map fun y => if y.id = id then f y else y }

/-! ### The tree (R21) -/

/-- Global operations in the tree. -/
def State.inTree (s : State) : Nat := (s.wmk.tree.filter fun x => !x.2).length

/-- A new operation stalls its issuer: 64 are outstanding, counted from the oldest that has not completed, or others wait
already. -/
def State.treeFull (s : State) : Bool := decide (64 ≤ s.wmk.tree.length) || !s.wmk.stalled.isEmpty

/-- An operation enters the tree at the root. -/
def State.enterTree (s : State) (o : TreeOp) : State :=
  { s with wmk := { s.wmk with tree := s.wmk.tree ++ [(o, false)] } }

/-- Operations that a test accepts have completed at the root. -/
def State.leaveTree (s : State) (test : TreeOp → Bool) : State :=
  let tree := s.wmk.tree.map fun x => (x.1, x.2 || test x.1)
  { s with wmk := { s.wmk with tree := tree.dropWhile (·.2) } }

/-- An operation waits for room in the tree. -/
def State.stall (s : State) (o : Stalled) : State := { s with wmk := { s.wmk with stalled := s.wmk.stalled ++ [o] } }

/-! ### The end of a fence -/

/-- The snapshot of a fence settles in the bank, unless VIEW is 1 (R402): gives the result to report. -/
def State.settleSnap (s : State) (f : Fence) (result : Nat) : Nat × State :=
  if !f.snap ∨ result ≠ 0 then (result, s)
  else if s.reg Reg.WMK_SNAP_VIEW = 1 then (3, s)
  else (0, (({ s with wmk := { s.wmk with bank := f.copies } }).setReg Reg.WMK_SNAP_ID f.id).setReg Reg.WMK_SNAP_VALID 1)

/-- Reports one fence at its port (R398, Tables 14.6 and 14.7). (DESIGN CHOICE, log entry 64.) -/
def State.reportFence (s : State) (p : Nat) (f : Fence) (result : Nat) : State :=
  let (r, s) := s.settleSnap f result
  let s := s.bump Reg.WMK_COUNT_COUNT
  if f.dropped then s
  else if p ≠ 0 then s.emit (.reply Port.waymark [p, f.id, r])
  else
    let s := (s.setReg Reg.WMK_DONE_ID f.id).setReg Reg.WMK_DONE_RESULT r
    let s := if r = 2 then s.setReg Reg.WMK_STATUS_REFUSED 1 else s
    let s := s.emit (.reply Port.waymark [p, f.id, r])
    if s.reg Reg.WMK_CTRL_IEN = 1 then s.interrupt 0 (s.reg Reg.WMK_CTRL_VECTOR) else s

/-- The fences at the head of a port's list whose drain has ended are reported, in ID order.
(DESIGN CHOICE, log entry 64.) -/
def State.releaseFences (s : State) (p : Nat) : State :=
  let ended := (s.fport p).out.takeWhile fun f => f.ended.isSome
  let s := s.modFport p fun x => { x with out := x.out.dropWhile fun f => f.ended.isSome }
  s.each ended fun s f => s.reportFence p f (f.ended.getD 0)

/-- A fence ends with a result. (DESIGN CHOICE, log entry 64.) -/
def State.endFence (s : State) (p id result : Nat) : State :=
  let s := { s with wmk := { s.wmk with stalled := s.wmk.stalled.filter (fun x => decide (x ≠ Stalled.fence p id)) } }
  ((s.modFence p id fun f => if f.ended.isSome then f else { f with ended := some result }).leaveTree
    fun o => decide (o = TreeOp.fence p id)).releaseFences p

/-- Every fence that a test accepts ends with RESULT 1 (Table 14.3). (DESIGN CHOICE, log entry 49.) -/
def State.abandonFences (s : State) (test : Fence → Bool) : State :=
  let hit := fun (p id : Nat) => (s.fport p).out.any fun f => decide (f.id = id) && test f
  let s' := { s with wmk := { s.wmk with
    ports := s.wmk.ports.mapVals {} fun _ (x : FPort) =>
      { x with out := x.out.map fun f => if test f && f.ended.isNone then { f with ended := some 1 } else f }
    stalled := s.wmk.stalled.filter fun y => match y with
      | .fence p id => !(hit p id)
      | _ => true } }
  let s' := s'.leaveTree fun o => match o with
    | .fence p id => hit p id
    | _ => false
  s'.each (s.wmk.ports.map (·.1)) fun s p => s.releaseFences p

end Sys2Proof.Machine
end

