-- ==== Sys2Proof/Machine/OpsFault.lean ====
section
/-!
DEFINITION. The Kiln Log and the Fault Collector's acceptance of a message (spec/17_faults_and_kiln_log.md), with the
entry of dump mode that a Grave message makes (spec/08_power_loss_and_trail.md).
-/

namespace Sys2Proof.Machine

/-! ### Kiln Log -/

/-! Record codes of Table 17.9 other than fault records. -/
namespace Code
abbrev voteRefusal : Nat := 0x0200
abbrev offUnknown : Nat := 0x0210
abbrev sealedWait : Nat := 0x0211
abbrev lifeAverage : Nat := 0x0212
abbrev dramPrivileged : Nat := 0x0220
abbrev powerOn : Nat := 0x0230
abbrev dumpResult : Nat := 0x0240
abbrev hole : Nat := 0x0250
abbrev retirement : Nat := 0x0251
abbrev refire : Nat := 0x0252
abbrev fixity : Nat := 0x0253
abbrev authFail : Nat := 0x0254
abbrev graveEntry : Nat := 0x0260
end Code

/-- Codes that reach the Persistent Event Log whatever PEL_MIN holds (Table 17.9). -/
def pelAlways (code sev : Nat) : Bool :=
  (0x0100 ≤ code && code < 0x0200 && 3 ≤ sev) ||
    (0x0210 ≤ code && code ≤ 0x0212) || code = 0x0220 || code = 0x0230 || code = 0x0240 ||
    (0x0250 ≤ code && code ≤ 0x0254) || code = 0x0260

/-- The ring's size in bytes (R458). -/
def ringBytes : Nat := 1048576

/-- Bytes of the records of a list. -/
def recBytes : List Rec → Nat
  | [] => 0
  | r :: t => r.length + recBytes t

/-- Removes the oldest record of severity at most `sev` and below Grave, and gives it. -/
def takeOldest (sev : Nat) : List Rec → Option (Rec × List Rec)
  | [] => none
  | r :: t =>
    if r.severity ≤ sev ∧ r.severity < 6 then some (r, t)
    else match takeOldest sev t with
      | some (x, t') => some (x, r :: t')
      | none => none

/-- Removes records as R458 states until `need` bytes fit: the ring kept and how many unsaved records went; none when
the removable records run out. The first argument bounds the removals by the ring's length. -/
def makeRoom (need sev : Nat) : Nat → List Rec → Option (List Rec × Nat)
  | n, ring =>
    if recBytes ring + need ≤ ringBytes then some (ring, 0)
    else match n with
      | 0 => none
      | m + 1 => match takeOldest sev ring with
        | none => none
        | some (x, ring') => match makeRoom need sev m ring' with
          | none => none
          | some (kept, k) => some (kept, k + b2n (!x.saved))

/-- The newest records that fit in `room` bytes, oldest first. -/
def fitNewest (room : Nat) : List Rec → List Rec
  | [] => []
  | r :: t => if recBytes (r :: t) ≤ room then r :: t else fitNewest room t

/-- The 64-bit word of a message (Table 17.1). -/
def Msg.word (m : Msg) : Nat :=
  m.source * 2 ^ 52 + m.kind * 2 ^ 44 + m.address % 2 ^ 40 * 16 + m.cls + b2n m.transient * 4 + b2n m.host * 8

/-- The body of a record after its common word: that of Table 19.5 for a power-on record, else bytes whose places the spec does
not state (DESIGN CHOICE, log entry 4). -/
def bodyBytes (code : Nat) (body : List Nat) : List Nat :=
  if code = Code.powerOn then
    (body.take 4).flatMap (le 1) ++ ((body.drop 4).take 10).flatMap (le 4) ++ le 8 (body.getD 14 0)
  else (Config.recordBody code body).map (· % 256)

/-- The bytes of a record: header, common word, then message and window count or another body (R456, Tables 17.7 and 17.8).
(DESIGN CHOICE, log entry 4.) -/
def Rec.bytes (r : Rec) : List Nat :=
  padTo r.length (le 2 r.length ++ le 2 r.code ++ le 2 (r.severity + 16 * (r.source % 4096)) ++ le 2 r.seq ++ le 8 r.time ++
    le 2 r.suppressed ++ le 2 (b2n r.escalated + 2 * b2n r.injected + 4 * b2n r.latched) ++
    match r.msg with
    | some m => le 8 m.word ++ le 4 r.winCount
    | none => bodyBytes r.code r.body)

/-- The bytes of records not yet in a persisted segment. -/
def unsavedBytes (l : List Rec) : Nat := recBytes (l.filter fun r => !r.saved)

/-- Writes a record: the token bucket (R457), room in the ring (R458), its number and time (Table 17.7), and the
conditions under which a segment is due (R459). (DEDUCED, log entry 90.) -/
def State.writeRec (s : State) (r : Rec) : State :=
  let burst := s.cfgOf Cfg.KLOG_BURST
  let spent := s.klog.spent.get 0 r.code
  if burst ≤ spent ∧ r.severity < 4 then
    { s.bump Reg.KLOG_SUPP_COUNT with
      klog := { s.klog with supp := s.klog.supp.upd 0 r.code fun n => satAdd 16 n 1 } }
  else
    let s :=
      if spent < burst ∧ r.severity < 6 then
        { s with klog := { s.klog with spent := s.klog.spent.upd 0 r.code (· + 1) } }
      else s
    match makeRoom r.length r.severity s.klog.ring.length s.klog.ring with
    | none => { s with klog := { s.klog with drops := s.klog.drops.upd 0 r.severity fun n => satAdd 32 n 1 } }
    | some (ring, lost) =>
      let seq := s.reg Reg.KLOG_SEQ_NEXT
      let pel := pelAlways r.code r.severity || s.cfgOf Cfg.KLOG_PEL_MIN ≤ r.severity
      let r := { r with
        seq := seq, time := s.now, stamp := s.hostTime, suppressed := s.klog.supp.get 0 r.code, saved := false, pel := pel }
      let s := (s.setReg Reg.KLOG_SEQ_NEXT (wrapAdd 16 seq 1)).bumpBy Reg.KLOG_STATUS_UNSAVED_LOST lost
      let ring := ring ++ [r]
      { s with klog := { s.klog with
        ring := ring
        supp := s.klog.supp.set 0 r.code 0
        persistDue := s.klog.persistDue || decide (5 ≤ r.severity) || decide (65536 ≤ unsavedBytes ring) } }

/-- The length of a record's body and header: that of Table 19.5 for a power-on record. -/
def recordLength (code : Nat) : Nat := if code = Code.powerOn then 72 else Config.recordLength code

/-- A record other than a fault record: its code, severity, source and the objects its rule names.
(DESIGN CHOICE, log entry 4.) -/
def State.log (s : State) (code sev source : Nat) (body : List Nat) : State :=
  s.writeRec { length := recordLength code, code := code, severity := sev, source := source, body := body }

/-! ### Dump mode entry -/

/-- The exposure's units whose data has arrived (Table 8.2, step 6). -/
def State.exposedUnits (s : State) : List DUnit :=
  (s.trail.expos.filter fun e => !e.failed).flatMap fun e => (e.left ++ e.parked).filterMap fun (b : XBlk) =>
    (s.hunit b.unit).data.map fun v =>
      ({ nsid := e.nsid, lba := b.lba, seq := e.seq, data := v, poisoned := (s.hunit b.unit).poisoned } : DUnit)

/-- The dies that take dump programs, so that a run over them goes from channel to channel (Table 8.2, step 6). -/
def State.dumpDies (s : State) : List Nat :=
  let ds := (s.flash.dies.map (·.1)).filter s.dieServes
  (List.range 32).flatMap fun k => ds.filter fun d => decide (d % 32 = k)

/-- Queues a dump program at the first of some dies that has room in its armed row (R245, Table 5.11, row 1). -/
def State.dumpOn (s : State) (o : For) : List Nat → Option State
  | [] => none
  | d :: rest => match s.regionNext roleDump d with
    | some x => some (x.2.enqueue d { kind := .dumpProgram, owner := o, phys := x.1.1, slcAt := x.1.2 })
    | none => s.dumpOn o rest

/-- A list from its `k`-th element on, then what comes before it. -/
def turned {α : Type} (l : List α) (k : Nat) : List α := l.drop (k % max 1 l.length) ++ l.take (k % max 1 l.length)

/-- The chunks of a dump: 16 units, which one SLC program holds. -/
def chunksOf (units : List DUnit) : List (Nat × List DUnit) :=
  (List.range (ceilDiv units.length 16)).map fun k => (k, (units.drop (16 * k)).take 16)

/-- The programs of a dump are queued: a header copy at a die of each of groups 0 to 3, the Trail tail, then the units in
ascending admission sequence, over the channels in turn (Table 8.2, steps 5 and 6). A chunk that no armed row has room for
stays in the plan. (DESIGN CHOICE, log entry 48.) -/
def State.planDump (s : State) (units : List DUnit) : State :=
  let s := { s with
    flash := { s.flash with regionAt := s.flash.regionAt.filter fun e => decide (e.1 % 8 ≠ roleDump) }
    trail := { s.trail with dumpPlan := chunksOf units } }
  let ds := s.dumpDies
  let heads := [0, 1, 2, 3].map fun g => (s.group g).dies.filter s.dieServes
  let s := s.each (heads.filter fun l => !l.isEmpty) fun s l => (s.dumpOn (.dump 0) l).getD s
  let s := (s.dumpOn (.dump 1) ds).getD s
  let s := s.each s.trail.dumpPlan fun s c => (s.dumpOn (.dump (c.1 + 2)) (turned ds c.1)).getD s
  let groups : Tab Group := s.zone.groups.mapVals {} fun _ (g : Group) =>
    if g.formed then { g with dumpHeld := g.dumpHeld || g.dies.any fun d => s.flash.regionAt.any fun e => e.1 = d * 8 + roleDump } else g
  { s with zone := { s.zone with groups := groups } }

/-- Queued QLC units, Blanket programs, erases and internal reads are withdrawn (Table 8.2, step 3): rows 1 to 3 of Table
5.11 go on. -/
def OpKind.inDump : OpKind → Bool
  | .dumpProgram => true
  | .trailProgram => true
  | .hostRead => true
  | .rebuildRead => true
  | .parityProgram => false
  | .internalRead => false
  | .qlcUnit => false
  | .erase => false
def Die.withdrawn (d : Die) : Die := { d with shortQ := d.shortQ.filter fun o => o.kind.inDump, longQ := [] }

/-- Entry of dump mode (R244, R245 steps 1 to 6): DUMP asserted, intake stops, every exposure's posted flag is fixed,
the header is built, the Trail buffer closed and the dump's programs queued; durable fences end with RESULT 1 (Table 14.3).
A dump already running is not started again. -/
def State.dumpStart (s : State) : State :=
  let s := { s with fault := { s.fault with lines := { s.fault.lines with dump := true } } }
  -- before PCIe ready nothing has been admitted and a dump still to be restored stands (R265)
  if s.trail.dumpMode ∨ s.boot.phase ≠ .ready then s
  else
    let s := (s.post 9 [0]).abandonFences fun f => f.cls = 2
    let units := s.exposedUnits
    let dies : Tab Die := s.flash.dies.mapVals {} fun _ (d : Die) => d.withdrawn
    let s : State := { s with flash := { s.flash with dies := dies } }
    let s : State := { s with
      intake := { s.intake with stopped := true }
      -- R335: the channels leave self-refresh at the last rate that trained
      dram := { s.dram with training := none }
      trail := { s.trail with
        dumpMode := true
        dumpStart := s.now
        dumpSeq := s.trail.dumpSeq + 1
        dump := some {
          seq := s.trail.dumpSeq + 1
          timestamp := s.hostTime
          aonTime := s.now
          exposure := s.trail.expos
          fi := (s.zone.groups.filter fun g => g.2.formed).map fun g => (g.1, g.2.fi)
          wseq := s.trail.wseqReserved } } }
    s.planDump units

/-- A service-life condition is found broken: the first is named (R476). -/
def State.lifeBreak (s : State) (cond : Nat) : State :=
  if s.mgmt.lifeBroken then s else { s with mgmt := { s.mgmt with lifeBroken := true, lifeCond := cond } }

/-! ### Fault messages -/

/-- Whether a source code is one of Table 17.3 (R447). -/
def knownSource (c : Nat) : Bool :=
  c ≤ 0xCF || (0x100 ≤ c && c ≤ 0x193) || c = 0x1A0 || c = 0x1A1 || (0x1B0 ≤ c && c ≤ 0x1B5) || c = 0x1C0 ||
    (0x1C1 ≤ c && c ≤ 0x1C5) || (0x1C8 ≤ c && c ≤ 0x1CF) || (0x1D0 ≤ c && c ≤ 0x1D3) || c = 0x1E0 || c = 0x1E1 ||
    (0x1F0 ≤ c && c ≤ 0x1F3) || (0x200 ≤ c && c ≤ 0x206) || (0x300 ≤ c && c ≤ 0x309) || (0x400 ≤ c && c ≤ 0x57F)

/-- Alarm inputs (R452). -/
def alarmSource (c : Nat) : Bool := 0x1C1 ≤ c && c ≤ 0x1C5

/-- The source a message is counted against (R447). -/
def countedSource (c : Nat) : Nat := if knownSource c then c else 0x309

/-- A message from its 64-bit word. -/
def Msg.ofWord (w : Nat) : Msg :=
  { source := bits w 52 12, kind := bits w 44 8, address := bits w 4 40, cls := bits w 0 2,
    transient := bit w 2, host := bit w 3 }

/-- Kiln Log severity of a class (Table 17.5). -/
def classSeverity : Nat → Nat
  | 0 => 2
  | 1 => 3
  | 2 => 4
  | _ => 6

/-- The source's window after `n` messages at a time (R450): a new window takes the thresholds in force then. -/
def Src.window (x : Src) (now escCount escWindow n : Nat) : Src :=
  if !x.open_ ∨ now - x.winStart > x.escWindow * 100000000 then
    { x with open_ := true, winStart := now, winCount := n, escalated := decide (escCount < n),
             escCount := escCount, escWindow := escWindow }
  else { x with winCount := x.winCount + n, escalated := x.escalated || decide (x.escCount < x.winCount + n) }

/-- Whether this message is the one that takes the count above the threshold (R450). -/
def Src.crosses (old new : Src) : Bool := new.escalated && (!old.escalated || new.winStart ≠ old.winStart)

/-- The first-source latch (R449). -/
def State.latch (s : State) (m : Msg) (cls : Nat) : State :=
  if cls < s.reg Reg.FLT_CFG_LATCH_CLASS then s
  else if s.reg Reg.FLT_FIRST_CTRL_VALID = 0 then
    let w := { m with cls := cls }.word
    ((((s.setReg Reg.FLT_FIRST_LO_MSG (bits w 0 32)).setReg Reg.FLT_FIRST_HI_MSG (bits w 32 32)).setReg
      Reg.FLT_FIRST_TIME_LO_TIME (bits s.now 0 32)).setReg Reg.FLT_FIRST_TIME_HI_TIME (bits s.now 32 32)).setReg
      Reg.FLT_FIRST_CTRL_VALID 1
  else
    let s := (s.setReg Reg.FLT_FIRST_CTRL_OVERFLOW 1).bump Reg.FLT_OVF_COUNT_COUNT
    if cls = 3 then s.setReg Reg.FLT_FIRST_CTRL_GRAVE_LATER 1 else s

/-- The Grave sequence up to its step 2 (R453): DUMP, the Grave state, CFS, the entry record. -/
def State.graveEnter (s : State) : State :=
  if s.fault.grave then s
  else
    let s := { s with fault := { s.fault with grave := true, cfs := true, graveAt := s.now } }
    -- R487: written to the directory during step 2
    let s := if (s.boot.slots.get ({} : FwSlot) s.boot.running).st = 3 then { s with boot := { s.boot with attempts := 3 } } else s
    s.dumpStart.log Code.graveEntry 6 0x309 []

/-- Acceptance of a message (R447 to R451): counted with the further messages its port held, classed with escalation,
latched, recorded. Then its actions: a Grave message acts at once; a Degraded or Severe one starts the handler or waits
behind it. `n` is 1 plus the port's count (R455). -/
def State.accept (s : State) (m : Msg) (injected self : Bool) (n : Nat) : State :=
  let c := countedSource m.source
  let old := s.src c
  let win := old.window s.now (s.cfgOf Cfg.FLT_ESC_COUNT) (s.cfgOf Cfg.FLT_ESC_WINDOW) n
  let raised := !self && decide (m.cls < 2) && old.crosses win
  let cls := if raised then 2 else m.cls
  let latched := decide (s.reg Reg.FLT_CFG_LATCH_CLASS ≤ cls) && decide (s.reg Reg.FLT_FIRST_CTRL_VALID = 0)
  let s := s.modSrc c fun _ => { win with
    count := satAdd 32 old.count n, escalated := win.escalated && !self
    worst := max old.worst cls, lastKind := m.kind }
  let s := s.latch m cls
  let s := if self then s.setReg Reg.FLT_STATUS_SELF 1 else s
  let s := { s with klog := { s.klog with supp := s.klog.supp.upd 0 (0x0100 + m.kind) fun x => satAdd 16 x (n - 1) } }
  let m := { m with cls := cls }
  let s := s.writeRec {
    length := 32, code := 0x0100 + m.kind, severity := classSeverity cls, source := c, msg := some m,
    escalated := raised, injected := injected, latched := latched, winCount := win.winCount }
  if cls = 3 then (if s.reg Reg.FLT_CFG_IEN = 1 then s.interrupt 0 (s.reg Reg.FLT_CFG_VECTOR) else s).graveEnter
  else if s.fault.handler.isSome then { s with fault := { s.fault with queue := s.fault.queue ++ [m] } }
  else if 1 ≤ cls then { s with fault := { s.fault with handler := some m } }
  else s

/-- A message arriving at the Fault Collector: when the input queue is full the source's port holds it (R455); a Grave
message and an alarm pass the queue (R452, R455), a fault of the Fault Collector itself is recorded directly. -/
def State.fltMsg (s : State) (m : Msg) (injected : Bool := false) (self : Bool := false) : State :=
  if m.cls = 3 ∨ alarmSource m.source ∨ self ∨ s.fault.queue.length < 256 then s.accept m injected self 1
  else s.modSrc (countedSource m.source) fun x =>
    match x.held with
    | none => { x with held := some m }
    | some _ => { x with heldMore := min 255 (x.heldMore + 1) }

/-- A fault message by its fields. -/
def State.report (s : State) (source kind address cls : Nat) : State :=
  s.fltMsg { source := source, kind := kind, address := address, cls := cls }

/-- A fault message of an event by which a host command received an error status, or not (Table 17.2, HOST). -/
def State.reportHost (s : State) (source kind address cls : Nat) (host : Bool) : State :=
  s.fltMsg { source := source, kind := kind, address := address, cls := cls, host := host }

/-- A fault message of an event whose second attempt succeeded (R216). -/
def State.reportTransient (s : State) (source kind address : Nat) : State :=
  s.fltMsg { source := source, kind := kind, address := address, cls := 0, transient := true }

end Sys2Proof.Machine
end

