-- ==== Sys2Proof/Machine/OpsOtp.lean ====
section
/-!
DEFINITION. The OTP array (R506 to R508): the lifecycle, the anti-rollback counters, the key rows, the integrity check.
-/

namespace Sys2Proof.Machine

/-- Row of the OTP array, 512 bits. -/
def State.otpRow (s : State) (r : Nat) : Nat := s.boot.otp.get 0 r

/-- Bits programmed into a row: a bit once set stays set. -/
def State.programOtp (s : State) (r mask : Nat) : State :=
  { s with boot := { s.boot with otp := s.boot.otp.upd 0 r fun v => v ||| (mask % 2 ^ 512) } }

/-- How many of `n` bits from `lo` are 1. -/
def onesIn (x lo : Nat) : Nat → Nat
  | 0 => 0
  | n + 1 => onesIn x lo n + b2n (bit x (lo + n))

/-! ### Lifecycle (Table 19.15, row 13) -/

/-- A lifecycle group counts as set with 6 or more of its 8 bits. -/
def State.lifeGroup (s : State) (k : Nat) : Bool := decide (6 ≤ onesIn (s.otpRow 13) (8 * k) 8)

/-- 0 Blank, 1 Provisioned, 2 Production, 3 Returned: the highest group set. -/
def State.lifecycle (s : State) : Nat :=
  if s.lifeGroup 2 then 3 else if s.lifeGroup 1 then 2 else if s.lifeGroup 0 then 1 else 0

/-- A write lock of rows 0 to 8 holds when either copy is set (row 14). -/
def State.rowLocked (s : State) (r : Nat) : Bool := decide (r ≤ 8) && (bit (s.otpRow 14) r || bit (s.otpRow 14) (256 + r))

/-- OTP programming is refused outside 0 to 85 °C, or where a lock covers the row (R508). (PRESUMED, log entry 35.) -/
def State.otpRefused (s : State) (row : Nat) : Bool := decide (s.cone.hot < 0) || decide (85000 < s.cone.hot) || s.rowLocked row

/-! ### Counters (R492) -/

/-- The firmware anti-rollback counter: the number of 1 bits of row 9. -/
def State.fwCounter (s : State) : Nat := onesIn (s.otpRow 9) 0 512

/-- The configuration anti-rollback counter: the number of 1 bits of row 11. -/
def State.cfgCounter (s : State) : Nat := onesIn (s.otpRow 11) 0 512

/-- Advances a counter to a value above it, main row and mirror; only in Production. -/
def State.advanceCounter (s : State) (row value : Nat) : State :=
  if s.lifecycle ≠ 2 ∨ value ≤ onesIn (s.otpRow row) 0 512 ∨ s.otpRefused row then s
  else (s.programOtp row (2 ^ min value 512 - 1)).programOtp (row + 1) (2 ^ min value 512 - 1)

/-! ### Key rows (R506, R507) -/

/-- The value of a key row. -/
def rowValue (v : Nat) : Nat := bits v 0 384

/-- A key row as programmed: the value and its CRC, over its bytes from bit 0 up (DEDUCED, log entry 35). -/
def keyRow (v : Nat) : Nat := v % 2 ^ 384 + crc32c (le 48 v) * 2 ^ 384

/-- A key row's CRC is correct. -/
def rowGood (v : Nat) : Bool := v = keyRow (rowValue v)

/-- The value of a key pair through its good row. -/
def State.keyPair (s : State) (r : Nat) : Nat :=
  if rowGood (s.otpRow r) then rowValue (s.otpRow r) else rowValue (s.otpRow (r + 4))

/-- The device root key seed (rows 1 and 5). -/
def State.rootSeed (s : State) : Nat := s.keyPair 1

/-- The device root key (Table 9.7): from its seed, with the serial number of row 0 as context. -/
def State.drk (s : State) : Nat := Config.kdf s.rootSeed [bits (s.otpRow 0) 32 64]

/-- The hash of the trusted root's public keys (rows 2 and 6; that the pair is read as the key pairs are: DEDUCED, log entry
35). (PRESUMED, log entry 35.) -/
def State.rootHash (s : State) : Nat := s.keyPair 2

/-- The SPDM identity seed (rows 3 and 7). -/
def State.identitySeed (s : State) : Nat := s.keyPair 3

/-! ### Integrity check (R507) -/

/-- A counter row has a 1 above a 0. -/
def notThermometer (v : Nat) : Bool := decide (v ≠ 2 ^ onesIn v 0 512 - 1)

/-- A counter row and its mirror differ by anything other than the main row being one bit ahead. -/
def counterApart (main mirror : Nat) : Bool :=
  decide (main ≠ mirror) && decide (onesIn main 0 512 ≠ onesIn mirror 0 512 + 1)

/-- Both rows of a pair are wrong, or both are correct and unequal. -/
def pairBad (a b : Nat) : Bool :=
  (!(rowGood a) && !(rowGood b)) || (rowGood a && rowGood b && decide (a ≠ b))

/-- The first row at which the integrity check fails. -/
def State.otpFailure (s : State) : Option Nat :=
  let life := s.lifecycle
  let r0 := s.otpRow 0
  if bits r0 480 32 ≠ crc32c (le 60 r0) ∧ !(life = 0 ∧ r0 = 0) then some 0
  else if 1 ≤ life ∧ pairBad (s.otpRow 1) (s.otpRow 5) then some 1
  else if 1 ≤ life ∧ pairBad (s.otpRow 2) (s.otpRow 6) then some 2
  else if 1 ≤ life ∧ pairBad (s.otpRow 3) (s.otpRow 7) then some 3
  else if notThermometer (s.otpRow 9) ∨ counterApart (s.otpRow 9) (s.otpRow 10) then some 9
  else if notThermometer (s.otpRow 11) ∨ counterApart (s.otpRow 11) (s.otpRow 12) then some 11
  else if (s.lifeGroup 1 ∧ !(s.lifeGroup 0)) ∨ (s.lifeGroup 2 ∧ !(s.lifeGroup 1)) then some 13
  else none

/-- A key pair with one bad row is used through its good row, with one Severe fault per cold power-on. -/
def State.otpOneBad (s : State) : State :=
  let one := fun (a b : Nat) => rowGood (s.otpRow a) != rowGood (s.otpRow b)
  if s.lifecycle = 0 ∨ s.boot.otpReported ∨ !(one 1 5 || one 2 6 || one 3 7) then s
  else ({ s with boot := { s.boot with otpReported := true } }).report 0x305 0x52 (if one 1 5 then 1 else if one 2 6 then 2 else 3) 2

/-! ### Signatures (R490, R491, R505) -/

/-- The bytes of the SIGNER record, which the root signs (Table 19.10). -/
def signerBytes (x : Signer) : List Nat :=
  be 96 x.ecdsa ++ be 56 x.lms ++ be 4 x.validFrom ++ be 4 x.validTo ++ be 4 x.usage ++ be 4 x.id ++ List.replicate 88 0

/-- The 4,096 bytes of a signature block (Table 19.10). -/
def sigBlockBytes (b : SigBlock) : List Nat :=
  b.magic ++ be 4 b.format ++ be 96 b.rootEcdsa ++ be 56 b.rootLms ++ signerBytes b.signer ++ be 96 b.rootEcdsaSig ++
    padTo 1536 (be 1452 b.rootLmsSig) ++ be 96 b.imageEcdsaSig ++ padTo 1952 (be 1772 b.imageLmsSig)

/-- An ECDSA signature verifies a digest under a key; an LMS signature a message under a public key of 56 bytes. -/
def ecdsaOk (key digest sig : Nat) : Bool := (List.range 4).any fun k => decide (Config.ecdsaKey digest sig k = key)
def lmsOk (key : Nat) (message : List Nat) (sig : Nat) : Bool :=
  decide (Config.lmsRoot (key / 2 ^ 256) message sig % 2 ^ 256 = key % 2 ^ 256)

/-- The root of a block is trusted: in Blank any, else the one whose hash the OTP holds. -/
def State.rootTrusted (s : State) (b : SigBlock) : Bool :=
  s.lifecycle = 0 || decide (Config.sha384 (be 96 b.rootEcdsa ++ be 56 b.rootLms) % 2 ^ 384 = s.rootHash)

/-- A block signs M for a use: the layout, the root, both root signatures, the USAGE bit, both signatures over M. -/
def State.blockOk (s : State) (b : SigBlock) (m usage : Nat) : Bool :=
  decide (b.magic = [0x43, 0x5A, 0x53, 0x47]) && decide (b.format = 1) && s.rootTrusted b &&
    ecdsaOk b.rootEcdsa (Config.sha384 (signerBytes b.signer)) b.rootEcdsaSig && lmsOk b.rootLms (signerBytes b.signer) b.rootLmsSig &&
    bit b.signer.usage usage && ecdsaOk b.signer.ecdsa m b.imageEcdsaSig && lmsOk b.signer.lms (be 48 m) b.imageLmsSig

/-- The chain of R491 holds for an image of a kind (0 firmware, 1 configuration): its ROLLBACK, the counter, and the digests its
header names. -/
def State.chainOk (s : State) (kind rollback counter : Nat) (want : List Nat) (c : Chain) : Bool :=
  s.blockOk c.block c.m kind && decide (c.block.signer.validFrom ≤ rollback) && decide (rollback ≤ c.block.signer.validTo) &&
    decide (counter ≤ c.block.signer.validTo) && decide (c.parts = want)

/-- The M of a token: SHA-384 over the serial number, the nonce and the purpose, 1 debug and 2 return (R505). -/
def State.tokenDigest (s : State) (nonce purpose : Nat) : Nat :=
  Config.sha384 (le 8 (bits (s.otpRow 0) 32 64) ++ le 32 nonce ++ le 4 purpose)

/-- A token is accepted: it signs the last nonce (R505), and its signer is not revoked (R491; DEDUCED, log entry 35). -/
def State.tokenOk (s : State) (purpose : Nat) (b : SigBlock) : Bool := match s.boot.nonce with
  | some n => s.blockOk b (s.tokenDigest n purpose) (purpose + 1) && decide (s.fwCounter ≤ b.signer.validTo)
  | none => false

end Sys2Proof.Machine
end

