-- ==== Sys2Proof/Machine/OpsPi.lean ====
section
/-!
DEFINITION. Protection information of a block (R33, R217 to R220): where it lies in the host metadata, what the
controller generates, checks and strips. A block is one number: its 4,096 bytes, the host metadata above them.
-/

namespace Sys2Proof

/-- Host metadata of an LBA format in bits (Table 2.2). -/
def metaBits (lbaf : Nat) : Nat :=
  match lbaf with
  | 0 => 0
  | 1 => 64
  | 2 => 128
  | _ => 512

/-- Widths of the guard, of the reference tag, and of the whole (R217, Table 2.2). -/
def PiFormat.guardBits (p : PiFormat) : Nat := if p.guard64 then 64 else 16
def PiFormat.refBits (p : PiFormat) : Nat := if p.guard64 then 48 else 32
def PiFormat.bits (p : PiFormat) : Nat := if p.guard64 then 128 else 64

/-- PRACT, and the checks PRCHK selects: guard, application tag, reference tag. -/
def HostCmd.pract (c : HostCmd) : Bool := bit c.prinfo 3
def HostCmd.chkGuard (c : HostCmd) : Bool := bit c.prinfo 2
def HostCmd.chkApp (c : HostCmd) : Bool := bit c.prinfo 1
def HostCmd.chkRef (c : HostCmd) : Bool := bit c.prinfo 0

/-- An LBA format and a protection information format go together (Table 2.2): format 1 has the 16-bit guard, format 2
the 64-bit one, format 3 either, in its first or last bytes. -/
def formatOk (lbaf : Nat) (p : PiFormat) : Bool :=
  decide (lbaf < 4) &&
    (p.kind = 0 || ((p.kind = 1 || p.kind = 3) && lbaf ≠ 0 && (lbaf ≠ 1 || !p.guard64) && (lbaf ≠ 2 || p.guard64)))

end Sys2Proof

namespace Sys2Proof.Machine

/-- The bit of a block's number at which its protection information begins (Table 2.2): guard, application tag and
reference tag follow one another (PRESUMED, log entry 24). -/
def Ns.piAt (n : Ns) : Nat := 32768 + if n.lbaf = 3 ∧ !n.pi.first then 512 - n.pi.bits else 0

def Ns.guardOf (n : Ns) (v : Nat) : Nat := bits v n.piAt n.pi.guardBits
def Ns.appOf (n : Ns) (v : Nat) : Nat := bits v (n.piAt + n.pi.guardBits) 16
def Ns.refOf (n : Ns) (v : Nat) : Nat := bits v (n.piAt + n.pi.guardBits + 16) n.pi.refBits

/-- The guard over the 4,096 data bytes (R217). (DESIGN CHOICE, log entry 3.) -/
def Ns.guardFor (n : Ns) (v : Nat) : Nat := Config.guard n.pi.guard64 (v % 2 ^ 32768) % 2 ^ n.pi.guardBits

/-- The reference tag a command gives its `k`-th block (R217, R218); Type 3 takes ILBRT as it is (PRESUMED, log entry
24). (PRESUMED, log entry 24.) -/
def Ns.refFor (n : Ns) (c : HostCmd) (k : Nat) : Nat :=
  (if n.pi.kind = 1 then c.ilbrt + k else c.ilbrt) % 2 ^ n.pi.refBits

/-- A block with its protection information replaced. -/
def Ns.withPi (n : Ns) (v p : Nat) : Nat := v - bits v n.piAt n.pi.bits * 2 ^ n.piAt + p * 2 ^ n.piAt

/-- Zeros whose protection information bytes are all ones (R49, R220). -/
def Ns.ones (n : Ns) : Nat := if n.pi.kind = 0 then 0 else (2 ^ n.pi.bits - 1) * 2 ^ n.piAt

/-- The `k`-th block of a write as Far Hamper takes it (R217): with PRACT the controller generates. -/
def Ns.received (n : Ns) (c : HostCmd) (k v : Nat) : Nat :=
  if n.pi.kind = 0 ∨ !c.pract then v
  else n.withPi v (n.guardFor v + c.lbat % 65536 * 2 ^ n.pi.guardBits + n.refFor c k * 2 ^ (n.pi.guardBits + 16))

/-- Checking is disabled for a block (R220): application tag 0xFFFF, for Type 3 with a reference tag of all ones. -/
def Ns.piOff (n : Ns) (v : Nat) : Bool :=
  n.appOf v = 0xFFFF && (n.pi.kind = 1 || n.refOf v = 2 ^ n.pi.refBits - 1)

/-- The checks PRCHK selects on the `k`-th block of a command (R217, R218): the status of the first that fails, 0 for
none. -/
def Ns.piCheck (n : Ns) (c : HostCmd) (k v : Nat) : Nat :=
  if n.pi.kind = 0 ∨ n.piOff v then 0
  else if c.chkGuard ∧ n.guardOf v ≠ n.guardFor v then 0x282
  else if c.chkApp ∧ (n.appOf v).land c.lbatMask ≠ c.lbat.land c.lbatMask then 0x283
  else if c.chkRef ∧ n.pi.kind = 1 ∧ n.refOf v ≠ n.refFor c k then 0x284
  else 0

/-- A block as a read sends it to the host (R218): PRACT removes protection information that is all of the metadata. -/
def Ns.toHost (n : Ns) (c : HostCmd) (v : Nat) : Nat :=
  if n.pi.kind ≠ 0 ∧ c.pract ∧ metaBits n.lbaf = n.pi.bits then v % 2 ^ 32768 else v

end Sys2Proof.Machine
end

