-- ==== Sys2Proof/Machine/OpsSieve.lean ====
section
/-!
DEFINITION. Lookups, insertion and removal in the Sieve (R107 to R124).
-/

namespace Sys2Proof.Machine

/-! ### Matching -/

/-- The scope of a namespace's in-flight and access entries, of its placement entries, of a die set (Table 4.2). -/
def scopeNs (nsid : Nat) : Nat := nsid - 1
def scopePlacement (nsid : Nat) : Nat := 1024 + (nsid - 1)
def scopeDieSet (d : Nat) : Nat := 2048 + (d - 1)

/-- R110, without a payload qualifier. -/
def Ent.hits (e : Ent) (a b : Nat) (scopes : List Nat) (pmin pmax : Nat) : Bool :=
  e.valid && decide (e.lo ≤ b) && decide (a ≤ e.hi) && scopes.contains e.scope && decide (pmin ≤ e.prio) &&
    decide (e.prio ≤ pmax)

/-- Every match of a lookup, in position order. -/
def State.matches_ (s : State) (a b : Nat) (scopes : List Nat) (pmin pmax : Nat) : List (Nat × Ent) :=
  s.sieve.ents.filter fun x => x.2.hits a b scopes pmin pmax

/-- The match of highest rank (R111): lowest PRIO, then lowest position. The list is in position order. -/
def bestMatch : List (Nat × Ent) → Option (Nat × Ent)
  | [] => none
  | x :: t =>
    match bestMatch t with
    | none => some x
    | some y => if x.2.prio ≤ y.2.prio then some x else some y

/-- First-match lookup with a qualifier on the payload's instance field. -/
def State.firstFor (s : State) (inst a b : Nat) (scopes : List Nat) (pmin pmax : Nat) : Option Ent :=
  (bestMatch ((s.matches_ a b scopes pmin pmax).filter fun x => bits x.2.payload 0 9 = inst)).map (·.2)

/-- The access check of a range (R127, R129): `w` asks for write permission. -/
def State.accessOk (s : State) (inst nsid a b : Nat) (w : Bool) : Bool :=
  let sc := [scopeNs nsid, scopeDieSet (s.ns nsid).dieSet]
  if !(s.sieve.ents.any fun x => x.2.valid && sc.contains x.2.scope && decide (x.2.prio ≤ 0x3F)) then true
  else match s.firstFor inst a b sc 0 0x3F with
    | none => false
    | some e => !(bit e.payload 11) && (if w then bit e.payload 10 else bit e.payload 9) &&
        decide (e.lo ≤ a) && decide (b ≤ e.hi)

/-! ### Capacity and change -/

/-- First position of the in-flight region (SIEVE_CFG.RULE_SEGS segments of rules before it). -/
def State.inflightBase (s : State) : Nat := s.reg Reg.SIEVE_CFG_RULE_SEGS * 1024

/-- A position that holds nothing and is not retired. (DESIGN CHOICE, log entry 11.) (DESIGN CHOICE, log entry 82.) -/
def State.posFree (s : State) (p : Nat) : Bool :=
  let e := s.ent p
  !e.valid && !e.retiring && !(s.sieve.retired.contains p)

/-- In-flight entries, valid or retiring (SIEVE_OCC.INFLIGHT). -/
def State.inflightCount (s : State) : Nat :=
  Tab.count (fun p e => decide (s.inflightBase ≤ p) && (e.valid || e.retiring)) s.sieve.ents

/-- Positions free for commands of Classes A and B (R117): the highest 256 free positions are kept for internal jobs. -/
def State.freeForCommands (s : State) : Nat :=
  65536 - s.inflightBase - (s.sieve.retired.filter fun p => decide (s.inflightBase ≤ p)).length - s.inflightCount - 256

/-- A free position of the in-flight region: the lowest for a command, the highest for an internal job (R117). -/
def State.freePos (s : State) (internal : Bool) : Option Nat :=
  let n := min (s.sieve.ents.length + s.sieve.retired.length + 1) (65536 - s.inflightBase)
  if internal then (firstFrom (fun k => s.posFree (65535 - k)) 0 n).map (65535 - ·)
  else firstFrom s.posFree s.inflightBase n

/-- In-flight entries of an instance's commands, those of posted writes among them (R118, SIEVE_INST_USED.USED). -/
def State.sieveUsed (s : State) (i : Nat) : Nat :=
  Tab.count (fun p e => decide (s.inflightBase ≤ p) && (e.valid || e.retiring) && !(bit e.payload 15) &&
    decide ((s.sieve.holders.get {} p).inst = i)) s.sieve.ents

/-- Inserts an in-flight entry with what intake keeps for it; gives the position. -/
def State.insertEntry (s : State) (e : Ent) (h : Holder) (internal : Bool) : Option Nat × State :=
  match s.freePos internal with
  | none => (none, s)
  | some p =>
    let s := s.modEnt p fun _ => { e with valid := true, retiring := false }
    (some p, { s with sieve := { s.sieve with holders := s.sieve.holders.set {} p h } })

/-- Removes an entry: a position a walk has latched retires until every such walk has ended (R114). -/
def State.removeEntry (s : State) (p : Nat) : State :=
  if s.sieve.walks.any fun w => w.positions.contains p then
    s.modEnt p fun e => { e with valid := false, retiring := true }
  else
    let s := s.modEnt p fun _ => {}
    { s with sieve := { s.sieve with holders := s.sieve.holders.set {} p {} } }

/-- Removes a list of entries. -/
def State.removeEntries (s : State) (ps : List Nat) : State := s.each ps fun s p => s.removeEntry p

/-- Ends the walk of a command: its slot is free and positions it alone held are reused (R114).
(DESIGN CHOICE, log entry 82.) -/
def State.endWalk (s : State) (tag : Nat) : State :=
  let (mine, rest) := s.sieve.walks.partition fun w => w.tag = tag
  let s := { s with sieve := { s.sieve with walks := rest } }
  s.each (mine.flatMap (·.positions)) fun s p => if (s.ent p).retiring then s.removeEntry p else s

/-- Everything that names an in-flight position follows its entry: the tags, the walks, the running Refires and
relocations. -/
def State.renamePos (s : State) (p q : Nat) : State :=
  let moved := fun (x : Nat) => if x = p then q else x
  { s with
    intake := { s.intake with tags := s.intake.tags.mapVals {} fun _ (t : TagRec) => { t with entries := t.entries.map moved } }
    sieve := { s.sieve with walks := s.sieve.walks.map fun (w : Walk) => { w with positions := w.positions.map moved } }
    zone := { s.zone with dieSets := s.zone.dieSets.mapVals {} fun _ (d : DieSet) => { d with
      running := d.running.map fun (r : Refire) => { r with entry := r.entry.map moved }
      relocs := d.relocs.map fun (r : Reloc) => { r with entry := r.entry.map moved } } } }

/-- Retires a position and moves its entry to a free one of the same region (R123, step 4). In the rule region the
retired position is skipped, so the rules from it on move up by one place. -/
def State.retirePos (s : State) (p : Nat) : State :=
  let e := s.ent p
  let h := s.sieve.holders.get {} p
  let before := s.sieve.retired.length
  let s := s.modEnt p fun _ => {}
  let s := { s with sieve := { s.sieve with
    holders := s.sieve.holders.set {} p {}
    retired := if s.sieve.retired.contains p then s.sieve.retired else p :: s.sieve.retired } }
  let s :=
    if !e.valid ∧ !e.retiring then s
    else if s.inflightBase ≤ p then
      match s.freePos (bit e.payload 15) with
      | none => s
      | some q =>
        let s := s.modEnt q fun _ => e
        let s := { s with sieve := { s.sieve with holders := s.sieve.holders.set {} q h } }
        s.renamePos p q
    else
      let above := (s.sieve.ents.filter fun x => decide (p < x.1) && decide (x.1 < s.inflightBase)).map (·.2)
      let kept := s.sieve.ents.filter fun x => !(decide (p < x.1) && decide (x.1 < s.inflightBase))
      let s := { s with sieve := { s.sieve with ents := kept } }
      let place := (e :: above).foldl (fun (acc : State × Nat) x =>
        match firstFrom acc.1.posFree acc.2 (s.sieve.retired.length + 1) with
        | none => acc
        | some q => (acc.1.modEnt q fun _ => x, q + 1)) (s, p + 1)
      place.1
  if before ≤ 64 ∧ 64 < s.sieve.retired.length then s.report 0x1A1 0x14 s.sieve.retired.length 2 else s

/-- A result that disagreed with its shadow copy (R123): a transient false hit is counted, a lasting one retires the
position. A shadow copy SECDED corrects is written back (R122); one it cannot correct stops the position's results
(R124). -/
def State.falseHit (s : State) : FalseHit → State
  | .none_ => s
  | .transient p =>
    let s := ((s.setReg Reg.SIEVE_LAST_FAULT_POS p).setReg Reg.SIEVE_LAST_FAULT_KIND 1).setReg
      Reg.SIEVE_LAST_FAULT_VALID 1
    (s.bump Reg.SIEVE_FH_COUNT_COUNT).reportTransient 0x1A1 0x10 p
  | .lasting p =>
    let s := ((s.setReg Reg.SIEVE_LAST_FAULT_POS p).setReg Reg.SIEVE_LAST_FAULT_KIND 2).setReg
      Reg.SIEVE_LAST_FAULT_VALID 1
    (s.retirePos p).report 0x1A1 0x11 p 1
  | .corrected _ => s
  | .uncorrectable p =>
    { s with sieve := { s.sieve with unverified := if s.sieve.unverified.contains p then s.sieve.unverified else s.sieve.unverified ++ [p] } }

/-- A lookup's verify meets something at a position that holds an entry. -/
def State.lookupHit (s : State) (hit : FalseHit) : State :=
  let at_ := fun (p : Nat) => if (s.ent p).valid then s.falseHit hit else s
  match hit with
  | .none_ => s
  | .transient p => at_ p
  | .lasting p => at_ p
  | .corrected p => at_ p
  | .uncorrectable p => at_ p

/-- A result of a lookup stands at a position whose shadow copy cannot be read, so the lookup waits (R124). -/
def State.unverifiedIn (s : State) (a b : Nat) (scopes : List Nat) (pmin pmax : Nat) : Bool :=
  s.sieve.unverified.any fun p => (s.ent p).hits a b scopes pmin pmax

/-- Whether an insertion is refused by its fields (R108); `access` is a manager's rule request. -/
def State.entryRefused (s : State) (e : Ent) (access : Bool) : Bool :=
  decide (e.hi < e.lo) || decide (3072 ≤ e.scope) ||
    (decide (2048 ≤ e.scope) && decide (e.scope < 3072) &&
      (decide (2048 + 128 ≤ e.scope) || (s.dieSet (e.scope - 2048 + 1)).groups.isEmpty)) ||
    (if access then decide (0x3F < e.prio)
     else !(decide (e.prio ≤ 0x3F) || e.prio = 0x40 || e.prio = 0x48 || e.prio = 0x80))

end Sys2Proof.Machine
end

