-- ==== Sys2Proof/Machine/OpsZone.lean ====
section
/-!
DEFINITION. Zones and rows: layout (R170), budgets and implicit close (R53, R54), placement (R57, R185), the checks of
Table 2.4, changes the controller reports (R56), the Trail buffer, the ladder (R62), program units and parity queued to
the die scheduler (R174, R176, R242).
-/

namespace Sys2Proof.Machine

/-- Blocks of a zone (ZSZE, R39). -/
abbrev zoneBlocks : Nat := 1048576

/-! ### Firing Index arithmetic (R187) -/

/-- Terms of the series of `exp (n / d)` from the `k`-th on, in units of `term`'s scale. (DEDUCED, log entry 25.)
(DEDUCED, log entry 75.) -/
def expTerms (n d : Nat) : Nat → Nat → Nat → Nat
  | 0, _, _ => 0
  | m + 1, k, term => term + expTerms n d m (k + 1) (term * n / (d * (k + 1)))

/-- `ceil (256 * AF(T))` for an activation energy in 1/100 eV and a temperature in half degrees above -40 °C: the
exponent is `10^6 ea / 8617 * (100 / 31315 - 200 / (46630 + 100 t))`. (DEDUCED, log entry 25.) -/
def af256 (ea t : Nat) : Nat :=
  let d := 8617 * 31315 * (46630 + 100 * t)
  let scale := 10 ^ 30
  if 160 ≤ t then
    ceilDiv (256 * expTerms (1000000 * ea * (10000 * t - 1600000)) d 90 0 scale) scale
  else ceilDiv (256 * scale) (expTerms (1000000 * ea * (1600000 - 10000 * t)) d 90 0 scale)

/-! ### Trail buffer -/

/-- Adds a record to the half being filled (R255). (DEDUCED, log entry 63.) -/
def State.trailRec (s : State) (r : TrailRec) : State :=
  { s with trail := { s.trail with half := r :: s.trail.half, clean := false, quiet := false } }

/-! ### Rule changes (R120, R121) -/

/-- The valid rules, in position order. -/
def State.rules (s : State) : List Ent :=
  (s.sieve.ents.filter fun e => decide (e.1 < s.inflightBase) && e.2.valid).map (·.2)

/-- The rule region holding a list of rules in order, retired positions skipped. (DESIGN CHOICE, log entry 82.) -/
def State.setRules (s : State) (rules : List Ent) : State :=
  let base := s.inflightBase
  let s := { s with sieve := { s.sieve with ents := s.sieve.ents.filter fun e => !(decide (e.1 < base)) } }
  (rules.foldl (fun (acc : State × Nat) e =>
    match firstFrom acc.1.posFree acc.2 (acc.1.sieve.retired.length + 1) with
    | none => acc
    | some q => (acc.1.modEnt q fun _ => e, q + 1)) (s, 0)).1

/-- The rules once every queued change is made, and how many the region holds then: a removal that has begun no longer
counts. -/
def State.rulesNext (s : State) : List Ent :=
  let begun : List RuleChange := match s.sieve.shifts with
    | c :: rest => if c.op = .remove then rest else c :: rest
    | [] => []
  begun.foldl (fun l (c : RuleChange) => c.apply l) s.rules
def State.rulesAfter (s : State) : Nat := s.rulesNext.length

/-- Positions of the rule region that are not retired. -/
def State.ruleRoom (s : State) : Nat :=
  s.inflightBase - (s.sieve.retired.filter fun p => decide (p < s.inflightBase)).length

/-- The answer to the manager's rule request: 0, or 1 refused. -/
def State.ruleReply (s : State) (pos code : Nat) : State := s.emit (.reply Port.engine [pos, code])

/-- The change at the head of the queue begins (R120, R121): a removal takes effect with its first move, a replacement is
one write and needs no shift, an insertion takes effect at its end. At most `n` replacements in a row. -/
def State.startShift (s : State) : Nat → State
  | 0 => s
  | n + 1 =>
    match s.sieve.shifts with
    | [] => s
    | c :: rest =>
      match c.op with
      | .insert => s
      | .remove => s.setRules (c.apply s.rules)
      | .replace =>
        let s := (s.setRules (c.apply s.rules)).ruleReply c.pos 0
        { s with sieve := { s.sieve with shifts := rest } }.startShift n

/-- The running shift ends: an insertion takes effect, and the change completes to its requester (R121). -/
def State.endShift (s : State) : State :=
  match s.sieve.shifts with
  | [] => s
  | c :: rest =>
    let s := if c.op = .insert then s.setRules (c.apply s.rules) else s
    let s := { s with sieve := { s.sieve with shifts := rest } }
    (s.ruleReply c.pos 0).startShift (rest.length + 1)

/-- The Sieve takes a change into its queue, and firmware writes its record (R121). -/
def State.queueRule (s : State) (c : RuleChange) : State :=
  let idle := s.sieve.shifts.isEmpty
  let s := ({ s with sieve := { s.sieve with shifts := s.sieve.shifts ++ [c] } }).trailRec (.rule c)
  if idle then s.startShift 1 else s

/-- The changes queued before one of the firmware's own are made in their order. -/
def State.finishShifts (s : State) : State := s.each s.sieve.shifts fun s _ => s.endShift

/-- The rules a test accepts are removed one by one, the last first, each in its turn (R121): gives their number. -/
def State.dropRules (s : State) (p : Ent → Bool) : Nat × State :=
  let s := s.finishShifts
  let gone := ((s.rules.zipIdx.filter fun r => p r.1).map (·.2)).reverse
  (gone.length, s.each gone fun s k => (s.queueRule { op := .remove, pos := k }).finishShifts)

/-! ### Layout (R170) -/

/-- The program unit that holds offset `o` (in blocks) of a row: zone rows keep 16 blocks of each die's last wordline
for the trailer. (DESIGN CHOICE, log entry 83.) -/
def unitAt (g : Geometry) (zoned : Bool) (o : Nat) : Nat :=
  let body := (g.wordlines - 1) * 16 * g.unitBlocks
  if !zoned ∨ o < body then o / g.unitBlocks else (g.wordlines - 1) * 16 + (o - body) / (g.unitBlocks - 16)

/-- Where the data of program unit `u` ends, as an offset in blocks. -/
def unitEnd (g : Geometry) (zoned : Bool) (u : Nat) : Nat :=
  let body := (g.wordlines - 1) * 16 * g.unitBlocks
  if !zoned ∨ u < (g.wordlines - 1) * 16 then (u + 1) * g.unitBlocks
  else body + (u - (g.wordlines - 1) * 16 + 1) * (g.unitBlocks - 16)

/-- Where the data of program unit `u` begins. -/
def unitStart (g : Geometry) (zoned : Bool) (u : Nat) : Nat := if u = 0 then 0 else unitEnd g zoned (u - 1)

/-- ZCAP of a geometry in blocks: the row's data area less 1 MiB (R40). -/
def zcapOf (g : Geometry) : Nat := 16 * g.wordlines * g.unitBlocks - 256

/-- The die of a group at position `u mod 16`. -/
def State.dieOf (s : State) (r : RowRef) (u : Nat) : Nat := ((s.group r.group).dies[u % 16]?).getD 0

/-- The key of a row. (DEDUCED, log entry 73.) -/
def rowKey (r : RowRef) : Nat := r.group * 4096 + r.row
def rowOfKey (k : Nat) : RowRef := { group := k / 4096, row := k % 4096 }

def State.rowRec (s : State) (r : RowRef) : RowRec := s.flash.rows.get {} (rowKey r)
def State.modRow (s : State) (r : RowRef) (f : RowRec → RowRec) : State :=
  { s with flash := { s.flash with rows := s.flash.rows.upd {} (rowKey r) f } }

/-- KIND of a page tag (Table 8.8). -/
abbrev kindHost : Nat := 0
abbrev kindRefire : Nat := 4
abbrev kindReloc : Nat := 5

/-! ### States and budgets -/

def ZState.isOpen : ZState → Bool
  | .zsio => true
  | .zseo => true
  | _ => false

/-- A zone's state and attributes as the Zoned Namespace command set numbers them (PRESUMED, log entry 53). -/
def ZState.code : ZState → Nat
  | .zse => 1
  | .zsio => 2
  | .zseo => 3
  | .zsc => 4
  | .zsro => 13
  | .zsf => 14
  | .zso => 15
def Zone.attributes (x : Zone) : Nat := b2n x.zfc + 2 * b2n x.fzr + 128 * b2n x.zdev

def ZState.isActive : ZState → Bool
  | .zsio => true
  | .zseo => true
  | .zsc => true
  | _ => false

/-- Zones of a die set that satisfy a test, as (namespace, zone, record), in ascending order. -/
def State.zonesOf (s : State) (d : Nat) (p : Zone → Bool) : List (Nat × Nat × Zone) :=
  (s.zone.nss.filter fun n => n.2.exists_ && decide (n.2.dieSet = d)).flatMap fun n =>
    (n.2.zones.filter fun z => p z.2).map fun z => (n.1, z.1, z.2)

def State.openCount (s : State) (d : Nat) : Nat := (s.zonesOf d fun z => z.st.isOpen).length
def State.activeCount (s : State) (d : Nat) : Nat := (s.zonesOf d fun z => z.st.isActive).length

/-- Open zones bound to a row of a group (R57, key 2). -/
def State.openIn (s : State) (d g : Nat) : Nat :=
  (s.zonesOf d fun z => z.st.isOpen && (match z.row with
    | some r => decide (r.group = g)
    | none => false)).length

/-! ### Spares and the ladder (R62, R207) -/

/-- P of a die set: its groups' spare rows over that sum at formation, in percent rounded down. -/
def State.spareLevel (s : State) (d : Nat) : Nat :=
  let x := s.dieSet d
  if x.spareAtForm = 0 then 0
  else (x.groups.map fun g => if (s.group g).withdrawn then 0 else (s.group g).spareRows).sum * 100 / x.spareAtForm

/-- The stage a spare level stands for (Table 2.7). -/
def State.stageFor (s : State) (p : Nat) : Ladder :=
  if p = 0 then .exhausted
  else if p < s.cfgOf Cfg.LADDER_RED then .red
  else if p < s.cfgOf Cfg.LADDER_AMBER then .amber
  else .normal

def Ladder.rank : Ladder → Nat
  | .normal => 0
  | .amber => 1
  | .red => 2
  | .exhausted => 3

/-! ### Placement (R57, R185) -/

/-- A zone row that is free and erased. -/
def Group.rowFree (x : Group) (releasing : List Nat) (r : Nat) : Bool :=
  !(x.bound.contains r) && !(x.gone.contains r) && !(releasing.contains r)

/-- Rows of a group whose release is not finished. -/
def State.releasingIn (s : State) (g : Nat) : List Nat :=
  (s.flash.releasing.filter fun r => r.group = g).map (·.row) ++
    (s.flash.relWaits.filter fun w => w.row.group = g).map (·.row.row)

/-- Free zone rows of a group. -/
def State.freeRows (s : State) (g : Nat) : Nat :=
  let x := s.group g
  x.zoneRows - x.bound.length - (s.releasingIn g).length

/-- Sum of the mean erase counts of the free rows (unlisted rows have none). -/
def State.freeErases (s : State) (g : Nat) : Nat :=
  Tab.sum (fun r n => if (s.group g).rowFree (s.releasingIn g) r then n else 0) (s.group g).erases

/-- Whether a group may be chosen for a new binding (R57): intact, with a spare left and a free row.
(DEDUCED, log entry 80.) -/
def State.groupOk (s : State) (g : Nat) : Bool :=
  let x := s.group g
  x.formed && !x.withdrawn && decide (0 < x.spareRows) && decide (0 < s.freeRows g)

/-- A group below the Amber spare level (R57, key 1). -/
def State.groupAmber (s : State) (g : Nat) : Bool :=
  let x := s.group g
  decide (x.spareRows * 100 < s.cfgOf Cfg.LADDER_AMBER * x.spareAtForm)

/-- Whether group `a` comes before group `b` by the keys of R57. -/
def State.groupBefore (s : State) (d a b : Nat) : Bool :=
  let ka := b2n (s.groupAmber a)
  let kb := b2n (s.groupAmber b)
  if ka ≠ kb then decide (ka < kb)
  else
    let oa := s.openIn d a
    let ob := s.openIn d b
    if oa ≠ ob then decide (oa < ob)
    else
      let ea := s.freeErases a * s.freeRows b
      let eb := s.freeErases b * s.freeRows a
      if ea ≠ eb then decide (ea < eb) else decide (a < b)

/-- The group of a die set that placement chooses, among those a test accepts. -/
def State.chooseGroup (s : State) (d : Nat) (ok : Nat → Bool) : Option Nat :=
  ((s.dieSet d).groups.filter fun g => s.groupOk g && ok g).foldl (fun best g =>
    match best with
    | none => some g
    | some b => if s.groupBefore d g b then some g else some b) none

/-- The free row of a group with the lowest mean erase count, the lower number on equal ones (R185).
(DESIGN CHOICE, log entry 11.) -/
def State.chooseRow (s : State) (g : Nat) : Option Nat :=
  let x := s.group g
  let rel := s.releasingIn g
  let n := x.bound.length + x.gone.length + rel.length + x.erases.length + 1
  match firstFrom (fun r => x.rowFree rel r && x.erases.get 0 r = 0) 0 n with
  | some r =>
    if r < x.zoneRows + x.gone.length then some r
    else none
  | none =>
    (x.erases.filter fun e => x.rowFree rel e.1).foldl (fun best e =>
      match best with
      | none => some e
      | some b => if e.2 < b.2 then some e else some b) none |>.map (·.1)

/-- The group and row placement gives in a die set, among the groups a test accepts. -/
def State.placeAmong (s : State) (d : Nat) (ok : Nat → Bool) : Option RowRef :=
  match s.chooseGroup d ok with
  | none => none
  | some g => (s.chooseRow g).map fun r => { group := g, row := r }
def State.place (s : State) (d : Nat) : Option RowRef := s.placeAmong d fun _ => true

/-- Binds a row to a zone, or to a conventional namespace. -/
def State.bindRow (s : State) (r : RowRef) (nsid : Nat) (zone : Option Nat) : State :=
  let s := s.modGroup r.group fun x => { x with bound := x.bound ++ [r.row] }
  let s := s.modRow r fun _ => { nsid := nsid, zone := zone, born := s.intake.seqNext }
  match zone with
  | some z => (s.modZone nsid z fun x => { x with row := some r }).trailRec
      (.bind nsid z r.group r.row (s.group r.group).fi)
  | none => s.modNs nsid fun n => { n with rows := n.rows ++ [r] }

/-! ### Changes the controller makes by itself (R56) -/

/-- A zone added to a changed zone list; more than 511 give the overflow value. -/
def ChangedList.add (c : ChangedList) (z : Nat) : ChangedList :=
  if c.zones.contains z ∨ c.overflow then c
  else if 511 ≤ c.zones.length then { c with overflow := true }
  else { c with zones := c.zones ++ [z] }

/-- Lists a change for every attached instance, and raises the Notice where it is enabled. -/
def State.zoneChanged (s : State) (nsid z : Nat) : State :=
  s.each (s.ns nsid).attached fun s i =>
    let key := i * 2048 + nsid
    let s := { s with zone := { s.zone with changed := s.zone.changed.upd {} key fun c => c.add z } }
    if bit (s.inst i).asyncConfig 27 then s.event i Ev.notice Ev.zoneDescriptorChanged 0xBF else s

/-! ### Program units and parity to the die scheduler -/

/-- Blocks of an SLC region are released (R172): what has been programmed goes to Dirty and, once that is recorded, to its
erase (R257); what has not is free again. -/
def State.releaseBlocks (s : State) (die : Nat) (bs : List Nat) : State :=
  if bs.isEmpty ∨ (s.die die).retired then s
  else if bs.zipIdx.all fun b => (s.blockOf die b.2 b.1).st = .erased then
    s.setBlocks die bs.zipIdx fun b => { b with reserved := false }
  else (s.setBlocks die bs.zipIdx fun b => if b.st = .retired then b else { b with st := .dirty, reserved := false }).trailRec
    (.dirty die bs)

/-- Free pool blocks of a die (R175). -/
def State.poolTotal (s : State) (die : Nat) : Nat := ((List.range (s.die die).geo.planes).map (s.freeIn rolePool die)).sum

/-- A die that can hold a quarter of a row's parity: outside the row's group, on another channel than those chosen, with a
free block on every plane. (DEDUCED, log entry 72.) -/
def State.placeOk (s : State) (g : Nat) (chosen : List Nat) (die : Nat) : Bool :=
  let own := (s.group g).geo
  let geo := (s.die die).geo
  s.dieServes die && !((s.group g).dies.contains die) && !(chosen.any fun a => decide (channelOf a = channelOf die)) &&
    decide (slcBlocks own * own.planes ≤ slcBlocks geo * geo.planes) &&
    (List.range geo.planes).all fun p => decide (0 < s.freeIn rolePool die p)

/-- Chooses up to `n` pool dies with the most free pool blocks (R175). (DEDUCED, log entry 72.) -/
def State.choosePool (s : State) (g : Nat) : Nat → List Nat → List Nat
  | 0, acc => acc
  | n + 1, acc =>
    match ((s.flash.dies.map (·.1)).filter (s.placeOk g acc)).foldl (fun b d => match b with
      | none => some d
      | some x => if s.poolTotal x < s.poolTotal d then some d else some x) none with
    | none => acc
    | some d => s.choosePool g n (acc ++ [d])

/-- Reserves the pool blocks of a row's parity at its first program unit (R176). None free: unchanged, and the row's
programs wait. (DEDUCED, log entry 72.) -/
def State.reservePool (s : State) (r : RowRef) : State :=
  let x := s.rowRec r
  if !x.pool.isEmpty ∨ x.kept then s
  else
    let ds := s.choosePool r.group 4 []
    if ds.length < 4 then s
    else
      let t := ds.foldl (fun (a : List (Nat × List Nat) × State) d => match a.2.takeBlocks rolePool d with
        | some t => (a.1 ++ [(d, t.1)], t.2)
        | none => a) ([], s)
      t.2.modRow r fun x => { x with pool := t.1 }

/-- Whether a row's parity has its place, so its programs may be issued. -/
def RowRec.covered (x : RowRec) : Bool := !x.pool.isEmpty || x.kept

/-- The parity unit of a wordline is programmed. -/
def RowRec.hasParity (x : RowRec) (w : Nat) : Bool := x.parity.any fun p => decide (p.1 = w)

/-- How far a row's data is complete from its start (R242): the first write whose pieces are not all in Far Hamper
ends it, after its whole pieces. -/
def State.readyTo (s : State) (r : RowRef) (end_ : Nat) : Nat :=
  (s.trail.expos.filter fun e => decide (e.row = some r) && !e.dataIn && !e.failed).foldl (fun b e =>
    match e.left.head? with
    | some x => min b (x.off + e.pieces * 64)
    | none => b) end_

/-- A namespace's MEKs are loaded: sealed data needs them at every program (R270, R281). (DEDUCED, log entry 89.) -/
def State.mekReady (s : State) (nsid : Nat) : Bool :=
  (s.glaze.ranges.filter fun r => decide (r.1 / 128 = nsid) && r.2.exists_).all fun r =>
    (s.glaze.slots.get {} r.2.slot).st = SlotState.ready

/-- Programs of a namespace wait for its keys. (DEDUCED, log entry 89.) -/
def State.keyWait (s : State) (nsid : Nat) : Bool := (s.ns nsid).mode = .sealed_ && !(s.mekReady nsid)

/-! ### Units and parity (R174, R241) -/

/-- How many program units a row has in all, as far as it has been issued or closed. -/
def State.unitsIn (s : State) (r : RowRef) : Nat :=
  let x := s.rowRec r
  match x.endAt with
  | some 0 => 0
  | some e => unitAt (s.group r.group).geo x.zone.isSome (e - 1) + 1
  | none => x.issued

/-- Blocks of a row that lie in the units of a wordline. -/
def State.inWordline (s : State) (r : RowRef) (w off : Nat) : Bool :=
  unitAt (s.group r.group).geo (s.rowRec r).zone.isSome off / 16 = w

/-! ### Kept parity rows (R181) -/

/-- The kept parity row that a row is, or is to become. -/
def State.keptAt (s : State) (r : RowRef) : Option KeptRow :=
  s.zone.dieSets.findSome? fun (d : Nat × DieSet) => d.2.keptRows.find? fun k => decide (k.row = r) || decide (k.next = some r)

/-- A row is a kept parity row. -/
def State.isKept (s : State) (r : RowRef) : Bool := (s.keptAt r).any fun k => decide (k.row = r)

/-- The copy that is being made into a kept parity row. -/
def KeptRow.pending (k : KeptRow) : Option KeptSlot := k.slots.find? fun x => !x.done

/-- The program units of a copy: a position takes one unit for every wordline whose parity there is. -/
def State.keptUnits (s : State) (k : KeptSlot) : List Nat :=
  ((List.range (s.group k.of.group).geo.wordlines).filter (s.rowRec k.of).hasParity).map fun w => 16 * w + k.slot

/-- What lies at an offset of a kept parity row: the parity unit of the position's row at that wordline. -/
def State.keptData (s : State) (r : RowRef) (off : Nat) : Nat :=
  let g := (s.group r.group).geo
  let u := unitAt g false off
  match ((s.keptAt r).bind fun k => k.slots.find? fun x => decide (x.slot = u % 16)).bind fun x =>
      (s.rowRec x.of).parity.find? fun (p : Nat × List Nat) => decide (p.1 = u / 16) with
  | some p => p.2.getD (off - unitStart g false u) 0
  | none => 0

/-- The LBA whose copy a running relocation puts at an offset of a target row. -/
def DieSet.copiedTo (x : DieSet) (r : RowRef) (off : Nat) : Option Nat :=
  ((x.relocs.filter fun q => decide (q.target = r)).flatMap (·.units)).find? (fun u => decide (u.2.2 = off)) |>.map (·.1)

/-- What lies at an offset of a row, as a number: a write in Far Hamper, what the map has there, or what a running copy
brings; 0 for padding and for a block that is lost. -/
def State.rowData (s : State) (r : RowRef) (off : Nat) : Nat :=
  let x := s.rowRec r
  let held := (s.trail.expos.filter fun e => decide (e.row = some r) && !e.failed).findSome? fun e =>
    (e.left ++ e.ready ++ e.parked).find? fun b => decide (b.off = off)
  let mapped := match x.zone with
    | some z => s.blkAt x.nsid (z * zoneBlocks + off)
    | none =>
      match (s.ns x.nsid).map.find? fun (b : Nat × Blk) => decide (b.2.row = some r) && decide (b.2.off = off) with
      | some b => b.2
      | none =>
        match s.zone.dieSets.findSome? fun (d : Nat × DieSet) => d.2.copiedTo r off with
        | some lba => s.blkAt x.nsid lba
        | none => {}
  if x.nsid = 0 then s.keptData r off
  else match held with
    | some b => (s.hunit b.unit).data.getD 0
    | none => match mapped.content with
      | .data v => v
      | _ => 0

/-- The parity unit of a wordline (R174): the XOR of its sixteen program units, block by block. The sixteen copies of a
trailer give nothing. -/
def State.parityUnit (s : State) (r : RowRef) (w : Nat) : List Nat :=
  let g := (s.group r.group).geo
  let zoned := (s.rowRec r).zone.isSome
  (List.range g.unitBlocks).map fun j => (List.range 16).foldl (fun v k =>
    let o := unitStart g zoned (16 * w + k) + j
    if o < unitEnd g zoned (16 * w + k) then v ^^^ s.rowData r o else v) 0

/-- A write whose units in a wordline have become covered. -/
def State.exposCover (s : State) (r : RowRef) (w : Nat) (e : Expo) : Expo :=
  if e.row ≠ some r then e
  else
    let now := (e.left ++ e.parked).filter fun b => s.inWordline r w b.off
    { e with
      left := e.left.filter fun b => !(s.inWordline r w b.off)
      parked := e.parked.filter fun b => !(s.inWordline r w b.off)
      ready := e.ready ++ now }

/-- The parity of a wordline is programmed: its units leave the exposure and wait for their map update (R88, R241). -/
def State.wordlineCovered (s : State) (r : RowRef) (w : Nat) : State :=
  let p := s.parityUnit r w
  let s := s.modRow r fun x => { x with parity := if x.hasParity w then x.parity else x.parity ++ [(w, p)] }
  { s with trail := { s.trail with expos := s.trail.expos.map (s.exposCover r w) } }

/-- The quarter of a row's wordlines whose parity lies on one pool die, and the first of them. -/
def quarterOf (g : Geometry) (w : Nat) : Nat := w * 4 / max 1 g.wordlines
def quarterStart (g : Geometry) (q : Nat) : Nat := ceilDiv (q * g.wordlines) 4

/-- The pool die and the blocks for the parity of a wordline. -/
def State.parityPlace (s : State) (r : RowRef) (w : Nat) : Option (Nat × List Nat) :=
  (s.rowRec r).pool[quarterOf (s.group r.group).geo w]?.filter fun p => !p.2.isEmpty

/-- Queues the parity of a wordline once all its units are programmed (R174): four SLC wordlines of its pool die. -/
def State.parityCheck (s : State) (r : RowRef) (w : Nat) : State :=
  let x := s.rowRec r
  let n := s.unitsIn r
  let g := (s.group r.group).geo
  let units := (List.range' (16 * w) 16).filter fun u => decide (u < n)
  if x.parityQueued.contains w ∨ units.isEmpty ∨ !(decide (16 * w + 16 ≤ n) || x.endAt.isSome) ∨
      !(units.all x.done.contains) then s
  else match s.parityPlace r w with
    | none => s
    | some p =>
      let s := s.modRow r fun x => { x with parityQueued := x.parityQueued ++ [w] }
      s.enqueue p.1 { kind := .parityProgram, wordline := w, owner := .row r w, phys := p.2
                      slcAt := 4 * (w - quarterStart g (quarterOf g w)) }

/-- The row takes no more data: its open blocks are Full (R171). -/
def State.fillBlocks (s : State) (die row : Nat) : State :=
  if (s.die die).retired then s else s.rowBlocks die row fun b => if b.st = .open_ then { b with st := .full } else b

/-! ### Reads of a whole row (R178, R194, R200) -/

/-- The dies that a row's reads go to: all of a zone row, which has a trailer on each, those with units of a conventional
row, that of the copy being made into a kept parity row. -/
def State.scanDies (s : State) (r : RowRef) : List Nat :=
  let ds := (s.group r.group).dies
  let mine := match (if s.isKept r then (s.keptAt r).bind fun k => k.pending else none) with
    | some p => [s.dieOf r p.slot]
    | none => if (s.rowRec r).zone.isSome ∨ (s.rowRec r).nsid = 0 then ds else ds.take (s.unitsIn r)
  mine.filter fun d => !(s.die d).retired

/-- Queues the reads of a row, in row 5 of Table 5.11. (DEDUCED, log entry 109.) -/
def State.scanRow (s : State) (r : RowRef) : State :=
  s.each (s.scanDies r) fun s d => s.enqueue d { kind := .internalRead, block := r.row, owner := .scan r, internal := true }

/-- Reads of the row still wait, or run. -/
def State.scanning (s : State) (r : RowRef) : Bool :=
  s.flash.dies.any fun (d : Nat × Die) => (d.2.shortQ ++ d.2.short.toList).any fun o => decide (o.owner = .scan r)

/-- A row is fully programmed: its data, its trailer where it has one (R178). -/
def State.programmed (s : State) (r : RowRef) : Bool :=
  let x := s.rowRec r
  x.endAt.isSome && (List.range (s.unitsIn r)).all x.done.contains &&
    ((x.zone.isNone && decide (x.nsid ≠ 0)) || decide (16 ≤ x.trailer.length))

/-- A copy of parity is complete on its die (R181). -/
def State.copyDone (s : State) (r : RowRef) : Bool :=
  s.isKept r && ((s.keptAt r).bind fun k => k.pending).any fun p => (s.keptUnits p).all (s.rowRec r).done.contains

/-- A row is programmed and covered: it is Full, and its verify begins with its reads (R178). -/
def State.verifyCheck (s : State) (r : RowRef) : State :=
  let x := s.rowRec r
  if !(s.programmed r || s.copyDone r) ∨ x.verifying ∨ x.verified ∨ x.orphan then s
  else
    let s := s.modRow r fun x => { x with verifying := true }
    let s := { s with flash := { s.flash with verifyQ := s.flash.verifyQ ++ [r] } }
    (s.each (s.group r.group).dies fun s d => s.fillBlocks d r.row).scanRow r

/-- A program unit of a row has passed (R155), or its data is in the wordline's parity instead (Table 6.6): data units
below 16 × W, trailer copies from there on. -/
def State.unitDone (s : State) (r : RowRef) (u : Nat) : State :=
  let g := (s.group r.group).geo
  if 16 * g.wordlines ≤ u then
    let s := s.modRow r fun x => { x with
      trailer := if x.trailer.contains (u - 16 * g.wordlines) then x.trailer else x.trailer ++ [u - 16 * g.wordlines] }
    let s := s.fillBlocks (s.dieOf r u) r.row
    let n := s.unitsIn r
    let s := if n = 0 then s else s.parityCheck r ((n - 1) / 16)
    s.verifyCheck r
  else
    let s := s.modRow r fun x => { x with done := if x.done.contains u then x.done else x.done ++ [u] }
    let s := if (s.die (s.dieOf r u)).retired then s
      else s.rowBlocks (s.dieOf r u) r.row fun b => if g.wordlines ≤ b.next then { b with st := .full } else b
    (s.parityCheck r (u / 16)).verifyCheck r

/-- A program unit goes to its die's queue; the unit of a die that has failed is folded into its wordline's parity
(Table 6.6). -/
def State.queueUnit (s : State) (r : RowRef) (u : Nat) (internal : Bool) : State :=
  let g := (s.group r.group).geo
  if (s.die (s.dieOf r u)).retired then s.unitDone r u
  else s.enqueue (s.dieOf r u) { kind := .qlcUnit, block := r.row, wordline := min (u / 16) (g.wordlines - 1)
                                 owner := .row r u, internal := internal }

/-- The trailer's copies go to the sixteen dies (R225). -/
def State.queueTrailers (s : State) (r : RowRef) (internal : Bool) : State :=
  let g := (s.group r.group).geo
  let s := s.modRow r fun y => { y with trailerQueued := true }
  s.each (List.range 16) fun s k => s.queueUnit r (16 * g.wordlines + k) internal

/-- Issues the row's next program units up to offset `to_`, in wordline order, at most `n` of them (R155, R242).
(DEDUCED, log entry 87.)
(DEDUCED, log entry 89.) -/
def State.issueTo (s : State) (r : RowRef) (to_ : Nat) (internal : Bool) : Nat → State
  | 0 => s
  | n + 1 =>
    let x := s.rowRec r
    let g := (s.group r.group).geo
    let u := x.issued
    if to_ < unitEnd g x.zone.isSome u ∨ 16 * g.wordlines ≤ u then s
    else
      let s := if u = 0 then s.reservePool r else s
      if !(s.rowRec r).covered ∨ s.keyWait x.nsid then s
      else
        let s := if u = 0 then s.modRow r fun y => { y with stamp := (s.group r.group).fi } else s
        let s := match x.zone with
          | some z => if u = 0 ∧ !internal ∧ !x.orphan then s.modZone x.nsid z fun y => { y with fiStamp := (s.group r.group).fi }
            else s
          | none => s
        ((s.modRow r fun y => { y with issued := u + 1 }).queueUnit r u internal).issueTo r to_ internal n

/-- Admitted programs of a row have not finished (R45): data in exposure, or a unit of the row at the NAND. -/
def State.programsBefore (s : State) (r : RowRef) : Bool :=
  (s.trail.expos.any fun e => decide (e.row = some r) && !e.left.isEmpty && !e.failed) ||
    (s.flash.dies.any fun d => match d.2.long with
      | some o => match o.owner with
        | .row q _ => decide (q = r)
        | _ => false
      | none => false)

/-- Withdraws what the dies still hold in their queues for a row. -/
def State.withdrawRow (s : State) (r : RowRef) : State :=
  let mine := fun (o : FlashOp) => match o.owner with
    | .row q _ => decide (q = r)
    | .scan q => decide (q = r)
    | _ => false
  { s with flash := { s.flash with dies := s.flash.dies.mapVals {} fun _ (d : Die) =>
    { d with shortQ := d.shortQ.filter fun o => !(mine o), longQ := d.longQ.filter fun o => !(mine o) } } }

/-- Issues every unit of a row that is complete up to `end_`. (DEDUCED, log entry 87.) -/
def State.issueRow (s : State) (r : RowRef) (end_ : Nat) : State :=
  let g := (s.group r.group).geo
  let x := s.rowRec r
  let to_ := s.readyTo r end_
  s.issueTo r to_ false (unitAt g x.zone.isSome to_ + 1 - x.issued)

/-- The data of a block as the latest write admitted to it leaves it: from Far Hamper or from the map; a hole or a lost
block counts as zeros. -/
def State.latestData (s : State) (nsid lba : Nat) : Nat :=
  match (s.trail.expos.filter fun e => !e.failed && decide (e.nsid = nsid) &&
      ((e.left ++ e.ready ++ e.parked).any fun x => decide (x.lba = lba))).getLast? with
  | some e => match (e.left ++ e.ready ++ e.parked).find? fun x => decide (x.lba = lba) with
    | some x => (s.hunit x.unit).data.getD 0
    | none => 0
  | none => match (s.blkAt nsid lba).content with
    | .data v => v
    | _ => 0

/-- Blocks of a chunk digest: 64 MiB (R223). -/
abbrev chunkBlocks : Nat := 16384

/-- SHA-256 over a run of blocks of a zone (R221, R223). -/
def State.digestOf (s : State) (nsid z from_ count : Nat) : Nat :=
  Config.sha256 ((List.range count).map fun k => s.latestData nsid (z * zoneBlocks + from_ + k))

/-- A zone's blocks from an offset on, as the hash lane takes them (R221). -/
def State.hashInput (s : State) (nsid z from_ to_ : Nat) : List Nat :=
  (List.range (to_ - from_)).map fun k => s.latestData nsid (z * zoneBlocks + from_ + k)

/-- The state a zone's lane has at an offset: the saved state with the blocks after it folded in (R224). -/
def State.hashAt (s : State) (nsid z to_ : Nat) : Nat :=
  match (s.zoneAt nsid z).hash with
  | some h => if h.1 ≤ to_ then Config.shaFold h.2 (s.hashInput nsid z h.1 to_) else Config.shaFold Config.shaInit (s.hashInput nsid z 0 to_)
  | none => Config.shaFold Config.shaInit (s.hashInput nsid z 0 to_)

/-- The zone digest over `n` blocks (R221). -/
def State.zoneDigest (s : State) (nsid z n : Nat) : Nat := Config.shaEnd (s.hashAt nsid z n) n

/-- Where a zone's current command begins: the first whose data is not all in, else the write pointer (R222, R224). -/
def State.hashPoint (s : State) (nsid z : Nat) : Nat :=
  (s.trail.expos.filter fun e => decide (e.nsid = nsid) && decide (e.slba / zoneBlocks = z) && !e.dataIn && !e.failed).foldl
    (fun b e => min b (e.slba % zoneBlocks)) (s.zoneAt nsid z).wp

/-- The hash state of each active zone, from the start of its current command (R224). -/
def State.hashStates (s : State) : List (Nat × Nat × Nat × Nat) :=
  s.zone.nss.flatMap fun n => (n.2.zones.filter fun z => z.2.st.isActive).map fun z =>
    (n.1, z.1, s.hashPoint n.1 z.1, s.hashAt n.1 z.1 (s.hashPoint n.1 z.1))

/-- The lanes take saved hash states (R224). -/
def State.restoreHashes (s : State) (l : List (Nat × Nat × Nat × Nat)) : State :=
  s.each l fun s h => s.modZone h.1 h.2.1 fun z => { z with hash := some h.2.2 }

/-- The chunk digests over `n` blocks. -/
def State.chunkDigestsOf (s : State) (nsid z n : Nat) : List Nat :=
  (List.range (ceilDiv n chunkBlocks)).map fun c => s.digestOf nsid z (c * chunkBlocks) (min chunkBlocks (n - c * chunkBlocks))

/-- The trailer of a zone whose data is complete (R221, R223, R225). -/
def State.trailerOf (s : State) (nsid z : Nat) (r : RowRef) : Trailer :=
  let x := s.zoneAt nsid z
  { dataEnd := x.wp, digest := s.zoneDigest nsid z x.wp, holes := x.holes, chunks := x.chunks
    chunkDigests := if x.chunks then s.chunkDigestsOf nsid z x.wp else []
    seqFirst := (s.rowRec r).seqFirst, seqLast := (s.rowRec r).seqLast }

/-- FLAGS of a trailer (Table 7.5). -/
def Trailer.flags (t : Trailer) : Nat := b2n t.chunks + 2 * b2n (decide (1024 < t.holes.length)) + 4 * b2n t.mismatch

/-- Program units that hold the first `e` blocks of a row. -/
def unitsFor (g : Geometry) (zoned : Bool) (e : Nat) : Nat := if e = 0 then 0 else unitAt g zoned (e - 1) + 1

/-- At a finish: the current program unit is padded to its end, and the trailer is programmed on each die once the
data is complete and issued (R44). A row whose zone has been reset gets no trailer. -/
def State.closeRow (s : State) (r : RowRef) : State :=
  let x := s.rowRec r
  let g := (s.group r.group).geo
  match x.endAt with
  | none => s
  | some e =>
    if s.readyTo r e < e ∨ x.trailerQueued ∨ x.verified then s
    else
      let n := unitsFor g x.zone.isSome e
      let s := s.issueTo r (if n = 0 then 0 else unitEnd g x.zone.isSome (n - 1)) false n
      let s := if (s.rowRec r).covered then s else s.reservePool r
      if x.zone.isNone ∨ x.orphan ∨ (s.rowRec r).issued < n ∨ !(s.rowRec r).covered then s
      else
        let s := match x.zone with
          | some z => s.modZone x.nsid z fun y => { y with trailer := some (s.trailerOf x.nsid z r) }
          | none => s
        s.queueTrailers r false

/-- After a change of what a row holds: issues its complete units, and closes it when it has ended. -/
def State.driveRow (s : State) (r : RowRef) (end_ : Nat) : State := (s.issueRow r end_).closeRow r

/-! ### Transitions -/

/-- The hash lane with the fewest active zones, the lower number on equal counts (R222).
(DESIGN CHOICE, log entry 11.) -/
def State.chooseLane (s : State) : Nat :=
  let used := s.zone.nss.flatMap fun n => (n.2.zones.filter fun z => z.2.st.isActive).map (·.2.lane)
  (List.range 8).foldl (fun b l => if (used.filter (· = l)).length < (used.filter (· = b)).length then l else b) 0

/-- Binds a zone that leaves ZSE (R57): fields in force from the next transition from ZSE on are taken first (R8). -/
def State.leaveEmpty (s : State) (nsid z : Nat) : State :=
  match (s.zoneAt nsid z).row with
  | some _ => s
  | none => match s.place (s.ns nsid).dieSet with
    | some r =>
      let s := (s.takeCfg .open_ fun _ => true).bindRow r nsid (some z)
      let lane := s.chooseLane
      s.modZone nsid z fun x => { x with age := 0, lane := lane, chunks := decide (s.cfgAt Cfg.FIX_CHUNKS (s.ns nsid).dieSet = 1) }
    | none => s

/-- Transition to ZSF (R44): the row ends at the write pointer; `zfc` for a controller's finish. A Finish of an Empty
zone binds it first (R57); the active budget does not hold it back (DESIGN CHOICE, log entry 101). -/
def State.finishZone (s : State) (nsid z : Nat) (zfc : Bool) : State :=
  let x := s.zoneAt nsid z
  let s := s.leaveEmpty nsid z
  let s := s.modZone nsid z fun x =>
    { x with
      st := .zsf
      zfc := x.zfc || zfc }
  let s := s.trailRec (.zone nsid z)
  match (s.zoneAt nsid z).row with
  | some r => (s.modRow r fun y => { y with endAt := some x.wp }).driveRow r x.wp
  | none => s

/-- A finish by the controller, reported to the attached instances (R52, R56). -/
def State.controllerFinish (s : State) (nsid z : Nat) : State := (s.finishZone nsid z true).zoneChanged nsid z

/-- Releases a row once earlier reads have gone (R131): it waits in the list for ZONE_ROW_RELEASE. -/
def State.releaseRow (s : State) (r : RowRef) (nsid lo hi seq : Nat) : State :=
  let s := s.modGroup r.group fun x => { x with bound := x.bound.erase r.row }
  let s := s.modRow r fun x => { x with orphan := true }
  { s with flash := { s.flash with
    relWaits := s.flash.relWaits ++ [{ row := r, nsid := nsid, lo := lo, hi := hi, seq := seq }]
    verifyQ := s.flash.verifyQ.filter (· ≠ r) } }

/-- A row's parity leaves its kept parity row; one that holds nothing more is released (R181). -/
def State.dropKept (s : State) (r : RowRef) : State :=
  s.each (s.zone.dieSets.flatMap fun (d : Nat × DieSet) =>
      (d.2.keptRows.filter fun k => k.slots.any fun x => decide (x.of = r)).map fun k => (d.1, k)) fun s x =>
    let rest := x.2.slots.filter fun y => decide (y.of ≠ r)
    if rest.isEmpty then
      (((s.modDieSet x.1 fun y => { y with keptRows := y.keptRows.filter fun k => k.row ≠ x.2.row }).withdrawRow x.2.row).releaseRow
        x.2.row 0 0 0 0)
    else
      let s := s.modDieSet x.1 fun y => { y with keptRows := y.keptRows.map fun k => if k.row = x.2.row then { k with slots := rest } else k }
      -- a copy that was waiting for its verify has gone
      if (rest.find? fun y => !y.done).isSome then s
      else ({ s with flash := { s.flash with verifyQ := s.flash.verifyQ.filter (· ≠ x.2.row) } } : State).modRow x.2.row
        fun y => { y with verifying := false }

/-- Frees the pool blocks of a row's parity (R180). -/
def State.releasePool (s : State) (r : RowRef) : State :=
  (s.each (s.rowRec r).pool fun s p => s.releaseBlocks p.1 p.2).modRow r fun x => { x with pool := [] }

/-- Frees what holds a row's parity: its pool blocks, its place in a kept parity row (R180, R181, R45). -/
def State.releaseParity (s : State) (r : RowRef) : State :=
  ((s.releasePool r).dropKept r).modRow r fun x => { x with kept := false }

/-- A row whose zone is reset gives its parity up at once, or at its release when admitted programs still need it
(R45). -/
def State.leaveParity (s : State) (r : RowRef) : State := if s.programsBefore r then s else s.releaseParity r

/-- Ends a row whose zone is reset at the blocks written, so that admitted writes are still programmed (R45). -/
def State.endOrphan (s : State) (r : RowRef) (wp : Nat) : State :=
  if s.programsBefore r ∧ (s.rowRec r).endAt.isNone then (s.modRow r fun y => { y with endAt := some wp }).driveRow r wp else s

/-- The transition to ZSRO (R43, R63). -/
def State.readOnlyZone (s : State) (nsid z : Nat) : State :=
  ((s.modZone nsid z fun x => { x with st := .zsro }).trailRec (.zone nsid z)).zoneChanged nsid z

/-- Declares a die set Exhausted (R63, R66): open and closed zones are finished with ZFC, then every zone but a ZSO
one goes to ZSRO, the empty ones with it. -/
def State.declareExhausted (s : State) (d : Nat) : State :=
  let s := s.modDieSet d fun x => { x with stage := .exhausted }
  let s := s.each (s.zonesOf d fun z => z.st.isActive) fun s z => s.controllerFinish z.1 z.2.1
  (s.zone.nss.filter fun n => n.2.exists_ && n.2.zoned && decide (n.2.dieSet = d)).foldl (fun s n =>
    (List.range (n.2.size / zoneBlocks)).foldl (fun s z =>
      let st := (s.zoneAt n.1 z).st
      if st = .zso ∨ st = .zsro then s else s.readOnlyZone n.1 z) s) s

/-- Ends a deterministic window by the controller's own decision, with the event of R161. -/
def State.endWindow (s : State) (d event : Nat) : State :=
  let x := s.dieSet d
  if !x.plm.deterministic then s
  else
    let s := s.modDieSet d fun x => { x with plm := { x.plm with
      deterministic := false, ndRounds := 0, log := x.plm.log ++ [event] } }
    let s := s.each (x.groups.flatMap fun g => (s.group g).dies) fun s k => s.modDie k fun y => { y with forced := false }
    if x.plm.events ≠ 0 then s.event 0 Ev.notice Ev.plmAggregateChanged 0x0B else s

/-- Recomputes a die set's stage; it only ever moves down the ladder (R62, R63), and a move ends a window (R161). -/
def State.ladder (s : State) (d : Nat) : State :=
  let old := (s.dieSet d).stage
  let new := s.stageFor (s.spareLevel d)
  if new.rank ≤ old.rank then s
  else
    let s := (s.modDieSet d fun x => { x with stage := new }).endWindow d 3
    if new = .exhausted then s.declareExhausted d else s

/-! ### Table 2.4 -/

/-- The die set is Exhausted, or its zones count as ZSRO (R66). -/
def State.exhausted (s : State) (d : Nat) : Bool := (s.dieSet d).stage = .exhausted

/-- A write or append to the zone is in flight (R54). -/
def State.zoneBusy (s : State) (nsid z : Nat) : Bool :=
  s.trail.expos.any fun e => decide (e.nsid = nsid) && decide (e.slba / zoneBlocks = z) && !e.posted && !e.failed

/-- The ZSIO zone an implicit close takes (R54): the least recently written without a write in flight. -/
def State.closable (s : State) (d : Nat) : Option (Nat × Nat) :=
  ((s.zonesOf d fun z => z.st = .zsio).filter fun z => !(s.zoneBusy z.1 z.2.1)).foldl (fun b z =>
    match b with
    | none => some z
    | some y => if z.2.2.lastSeq < y.2.2.lastSeq then some z else some y) none |>.map fun z => (z.1, z.2.1)

/-- Check 6: leaving ZSE. -/
def State.check6 (s : State) (d : Nat) : Bool :=
  decide ((s.dieSet d).stage.rank < 2) && decide (s.activeCount d < (s.dieSet d).activeBudget) && (s.place d).isSome

/-- Check 7: opening. -/
def State.check7 (s : State) (d : Nat) : Bool :=
  decide (s.openCount d < (s.dieSet d).openBudget) || (s.closable d).isSome

/-- Makes room in the open budget by an implicit close (R54). -/
def State.implicitClose (s : State) (d : Nat) : State :=
  if s.openCount d < (s.dieSet d).openBudget then s
  else match s.closable d with
    | some (n, z) => (s.modZone n z fun x => { x with st := .zsc }).trailRec (.zone n z)
    | none => s

/-- Checks 1 to 7 of Table 2.4 in order (R42): the status of the first that fails. -/
def State.zoneWriteCheck (s : State) (c : HostCmd) : Option Nat :=
  let n := s.ns c.nsid
  let app := c.opc = .append
  let zi := c.slba / zoneBlocks
  let z := s.zoneAt c.nsid zi
  let start := if app then z.wp else c.slba % zoneBlocks
  if n.size < c.slba + c.nlb then some Status.lbaOutOfRange
  else if !app ∧ (c.slba + c.nlb - 1) / zoneBlocks ≠ zi then some Status.zoneBoundary
  else if app ∧ (c.slba % zoneBlocks ≠ 0 ∨ 256 < c.nlb) then some Status.invalidField
  else if z.st = .zso then some Status.zoneOffline
  else if z.st = .zsro ∨ s.exhausted n.dieSet then some Status.zoneReadOnly
  else if z.st = .zsf then some Status.zoneFull
  else if !app ∧ start ≠ z.wp then some Status.zoneInvalidWrite
  else if n.zcap < start + c.nlb then some Status.zoneBoundary
  else if z.st = .zse ∧ !(s.check6 n.dieSet) then some Status.tooManyActive
  else if (z.st = .zse ∨ z.st = .zsc) ∧ !(s.check7 n.dieSet) then some Status.tooManyOpen
  else none

end Sys2Proof.Machine
end

