-- ==== Sys2Proof/Machine/OpsFixity.lean ====
section
/-!
DEFINITION. Fixity jobs (R228 to R231): the command's fields, starting a job, its result records and its end.
-/

namespace Sys2Proof.Machine

/-- The decoder that takes a channel's codewords: its own, or that of the next channel of the same Bay whose decoder has passed
its self-test (Table 7.10). -/
def State.decoderOf (s : State) (channel : Nat) : Nat :=
  (((List.range 8).map fun k => channel / 8 * 8 + (channel + k) % 8).find? fun c => !(s.fixity.decodersOut.contains c)).getD channel

/-! The arguments of Fixity Verify (Table 7.6), in order: NZ, WAIT, REPORT, CHUNKS, CANCEL, JOBID, the reserved bits of
CDW12. -/

def fixZones (a : List Nat) : Nat := a.getD 0 0 + 1
def fixWait (a : List Nat) : Bool := a.getD 1 0 = 1
def fixCancel (a : List Nat) : Bool := a.getD 4 0 = 1
def fixJobId (a : List Nat) : Nat := a.getD 5 0

def State.job (s : State) (j : Nat) : FixJob := s.fixity.jobs.get {} j
def State.modJob (s : State) (j : Nat) (f : FixJob → FixJob) : State :=
  { s with fixity := { s.fixity with jobs := s.fixity.jobs.upd {} j f } }

/-- The field checks of R228. -/
def State.fixityFields (s : State) (i : Nat) (a : List Nat) (slba : Nat) : Bool :=
  if fixCancel a then (s.job (fixJobId a)).st ≠ 0 && decide ((s.job (fixJobId a)).owner = i)
  else decide (a.getD 6 0 = 0) && decide (slba % zoneBlocks = 0) && decide (fixZones a ≤ 4096) && !(fixWait a && decide (1 < fixZones a))

/-- Running jobs, of one instance or of all. -/
def State.jobsRunning (s : State) (p : FixJob → Bool) : Nat := Tab.count (fun _ j => j.st = 1 && p j) s.fixity.jobs

/-- The next job ID in turn that no running job has (R228). -/
def State.freeJob (s : State) : Option Nat :=
  (firstFrom (fun k => (s.job (k % 64)).st ≠ 1) s.fixity.nextId 64).map (· % 64)

/-- Ends a job: its state and time, the summary record, the waiting command or the event (R231).
(DEDUCED, log entry 81.) -/
def State.endJob (s : State) (j : Nat) : State :=
  let x := s.job j
  let s := s.modJob j fun x => { x with st := if x.cancelling then 3 else 2, end_ := s.hostTime }
  let s := s.log Code.fixity 2 0x205 [j, x.owner, x.nsid, x.first, x.zones, x.results.length]
  match x.tag with
  | some t => s.modTag t fun r => { r with done := some 0 }
  | none => s.vendorEvent x.owner 0xC4 0xC4

/-- A job has nothing more to do. -/
def FixJob.over (x : FixJob) : Bool :=
  x.active.isEmpty && (x.cancelling || decide (x.zones ≤ x.results.length))

/-- Inserts a record in zone order. -/
def insertResult (r : FixResult) : List FixResult → List FixResult
  | [] => [r]
  | x :: t => if r.zone < x.zone then r :: x :: t else x :: insertResult r t

/-- Writes a zone's result record (R229) and ends the job after its last. A mismatch is recorded with its zone. -/
def State.fixResult (s : State) (j : Nat) (r : FixResult) : State :=
  let s := s.modJob j fun x => { x with results := insertResult r x.results, active := x.active.filter (· ≠ r.zone) }
  let s := if r.result = 1 then s.log Code.fixity 2 0x205 [(s.job j).nsid, r.zone] else s
  if (s.job j).over then s.endJob j else s

/-- Reads of a row that have not reached the dies are withdrawn (R230). -/
def State.withdrawScan (s : State) (r : RowRef) : State :=
  { s with flash := { s.flash with dies := s.flash.dies.mapVals {} fun _ (d : Die) =>
    { d with shortQ := d.shortQ.filter fun o => decide (o.owner ≠ .scan r) } } }

/-- The row of a zone. -/
def State.zoneRow (s : State) (nsid z : Nat) : RowRef := ((s.zoneAt nsid z).row).getD {}

/-- A Reset or Offline of a zone, or a Refire that may not wait, ends its verify with 0x07 (R230). -/
def State.endVerify (s : State) (nsid z : Nat) : State :=
  let under := s.fixity.jobs.any fun j => j.2.st = 1 && decide (j.2.nsid = nsid) && j.2.active.contains z
  let s := if under then s.withdrawScan (s.zoneRow nsid z) else s
  s.each ((s.fixity.jobs.filter fun j => j.2.st = 1 && decide (j.2.nsid = nsid) && j.2.active.contains z).map (·.1)) fun s j =>
    s.fixResult j { zone := z, result := 7 }

/-- A zone is under verify. -/
def State.underVerify (s : State) (nsid z : Nat) : Bool :=
  s.fixity.jobs.any fun j => j.2.st = 1 && decide (j.2.nsid = nsid) && j.2.active.contains z

/-- Admission of a Fixity Verify: the limits, then the job, whose ID is returned; with WAIT the command completes when
the job ends (R228). -/
def State.admitFixity (s : State) (t : Nat) : State :=
  let r := s.tag t
  let a := r.cmd.args
  if fixCancel a then
    let j := fixJobId a
    let s := if (s.job j).st = 1 then s.modJob j fun x => { x with cancelling := true } else s
    let s := if (s.job j).st = 1 ∧ (s.job j).over then s.endJob j else s
    s.modTag t fun x => { x with done := some 0, dw0 := j }
  else if s.cfgOf Cfg.FIX_JOBS_INST ≤ s.jobsRunning (fun j => j.owner = r.inst) ∨ 64 ≤ s.jobsRunning fun _ => true then
    s.modTag t fun x => { x with done := some Status.fixityJobLimit }
  else match s.freeJob with
    | none => s.modTag t fun x => { x with done := some Status.fixityJobLimit }
    | some j =>
      let opts := b2n (fixWait a) + 2 * (a.getD 2 0 % 2) + 4 * (a.getD 3 0 % 2)
      let s := { s with fixity := { s.fixity with nextId := (j + 1) % 64 } }
      let s := s.modJob j fun _ => {
        st := 1, owner := r.inst, options := opts, nsid := r.cmd.nsid, first := r.cmd.slba / zoneBlocks,
        zones := fixZones a, start := s.hostTime, tag := if fixWait a then some t else none }
      s.modTag t fun x => { x with dw0 := j, done := if fixWait a then none else some 0 }

end Sys2Proof.Machine
end

