-- ==== Sys2Proof/Machine/OpsLanes.lean ====
section
/-!
DEFINITION. Descriptors and lanes of Glaze: acceptance, queues, suspended contexts, results (R271 to R277, R285, R286),
and what an Abort stops (R96).
-/

namespace Sys2Proof.Machine

def State.slotAt (s : State) (k : Nat) : Slot := s.glaze.slots.get {} k
def State.modSlot (s : State) (k : Nat) (f : Slot → Slot) : State :=
  { s with glaze := { s.glaze with slots := s.glaze.slots.upd {} k f } }

/-- A descriptor of Table 9.4 that is well formed (Table 9.5, INVALID). -/
def gdOk (d : GDesc) : Bool :=
  decide (1 ≤ d.op) && decide (d.op ≤ 7) && decide (1 ≤ d.units) && decide (d.units ≤ 16) && d.parityOk &&
    (d.op = 3 || d.op = 4 || (d.slotA ≠ 0 && decide (d.slotA < 2048))) &&
    (d.op ≠ 7 || (d.slotB ≠ 0 && decide (d.slotB < 2048)))

/-- The slots a descriptor uses: slot 0 for the buffer form (R280, Table 9.4). -/
def gdSlots (d : GDesc) : List Nat :=
  match d.op with
  | 3 => [0]
  | 4 => [0]
  | 5 => [0, d.slotA]
  | 7 => [d.slotA, d.slotB]
  | _ => [d.slotA]

/-- Its generations are those of its slots (R286); slot 0 is checked against none. -/
def State.gdFresh (s : State) (d : GDesc) : Bool :=
  (d.op = 3 || d.op = 4 || (s.slotAt d.slotA).gen = d.genA) && (d.op ≠ 7 || (s.slotAt d.slotB).gen = d.genB)

/-- Returns a result to the requester. -/
def State.gdResult (s : State) (d : GDesc) (code : Nat) : State := s.emit (.reply Port.engine [d.tag, d.gen, d.op, code])

/-- A descriptor that was accepted ends: its slots count it no more. -/
def State.gdEnd (s : State) (d : GDesc) (code : Nat) : State :=
  (s.each (gdSlots d) fun s k => s.modSlot k fun x => { x with accepted := x.accepted - 1 }).gdResult d code

def State.lane (s : State) (l : Nat) : Lane := s.glaze.lanes.get {} l
def State.modLane (s : State) (l : Nat) (f : Lane → Lane) : State :=
  { s with glaze := { s.glaze with lanes := s.glaze.lanes.upd {} l f } }

/-- The next descriptor of a free lane (R274, R277): an aged context, a waiting urgent descriptor, the most recently
suspended context, a bulk descriptor. A stale one ends with KEY_STALE and the next is tried. The first argument bounds
the tries. -/
def State.laneNext (s : State) (l : Nat) : Nat → State
  | 0 => s
  | n + 1 =>
    let x := s.lane l
    if x.running.isSome then s
    else
      let resume := !x.contexts.isEmpty && (x.agedDue || s.glaze.urgentQ.isEmpty)
      if resume then match (if x.agedDue then x.contexts.getLast? else x.contexts.head?) with
        | none => s
        | some c =>
          let rest := if x.agedDue then x.contexts.dropLast else x.contexts.drop 1
          if s.gdFresh c.desc then
            s.modLane l fun y => { y with
              running := some c.desc, since := s.now, contexts := rest, aged := x.agedDue, agedDue := false }
          else ((s.modLane l fun y => { y with contexts := rest, agedDue := false }).gdEnd c.desc 3).laneNext l n
      else match s.glaze.urgentQ, s.glaze.bulkQ with
        | d :: rest, _ =>
          let s := { s with glaze := { s.glaze with urgentQ := rest } }
          if s.gdFresh d then s.modLane l fun y => { y with running := some d, since := s.now, aged := false }
          else (s.gdEnd d 3).laneNext l n
        | [], d :: rest =>
          let s := { s with glaze := { s.glaze with bulkQ := rest } }
          if s.gdFresh d then s.modLane l fun y => { y with running := some d, since := s.now, aged := false }
          else (s.gdEnd d 3).laneNext l n
        | [], [] => s

/-- How many descriptors a lane may have to try. -/
def State.laneTries (s : State) (l : Nat) : Nat :=
  s.glaze.urgentQ.length + s.glaze.bulkQ.length + (s.lane l).contexts.length + 1

/-- Free lanes in order. -/
def State.freeLanes (s : State) : List Nat := (List.range 16).filter fun l => (s.lane l).running.isNone

/-- The lane whose bulk descriptor has run longest, among lanes with a free context (R276). -/
def State.suspendable (s : State) : Option Nat :=
  ((List.range 16).filter fun l => match (s.lane l).running with
    | some d => !d.urgent && !(s.lane l).aged && decide ((s.lane l).contexts.length < 4)
    | none => false).foldl (fun b l =>
      match b with
      | none => some l
      | some k => if (s.lane l).since < (s.lane k).since then some l else some k) none

/-- An accepted descriptor takes a lane or its queue (R274, R276). -/
def State.gdPlace (s : State) (d : GDesc) : State :=
  if d.urgent then
    match s.freeLanes with
    | l :: _ => s.modLane l fun y => { y with running := some d, since := s.now, aged := false }
    | [] => match s.suspendable with
      | some l => match (s.lane l).running with
        | some b =>
          let s := s.modLane l fun y => { y with
            running := some d, since := s.now, contexts := { desc := b, since := s.now } :: y.contexts }
          s.bump Reg.GLZ_SUSPEND_COUNT_COUNT
        | none => s
      | none => { s with glaze := { s.glaze with urgentQ := s.glaze.urgentQ ++ [d] } }
  else
    match s.freeLanes.foldl (fun b l =>
      match b with
      | none => some l
      | some k => if (s.lane l).contexts.length < (s.lane k).contexts.length then some l else some k) none with
    | some l => s.modLane l fun y => { y with running := some d, since := s.now, aged := false }
    | none => { s with glaze := { s.glaze with bulkQ := s.glaze.bulkQ ++ [d] } }

/-- A descriptor reaches Glaze: refused, waiting in its engine queue, or accepted (R273, R274, R285). -/
def State.gdSubmit (s : State) (d : GDesc) : State :=
  if !(gdOk d) then s.gdResult d 6
  else if !((gdSlots d).all fun k => (s.slotAt k).st = .ready) then s.gdResult d 2
  else if (d.urgent ∧ 256 ≤ s.glaze.urgentQ.length) ∨ (!d.urgent ∧ 2048 ≤ s.glaze.bulkQ.length) then
    { s with glaze := { s.glaze with waiting := s.glaze.waiting ++ [d] } }
  else if !(s.gdFresh d) then s.gdResult d 3
  else (s.each (gdSlots d) fun s k => s.modSlot k fun x => { x with accepted := x.accepted + 1 }).gdPlace d

/-- Room in a queue lets the oldest waiting descriptor of a class in. -/
def State.gdAdmitWaiting (s : State) : State :=
  match s.glaze.waiting.find? fun d => if d.urgent then decide (s.glaze.urgentQ.length < 256) else decide (s.glaze.bulkQ.length < 2048) with
  | none => s
  | some d => { s with glaze := { s.glaze with waiting := s.glaze.waiting.erase d } }.gdSubmit d

/-- The Glaze work of a command stops (R96, Table 9.5): its descriptors end with DISCARDED, and their lanes go on. -/
def State.discardDescs (s : State) (t gen : Nat) : State :=
  let mine := fun (d : GDesc) => !d.internal && decide (d.tag = t) && decide (d.gen = gen)
  let waits := s.glaze.waiting.filter mine
  let taken := (s.glaze.urgentQ ++ s.glaze.bulkQ ++
    s.glaze.lanes.flatMap fun l => l.2.running.toList ++ l.2.contexts.map (·.desc)).filter mine
  let lanes : Tab Lane := s.glaze.lanes.mapVals {} fun _ (x : Lane) => { x with
    running := x.running.filter fun d => !(mine d)
    contexts := x.contexts.filter fun c => !(mine c.desc) }
  let s : State := { s with glaze := { s.glaze with
    lanes := lanes
    waiting := s.glaze.waiting.filter fun d => !(mine d)
    urgentQ := s.glaze.urgentQ.filter fun d => !(mine d)
    bulkQ := s.glaze.bulkQ.filter fun d => !(mine d) } }
  let s := s.each waits fun s d => s.gdResult d 4
  let s := s.each taken fun s d => s.gdEnd d 4
  let s := s.each s.freeLanes fun s l => s.laneNext l (s.laneTries l)
  s.each taken fun s _ => s.gdAdmitWaiting

end Sys2Proof.Machine
end

