-- ==== Sys2Proof/Machine/OpsFlow.lean ====
section
/-!
DEFINITION. The path of a host command: fetch and staging (R68 to R76), the checks of Tables 3.4 and 3.5, reservations
(R360, R361), admission (R78 to R90, R130), data arrival, completion (R48, R91) and abort (R94).
-/

namespace Sys2Proof

/-- Whether an opcode only reads. -/
def Opc.isRead : Opc → Bool
  | .read => true
  | .zoneRecv => true
  | .ioMgmtRecv => true
  | .fixity => true
  | _ => false

/-- Whether a command needs write permission (R128). -/
def HostCmd.needsW (c : HostCmd) : Bool :=
  match c.opc with
  | .read => false
  | .zoneRecv => false
  | .fixity => false
  | .dsm => c.dealloc
  | _ => true

/-- Sieve entries. -/
def HostCmd.entriesNeeded (c : HostCmd) : Nat :=
  match c.opc with
  | .read => 1
  | .write => 1
  | .writeZeroes => 1
  | .append => 1
  | .zoneSend => 1
  | .dsm => c.ranges.length
  | _ => 0

/-- Near units for a read, Far units for a write. -/
def HostCmd.nrNeed (c : HostCmd) : Nat := if c.opc = .read then c.nlb else 0

def HostCmd.fwNeed (c : HostCmd) : Nat :=
  if c.opc = .write ∨ c.opc = .writeZeroes ∨ c.opc = .append then c.nlb else 0

/-- Write-like commands (Table 4.3). -/
def HostCmd.writeLike (c : HostCmd) : Bool :=
  match c.opc with
  | .write => true
  | .writeZeroes => true
  | .append => true
  | .dsm => true
  | .zoneSend => true
  | _ => false

/-- Data length in bytes. -/
def HostCmd.dataLen (c : HostCmd) : Nat :=
  match c.opc with
  | .read => c.nlb * 4096
  | .write => c.nlb * 4096
  | .append => c.nlb * 4096
  | .writeZeroes => 0
  | .flush => 0
  | .dsm => 16 * c.ranges.length
  | .zoneSend => if c.zact = .setZde then 64 else 0
  | _ => c.bytes

/-- What a command takes from the deficit counter (R71) and from the throttle bucket (R81). -/
def HostCmd.cost (c : HostCmd) : Nat := if c.dataLen = 0 then 4096 else c.dataLen
def HostCmd.meter (c : HostCmd) : Nat := max 4096 c.dataLen

/-- The placement handle a conventional write names, 0 without a directive (R60). -/
def HostCmd.handle (c : HostCmd) : Nat := match c.directive with
  | some (_, h) => h
  | none => 0

/-- The row's command has the opcode the row names. -/
def HostCmd.as (c : HostCmd) (o : Opc) : HostCmd := { c with opc := o }

/-- The row's command is a Zone Management Send of the row's action. -/
def HostCmd.asZone (c : HostCmd) (a : ZAct) : HostCmd := { c with opc := .zoneSend, zact := a }

/-- States in which an action with Select All changes something (R47). -/
def ZAct.changes (a : ZAct) (st : Machine.ZState) : Bool :=
  match a with
  | .close => st.isOpen
  | .finish => st.isActive
  | .open_ => st = .zsc
  | .reset => st.isActive || st = .zsf
  | .offline => st = .zsro
  | .setZde => false

end Sys2Proof

namespace Sys2Proof.Machine

/-! ### Readiness -/

/-- The controller is ready and neither in dump mode, in the Grave hold nor stopped. -/
def State.running (s : State) : Bool :=
  s.boot.phase = .ready && !s.trail.dumpMode && !s.fault.graveStopped && !s.fault.lines.stop

/-- Intake fetches and admits: not while stopped, and not in PS3 or PS4 (R103). -/
def State.intakeOn (s : State) : Bool := s.running && !s.intake.stopped && decide (s.power.ps < 3) && !s.ideBlocked

/-- An instance whose queues intake serves (Table 13.2). -/
def State.served (s : State) (i : Nat) : Bool :=
  let x := s.inst i
  x.st = .online && x.ccEn && x.rdy && x.ccShn = 0

/-- An instance whose staged commands are still admitted: also while it is Pausing (R377). -/
def State.admits (s : State) (i : Nat) : Bool :=
  let x := s.inst i
  (x.st = .online || x.st = .pausing) && x.ccEn && x.rdy

/-! ### Arbitration within an instance (R72) -/

/-- A queue with an unfetched entry and nothing staged. -/
def Sq.fetchable (q : Sq) : Bool := q.exists_ && decide (q.head ≠ q.tail) && q.staged.isNone

/-- The credits of the weighted classes. -/
def Inst.credit (x : Inst) : Nat → Nat
  | 1 => x.creditH
  | 2 => x.creditM
  | _ => x.creditL

/-- A completion queue slot can be reserved (Table 3.4, step 1). -/
def Cq.hasSlot (q : Cq) : Bool :=
  q.exists_ && decide ((q.tail + q.size - q.head) % q.size + q.reserved + 1 < q.size)

/-- The I/O queues that may be served now (R72, R73): urgent ones first, then the classes that have credit; all of them
when no class with a fetchable queue has credit left. A queue without a completion queue slot is passed over. -/
def Inst.candidates (x : Inst) : List Nat :=
  let qs := x.sqs.filter fun q => decide (q.1 ≠ 0) && q.2.fetchable && (x.cqs.get {} q.2.cq).hasSlot
  if !x.wrr then qs.map (·.1)
  else
    let urgent := qs.filter fun q => decide (q.2.prio = 0)
    let withCredit := qs.filter fun q => decide (0 < x.credit q.2.prio)
    if !urgent.isEmpty then urgent.map (·.1)
    else if !withCredit.isEmpty then withCredit.map (·.1)
    else qs.map (·.1)

/-- The candidate after a queue, in cyclic order. -/
def nextAfter (cs : List Nat) (q : Nat) : Option Nat :=
  match cs.find? fun c => decide (q < c) with
  | some c => some c
  | none => cs.head?

/-- Whether a queue may be served next: it goes on with its burst of up to 2^AB commands (AB 111b: no limit), or it is
next in turn. -/
def Inst.mayServe (x : Inst) (q : Nat) : Bool :=
  let cs := x.candidates
  let ab := bits x.arbitration 0 3
  cs.contains q &&
    ((decide (x.lastSq = q) && (ab = 7 || decide (x.burst < 2 ^ ab))) || nextAfter cs x.lastSq = some q)

/-- The arbitration state after serving a queue. -/
def Inst.afterServe (x : Inst) (q : Nat) : Inst :=
  let prio := (x.sqs.get {} q).prio
  let x := if x.wrr ∧ prio ≠ 0 ∧ x.credit prio = 0 then
      { x with creditH := bits x.arbitration 24 8 + 1, creditM := bits x.arbitration 16 8 + 1,
               creditL := bits x.arbitration 8 8 + 1 }
    else x
  let x := if !x.wrr then x else match prio with
    | 0 => x
    | 1 => { x with creditH := x.creditH - 1 }
    | 2 => { x with creditM := x.creditM - 1 }
    | _ => { x with creditL := x.creditL - 1 }
  { x with burst := if x.lastSq = q then x.burst + 1 else 1, lastSq := q }

/-! ### Fetch and staging -/

/-- Commands in flight of an instance's admin queue, for the limits of Table 3.2: an outstanding Asynchronous Event
Request holds a tag but no place of the limit (DESIGN CHOICE, log entry 102). -/
def State.adminInFlight (s : State) (i : Nat) : Nat :=
  Tab.count (fun _ t => t.busy && decide (t.inst = i) && decide (t.sq = 0)) s.intake.tags

/-- A free tag in the range of a class (R74). (DESIGN CHOICE, log entry 11.) -/
def State.freeTag (s : State) (cls : Class) : Option Nat :=
  let (lo, n) := match cls with
    | .u => (32704, 64)
    | _ => (0, 32704)
  firstFrom (fun t => (s.tag t).stage = .free) lo (min n (s.intake.tags.length + 1))

/-- The class of a queue (Table 3.2). -/
def classOf (inst sq : Nat) : Class := if sq ≠ 0 then .b else if inst = 0 then .u else .a

/-- The identifier is in flight on the same queue (R76). -/
def State.cidInFlight (s : State) (i q cid : Nat) : Bool :=
  s.intake.tags.any fun t => t.2.stage ≠ .free && decide (t.2.inst = i) && decide (t.2.sq = q) && decide (t.2.cmd.cid = cid)

/-- An instance's admin queue can be served (Table 3.2; Table 3.4, steps 1, 2 and 4). -/
def State.adminReady (s : State) (i : Nat) : Bool :=
  let x := s.inst i
  s.served i && (x.sqs.get {} 0).fetchable && (x.cqs.get {} 0).hasSlot && (s.freeTag (classOf i 0)).isSome &&
    (if i = 0 then decide (s.adminInFlight 0 < 64)
     else s.intake.sieveWait.isEmpty && decide (s.adminInFlight i < s.cfgOf Cfg.INTAKE_TENANT_ADMIN_MAX))

/-- The tenants whose admin queues can be served. -/
def State.tenantsReady (s : State) : List Nat :=
  (s.tenant.insts.filter fun x => decide (x.1 ≠ 0) && s.adminReady x.1).map (·.1)

/-- A command of a higher class can be admitted (R70). -/
def State.higherWaits (s : State) : Class → Bool
  | .u => false
  | .a => s.adminReady 0
  | .b => s.adminReady 0 || !s.tenantsReady.isEmpty

/-- Check 1 of R118 holds an instance's I/O queues: a staged command needs more entries than its quota leaves. -/
def State.quotaHeld (s : State) (i : Nat) : Bool :=
  (s.inst i).sqs.any fun q => match q.2.staged with
    | some t => decide ((s.tag t).waitStep = 4) &&
        decide ((s.inst i).sieveQuota < s.sieveUsed i + (s.tag t).cmd.entriesNeeded)
    | none => false

/-- Whether intake can fetch the head entry of a queue (Table 3.4, steps 1 and 2; R70 to R73, R118). -/
def State.canFetch (s : State) (i q : Nat) : Bool :=
  let x := s.inst i
  let sq := x.sqs.get {} q
  s.intakeOn && !(s.higherWaits (classOf i q)) &&
    (if q = 0 then s.adminReady i && (i = 0 || nextAfter s.tenantsReady s.intake.lastAdmin = some i)
     else s.served i && sq.fetchable && (x.cqs.get {} sq.cq).hasSlot && (s.freeTag .b).isSome &&
      s.intake.sieveWait.isEmpty && x.mayServe q && !(s.quotaHeld i))

/-- Takes the head entry of a queue (R73): its completion queue slot and a tag are reserved, the doorbell notice is read,
and the idle period ends (R101, R418). -/
def State.takeEntry (s : State) (i q t : Nat) (c : HostCmd) (stage : Stage) : State :=
  let cq := ((s.inst i).sqs.get {} q).cq
  let s := s.modInst i fun x =>
    let x := if q = 0 then x else x.afterServe q
    { x with
      sqs := x.sqs.upd {} q fun a =>
        { a with head := (a.head + 1) % a.size, staged := if stage = .staged then some t else a.staged }
      cqs := x.cqs.upd {} cq fun a => { a with reserved := a.reserved + 1 } }
  let s := s.modTag t fun r => { gen := r.gen, stage := stage, cls := classOf i q, inst := i, sq := q, cq := cq, cmd := c }
  let s := { s with
    intake := { s.intake with
      notices := s.intake.notices.filter (· ≠ (i, q))
      lastAdmin := if q = 0 ∧ i ≠ 0 then i else s.intake.lastAdmin }
    power := { s.power with gaveUp := false } }
  s.ltrUpdate (stateLtr s.power.ps)

/-- Fetches the head entry of a queue and stages the command (R73, R76). -/
def State.stageCmd (s : State) (i q : Nat) (c : HostCmd) : Option Nat × State :=
  if !(s.canFetch i q) then (none, s)
  else match s.freeTag (classOf i q) with
    | none => (none, s)
    | some t => (some t, s.takeEntry i q t { c with fieldsOk := c.fieldsOk && !(s.cidInFlight i q c.cid) } .staged)

/-! ### Reservations (R360, R361): the conflict rule is NVMe's -/

/-- Reservation conflict of a host with a namespace's reservation: types 1 Write Exclusive, 2 Exclusive Access, 3 and 4
Registrants Only, 5 and 6 All Registrants. -/
def Ns.conflict (n : Ns) (host : Nat) (isRead : Bool) : Bool :=
  match n.holder with
  | none => false
  | some (h, ty) =>
    let reg := n.registrants.any fun r => r.host = host
    if ty = 1 then host ≠ h && !isRead
    else if ty = 2 then host ≠ h
    else if ty = 3 ∨ ty = 5 then !reg && !isRead
    else !reg

/-- Check 4 of Table 3.5: reservation commands check themselves. -/
def State.reservationOk (s : State) (i : Nat) (c : HostCmd) : Bool :=
  match c.opc with
  | .resRegister => true
  | .resAcquire => true
  | .resRelease => true
  | .resReport => true
  | .flush => if c.nsid = 0xFFFFFFFF then true else !((s.ns c.nsid).conflict (s.inst i).hostId false)
  | o => !((s.ns c.nsid).conflict (s.inst i).hostId o.isRead)

/-! ### Check 5: access ranges, locking ranges, keys (R127 to R129, R293, R294, R299) -/

/-- Locking ranges of a namespace that a range touches; the global range covers what no other range contains. -/
def State.touched (s : State) (nsid a b : Nat) : List (Nat × LockRange) :=
  let mine := s.glaze.ranges.filter fun r => decide (r.1 / 128 = nsid) && r.2.exists_
  let others := mine.filter fun r => r.1 % 128 ≠ 0 && decide (r.2.lo ≤ b) && decide (a ≤ r.2.hi)
  if others.any fun r => decide (r.2.lo ≤ a) && decide (b ≤ r.2.hi) then others
  else others ++ mine.filter fun r => decide (r.1 % 128 = 0)

/-- Keys of a command's namespace and range are there, and no touched range is locked. -/
def State.keysOk (s : State) (c : HostCmd) (a b : Nat) (w : Bool) : Bool :=
  let n := s.ns c.nsid
  let rs := s.touched c.nsid a b
  let unlocked := rs.all fun r =>
    if w then !(r.2.writeLockEnabled && r.2.writeLocked) else !(r.2.readLockEnabled && r.2.readLocked)
  unlocked && (match n.mode with
    | .clear => true
    | .keyPerIo =>
      let t := c.keyTag.getD 0
      decide (t < 1024) && s.glaze.alarm.isNone && (match s.glaze.keyTags.get none (c.nsid * 1024 + t) with
        | some k => (s.slotAt k).st ≠ .locked && (s.slotAt k).st ≠ .empty
        | none => false)
    | _ => s.glaze.alarm.isNone && rs.all fun r => (s.slotAt r.2.slot).st ≠ .locked)

/-- The LBA ranges a command names (R79, R128); a Zone Append's are the blocks it will be assigned (DESIGN CHOICE, log
entry 103). (DESIGN CHOICE, log entry 103.) -/
def State.rangesOf (s : State) (c : HostCmd) : List (Nat × Nat) :=
  match c.opc with
  | .read => [(c.slba, c.slba + c.nlb - 1)]
  | .write => [(c.slba, c.slba + c.nlb - 1)]
  | .writeZeroes => [(c.slba, c.slba + c.nlb - 1)]
  | .append =>
    let z := s.zoneAt c.nsid (c.slba / zoneBlocks)
    [(c.slba + z.wp, c.slba + z.wp + c.nlb - 1)]
  | .dsm => c.ranges.map fun r => (r.1, r.1 + r.2 - 1)
  | .zoneSend =>
    if c.selectAll then [(0, (s.ns c.nsid).size - 1)]
    else [(c.slba / zoneBlocks * zoneBlocks, c.slba / zoneBlocks * zoneBlocks + zoneBlocks - 1)]
  | .zoneRecv => [(c.slba, c.slba)]
  | .fixity => if fixCancel c.args then [] else [(c.slba, c.slba + (fixZones c.args) * zoneBlocks - 1)]
  | _ => []

/-- Check 5 of Table 3.5 over every range; the access lookup is made once (R129). -/
def State.check5 (s : State) (i : Nat) (c : HostCmd) (checked : Bool) : Bool :=
  (s.rangesOf c).all fun r =>
    (checked || s.accessOk i c.nsid r.1 r.2 c.needsW) && (c.opc = .zoneRecv || c.opc = .fixity || s.keysOk c r.1 r.2 c.needsW)

/-! ### Checks of Table 3.5 -/

/-- Check 1: the opcode against the command set of the named namespace. -/
def State.opcodeOk (s : State) (sq : Nat) (c : HostCmd) : Bool :=
  sq ≠ 0 && c.opc ≠ .unsupported && c.opc ≠ .aer && c.opc ≠ .abort && c.opc ≠ .admin &&
    (if (s.ns c.nsid).exists_ ∧ !(s.ns c.nsid).zoned then
      c.opc ≠ .append && c.opc ≠ .zoneSend && c.opc ≠ .zoneRecv
     else true)

/-- The first match of a conventional write's placement lookup (R132). -/
def State.placementOf (s : State) (c : HostCmd) : Option Ent :=
  (bestMatch (s.matches_ c.handle c.handle [scopePlacement c.nsid] 0x80 0x80)).map (·.2)

/-- A write's data placement directive is within its ranges (R60, R132). -/
def State.placementOk (s : State) (c : HostCmd) : Bool :=
  let n := s.ns c.nsid
  if n.zoned ∨ !(s.dieSet n.dieSet).fdp then c.directive.isNone
  else (match c.directive with
    | some (rg, _) => n.rows.any fun r => r.group = rg
    | none => true) && (s.placementOf c).isSome

/-- The place key of a conventional write: 0 without FDP; else its reclaim unit handle, and the reclaim group where the
directive names one. Without a directive the controller chooses the group (DESIGN CHOICE, log entry 104). -/
def State.placeKey (s : State) (c : HostCmd) : Nat :=
  if !(s.dieSet (s.ns c.nsid).dieSet).fdp then 0
  else
    let ruh := bits ((s.placementOf c).getD {}).payload 0 3
    match c.directive with
    | some (rg, _) => 16 + rg * 8 + ruh
    | none => 1 + ruh

/-- The reclaim group and the reclaim unit handle of a place key. -/
def keyGroup (key : Nat) : Option Nat := if key < 16 then none else some ((key - 16) / 8)
def keyHandle (key : Nat) : Nat := if key < 16 then key - 1 else (key - 16) % 8

/-- Check 2: fields, transfer length, ranges, placement. -/
def State.fieldsValid (s : State) (i : Nat) (c : HostCmd) : Bool :=
  c.fieldsOk && (match c.opc with
    | .read => decide (1 ≤ c.nlb) && decide (c.nlb ≤ 512)
    | .write => decide (1 ≤ c.nlb) && decide (c.nlb ≤ 512) && s.placementOk c
    | .writeZeroes => decide (1 ≤ c.nlb) && decide (c.nlb ≤ 512) && s.placementOk c
    | .append => decide (1 ≤ c.nlb) && decide (c.nlb ≤ 512) && s.placementOk c
    | .dsm => decide (1 ≤ c.ranges.length) && decide (c.ranges.length ≤ 256) && c.ranges.all fun r => decide (1 ≤ r.2)
    | .fixity => (s.ns c.nsid).zoned && s.fixityFields i c.args c.slba
    | .zoneSend => !(c.zact = .setZde && c.selectAll) && (c.selectAll || decide (c.slba % zoneBlocks = 0))
    | _ => decide (c.bytes ≤ 2097152))

/-- Namespaces a command may name: attached ones, or all of them for Flush. -/
def State.nsOk (s : State) (i : Nat) (c : HostCmd) : Bool :=
  (c.opc = .flush && decide (c.nsid = 0xFFFFFFFF)) || ((s.ns c.nsid).exists_ && (s.ns c.nsid).attached.contains i)

/-- The checks of Table 3.5 in order: the status of the first that fails. -/
def State.commandCheck (s : State) (t : Nat) : Option Nat :=
  let r := s.tag t
  let c := r.cmd
  if !(s.opcodeOk r.sq c) then some Status.invalidOpcode
  else if !(s.fieldsValid r.inst c) then some Status.invalidField
  else if !(s.nsOk r.inst c) then some Status.invalidNamespace
  else if !(s.reservationOk r.inst c) then some Status.reservationConflict
  else if !(s.check5 r.inst c r.checked) then some Status.accessDenied
  else if c.opc = .read ∧ (s.ns c.nsid).size < c.slba + c.nlb then some Status.lbaOutOfRange
  else if c.opc = .fixity ∧ !(fixCancel c.args) ∧ (s.ns c.nsid).size < c.slba + fixZones c.args * zoneBlocks then
    some Status.lbaOutOfRange
  else none

/-! ### Needs of a command (R79, R309, R241, R81) -/

/-- Exposure in units (R241). -/
def State.exposure (s : State) : Nat := (s.trail.expos.map fun e => e.left.length).sum

/-- DRAM channels out of service by a failed checker of a subchannel (Table 7.10). -/
def State.dramOut (s : State) : Nat := ((List.range 4).filter fun c => s.fixity.subchannelsOut.any fun k => decide (k / 2 = c)).length

/-- The exposure limit in 4 KiB blocks (R65): the smaller of 8 GiB and the intact dump reserve; the share of a DRAM channel
out of service is lost (Table 7.10). -/
def State.exposureLimit (s : State) : Nat := min (524288 * (4 - s.dramOut)) s.dumpReserve

/-- Bytes the throttle bucket holds now (R81). (DEDUCED, log entry 88.) -/
def State.bucket (s : State) : Nat :=
  let depth := s.cfgOf Cfg.INTAKE_THROTTLE_BURST * 1048576
  let m := min s.intake.f s.intake.g
  let spent := s.intake.bucketSpent - (s.now - s.intake.bucketTime) * (s.cfgOf Cfg.INTAKE_THROTTLE_REF * 10) * m / 100
  depth - spent

/-! ### Read sources (R130, R87) -/

/-- The latest write-like holder before a sequence that covers a block and supplies data. -/
def State.supplier (s : State) (nsid lba below : Nat) : Option Holder :=
  (s.sieve.ents.filter fun e =>
    e.2.hits lba lba [scopeNs nsid] 0x40 0x40 && decide ((s.sieve.holders.get {} e.1).supply ≠ 0) &&
      decide ((s.sieve.holders.get {} e.1).seq < below)).foldl (fun b e =>
    let h := s.sieve.holders.get {} e.1
    match b with
    | none => some h
    | some x => if x.seq < h.seq then some h else some x) none

/-- The Far Hamper unit in which a write still in flight holds a block. -/
def State.unitFor (s : State) (seq lba : Nat) : Option Nat :=
  match s.trail.expos.find? (fun e => decide (e.seq = seq) && !e.failed) with
  | some e => ((e.left ++ e.ready ++ e.parked).find? fun x => decide (x.lba = lba)).map (·.unit)
  | none => none

/-- The source of one block for a read of a sequence, as the map and the walk give it (R85, R130): a write older than the
map's entry has been overtaken (R88). -/
def State.sourceOf (s : State) (nsid lba below : Nat) : Source :=
  let b := s.blkAt nsid lba
  let fromMap := match b.content with
    | .zeros => Source.zeros
    | .lost => .media .lost true
    | .data v => .media (.data v) false
  match s.supplier nsid lba below with
  | none => fromMap
  | some h =>
    if h.seq < b.seq then fromMap
    else if h.supply = 2 then .zeros
    else match s.unitFor h.seq lba with
      | some u => if s.claimOk u then .fwd u h.seq else fromMap
      | none => fromMap

/-- Sources of a read's blocks, in order: blocks of an empty zone or beyond a write pointer read as zeros (R43). -/
def State.readSources (s : State) (c : HostCmd) (seq : Nat) : List Source :=
  (List.range c.nlb).map fun k =>
    let lba := c.slba + k
    let n := s.ns c.nsid
    if n.zoned ∧ (s.zoneAt c.nsid (lba / zoneBlocks)).wp ≤ lba % zoneBlocks then .zeros
    else s.sourceOf c.nsid lba seq

/-- Queues the die reads of a read's media blocks, each given by LBA, index and source (Table 5.11, row 3).
(DEDUCED, log entry 87.) -/
def State.queueReads (s : State) (t nsid : Nat) (srcs : List (Nat × Nat × Source)) : State :=
  srcs.foldl (fun s x =>
    match x.2.2 with
    | .media (.data _) false =>
      let b := s.blkAt nsid x.1
      match b.row with
      | none => s
      | some r =>
        let u := unitAt (s.group r.group).geo (s.ns nsid).zoned b.off
        s.enqueue (s.dieOf r u) { kind := .hostRead, block := r.row, wordline := u / 16,
                                  owner := .read t (s.tag t).gen [x.2.1] }
    | _ => s) s

/-! ### Write-like bookkeeping -/

/-- Removes the Sieve entries of a sequence, or those of one of its ranges (R79). -/
def State.dropEntriesOf (s : State) (seq : Nat) : State :=
  s.removeEntries ((s.sieve.holders.filter fun h => decide (h.2.seq = seq)).map (·.1))
def State.dropRange (s : State) (e : Expo) : State :=
  s.removeEntries ((s.sieve.holders.filter fun h => decide (h.2.seq = e.seq) && decide ((s.ent h.1).lo = e.slba)).map (·.1))

def State.modExpo (s : State) (seq : Nat) (f : Expo → Expo) : State :=
  { s with trail := { s.trail with expos := s.trail.expos.map fun e => if e.seq = seq then f e else e } }

/-- Forgets what has neither exposure nor a map update left, with its entry. -/
def State.sweepExpos (s : State) : State :=
  let (gone, kept) := s.trail.expos.partition fun e =>
    (e.failed || e.dataIn) && e.left.isEmpty && e.ready.isEmpty && e.parked.isEmpty && !e.zeros && (e.posted || e.failed)
  let s := { s with trail := { s.trail with expos := kept } }
  s.each gone fun s e => s.dropRange e

/-- Reads whose block came from a failed write take it from what stands instead (R87): the claim is dropped, the new
source claimed or its die read queued. -/
def State.resource (s : State) (seq : Nat) : State :=
  s.each s.intake.tags fun s x =>
    x.2.sources.zipIdx.foldl (fun s y =>
      match y.1 with
      | .fwd u q =>
        if q ≠ seq then s
        else
          let lba := x.2.cmd.slba + y.2
          let src := s.sourceOf x.2.cmd.nsid lba seq
          let s := s.dropClaim u
          let s := match src with
            | .fwd v _ => s.claimUnit v
            | _ => s
          let s := s.modTag x.1 fun r => { r with sources := r.sources.set y.2 src }
          s.queueReads x.1 x.2.cmd.nsid [(lba, y.2, src)]
      | _ => s) s

/-- A write or append fails after its admission (R49, R87): a zone's range becomes a hole, unless a later Reset has
cleared it; a conventional range stays as it was; its units are released and reads of its data take what stands. -/
def State.failWrite (s : State) (seq reason : Nat) : State :=
  match s.trail.expos.find? (fun e => decide (e.seq = seq) && !e.failed) with
  | none => s
  | some e =>
    let z := e.slba / zoneBlocks
    let hole := (s.ns e.nsid).zoned && !(decide (seq < (s.zoneAt e.nsid z).resetSeq))
    let units := e.left.map (·.unit)
    let s := s.modExpo seq fun e => { e with failed := true, left := [], ready := [], pieces := 0 }
    let s := if hole then s.each (List.range e.nlb) fun s k => s.modBlk e.nsid (e.slba + k) fun _ => { seq := seq } else s
    let s := s.resource seq
    let s := (s.releaseUnits units).dropEntriesOf seq
    let s :=
      if !hole then s
      else
        let s := s.modZone e.nsid z fun x => { x with holes := x.holes ++ [(e.slba % zoneBlocks, e.nlb, reason)] }
        (s.trailRec (.hole e.nsid e.slba e.nlb reason)).log Code.hole 2 0x1A0 [e.nsid, z, e.slba, e.nlb]
    let s := match e.row with
      | some r => s.driveRow r ((s.rowRec r).endAt.getD (s.zoneAt e.nsid z).wp)
      | none => s
    s.sweepExpos

/-! ### Zone Management Send (Table 2.5, R45, R47) -/

/-- A Refire's target is given up (R45, R196): what its dies have not begun is withdrawn; `mark` for a target whose
programs a Reset waits for. -/
def State.leaveTarget (s : State) (r : RowRef) (nsid z seq : Nat) (mark : Bool) : State :=
  let s := ((s.withdrawRow r).leaveParity r).releaseRow r nsid (z * zoneBlocks) (z * zoneBlocks + zoneBlocks - 1) seq
  { s with flash := { s.flash with relWaits := s.flash.relWaits.map fun (w : RelWait) =>
    if w.row = r then { w with refire := mark } else w } }

/-- Abandons a Refire of the zone: both rows are released (R45, R196). -/
def State.abandonRefire (s : State) (nsid z seq : Nat) : State :=
  let d := (s.ns nsid).dieSet
  match (s.dieSet d).running.find? fun r => decide (r.nsid = nsid) && decide (r.zone = z) with
  | none => s.modDieSet d fun x => { x with queue := x.queue.filter fun q => !(decide (q.nsid = nsid) && decide (q.zone = z)) }
  | some r =>
    let s := s.modDieSet d fun x => { x with
      running := x.running.filter fun q => q.job ≠ r.job
      queue := x.queue.filter fun q => !(decide (q.nsid = nsid) && decide (q.zone = z)) }
    -- after its switch the zone lies on the target already, and the old row is what is left over
    (s.removeEntries r.entry.toList).leaveTarget (if r.switched then r.old else r.target) nsid z seq !r.switched

/-- Reset of one zone (R45): attributes, extension and digest cleared, the row released once earlier reads and admitted
programs have gone. -/
def State.resetZone (s : State) (nsid z seq : Nat) : State :=
  let x := s.zoneAt nsid z
  let s := s.endVerify nsid z
  let s := s.abandonRefire nsid z seq
  let s := match x.row with
    | some r => ((s.releaseRow r nsid (z * zoneBlocks) (z * zoneBlocks + zoneBlocks - 1) seq).endOrphan r x.wp).leaveParity r
    | none => s
  let s := s.modNs nsid fun n =>
    { n with map := n.map.keep fun lba _ => decide (lba / zoneBlocks ≠ z) }
  (s.modZone nsid z fun _ => { resetSeq := seq }).trailRec (.zone nsid z)

/-- The status of an action on one zone, none when it may act (Table 2.5, R57). (DESIGN CHOICE, log entry 101.) -/
def State.actionCheck (s : State) (nsid z : Nat) (a : ZAct) : Option Nat :=
  let st := (s.zoneAt nsid z).st
  let d := (s.ns nsid).dieSet
  let bad := some Status.invalidTransition
  match a with
  | .open_ => match st with
    | .zse => if !(s.check6 d) then some Status.tooManyActive else if !(s.check7 d) then some Status.tooManyOpen else none
    | .zsc => if !(s.check7 d) then some Status.tooManyOpen else none
    | .zsio => none
    | .zseo => none
    | _ => bad
  | .close => if st.isActive then none else bad
  | .finish =>
    if st = .zsro ∨ st = .zso then bad
    -- an Empty zone cannot leave ZSE without a place (R57), nor in a Red die set (Table 2.7)
    else if st = .zse ∧ (2 ≤ (s.dieSet d).stage.rank ∨ (s.place d).isNone) then some Status.tooManyActive
    else none
  | .reset => if st = .zsro ∨ st = .zso then bad else none
  | .offline => if st = .zsro ∨ st = .zso then none else bad
  | .setZde => if st = .zse then (if s.check6 d then none else some Status.tooManyActive) else bad

/-- The effect of an action on one zone whose check has passed. -/
def State.actOn (s : State) (nsid z : Nat) (a : ZAct) (zde seq : Nat) : State :=
  let x := s.zoneAt nsid z
  let d := (s.ns nsid).dieSet
  match a with
  | .open_ =>
    let s := if x.st = .zse ∨ x.st = .zsc then s.implicitClose d else s
    let s := if x.st = .zse then s.leaveEmpty nsid z else s
    (s.modZone nsid z fun x => { x with st := .zseo }).trailRec (.zone nsid z)
  | .close => (s.modZone nsid z fun x => { x with st := .zsc }).trailRec (.zone nsid z)
  | .finish => if x.st = .zsf then s else s.finishZone nsid z false
  | .reset => if x.st = .zse then s else s.resetZone nsid z seq
  | .offline =>
    if x.st = .zso then s
    else (((s.endVerify nsid z).abandonRefire nsid z seq).modZone nsid z fun x => { x with st := .zso }).trailRec (.zone nsid z)
  | .setZde =>
    let s := s.leaveEmpty nsid z
    (s.modZone nsid z fun x => { x with st := .zsc, zdev := true, zde := zde }).trailRec (.zone nsid z)

/-- An action with Select All, over the listed zones in ascending ZSLBA order; an Open stops at the first zone the open
budget refuses. -/
def State.actAll (s : State) (nsid : Nat) (a : ZAct) (seq : Nat) : List Nat → Nat × State
  | [] => (Status.success, s)
  | z :: rest =>
    match s.actionCheck nsid z a with
    | some st => if a = .open_ then (st, s) else s.actAll nsid a seq rest
    | none => (s.actOn nsid z a 0 seq).actAll nsid a seq rest

/-! ### Admission -/

/-- The staged command waits at a step of Table 3.4. -/
def State.waitAt (s : State) (t step : Nat) : State :=
  let s := if step = 7 ∧ (s.tag t).cls = .b then { s with power := { s.power with waited7 := true } } else s
  s.modTag t fun r => { r with waitStep := step }

/-- Whether step 4 holds the command, and what it records (R118). (DESIGN CHOICE, log entry 82.) -/
def State.sieveStep (s : State) (t : Nat) : Option State :=
  let r := s.tag t
  let need := r.cmd.entriesNeeded
  if need = 0 then none
  else if (s.inst r.inst).sieveQuota < s.sieveUsed r.inst + need then
    some ({ s with sieve := { s.sieve with heldCount := s.sieve.heldCount.upd 0 r.inst fun n => satAdd 16 n 1 } }.waitAt t 4)
  else if s.freeForCommands < need ∨ (!s.intake.sieveWait.isEmpty ∧ s.intake.sieveWait.head? ≠ some t) then
    let s := if s.intake.sieveWait.isEmpty then s.bump Reg.SIEVE_FULL_COUNT_COUNT else s
    let w := if s.intake.sieveWait.contains t then s.intake.sieveWait else s.intake.sieveWait ++ [t]
    some ({ s with intake := { s.intake with sieveWait := w } }.waitAt t 4)
  else none

/-- The first of steps 5 to 7 that holds the command; 0 for none. -/
def State.heldAt (s : State) (t : Nat) : Nat :=
  let r := s.tag t
  let c := r.cmd
  if !(s.hamperOk poolNR r.inst c.nrNeed && s.hamperOk poolFW r.inst c.fwNeed) then 5
  else if c.writeLike ∧ (s.trail.held ∨ (c.fwNeed ≠ 0 ∧ s.exposureLimit < s.exposure + c.fwNeed)) then 6
  else if c.opc ≠ .fixity ∧ min s.intake.f s.intake.g < 100 ∧ s.bucket < c.meter then 7
  else 0

/-- The status of the first failing check at the admission point (step 8). -/
def State.pointCheck (s : State) (c : HostCmd) : Option Nat :=
  let n := s.ns c.nsid
  match c.opc with
  | .read =>
    if n.zoned ∧ (List.range ((c.slba + c.nlb - 1) / zoneBlocks - c.slba / zoneBlocks + 1)).any (fun k =>
      (s.zoneAt c.nsid (c.slba / zoneBlocks + k)).st = .zso) then some Status.zoneOffline else none
  | .dsm =>
    if n.zoned ∨ !c.dealloc then none
    else if s.exhausted n.dieSet then some Status.nsWriteProtected
    else if c.ranges.any fun r => decide (n.size < r.1 + r.2) then some Status.lbaOutOfRange else none
  | .zoneSend =>
    if c.selectAll then none
    else if n.size ≤ c.slba then some Status.lbaOutOfRange
    else s.actionCheck c.nsid (c.slba / zoneBlocks) c.zact
  | .zoneRecv => if n.size ≤ c.slba then some Status.lbaOutOfRange else none
  | .flush => none
  | o =>
    if !(o = .write ∨ o = .writeZeroes ∨ o = .append) then none
    else if n.zoned then
      let z := s.zoneAt c.nsid (c.slba / zoneBlocks)
      match s.zoneWriteCheck c with
      | some st =>
        if (st = Status.tooManyActive ∨ st = Status.tooManyOpen) ∧ n.mode = .keyPerIo ∧ z.keyTag.isSome ∧
          z.keyTag ≠ c.keyTag then some Status.invalidField else some st
      | none =>
        if n.mode = .keyPerIo ∧ z.keyTag.isSome ∧ z.keyTag ≠ c.keyTag then some Status.invalidField else none
    else if n.size < c.slba + c.nlb then some Status.lbaOutOfRange
    else if s.exhausted n.dieSet then some Status.nsWriteProtected
    else none

/-- Inserts the command's entries with one admission sequence. -/
def State.insertFor (s : State) (t : Nat) (ranges : List (Nat × Nat)) (prio supply seq : Nat) : State :=
  s.each ranges fun s r =>
    let e : Ent := { lo := r.1, hi := r.2, scope := scopeNs (s.tag t).cmd.nsid, prio := prio, payload := t }
    match s.insertEntry e { seq := seq, nsid := (s.tag t).cmd.nsid, inst := (s.tag t).inst, tag := t, supply := supply } false with
    | (some p, s') => s'.modTag t fun x => { x with entries := x.entries ++ [p] }
    | (none, s') => s'

/-- Admission of a read (R130, R309). -/
def State.admitRead (s : State) (t seq : Nat) : State :=
  let r := s.tag t
  let c := r.cmd
  let (us, s) := s.alloc poolNR c.nlb r.inst .command (t + r.gen * 32768)
  let hits := (s.matches_ c.slba (c.slba + c.nlb - 1) [scopeNs c.nsid] 0x40 0x40).map (·.1)
  let s := if hits.isEmpty then s
    else { s with sieve := { s.sieve with walks := s.sieve.walks ++ [{ tag := t, positions := hits }] } }
  let srcs := s.readSources c seq
  let s := s.insertFor t [(c.slba, c.slba + c.nlb - 1)] 0x48 0 seq
  let s := s.each srcs fun s x => match x with
    | .fwd u _ => s.claimUnit u
    | _ => s
  let s := s.modTag t fun x => { x with units := us.getD [], sources := srcs, lba := c.slba }
  s.queueReads t c.nsid (srcs.zipIdx.map fun x => (c.slba + x.2, x.2, x.1))

/-- The window write use of a die set (R159): Far Hamper that writes admitted during the window hold. -/
def State.windowUse (s : State) (d : Nat) : Nat :=
  ((s.trail.expos.filter fun e => !e.failed && decide ((s.dieSet d).plm.winSeq ≤ e.seq) && decide ((s.ns e.nsid).dieSet = d)).map
    fun e => (e.left ++ e.ready ++ e.parked).length).sum

/-- The window write use has reached the allowance: the controller ends the window (R159, R161). -/
def State.windowCheck (s : State) (d : Nat) : State :=
  if (s.dieSet d).plm.deterministic ∧ (s.dieSet d).plm.allowance ≤ s.windowUse d then s.endWindow d 2 else s

/-- Admission of a Write, Write Zeroes or Zone Append whose checks have passed (R43, R48, R241). -/
def State.admitWrite (s : State) (t seq : Nat) : State :=
  let r := s.tag t
  let c := r.cmd
  let n := s.ns c.nsid
  let zi := c.slba / zoneBlocks
  let z := s.zoneAt c.nsid zi
  let s := if n.zoned ∧ (z.st = .zse ∨ z.st = .zsc) then s.implicitClose n.dieSet else s
  let s := if n.zoned ∧ z.st = .zse then s.leaveEmpty c.nsid zi else s
  let lba := if c.opc = .append then zi * zoneBlocks + z.wp else c.slba
  let (us, s) := s.alloc poolFW c.nlb r.inst .command (t + r.gen * 32768)
  let us := us.getD []
  let wz := c.opc = .writeZeroes
  let s := s.insertFor t [(lba, lba + c.nlb - 1)] 0x40 (if wz then 2 else 1) seq
  let row := if n.zoned then (s.zoneAt c.nsid zi).row else none
  let ex : Expo := {
    seq := seq, nsid := c.nsid, slba := lba, nlb := c.nlb, row := row, place := if n.zoned then 0 else s.placeKey c
    left := us.zipIdx.map fun u => ({ lba := lba + u.2, unit := u.1, off := if n.zoned then lba % zoneBlocks + u.2 else 0 } : XBlk)
    zeros := wz && !n.zoned, dataIn := wz, pieces := if wz then c.nlb / 64 else 0 }
  let s := ({ s with trail := { s.trail with expos := s.trail.expos ++ [ex] } } : State).windowCheck n.dieSet
  let s := if wz then s.each us fun s u => s.modUnit u fun x => { x with data := some n.ones } else s
  let s := s.modTag t fun x => { x with units := us, lba := lba, dataIn := wz, done := if wz then some 0 else none
                                        dw0 := if c.opc = .append then lba else 0 }
  let s := if wz then s else s.startReads t c.nlb
  let s := if wz ∧ !n.zoned then s.trailRec (.dealloc c.nsid lba c.nlb seq) else s
  if !n.zoned then s
  else
    let wp' := z.wp + c.nlb
    let s := s.modZone c.nsid zi fun x => { x with
      wp := wp', lastSeq := seq, keyTag := if n.mode = .keyPerIo then some (c.keyTag.getD 0) else x.keyTag
      st := if x.st = .zseo then .zseo else .zsio }
    let s := s.trailRec (.zone c.nsid zi)
    let s := if wp' = n.zcap then s.finishZone c.nsid zi false else s
    match row with
    | some r' => if wz then s.driveRow r' wp' else s
    | none => s

/-- Admission of a Dataset Management (R84): a deallocate of a conventional namespace is a write of zeros. -/
def State.admitDsm (s : State) (t seq : Nat) : State :=
  let c := (s.tag t).cmd
  let n := s.ns c.nsid
  let act := !n.zoned && c.dealloc
  let s := s.insertFor t (c.ranges.map fun r => (r.1, r.1 + r.2 - 1)) 0x40 (if act then 2 else 0) seq
  let s := if !act then s
    else s.each c.ranges fun s r =>
      let s := { s with trail := { s.trail with expos := s.trail.expos ++
        [({ seq := seq, nsid := c.nsid, slba := r.1, nlb := r.2, zeros := true, dataIn := true } : Expo)] } }
      s.trailRec (.dealloc c.nsid r.1 r.2 seq)
  s.modTag t fun x => { x with done := some 0, dataIn := true }

/-- Admission of a Zone Management Send (R47, R51). (DESIGN CHOICE, log entry 102.) -/
def State.admitZoneSend (s : State) (t seq : Nat) : State :=
  let c := (s.tag t).cmd
  let s := s.insertFor t (s.rangesOf c) 0x40 (if c.zact = .reset then 2 else 0) seq
  let (st, s) :=
    if c.selectAll then
      s.actAll c.nsid c.zact seq (((s.ns c.nsid).zones.filter fun z => c.zact.changes z.2.st).map (·.1))
    else (Status.success, s.actOn c.nsid (c.slba / zoneBlocks) c.zact c.zde seq)
  s.modTag t fun x => { x with done := some st }

/-- Zone descriptors from a zone on: state, write pointer as reported (R44), capacity, attributes. -/
def State.zoneReport (s : State) (nsid z count : Nat) : List Nat :=
  (List.range count).flatMap fun k =>
    let x := s.zoneAt nsid (z + k)
    let n := s.ns nsid
    [x.st.code, (z + k) * zoneBlocks, (z + k) * zoneBlocks + (if x.st = .zsf then n.zcap else x.wp), n.zcap, x.attributes, x.zde]

/-! ### Abort (Table 3.6) -/

/-- Ends a read: units, claims and entries given back. -/
def State.endRead (s : State) (t : Nat) : State :=
  let r := s.tag t
  let s := s.each r.sources fun s x => match x with
    | .fwd u _ => s.dropClaim u
    | _ => s
  let s := s.releaseUnits r.units
  (s.endWalk t).removeEntries r.entries

/-- The reason of a hole (Table 7.5): 1 transfer error, 2 protection information, 3 Internal Error, 4 abort.
(PRESUMED, log entry 24.)
(DEDUCED, log entry 85.) -/
def holeReason (status : Nat) : Nat :=
  if status = Status.dataTransferError then 1
  else if status = Status.guardCheck ∨ status = Status.appTagCheck ∨ status = Status.refTagCheck then 2
  else if status = Status.internalError then 3
  else 4

/-- A waiting admin command is dropped: what it held back goes on (R77), and its wait for a deterministic window ends
(R160). -/
def State.dropWaiting (s : State) (t : Nat) : State :=
  let r := s.tag t
  let s := s.each (r.cmd.ranges.map (·.1)) fun s n => s.modNs n fun x => { x with closing := false }
  let sets : Tab DieSet := s.zone.dieSets.mapVals {} fun _ (d : DieSet) =>
    if d.plm.entering = some (r.inst, r.cmd.cid) then { d with plm := { d.plm with entering := none } } else d
  { s with zone := { s.zone with dieSets := sets } }

/-- Aborts a command by the stage it has reached (Table 3.6): whether it was aborted, and the state after. A Format, a
Sanitize, a delete or a detach is abortable while it waits; an admitted Flush is, other admitted commands that Table 3.6
does not name are not (DESIGN CHOICE, log entry 102). -/
def State.abortTag (s : State) (t status : Nat) : Bool × State :=
  let r := s.tag t
  let ends := fun (s : State) => (true, (s.discardDescs t r.gen).postTag t status 0)
  match r.stage with
  | .free => (false, s)
  | .posting => (false, s)
  | .staged => ends s
  | .inFlight =>
    if r.fate ≠ 0 then (false, s) else
    match r.cmd.opc with
    | .read => if r.done.isSome then (false, s) else ends (s.endRead t)
    | .flush => ends s
    | .aer => ends (s.modInst r.inst fun x => { x with aers := x.aers.erase r.cmd.cid })
    | .admin => if r.cmd.args.length < 2 then (false, s) else ends (s.dropWaiting t)
    | o =>
      if (o = .write ∨ o = .append ∨ o = .writeZeroes) ∧ !r.dataIn then ends (s.failWrite r.seq (holeReason status))
      else (false, s)

/-- A command whose data cannot go on ends with a status (R23, R49). -/
def State.failTag (s : State) (t status : Nat) : State :=
  let r := s.tag t
  if r.stage = .free ∨ r.stage = .posting ∨ r.fate ≠ 0 then s
  else if r.stage = .inFlight ∧ r.cmd.fwNeed ≠ 0 then
    ((s.failWrite r.seq (holeReason status)).discardDescs t r.gen).postTag t status 0
  else if r.stage = .inFlight ∧ r.cmd.opc = .read then ((s.endRead t).discardDescs t r.gen).postTag t status 0
  else
    let a := s.abortTag t status
    if a.1 then a.2 else s.modTag t fun x => { x with done := some status }

/-! ### Reservation commands (R360 to R362) -/

/-- A reservation notification to the instances of hosts (Table 12.7; types and rules are NVMe's: 1 Registration
Preempted, 2 Reservation Released, 3 Reservation Preempted), unless Feature 0x82 masks it. (PRESUMED, log entry 93.) -/
def State.resNotify (s : State) (nsid : Nat) (hosts : List Nat) (type : Nat) : State :=
  let targets := (s.tenant.insts.filter fun (i : Nat × Inst) =>
    hosts.contains i.2.hostId && (s.ns nsid).attached.contains i.1 && !(bit (i.2.resMask.get 0 nsid) type)).map (·.1)
  s.each targets fun s i => (s.modInst i fun x => { x with resLog := x.resLog ++ [(type, nsid)] }).event i Ev.io 0 0x80

/-- Registrations and the reservation are recorded in the Trail with Persist Through Power Loss (R362). -/
def State.resRecord (s : State) (nsid : Nat) : State := if (s.ns nsid).ptpl then s.trailRec (.settings 3 nsid) else s

/-- The hosts registered other than one. -/
def Ns.otherHosts (n : Ns) (h : Nat) : List Nat := (n.registrants.filter fun x => decide (x.host ≠ h)).map (·.host)

/-- The reservation has been released: the other registrants of a Registrants Only or All Registrants reservation hear
of it. -/
def State.resReleased (s : State) (nsid h : Nat) (before : Ns) : State :=
  match before.holder, (s.ns nsid).holder with
  | some (_, ty), none => if 3 ≤ ty then s.resNotify nsid (before.otherHosts h) 2 else s
  | _, _ => s

/-- Registers, unregisters or replaces a key: args are the action, IEKEY, CPTPL, the current key and the new key.
(PRESUMED, log entry 16.)
(PRESUMED, log entry 93.) -/
def State.resRegister (s : State) (i nsid : Nat) (a : List Nat) : Nat × State :=
  let n := s.ns nsid
  let h := (s.inst i).hostId
  let act := a.getD 0 0
  let ie := a.getD 1 0 = 1
  let cptpl := a.getD 2 0
  let crkey := a.getD 3 0
  let nrkey := a.getD 4 0
  let mine := n.registrants.find? fun r => decide (r.host = h)
  let ptpl := fun (n : Ns) => { n with ptpl := if cptpl = 3 then true else if cptpl = 2 then false else n.ptpl }
  match act, mine with
  | 0, none =>
    if 64 ≤ n.registrants.length then (Status.invalidField, s)
    else (Status.success, s.modNs nsid fun n => ptpl { n with
      registrants := n.registrants ++ [{ host := h, key := nrkey }], resGen := n.resGen + 1 })
  | 0, some r => if r.key = nrkey then (Status.success, s.modNs nsid ptpl) else (Status.reservationConflict, s)
  | _, none => (Status.reservationConflict, s)
  | 1, some r =>
    if !ie ∧ r.key ≠ crkey then (Status.reservationConflict, s)
    else (Status.success, s.modNs nsid fun n => ptpl { n with
      registrants := n.registrants.filter fun x => decide (x.host ≠ h)
      holder := match n.holder with
        | some (k, ty) =>
          if ty = 5 ∨ ty = 6 then (if n.registrants.length ≤ 1 then none else n.holder)
          else if k = h then none else n.holder
        | none => none
      resGen := n.resGen + 1 })
  | 2, some r =>
    if !ie ∧ r.key ≠ crkey then (Status.reservationConflict, s)
    else (Status.success, s.modNs nsid fun n => ptpl { n with
      registrants := n.registrants.map fun x => if x.host = h then { x with key := nrkey } else x
      resGen := n.resGen + 1 })
  | _, some _ => (Status.invalidField, s)

/-- Releases or clears: args are the action, IEKEY, the type and the current key. (PRESUMED, log entry 16.)
(PRESUMED, log entry 93.) -/
def State.resRelease (s : State) (i nsid : Nat) (a : List Nat) : Nat × State :=
  let n := s.ns nsid
  let h := (s.inst i).hostId
  match n.registrants.find? fun r => decide (r.host = h) with
  | none => (Status.reservationConflict, s)
  | some r =>
    if a.getD 1 0 ≠ 1 ∧ r.key ≠ a.getD 3 0 then (Status.reservationConflict, s)
    else if a.getD 0 0 = 1 then
      (Status.success, (s.modNs nsid fun n => { n with
        registrants := [], holder := none, resGen := n.resGen + 1 }).resNotify nsid (n.otherHosts h) 3)
    else match n.holder with
      | none => (Status.success, s)
      | some (k, ty) =>
        if k ≠ h ∧ ty ≠ 5 ∧ ty ≠ 6 then (Status.success, s)
        else if a.getD 2 0 ≠ ty then (Status.invalidField, s)
        else (Status.success, s.modNs nsid fun n => { n with holder := none })

/-- Acquires, preempts, or preempts and aborts: args are the action, IEKEY, the type, the current key and the key to
preempt. A Preempt and Abort aborts the preempted hosts' commands by Table 3.6 (R361). (PRESUMED, log entry 16.)
(PRESUMED, log entry 93.) -/
def State.resAcquire (s : State) (i nsid : Nat) (a : List Nat) : Nat × State :=
  let n := s.ns nsid
  let h := (s.inst i).hostId
  let ty := a.getD 2 0
  match n.registrants.find? fun r => decide (r.host = h) with
  | none => (Status.reservationConflict, s)
  | some r =>
    if a.getD 1 0 ≠ 1 ∧ r.key ≠ a.getD 3 0 then (Status.reservationConflict, s)
    else if a.getD 0 0 = 0 then
      match n.holder with
      | none => if ty = 0 ∨ 6 < ty then (Status.invalidField, s)
        else (Status.success, s.modNs nsid fun n => { n with holder := some (h, ty) })
      | some (k, ty') => if k = h ∧ ty' = ty then (Status.success, s) else (Status.reservationConflict, s)
    else if 2 < a.getD 0 0 then (Status.invalidField, s)
    else
      let pk := a.getD 4 0
      -- an all-registrants reservation has every registrant as its holder
      let shared := match n.holder with
        | some (_, t) => decide (t = 5) || decide (t = 6)
        | none => false
      let hit := (n.registrants.filter fun x => decide (x.key = pk)).map (·.host)
      let wide := shared && decide (pk = 0)
      let takes := wide || (!shared && n.holder.any fun x => hit.contains x.1)
      if (pk = 0 ∧ !shared) ∨ (takes ∧ (ty = 0 ∨ 6 < ty)) then (Status.invalidField, s)
      else if !wide ∧ hit.isEmpty then (Status.reservationConflict, s)
      else
      let out := (if wide then n.registrants.map (·.host) else hit).filter fun x => decide (x ≠ h)
      let s := s.modNs nsid fun n => { n with
        registrants := n.registrants.filter fun x => !(out.contains x.host)
        holder := if takes then some (h, ty) else n.holder.map fun x => if out.contains x.1 then (h, x.2) else x
        resGen := n.resGen + 1 }
      let s := s.resNotify nsid out 1
      let s := if a.getD 0 0 ≠ 2 then s
        else s.each (s.intake.tags.map (·.1)) fun s t =>
          let x := s.tag t
          if x.stage = .inFlight ∧ x.cmd.nsid = nsid ∧ out.contains (s.inst x.inst).hostId then
            (s.abortTag t Status.abortRequested).2
          else s
      (Status.success, s)

/-! ### Conventional rows (R59, R60, R176, R201) -/

/-- Blocks of 4 KiB a conventional row holds. (DEDUCED, log entry 73.) -/
def State.rowBlocksMax (s : State) (r : RowRef) : Nat :=
  16 * (s.group r.group).geo.wordlines * (s.group r.group).geo.unitBlocks

/-- The open row of a place key. -/
def Ns.openAt (n : Ns) (key : Nat) : Option OpenRow := n.opens.get none key
def State.setOpen (s : State) (nsid key : Nat) (o : Option OpenRow) : State :=
  s.modNs nsid fun n => { n with opens := n.opens.set none key o }

/-- The open conventional rows of a namespace: place key and row. -/
def Ns.openRows (n : Ns) : List (Nat × OpenRow) := n.opens.filterMap fun o => o.2.map fun x => (o.1, x)

/-- A conventional row that holds nothing and is erased. -/
def State.convFree (s : State) (n : Ns) (r : RowRef) : Bool :=
  (s.rowRec r).endAt.isNone && decide ((s.rowRec r).issued = 0) && !(n.openRows.any fun o => decide (o.2.row = r)) &&
    decide (n.relRow ≠ some r) && !(s.flash.releasing.contains r) && !(s.flash.relWaits.any fun w => decide (w.row = r)) &&
    !((s.group r.group).withdrawn) && !((s.group r.group).gone.contains r.row)

/-- A free conventional row in a group, with its pool blocks reserved as R176 has it at the opening of a row; none while
no reservation is free. -/
def State.freshRow (s : State) (nsid : Nat) (group : Option Nat) : Option (RowRef × State) :=
  match (s.ns nsid).rows.find? fun r => s.convFree (s.ns nsid) r && group.all fun g => r.group = g with
  | none => none
  | some r =>
    let t := (s.modRow r fun _ => { nsid := nsid, born := s.intake.seqNext }).reservePool r
    if (t.rowRec r).covered then some (r, t) else none

/-- Closes a conventional row at an offset: it is padded and waits for verify (R59, R178). -/
def State.endConvRow (s : State) (r : RowRef) (at_ : Nat) : State :=
  (s.modRow r fun y => { y with endAt := some at_ }).driveRow r at_

/-- Ends the open row of a place key. -/
def State.endOpen (s : State) (nsid key : Nat) : State :=
  match (s.ns nsid).openAt key with
  | some o => (s.setOpen nsid key none).endConvRow o.row o.next
  | none => s

/-- Issues what the open row of a place key holds. -/
def State.driveOpen (s : State) (nsid key : Nat) : State :=
  match (s.ns nsid).openAt key with
  | some o => s.issueRow o.row o.next
  | none => s

/-- A conventional write whose data is all in takes its place in the open row of its place key; one that does not fit
there whole opens the next row (R59, R60, R87, R201). With no row to open it waits. (DEDUCED, log entry 73.) -/
def State.placeConv (s : State) (seq : Nat) : State :=
  match s.trail.expos.find? fun e => decide (e.seq = seq) with
  | none => s
  | some e =>
    let k := e.place
    let fits := match (s.ns e.nsid).openAt k with
      | some o => decide (o.next + e.left.length ≤ s.rowBlocksMax o.row)
      | none => false
    let s :=
      if fits then s
      else
        let s := s.endOpen e.nsid k
        match s.freshRow e.nsid (keyGroup k) with
        | some x => x.2.setOpen e.nsid k (some { row := x.1 })
        | none => s
    match (s.ns e.nsid).openAt k with
    | none => s
    | some o =>
      let s := s.setOpen e.nsid k (some { o with next := o.next + e.left.length })
      let s := s.modExpo seq fun e => { e with
        row := some o.row
        left := e.left.zipIdx.map fun y => { y.1 with off := o.next + y.2 } }
      s.driveOpen e.nsid k

/-- Conventional writes that waited for a row take their place. -/
def State.resumeConv (s : State) : State :=
  s.each (s.trail.expos.filter fun e =>
    e.row.isNone && e.dataIn && !e.zeros && !e.failed && !e.left.isEmpty && !(s.ns e.nsid).zoned) fun s e => s.placeConv e.seq

/-- Where the data admitted to a row ends: none for a row that takes none. -/
def State.endOf (s : State) (r : RowRef) : Option Nat :=
  let x := s.rowRec r
  match x.endAt, x.zone with
  | some e, _ => some e
  | none, some z => if (s.zoneAt x.nsid z).row = some r then some (s.zoneAt x.nsid z).wp else none
  | none, none => ((s.ns x.nsid).openRows.find? fun o => decide (o.2.row = r)).map (·.2.next)

/-- The row is the target of a running Refire or relocation, which fills it. -/
def State.isTarget (s : State) (r : RowRef) : Bool :=
  s.zone.dieSets.any fun d => (d.2.running.any fun x => decide (x.target = r)) || (d.2.relocs.any fun x => decide (x.target = r))

/-- Rows whose programs may have waited go on. -/
def State.driveAgain (s : State) (which : RowRec → Bool) : State :=
  s.each ((s.flash.rows.filter fun x => which x.2 && !(s.isTarget (rowOfKey x.1))).map fun x => rowOfKey x.1) fun s r =>
    match s.endOf r with
    | some e => s.driveRow r e
    | none => s

/-- Reclaim Unit Handle Update (R61): a reclaim unit handle of a namespace goes on with fresh reclaim units. -/
def State.endHandle (s : State) (nsid ruh : Nat) : State :=
  s.each ((s.ns nsid).openRows.filter fun o => decide (keyHandle o.1 = ruh)) fun s o => s.endOpen nsid o.1

/-- Reclaim Unit Handle Status (R61): for every placement handle, its reclaim unit handle and the blocks left of the
reclaim units it has open, or of a whole one. (DESIGN CHOICE, log entry 104.) -/
def State.handleStatus (s : State) (nsid : Nat) : List Nat :=
  let n := s.ns nsid
  let whole := match n.rows with
    | r :: _ => s.rowBlocksMax r
    | [] => 0
  n.handles.zipIdx.flatMap fun h =>
    match n.openRows.filter fun o => decide (keyHandle o.1 = h.1) with
    | [] => [h.2, h.1, whole]
    | l => l.flatMap fun o => [h.2, h.1, s.rowBlocksMax o.2.row - o.2.next]

/-- The effect of a reservation or I/O management command at its admission point. -/
def State.admitOther (s : State) (t : Nat) : State :=
  let r := s.tag t
  let c := r.cmd
  let (st, s) := match c.opc with
    | .resRegister =>
      let x := s.resRegister r.inst c.nsid c.args
      (x.1, (x.2.resReleased c.nsid (s.inst r.inst).hostId (s.ns c.nsid)).resRecord c.nsid)
    | .resAcquire =>
      let x := s.resAcquire r.inst c.nsid c.args
      (x.1, x.2.resRecord c.nsid)
    | .resRelease =>
      let x := s.resRelease r.inst c.nsid c.args
      (x.1, (x.2.resReleased c.nsid (s.inst r.inst).hostId (s.ns c.nsid)).resRecord c.nsid)
    | .resReport =>
      let n := s.ns c.nsid
      (Status.success, s.reply r.inst r.sq c.cid ([n.resGen, match n.holder with
        | some (_, ty) => ty
        | none => 0, b2n n.ptpl] ++ n.registrants.flatMap fun (x : Registrant) =>
          [x.host, x.key, b2n (match n.holder with
            | some (k, ty) => k = x.host || ty = 5 || ty = 6
            | none => false)]))
    | .zoneRecv => (Status.success, s.reply r.inst r.sq c.cid (s.zoneReport c.nsid (c.slba / zoneBlocks) (c.args.getD 0 1)))
    | .ioMgmtSend =>
      let n := s.ns c.nsid
      if n.zoned ∨ !(s.dieSet n.dieSet).fdp ∨ c.args.any (fun h => decide (n.handles.length ≤ h)) then
        (Status.invalidField, s)
      else (Status.success, s.each c.args fun s h => s.endHandle c.nsid (n.handles.getD h 0))
    | .ioMgmtRecv =>
      let n := s.ns c.nsid
      if n.zoned ∨ !(s.dieSet n.dieSet).fdp then (Status.invalidField, s)
      else (Status.success, s.reply r.inst r.sq c.cid (s.handleStatus c.nsid))
    | _ => (Status.success, s)
  if c.opc = .fixity then s.admitFixity t else s.modTag t fun x => { x with done := some st }

/-- The admission point (step 8): the sequence is taken, the deficit and the throttle charged, the queue's head free for
the next entry. -/
def State.enterFlight (s : State) (t : Nat) : State :=
  let r := s.tag t
  let c := r.cmd
  let seq := s.intake.seqNext
  let s := if c.entriesNeeded = 0 ∧ c.opc ≠ .flush then s else
    { s with intake := { s.intake with seqNext := seq + 1 } }
  let s := if min s.intake.f s.intake.g < 100 ∧ r.cls = .b ∧ c.opc ≠ .fixity then
      let depth := s.cfgOf Cfg.INTAKE_THROTTLE_BURST * 1048576
      { s with intake := { s.intake with bucketSpent := depth - s.bucket + c.meter, bucketTime := s.now } }
    else s
  let s := s.modInst r.inst fun x => { x with
    deficit := if r.cls = .b then x.deficit - c.cost else x.deficit
    sqs := x.sqs.upd {} r.sq fun a => { a with staged := none } }
  let s := { s with intake := { s.intake with
    sieveWait := s.intake.sieveWait.filter (· ≠ t)
    walkWait := if s.intake.walkWait = some t then none else s.intake.walkWait } }
  s.modTag t fun x => { x with stage := .inFlight, seq := seq, waitStep := 0 }

/-- A command passes the admission point and has its effect. -/
def State.admitAt (s : State) (t : Nat) : State :=
  let seq := s.intake.seqNext
  let opc := (s.tag t).cmd.opc
  let s := s.enterFlight t
  match opc with
  | .read => s.admitRead t seq
  | .write => s.admitWrite t seq
  | .writeZeroes => s.admitWrite t seq
  | .append => s.admitWrite t seq
  | .dsm => s.admitDsm t seq
  | .zoneSend => s.admitZoneSend t seq
  | .flush => s.modTag t fun x => { x with done := some 0 }
  | _ => s.admitOther t

/-- A write that names a placement handle out of range is an FDP event of NVMe's type 3, recorded where Feature 0x1E has
enabled it (R60, R61). -/
def State.fdpBadHandle (s : State) (c : HostCmd) : State :=
  let d := (s.ns c.nsid).dieSet
  if (c.opc = .write ∨ c.opc = .writeZeroes) ∧ (s.dieSet d).fdp ∧ bit (s.dieSet d).fdpEvents 3 ∧ !(s.placementOk c) then
    s.modDieSet d fun x => { x with fdpLog := x.fdpLog ++ [3] }
  else s

/-- A lookup that a command's admission makes meets a position whose shadow copy cannot be read: it waits for the rewrite
(R124). -/
def State.lookupWaits (s : State) (c : HostCmd) (checked : Bool) : Bool :=
  let n := s.ns c.nsid
  (!checked && (s.rangesOf c).any fun r => s.unverifiedIn r.1 r.2 [scopeNs c.nsid, scopeDieSet n.dieSet] 0 0x3F) ||
    (!n.zoned && s.unverifiedIn c.handle c.handle [scopePlacement c.nsid] 0x80 0x80) ||
    (c.opc = .read && s.unverifiedIn c.slba (c.slba + c.nlb - 1) [scopeNs c.nsid] 0x40 0x40)

/-- A staged command at the head of its queue goes as far along Table 3.4 as its conditions allow (R78), no command of a
higher class waiting (R70). (DESIGN CHOICE, log entry 92.) -/
def State.tryAdmission (s : State) (t : Nat) (hit : FalseHit) : State :=
  let r := s.tag t
  let c := r.cmd
  if r.stage ≠ .staged ∨ !s.intakeOn ∨ !(s.admits r.inst) ∨ s.higherWaits r.cls then s
  else
    let s := s.lookupHit hit
    if s.lookupWaits c r.checked then s
    else match s.commandCheck t with
      | some st => (s.fdpBadHandle c).postTag t st 0
      | none =>
        let s := s.modTag t fun x => { x with checked := true }
        if (s.ns c.nsid).closing then s.waitAt t 3
        else if (s.inst r.inst).deficit ≤ 0 ∧ r.cls = .b then s
        else match s.sieveStep t with
          | some s' => s'
          | none =>
            let h := s.heldAt t
            if h ≠ 0 then s.waitAt t h
            else match s.pointCheck c with
              | some st => s.postTag t st 0
              | none =>
                let hits := s.matches_ c.slba (c.slba + c.nlb - 1) [scopeNs c.nsid] 0x40 0x40
                if c.opc = .read ∧ !hits.isEmpty ∧ 64 ≤ s.sieve.walks.length then
                  { s with intake := { s.intake with walkWait := some t } }.waitAt t 8
                else s.admitAt t

/-- The tag of a staged command of a queue with an identifier. -/
def State.stagedTag (s : State) (i q cid : Nat) : Option Nat :=
  match ((s.inst i).sqs.get {} q).staged with
  | some t => if (s.tag t).cmd.cid = cid ∧ (s.tag t).stage = .staged then some t else none
  | none => none

/-- A row that names one command: the command is fetched if it is not staged yet, and goes to its admission. -/
def State.runIo (s : State) (i q : Nat) (c : HostCmd) : State :=
  match s.stagedTag i q c.cid with
  | some t => s.tryAdmission t c.hit
  | none => match s.stageCmd i q c with
    | (some t, s') => s'.tryAdmission t c.hit
    | (none, _) => s

/-! ### Data arrival, completion, map update -/

/-- Whole 256 KiB pieces that have arrived, counted from the start of a write of `n` blocks (R242). -/
def piecesIn (arrived : List Nat) (n : Nat) : Nat → Nat
  | 0 => 0
  | k + 1 =>
    let p := piecesIn arrived n k
    if p = k ∧ (List.range 64).all (fun j => decide (n ≤ 64 * k + j) || arrived.contains (64 * k + j)) ∧ 64 * k < n then k + 1
    else p

/-- One block of a write arrives in Far Hamper (R86), with the protection information the controller generates (R217). -/
def State.arrive (s : State) (t idx : Nat) : State :=
  let r := s.tag t
  if r.arrived.contains idx ∨ r.cmd.nlb ≤ idx then s
  else
    let s := match r.units[idx]? with
      | some u => s.modUnit u fun x => { x with data := some ((s.ns r.cmd.nsid).received r.cmd idx (r.cmd.data.getD idx 0)) }
      | none => s
    (s.answerReads t 1).modTag t fun x => { x with arrived := x.arrived ++ [idx] }

/-- All of a write's data is in Far Hamper (R241): its completion may be posted, its units may be programmed. -/
def State.dataAllIn (s : State) (t : Nat) : State :=
  let r := s.tag t
  let s := s.each (List.range r.cmd.nlb) fun s k => s.arrive t k
  let s := s.modTag t fun x => { x with dataIn := true, done := some 0 }
  let s := s.modExpo r.seq fun e => { e with dataIn := true, pieces := r.cmd.nlb / 64 + 1 }
  let n := s.ns r.cmd.nsid
  if n.zoned then
    match (s.trail.expos.find? fun e => decide (e.seq = r.seq)).bind (·.row) with
    | some row => s.driveRow row (match (s.rowRec row).endAt with
        | some e => e
        | none => (s.zoneAt r.cmd.nsid (r.lba / zoneBlocks)).wp)
    | none => s
  else s.placeConv r.seq

/-- A source whose data can be sent. -/
def State.sourceHere (s : State) : Source → Bool
  | .media _ h => h
  | .zeros => true
  | .fwd u _ => (s.hunit u).data.isSome

/-- The number a source of a namespace's block stands for. (PRESUMED, log entry 24.) -/
def State.sourceData (s : State) (n : Ns) : Source → Nat
  | .media (.data v) _ => v
  | .fwd u _ => (s.hunit u).data.getD 0
  | _ => n.ones

/-- The status of a read whose blocks are all here: a lost block, else the first protection information check that fails
(R218), in block order. -/
def State.readStatus (s : State) (r : TagRec) : Nat :=
  let n := s.ns r.cmd.nsid
  if r.sources.any (fun x => x = .media .lost true) then Status.unrecoveredRead
  else ((r.sources.zipIdx.map fun x => n.piCheck r.cmd x.2 (s.sourceData n x.1)).find? fun st => decide (st ≠ 0)).getD 0

/-- Every write a Flush covers has posted (R90). -/
def State.flushReady (s : State) (r : TagRec) : Bool :=
  s.trail.expos.all fun e =>
    e.posted || e.failed || decide (r.seq ≤ e.seq) ||
      (if r.cmd.nsid = 0xFFFFFFFF then !((s.ns e.nsid).attached.contains r.inst) else e.nsid ≠ r.cmd.nsid)

/-- A zone's trailer is on all 16 dies, or the zone has none to wait for (R44). -/
def State.trailerDone (s : State) (nsid z : Nat) : Bool :=
  let x := s.zoneAt nsid z
  match x.row with
  | some row => x.st ≠ .zsf || decide ((s.rowRec row).trailer.length = 16)
  | none => true

/-- The programs of a Refire that this command abandoned have not finished (R45). -/
def State.refireRuns (s : State) (seq : Nat) : Bool :=
  s.flash.relWaits.any fun w => w.refire && decide (w.seq = seq) && s.programsBefore w.row

/-- The work of an admitted Zone Management Send has ended: a Finish waits for its trailers, a Reset for the programs of
the Refires it abandoned. -/
def State.actionDone (s : State) (r : TagRec) : Bool :=
  match r.cmd.zact with
  | .finish =>
    if r.cmd.selectAll then (s.ns r.cmd.nsid).zones.all fun z => s.trailerDone r.cmd.nsid z.1
    else s.trailerDone r.cmd.nsid (r.cmd.slba / zoneBlocks)
  | .reset => !(s.refireRuns r.seq)
  | _ => true

/-- Every earlier write or append of a write's zone has completed (R48). -/
def State.zoneTurn (s : State) (r : TagRec) : Bool :=
  !(s.intake.tags.any fun x => x.2.stage = .inFlight && decide (x.2.seq < r.seq) && decide (x.2.cmd.nsid = r.cmd.nsid) &&
    x.2.cmd.fwNeed ≠ 0 && decide (x.2.lba / zoneBlocks = r.lba / zoneBlocks))

/-- Whether a finished command's completion may be posted now (R48, R91, R245 step 2). -/
def State.mayPost (s : State) (t : Nat) : Bool :=
  let r := s.tag t
  r.stage = .inFlight && decide (r.fate = 0) && (match r.cmd.opc with
    | .read => r.done.isSome || r.sources.all s.sourceHere
    | .flush => s.flushReady r
    | .zoneSend => r.done.isSome && !s.trail.dumpMode && s.actionDone r
    | _ =>
      r.done.isSome && !(s.trail.dumpMode && r.cmd.fwNeed ≠ 0) &&
        (r.cmd.fwNeed = 0 || !(s.ns r.cmd.nsid).zoned || r.done ≠ some 0 || s.zoneTurn r))

/-- Hands a write's units to the writer of its row's group (R314, R315). -/
def State.handToWriter (s : State) (seq : Nat) : State :=
  match s.trail.expos.find? fun e => decide (e.seq = seq) with
  | none => s
  | some e =>
    let g := match e.row with
      | some r => r.group
      | none => 0
    s.each (e.left ++ e.ready) fun s x => s.modUnit x.unit fun u => { u with owner := .writer, ownerId := g }

/-- Posts a finished command's completion (R91): a read's data goes to the host, a write's units pass to the writer. -/
def State.complete (s : State) (t : Nat) : State :=
  if !(s.mayPost t) ∨ s.ideBlocked then s
  else
    let r := s.tag t
    let c := r.cmd
    let st := r.done.getD 0
    match c.opc with
    | .read =>
      let n := s.ns c.nsid
      let st := r.done.getD (s.readStatus r)
      let s := if st = 0 then s.reply r.inst r.sq c.cid (r.sources.map fun x => n.toHost c (s.sourceData n x)) else s
      (s.endRead t).postTag t st 0
    | .flush => s.postTag t 0 0
    | .abort => s.postTag t st r.dw0
    | .admin => s.postTag t st r.dw0
    | .aer => s.postTag t st r.dw0
    | o =>
      let dw0 := if st = 0 then r.dw0 else 0
      if c.fwNeed ≠ 0 then
        let s := if st = 0 then (s.handToWriter r.seq).modExpo r.seq fun e => { e with posted := true } else s
        (s.postTag t st dw0).sweepExpos
      else
        let s := if o = .dsm ∧ !((s.ns c.nsid).zoned) ∧ c.dealloc then s else s.removeEntries r.entries
        let s := if o = .dsm then s.modExpo r.seq fun e => { e with posted := true } else s
        s.postTag t st dw0

/-- Whether an earlier-admitted read still has to take a block (R88, R131): its media read is out, or the write that
supplies the block has no data yet. -/
def State.readHolds (s : State) (nsid lba seq : Nat) : Bool :=
  s.intake.tags.any fun x =>
    x.2.stage = .inFlight && x.2.cmd.opc = .read && decide (x.2.cmd.nsid = nsid) && decide (x.2.seq < seq) &&
      decide (x.2.cmd.slba ≤ lba) && decide (lba < x.2.cmd.slba + x.2.cmd.nlb) &&
      (match x.2.sources[lba - x.2.cmd.slba]? with
       | some src => !(s.sourceHere src)
       | none => false)

/-- Units of the 256 KiB piece of a write that holds a block (Table 8.8). -/
def Expo.pieceLen (e : Expo) (lba : Nat) : Nat := min 64 (e.nlb - (lba - e.slba) / 64 * 64)

/-- Sets a block's map entry unless the entry, or the zone's latest Reset, is younger (R45, R88). -/
def State.setMap (s : State) (nsid lba seq : Nat) (b : Blk) : State :=
  let young := if (s.ns nsid).zoned then decide (seq < (s.zoneAt nsid (lba / zoneBlocks)).resetSeq) else false
  if young ∨ seq < (s.blkAt nsid lba).seq then s else s.modBlk nsid lba fun _ => { b with seq := seq }

/-- The map update of a write (R88): blocks programmed with parity whose earlier reads have taken them. -/
def State.mapUpdate (s : State) (seq : Nat) : State :=
  (s.trail.expos.filter fun e => decide (e.seq = seq) && !e.failed).foldl (fun s e =>
    if e.zeros then
      if !e.zerosDurable ∨ (List.range e.nlb).any (fun k => s.readHolds e.nsid (e.slba + k) seq) then s
      else
        let s := s.each (List.range e.nlb) fun s k => s.setMap e.nsid (e.slba + k) seq {}
        let s := s.releaseUnits (e.left.map (·.unit))
        let s := { s with trail := { s.trail with expos := s.trail.expos.map fun (x : Expo) =>
          if x.seq = seq ∧ x.slba = e.slba then { x with zeros := false, left := [] } else x } }
        s.sweepExpos
    else
      let free := e.ready.filter fun x => !(s.readHolds e.nsid x.lba seq)
      let s := s.each free fun s x =>
        let u := s.hunit x.unit
        s.setMap e.nsid x.lba seq { content := if u.poisoned then .lost else .data (u.data.getD 0), row := e.row, off := x.off
                                    pieceLen := e.pieceLen x.lba, pieceIdx := (x.lba - e.slba) % 64 }
      let s := if free.isEmpty ∨ (s.ns e.nsid).zoned then s else s.trailRec (.convMap e.nsid e.slba e.nlb seq)
      let s := s.releaseUnits (free.map (·.unit))
      (s.modExpo seq fun y => { y with ready := y.ready.filter fun x => !(free.contains x) }).sweepExpos) s

/-! ### Uncorrectable unit data (R317) -/

/-- The data of a unit of Far Hamper is lost: a write that has not posted fails with Internal Error; a posted block is
programmed as poisoned, counted and recorded. -/
def State.loseUnit (s : State) (u : Nat) : State :=
  match s.trail.expos.find? fun e => (e.left ++ e.ready).any fun x => decide (x.unit = u) with
  | none => s
  | some e =>
    if !e.posted then
      match s.intake.tags.find? fun t => t.2.stage = .inFlight && decide (t.2.seq = e.seq) with
      | some t => (s.failWrite e.seq 3).modTag t.1 fun r => { r with done := some Status.internalError }
      | none => s.failWrite e.seq 3
    else
      let s := s.modUnit u fun x => { x with poisoned := true }
      let s := s.countLost e.nsid 1
      s.log Code.hole 2 0x1B3 [e.nsid, e.slba, 1]

/-- The data of a read's unit of Near Hamper is lost: it is filled again by a new read from the media. -/
def State.refillUnit (s : State) (u : Nat) : State :=
  match s.intake.tags.find? fun t => t.2.stage = .inFlight && t.2.cmd.opc = .read && t.2.units.contains u with
  | none => s
  | some t =>
    let k := t.2.units.idxOf u
    match t.2.sources[k]? with
    | some (.media c true) =>
      let src : Source := .media c false
      (s.modTag t.1 fun r => { r with sources := r.sources.set k src }).queueReads t.1 t.2.cmd.nsid [(t.2.cmd.slba + k, k, src)]
    | _ => s

/-- Uncorrectable data of a unit, by its pool (R317). -/
def State.unitLost (s : State) (u : Nat) : State :=
  if u / 4194304 = poolFW then s.loseUnit u else if u / 4194304 = poolNR then s.refillUnit u else s

end Sys2Proof.Machine
end

