-- ==== Sys2Proof/Machine/OpsAdmin.lean ====
section
/-!
DEFINITION. What every admin command shares: when intake takes it, the tag it holds, how it completes (Table 3.2, R70,
R74 to R77, R528).
-/

namespace Sys2Proof.Machine

/-- Intake can fetch and admit the head entry of an instance's admin queue (R70, Tables 3.2 and 3.4). -/
def State.adminOn (s : State) (i : Nat) : Bool := s.canFetch i 0

/-- The entry's row runs as a command of its own: its identifier is not in flight (R76). -/
def State.takes (s : State) (i cid : Nat) : Bool := s.adminOn i && !(s.cidInFlight i 0 cid)

/-- The admin command fetched and admitted: a command of Class U holds one unit of the Near Hamper reserve (R77; one unit
a command is a DESIGN CHOICE, log entry 102). -/
def State.fetchAdmin (s : State) (i cid : Nat) (o : Opc) : Nat × State :=
  let t := (s.freeTag (classOf i 0)).getD 0
  let s := s.takeEntry i 0 t { cid := cid, opc := o, nsid := 0 } .inFlight
  if i ≠ 0 then (t, s)
  else
    let (us, s) := s.alloc poolNU 1 0 .command t
    (t, s.modTag t fun x => { x with units := us.getD [] })

/-- An admin command: nothing happens while it cannot be fetched; an identifier already in flight is refused (R76); else
its effect on the state in which its tag holds it, which completes it or lets it wait. -/
def State.adminAs (s : State) (i cid : Nat) (o : Opc) (f : State → State) : Res :=
  if !(s.adminOn i) then .next s
  else
    let r := s.fetchAdmin i cid o
    .next (if s.cidInFlight i 0 cid then r.2.postTag r.1 Status.invalidField 0 else f r.2)
def State.admin (s : State) (i cid : Nat) (f : State → State) : Res := s.adminAs i cid .admin f

/-- The completion of an admin command with a status and Dword 0. -/
def adminAnswer (i cid : Nat) (r : Nat × Nat × State) : State := r.2.2.adminCqe i cid r.1 r.2.1

/-- An admin command whose effect is a completion status with Dword 0 and the state after it. -/
def State.adminDo (s : State) (i cid : Nat) (f : State → Nat × Nat × State) : Res :=
  s.admin i cid fun s => adminAnswer i cid (f s)

/-- An admin command refused with a status. -/
abbrev refusedWith (status : Nat) (s : State) : Nat × Nat × State := (status, 0, s)

/-- An admin command that has succeeded. -/
abbrev succeeded (s : State) : Nat × Nat × State := (Status.success, 0, s)

/-! ### Admin commands that wait for namespaces to become idle (R77) -/

/-- The command is in flight and waits, with the operands of its row. -/
def State.adminWaits (s : State) (i cid : Nat) (key : List Nat) : Bool :=
  match s.findTag i 0 cid with
  | some t => s.running && (s.tag t).stage = .inFlight && decide ((s.tag t).fate = 0) && decide ((s.tag t).cmd.args = key)
  | none => false

/-- A command that may have to wait; its row, given again, goes on with it. The key begins with the command's opcode. -/
def State.adminWaiting (s : State) (i cid : Nat) (key : List Nat) (f : State → State) : Res :=
  if s.adminWaits i cid key then .next (f s) else s.admin i cid f

/-- The command waits with the operands of its row, its opcode first among them; two or more make it one that an Abort
ends while it waits (Table 3.6). -/
def State.keepWaiting (s : State) (i cid : Nat) (key : List Nat) (nsids : List Nat) : State :=
  match s.findTag i 0 cid with
  | some t => s.modTag t fun x => { x with cmd := { x.cmd with args := key, ranges := nsids.map fun n => (n, 0) } }
  | none => s

/-- The command waits, and new commands to the namespaces wait at step 3. -/
def State.closeFor (s : State) (i cid : Nat) (key nsids : List Nat) : State :=
  s.each nsids (fun s n => s.modNs n fun x => { x with closing := true }) |>.keepWaiting i cid key nsids

end Sys2Proof.Machine
end

