-- ==== Sys2Proof/Machine/OpsTenant.lean ====
section
/-!
DEFINITION. What the rows of the instances share: mailboxes (R372 to R376), the quiesce of an instance (R377 to R381),
the drain report (R383), the reset of a function (R7, R366), removal (R384).
-/

namespace Sys2Proof.Machine

/-! ### Who an instance is -/

/-- A physical function (R344). -/
def State.isPf (s : State) (i : Nat) : Bool := i = 0 || s.tenant.second = some i

/-- The instance controls the windows of a die set. -/
def State.controlsSet (s : State) (inst d : Nat) : Bool :=
  inst = 0 || ((s.inst inst).flags = 1 && (s.inst inst).dieSets.contains d)

/-- A tenant a manager's command may name (R370). -/
def State.isTenant (s : State) (i : Nat) : Bool := decide (1 ≤ i) && decide (i ≤ 511) && !(s.isPf i)

/-- The manager of the tenants alone may give an admin command. (DEDUCED, log entry 91.) -/
def State.managerDo (s : State) (inst cid : Nat) (f : State → Nat × Nat × State) : Res :=
  s.adminDo inst cid fun s => if inst ≠ 0 then refusedWith Status.invalidOpcode s else f s

/-! ### Mailboxes (R372 to R376, Table 13.7) -/

def Mailbox.opcode (m : Mailbox) : Nat := m.out.get 0 0 % 65536
def Mailbox.sequence (m : Mailbox) : Nat := m.out.get 0 0 / 65536
def Mailbox.length (m : Mailbox) : Nat := m.out.get 0 1 % 65536

/-- A doorbell is refused (R374). -/
def Mailbox.refused (m : Mailbox) : Bool :=
  m.outBusy || m.opcode = 0 || decide (0xF000 ≤ m.opcode) || decide (240 < m.length)

/-- The receiver's buffer after the delivery of a message: 16 + length bytes are copied, STATUS is 0 and INSTANCE is
filled (Table 13.7). -/
def deliverWords (src dst : Tab Nat) (len inst : Nat) : Tab Nat :=
  let d := (((dst.set 0 0 (src.get 0 0)).set 0 1 (src.get 0 1 % 65536)).set 0 2 (inst % 65536)).set 0 3 0
  (List.range (ceilDiv len 4)).foldl (fun d k =>
    let n := min 4 (len - 4 * k)
    let old := d.get 0 (4 + k)
    d.set 0 (4 + k) (old / 2 ^ (8 * n) * 2 ^ (8 * n) + src.get 0 (4 + k) % 2 ^ (8 * n))) d

/-- The manager's vector for mailbox events (Table 13.15). -/
def State.signalManager (s : State) : State :=
  if s.reg Reg.MBX_MGR_CTRL_IEN = 1 then s.interrupt 0 (s.reg Reg.MBX_MGR_CTRL_VECTOR) else s

/-- The tenant's vector for mailbox events (Table 13.14). -/
def State.signalTenant (s : State) (i : Nat) : State :=
  if (s.inst i).mbxIen then s.interrupt i (s.inst i).mbxVector else s

/-- Clears both directions of an instance's mailbox (R376): gives the messages dropped. -/
def State.clearMailbox (s : State) (i : Nat) : Nat × State :=
  let x := s.inst i
  let fromTenant := x.mbxM.inFull
  let toTenant := x.mbxT.inFull
  let s := s.modInst i fun x => { x with
    mbxT := { x.mbxT with inFull := false, outBusy := false }
    mbxM := { x.mbxM with
      inFull := false, dropped := x.mbxM.dropped || fromTenant, outBusy := false
      ackStatus := if toTenant then 0xFFFF else x.mbxM.ackStatus
      ackSeq := if toTenant then x.mbxM.sequence else x.mbxM.ackSeq } }
  (b2n fromTenant + b2n toTenant, s)

/-! ### Fates (Table 13.9) -/

/-- NVMe's opcode of a command; an admin command that waits names its own first among its operands. -/
def opcodeNumber (args : List Nat) : Opc → Nat
  | .flush => 0x00
  | .write => 0x01
  | .read => 0x02
  | .writeZeroes => 0x08
  | .dsm => 0x09
  | .resRegister => 0x0D
  | .resReport => 0x0E
  | .resAcquire => 0x11
  | .ioMgmtRecv => 0x12
  | .resRelease => 0x15
  | .ioMgmtSend => 0x1D
  | .zoneSend => 0x79
  | .zoneRecv => 0x7A
  | .append => 0x7D
  | .fixity => 0x85
  | .aer => 0x0C
  | .abort => 0x08
  | .admin => args.headD 0xFF
  | .unsupported => 0xFF

/-- The fate of a command fetched and not posted at the quiesce point. -/
def TagRec.fateOf (r : TagRec) : Nat :=
  if r.stage = .staged then 1
  else match r.cmd.opc with
    | .read => 2
    | .zoneRecv => 2
    | .write => if r.dataIn then 4 else 3
    | .writeZeroes => if r.dataIn then 4 else 3
    | .append => if r.dataIn then 4 else 3
    | .zoneSend => 5
    | .dsm => if r.cmd.dealloc then 5 else 6
    | _ => 6

/-- A report entry (Table 13.10): an append's SLBA is the assigned LBA when it is kept. -/
def TagRec.fateEntry (r : TagRec) : List Nat :=
  [r.sq, r.cmd.cid, opcodeNumber r.cmd.args r.cmd.opc, r.fateOf, r.cmd.nsid, r.cmd.nlb - 1,
   if r.cmd.opc = .append ∧ r.fateOf = 4 then r.lba else r.cmd.slba]

/-- Withdraws the queued die reads of a tag (Table 13.8, step 4). -/
def State.withdrawReads (s : State) (t : Nat) : State :=
  { s with flash := { s.flash with dies := s.flash.dies.mapVals {} fun _ d => { d with
    shortQ := d.shortQ.filter fun o => match o.owner with
      | .read t' _ _ => t' ≠ t
      | _ => true } } }

/-- Makes a command's entries internal and gives its units to the writer, charged to instance 0 (R380). -/
def State.keepWrite (s : State) (t : Nat) : State :=
  let r := s.tag t
  let s := s.each r.entries fun s p => s.modEnt p fun e => { e with payload := 0x8000 + t }
  let s := s.handToWriter r.seq
  let s := s.each r.units fun s u => s.modUnit u fun x => if x.st = 0 then x else { x with inst := 0 }
  let s := s.modExpo r.seq fun e => { e with posted := true }
  s.modTag t fun x => { x with entries := [], units := [] }

/-- Steps 1 to 3 of Table 13.8 for one command. -/
def State.quiesceTag (s : State) (t : Nat) : State :=
  let r := s.tag t
  let f := r.fateOf
  let s := (s.modTag t fun x => { x with fate := f }).discardDescs t r.gen
  if f = 3 then s.failWrite r.seq 4
  else if f = 4 ∨ (f = 5 ∧ r.cmd.opc = .dsm) then s.keepWrite t
  else if f = 5 then s.each r.entries fun s p => s.modEnt p fun e => { e with payload := 0x8000 + t }
  else if f = 2 then s.withdrawReads t
  else if r.cmd.opc = .admin then s.dropWaiting t
  else s

/-- Kinds of Table 13.10. -/
abbrev kindStop : Nat := 1
abbrev kindFlr : Nat := 2
abbrev kindReset : Nat := 3
abbrev kindLimit : Nat := 4
abbrev kindPerst : Nat := 5

/-- A cause joins the Stop in progress (Table 13.3). (DEDUCED, log entry 85.) -/
def State.joinStop (s : State) (i kind : Nat) (byManager : Bool) (waiter : Option (Nat × Nat)) : State :=
  s.modInst i fun x => { x with quiesce := { x.quiesce with
    byManager := x.quiesce.byManager || byManager
    kind := if x.quiesce.kind % 128 = kind then x.quiesce.kind else 128 + x.quiesce.kind % 128
    waiters := x.quiesce.waiters ++ waiter.toList } }

/-- Steps 1 to 3 of Table 13.8. -/
def State.startStop (s : State) (i kind : Nat) (byManager : Bool) (waiter : Option (Nat × Nat)) : State :=
  let x := s.inst i
  let mine := (s.intake.tags.filter fun t => t.2.stage ≠ .free && decide (t.2.inst = i)).map (·.1)
  let entries := mine.map fun t => (s.tag t).fateEntry
  let pause := if x.st = .pausing then x.quiesce.waiters.map fun w => (Status.sequenceError, w.2) else []
  let s := s.modInst i fun x => { x with
    st := .stopping
    quiesce := { active := true, byManager := byManager, kind := kind, tZero := s.now, tPoint := s.now,
                 fates := entries, waiters := pause ++ waiter.toList } }
  let s := s.each mine fun s t => s.quiesceTag t
  let (n, s) := s.clearMailbox i
  s.modInst i fun x => { x with aers := [], quiesce := { x.quiesce with mbxDropped := n } }

/-- A Stop of an instance (R378): a cause that meets a Stop in progress joins it, one that meets a Pause takes it over
(R377); else it is a global operation of its own (R21). -/
def State.beginStop (s : State) (i kind : Nat) (byManager : Bool) (waiter : Option (Nat × Nat)) : State :=
  if (s.inst i).st = .stopping then s.joinStop i kind byManager waiter
  else if (s.inst i).st = .pausing then s.startStop i kind byManager waiter
  else if s.treeFull then s.stall (.stop i kind byManager waiter)
  else (s.enterTree (.quiesce i)).startStop i kind byManager waiter

/-- A Pause begins (R377): a limit of 0 means 100 ms. -/
def State.startPause (s : State) (i limit cid : Nat) : State :=
  s.modInst i fun x => { x with
    st := .pausing
    quiesce := { active := true, kind := kindLimit, limit := if limit = 0 then 100 else limit, tZero := s.now,
                 waiters := [(Status.success, cid)] } }

/-- A Pause is a global operation (R21). -/
def State.beginPause (s : State) (i limit cid : Nat) : State :=
  if s.treeFull then s.stall (.pause i limit cid) else (s.enterTree (.quiesce i)).startPause i limit cid

/-- A die operation of the instance is at the NAND (Table 13.8, step 4). -/
def State.atNand (s : State) (i : Nat) : Bool :=
  let mine := fun (o : Option FlashOp) => match o with
    | some o => (match o.owner with
      | .read t g _ => (s.tag t).inst = i && (s.tag t).gen = g && (s.tag t).stage ≠ .free
      | _ => false)
    | none => false
  s.flash.dies.any fun d => mine d.2.short || mine d.2.long

/-- Zeroizes every key the instance injected (R296): gives their number. -/
def State.zeroizeInjected (s : State) (i : Nat) : Nat × State :=
  let mine := (s.glaze.slots.filter fun k => k.2.tag.isSome && decide (k.2.owner = i) && k.2.key.isSome).map (·.1)
  (mine.length, s.each mine fun s k => s.modSlot k fun x =>
    { x with st := .locked, reason := 3, key := none, accepted := 0, lockAfter := none })

/-- Ends the instance's fixity jobs (R381): gives how many ran. -/
def State.endJobs (s : State) (i : Nat) : Nat × State :=
  let mine := (s.fixity.jobs.filter fun j => decide (j.2.st ≠ 0) && decide (j.2.owner = i)).map (·.1)
  let n := (mine.filter fun j => (s.fixity.jobs.get {} j).st = 1).length
  (n, s.each mine fun s j => { s with fixity := { s.fixity with jobs := s.fixity.jobs.set {} j {} } })

/-- Ends what a stopped command still holds (Table 13.8, step 6). -/
def State.releaseStopped (s : State) (t : Nat) : State :=
  let r := s.tag t
  let s := if r.cmd.opc = .read ∧ r.fate = 2 then s.endRead t else s.removeEntries r.entries
  s.freeTagOf t

/-- The state of a function after its reset: resources, dirty log and the manager's side of the mailbox stand; every
queue and feature is gone (R7, R366, Table 13.8 step 7). -/
def Inst.functionReset (x : Inst) (st : InstState) : Inst :=
  { st := st, vq := x.vq, vi := x.vi, sieveQuota := x.sieveQuota, nrQuota := x.nrQuota, nrShare := x.nrShare,
    fwQuota := x.fwQuota, fwShare := x.fwShare, keyQuota := x.keyQuota, flags := x.flags, dieSets := x.dieSets,
    deficit := x.deficit, mbxM := x.mbxM, dirty := x.dirty,
    dState := x.dState, pmeEn := x.pmeEn, busMaster := x.busMaster, memEnable := x.memEnable,
    msixMasked := x.msixMasked, msixPending := x.msixPending, steering := x.steering }

/-- The configuration space and the MSI-X table of a function after a Function Level Reset or its port's PERST. -/
def State.resetConfigSpace (s : State) (i : Nat) : State :=
  let funcs : Tab PFunc := s.pcie.funcs.set {} i {}
  let s : State := { s with pcie := { s.pcie with funcs := funcs } }
  s.modInst i fun x => { x with
    dState := 0, pmeEn := false, busMaster := false, memEnable := false, msixMasked := [], msixPending := [], steering := [] }

/-- The manager's side of a mailbox at its Function values (Tables 13.15, R7). -/
def Mailbox.functionReset (m : Mailbox) : Mailbox :=
  { m with outBusy := false, inFull := false, err := false, dropped := false, ackStatus := 0 }

/-- The manager's side of every mailbox after a Function Level Reset of instance 0: a tenant's message it had not
acknowledged is dropped, and its sender is answered as R376 answers one (DEDUCED, log entry 100). -/
def State.resetManagerMailboxes (s : State) : State :=
  let insts : Tab Inst := s.tenant.insts.mapVals {} fun _ (x : Inst) =>
    { x with
      mbxM := x.mbxM.functionReset
      mbxT := if x.mbxM.inFull then { x.mbxT with outBusy := false, ackStatus := 0xFFFF, ackSeq := x.mbxT.sequence } else x.mbxT }
  { s with tenant := { s.tenant with insts := insts } }

/-- The fields whose Function value is 0 and that a part holds (Tables 4.14, 6.17, 7.13). -/
def State.resetCaptures (s : State) : State :=
  { s with
    sieve := { s.sieve with heldCount := [] }
    flash := { s.flash with blkCaptured := none }
    fixity := { s.fixity with testBusy := false } }

/-- The Function values of the manager's registers (R7, R478); port 0's outstanding fences lose their results (Table
14.3). -/
def State.functionRegs (s : State) : State :=
  let s := s.modFport 0 fun p => { p with out := p.out.map fun f => { f with dropped := true } }
  let s := s.resetManagerMailboxes.resetCaptures
  { s with regs := s.regs.keep fun k _ => match fieldInfo k with
    | some f => f.keep
    | none => true }

/-! ### Drain report (R383) -/

/-- The bytes free in the report ring. -/
def TenantPart.ringFree (p : TenantPart) : Nat := (p.rptHead + p.rptSize - p.rptTail + p.rptSize - 64) % p.rptSize

/-- The bytes of a report (Table 13.10). -/
def DrainReport.bytes (r : DrainReport) : List Nat :=
  [0x43, 0x5A, 0x44, 0x52] ++ le 4 r.length ++ le 2 r.inst ++ [r.kind, r.flags] ++ le 4 r.seq ++ le 8 r.tZero ++
  le 4 r.tPoint ++ le 4 r.tStop ++ le 4 r.entries.length ++ le 4 r.dropped ++ le 2 r.keys ++ le 2 r.jobs ++ le 2 r.mbx ++
  le 18 0 ++ r.entries.flatMap fun e =>
    le 2 (e.getD 0 0) ++ le 2 (e.getD 1 0) ++ [e.getD 2 0, e.getD 3 0] ++ le 2 0 ++ le 4 (e.getD 4 0) ++
    le 4 (e.getD 5 0) ++ le 8 (e.getD 6 0)

/-- A pad record up to the end of the ring: as much of its 64 bytes as the rest of the ring takes (DEDUCED, log entry 85). -/
def padBytes (room : Nat) : List Nat := (DrainReport.bytes { length := room }).take room

/-- Writes a drain report: cut to what fits, or lost when fewer than 64 bytes are free; a report is written
contiguously, after a pad record where it must start at offset 0. (DEDUCED, log entry 85.) -/
def State.drainReport (s : State) (r : DrainReport) : State :=
  let p := s.tenant
  let s := { s with tenant := { p with rptSeq := wrapAdd 32 p.rptSeq 1 } }
  let r := { r with seq := p.rptSeq }
  if p.rptSize = 0 then s
  else
    let fit := fun (free : Nat) => min r.entries.length ((free - 64) / 24)
    let lost := { s with tenant := { s.tenant with rptLost := satAdd 16 p.rptLost 1 } }
    if p.ringFree < 64 then lost
    else
      let n := fit p.ringFree
      let room := p.rptSize - p.rptTail
      let pad := decide (room < 64 + 24 * n)
      let free := if pad then p.ringFree - room else p.ringFree
      if free < 64 then lost
      else
        let n := fit free
        let at_ := if pad then 0 else p.rptTail
        let len := 64 + 24 * n
        let r := { r with
          entries := r.entries.take n, dropped := r.entries.length - n
          flags := if n < r.entries.length then 1 else 0, offset := at_, length := len }
        let s := { s with tenant := { s.tenant with
          rptTail := (at_ + len) % p.rptSize, reports := r :: s.tenant.reports } }
        let s := if pad then s.emit (.mem 0 (p.rptBase + p.rptTail) (padBytes room)) else s
        let s := s.emit (.mem 0 (p.rptBase + at_) r.bytes)
        s.vendorEvent 0 0xC5 0

/-- Steps 5 to 8 of Table 13.8: keys and entries gone, units released, tags freed, jobs ended, the function reset
complete, the report written, the commands that waited completed. (DEDUCED, log entry 85.) -/
def State.endStop (s : State) (i : Nat) : State :=
  let (keys, s) := s.zeroizeInjected i
  let mine := (s.intake.tags.filter fun t => t.2.stage ≠ .free && decide (t.2.inst = i)).map (·.1)
  let s := s.each mine fun s t => s.releaseStopped t
  let (jobs, s) := s.endJobs i
  let q := (s.inst i).quiesce
  let s := s.leaveTree fun o => decide (o = .quiesce i)
  let s := s.modInst i fun x => x.functionReset (if q.byManager then .held else .online)
  let s := if i = 0 then s.functionRegs else s
  let s := if q.kind % 128 = kindFlr ∨ q.kind % 128 = kindPerst then s.resetConfigSpace i else s
  -- a Function Level Reset of instance 0 clears the staging area and closes a BAR2 session (R494, R465)
  let s := if i ≠ 0 then s else
    let staging := s.boot.staging.filter fun (x : Staging) => decide (x.path ≠ 1)
    let session := s.mgmt.session.filter fun (x : CfgSession) => decide (x.path ≠ 0)
    { s with boot := { s.boot with staging := staging }, mgmt := { s.mgmt with session := session } }
  let seq := s.tenant.rptSeq
  let s := s.drainReport {
    inst := i, kind := q.kind, tZero := q.tZero, tPoint := q.tPoint - q.tZero, tStop := s.now - q.tZero,
    entries := q.fates, keys := keys, jobs := jobs, mbx := q.mbxDropped }
  s.each q.waiters fun s w => s.adminCqe 0 w.2 w.1 (if w.1 = 0 then seq else 0)

/-- A Function Level Reset of one instance (Table 13.3). -/
def State.flr (s : State) (i kind : Nat) : State :=
  match (s.inst i).st with
  | .offline => s
  | .held => (s.modInst i fun x => x.functionReset .held).resetConfigSpace i
  | _ => s.beginStop i kind false none

/-- The resets of every function of a port. -/
def State.resetPort (s : State) (port kind : Nat) : State :=
  s.each ((s.tenant.insts.filter fun i => s.portOf i.1 = port).map (·.1)) fun s i => s.flr i kind

/-- A Function Level Reset: a physical function takes every virtual function of its port with it (R366). -/
def State.functionReset (s : State) (i : Nat) : State :=
  if s.isPf i then s.resetPort (s.portOf i) kindFlr else s.flr i kindFlr

/-! ### Removal (R384) -/

/-- Takes an instance Offline: gives the number of access entries removed. -/
def State.removeInstance (s : State) (i : Nat) : Nat × State :=
  let (n, s) := s.dropRules fun e => decide (e.prio ≤ 0x3F) && decide (bits e.payload 0 9 = i)
  let s := { s with glaze := { s.glaze with slots := s.glaze.slots.mapVals {} fun _ k =>
    if k.owner = i ∧ k.tag.isNone then { k with owner := 0 } else k } }
  let (_, s) := s.clearMailbox i
  let d : SavedInst := {}
  let s := (s.dirtyOff i).modInst i fun x => { x with
    st := .offline, rdy := false, vq := 0, vi := 0, sieveQuota := d.sieveQuota, nrQuota := d.nrQuota, nrShare := d.nrShare,
    fwQuota := d.fwQuota, fwShare := d.fwShare, keyQuota := d.keyQuota, flags := d.flags, dieSets := d.dieSets }
  let s := s.setCfg Cfg.INTAKE_WEIGHT i d.weight
  (n, { s with tenant := { s.tenant with saved := s.tenant.saved.set {} i {} } })

/-! ### Settings that survive (R367) -/

/-- Records an instance's resources among the persisted settings. (DEDUCED, log entry 86.) -/
def State.saveInst (s : State) (i : Nat) : State :=
  let x := s.inst i
  let s := { s with tenant := { s.tenant with saved := s.tenant.saved.set {} i {
    vq := x.vq, vi := x.vi, weight := s.cfgAt Cfg.INTAKE_WEIGHT i, sieveQuota := x.sieveQuota, nrQuota := x.nrQuota,
    nrShare := x.nrShare, fwQuota := x.fwQuota, fwShare := x.fwShare, keyQuota := x.keyQuota, flags := x.flags,
    dieSets := x.dieSets } } }
  s.trailRec (.settings 0 i)

end Sys2Proof.Machine
end

