-- ==== Sys2Proof/Machine/OpsGlaze.lean ====
section
/-!
DEFINITION. Keys and descriptors of Glaze: generation, wrapping and loading (R285 to R292), the key slots' drain
(R288), lanes, contexts and results (R271 to R277), zeroization and recovery (R298 to R300).
-/

namespace Sys2Proof.Machine

/-! ### Keys -/

/-- K_wrap and K_buf (Table 9.7): derived from the device root key. -/
def kWrap (drk : Nat) : Nat := Config.kdf drk [1]
def kBuf (drk : Nat) : Nat := Config.kdf drk [2]

/-- The credential that guards a range's MEK (R289): its authority's, while locking is enabled. -/
def State.guard (s : State) (r : LockRange) : Option Nat :=
  if r.readLockEnabled || r.writeLockEnabled then r.authority.bind fun a => s.glaze.credentials.get none a else none

/-- The key under which a range's MEK is wrapped (R289). (DESIGN CHOICE, log entry 3.) -/
def State.wrapUnder (s : State) (r : LockRange) : Nat :=
  match s.guard r with
  | none => kWrap s.drk
  | some c => Config.kdf (kWrap s.drk) [c]

/-- A wrapped key under a wrapping key: none when its integrity value does not verify (R287).
(DESIGN CHOICE, log entry 3.) -/
def Wrapped.unwrap (w : Wrapped) (under : Nat) : Option Nat := if w.under = under ∧ !w.lost then some w.key else none

/-- A new key of the DRBG, and the state in which the call has been made; the DRBG reseeds every 2^20 requests (R292). -/
def State.newKey (s : State) : Nat × State :=
  let g := s.glaze
  let again := decide (1048576 ≤ g.drbgCalls)
  let seeds := if again then g.drbgSeeds + 1 else g.drbgSeeds
  let calls := if again then 0 else g.drbgCalls
  (Config.drbg seeds calls, { s with glaze := { g with drbgSeeds := seeds, drbgCalls := calls + 1 } })

/-- The key store is replaced as a whole, in all four copies (R290). -/
def State.storeKeys (s : State) : State := { s with glaze := { s.glaze with storeSeq := s.glaze.storeSeq + 1, storeBad := [] } }

/-- No copy of the key store is good: each fails KW integrity, or is on a die of the Boot Area that fails (R290). -/
def State.noKeyStore (s : State) (bad dead : List Nat) : Bool := [0, 1, 2, 3].all fun c =>
  bad.contains c || s.glaze.storeBad.contains c || dead.contains c || s.boot.copiesLost.contains c

/-- Start-up reads the key store: a copy whose records fail KW integrity is ignored. With no good copy, what was wrapped
is lost (R290). -/
def State.readKeyStore (s : State) (bad dead : List Nat) : State :=
  let lost := s.noKeyStore bad dead
  let s : State := { s with glaze := { s.glaze with storeBad := [0, 1, 2, 3].filter fun c => bad.contains c || s.glaze.storeBad.contains c } }
  if !lost then s
  else
    let ranges : Tab LockRange := s.glaze.ranges.mapVals {} fun _ (x : LockRange) => { x with wrapped := { x.wrapped with lost := true } }
    let keks : Tab (Option Wrapped) := s.glaze.keks.mapVals none fun _ (w : Option Wrapped) => w.map fun (y : Wrapped) => { y with lost := true }
    { s with glaze := { s.glaze with ranges := ranges, keks := keks } }

def State.range (s : State) (nsid r : Nat) : LockRange := s.glaze.ranges.get {} (nsid * 128 + r)
def State.modRange (s : State) (nsid r : Nat) (f : LockRange → LockRange) : State :=
  { s with glaze := { s.glaze with ranges := s.glaze.ranges.upd {} (nsid * 128 + r) f } }

/-- The locking ranges of a namespace, by number. -/
def State.rangesIn (s : State) (nsid : Nat) : List Nat :=
  ((s.glaze.ranges.filter fun r => decide (r.1 / 128 = nsid) && r.2.exists_).map (·.1)).map (· % 128)

/-- The lowest slot from 1 to 2,047 that is Empty and reserved for nothing. (DESIGN CHOICE, log entry 11.) -/
def State.freeSlot (s : State) : Option Nat :=
  firstFrom (fun k => k < 2048 && (s.slotAt k).st = .empty && (s.slotAt k).range.isNone && (s.slotAt k).tag.isNone) 1
    (s.glaze.slots.length + 1)

/-- Slots an instance holds (Table 13.4). -/
def State.slotsHeld (s : State) (i : Nat) : Nat :=
  Tab.count (fun _ k => decide (k.owner = i) && (k.range.isSome || k.tag.isSome)) s.glaze.slots

/-- A load: the slot is Ready with the next generation (R286, R287). -/
def State.loadSlot (s : State) (k key : Nat) (gcm : Bool) : State :=
  s.modSlot k fun x => { x with
    st := .ready, gcm := gcm, reason := 0, gen := (x.gen + 1) % 256, key := some key, lockAfter := none }

/-- Loads the MEK of a range from the key store. -/
def State.loadRange (s : State) (nsid r : Nat) : State :=
  let x := s.range nsid r
  if !x.exists_ ∨ x.slot = 0 ∨ !s.glaze.rootKeys then s
  else match x.wrapped.unwrap (s.wrapUnder x) with
    | some key => s.loadSlot x.slot key ((s.ns nsid).mode = .sealed_)
    | none => s

/-- A range changed, its MEK rewrapped under what guards it now (R289). -/
def State.rewrap (s : State) (nsid r : Nat) (f : LockRange → LockRange) : State :=
  let x := f (s.range nsid r)
  s.modRange nsid r fun _ => { x with wrapped := { x.wrapped with under := s.wrapUnder x } }

/-- A new MEK for a range (R291): generated, wrapped, stored and loaded in its slot. -/
def State.genMek (s : State) (nsid r : Nat) : State :=
  let (key, s) := s.newKey
  let s := s.modRange nsid r fun x => { x with wrapped := { under := s.wrapUnder x, key := key } }
  (s.storeKeys).loadSlot (s.range nsid r).slot key ((s.ns nsid).mode = .sealed_)

/-- Gives a range its slot and its MEK. (PRESUMED, log entry 79.) -/
def State.createRange (s : State) (nsid r slot owner : Nat) (x : LockRange) : State :=
  let s := s.modSlot slot fun k => { k with owner := owner, range := some (nsid * 128 + r) }
  let s := s.modRange nsid r fun _ => { x with exists_ := true, slot := slot }
  s.genMek nsid r

/-- A slot emptied and reserved for nothing; its generation is kept (Table 9.6). -/
def State.emptySlot (s : State) (k : Nat) : State := s.modSlot k fun x => { gen := x.gen }

/-- Removes the keys of a namespace with it: ranges, key tags and KEK. -/
def State.dropKeys (s : State) (nsid : Nat) : State :=
  let slots := (s.glaze.slots.filter fun k => (match k.2.range, k.2.tag with
    | some r, _ => decide (r / 128 = nsid)
    | none, some t => decide (t.1 = nsid)
    | none, none => false)).map (·.1)
  let s := s.each slots fun s k => s.emptySlot k
  { s with glaze := { s.glaze with
      ranges := s.glaze.ranges.keep fun k _ => decide (k / 128 ≠ nsid)
      keyTags := s.glaze.keyTags.keep fun k _ => decide (k / 1024 ≠ nsid)
      keks := s.glaze.keks.set none nsid none } }.storeKeys

/-- A slot begins to drain (R288): it becomes Locked with a reason, or Empty for none. -/
def State.drainSlot (s : State) (k : Nat) (lock : Option Nat) : State :=
  if (s.slotAt k).st ≠ .ready then s else s.modSlot k fun x => { x with st := .draining, lockAfter := lock }

/-- The end of a drain: the key is cleared. -/
def State.slotDrained (s : State) (k : Nat) : State :=
  let x := s.slotAt k
  if x.st ≠ .draining ∨ x.accepted ≠ 0 then s
  else match x.lockAfter with
    | some r => s.modSlot k fun x => { x with st := .locked, reason := r, key := none, lockAfter := none }
    | none => s.modSlot k fun x => { x with st := .empty, reason := 0, key := none, lockAfter := none, tag := none }

/-- The range of a namespace that holds a block: a further range, or the global one (R293). -/
def State.rangeAt (s : State) (nsid lba : Nat) : Nat :=
  match (s.rangesIn nsid).find? fun r => r ≠ 0 && decide ((s.range nsid r).lo ≤ lba) && decide (lba ≤ (s.range nsid r).hi) with
  | some r => r
  | none => 0

/-- What the blocks of a crypto-erased range read as: sealed data no longer authenticates; other data decrypts to a
value nothing fixes (R291; DESIGN CHOICE, log entry 2). (DEDUCED, log entry 78.) -/
def State.eraseBlocks (s : State) (nsid r : Nat) : State :=
  let n := s.ns nsid
  s.each ((n.map.filter fun b => s.rangeAt nsid b.1 = r).map (·.1)) fun s lba =>
    match (s.blkAt nsid lba).content with
    | .data _ =>
      if n.mode = .sealed_ then s.modBlk nsid lba fun b => { b with content := .lost }
      else
        let (v, s) := s.free
        s.modBlk nsid lba fun b => { b with content := .data v }
    | _ => s

/-- Crypto erase of a range (R291). (DEDUCED, log entry 78.) -/
def State.cryptoErase (s : State) (nsid r : Nat) : State := (s.genMek nsid r).eraseBlocks nsid r

/-! ### Alarm -/

/-- The class of an alarm source (Table 9.8). -/
def alarmClass (code : Nat) : Nat := if code = 3 ∨ code = 4 then 2 else 3

/-- Every descriptor queued, running or suspended. -/
def State.allDescs (s : State) : List GDesc :=
  s.glaze.urgentQ ++ s.glaze.bulkQ ++ s.glaze.waiting ++
    s.glaze.lanes.flatMap fun l => l.2.running.toList ++ l.2.contexts.map (·.desc)

/-- Steps 2 to 5 of Table 9.9: ZEROIZE; slots that hold or are reserved for a key are Locked with REASON 2, root keys and
contexts cleared, descriptors ended with ALARM. Admitted commands among their owners complete with Access Denied
(R299). -/
def State.zeroize (s : State) (code : Nat) : State :=
  let descs := s.allDescs
  let s := { s with fault := { s.fault with lines := { s.fault.lines with zeroize := true } } }
  let s := { s with glaze := { s.glaze with
    slots := s.glaze.slots.mapVals {} fun _ (k : Slot) =>
      if k.st = SlotState.empty then k
      else { k with st := .locked, reason := 2, key := none, accepted := 0, lockAfter := none }
    rootKeys := false, lanes := [], urgentQ := [], bulkQ := [], waiting := []
    alarm := some code, alarmGrave := s.glaze.alarmGrave || decide (alarmClass code = 3), lastAlarm := code } }
  let s := s.bump Reg.GLZ_ALARM_COUNT_COUNT
  -- R302: SPDM session secrets and every IDE key
  let ide : Ide := { s.pcie.ide with secure := false, keys := [], inUse := [] }
  let does : Tab DoeBox := s.pcie.does.mapVals {} fun _ (b : DoeBox) => { b with sessions := [] }
  let s : State := { s with pcie := { s.pcie with ide := ide, does := does } }
  s.each descs fun s d =>
    let s := s.gdResult d 5
    if d.internal then s
    else if (s.tag d.tag).stage = .inFlight ∧ (s.tag d.tag).gen = d.gen then s.failTag d.tag Status.accessDenied
    else s

/-- An alarm: its message on the source's alarm input, and the zeroization (R298, R452). (PRESUMED, log entry 79.) -/
def State.raiseAlarm (s : State) (code : Nat) : State :=
  (if code = 5 then s.report 0x1C5 0x52 (s.otpFailure.getD 0) 3 else s.report (0x1C0 + code) 0x41 code (alarmClass code)).zeroize code

/-- The key derivation unit derives nothing: in Returned (R291), after a debug unlock in Production until the next cold
power-on (R504). -/
def State.derivesNothing (s : State) : Bool := decide (s.lifecycle = 3) || (s.boot.unlocked && decide (s.lifecycle = 2))

/-- The root keys are derived and K_buf is in slot 0 (Table 9.7, R300 step 2). -/
def State.deriveKeys (s : State) : State :=
  if s.derivesNothing then s
  else ({ s with glaze := { s.glaze with rootKeys := true } }).loadSlot 0 (kBuf s.drk) false

/-- Loads every MEK that is wrapped under K_wrap alone (R300 step 3, R479). -/
def State.loadUnguarded (s : State) : State :=
  s.each ((s.glaze.ranges.filter fun r => r.2.exists_ && (s.guard r.2).isNone).map (·.1)) fun s k =>
    s.loadRange (k / 128) (k % 128)

/-- The rows whose programs may have waited for a key go on (R254, R299). -/
def State.resumeRows (s : State) : State := s.driveAgain fun x => (s.ns x.nsid).mode = .sealed_

end Sys2Proof.Machine
end

