-- ==== Sys2Proof/Machine/OpsMedia.lean ====
section
/-!
DEFINITION. What the rows of the flash back end and of media management share: blocks and their substitutes (R168,
R204 to R208), units and parity (R174), the Refire queue (R190), failed targets (R197, R203), lost units (R182).
-/

namespace Sys2Proof.Machine

/-! ### Die sets -/

/-- The die set that holds a die's group. -/
def State.setOfDie (s : State) (die : Nat) : Nat :=
  match s.zone.dieSets.find? fun d => d.2.groups.contains (s.die die).group && (s.die die).inGroup with
  | some d => d.1
  | none => 0

/-! ### Blocks (R168, R173, Table 6.4) -/

/-- Spare blocks of a die-plane that a torn unit gave back (Table 8.5, case 6). -/
def State.sparesBack (s : State) (die plane : Nat) : Nat :=
  Tab.count (fun k (b : Block) => decide (k / 4096 = die * 8 + plane) && decide (b.st = .spare) && decide (b ≠ {})) s.flash.blocks

/-- Spare rows of a group: the smallest spare count among its die-planes (R207). (DEDUCED, log entry 80.) -/
def State.refreshSpares (s : State) (g : Nat) : State :=
  let x := s.group g
  let left := (x.dies.flatMap fun d => (List.range x.geo.planes).map fun p =>
    x.spareBase + s.sparesBack d p - (if s.flash.bootDies.contains d then 4 else 0) - s.flash.taken.get 0 (d * 8 + p))
  let m := match left with
    | [] => 0
    | h :: t => t.foldl min h
  let s := s.modGroup g fun x => { x with spareRows := m - x.rowsTaken + x.remainder }
  match s.zone.dieSets.find? fun d => d.2.groups.contains g with
  | some d => s.ladder d.1
  | none => s

/-- Spares of a die-plane that may be taken: the finish reserve of 4 only to complete an open zone (R208). -/
def State.spareLeft (s : State) (die plane : Nat) (finish : Bool) : Nat :=
  let x := s.group (s.die die).group
  x.spareBase + s.sparesBack die plane - (if s.flash.bootDies.contains die then 4 else 0) - s.flash.taken.get 0 (die * 8 + plane) +
    (if finish then 4 else 0)

/-- Free zone rows and zones in ZSE of a die set, for R58. -/
def State.emptyZones (s : State) (d : Nat) : Nat :=
  Tab.sum (fun _ n => if n.exists_ ∧ n.zoned ∧ n.dieSet = d then
    n.size / zoneBlocks - Tab.count (fun _ z => z.st ≠ .zse) n.zones else 0) s.zone.nss
def State.freeInSet (s : State) (d : Nat) : Nat :=
  ((s.dieSet d).groups.map fun g => if (s.group g).withdrawn then 0 else s.freeRows g).sum

/-- Rows taken from the spares one at a time for a shortfall of free rows (R58); at most `n`. -/
def State.coverShortfall (s : State) (d : Nat) : Nat → State
  | 0 => s
  | n + 1 =>
    if s.emptyZones d ≤ s.freeInSet d then s
    else match ((s.dieSet d).groups.filter fun g => !(s.group g).withdrawn && decide (0 < (s.group g).spareRows)).foldl (fun b g =>
      match b with
      | none => some g
      | some k => if (s.group k).spareRows < (s.group g).spareRows then some g else some k) none with
      | none => s
      | some g =>
        let s := s.modGroup g fun x => { x with zoneRows := x.zoneRows + 1, rowsTaken := x.rowsTaken + 1 }
        (s.refreshSpares g).coverShortfall d n

/-- A row leaves service (R208). -/
def State.rowOut (s : State) (r : RowRef) : State :=
  let s := s.modGroup r.group fun x => { x with gone := x.gone ++ [r.row], zoneRows := x.zoneRows - 1 }
  match s.zone.dieSets.find? fun d => d.2.groups.contains r.group with
  | some d => (s.coverShortfall d.1 (s.emptyZones d.1)).ladder d.1
  | none => s

/-- The next spare block of a die-plane: one that came back, else from the top of the spare range down (R168).
(DESIGN CHOICE, log entry 83.) -/
def State.takeSpare (s : State) (die plane : Nat) : Nat × State :=
  match s.flash.blocks.find? fun (x : Nat × Block) => decide (x.1 / 4096 = die * 8 + plane) && decide (x.2.st = .spare) with
  | some x => (x.1 % 4096, s)
  | none =>
    let n := s.flash.taken.get 0 (die * 8 + plane)
    ((s.region die roleTrail).1 - 1 - n,
     { s with flash := { s.flash with taken := s.flash.taken.set 0 (die * 8 + plane) (n + 1) } })

/-- A spare takes the place of a row's block on a die-plane: Dirty until its erase; then it takes the wordlines below
`next` (R168, R171; R205, step 2). -/
def State.substitute (s : State) (die plane : Nat) (r : RowRef) (next : Nat) : State :=
  let t := s.takeSpare die plane
  let s : State := { t.2 with flash := { t.2.flash with rowMap := t.2.flash.rowMap.set 0 (blockKey die plane r.row) (t.1 + 1) } }
  let s := s.setBlock die plane t.1 fun x =>
    { x with st := .dirty, slc := false, role := roleZone, row := r.row, subst := true, next := next }
  (s.trailRec (.rowMap r.group (die * 8 + plane) r.row t.1)).refreshSpares r.group

/-- A block is retired: counted and recorded (Table 6.4, R204, R209). -/
def State.markRetired (s : State) (die plane b : Nat) : State :=
  let s := (s.setBlock die plane b fun x => { x with st := .retired, reserved := false, subst := false }).bump Reg.FBE_MM_RETIRED_BLOCKS
  (s.trailRec (.block die plane b)).log Code.retirement 2 (channelOf die) [die, plane, b]

/-- Retires the block of a row on one die-plane; a spare of the die-plane takes its place, or the row leaves service
(R168, R204, R208). (DESIGN CHOICE, log entry 83.) -/
def State.retireBlock (s : State) (die plane : Nat) (r : RowRef) (finish : Bool) : State :=
  let b := s.physBlock die plane r.row
  let old := s.blockOf die plane b
  let s := s.markRetired die plane b
  if s.spareLeft die plane finish = 0 then (s.refreshSpares r.group).rowOut r
  else
    let copy := old.subst || decide (old.st = .open_) || decide (old.st = .full)
    s.substitute die plane r (if copy then old.next else 0)

/-- Retires the plane-blocks of a row on a die and queues the erase of their substitutes. -/
def State.retireRowDie (s : State) (die : Nat) (r : RowRef) (finish : Bool) : State :=
  let s := s.each (List.range (s.die die).geo.planes) fun s p => s.retireBlock die p r finish
  if (s.group r.group).gone.contains r.row then s else s.enqueue die { kind := .erase, block := r.row }

/-- The exposure limit has fallen below 1 GiB: every die set is Exhausted (R65). -/
def State.reserveCheck (s : State) : State :=
  if 262144 ≤ s.exposureLimit then s
  else s.each ((s.zone.dieSets.filter fun d => d.2.stage ≠ .exhausted).map (·.1)) State.declareExhausted

/-- Retires a block of an SLC region; a spare of the die-plane takes its place in the region, by way of its erase (R204).
Where none is left, a dump block's loss lowers the exposure limit (R65, R207). -/
def State.retireRegion (s : State) (die plane b : Nat) : State :=
  let old := s.blockOf die plane b
  let s := s.markRetired die plane b
  if !(s.die die).inGroup ∨ s.spareLeft die plane false = 0 then (if old.role = roleDump then s.reserveCheck else s)
  else
    let t := s.takeSpare die plane
    let s := t.2.setBlock die plane t.1 fun x => { x with st := .dirty, slc := true, role := old.role, row := old.row }
    (s.enqueue die { kind := .erase, plane := plane, phys := [t.1] }).refreshSpares (s.die die).group

/-! ### Pool places (R175, R184) -/

/-- Wordlines of a quarter of a row's parity that hold data. -/
def State.quarterLines (s : State) (r : RowRef) (q : Nat) : List Nat :=
  let g := (s.group r.group).geo
  let first := quarterStart g q
  (List.range' first (quarterStart g (q + 1) - first)).filter fun w => decide (16 * w < s.unitsIn r)

/-- A row loses the place of a quarter of its parity: what it held must be computed again (R184). -/
def State.losePlace (s : State) (r : RowRef) (q : Nat) : State :=
  let g := (s.group r.group).geo
  let out := fun (w : Nat) => decide (quarterOf g w = q)
  s.modRow r fun x => { x with
    pool := x.pool.set q (((x.pool[q]?).map (·.1)).getD 0, [])
    parityQueued := x.parityQueued.filter fun w => !(out w)
    parity := x.parity.filter fun p => !(out p.1) }

/-- A quarter without a place gets another pool die, and its parity is computed again from the row (R184). -/
def State.findPlace (s : State) (r : RowRef) (q : Nat) : State :=
  let others := ((s.rowRec r).pool.filter fun p => !p.2.isEmpty).map (·.1)
  match (s.choosePool r.group 1 others)[others.length]? with
  | none => s
  | some d => match s.takeBlocks rolePool d with
    | none => s
    | some t =>
      let s := t.2.modRow r fun x => { x with pool := x.pool.set q (d, t.1) }
      s.each (s.quarterLines r q) fun s w => s.parityCheck r w

/-- Every missing place of a row, as far as dies are found. -/
def State.repool (s : State) (r : RowRef) : State :=
  s.each ((s.rowRec r).pool.zipIdx.filter fun p => p.1.2.isEmpty) fun s p => s.findPlace r p.2

/-! ### The Refire queue (R190 to R193) -/

def Reason.rank : Reason → Nat
  | .rebuild => 0
  | .verify => 1
  | .early => 2
  | .threshold => 3
  | .wear => 4

/-- The die set that a row's group belongs to, and that of a Refire request. -/
def State.groupSet (s : State) (g : Nat) : Nat :=
  match s.zone.dieSets.find? fun d => d.2.groups.contains g with
  | some d => d.1
  | none => 0
def State.reqSet (s : State) (nsid z : Nat) : Nat := if nsid = 0 then s.groupSet (z / 4096) else (s.ns nsid).dieSet

/-- Queues a zone for Refire: a zone already queued keeps the earlier reason; a running Refire stands. -/
def State.queueRefire (s : State) (nsid z : Nat) (why : Reason) : State :=
  let d := s.reqSet nsid z
  let x := s.dieSet d
  let mine := fun (q : RefireReq) => decide (q.nsid = nsid) && decide (q.zone = z)
  if (x.running.any fun r => decide (r.nsid = nsid) && decide (r.zone = z)) then s
  else match x.queue.find? mine with
    | some q =>
      if q.reason.rank ≤ why.rank then s
      else s.modDieSet d fun x => { x with queue := x.queue.map fun q => if mine q then { q with reason := why } else q }
    | none => s.modDieSet d fun x => { x with queue := x.queue ++ [{ nsid := nsid, zone := z, reason := why }] }

/-- Queues a conventional row for relocation (R199, R203). -/
def State.queueReloc (s : State) (nsid : Nat) (r : RowRef) (why : Reason) : State :=
  let d := (s.ns nsid).dieSet
  if (s.dieSet d).convQ.any (fun q => decide (q.2.1 = r)) ∨ (s.dieSet d).relocs.any (fun x => decide (x.source = r)) then s
  else s.modDieSet d fun x => { x with convQ := x.convQ ++ [(nsid, r, why)] }

/-- Queues what a row holds: a zone and a kept parity row for Refire, a conventional row for relocation (R199). -/
def State.queueRow (s : State) (r : RowRef) (why : Reason) : State :=
  let x := s.rowRec r
  match x.zone with
  | some z => s.queueRefire x.nsid z why
  | none => if s.isKept r then s.queueRefire 0 (rowKey r) why else if x.nsid = 0 then s else s.queueReloc x.nsid r why

/-! ### Failed targets (R197, R203) -/

/-- The Refire or relocation whose target a row is. (DEDUCED, log entry 74.) -/
def State.refireTo (s : State) (r : RowRef) : Option (Nat × Refire) :=
  match s.zone.dieSets.find? fun d => d.2.running.any fun x => decide (x.target = r) && !x.switched with
  | some d => (d.2.running.find? fun x => decide (x.target = r)).map fun x => (d.1, x)
  | none => none
def State.relocTo (s : State) (r : RowRef) : Option (Nat × Reloc) :=
  match s.zone.dieSets.find? fun d => d.2.relocs.any fun x => decide (x.target = r) && !x.switched with
  | some d => (d.2.relocs.find? fun x => decide (x.target = r)).map fun x => (d.1, x)
  | none => none

/-- A conventional row goes to erase and back to its namespace's free rows. -/
def State.recycleRow (s : State) (r : RowRef) (nsid seq : Nat) : State :=
  { s with flash := { s.flash with
    relWaits := s.flash.relWaits ++ [{ row := r, nsid := nsid, lo := 0, hi := (s.ns nsid).size, seq := seq }]
    verifyQ := s.flash.verifyQ.filter (· ≠ r) } }

/-- A target row fails: it is released, and its Refire or relocation starts again, or after four targets waits an hour
(R197, R203). -/
def State.targetFailed (s : State) (r : RowRef) : State :=
  match s.refireTo r with
  | some (d, x) =>
    let s := ((s.withdrawRow r).releaseParity r).releaseRow r x.nsid 0 0 0
    let s := s.removeEntries x.entry.toList
    let s := s.modDieSet d fun y => { y with
      running := y.running.filter fun q => q.job ≠ x.job
      keptRows := y.keptRows.map fun k => if k.next = some r then { k with next := none } else k }
    let req : RefireReq := { nsid := x.nsid, zone := x.zone, reason := x.reason }
    if 3 ≤ x.failures then
      (s.modDieSet d fun y => { y with retryZones := y.retryZones ++ [req] }).report 0x203 0x29 x.zone 2
    else
      -- the count of failed targets is kept with the queue's front entry
      (s.modDieSet d fun y => { y with queue := req :: y.queue, failed := y.failed ++ [(x.nsid, x.zone, x.failures + 1)] }).report
        0x203 0x29 x.zone 0
  | none => match s.relocTo r with
    | some (d, x) =>
      let s := ((s.withdrawRow r).releaseParity r).recycleRow r x.nsid 0
      let s := if (s.ns x.nsid).relRow = some r then s.modNs x.nsid fun n => { n with relRow := none, relNext := 0 } else s
      let lost := (s.dieSet d).relocs.filter fun q => decide (q.target = r)
      let s := s.modDieSet d fun y => { y with relocs := y.relocs.filter fun q => q.target ≠ r }
      let s := s.removeEntries (lost.flatMap fun x => x.entry.toList)
      s.each lost fun s x =>
        if 3 ≤ x.failures then
          (s.modDieSet d fun y => { y with retryRows := y.retryRows ++ [(x.nsid, x.source)] }).report 0x204 0x29 x.source.row 2
        else
          (s.modDieSet d fun y => { y with
            convQ := (x.nsid, x.source, Reason.rebuild) :: y.convQ
            failedRows := y.failedRows ++ [(x.source, x.failures + 1)] }).report 0x204 0x29 x.source.row 0
    | none => s

/-- A program of a row on a die has failed (R143, R205): the blocks are retired and replaced, and the unit is programmed
again; a target row fails as a whole. (DESIGN CHOICE, log entry 83.) -/
def State.programFailed (s : State) (die : Nat) (r : RowRef) (o : FlashOp) : State :=
  let s := s.report (channelOf die) 0x24 (blockAddress die 0 (s.physBlock die 0 r.row)) 0
  -- the wordlines already programmed are those below the failed one
  let data := match o.owner with
    | .row _ u => decide (u < 16 * (s.group r.group).geo.wordlines)
    | _ => false
  let s := if data then s.rowBlocks die r.row fun b => { b with next := min b.next o.wordline } else s
  let open_ := match (s.rowRec r).zone with
    | some z => (s.zoneAt (s.rowRec r).nsid z).st.isActive
    | none => false
  let s := s.retireRowDie die r open_
  if (s.refireTo r).isSome ∨ (s.relocTo r).isSome then s.targetFailed r
  else if (s.group r.group).gone.contains r.row then
    -- no spare is left for it: its data is in the wordline's parity, and the row is rewritten (R208)
    match o.owner with
    | .row _ u => (s.unitDone r u).queueRow r .rebuild
    | _ => s
  else s.modDie die fun d => { d with longQ := { o with passes := 0 } :: d.longQ }

/-! ### Units torn by a reset or the end of power (Table 8.5, case 6) -/

/-- The plane-blocks of a started program unit are replaced: they go to Dirty, not Retired, and to their erase. -/
def State.mendUnit (s : State) (die : Nat) (r : RowRef) (wordline : Nat) : State :=
  let old := s.rowPhys die r.row
  if (old.zipIdx.any fun b => (s.blockOf die b.2 b.1).subst) ∨
      !((List.range old.length).all fun p => decide (0 < s.spareLeft die p true)) then s
  else
    let s := s.setBlocks die old.zipIdx fun b => if b.st = .retired then b else { b with st := .dirty, role := 0, row := 0, next := 0 }
    let s := s.each (List.range old.length) fun s p => s.substitute die p r wordline
    s.trailRec (.dirty die old)

/-- The blocks of a started parity unit are given up for others of its die; without them its quarter gets another die. -/
def State.mendParity (s : State) (die : Nat) (r : RowRef) (o : FlashOp) : State :=
  let q := quarterOf (s.group r.group).geo o.wordline
  match s.takeBlocks rolePool die with
  | none => (s.losePlace r q).findPlace r q
  | some t =>
    let s := t.2.setBlocks die t.1.zipIdx fun b => { b with st := .open_, next := o.slcAt }
    (s.modRow r fun x => { x with pool := x.pool.set q (die, t.1) }).releaseBlocks die o.phys

/-- What the dies had begun when the last reset or the end of power came. -/
def State.mendTorn (s : State) : State :=
  let torn := s.flash.torn
  let s : State := { s with flash := { s.flash with torn := [] } }
  s.each torn fun s x => match x.2.owner with
    | .row r _ =>
      if (s.die x.1).retired ∨ (s.rowRec r).orphan then s
      else if x.2.kind = .qlcUnit then s.mendUnit x.1 r x.2.wordline else s.mendParity x.1 r x.2
    | _ => s

/-- How far a target may be programmed, of what is to reach it: up to the first unit whose source is still being read (Table
6.9, steps 2 to 4; R200). -/
def State.targetReady (s : State) (t : RowRef) (end_ : Nat) : Nat :=
  s.zone.dieSets.foldl (fun b (d : Nat × DieSet) =>
    let b := if d.2.running.any fun x => decide (x.target = t) && s.scanning x.old then 0 else b
    (d.2.relocs.filter fun x => decide (x.target = t) && s.scanning x.source).foldl (fun b x =>
      match x.units with
      | [] => b
      | u :: _ => min b u.2.2) b) end_

/-- A target row of a Refire or relocation goes on being programmed: to its end, padded, or as far as its data has been
read. -/
def State.driveTarget (s : State) (t : RowRef) : State :=
  let x := s.rowRec t
  let g := (s.group t.group).geo
  let all := 16 * g.wordlines
  match x.endAt with
  | some 0 => s
  | some e =>
    let ready := s.targetReady t e
    s.issueTo t (if ready = e then unitEnd g x.zone.isSome (unitAt g x.zone.isSome (e - 1)) else ready) true all
  | none => if (s.ns x.nsid).relRow = some t then s.issueTo t (s.targetReady t (s.ns x.nsid).relNext) true all else s

/-- Rows whose programs may have waited for a pool reservation, or for reads, go on (R176, R194). -/
def State.driveWaiting (s : State) : State :=
  let s := (s.driveAgain fun x => !x.covered).resumeConv
  let s := s.each (s.flash.rows.filter fun x => !x.2.verified && (x.2.endAt.isNone || x.2.suspect) && x.2.pool.any fun p => p.2.isEmpty) fun s x => s.repool (rowOfKey x.1)
  s.each (s.zone.dieSets.flatMap fun d => (d.2.running.map (·.target)) ++ (d.2.relocs.map (·.target)).dedup) fun s t => s.driveTarget t

/-! ### Copies into kept parity rows (R181, R199) -/

/-- A row's parity takes the next position of a kept parity row, and its units are queued. -/
def State.giveKept (s : State) (d : Nat) (k : KeptRow) (r : RowRef) : State :=
  let p : KeptSlot := { slot := k.given, of := r }
  let s := s.modDieSet d fun x => { x with keptRows := x.keptRows.map fun q =>
    if q.row = k.row then { q with given := q.given + 1, slots := q.slots ++ [p] } else q }
  let s := if k.given = 0 then s.modRow k.row fun y => { y with stamp := (s.group k.row.group).fi } else s
  s.each (s.keptUnits p) fun s u => s.queueUnit k.row u true

/-- Begins the copy of a row's parity: into a kept parity row of another group with a position left, or into a new one.
Without one the pool blocks stay. (DEDUCED, log entry 109.) -/
def State.startKeep (s : State) (d : Nat) (r : RowRef) : State :=
  let x := s.dieSet d
  let fits := fun (g : Nat) => decide (g ≠ r.group) && !(s.group g).withdrawn && decide ((s.group g).geo = (s.group r.group).geo)
  if x.keptRows.any fun k => k.slots.any fun p => decide (p.of = r) && !p.done then s
  else match x.keptRows.find? fun k => fits k.row.group && decide (k.given < 16) && k.pending.isNone && k.next.isNone &&
      !(s.rowRec k.row).suspect with
    | some k => s.giveKept d k r
    | none => match s.placeAmong d fits with
      | none => s
      | some t =>
        let k : KeptRow := { row := t }
        let s := (s.modGroup t.group fun y => { y with bound := y.bound ++ [t.row] }).modRow t fun _ => {}
        (s.modDieSet d fun y => { y with keptRows := y.keptRows ++ [k] }).giveKept d k r

/-- The copy of a row's parity has passed its verify: the pool blocks are released (R181). -/
def State.keptPassed (s : State) (k : KeptRow) (p : KeptSlot) : State :=
  let s := s.modDieSet (s.groupSet k.row.group) fun x => { x with keptRows := x.keptRows.map fun q =>
    if q.row = k.row then { q with slots := q.slots.map fun y => if y = p then { y with done := true } else y } else q }
  ((s.releasePool p.of).modRow p.of fun y => { y with kept := true }).driveWaiting

/-- A copy has failed its verify, or its die has failed: it is made again elsewhere; what the row holds besides is Refired,
and one that holds nothing is released. -/
def State.keptLost (s : State) (k : KeptRow) (p : KeptSlot) (again : Bool) (why : Reason) : State :=
  let d := s.groupSet k.row.group
  let s := (s.dropKept p.of).modRow p.of fun y => { y with kept := false }
  let s := if again then s.startKeep d p.of else s
  if s.isKept k.row then s.queueRow k.row why else s

/-! ### Lost units (R182, R183) -/

/-- The blocks of a row that lie on some failed dies are lost where two dies have failed, or no parity covers their
wordline; counted and recorded. -/
def State.loseUnits (s : State) (r : RowRef) (dies : List Nat) : State :=
  let x := s.rowRec r
  let g := (s.group r.group).geo
  let rebuilt := fun (u : Nat) => decide (dies.length < 2) && x.covered && x.hasParity (u / 16)
  let gone := ((s.ns x.nsid).map.filter fun b =>
    let u := unitAt g x.zone.isSome b.2.off
    decide (b.2.row = some r) && b.2.content ≠ .lost && dies.contains (s.dieOf r u) && !(rebuilt u)).map (·.1)
  if gone.isEmpty then s
  else
    let s := s.each gone fun s lba => s.modBlk x.nsid lba fun b => { b with content := .lost }
    let s := s.countLost x.nsid gone.length
    s.log Code.hole 2 0x200 [x.nsid, r.group, r.row, gone.length]

/-! ### Write sequence (R260) -/

/-- Takes the write sequence of `n` codewords; a reservation is recorded before the current one is half used.
(DEDUCED, log entry 45.) -/
def State.takeSeq (s : State) (n : Nat) : Nat × State :=
  let w := s.trail.wseq
  let s := { s with trail := { s.trail with wseq := w + n } }
  let due := decide (s.trail.wseqReserved - 2 ^ 31 ≤ w + n) && !(s.trail.half.any fun r => r = .wseqReserve (s.trail.wseqReserved + 2 ^ 32)) &&
    !(s.trail.flushes.any fun f => f.recs.contains (.wseqReserve (s.trail.wseqReserved + 2 ^ 32)))
  (w, if due then s.trailRec (.wseqReserve (s.trail.wseqReserved + 2 ^ 32)) else s)

/-! ### Trail programs (R255) -/

/-- A die works for a flush. -/
def Die.worksFor (d : Die) (seq : Nat) : Bool :=
  let mine := fun (o : FlashOp) => o.kind = .trailProgram && decide (o.owner = .job seq)
  d.shortQ.any mine || d.longQ.any mine || d.short.any mine || d.long.any mine

/-- The place of a flush's next segment: the formed groups in turn, a die in service that has none of the flush's segments,
with room in its Trail rows (R255; Table 5.11, row 2). -/
def State.trailPlace (s : State) (seq turn : Nat) : Option (Nat × (List Nat × Nat) × State) :=
  let gs := (s.zone.groups.filter fun g => g.2.formed && !g.2.withdrawn).map (·.1)
  (turned gs turn).findSome? fun g => ((s.group g).dies.filter fun d => s.dieServes d && !((s.die d).worksFor seq)).findSome? fun d =>
    (s.regionNext roleTrail d).map fun x => (d, x.1, x.2)

/-- Queues the programs of up to `n` segments of a flush. -/
def State.programFlush (s : State) (seq : Nat) : Nat → State
  | 0 => s
  | n + 1 => match s.trailPlace seq (seq + n) with
    | none => s
    | some (d, x, t) =>
      let t := t.enqueue d { kind := .trailProgram, owner := .job seq, phys := x.1, slcAt := x.2 }
      ({ t with trail := { t.trail with flushes := t.trail.flushes.map fun (f : Flush) =>
        if f.seq = seq then { f with todo := f.todo - 1 } else f } } : State).programFlush seq n

/-- Segments that wait for a die with room in its Trail rows. -/
def State.programFlushes (s : State) : State := s.each s.trail.flushes fun s f => s.programFlush f.seq f.todo

/-! ### Flushes of the Trail (R255, R399) -/

/-- LEN of a record (Table 8.7). -/
def TrailRec.len : TrailRec → Nat
  | .convMap .. => 32
  | .dealloc .. => 24
  | .zone .. => 32
  | .bind .. => 24
  | .verified .. => 16
  | .block .. => 16
  | .rowMap .. => 16
  | .hole .. => 24
  | .wseqReserve _ => 16
  | .fi .. => 16
  | .timestamp _ => 16
  | .settings .. => 16
  | .rule _ => 16
  | .dumpRelease _ => 16
  | .rowRelease _ _ planes => 256 * planes
  | .dirty _ bs => 16 * bs.length
  | .ckptBegin _ => 16
  | .ckptEnd _ => 16
  | .quiet => 8

/-- 64 KiB segments that hold records (Table 8.6). -/
def segmentsFor (recs : List TrailRec) : Nat := ceilDiv (recs.map TrailRec.len).sum 65468

/-- Closes the filled half as a flush of `n` segments; the Trail since the last complete checkpoint is measured (R259). -/
def State.closeHalf (s : State) (n : Nat) : State :=
  let t := s.trail
  let done := t.sinceDone + n * 65536
  { s with trail := { t with
    flushSeq := t.flushSeq + 1, half := [], segSeq := t.segSeq + n
    sinceBegin := t.sinceBegin + n * 65536, sinceDone := done
    held := t.held || decide (2 * s.cfgOf Cfg.TRAIL_CKPT_BYTES * 1048576 ≤ done)
    flushes := t.flushes ++ [({ seq := t.flushSeq + 1, first := t.segSeq, recs := t.half.reverse, todo := n, snap := s.zone.nss } : Flush)] } }

/-- Cuts the filled half as a flush (R255): one segment for each of as many dies. An empty half writes nothing.
(DESIGN CHOICE, log entry 14.) -/
def State.cutFlush (s : State) : State :=
  if s.trail.half.isEmpty then s
  else
    let n := segmentsFor s.trail.half.reverse
    let s := s.closeHalf n
    (s.takeSeq (16 * n)).2.programFlushes

/-- In PS3 or PS4, and no maintenance wake runs (R422). -/
def State.asleep (s : State) : Bool := decide (3 ≤ s.power.ps) && s.power.maint.isNone

/-- A non-operational state is being entered: firmware starts no erase, Refire, relocation, verify or fixity zone (R416). -/
def State.settling (s : State) : Bool :=
  s.power.entering.isSome || (s.power.chosen.isSome && s.intakeIdle && !s.power.gaveUp && s.power.backoff.isNone && decide (s.power.ps < 3))

/-- The power state whose limits firmware works under: PS2's in a maintenance wake (R409, R422). -/
def State.powerMode (s : State) : Nat := if s.power.maint.isSome then 2 else s.power.ps

/-- The Trail is written: the part is up, no dump runs, the dies are awake. -/
def State.trailOn (s : State) : Bool := s.boot.phase = .ready && !s.trail.dumpMode && !s.asleep

/-- A flush starts, unless one is under way: fields staged for the next flush come into force (R255, R399). -/
def State.flushNow (s : State) : State :=
  if !s.trailOn ∨ !s.trail.flushes.isEmpty then s else (s.takeCfg .flush fun _ => true).cutFlush

/-! ### Predictable Latency -/

/-- CFG_PLM_WRITE_ALLOW[d] in MiB: its default is proportional, in steps of 64 MiB (Table 5.25). -/
def State.allowDefault (s : State) (d : Nat) : Nat :=
  8192 * (s.dieSet d).groups.length / max 1 (Tab.count (fun _ g => g.formed) s.zone.groups) / 64 * 64
def State.writeAllow (s : State) (d : Nat) : Nat := (s.cfgNamed Cfg.PLM_WRITE_ALLOW d).getD (s.allowDefault d)

/-! ### Budgets (R53) -/

/-- The open or active budgets of the die sets of a plan (each with its groups): the image's values; the sets it does not
name divide what those leave in proportion to their groups, rounded down, the remainder one each to the lowest-numbered
(R53; DEDUCED, log entry 41). -/
def budgets (named : Nat → Option Nat) (limit : Nat) (plan : List (Nat × List Nat)) : List (Nat × Nat) :=
  let open_ := plan.filter fun p => (named p.1).isNone
  let left := limit - (plan.map fun p => (named p.1).getD 0).sum
  let total := max 1 (open_.map fun p => p.2.length).sum
  let part := fun (p : Nat × List Nat) => left * p.2.length / total
  let rest := left - (open_.map part).sum
  let shares := open_.zipIdx.map fun x => (x.1.1, part x.1 + if x.2 < rest then 1 else 0)
  plan.map fun p => (p.1, (named p.1).getD (((shares.find? fun x => decide (x.1 = p.1)).map (·.2)).getD 0))

/-- The spares that the unused remainder of a group's rows makes, in rows, where the die set's ZCAP is that of a smaller
geometry (R40; DESIGN CHOICE, log entry 106). -/
def State.setRemainders (s : State) (gs : List Nat) : State :=
  let area := fun (g : Nat) => 16 * (s.group g).geo.wordlines * (s.group g).geo.unitBlocks
  let least := gs.foldl (fun b g => min b (area g)) (area (gs.headD 0))
  s.each gs fun s g =>
    (s.modGroup g fun x => { x with remainder := x.zoneRows * (area g - least) / max 1 (area g) }).refreshSpares g

end Sys2Proof.Machine
end

