-- ==== Sys2Proof/Machine/RegView.lean ====
section
/-!
DEFINITION. What a read of a manager register field gives where the field shows the state of a block instead of a value
of its own (R6; Tables 0.1, 4.8 to 4.14, 5.18 to 5.24, 6.14 to 6.17, 7.13, 8.12, 8.13, 9.12, 9.13, 10.6, 10.7, 11.8 to
11.11, 13.15 to 13.17, 14.7, 15.11 to 15.13, 16.7, 16.8, 17.13, 17.14 and 18.10).
-/

namespace Sys2Proof.Machine

/-- Twelve bits two's complement in 1/8 °C of a temperature in 1/1000 °C (R445). -/
def temp12 (t : Int) : Nat := (t * 8 / 1000 % 4096).toNat

/-- CZ_ID (Table 0.1): the firmware release reads 0 until the control cores are loaded. -/
def State.viewId (s : State) : List (Nat × Nat) :=
  let loaded := s.boot.running ≠ 0
  [(Reg.CZ_ID_FW_MAJOR, if loaded then 3 else 0), (Reg.CZ_ID_FW_MINOR, if loaded then 2 else 0)]

/-- Tables 4.8, 4.9 and 4.14. -/
def State.viewSieve (s : State) : List (Nat × Nat) :=
  let i := s.reg Reg.SIEVE_INST_SEL_INST
  [(Reg.SIEVE_OCC_INFLIGHT, s.inflightCount),
   (Reg.SIEVE_OCC_RULES, Tab.count (fun p e => decide (p < s.inflightBase) && e.valid) s.sieve.ents),
   (Reg.SIEVE_STATUS_FULL, b2n (!s.intake.sieveWait.isEmpty)),
   (Reg.SIEVE_STATUS_SHIFT_BUSY, b2n (!s.sieve.shifts.isEmpty)),
   (Reg.SIEVE_STATUS_SHIFT_QUEUED, s.sieve.shifts.length),
   (Reg.SIEVE_STATUS_WALKS, s.sieve.walks.length),
   (Reg.SIEVE_STATUS_RETIRED, min 255 s.sieve.retired.length),
   (Reg.SIEVE_INST_QUOTA_QUOTA, (s.inst i).sieveQuota),
   (Reg.SIEVE_INST_USED_USED, s.sieveUsed i),
   (Reg.SIEVE_INST_USED_HELD, s.sieve.heldCount.get 0 i)]

/-- RATE of Table 5.22. -/
def rateCode (r : Nat) : Nat :=
  if r = 1600 then 1 else if r = 2400 then 2 else if r = 3200 then 3 else if r = 3600 then 4 else if r = 4800 then 5 else 0

def DieState.code : DieState → Nat
  | .idle => 0
  | .reading => 1
  | .slcProgramming => 2
  | .pass => 3
  | .gap => 4
  | .erasing => 5
  | .suspending => 6
  | .suspended => 7
  | .resuming => 8

def BlockState.code : BlockState → Nat
  | .spare => 0
  | .dirty => 1
  | .erasing => 2
  | .eraseSuspended => 3
  | .erased => 4
  | .open_ => 5
  | .full => 6
  | .retired => 7

/-- Mean erase counts of a die set's zone rows, and of its SLC rows (FBE_MM_DS_WEAR, R204). -/
def State.qlcMeanOf (s : State) (gs : List Nat) : Nat :=
  (gs.map fun g => Tab.sum (fun _ n => n) (s.group g).erases).sum /
    max 1 (gs.map fun g => (s.group g).zoneRows).sum
def State.slcBlockCount (s : State) (g : Nat) : Nat :=
  let x := s.group g
  x.dies.length * x.geo.planes * (x.poolRows + 2 + x.trailRows)
def State.slcMeanOf (s : State) (gs : List Nat) : Nat :=
  let mine := s.flash.blocks.filter fun b => (s.die (b.1 / 32768)).inGroup && gs.contains (s.die (b.1 / 32768)).group
  Tab.sum (fun _ b => b.slcErases) mine / max 1 (gs.map s.slcBlockCount).sum
def State.qlcMean (s : State) (d : Nat) : Nat := s.qlcMeanOf (s.dieSet d).groups
def State.slcMean (s : State) (d : Nat) : Nat := s.slcMeanOf (s.dieSet d).groups

/-- The highest Firing Index of a die set's bound zones, in hours (R187, R209). -/
def State.fiMax (s : State) (d : Nat) : Nat :=
  (s.zonesOf d fun z => z.row.isSome).foldl (fun b z => match z.2.2.row with
    | some r => max b (((s.group r.group).fi - z.2.2.fiStamp) / 921600)
    | none => b) 0

/-- The closed Pulse Gates, one bit per Bay. -/
def State.closedMask (s : State) : Nat := (s.flash.closed.map fun b => 2 ^ b).sum

/-- Tables 5.18, 5.22 and 5.24. -/
def State.viewFbe (s : State) : List (Nat × Nat) :=
  let c := s.flash.chans.get {} (s.reg Reg.FBE_CH_SEL_CH)
  let d := s.die (s.reg Reg.FBE_DIE_SEL_DIE)
  [(Reg.FBE_PG_STATUS_CLOSED, s.closedMask),
   (Reg.FBE_CH_STATUS_RATE, rateCode c.rate), (Reg.FBE_CH_STATUS_FALLBACK, b2n c.fallback),
   (Reg.FBE_CH_STATUS_DIES, c.dies), (Reg.FBE_CH_STATUS_RETRAINS, min 65535 c.retrains),
   (Reg.FBE_DIE_STATUS_STATE, d.st.code), (Reg.FBE_DIE_STATUS_SUSP_COUNT, min 15 d.suspCount),
   (Reg.FBE_DIE_STATUS_PRESENT, b2n d.present), (Reg.FBE_DIE_STATUS_IN_GROUP, b2n d.inGroup),
   (Reg.FBE_DIE_STATUS_PLM_OK, b2n d.plmOk), (Reg.FBE_DIE_STATUS_RETIRED, b2n d.retired),
   (Reg.FBE_DIE_STATUS_UTIL, d.util)]

/-- Tables 6.14 to 6.17. -/
def State.viewMedia (s : State) : List (Nat × Nat) :=
  let d := s.reg Reg.FBE_MM_DS_SEL_DS
  let x := s.dieSet d
  let b := s.flash.blkCaptured.getD {}
  [(Reg.FBE_MM_BLANKET_HELD, Tab.count (fun _ r => r.pool.any fun p => !p.2.isEmpty) s.flash.rows % 65536),
   (Reg.FBE_MM_BLANKET_BACKLOG, Tab.count (fun _ r => r.zone.isSome && r.verifying) s.flash.rows % 65536),
   (Reg.FBE_MM_POOL_FREE_FREE, (((s.flash.dies.map (·.1)).filter s.dieServes).map s.poolTotal).sum % 2 ^ 24),
   (Reg.FBE_MM_REFIRE_RUNNING, Tab.sum (fun _ y => y.running.length) s.zone.dieSets),
   (Reg.FBE_MM_REFIRE_QUEUED, min 65535 (Tab.sum (fun _ y => y.queue.length) s.zone.dieSets)),
   (Reg.FBE_MM_DS_STATUS_SPARE_PCT, s.spareLevel d),
   (Reg.FBE_MM_DS_STATUS_STAGE, x.stage.rank), (Reg.FBE_MM_DS_STATUS_KEPT, b2n x.kept),
   (Reg.FBE_MM_DS_STATUS_SPARE_ROWS, (x.groups.map fun g => (s.group g).spareRows).sum),
   (Reg.FBE_MM_DS_WEAR_QLC_MEAN, s.qlcMean d), (Reg.FBE_MM_DS_WEAR_SLC_MEAN, s.slcMean d),
   (Reg.FBE_MM_DS_FI_FI_MAX, s.fiMax d % 2 ^ 24),
   (Reg.FBE_MM_BLK_STATUS_STATE, b.st.code), (Reg.FBE_MM_BLK_STATUS_MODE, b2n b.slc),
   (Reg.FBE_MM_BLK_STATUS_ROLE, b.role), (Reg.FBE_MM_BLK_STATUS_SUSPECT, b2n b.suspect),
   (Reg.FBE_MM_BLK_STATUS_NEXT, b.next),
   (Reg.FBE_MM_BLK_WEAR_ERASES, min 65535 (if b.slc then b.slcErases else b.qlcErases)),
   (Reg.FBE_MM_BLK_WEAR_ROW, b.row)]

/-- Table 7.13. -/
def State.viewEcc (s : State) : List (Nat × Nat) :=
  let g := s.fixity.groups.get {} (s.reg Reg.FLT_ECC_REMAP_SEL_GROUP)
  [(Reg.FLT_ECC_CTRL_BUSY, b2n s.fixity.testBusy), (Reg.FLT_ECC_REMAP_STATUS_USED, g.used),
   (Reg.FLT_ECC_REMAP_STATUS_FULL, b2n g.full), (Reg.FLT_ECC_REMAP_STATUS_OUT, b2n g.out)]

/-- Tables 8.12 and 8.13. -/
def State.viewTrail (s : State) : List (Nat × Nat) :=
  [(Reg.PWR_EXPOSURE_UNITS, s.exposure), (Reg.PWR_EXPOSURE_LIMIT_LIMIT, s.exposureLimit),
   (Reg.PWR_TRAIL_STATUS_SINCE_CKPT, min 65535 (s.trail.sinceBegin / 1048576)),
   (Reg.PWR_TRAIL_STATUS_CKPT_BUSY, b2n s.trail.ckptBusy), (Reg.PWR_TRAIL_STATUS_HELD, b2n s.trail.held)]

def SlotState.code : SlotState → Nat
  | .empty => 0
  | .ready => 1
  | .draining => 2
  | .locked => 3

/-- Tables 9.12 and 9.13. -/
def State.viewGlaze (s : State) : List (Nat × Nat) :=
  let k := s.slotAt (s.reg Reg.GLZ_SLOT_SEL_SLOT)
  [(Reg.GLZ_STATUS_ALARM, b2n s.glaze.alarm.isSome), (Reg.GLZ_STATUS_SOURCE, s.glaze.lastAlarm),
   (Reg.GLZ_STATUS_READY, Tab.count (fun i x => decide (i ≠ 0) && decide (x.st = .ready)) s.glaze.slots),
   (Reg.GLZ_STATUS_CONTEXTS, Tab.sum (fun _ l => l.contexts.length) s.glaze.lanes),
   (Reg.GLZ_STATUS_DRBG_FAIL, b2n s.glaze.drbgFail),
   (Reg.GLZ_SLOT_STATUS_STATE, k.st.code), (Reg.GLZ_SLOT_STATUS_MODE, b2n k.gcm),
   (Reg.GLZ_SLOT_STATUS_REASON, if k.st = .locked then k.reason else 0), (Reg.GLZ_SLOT_STATUS_GEN, k.gen),
   (Reg.GLZ_SLOT_STATUS_OWNER, k.owner)]

/-- The pool that HMP_INST_SEL.POOL selects. -/
def State.instPool (s : State) : Nat := if s.reg Reg.HMP_INST_SEL_POOL = 0 then poolNR else poolFW

/-- Tables 10.6 and 10.7. -/
def State.viewHamper (s : State) : List (Nat × Nat) :=
  let p := s.reg Reg.HMP_POOL_SEL_POOL
  let x := s.pool p
  let i := s.reg Reg.HMP_INST_SEL_INST
  let q := s.instPool
  let own := p = poolNR || p = poolFW
  [(Reg.HMP_POOL_THRESH_AMBER, if own then s.amberPct p else 0), (Reg.HMP_POOL_THRESH_RED, if own then s.redPct p else 0),
   (Reg.HMP_POOL_STATUS_USED, x.used), (Reg.HMP_POOL_STATUS_AMBER, b2n x.amber), (Reg.HMP_POOL_STATUS_RED, b2n x.red),
   (Reg.HMP_POOL_STATUS_REBUILD, b2n x.rebuild), (Reg.HMP_POOL_SIZE_UNITS, x.size),
   (Reg.HMP_INST_QUOTA_QUOTA, s.quotaOf q i),
   (Reg.HMP_INST_SHARE_SHARE, if q = poolNR then (s.inst i).nrShare else (s.inst i).fwShare),
   (Reg.HMP_INST_USED_USED, s.unitsOf q i)]

/-- RATE of Table 11.8. -/
def dramRateCode (r : Nat) : Nat :=
  if r = 4800 then 1 else if r = 5600 then 2 else if r = 6400 then 3 else if r = 7200 then 4 else if r = 8000 then 5
  else if r = 8800 then 6 else 0

/-- Tables 11.8, 11.9 and 11.11. -/
def State.viewDram (s : State) : List (Nat × Nat) :=
  let c := s.dram.chans.get {} (s.reg Reg.DMC_CH_SEL_CH)
  let e := c.remap[s.reg Reg.DMC_REMAP_SEL_ENTRY]?
  [(Reg.DMC_STATUS_RATE, dramRateCode s.dram.rate), (Reg.DMC_STATUS_FALLBACK, b2n s.dram.fallback),
   (Reg.DMC_STATUS_RETRAIN, b2n s.dram.training.isSome),
   (Reg.DMC_CH_STATUS_QUEUED, c.queue.length), (Reg.DMC_CH_STATUS_REMAP_USED, c.remap.length),
   (Reg.DMC_CH_STATUS_REMAP_FULL, b2n c.remapFull),
   (Reg.DMC_CH_STATUS_FORCED_REF, min 65535 c.forcedRef),
   (Reg.DMC_REMAP_ENTRY_ADDR, e.getD 0), (Reg.DMC_REMAP_ENTRY_VALID, b2n e.isSome)]

def InstState.number : InstState → Nat
  | .offline => 0
  | .online => 1
  | .pausing => 2
  | .paused => 3
  | .stopping => 4
  | .held => 5

/-- IN_FULL of 32 instances from `32 j` on (MBX_PEND). -/
def State.mbxPending (s : State) (j : Nat) : Nat :=
  ((List.range 32).map fun k => b2n (s.inst (32 * j + k)).mbxM.inFull * 2 ^ k).sum

/-- Tables 13.15 to 13.17. -/
def State.viewTenants (s : State) : List (Nat × Nat) :=
  let m := (s.inst (s.reg Reg.MBX_INST_SEL_INST)).mbxM
  let i := s.reg Reg.MIG_SEL_INST
  let d := (s.inst i).dirty
  let p := s.tenant
  [(Reg.MBX_INST_STATUS_OUT_BUSY, b2n m.outBusy), (Reg.MBX_INST_STATUS_IN_FULL, b2n m.inFull),
   (Reg.MBX_INST_STATUS_ERR, b2n m.err), (Reg.MBX_INST_STATUS_DROPPED, b2n m.dropped),
   (Reg.MBX_INST_STATUS_ACK_STATUS, m.ackStatus)] ++
  (List.range 16).map (fun j => (Reg.MBX_PEND0_IN_FULL + 128 * j, s.mbxPending j)) ++
  [(Reg.MIG_CTRL_ENABLE, b2n d.enabled), (Reg.MIG_STATUS_ACTIVE, b2n (d.activeB != d.harvestBusy)),
   (Reg.MIG_STATUS_HARVEST_BUSY, b2n d.harvestBusy), (Reg.MIG_STATUS_OUTSIDE, b2n d.outside),
   (Reg.MIG_STATUS_REFUSED, b2n d.refused), (Reg.MIG_STATUS_RPT_LOST, p.rptLost),
   (Reg.MIG_INST_STATE_STATE, (s.inst i).st.number),
   (Reg.MIG_WIN_BASE_LO_BASE, d.newBase * 4096 % 2 ^ 32), (Reg.MIG_WIN_BASE_HI_BASE, d.newBase * 4096 / 2 ^ 32),
   (Reg.MIG_WIN_PAGES_PAGES, d.newPages),
   (Reg.MIG_LOG_A_LO_ADDR, d.newA % 2 ^ 32), (Reg.MIG_LOG_A_HI_ADDR, d.newA / 2 ^ 32),
   (Reg.MIG_LOG_B_LO_ADDR, d.newB % 2 ^ 32), (Reg.MIG_LOG_B_HI_ADDR, d.newB / 2 ^ 32),
   (Reg.MIG_OUTSIDE_COUNT, d.outsideCount),
   (Reg.MIG_RPT_BASE_LO_ADDR, p.rptNewBase % 2 ^ 32), (Reg.MIG_RPT_BASE_HI_ADDR, p.rptNewBase / 2 ^ 32),
   (Reg.MIG_RPT_SIZE_SIZE, p.rptSize), (Reg.MIG_RPT_HEAD_HEAD, p.rptHead), (Reg.MIG_RPT_TAIL_TAIL, p.rptTail)]

/-- Table 14.7. -/
def State.viewWaymark (s : State) : List (Nat × Nat) :=
  [(Reg.WMK_STATUS_OUTSTANDING, ((s.wmk.ports.get {} 0).out.filter fun f => !f.dropped).length), (Reg.WMK_STATUS_TREE, s.inTree)]

/-- LTR is reduced to the host's tolerance (R411). -/
def State.ltrClipped (s : State) : Bool := match s.tolerance with
  | some t => decide (t < s.intake.ltr)
  | none => false

/-- Tables 15.11 to 15.13. -/
def State.viewPower (s : State) : List (Nat × Nat) :=
  let d := s.power.domains.get {} (s.reg Reg.PWR_DOM_SEL_DOMAIN)
  [(Reg.PWR_STATUS_PS, s.power.ps), (Reg.PWR_STATUS_TARGET, s.power.entering.getD s.power.ps),
   (Reg.PWR_STATUS_LTR_CLIP, b2n s.ltrClipped), (Reg.PWR_STATUS_AVS_HELD, b2n s.power.avsHeld),
   (Reg.PWR_STATUS_G, s.power.g),
   (Reg.PWR_DOM_STATUS_STATE, d.st), (Reg.PWR_DOM_STATUS_IDLE, b2n d.idle), (Reg.PWR_DOM_STATUS_AUTO_WAKES, d.autoWakes),
   (Reg.PWR_AVS_STATUS_CONFIRMED, if s.power.readBack then s.power.confirmed else 0),
   (Reg.PWR_AVS_STATUS_REQUESTED, match s.power.avs with
      | some a => a.mv
      | none => 0),
   (Reg.PWR_AVS_STATUS_BUSY, b2n s.power.avs.isSome)]

/-- The domains that feed a node (Table 16.2). -/
def nodeDomains (n : Nat) : List Nat :=
  if n < 8 then (List.range 8).map (fun k => 8 * n + k) ++ [64 + n]
  else if n < 10 then [91 + (n - 8)]
  else if n = 10 then [78]
  else if n = 11 then [79, 80]
  else if n < 16 then [81 + (n - 12)]
  else if n < 18 then [72 + (n - 16)]
  else if n < 22 then [74 + (n - 18)]
  else if n = 22 then [85, 86, 87, 88, 89, 90]
  else if n = 23 then [93, 94, 95]
  else []

/-- Power of a node in mW (R435). -/
def State.nodePower (s : State) (n : Nat) : Nat := ((nodeDomains n).map fun d => s.cone.power.getD d 0).sum

/-- Domains on VDD_CORE: those that vote (Table 15.3; the rail of each is read from it by inference). -/
def onCore (d : Nat) : Bool := d < 72 || (74 ≤ d && d < 93)

/-- Controller power in mW (R433). -/
def State.totalPower (s : State) : Nat := s.cone.power.sum
def State.corePower (s : State) : Nat := ((s.cone.power.zipIdx.filter fun x => onCore x.2).map (·.1)).sum

/-- Life average of T (R443). -/
def State.lifeAverage (s : State) : Int := s.cone.lifeSum / max 1 s.cone.lifeSecs

/-- The ceiling of Cone's setpoint in mV (R407, R438). -/
def State.coreCeiling (s : State) : Nat := if s.powerMode = 2 then min 750 (s.cfgOf Cfg.PWR_PS2_VMAX) else 750

/-- Tables 16.7 and 16.8. -/
def State.viewCone (s : State) : List (Nat × Nat) :=
  let c := s.cone
  let n := s.reg Reg.CONE_NODE_SEL_NODE
  [(Reg.CONE_STATUS_F, c.f), (Reg.CONE_STATUS_HOT_NODE, c.hotNode),
   (Reg.CONE_STATUS_AVS_DOWN, b2n (decide (s.power.confirmed < s.coreCeiling) && decide (s.power.ps < 3))),
   (Reg.CONE_STATUS_DIODE_FAIL, (c.failed.map fun k => 2 ^ k).sum), (Reg.CONE_STATUS_TRIP, b2n c.trip),
   (Reg.CONE_TEMP_T_HOT, temp12 c.hot), (Reg.CONE_TEMP_T_NAND, temp12 c.nand),
   (Reg.CONE_ANCHOR_BASE, temp12 c.base), (Reg.CONE_ANCHOR_RESIDUAL, temp12 c.residual),
   (Reg.CONE_POWER_TOTAL, s.totalPower / 10 % 65536), (Reg.CONE_POWER_CORE, s.corePower / 10 % 65536),
   (Reg.CONE_NODE_TEMP, temp12 (if n = 24 then c.diode0 else if n = 25 then c.diode1 else c.nodes.get 0 n)),
   (Reg.CONE_NODE_POWER, s.nodePower n / 10 % 65536),
   (Reg.CONE_HIST_SECONDS, c.hist.get 0 (s.reg Reg.CONE_HIST_SEL_BIN) % 2 ^ 32), (Reg.CONE_LIFE_AVG_AVG, temp12 s.lifeAverage)]

/-- Table 17.13. -/
def State.viewFault (s : State) : List (Nat × Nat) :=
  let x := s.src (s.reg Reg.FLT_SRC_SEL_SOURCE)
  [(Reg.FLT_STATUS_GRAVE, b2n s.fault.grave), (Reg.FLT_STATUS_HANDLER_BUSY, b2n s.fault.handler.isSome),
   (Reg.FLT_STATUS_QUEUED, s.fault.queue.length), (Reg.FLT_SRC_COUNT_COUNT, x.count),
   (Reg.FLT_SRC_STATE_WIN_COUNT, min 255 x.winCount), (Reg.FLT_SRC_STATE_ESCALATED, b2n x.escalated),
   (Reg.FLT_SRC_STATE_WORST, x.worst), (Reg.FLT_SRC_STATE_LAST_KIND, x.lastKind)]

/-- Table 17.14. -/
def State.viewKlog (s : State) : List (Nat × Nat) :=
  [(Reg.KLOG_STATUS_USED, recBytes s.klog.ring / 16), (Reg.KLOG_STATUS_PERSIST_BUSY, b2n s.klog.persistDue),
   (Reg.KLOG_DROP_COUNT, s.klog.drops.get 0 (s.reg Reg.KLOG_DROP_SEL_SEVERITY))]

/-- Table 18.10. -/
def State.viewMgmt (s : State) : List (Nat × Nat) := [(Reg.CFG_MBX_STATUS_SESSION, b2n s.mgmt.session.isSome)]

/-- The fields that show a block's state, by the register block of their offset. -/
def State.viewBlock (s : State) (page : Nat) : List (Nat × Nat) :=
  if page = 0x00 then s.viewId
  else if page = 0x02 then s.viewWaymark
  else if page = 0x03 then s.viewFault ++ s.viewEcc
  else if page = 0x04 then s.viewKlog
  else if page = 0x05 then s.viewPower ++ s.viewTrail
  else if page = 0x06 then s.viewCone
  else if page = 0x07 then s.viewSieve
  else if page = 0x08 then s.viewHamper ++ s.viewGlaze
  else if page = 0x09 then s.viewHamper ++ s.viewGlaze
  else if page = 0x0A then s.viewDram
  else if page = 0x0B then s.viewFbe ++ s.viewMedia
  else s.viewTenants ++ s.viewMgmt

/-- Registers that show a field of the configuration image: its ID and index, and how many of its units one unit of the
register is. A write of such a register is a write of the field (R8, R466). -/
def aliasTable : List (Nat × Nat × Nat × Nat) :=
  [(Reg.PWR_TRAIL_CFG_FLUSH_MS, Cfg.TRAIL_FLUSH_MS, 0, 1), (Reg.GLZ_CFG_DUMMY_MAX, Cfg.GLZ_DUMMY_MAX, 0, 1),
   (Reg.DMC_CFG_AGE_CAP, Cfg.DMC_AGE_CAP, 0, 100), (Reg.DMC_CFG_WR_HIGH, Cfg.DMC_WR, 0, 1),
   (Reg.DMC_CFG_WR_LOW, Cfg.DMC_WR, 1, 1), (Reg.CONE_CFG_T_THROTTLE, Cfg.CONE_T_THROTTLE, 0, 1),
   (Reg.CONE_CFG_K, Cfg.CONE_K, 0, 1), (Reg.CONE_CFG_FLOOR, Cfg.CONE_FLOOR, 0, 1),
   (Reg.CONE_CFG_NAND_THROTTLE, Cfg.CONE_NAND_THROTTLE, 0, 1), (Reg.CONE_CFG_AVS_DELTA, Cfg.CONE_AVS_DELTA, 0, 1),
   (Reg.KLOG_CFG_PEL_MIN, Cfg.KLOG_PEL_MIN, 0, 1)]

/-- The value of a configuration field as a read gives it: a value written and not yet in force first (R8). -/
def State.cfgShown (s : State) (id idx : Nat) : Nat :=
  match s.cfgStaged.get none (cfgKey id idx) with
  | some v => v
  | none => s.cfgAt id idx

/-- Fields whose cold value is "Restored" (Tables 6.14 to 6.16, 8.12, 8.13, 16.8; R211).
(DESIGN CHOICE, log entry 6.) -/
def restoredFields : List Nat :=
  [Reg.FBE_MM_BLANKET_HELD, Reg.FBE_MM_BLANKET_BACKLOG, Reg.FBE_MM_POOL_FREE_FREE, Reg.FBE_MM_REFIRE_QUEUED,
   Reg.FBE_MM_REFIRE_COUNT_DONE, Reg.FBE_MM_EARLY_TRANSIENT, Reg.FBE_MM_EARLY_CONFIRMED, Reg.FBE_MM_RETIRED_BLOCKS,
   Reg.FBE_MM_RETIRED_DIES, Reg.FBE_MM_DS_STATUS_SPARE_PCT, Reg.FBE_MM_DS_STATUS_STAGE, Reg.FBE_MM_DS_STATUS_KEPT,
   Reg.FBE_MM_DS_STATUS_SPARE_ROWS, Reg.FBE_MM_DS_WEAR_QLC_MEAN, Reg.FBE_MM_DS_WEAR_SLC_MEAN, Reg.FBE_MM_DS_FI_FI_MAX,
   Reg.PWR_LOSS_STATUS_LAST, Reg.PWR_LOSS_STATUS_LOST, Reg.PWR_LOSS_STATUS_BROWNOUT, Reg.PWR_LOSS_STATUS_DUMP_MS,
   Reg.PWR_TRAIL_CKPTS_COUNT, Reg.CONE_HIST_SECONDS, Reg.CONE_LIFE_AVG_AVG]

/-- What a read of a field gives: 0 for a restored field until the Trail has been replayed (R211); else what it shows, else the configuration field behind it, else its own value. -/
def State.show (s : State) (k : Nat) : Nat :=
  if !s.boot.replayed ∧ restoredFields.contains k then 0
  else match (s.viewBlock (k / 131072)).find? fun e => e.1 = k with
  | some e => e.2
  | none => match aliasTable.find? fun e => decide (e.1 = k) with
    | some (_, id, idx, unit) => s.cfgShown id idx / unit
    | none => s.reg k

/-- The counters and occupancy fields that a snapshot covers (R401): read-only fields that saturate, USED and OCC
fields, the Kiln Log sequence. -/
def snapshotFields : List Nat :=
  [Reg.SIEVE_OCC_INFLIGHT, Reg.SIEVE_OCC_RULES, Reg.SIEVE_STATUS_RETIRED, Reg.SIEVE_FH_COUNT_COUNT,
   Reg.SIEVE_SCRUB_COUNT_COUNT, Reg.SIEVE_FULL_COUNT_COUNT, Reg.SIEVE_INST_USED_USED, Reg.SIEVE_INST_USED_HELD,
   Reg.FBE_CBC_COUNT_COUNT, Reg.FBE_PG_STATUS_EVENTS, Reg.FBE_REFUSE_COUNT_COUNT, Reg.FBE_CH_STATUS_RETRAINS,
   Reg.FBE_MM_REFIRE_QUEUED, Reg.FBE_MM_REFIRE_COUNT_DONE, Reg.FBE_MM_EARLY_TRANSIENT, Reg.FBE_MM_EARLY_CONFIRMED,
   Reg.FBE_MM_BLK_WEAR_ERASES, Reg.FBE_LDPC_RETRY_COUNT, Reg.FBE_LDPC_SOFT_COUNT, Reg.FBE_LDPC_TRANSIENT_COUNT,
   Reg.FBE_LDPC_CONFIRMED_COUNT, Reg.FBE_LDPC_REBUILT_COUNT, Reg.FLT_ECC_CORR_COUNT, Reg.FLT_ECC_UNCORR_COUNT,
   Reg.FLT_ECC_REMAP_STATUS_USED, Reg.PWR_LOSS_STATUS_DUMP_MS, Reg.PWR_LOSS_STATUS_GLITCHES,
   Reg.PWR_TRAIL_STATUS_SINCE_CKPT, Reg.PWR_TRAIL_CKPTS_COUNT, Reg.GLZ_ALARM_COUNT_COUNT, Reg.GLZ_AUTH_FAIL_COUNT,
   Reg.GLZ_SUSPEND_COUNT_COUNT, Reg.HMP_POOL_STATUS_USED, Reg.HMP_INST_USED_USED, Reg.HMP_OWN_COUNT_COUNT,
   Reg.DMC_CH_STATUS_REMAP_USED, Reg.DMC_CH_STATUS_FORCED_REF, Reg.DMC_ERR_CORR_COUNT, Reg.DMC_ERR_POISON_COUNT,
   Reg.DMC_ERR_PRIV_COUNT, Reg.DMC_CA_REPLAY_TRANSIENT, Reg.DMC_CA_REPLAY_LASTING, Reg.MIG_STATUS_RPT_LOST,
   Reg.MIG_OUTSIDE_COUNT, Reg.WMK_COUNT_COUNT, Reg.PWR_VOTE_COUNT_REFUSALS, Reg.PWR_VOTE_COUNT_ABORTS,
   Reg.PWR_DOM_STATUS_AUTO_WAKES, Reg.PWR_AVS_FAIL_RETRIES, Reg.PWR_AVS_FAIL_FAILURES, Reg.PWR_WAKE_LAST_EXIT_US,
   Reg.FLT_OVF_COUNT_COUNT, Reg.FLT_SRC_COUNT_COUNT, Reg.FLT_SRC_STATE_WIN_COUNT, Reg.KLOG_STATUS_USED,
   Reg.KLOG_STATUS_UNSAVED_LOST, Reg.KLOG_SEQ_NEXT, Reg.KLOG_SEQ_SAVED, Reg.KLOG_DROP_COUNT, Reg.KLOG_SUPP_COUNT]

/-- The 32 bits of a register that the fields' own values make. -/
def State.regWord (s : State) (off : Nat) : Nat := ((fieldsAt off).map fun f => s.show f.key * 2 ^ (f.key % 32)).sum

/-- What a manager read of a field gives: the bank's value of a covered field while WMK_SNAP.VIEW is 1 (R402). -/
def State.readField (s : State) (k : Nat) : Nat :=
  if s.reg Reg.WMK_SNAP_VIEW = 1 then
    match s.wmk.bank.find? fun e => e.1 = k with
    | some e => e.2
    | none => s.show k
  else s.show k

end Sys2Proof.Machine
end

