-- ==== Sys2Proof/Machine/OpsWaymark.lean ====
section
/-!
DEFINITION. Waymark fences that begin: refusal, the tree's 64 operations, the cut and its copies (R395, R398 to R401).
-/

namespace Sys2Proof.Machine

/-- The power domain of a BAR2 register block, by page (Table 15.3). Cone's lies in domain 93, the mailbox and MIG blocks
of the control plane in control cluster 0, the rest of the management plane in AON (R320, R431, R443, R462; DEDUCED, log entry 22). -/
def pageDomain (page : Nat) : Nat :=
  if page = 0x06 then 93
  else if page = 0x07 then 85
  else if page = 0x08 then 87
  else if page = 0x09 then 78
  else if page = 0x0A then 74
  else if page = 0x0B then 64
  else if page ≤ 5 ∧ page ≠ 1 then 94
  else 81

/-- The power domain a register's content lies in: that of the selected channel, die or macro group where the notes of the
tables name it (Tables 5.24, 6.17, 7.13, 11.11), AON for CONE_HIST and CONE_LIFE_AVG (Table 16.8).
(DEDUCED, log entry 22.) -/
def State.regDomain (s : State) (off : Nat) : Nat :=
  match off with
  | 0x3814 => if s.reg Reg.FLT_ECC_REMAP_SEL_GROUP < 96 then 87 + s.reg Reg.FLT_ECC_REMAP_SEL_GROUP / 24 else 94
  | 0x6024 => 94
  | 0x6028 => 94
  | 0xA00C => 74 + s.reg Reg.DMC_CH_SEL_CH
  | 0xA034 => 74 + s.reg Reg.DMC_CH_SEL_CH
  | 0xB024 => s.reg Reg.FBE_CH_SEL_CH
  | 0xB034 => channelOf (s.reg Reg.FBE_DIE_SEL_DIE)
  | 0xB134 => channelOf (s.reg Reg.FBE_MM_BLK_SEL_DIE)
  | 0xB138 => channelOf (s.reg Reg.FBE_MM_BLK_SEL_DIE)
  | _ => pageDomain (off / 4096)

/-- A domain is clock-stopped, gated or off: it answers no read (R9, R414). (DEDUCED, log entry 22.) -/
def State.domainOff (s : State) (d : Nat) : Bool := (s.power.domains.get {} d).st ≠ 0

/-- The copy of a field in the snapshot bank (R401, R405): all ones where its domain is off. (DEDUCED, log entry 65.) -/
def State.copyField (s : State) (k : Nat) : Nat :=
  if s.domainOff (s.regDomain (k / 32)) then (match fieldInfo k with
    | some f => 2 ^ f.width - 1
    | none => 0)
  else s.show k

/-- A management-plane write of a register: dropped, with PWR_STATUS.OFFREAD, where its domain is off (R414). -/
def State.mgmtWrite (s : State) (off : Nat) (f : State → State) : State :=
  if s.domainOff (pageDomain (off / 4096)) then s.setReg Reg.PWR_STATUS_OFFREAD 1 else f s

/-- A fence that is refused (R398). -/
def fenceRefused (scope target : Nat) (snap : Bool) : Bool :=
  scope = 3 || (scope = 1 && decide (7 < target)) || (scope = 2 && decide (511 < target)) || (snap && scope ≠ 0)

/-- The words that are on the longest way over a bridge whose clock runs (R28): one leaves at each tick. -/
def State.bridgeFill (s : State) : Nat :=
  s.fabric.bridges.foldl (fun n b =>
    if s.fabric.stopped.contains b.1 || s.fabric.bridgesOut.contains b.1 then n else max n (max b.2.inFifo b.2.outFifo)) 0

/-- A fence of the port is durable. -/
def State.durableFence (s : State) (p id : Nat) : Bool :=
  (s.fport p).out.any fun f => decide (f.id = id) && decide (f.cls = 2)

/-- A fence enters the tree at the root: its cut (R395), the copies of a snapshot (R401); a durable fence makes the flush
of the last record before the cut start (R399). -/
def State.startFence (s : State) (p id : Nat) : State :=
  let s' := (s.enterTree (.fence p id)).modFence p id fun f => { f with
    started := true
    mark := if f.cls = 0 then s.now + s.bridgeFill
      else if s.trail.half.isEmpty then s.trail.flushSeq else s.trail.flushSeq + 1
    held := if f.cls = 3 then (s.fault.srcs.filter fun x => x.2.held.isSome).map (·.1) else []
    copies := if f.snap then snapshotFields.map fun k => (k, s.copyField k) else [] }
  if s.durableFence p id then s'.flushNow else s'

/-- Issues a fence on a port (R398, R400): gives the ID it takes, none where port 0 is full. -/
def State.issueFence (s : State) (p cls scope target : Nat) (snap : Bool) : Option Nat × State :=
  if p = 0 ∧ 16 ≤ ((s.fport 0).out.filter fun f => !f.dropped).length then (none, s.setReg Reg.WMK_STATUS_OVERRUN 1)
  else
    let id := (s.fport p).nextId
    let s := s.modFport p fun x => { x with
      nextId := wrapAdd 16 id 1
      out := x.out ++ [{ id := id, cls := cls, scope := scope, target := target, snap := snap }] }
    let s := if p = 0 then s.setReg Reg.WMK_LAST_ID_ID id else s
    if fenceRefused scope target snap then (some id, s.endFence p id 2)
    else if s.treeFull then (some id, s.stall (.fence p id))
    else (some id, s.startFence p id)

/-- The covered events of a fence have reached the condition that the state shows (Table 14.1): words at the bridges are
taken, the Trail's records are durable, messages at the sources' ports are counted. A fence naming an Offline instance has
none (R398). (DEDUCED, log entry 63.) -/
def State.fenceReady (s : State) (f : Fence) : Bool :=
  f.started && f.ended.isNone && ((f.scope = 2 && (s.inst f.target).st = .offline) || (match f.cls with
    | 0 => decide (f.mark ≤ s.now)
    | 2 => decide (f.mark ≤ s.trail.doneSeq)
    | 3 => f.held.all fun c => (s.src c).held.isNone
    | _ => true))

/-- Once a flush is durable the next one starts at once for a durable fence whose records it holds (R399). -/
def State.flushForFence (s : State) : State :=
  if s.wmk.ports.any fun p => p.2.out.any fun f =>
      f.started && f.ended.isNone && decide (f.cls = 2) && decide (s.trail.doneSeq < f.mark) then s.flushNow
  else s

/-- A stalled operation enters the tree. An instance may have changed state since its Stop or Pause was issued (Table 13.3). -/
def State.resume (s : State) (o : Stalled) : State :=
  match o with
  | .fence p id => s.startFence p id
  | .stop i kind byManager waiter =>
    let st := (s.inst i).st
    if st = .stopping then s.joinStop i kind byManager waiter
    else if st = .held ∨ st = .offline then
      s.each waiter.toList fun s w => s.adminCqe 0 w.2 (if st = .held then w.1 else Status.sequenceError) 0
    else (s.enterTree (.quiesce i)).startStop i kind byManager waiter
  | .pause i limit cid =>
    if (s.inst i).st = .online ∧ (s.inst i).rdy then (s.enterTree (.quiesce i)).startPause i limit cid
    else s.adminCqe 0 cid Status.sequenceError 0

/-- The oldest stalled operation goes on when there is room (R21, R400). -/
def State.releaseStall (s : State) : State :=
  match s.wmk.stalled with
  | o :: rest =>
    if 64 ≤ s.wmk.tree.length then s else ({ s with wmk := { s.wmk with stalled := rest } } : State).resume o
  | [] => s

/-- The port that a harvest's fence is issued on: control cluster 0 (DEDUCED, log entry 13). -/
abbrev harvestPort : Nat := 1

end Sys2Proof.Machine
end

