-- ==== Sys2Proof/Machine/OpsReset.lean ====
section
/-!
DEFINITION. What a controller reset and a cold power-on leave of each part of the state (R7, R11, R262, R366, R367,
R459), before the boot sequence rebuilds the rest.
-/

namespace Sys2Proof.Machine

/-- The registers after a controller reset (the Function column) or a cold power-on (the Cold column). -/
def State.restartRegs (s : State) (cold : Bool) : Tab (Option Nat) :=
  if cold then s.regs.keep fun k _ => restoredFields.contains k
  else s.regs.keep fun k _ => match fieldInfo k with
    | some f => f.keep
    | none => true

/-- The Fault Collector: the AON state, its input queue and the steward's handler stand over a controller reset (R11,
Table 17.13); a power cycle clears them (R453). (DEDUCED, log entry 32.) -/
def State.restartFault (s : State) (cold : Bool) : FaultPart :=
  if cold then { degradedCount := s.fault.degradedCount }
  else { s.fault with
    cfs := s.fault.grave
    lines := if s.fault.grave then s.fault.lines else { zeroize := s.fault.lines.zeroize } }

/-- The Kiln Log: the ring stands over a controller reset (R11), the persisted segments over a power cycle (R459). -/
def State.restartKlog (s : State) (cold : Bool) : KlogPart :=
  if cold then { segSeq := s.klog.segSeq, segments := s.klog.segments }
  else { s.klog with captured := none, pelContexts := [], teleHost := none }

/-- A reservation without Persist Through Power Loss is cleared at power loss (R362). -/
def Ns.restart (n : Ns) (cold : Bool) : Ns :=
  let n := { n with closing := false }
  if cold ∧ !n.ptpl then { n with registrants := [], holder := none } else n

/-- A die set keeps what is persisted: its groups, its stage, its queues (Tables 6.15, 6.16). A running job that has
not switched is queued again. -/
def DieSet.restart (x : DieSet) : DieSet :=
  { x with
    plm := { enabled := x.plm.enabled, events := x.plm.events }
    queue := (x.running.filter fun r => !r.switched).map (fun r =>
      ({ nsid := r.nsid, zone := r.zone, reason := r.reason } : RefireReq)) ++ x.retryZones ++ x.queue
    convQ := (x.relocs.filter fun r => !r.switched).map (fun r => (r.nsid, r.source, Reason.rebuild)) ++
      x.retryRows.map (fun r => (r.1, r.2, Reason.rebuild)) ++ x.convQ
    running := [], relocs := [], retryZones := [], retryRows := []
    keptRows := x.keptRows.map fun k => { k with next := none } }

/-- The rows that the ended jobs leave to be released: targets not switched to, old rows switched from. -/
def State.jobRows (s : State) : List (RowRef × Nat) :=
  s.zone.dieSets.flatMap fun d =>
    d.2.running.map (fun r => (if r.switched then r.old else r.target, r.nsid)) ++
      (d.2.relocs.map fun r => (if r.switched then r.source else r.target, r.nsid)).dedup

/-- Zones, namespaces and die sets. -/
def State.restartZone (s : State) (cold : Bool) : ZonePart :=
  { nss := s.zone.nss.mapVals {} fun _ n => n.restart cold
    dieSets := s.zone.dieSets.mapVals {} fun _ x => x.restart
    groups := s.zone.groups, capConfig := s.zone.capConfig }

/-- What the dies had begun and not ended: units, and parity (Table 8.5, case 6). -/
def State.tornOps (s : State) : List (Nat × FlashOp) :=
  s.flash.dies.flatMap fun d =>
    ((d.2.long.toList.filter fun o => decide (o.kind = .qlcUnit)) ++
      (d.2.short.toList.filter fun o => decide (o.kind = .parityProgram))).map fun o => (d.1, o)

/-- The places where the Trail goes on: after the last wordline that a program has reached. -/
def State.trailGoesOn (s : State) : Tab (Option (List Nat × Nat)) :=
  let at_ : Tab (Option (List Nat × Nat)) := s.flash.regionAt.filter fun e => decide (e.1 % 8 = roleTrail)
  at_.mapVals none fun k x =>
    x.map fun y => (y.1, (s.blockOf (k / 8) 0 (y.1.headD 0)).next)

/-- The flash back end: what the NAND holds, and the lists the Trail keeps. Queues, operations, windows are gone. Over a
controller reset the Pulse Gates stay as their comparators have them (R164), the channels keep their fallback and their
counts (R140, Table 5.22). (DEDUCED, log entry 66.) -/
def State.restartFlash (s : State) (cold : Bool) : FlashPart :=
  let f := s.flash
  { dies := f.dies.mapVals {} fun _ (d : Die) =>
      ({ fitted := d.fitted, present := d.present, listed := d.listed, inGroup := d.inGroup, group := d.group, plmOk := d.plmOk,
         retired := d.retired, geo := d.geo, temp := d.temp, since := if cold then 0 else s.now } : Die)
    chans := if cold then [] else f.chans.mapVals {} fun _ (c : Chan) => { c with bus := none, waits := [] }
    blocks := f.blocks.mapVals {} fun _ (b : Block) =>
      if b.st = .erasing ∨ b.st = .eraseSuspended then { b with st := .dirty } else b
    rowMap := f.rowMap, taken := f.taken, bootDies := f.bootDies
    closed := if cold then [] else f.closed, gateNotice := if cold then [] else f.gateNotice
    torn := f.torn ++ s.tornOps, regionAt := s.trailGoesOn, trailUsed := f.trailUsed
    rows := f.rows, verifyQ := f.verifyQ
    relWaits := f.relWaits ++ s.jobRows.map fun x =>
      ({ row := x.1, nsid := x.2, lo := 0, hi := (s.ns x.2).size, seq := 0 } : RelWait)
    fiOffUnknown := f.fiOffUnknown, offDone := !cold && f.offDone, refireDone := f.refireDone
    releasing := f.releasing, unitsWritten := f.unitsWritten, pctUsed := f.pctUsed }

/-- A block of an exposure is on media: the program unit that holds it has passed. -/
def State.onMedia (s : State) (e : Expo) (b : XBlk) : Bool := match e.row with
  | some r => (s.rowRec r).done.contains (unitAt (s.group r.group).geo (s.rowRec r).zone.isSome b.off)
  | none => false

/-- The units that the tag scan will find (Table 8.9, stage 4). -/
def State.scanUnits (s : State) : List DUnit :=
  s.trail.expos.flatMap fun e => (e.left ++ e.ready ++ e.parked).filterMap fun (b : XBlk) =>
    if s.onMedia e b then
      (s.hunit b.unit).data.map fun v =>
        ({ nsid := e.nsid, lba := b.lba, seq := e.seq, data := v, poisoned := (s.hunit b.unit).poisoned } : DUnit)
    else none

/-- The Trail, the dump and what was exposed. -/
def State.restartTrail (s : State) (cold : Bool) : TrailPart :=
  let t := s.trail
  { expos := t.expos
    dump := t.dump, dumpSeq := t.dumpSeq, dumpUnits := t.dumpUnits
    -- a start-up that ended before its step 9 leaves what it would have found
    mediaUnits := if s.boot.phase = .ready then s.scanUnits else t.mediaUnits
    durable := t.durable, flushSeq := t.flushSeq, doneSeq := t.doneSeq, segSeq := t.segSeq, ckptSeq := t.ckptSeq
    -- the closed Trail buffer is in the dump as its tail
    half := if t.dumpMode then t.half ++ (t.flushes.flatMap (·.recs)).reverse else if s.boot.phase = .ready then [] else t.half
    clean := t.clean, quiet := t.quiet
    wseq := t.wseq, wseqReserved := t.wseqReserved, saved := t.saved
    timestamp := if cold then none else t.timestamp
    recordedTs := t.recordedTs
    recordedAt := if cold then 0 else t.recordedAt
    tailMs := if cold then t.tailMs + (s.now - t.recordedAt) / 100000 else t.tailMs
    park := t.park
    brownEnd := if cold then t.dumpMode && !s.flash.closed.isEmpty && !(t.dump.any (·.marker)) else t.brownEnd
    toRestore := t.toRestore || t.dumpMode }

/-- A dirty-page log over a controller reset: its fields stand (Table 13.16), the harvest's fence has ended. -/
def DirtyLog.restart (d : DirtyLog) : DirtyLog := { d with harvestBusy := false, harvestFence := 0 }

/-- The instances: every tenant Offline with its queues gone; instance 0 Online (Table 13.3, R367). A controller reset
leaves the migration registers as they are (Tables 13.16 and 13.17). -/
def State.restartTenant (s : State) (cold : Bool) : TenantPart :=
  let insts : Tab Inst := s.tenant.insts.mapVals {} fun i x =>
    { st := if i = 0 then .online else .offline, dirty := if cold then {} else x.dirty.restart }
  if cold then { insts := insts, second := s.tenant.second, saved := s.tenant.saved }
  else { s.tenant with insts := insts }

/-- The power sequencer, which is in the AON domain (R11, R412): the setpoint, the counters and the factor stand; what was
being entered or left has ended, and the domains start with the interior. (DEDUCED, log entry 66.) -/
def State.restartPower (s : State) (cold : Bool) : PowerPart :=
  if cold then {}
  else
    let p := s.power
    let domains : Tab Domain := p.domains.mapVals {} fun _ (d : Domain) =>
      { d with st := if d.st = 3 then 3 else 0, idle := false }
    { ps := if p.ps < 3 then p.ps else p.lastOp, lastOp := p.lastOp, running := p.running, domains := domains
      avs := p.avs, confirmed := p.confirmed, readBack := p.readBack, avsHeld := p.avsHeld, g := p.g, gFine := p.gFine
      heat := p.heat }

/-- Cone: the life figures of the latest checkpoint stand over a power cycle (R443), what its registers show over a controller reset (Tables 16.7
and 16.8); the model starts anew (R436). -/
def State.restartCone (s : State) (cold : Bool) : ConePart :=
  let c := s.cone
  if cold then { hist := c.saved.1, lifeSum := c.saved.2.1, lifeSecs := c.saved.2.2, copied := c.saved, saved := c.saved }
  else { c with started := false, discarded := 0, floorRounds := 0, coolRounds := 0, dieTemps := [] }

/-- A locking range after a reset of a kind that its LockOnReset names. -/
def LockRange.restart (x : LockRange) (cold : Bool) : LockRange :=
  if (cold ∧ x.lockOnCycle) ∨ (!cold ∧ x.lockOnReset) then
    { x with readLocked := x.readLockEnabled, writeLocked := x.writeLockEnabled }
  else x

/-- Glaze: keys leave with their slots; key store, credentials and locks stand (R289, R290). -/
def State.restartGlaze (s : State) (cold : Bool) : GlazePart :=
  let g := s.glaze
  { slots := g.slots.mapVals {} fun _ (k : Slot) =>
      match k.range with
      | some r => ({ st := .locked, reason := if g.alarm.isSome && !cold then 2 else 1, gen := k.gen, owner := k.owner,
                     gcm := k.gcm, range := some r } : Slot)
      | none => ({ gen := k.gen } : Slot)
    ranges := g.ranges.mapVals {} fun _ r => r.restart cold
    keks := g.keks, credentials := g.credentials, storeSeq := g.storeSeq, storeBad := g.storeBad
    -- each start-up reseeds (R292)
    drbgSeeds := g.drbgSeeds + 1
    drbgFail := !cold && g.drbgFail
    alarm := if cold then none else g.alarm
    alarmGrave := !cold && g.alarmGrave
    lastAlarm := if cold then 0 else g.lastAlarm }

/-- Start-up and service: OTP, the Boot Area and the straps stand; the pins are as they are. -/
def State.restartBoot (s : State) (cold : Bool) : BootPart :=
  let b := s.boot
  { phase := if cold then .fresh else .down
    fromStep3 := !cold
    dualPort := b.dualPort, ssc := b.ssc, otp := b.otp
    otpReported := !cold && b.otpReported
    slots := b.slots, dirSeq := b.dirSeq, attempts := b.attempts, certBytes := b.certBytes
    copiesLost := b.copiesLost, sparesUsed := b.sparesUsed
    -- until the next cold power-on (R504, R505)
    nonce := if cold then none else b.nonce, unlocked := !cold && b.unlocked
    pwrfailLow := b.pwrfailLow, pwrdis := b.pwrdis, io33Low := b.io33Low }

/-- The state that a controller reset (R11), or a new cold power-on, leaves for the boot sequence.
(DEDUCED, log entry 31.)
(DEDUCED, log entry 66.) -/
def State.restart (s : State) (cold : Bool) : State :=
  let s := if cold then s else s.abandonFences fun _ => true
  { pending := s.pending, freeCtr := s.freeCtr, out := s.out
    now := if cold then 0 else s.now
    regs := s.restartRegs cold, cfg := s.cfg
    fault := s.restartFault cold, klog := s.restartKlog cold
    sieve := { retired := if cold then [] else s.sieve.retired, persisted := s.sieve.persisted }
    zone := s.restartZone cold, flash := s.restartFlash cold, trail := s.restartTrail cold
    tenant := s.restartTenant cold, boot := s.restartBoot cold, glaze := s.restartGlaze cold
    power := s.restartPower cold
    fixity := { groups := s.fixity.groups.mapVals {} fun _ (g : MacroGroup) => { g with out := g.out && !cold }, testRuns := s.fixity.testRuns }
    -- Tables 11.8 and 11.9; the remap lists are saved with the checkpoints (R236)
    dram := { fallback := !cold && s.dram.fallback, chans := s.dram.chans.mapVals {} fun _ (c : DChannel) =>
      ({ remap := c.remap, remapFull := !cold && c.remapFull, forcedRef := if cold then 0 else c.forcedRef } : DChannel) }
    pcie := { ports := s.pcie.ports.mapVals {} fun _ (p : PPort) => ({ perst := p.perst, lost := !cold && (p.lost || p.up) } : PPort) }
    cone := s.restartCone cold
    mgmt := { slots := s.mgmt.slots, vpd := s.mgmt.vpd, miConfig := s.mgmt.miConfig, unsafeStops := s.mgmt.unsafeStops,
              mediaErrors := s.mgmt.mediaErrors, dataLost := s.mgmt.dataLost, warmRounds := s.mgmt.warmRounds,
              critRounds := s.mgmt.critRounds, severeCount := s.mgmt.severeCount, lifeCond := s.mgmt.lifeCond,
              lifeBroken := s.mgmt.lifeBroken, spareLost := s.mgmt.spareLost, spareSeen := s.mgmt.spareSeen, binFour := s.mgmt.binFour } }

/-- A controller reset (R11): the hash states are saved (R224), the boot sequence goes on from its step 3.
(DESIGN CHOICE, log entry 54.)
(DEDUCED, log entry 60.)
(DEDUCED, log entry 66.) -/
def State.controllerReset (s : State) : State := (s.restoreHashes s.hashStates).restart false

end Sys2Proof.Machine
end

