-- ==== Sys2Proof/Machine/OpsTrail.lean ====
section
/-!
DEFINITION. The Trail journal (R255 to R259), what a record does once it is durable, the park of a drain (R254), the end
of a drain (R253, R404, R516).
-/

namespace Sys2Proof.Machine

/-- A segment of a flush is still to be programmed. (DESIGN CHOICE, log entry 14.) -/
def State.flushAtDie (s : State) (f : Flush) : Bool := decide (f.todo ≠ 0) || s.flash.dies.any fun d => d.2.worksFor f.seq

/-- Whether every unit of the dump and the park has left the exposure and what waits for its key (R243, R254).
(DESIGN CHOICE, log entry 49.) -/
def State.dumpReplayed (s : State) : Bool :=
  s.trail.expos.all fun e => (e.left ++ e.parked).all fun b =>
    !(s.trail.dumpUnits.any fun u => decide (u.nsid = e.nsid) && decide (u.lba = b.lba) && decide (u.seq = e.seq))

/-- The dump blocks of some dies that hold a replayed dump are released: to their erase, and armed again (R172, R243). The
blocks of a dump that runs are not. -/
def State.releaseDump (s : State) (dies : List Nat) : State :=
  s.each (dies.filter s.dieServes) fun s d =>
    let now := match s.flash.regionAt.get none (d * 8 + roleDump) with
      | some x => if s.trail.dumpMode then x.1.zipIdx else []
      | none => []
    let used := (s.flash.blocks.filter fun e => decide (e.1 / 32768 = d) && decide (e.2.role = roleDump) &&
      (decide (e.2.st = .open_) || decide (e.2.st = .full)) && !(now.contains (e.1 % 4096, e.1 / 4096 % 8))).map fun e =>
        (e.1 % 4096, e.1 / 4096 % 8)
    let s := s.setBlocks d used fun b => { b with st := .dirty, reserved := false }
    s.each used fun s b => s.enqueue d { kind := .erase, plane := b.2, phys := [b.1] }

/-- What a record makes possible once it is durable: a deallocate's map update (R241), the release of verified parity
(R180), the erase of a released row and of released SLC blocks (R257), the next reservation (R260), a dump row's erase (R243).
(DESIGN CHOICE, log entry 48.)
(DESIGN CHOICE, log entry 49.) -/
def State.recDurable (s : State) (r : TrailRec) : State :=
  match r with
  | .dealloc _ _ _ seq =>
    let units := (s.trail.expos.filter fun e => decide (e.seq = seq) && e.zeros).flatMap fun e => e.left.map (·.unit)
    let s := s.modExpo seq fun e => if e.zeros then { e with zerosDurable := true, left := [] } else e
    s.releaseUnits units
  | .verified nsid n g =>
    let row : Option RowRef := if nsid = 0 then some ⟨g, n⟩ else (s.zoneAt nsid n).row
    match row with
    | some x => s.modRow x fun y => if y.verifyPending then { y with verified := true, verifyPending := false } else y
    | none => s
  | .rowRelease g row _ =>
    s.each ((s.group g).dies.filter fun k => !(s.die k).retired) fun s k => s.enqueue k { kind := .erase, block := row }
  | .dirty d bs => if (s.die d).retired then s else s.enqueue d { kind := .erase, phys := bs }
  | .rule c => { s with sieve := { s.sieve with persisted := c.apply s.sieve.persisted } }
  | .wseqReserve next => { s with trail := { s.trail with wseqReserved := max s.trail.wseqReserved next } }
  | .dumpRelease g =>
    let s := (s.modGroup g fun x => { x with dumpHeld := false }).releaseDump (s.group g).dies
    -- a dump that has begun since then keeps its own units
    if s.trail.dumpMode || s.zone.groups.any fun x => x.2.dumpHeld then s
    else
      let s := s.releaseDump ((s.flash.dies.filter fun d => !d.2.inGroup).map (·.1))
      { s with trail := { s.trail with dumpUnits := [], dump := none, park := none } }
  | _ => s

/-- A flush is durable (R255). (DESIGN CHOICE, log entry 14.) -/
def State.flushDurable (s : State) (f : Flush) : State :=
  let s := s.each f.recs State.recDurable
  { s with trail := { s.trail with
    flushes := s.trail.flushes.filter fun x => x.seq ≠ f.seq
    doneSeq := max s.trail.doneSeq f.seq, durable := f.recs.reverse ++ s.trail.durable, saved := f.snap
    quiet := decide (f.recs.getLast? = some .quiet) && s.trail.half.isEmpty } }

/-- The Trail programs that dies have queued are made within the row: their blocks are filled. -/
def State.finishTrail (s : State) : State :=
  let mine := fun (o : FlashOp) => decide (o.kind = .trailProgram)
  let ops := s.flash.dies.flatMap fun d => (d.2.shortQ.filter mine).map fun o => (d.1, o)
  let s := s.each ops fun s x => s.setBlocks x.1 (s.opBlocks x.1 x.2) fun b => { b with st := .open_, next := x.2.slcAt + 1, reserved := false }
  { s with flash := { s.flash with dies := s.flash.dies.mapVals {} fun _ (d : Die) => { d with shortQ := d.shortQ.filter fun o => !(mine o) } } }

/-- Everything in the Trail buffer is made durable by a drain's last segments. -/
def State.flushAll (s : State) : State :=
  let s := s.cutFlush.finishTrail
  s.each s.trail.flushes State.flushDurable

/-- The Trail buffer is written as the dump's tail: its records are durable (Table 8.2, step 5; R262). -/
def State.tailDurable (s : State) : State :=
  let s := if s.trail.half.isEmpty then s else s.closeHalf 0
  s.each s.trail.flushes State.flushDurable

/-- Begins a checkpoint (R258): CKPT_BEGIN, the counters, the timestamp and the reservation are recorded. -/
def State.ckptBegin (s : State) : State :=
  let seq := s.trail.ckptSeq + 1
  let s := s.trailRec (.ckptBegin seq)
  let s := s.each (s.zone.groups.filter fun g => g.2.formed) fun s g => s.trailRec (.fi g.1 g.2.fi)
  let s := match s.trail.timestamp with
    | some _ =>
      let t := s.hostTime
      let s := s.trailRec (.timestamp t)
      { s with trail := { s.trail with recordedTs := some t, recordedAt := s.now, tailMs := 0 } }
    | none => s
  let s := s.trailRec (.wseqReserve s.trail.wseqReserved)
  { s with
    klog := { s.klog with persistDue := true }
    trail := { s.trail with ckptSeq := seq, ckptSeg := s.trail.segSeq, ckptBusy := true, sinceBegin := 0 } }

/-- Full Trail blocks that hold nothing after the last CKPT_BEGIN are released (R172, R259). The new directory is taken to
name no older page (DESIGN CHOICE, log entry 48). -/
def State.releaseTrail (s : State) : State :=
  let old := s.flash.trailUsed.filter fun x => decide (x.2.2 ≤ s.trail.ckptSeg)
  let s : State := { s with flash := { s.flash with trailUsed := s.flash.trailUsed.filter fun x => !(old.contains x) } }
  s.each old fun s x => s.releaseBlocks x.1 x.2.1

/-- CKPT_END is durable (R259). -/
def State.ckptEnd (s : State) : State :=
  let s := s.releaseTrail.bump Reg.PWR_TRAIL_CKPTS_COUNT
  { s with
    cone := { s.cone with saved := s.cone.copied }
    trail := { s.trail with
    ckptBusy := false, sinceDone := s.trail.sinceBegin, held := false
    durable := [.ckptEnd s.trail.ckptSeq] } }

/-- The units of a park are written to armed dump rows, spread as a dump's are: of the groups whose other row holds no dump
that stands, and of the dies of no group (R254, step 1). -/
def State.writePark (s : State) (units : List DUnit) : State :=
  let s := { s with flash := { s.flash with regionAt := s.flash.regionAt.filter fun e => decide (e.1 % 8 ≠ roleDump) } }
  let ds := s.dumpDies.filter fun d => !((s.die d).inGroup && (s.group (s.die d).group).dumpHeld)
  s.each (chunksOf units) fun s c => match (turned ds c.1).findSome? fun d => (s.regionNext roleDump d).map fun x => (d, x) with
    | none => s
    | some (d, x) =>
      let s := x.2.setBlocks d x.1.1.zipIdx fun b => { b with st := .open_, next := x.1.2 + 1, reserved := false }
      let s := if (s.die d).inGroup then s.modGroup (s.die d).group fun g => { g with dumpHeld := true } else s
      { s with trail := { s.trail with dumpUnits := c.2 ++ s.trail.dumpUnits } }

/-- Parks the exposure that has not been programmed (R254): the units go to dump rows and leave the exposure, as far as those
have room; their Far Hamper units are kept. (DESIGN CHOICE, log entry 48.) (DEDUCED, log entry 89.) -/
def State.park (s : State) : State :=
  if s.trail.expos.all fun e => e.left.isEmpty then s
  else
    let seq := s.trail.dumpSeq + 1
    let s := s.writePark s.exposedUnits
    { s with trail := { s.trail with
      dumpSeq := seq, park := some seq
      dump := some { seq := seq, timestamp := s.hostTime, aonTime := s.now, exposure := s.trail.expos,
                     wseq := s.trail.wseqReserved, headers := 4, tail := true, marker := true }
      expos := s.trail.expos.map fun (e : Expo) =>
        let out := e.left.filter fun b => s.trail.dumpUnits.any fun u =>
          decide (u.nsid = e.nsid) && decide (u.lba = b.lba) && decide (u.seq = e.seq)
        if e.zeros then e else { e with parked := e.parked ++ out, left := e.left.filter fun b => !(out.contains b) } } }

/-- The map updates that only waited for reads which are gone. -/
def State.mapAll (s : State) : State := s.each (s.trail.expos.map (·.seq)) State.mapUpdate

/-- The end of a drain's flash work (R252, R253, steps 2 to 4): what cannot be programmed is parked, and a checkpoint
whose last segment carries the shutdown flag is durable; the hash states are saved with it (R224). (DESIGN CHOICE, log entry 48.) -/
def State.drainEnd (s : State) : State :=
  let s := (s.flushAll.mapAll).park
  let s := s.restoreHashes s.hashStates
  let s := (s.ckptBegin.flushAll).mapAll
  let s := s.flushAll.ckptEnd
  { s with trail := { s.trail with clean := true, saved := s.zone.nss } }

/-- A device reset begins (R356, R404): fetching stops on every instance, every instance's work ends as a Stop. -/
def State.beginDeviceReset (s : State) (perst : Bool) : State :=
  if s.boot.phase ≠ .ready ∨ s.trail.dumpMode ∨ s.fault.graveStopped then s
  else
    let s := { s with
      intake := { s.intake with stopped := true }, boot := { s.boot with shut := some (.device perst) } }
    -- one global operation (R404), whose stops are part of it
    (s.enterTree .reset).each ((s.tenant.insts.filter fun i => i.2.st ≠ .offline && i.2.st ≠ .held).map (·.1)) fun s i =>
      let kind := if perst then kindPerst else kindReset
      if (s.inst i).st = .stopping then s.joinStop i kind false none else s.startStop i kind false none

/-- A fault message of PWRFAIL_N pulses comes from the power sequencer (Table 17.3). -/
abbrev sequencerSource : Nat := 0x301

/-- A low PWRFAIL_N causes no flash activity: before PCIe ready (R265), in PS3 or PS4 or once their quiet record is
durable (R252), after a drain whose shutdown flag is durable (R516). (DEDUCED, log entry 47.) -/
def State.noDump (s : State) : Bool :=
  s.boot.phase ≠ .ready || decide (3 ≤ s.power.ps) || (s.power.entering.isSome && s.trail.quiet) ||
    (s.intake.stopped && s.trail.clean && s.boot.shut.isNone)

end Sys2Proof.Machine
end

