-- ==== Sys2Proof/Machine/FaultLog.lean ====
section
/-! DEFINITION. Meanings of the rows of the Fault Collector and the Kiln Log (spec/17_faults_and_kiln_log.md). -/

namespace Sys2Proof.Machine

/-! ### Messages (R446 to R455) -/

/-- FAULT_MESSAGE: a 64-bit message word (Table 17.1). A message of an alarm input asserts ZEROIZE whatever its class
(R452). -/
def execFaultMessage (word : Nat) (s : State) : Res :=
  let m := Msg.ofWord word
  let s := s.fltMsg m
  .next (if alarmSource m.source then s.zeroize (m.source - 0x1C0) else s)

/-- The ports that hold a message deliver it while the input queue has room (R455). -/
def State.deliverHeld (s : State) : State :=
  s.each ((s.fault.srcs.filter fun x => x.2.held.isSome).map (·.1)) fun s c =>
    let x := s.src c
    match x.held with
    | some m =>
      if 256 ≤ s.fault.queue.length then s
      else (s.modSrc c fun x => { x with held := none, heldMore := 0 }).accept m false false (1 + x.heldMore)
    | none => s

/-- The first queued message that has actions, and those behind it: a Notice has none. -/
def nextHandled : List Msg → Option Msg × List Msg
  | [] => (none, [])
  | m :: t => if 1 ≤ m.cls then (some m, t) else nextHandled t

/-- The registers of Area 1 (Tables 17.10, 17.13 and 17.14). -/
def telemetryRegs : List Nat :=
  (List.range 11).map (fun k => 0x3000 + 4 * k) ++ [0x3040, 0x3044] ++ (List.range 6).map (fun k => 0x4000 + 4 * k) ++ [0x4020]

/-- A telemetry log captured now (Table 17.10). -/
def State.telemetry (s : State) : TeleCopy :=
  { regs := telemetryRegs.map s.regWord, ring := s.klog.ring, persisted := s.klog.segments, snap := snapshotFields.map s.copyField }

/-- The interrupt, the notice to control firmware and the host-visible actions of a Degraded or Severe message (Table 17.5,
R460, R473). -/
def State.handlerActions (s : State) (cls : Nat) : State :=
  let s := s.post 9 [cls]
  let s := if 1 ≤ cls ∧ s.reg Reg.FLT_CFG_IEN = 1 then s.interrupt 0 (s.reg Reg.FLT_CFG_VECTOR) else s
  if cls = 1 then { s with fault := { s.fault with degradedCount := s.fault.degradedCount + 1 } }
  else if cls = 2 then
    let s := { s with mgmt := { s.mgmt with severeCount := s.mgmt.severeCount + 1 } }
    let s := s.event 0 Ev.error Ev.persistentInternalError 0x01
    if s.klog.teleCtrl.isSome then s
    else
      let s : State := { s with klog := { s.klog with teleCtrl := some s.telemetry, teleAvail := true } }
      if bit (s.inst 0).asyncConfig 10 then s.event 0 Ev.notice Ev.telemetryLogChanged 0x08 else s
  else s

/-- FAULT_HANDLER (R454): the running handler takes its message's actions and ends; the next queued message follows.
Once a Grave message has come it takes none. (DEDUCED, log entry 88.) -/
def execFaultHandler (s : State) : Res :=
  match s.fault.handler with
  | none => .next s
  | some m =>
    let s := if s.fault.grave then s else s.handlerActions m.cls
    let q := nextHandled s.fault.queue
    .next ({ s with fault := { s.fault with handler := q.1, queue := q.2 } }).deliverHeld

/-! ### Persistence (R459) -/

/-- Record bytes of a segment: 64 KiB less its header, whose last 4 bytes hold its CRC (DEDUCED, log entry 57). -/
def segmentRoom : Nat := 65536 - 64

/-- The bytes of a segment: MAGIC "CZKL", the sequence, the first and last SEQUENCE, the record bytes, the CRC over the rest,
then whole records; the places between are taken in the order listed (DEDUCED, log entry 57). -/
def Segment.head (g : Segment) : List Nat :=
  padTo 60 ([0x43, 0x5A, 0x4B, 0x4C] ++ le 8 g.seq ++ le 2 ((g.recs.head?.map (·.seq)).getD 0) ++
    le 2 ((g.recs.getLast?.map (·.seq)).getD 0) ++ le 4 (recBytes g.recs))
def Segment.body (g : Segment) : List Nat := padTo segmentRoom (g.recs.flatMap Rec.bytes)
def Segment.bytes (g : Segment) : List Nat := g.head ++ le 4 (crc32c (g.head ++ g.body)) ++ g.body

/-- The records that fit in a segment, in order. -/
def fitSegment (room : Nat) : List Rec → List Rec
  | [] => []
  | r :: t => if r.length ≤ room then r :: fitSegment (room - r.length) t else []

/-- Segments of the persisted area, and of the erase block that is reused when it is full. -/
def areaSegments : Nat := 1024
def blockSegments : Nat := 192

/-- Writes the oldest unsaved records as one segment. -/
def State.klogPersist (s : State) : State :=
  let out := fitSegment segmentRoom (s.klog.ring.filter fun r => !r.saved)
  match out.getLast? with
  | none => { s with klog := { s.klog with persistDue := false } }
  | some last =>
    let s := s.takeCfg .segment fun _ => true
    let full := decide (areaSegments ≤ s.klog.segments.length)
    let keep := if full then s.klog.segments.take (areaSegments - blockSegments) else s.klog.segments
    let old := if full then s.klog.segments.drop (areaSegments - blockSegments) else []
    -- Grave records of the reused block are copied forward first
    let grave := old.reverse.flatMap fun (g : Segment) => g.recs.filter fun r => r.severity = 6
    let n := s.klog.segSeq
    let seg : Segment := { seq := n + b2n (!grave.isEmpty), recs := out.map fun (r : Rec) => { r with saved := true } }
    let kept := if grave.isEmpty then keep else ({ seq := n, recs := grave } : Segment) :: keep
    let ring := s.klog.ring.map fun (r : Rec) => if out.any (fun x => decide (x.seq = r.seq)) && !r.saved then { r with saved := true } else r
    let s := s.setReg Reg.KLOG_SEQ_SAVED last.seq
    { s with klog := { s.klog with
      ring := ring, segments := seg :: kept, segSeq := seg.seq + 1, segAt := s.now, persistDue := decide (65536 ≤ unsavedBytes ring) } }

/-- The persisted area can be programmed. -/
def State.areaOn (s : State) : Bool := s.boot.phase = .ready && !s.asleep && !s.fault.graveHold

/-- A segment is due (R459): one of the events has asked for it, or CFG_KLOG_PERSIST_S has passed since the last. -/
def State.segmentDue (s : State) : Bool :=
  s.klog.persistDue || decide (s.klog.segAt + s.cfgOf Cfg.KLOG_PERSIST_S * 100000000 ≤ s.now)

/-- KLOG_PERSIST_SEGMENT (R459). (DESIGN CHOICE, log entry 57.) -/
def execKlogPersistSegment (s : State) : Res := .next (if s.areaOn && s.segmentDue then s.klogPersist else s)

/-- Segments until no record is unsaved; the first argument bounds them. -/
def State.persistAll (s : State) : Nat → State
  | 0 => s
  | n + 1 => if unsavedBytes s.klog.ring = 0 then s else s.klogPersist.persistAll n

/-- PERSIST_NOW (R459, Table 17.14). -/
def State.persistNow (s : State) : State :=
  if s.areaOn then s.klogPersist else { s with klog := { s.klog with persistDue := true } }
def execPersistNow (s : State) : Res := .next s.persistNow

/-- KLOG_TOKEN_REFILL (R457): one token for each code whose bucket has room. -/
def execKlogTokenRefill (s : State) : Res :=
  let spent : Tab Nat := s.klog.spent.mapVals 0 fun _ n => n - 1
  .next { s with klog := { s.klog with spent := spent } }

/-! ### Grave (R453, Table 17.6) -/

/-- A domain that the Grave hold leaves powered (Table 17.6, step 4): AON, domain 93 and the PCIe domains 72 and 73
(Table 15.3). -/
def holdsPower (d : Nat) : Bool := d = 72 || d = 73 || d = 93 || d = 94

/-- Every other domain is powered down. -/
def State.holdDomains (s : State) : State :=
  let ds : Tab Domain := ((List.range 96).filter fun d => !holdsPower d).foldl (fun t d => t.upd {} d fun (x : Domain) => { x with st := 3, idle := false }) s.power.domains
  { s with power := { s.power with domains := ds } }

/-- Step 3 of Table 17.6 comes: the dump marker has been programmed, or 45 ms have passed since the zero point. -/
def State.graveStepDue (s : State) : Bool := s.trail.dump.any (·.marker) || decide (s.fault.graveAt + 4500000 ≤ s.now)

/-- GRAVE_STOP_ISOLATE: step 2's segments are written, STOP and ISOLATE are asserted, every Pulse Gate is held closed,
the domains are powered down. A dump without its marker stays incomplete. -/
def execGraveStopIsolate (s : State) : Res :=
  if !s.fault.grave ∨ s.fault.graveStopped ∨ !s.graveStepDue then .next s
  else
    let s := if s.areaOn then s.persistAll s.klog.ring.length else s
    let lines : Lines := { s.fault.lines with stop := true, isolate := true }
    let s : State := { s with fault := { s.fault with graveStopped := true, graveHold := true, lines := lines } }
    let s : State := { s with intake := { s.intake with stopped := true }, flash := { s.flash with closed := List.range 8 } }
    .next s.holdDomains

/-! ### Registers with an effect (Tables 17.13 and 17.14) -/

/-- FIRST_SOURCE_CLEAR (R449). -/
def State.clearFirst (s : State) : State :=
  ((s.setReg Reg.FLT_FIRST_CTRL_VALID 0).setReg Reg.FLT_FIRST_CTRL_OVERFLOW 0).setReg Reg.FLT_FIRST_CTRL_GRAVE_LATER 0
def execFirstSourceClear (s : State) : Res := .next s.clearFirst

/-- FAULT_INJECT (Table 17.13): a class above Degraded, or an alarm source, is ignored. -/
def State.inject (s : State) (word : Nat) : State :=
  let m := Msg.ofWord word
  if 1 < m.cls ∨ alarmSource m.source then s else s.fltMsg m true
def execFaultInject (word : Nat) (s : State) : Res := .next (s.inject word)

/-- KLOG_RECORD_CAPTURE (Table 17.14): the newest ring record with the sequence. -/
def State.klogCapture (s : State) (seq : Nat) : State :=
  let r := s.klog.ring.reverse.find? fun (x : Rec) => decide (x.seq = seq % 65536)
  let s := ((s.setReg Reg.KLOG_RD_SEQ_SEQ (seq % 65536)).setReg Reg.KLOG_RD_SEQ_READY (b2n r.isSome)).setReg
    Reg.KLOG_RD_SEQ_MISSING (b2n r.isNone)
  { s with klog := { s.klog with captured := r } }
def execKlogRecordCapture (seq : Nat) (s : State) : Res := .next (s.klogCapture seq)

end Sys2Proof.Machine
end

