-- ==== Sys2Proof/Machine/Fixity.lean ====
section
/-!
DEFINITION. Meanings of the rows of fixity jobs, of SECDED errors and of the checkers' self-test
(spec/07_integrity_and_fixity.md).
-/

namespace Sys2Proof

/-- The command with CANCEL set or clear (Table 7.6). -/
def HostCmd.fixity (c : HostCmd) (cancel : Nat) : HostCmd :=
  { c with opc := .fixity, args := [c.args.getD 0 0, c.args.getD 1 0, c.args.getD 2 0, c.args.getD 3 0, cancel, c.args.getD 5 0,
    c.args.getD 6 0] }

end Sys2Proof

namespace Sys2Proof.Machine

/-! ### Jobs -/

/-- FIXITY_VERIFY (R228). (DEDUCED, log entry 81.) -/
def execFixityVerify (inst sq : Nat) (c : HostCmd) (s : State) : Res := .next (s.runIo inst sq (c.fixity 0))

/-- FIXITY_CANCEL (R228). (DEDUCED, log entry 81.) -/
def execFixityCancel (inst sq : Nat) (c : HostCmd) (s : State) : Res := .next (s.runIo inst sq (c.fixity 1))

/-- The zone's keys are not there: its slot is zeroized or its locking range is locked (Table 7.7, R295). -/
def State.zoneKeyless (s : State) (nsid z : Nat) : Bool :=
  !(s.keysOk { nsid := nsid, keyTag := (s.zoneAt nsid z).keyTag } (z * zoneBlocks) (z * zoneBlocks + zoneBlocks - 1) false)

/-- The rate of the next zone a job starts: its share of CFG_FIX_VERIFY_RATE, which firmware scales by the power factor in
PS1 and PS2 (R232, R239, R409). -/
def State.verifyRate (s : State) : Nat :=
  let all := s.cfgOf Cfg.FIX_VERIFY_RATE * (if s.powerMode = 1 ∨ s.powerMode = 2 then s.power.g else 100)
  all / max 1 (s.jobsRunning fun _ => true)

/-- The reads of a zone's verify: of the whole row, or of one trailer copy where only trailers are reported (R229, R232). -/
def State.verifyReads (s : State) (r : RowRef) (report : Bool) : State :=
  if s.scanning r then s
  else if !report then s.scanRow r
  else s.each ((s.scanDies r).take 1) fun s d => s.enqueue d { kind := .internalRead, block := r.row, owner := .scan r, internal := true }

/-- FIXITY_ZONE_START (R229, R230, R232, Table 7.7): the job reaches its next zone, at most four at once; a zone under Refire
is waited for. -/
def execFixityZoneStart (job : Nat) (s : State) : Res :=
  let x := s.job job
  let z := x.first + x.started
  if x.st ≠ 1 ∨ x.cancelling ∨ x.zones ≤ x.started ∨ 4 ≤ x.active.length ∨ s.settling then .next s
  else if (s.dieSet (s.ns x.nsid).dieSet).running.any fun r => decide (r.nsid = x.nsid) && decide (r.zone = z) then .next s
  else
    let s := s.modJob job fun x => { x with started := x.started + 1 }
    let st := (s.zoneAt x.nsid z).st
    if st = .zso then .next (s.fixResult job { zone := z, result := 4 })
    else if !(st = .zsf ∨ st = .zsro) then .next (s.fixResult job { zone := z, result := 3 })
    else if s.zoneKeyless x.nsid z then .next (s.fixResult job { zone := z, result := 5 })
    else
      let s := s.modJob job fun x => { x with active := x.active ++ [z], rate := s.verifyRate }
      .next (match (s.zoneAt x.nsid z).row with
        | some r => s.verifyReads r (bit x.options 1)
        | none => s)

/-- The data a verify hashes: zeros for an unreadable block. -/
def State.verifyData (s : State) (nsid z : Nat) (bad : List Nat) (k : Nat) : Nat :=
  if bad.contains k then 0 else match (s.blkAt nsid (z * zoneBlocks + k)).content with
    | .data v => v
    | _ => 0

/-- The digest of a run of blocks as read from the media. -/
def State.verifyDigest (s : State) (nsid z : Nat) (bad : List Nat) (from_ n : Nat) : Nat :=
  Config.sha256 ((List.range n).map fun k => s.verifyData nsid z bad (from_ + k))

/-- The chunks whose digest differs from the trailer's, as a bit map. -/
def State.chunkDiff (s : State) (nsid z : Nat) (bad : List Nat) (t : Trailer) : Nat :=
  (t.chunkDigests.zipIdx.map fun c =>
    let n := min chunkBlocks (t.dataEnd - c.2 * chunkBlocks)
    if s.verifyDigest nsid z bad (c.2 * chunkBlocks) n = c.1 then 0 else 2 ^ c.2).sum

/-- The result of a zone whose trailer has been read. -/
def State.zoneResult (s : State) (x : FixJob) (z : Nat) (bad : List Nat) (t : Trailer) : FixResult :=
  if bit x.options 1 then { zone := z, result := 0, flags := t.flags, stored := t.digest }
  else
    let lost := (List.range t.dataEnd).filter fun k =>
      bad.contains k || (s.blkAt x.nsid (z * zoneBlocks + k)).content = .lost
    let d := s.verifyDigest x.nsid z bad 0 t.dataEnd
    let diff := if bit x.options 2 ∧ t.chunks then s.chunkDiff x.nsid z bad t else 0
    { zone := z, flags := t.flags, unreadable := lost.length, chunkMismatch := diff, bytes := t.dataEnd * 4096
      computed := d, stored := t.digest
      result := if !lost.isEmpty then 2 else if d ≠ t.digest ∨ diff ≠ 0 then 1 else 0 }

/-- FIXITY_ZONE_DONE (R229, Tables 7.7 and 7.8): the zone's reads are done; `bad` are the blocks of the zone that the media did not give,
`trailerOk` that a trailer copy qualifies (R225). -/
def execFixityZoneDone (job zone : Nat) (bad : List Nat) (trailerOk : Bool) (s : State) : Res :=
  let x := s.job job
  if x.st ≠ 1 ∨ !(x.active.contains zone) ∨ s.scanning (s.zoneRow x.nsid zone) then .next s
  else if x.cancelling then .next (s.fixResult job { zone := zone, result := 7 })
  else match (s.zoneAt x.nsid zone).trailer with
    | none => .next (s.fixResult job { zone := zone, result := 6 })
    | some t =>
      if !trailerOk then .next (s.fixResult job { zone := zone, result := 6 })
      else
        let r := s.zoneResult x zone bad t
        .next ((if r.result = 1 then s.countMismatch x.nsid else s).fixResult job r)

/-- A result record (Table 7.8), and the page of a job: the header of Table 7.9 and its records. -/
def FixResult.page (r : FixResult) : List Nat :=
  le 8 (r.zone * zoneBlocks) ++ [r.result, r.flags % 8, 0, 0] ++ le 4 r.unreadable ++ le 8 r.chunkMismatch ++ le 8 r.bytes ++
    be 32 r.computed ++ be 32 r.stored
def FixJob.page (x : FixJob) (j : Nat) : List Nat :=
  [j % 256, x.st, x.options, 0] ++ le 4 x.zones ++ le 4 x.results.length ++
    (List.range 8).flatMap (fun c => le 2 (x.results.filter fun r => decide (r.result = c)).length) ++ le 4 0 ++
    le 8 x.start ++ le 8 (if x.st = 1 then 0 else x.end_) ++ le 8 (x.results.map (·.bytes)).sum ++ le 8 0 ++
    x.results.flatMap FixResult.page

/-- Log 0xC4 as an instance reads it: a job that is not its own is an empty one. -/
def State.resultPage (s : State) (inst job : Nat) : List Nat :=
  let x := s.job job
  if x.st = 0 ∨ x.owner ≠ inst then ({} : FixJob).page job else x.page job

/-- GET_LOG_FIXITY_JOB_RESULT (R231). -/
def execGetLogFixityJobResult (inst cid job : Nat) (s : State) : Res :=
  s.adminDo inst cid fun s => succeeded ((s.reply inst 0 cid (s.resultPage inst job)).unmask inst Ev.vendor)

/-! ### SECDED (R233 to R236) -/

def State.macroGroup (s : State) (g : Nat) : MacroGroup := s.fixity.groups.get {} g
def State.modMacro (s : State) (g : Nat) (f : MacroGroup → MacroGroup) : State :=
  { s with fixity := { s.fixity with groups := s.fixity.groups.upd {} g f } }

/-- A lasting fault at a word: a spare word takes its place, or the table is full (R235). -/
def State.remapWord (s : State) (g word : Nat) : State :=
  if (s.macroGroup g).used < 16 then
    (s.modMacro g fun x => { x with used := x.used + 1 }).log Code.retirement 2 (0x400 + g) [g, word]
  else (s.modMacro g fun x => { x with full := true }).report (0x400 + g) 0x32 g 1

/-- SRAM_CHECK_READ (R233, R216): a corrected word's check read. -/
def execSramCheckRead (group word : Nat) (clean : Bool) (s : State) : Res :=
  let s := s.bump Reg.FLT_ECC_CORR_COUNT
  if clean then .next (s.reportTransient (0x400 + group) 0x30 word)
  else .next ((s.report (0x400 + group) 0x30 word 0).remapWord group word)

/-- SRAM_UNCORRECTABLE_REREAD (R234): a second uncorrectable read poisons the word; a Hamper unit's owner acts as R317
states. -/
def execSramUncorrectableReread (group : Nat) (word : SramWord) (ok : Bool) (s : State) : Res :=
  if ok then .next (s.reportTransient (0x400 + group) 0x31 word.word)
  else
    let s := { s with fixity := { s.fixity with poisoned := s.fixity.poisoned ++ [(group, word.word)] } }
    let s := (s.bump Reg.FLT_ECC_UNCORR_COUNT).report (0x400 + group) 0x31 word.word 1
    .next (match word.unit with
      | some u => s.unitLost u
      | none => s)

/-! ### Self-test (R237, R238, Table 7.10) -/

/-- ECC_SELFTEST_RUN (R238): ignored while a test runs. -/
def execEccSelftestRun (s : State) : Res := .next { s with fixity := { s.fixity with testBusy := true } }

/-- A pool loses units, from its untouched ones and then from its free list. -/
def State.shrinkPool (s : State) (p n : Nat) : State :=
  let x := s.pool p
  let fromFreed := n - (x.size - x.fresh)
  (s.modPool p fun x => { x with
    size := x.size - n, gone := x.gone ++ x.freed.take fromFreed, freed := x.freed.drop fromFreed }).settlePool p

/-- NR loses a macro group of 128 units; below 1,024 units it keeps what it has (R307). -/
def State.shrinkNear (s : State) (g : Nat) : State :=
  let p := s.pool poolNR
  let known := (s.macroGroup g).out
  let s := s.modMacro g fun x => { x with out := true }
  if known then s else if p.size < 1024 + 128 then s.report 0x1B1 0x36 p.size 2 else s.shrinkPool poolNR 128

/-- A DRAM subchannel is out of service: the first of its channel takes the channel's share of Far Hamper with it, and of
the exposure limit (Table 7.10). -/
def State.subchannelOut (s : State) (k : Nat) : State :=
  let before := s.dramOut
  let s := { s with fixity := { s.fixity with subchannelsOut := s.fixity.subchannelsOut ++ [k] } }
  if s.dramOut = before then s
  else (s.shrinkPool poolFW (min (s.pool poolFW).free (s.cfgOf Cfg.HMP_FAR_SIZE * 65536))).reserveCheck

/-- The consequence of a failed checker: kinds are 0 control cluster, 1 Near Hamper macro group, 2 Sieve segment,
3 LDPC decoder, 4 DRAM subchannel, others any other block. -/
def State.checkerFailed (s : State) (kind idx : Nat) : State :=
  let src := match kind with
    | 0 => 0x1F0 + idx
    | 1 => 0x400 + idx
    | 2 => 0x1A1
    | 3 => 0x048 + idx
    | 4 => 0x1D0 + idx / 2
    | _ => 0x309
  let s := s.report src 0x33 (kind * 65536 + idx) 2
  let x := s.fixity
  match kind with
  | 0 => { s with fixity := { x with clustersOut := x.clustersOut ++ [idx] } }
  | 1 => s.shrinkNear idx
  | 2 => s.each (List.range 1024) fun s k => s.retirePos (idx * 1024 + k)
  | 3 => { s with fixity := { x with decodersOut := x.decodersOut ++ [idx] } }
  | 4 => s.subchannelOut idx
  | _ => { s with fixity := { x with blocksOut := x.blocksOut ++ [idx] } }

/-- ECC_SELFTEST_DONE (R237, R238): the figures, and the failed checkers' consequences. -/
def execEccSelftestDone (tested : Nat) (failed : List (Nat × Nat)) (s : State) : Res :=
  if !s.fixity.testBusy then .next s
  else
    let s := { s with fixity := { s.fixity with testBusy := false, testRuns := s.fixity.testRuns + 1 } }
    let s := (s.setReg Reg.FLT_ECC_RESULT_TESTED (tested % 65536)).setReg Reg.FLT_ECC_RESULT_FAILED (failed.length % 65536)
    .next (s.each failed fun s f => s.checkerFailed f.1 f.2)

end Sys2Proof.Machine
end

