-- ==== Sys2Proof/Machine/OpsPower.lean ====
section
/-!
DEFINITION. Power states and the regulator: choice, entry, refusal, exit (R406 to R424), AVSBus steps (R426 to R428),
the power factor (R408).
-/

namespace Sys2Proof.Machine

/-- A domain that votes (Table 15.3): 91 of them. -/
def votes (d : Nat) : Bool := d < 72 || (74 ≤ d && d ≤ 92)

/-- A domain whose state is off in every power state: a channel with no dies (R141). -/
def Domain.dead (d : Domain) : Bool := d.st = 3

/-- Every voting domain, and in PS4 domain 93, put in a state; a channel with no dies stays off.
(DEDUCED, log entry 70.) -/
def State.setDomains (s : State) (st : Nat) : State :=
  let st93 := if st = 2 then 2 else 0
  let ds := (List.range 96).filter fun d => votes d || d = 93
  { s with power := { s.power with domains := ds.foldl (fun t d =>
    t.upd {} d fun x => if x.dead then x else { x with st := if d = 93 then st93 else st, idle := false }) s.power.domains } }

/-- The steward's throttle message as it applies (R81, R407). -/
def State.sendThrottle (s : State) : State :=
  let depth := s.cfgOf Cfg.INTAKE_THROTTLE_BURST * 1048576
  ({ s with intake := { s.intake with
    bucketSpent := depth - s.bucket, bucketTime := s.now, f := s.cone.f, g := s.power.g, throttleLost := false } } : State).post
      0 [s.cone.f, s.power.g]

/-- MP of an operational state in mW (Table 15.2). -/
def stateMilliwatts (ps : Nat) : Nat := if ps = 1 then 40000 else if ps = 2 then 25000 else 58000

/-- The cap c of R408 in mW. -/
def State.powerCap (s : State) : Nat := stateMilliwatts s.powerMode - s.cfgOf Cfg.PWR_MARGIN * 1000

/-- g as a state's limits start with it (R408), in millionths. -/
def State.firstG (s : State) : Nat := if s.powerMode = 0 then 1000000 else (s.powerCap - 12000) * 1000000 / 46000

/-- The power factor set in millionths; what is sent is in percent, rounded down. (DESIGN CHOICE, log entry 68.) -/
def State.setG (s : State) (fine : Nat) : State :=
  { s with power := { s.power with gFine := fine, g := fine / 10000 } }

/-- An operational state comes into force (R407, R408). -/
def State.enterOperational (s : State) (ps : Nat) : State :=
  let s := { s with power := { s.power with ps := ps, lastOp := ps, chosen := none } }
  let s := if ps = 2 then s.takeCfg .ps2 fun _ => true else s
  (s.setG s.firstG).sendThrottle

/-- The update of g in a housekeeping round (R408). (DESIGN CHOICE, log entry 68.) -/
def State.updateG (s : State) : State :=
  let c := s.powerCap
  let p := s.totalPower
  let s := if s.powerMode ≠ 1 ∧ s.powerMode ≠ 2 then s
    else if c < p then s.setG (max (s.power.gFine * c / p) 100000)
    else if p < c - 1000 ∧ s.power.waited7 then s.setG (min (s.power.gFine * 105 / 100) 1000000)
    else s
  { s with power := { s.power with waited7 := false } }

/-! ### Refusal and entry -/

/-- An armed dump row's erase waits or runs (R243). -/
def State.rearming (s : State) : Bool :=
  s.flash.dies.any fun d =>
    let dump := fun (o : FlashOp) => decide (o.kind = .erase) && (s.opBlocks d.1 o).any fun b =>
      decide ((s.blockOf d.1 b.2 b.1).role = roleDump)
    d.2.shortQ.any dump || d.2.longQ.any dump || d.2.long.any dump

/-- No maintenance wake runs any more. -/
def State.noMaint (s : State) : State := { s with power := { s.power with maint := none } }

/-- What the pre-check finds (Table 15.4, step 2): the domain that reports the work, and the reason.
(DEDUCED, log entry 70.) -/
def State.preCheck (s : State) : Option (Nat × Nat) :=
  if s.trail.ckptBusy ∨ s.fixity.jobs.any (fun j => j.2.st = 1) ∨
      s.zone.dieSets.any (fun d => d.2.running.any fun r => r.reason = .rebuild) ∨ s.rearming then some (81, 2)
  else none

/-- A refusal is recorded, and the back-off begins or the entry is given up (R417, R418). -/
def State.voteRefused (s : State) (domain reason target : Nat) : State :=
  let s := (((s.setReg Reg.PWR_VOTE_LAST_DOMAIN domain).setReg Reg.PWR_VOTE_LAST_REASON reason).setReg
    Reg.PWR_VOTE_LAST_TARGET target).setReg Reg.PWR_VOTE_LAST_VALID 1
  let s := (s.bump Reg.PWR_VOTE_COUNT_REFUSALS).log Code.voteRefusal 1 0x301 [domain, reason, target]
  let n := s.power.refusals + 1
  if s.cfgOf Cfg.PWR_TRIES ≤ n then
    ({ s with power := { s.power with entering := none, refusals := 0, backoff := none, gaveUp := true } }).report 0x301 0x49 domain 0
  else { s with power := { s.power with
    entering := none, refusals := n, backoff := some (s.now + s.cfgOf Cfg.PWR_BACKOFF_MS * 2 ^ min (n - 1) 6 * 100000) } }

/-- No retry of the entry waits any more. -/
def State.noBackoff (s : State) : State := { s with power := { s.power with backoff := none } }

/-- Every die has ended its work (Table 15.4, step 3). -/
def State.diesIdle (s : State) : Bool :=
  s.flash.dies.all fun d => d.2.short.isNone && (d.2.long.isNone || d.2.st = .suspended)

/-- Exposure can still be programmed: program units of host data, their parity or Trail segments are at the dies (R252). -/
def State.programsLeft (s : State) : Bool :=
  let mine := fun (o : FlashOp) =>
    (decide (o.kind = .qlcUnit) && !o.internal) || decide (o.kind = .parityProgram) || decide (o.kind = .trailProgram)
  s.flash.dies.any fun d => d.2.shortQ.any mine || d.2.longQ.any mine || d.2.short.any mine || d.2.long.any mine

/-- The channels with no operation at a die. -/
def State.quietChannels (s : State) : List Nat :=
  (List.range 64).filter fun c => s.flash.dies.all fun d => decide (channelOf d.1 ≠ c) || (d.2.short.isNone && d.2.long.isNone)

/-- The groups of Table 15.3 are asked in order, and a domain whose work has ended stops: the channels one by one, the
other groups once every channel has voted. -/
def State.stopVoted (s : State) : State :=
  if s.diesIdle then s.setDomains 1
  else { s with power := { s.power with domains := s.quietChannels.foldl (fun t d =>
    t.upd {} d fun x => if x.dead then x else { x with st := 1, idle := false }) s.power.domains } }

/-- Steps 1 to 3 of Table 15.4: once what can be programmed is programmed, the rest of the exposure parked, the quiet record
durable, the pre-check, the fence of the Switch halves' vote (R415), the votes. -/
def State.entryStart (s : State) (target : Nat) (refusal : Option (Nat × Nat)) : State :=
  if s.programsLeft then s
  else
    let s := (s.takeCfg .attempt fun _ => true).takeCfg .nonop fun _ => true
    let s := (s.flushAll.mapAll).park
    let s := (((s.trailRec .quiet).noBackoff.flushAll).post 5 [target]).postBack 5 [target]
    match refusal.or s.preCheck with
    | some (d, why) => s.voteRefused d why target
    | none =>
      let (id, s) := s.issueFence 1 0 0 0 false
      let s := s.endFence 1 (id.getD 0) 0
      { s with power := { s.power with
        entering := some target, running := s.power.confirmed, entryCounts := s.fault.srcs.foldl (fun (t : Tab Nat) (e : Nat × Src) => t.set 0 e.1 e.2.count) [] } }.stopVoted

/-- Entry may start: the state was chosen, intake is idle, nothing else of the sequencer runs (R102, R418). -/
def State.entryOk (s : State) : Bool :=
  s.boot.phase = .ready && !s.trail.dumpMode && decide (s.power.ps < 3) && s.power.entering.isNone && s.intakeIdle &&
    !s.power.gaveUp && s.power.avs.isNone && s.boot.shut.isNone

/-- Steps 4 to 6 of Table 15.4: the domains stopped, the setpoint lowered or held (R428). -/
def State.stopInterior (s : State) (target : Nat) (stepDownOk : Bool) : State :=
  let s := (s.emit (.reply Port.avs [0, 550])).emit (.reply Port.avs [1])
  let s := if stepDownOk then { s with power := { s.power with confirmed := 550, readBack := true, avsHeld := false } }
    else (({ s with power := { s.power with avsHeld := true } }).bump Reg.PWR_AVS_FAIL_FAILURES).report 0x302 0x48 550 2
  s.setDomains (if target = 4 then 2 else 1)

/-! ### Exit -/

/-- Steps 3 to 9 of Table 15.6: domains restarted, DRAM out of self-refresh, the heat-work added (R421). -/
def State.startInterior (s : State) : State :=
  let s := (s.setDomains 0).post 3 [s.power.heat]
  let heat := s.power.heat
  let groups := s.zone.groups.mapVals {} fun _ (g : Group) => if g.formed then { g with fi := (g.fi + heat) % 2 ^ 64 } else g
  { s with
    zone := { s.zone with groups := groups }
    flash := { s.flash with fiSilent := 0 }
    -- after PS4 the model starts from the diodes again (R442)
    cone := { s.cone with started := s.cone.started && decide (s.power.ps ≠ 4) }
    dram := { s.dram with zqRuns := s.dram.zqRuns + 1 }
    power := { s.power with heat := 0, avsHeld := false } }

/-! ### The regulator -/

/-- A setpoint change is sent (R426). On AVSBus 0 is a write-and-commit with its voltage, 1 a read of the voltage, 2 a read of
the status (Table 15.8). -/
def State.avsWrite (s : State) (mv : Nat) (again : Bool) : State :=
  ({ s with power := { s.power with avs := some { mv := mv, at_ := s.now, retried := again } } }).emit (.reply Port.avs [0, mv])
def State.avsSend (s : State) (mv : Nat) : State := s.avsWrite mv false

/-- An answer can have come: a readback after |ΔV| ÷ CFG_PWR_AVS_SLEW + 5 µs, the end of the wait for a response after
CFG_PWR_AVS_ACK_US (R426); the slew is in steps of 0.5 mV/µs. -/
def State.avsDue (s : State) (a : AvsStep) (x : AvsAnswer) : Bool :=
  match x with
  | .readback _ =>
    let dv := (a.mv - s.power.confirmed) + (s.power.confirmed - a.mv)
    decide (a.at_ + ceilDiv (200 * dv) (max 1 (s.cfgOf Cfg.PWR_AVS_SLEW)) + 500 ≤ s.now)
  | .nothing => decide (a.at_ + s.cfgOf Cfg.PWR_AVS_ACK_US * 100 ≤ s.now)
  | _ => true

/-- The answer confirms a setpoint: its readback lies within 10 mV (R426). -/
def avsConfirms (x : AvsAnswer) (mv : Nat) : Bool := match x with
  | .readback v => decide (mv ≤ v + 10) && decide (v ≤ mv + 10)
  | _ => false

/-- What follows an answer on AVSBus: the readback, or after a failure the status (Table 15.8). -/
def State.avsRead (s : State) (x : AvsAnswer) (ok : Bool) : State :=
  let s := match x with
    | .readback _ => s.emit (.reply Port.avs [1])
    | _ => s
  if ok then s else s.emit (.reply Port.avs [2])

/-- An entry under way is ended by work that arrives: the stopped domains are restarted (R102, R419). -/
def State.endEntry (s : State) : State :=
  (({ s with power := { s.power with entering := none } }).setDomains 0).bump Reg.PWR_VOTE_COUNT_ABORTS

/-- The exit begins (Table 15.6, steps 1 and 2): the write to the running setpoint ends AVS_HELD (R428). -/
def State.exitStart (s : State) (code : Nat) : State :=
  let s := if code = 0 then s else s.setReg Reg.PWR_WAKE_LAST_SOURCE code
  ({ s with power := { s.power with exiting := some (code, s.now), avsHeld := false } }).avsSend s.power.running

/-- A maintenance wake ends: the power factor stands again as before it (R422). -/
def State.endMaint (s : State) : State := (s.setG s.power.gBefore).noMaint

/-- A wake source of the controller, 0 for a doorbell (R419): it ends an entry under way, or starts the exit from PS3 or
PS4; from a maintenance wake the controller returns to its last operational state at once. -/
def State.wake (s : State) (code : Nat) : State :=
  match s.power.entering with
  | some _ => s.endEntry
  | none =>
    if s.power.ps < 3 then s
    else match s.power.exiting, s.power.maint with
      -- a maintenance wake's exit goes on as this source's
      | some (6, t), _ =>
        let s := if code = 0 then s else s.setReg Reg.PWR_WAKE_LAST_SOURCE code
        { s with power := { s.power with exiting := some (code, t) } }
      | some _, _ => s
      | none, some _ =>
        let s := s.endMaint
        ({ s with power := { s.power with ps := s.power.lastOp, chosen := none } }).ltrUpdate 1000
      | none, none => s.exitStart code

/-- The wake by SMBus or the Service Port (4, 5; R423): it brings up domain 93 only; an entry under way ends as with every
source (R419). The Service Port then runs at 115,200 baud (R501). (DEDUCED, log entry 70.) -/
def State.wakePort (s : State) (code : Nat) : State :=
  match s.power.entering with
  | some _ => s.endEntry
  | none =>
    if s.power.ps < 3 then s
    else
      let s := s.setReg Reg.PWR_WAKE_LAST_SOURCE code
      let d := s.power.domains.get {} 93
      if d.st = 0 then s
      else { s with
        boot := { s.boot with baud := 115200 }
        power := { s.power with
          portWake := some d.st, wokenAt := s.now, domains := s.power.domains.upd {} 93 fun d => { d with st := 0 } } }

/-- A host access meets PS3 or PS4 (R103, Table 15.5, source 1). -/
def State.hostAccess (s : State) : State := if s.power.ps < 3 then s else s.wake 1

/-- Cone asks for a setpoint: 5 mV steps from 600 mV to the ceiling, one request a round and one at a time (R427); none after
a thermal trip (Table 16.4). -/
def State.coneStep (s : State) (mv : Nat) : State :=
  if s.power.avs.isSome ∨ 3 ≤ s.power.ps ∨ s.power.entering.isSome ∨ s.power.exiting.isSome ∨ mv < 600 ∨ s.coreCeiling < mv ∨
      mv % 5 ≠ 0 ∨ mv = s.power.confirmed ∨ s.cone.trip ∨ s.cone.asked then s
  else ({ s with cone := { s.cone with asked := true } } : State).avsSend mv

end Sys2Proof.Machine
end

