-- ==== Sys2Proof/Machine/OpsHealth.lean ====
section
/-!
DEFINITION. The health figures (R209, Table 6.12), the SMART/Health and Archive log pages (R474 to R476), what the Kiln
Log gives its readers (R460, R472).
-/

namespace Sys2Proof.Machine

/-! ### Figures of a die set -/

def State.spareRows (s : State) (d : Nat) : Nat :=
  ((s.dieSet d).groups.map fun g => if (s.group g).withdrawn then 0 else (s.group g).spareRows).sum

/-- Percentage used of some stripe groups, and of a die set: the larger of the two wear figures over their rating. -/
def State.percentOf (s : State) (gs : List Nat) : Nat :=
  min 255 (max (ceilDiv (s.qlcMeanOf gs * 100) (s.cfgOf Cfg.MEDIA_QLC_RATED))
    (ceilDiv (s.slcMeanOf gs * 100) (s.cfgOf Cfg.MEDIA_SLC_RATED)))
def State.percentUsed (s : State) (d : Nat) : Nat := s.percentOf (s.dieSet d).groups

/-- Zone rows in service of a die set. -/
def State.rowsInService (s : State) (d : Nat) : Nat :=
  ((s.dieSet d).groups.map fun g => if (s.group g).withdrawn then 0 else (s.group g).zoneRows).sum

/-- Endurance Estimate in units of 10^9 bytes. -/
def State.enduranceEstimate (s : State) (d : Nat) : Nat :=
  (s.cfgOf Cfg.MEDIA_QLC_RATED - s.qlcMean d) * s.rowsInService d * 3221225472 / 1000000000

/-- The bin of a zone's Firing Index: quarters of the threshold. -/
def State.fiBin (s : State) (z : Zone) : Option Nat :=
  match z.row with
  | some r =>
    let hours := ((s.group r.group).fi + 2 ^ 64 - z.fiStamp) % 2 ^ 64 / 921600
    if z.st = .zsf ∨ z.st = .zsro then some (min 4 (hours * 4 / max 1 (s.cfgOf Cfg.MEDIA_FI_THRESH))) else none
  | none => none

/-- FI_HIST of a die set. -/
def State.fiHist (s : State) (d : Nat) : List Nat :=
  let bins := (s.zonesOf d fun _ => true).filterMap fun z => s.fiBin z.2.2
  (List.range 5).map fun k => (bins.filter (· = k)).length

/-- Zones in bin 4, each with the counted second since when. -/
def State.countBins (s : State) : State :=
  let four := s.zone.dieSets.flatMap fun d => (s.zonesOf d.1 fun z => s.fiBin z = some 4).map fun z => (z.1, z.2.1)
  let since := fun (z : Nat × Nat) => match s.mgmt.binFour.find? fun b => decide (b.1 = z.1) && decide (b.2.1 = z.2) with
    | some b => b.2.2
    | none => s.cone.lifeSecs
  let all : List (Nat × Nat × Nat) := four.map fun (z : Nat × Nat) => (z.1, z.2, since z)
  { s with mgmt := { s.mgmt with binFour := all } }

/-- Days to the Amber level (Table 18.9a): none lost in 90 days gives all ones. (DESIGN CHOICE, log entry 58.) -/
def State.daysToAmber (s : State) (d : Nat) : Nat :=
  let x := s.dieSet d
  let lost := (s.mgmt.spareLost.filter fun l => decide (l.1 = d) && decide (s.cone.lifeSecs ≤ l.2 + 7776000)).length
  if lost = 0 then 0xFFFFFFFF
  else (s.spareRows d - ceilDiv (s.cfgOf Cfg.LADDER_AMBER * x.spareAtForm) 100) * 90 / lost

/-! ### Temperature (R474) -/

/-- Composite Temperature in kelvin. (DESIGN CHOICE, log entry 58.) -/
def State.composite (s : State) : Nat := (s.cone.nand / 1000 + 273).toNat

/-- The temperatures in kelvin that Feature 0x04 selects: 0 the Composite Temperature, 1 and 2 the sensors (Table 18.8). -/
def State.temperature (s : State) (sel : Nat) : Nat := if sel = 1 then (s.cone.hot / 1000 + 273).toNat else s.composite

/-- The thresholds of Feature 0x04: an over threshold is WCTEMP and an under threshold 0 until one is set. (DEDUCED, log entry
114.) (DEDUCED, log entry 114.) -/
def State.overThreshold (s : State) (i sel : Nat) : Nat :=
  ((s.inst i).overTemp.get none sel).getD (s.cfgOf Cfg.CONE_NAND_THROTTLE + 273)
def State.underThreshold (s : State) (i sel : Nat) : Nat := ((s.inst i).underTemp.get none sel).getD 0
def State.tempWarning (s : State) (i : Nat) : Bool :=
  [0, 1, 2].any fun k => decide (s.overThreshold i k ≤ s.temperature k) || decide (s.temperature k < s.underThreshold i k)

/-- Sets a threshold of Feature 0x04: the selection, then the value; 15 selects every sensor. None for a selection the part does
not have. (DEDUCED, log entry 114.) -/
def State.setThreshold (s : State) (i : Nat) (under : Bool) (value : Nat) : Option State :=
  let sel := value / 65536
  if 2 < sel ∧ sel ≠ 15 then none
  else
    let put := fun (t : Tab (Option Nat)) => (if sel = 15 then [1, 2] else [sel]).foldl (fun (t : Tab (Option Nat)) k =>
      t.set none k (some (value % 65536))) t
    some (s.modInst i fun x => if under then { x with underTemp := put x.underTemp } else { x with overTemp := put x.overTemp })

/-! ### SMART/Health (Table 18.8) -/

def State.dieSetIds (s : State) : List Nat := s.zone.dieSets.map (·.1)

/-- The lowest spare level and the highest percentage used of all die sets. -/
def State.worstSpare (s : State) : Nat := (s.dieSetIds.map s.spareLevel).foldl min 100
def State.worstUsed (s : State) : Nat := (s.dieSetIds.map fun d => s.flash.pctUsed.get 0 d).foldl max 0

/-- Critical Warning of an instance: bit 0 spare, 1 temperature, 2 Grave or data lost, 3 read only, 4 the dump. -/
def State.criticalWarning (s : State) (i : Nat) : Nat :=
  let low := s.zone.dieSets.any fun d => d.2.stage.rank ≠ 0
  let out := s.zone.dieSets.any fun d => d.2.stage.rank = 3
  b2n low + 2 * b2n (s.tempWarning i) + 4 * b2n (s.fault.grave || s.mgmt.dataLost) + 8 * b2n out +
    16 * b2n (decide (s.reg Reg.PWR_LOSS_STATUS_LAST = 3))

/-- The Endurance Group Critical Warning Summary: bit 3 once a die set is Exhausted (Table 2.7). -/
def State.groupWarnings (s : State) : Nat := 8 * b2n (s.zone.dieSets.any fun d => decide (d.2.stage.rank = 3))

/-- Log 0x02: Critical Warning, Composite Temperature, Available Spare and its threshold, Percentage Used, the Endurance Group
Critical Warning Summary, sensors 1 and 2, Unsafe Shutdowns, Media and Data Integrity Errors, minutes at WCTEMP and CCTEMP. -/
def State.smartPage (s : State) (i : Nat) : List Nat :=
  [s.criticalWarning i, s.composite, s.worstSpare, s.cfgOf Cfg.LADDER_AMBER, s.worstUsed, s.groupWarnings,
   s.temperature 1, s.temperature 2, s.mgmt.unsafeStops, s.mgmt.mediaErrors,
   s.mgmt.warmRounds / 6000, s.mgmt.critRounds / 6000]

/-! ### Archive (R475, R476, Tables 18.9a and 18.9b) -/

/-- A figure of the die sets an LSI names: their worst value, or their total. -/
def State.overSets (s : State) (lsi : Nat) (f : Nat → Nat) (join : Nat → Nat → Nat) (start : Nat) : Nat :=
  if lsi = 0 then (s.dieSetIds.map f).foldl join start else f lsi

def State.lostBlocks (s : State) (lsi : Nat) : Nat := s.overSets lsi (fun d => (s.dieSet d).lostBlocks) (· + ·) 0
def State.fixityMismatches (s : State) (lsi : Nat) : Nat := s.overSets lsi (fun d => (s.dieSet d).mismatches) (· + ·) 0

/-- FALLBACKS: channels at fallback, and bit 8 the DRAM. -/
def State.fallbacks (s : State) : Nat :=
  Tab.count (fun _ c => c.fallback) s.flash.chans % 256 + 256 * b2n s.dram.fallback

/-- ADVICE (Table 18.9b). (DESIGN CHOICE, log entry 58.) -/
def State.advice (s : State) (lsi : Nat) : Nat :=
  let stage := s.overSets lsi (fun d => (s.dieSet d).stage.rank) max 0
  let days := s.overSets lsi s.daysToAmber min 0xFFFFFFFF
  let used := s.overSets lsi (fun d => s.flash.pctUsed.get 0 d) max 0
  let waits := s.mgmt.binFour.any fun b =>
    (decide (lsi = 0) || decide ((s.ns b.1).dieSet = lsi)) && decide (b.2.2 + 2592000 < s.cone.lifeSecs)
  b2n (decide (1 ≤ stage)) + 2 * b2n (decide (2 ≤ stage)) + 4 * b2n (decide (3 ≤ stage)) + 8 * b2n (decide (days < 365)) +
    16 * b2n (decide (90 ≤ used)) + 32 * b2n (decide (0 < s.lostBlocks lsi)) +
    64 * b2n (decide (0 < s.fixityMismatches lsi)) + 128 * b2n waits + 256 * b2n s.mgmt.lifeBroken +
    512 * b2n (decide (s.fallbacks ≠ 0))

/-- Retired blocks and failed dies of a die set. -/
def State.retiredBlocks (s : State) (d : Nat) : Nat :=
  Tab.count (fun k b => b.st = .retired && s.setOfDie (k / 32768) = d) s.flash.blocks
def State.failedDies (s : State) (d : Nat) : Nat :=
  Tab.count (fun k x => x.retired && s.setOfDie k = d) s.flash.dies

/-- The fields of an Archive page now, in the order of Table 18.9a. REFIRE_DONE, the early-warning counters and the held and
backlog counts are drive-wide in every LSI (DEDUCED, log entry 18). -/
def State.archiveFields (s : State) (lsi : Nat) : List Nat :=
  [1, lsi, s.overSets lsi (fun d => (s.dieSet d).stage.rank) max 0, s.overSets lsi s.spareLevel min 100, s.advice lsi,
   s.overSets lsi s.daysToAmber min 0xFFFFFFFF, s.overSets lsi s.fiMax max 0] ++
  ((List.range 5).map fun k => s.overSets lsi (fun d => (s.fiHist d).getD k 0) (· + ·) 0) ++
  ((List.range 5).map fun k => s.flash.refireDone.getD k 0) ++
  [s.reg Reg.FBE_MM_EARLY_TRANSIENT, s.reg Reg.FBE_MM_EARLY_CONFIRMED,
   Tab.count (fun _ r => r.pool.any fun p => !p.2.isEmpty) s.flash.rows, Tab.count (fun _ r => r.zone.isSome && r.verifying) s.flash.rows,
   s.flash.fiOffUnknown, s.lostBlocks lsi, s.fixityMismatches lsi,
   s.overSets lsi s.retiredBlocks (· + ·) 0, s.overSets lsi s.failedDies (· + ·) 0,
   s.fault.degradedCount, s.mgmt.severeCount, (s.lifeAverage / 125).toNat, s.fallbacks] ++
  ((List.range 16).map fun k => s.cone.hist.get 0 k) ++
  [s.overSets lsi s.qlcMean max 0, s.overSets lsi s.slcMean max 0, s.mgmt.lifeCond]

/-- The bytes of each field of Table 18.9a. -/
def archiveWidths : List Nat :=
  [2, 2, 1, 1, 2, 4, 4] ++ List.replicate 5 4 ++ List.replicate 5 8 ++ [8, 8, 4, 4, 4, 8, 8, 8, 4, 4, 4, 2, 2] ++ List.replicate 16 4 ++
    [2, 2, 1]

/-- The 256 bytes of an Archive page. -/
def State.archiveBytes (s : State) (lsi : Nat) : List Nat :=
  padTo 256 ((archiveWidths.zip (s.archiveFields lsi)).flatMap fun x => le x.1 x.2)

/-- A round computes every Archive page (R475). -/
def State.computeArchive (s : State) : State :=
  let pages : Tab (List Nat) := (0 :: s.dieSetIds).foldl (fun (t : Tab (List Nat)) d => t.set [] d (s.archiveBytes d)) []
  { s with mgmt := { s.mgmt with archive := pages } }

/-- Log 0xC2 as the last round computed it; before the first round, as it is. (DESIGN CHOICE, log entry 58.) -/
def State.archivePage (s : State) (lsi : Nat) : List Nat :=
  match s.mgmt.archive.get [] lsi with
  | [] => s.archiveBytes lsi
  | l => l

/-! ### Readers of the Kiln Log -/

/-- A record as a Vendor Specific Event: its type, the timestamp, the record unchanged (Table 17.10). -/
def Rec.event (r : Rec) : List Nat := 0xDE :: le 8 r.stamp ++ r.bytes

/-- Whole records that fit in `room` bytes, at most `n`. -/
def takeRecords : Nat → Nat → List Rec → List Rec
  | 0, _, _ => []
  | _, _, [] => []
  | n + 1, room, r :: t => if r.length ≤ room then r :: takeRecords n (room - r.length) t else []

/-- Kiln Log Read (R472): from a SEQUENCE on; one no longer in the ring starts at the oldest record and sets the flag. -/
def State.kilnRead (s : State) (start count : Nat) : List Nat :=
  let from_ := s.klog.ring.dropWhile fun r => decide (r.seq ≠ start % 65536)
  let gone := from_.isEmpty
  let recs := takeRecords (min 64 count) 4096 (if gone then s.klog.ring else from_)
  b2n gone :: le 2 (s.reg Reg.KLOG_SEQ_NEXT) ++ le 2 (s.reg Reg.KLOG_SEQ_SAVED) ++ recs.flatMap Rec.bytes

end Sys2Proof.Machine
end

