-- ==== Sys2Proof/Machine/OpsMgmt.lean ====
section
/-!
DEFINITION. The configuration mailbox (R463 to R466) and the configuration image (R467 to R469): checks of records, the
session, commit.
-/

namespace Sys2Proof.Machine

/-! ### Checks of records (R466, R468) -/

/-- What a set of records makes of the fields: the record's value, else what stood before. -/
def candidate (recs : List CfgRec) (before : Nat → Nat → Option Nat) (id idx : Nat) : Option Nat :=
  match recs.reverse.find? fun r => decide (r.id = id) && decide (r.idx = idx) with
  | some r => some r.value
  | none => before id idx

/-- The ID and the index name a field. -/
def recKnown (r : CfgRec) : Bool := match cfgInfo r.id with
  | some f => decide (r.idx ≤ f.maxIndex)
  | none => false

/-- Sixteen nibbles that are a permutation of the sixteen offset sets. -/
def permutation16 (v : Nat) : Bool := decide ((List.range 16).map fun k => bits v (4 * k) 4).Nodup

/-- The value lies in the field's range and is a multiple of its step (R467). -/
def recInRange (r : CfgRec) : Bool := match cfgInfo r.id with
  | some f =>
    if r.id = Cfg.GLZ_ALARM_TEMP_LO then r.value = 0 || (decide (f.lo ≤ r.value) && decide (r.value ≤ f.hi))
    else decide (f.lo ≤ r.value) && decide (r.value ≤ f.hi) && decide ((r.value - f.lo) % f.step = 0) &&
      (r.id ≠ Cfg.MI_SMB_ADDR || r.value ≠ 0x6A) && (r.id ≠ Cfg.DMC_RATE_MAX || [8800, 8000, 7200, 6400, 5600, 4800].contains r.value) &&
      (r.id ≠ Cfg.DMC_WR || r.idx ≠ 0 || decide (16 ≤ r.value)) && (r.id ≠ Cfg.LDPC_RETRY_ORDER || permutation16 r.value) &&
      (r.id ≠ Cfg.CONE_MODEL || decide (r.idx < 576) || decide (20 ≤ r.value))
  | none => false

/-- The largest row sum of r in m°C/W: 150 for Cerzor's reference set (R439). -/
def largestRow (named : Nat → Nat → Option Nat) : Nat :=
  ((List.range 24).map fun i => ((List.range 24).map fun j => (named Cfg.CONE_MODEL (24 * i + j)).getD 0).sum).foldl max 0

/-- Sums over fields and limits between them (Tables 2.8, 5.25, 10.5, 11.6, R439): `v` gives every field's value, `named`
the values that are not defaults. -/
def State.limitsOk (s : State) (v : Nat → Nat → Nat) (named : Nat → Nat → Option Nat) (modelNamed : Bool) : Bool :=
  let sum := fun (id : Nat) => ((List.range' 1 128).map fun d => (named id d).getD 0).sum
  let plan := (s.zone.dieSets.filter fun d => !d.2.groups.isEmpty).map fun d => (d.1, d.2.groups)
  let opens := budgets (named Cfg.DS_OPEN_BUDGET) 1024 plan
  let actives := budgets (named Cfg.DS_ACTIVE_BUDGET) 4096 plan
  decide (v Cfg.ZONE_FZR_AGE 0 ≤ v Cfg.ZONE_FINISH_AGE 0) && decide (v Cfg.LADDER_RED 0 < v Cfg.LADDER_AMBER 0) &&
    decide (sum Cfg.DS_OPEN_BUDGET ≤ 1024) && decide (sum Cfg.DS_ACTIVE_BUDGET ≤ 4096) &&
    (opens.zip actives).all (fun x => decide (1 ≤ x.1.2) && decide (x.1.2 ≤ x.2.2)) &&
    (List.range' 1 128).all (fun d => match named Cfg.DS_ACTIVE_BUDGET d with
      | some a => decide ((named Cfg.DS_OPEN_BUDGET d).getD 1 ≤ a)
      | none => true) &&
    decide (((s.dieSetIds).map fun d => (named Cfg.PLM_WRITE_ALLOW d).getD (s.allowDefault d)).sum ≤ 8192) &&
    decide (v Cfg.HMP_AMBER 0 + 2 ≤ v Cfg.HMP_RED 0) && decide (v Cfg.HMP_AMBER 1 + 2 ≤ v Cfg.HMP_RED 1) &&
    decide (v Cfg.DMC_WR 1 + 8 ≤ v Cfg.DMC_WR 0) &&
    decide (v Cfg.CONE_K 0 * 46 * (if modelNamed then largestRow named else 150) < 80000)

/-- The limit of R177 on the Blanket pool: the open budgets, the open conventional rows and 256 find room. -/
def State.poolOk (s : State) (v : Nat → Nat → Nat) (named : Nat → Nat → Option Nat) : Bool :=
  let g := Tab.count (fun _ x => x.formed) s.zone.groups
  let open_ := (s.zone.dieSets.map fun d => (named Cfg.DS_OPEN_BUDGET d.1).getD d.2.openBudget).sum
  let rows := Tab.sum (fun _ n => if n.exists_ then n.openRows.length + b2n n.relRow.isSome else 0) s.zone.nss
  let spare := Tab.count (fun _ d => d.present && !d.inGroup && !d.retired) s.flash.dies
  decide (open_ + rows + 256 ≤ 4 * v Cfg.MEDIA_ROWS_BLANKET 0 * g + spare * v Cfg.MEDIA_ROWS_BLANKET 0)

/-- The value in force where the image or a write named one. -/
def State.named (s : State) (id idx : Nat) : Option Nat := s.cfgNamed id idx

/-- The status of a set of records: 0, unknown field (4), range or limit (5). -/
def State.recsStatus (s : State) (recs : List CfgRec) (before : Nat → Nat → Option Nat) : Nat :=
  let named := candidate recs before
  let v := fun (id idx : Nat) => (named id idx).getD (cfgDefault id idx)
  let model := (recs.any fun r => decide (r.id = Cfg.CONE_MODEL)) || (before Cfg.CONE_MODEL 0).isSome
  if !(recs.all recKnown) then 4
  else if !(recs.all recInRange) ∨ !(s.limitsOk v named model) then 5
  else 0

/-! ### Fields written (R466, R8) -/

/-- The block that owns a field group (Tables 18.5 and 17.3). (DEDUCED, log entry 59.) -/
def ownerSource (id : Nat) : Nat :=
  match id / 256 with
  | 0x02 => 0x1A0
  | 0x04 => 0x205
  | 0x05 => 0x201
  | 0x06 => 0x1C0
  | 0x07 => 0x1B3
  | 0x08 => 0x1D0
  | 0x09 => 0x1E0
  | 0x0A => 0x301
  | 0x0B => 0x303
  | 0x0C => 0x309
  | 0x0D => 0x307
  | _ => 0x200

/-- What a Live value does when it comes into force: CFG_PWR_IDLE_GATE = 0 wakes every idle-gated domain, a Hamper
threshold is compared anew. (DEDUCED, log entry 19.) (DEDUCED, log entry 96.) -/
def State.afterLive (s : State) (id v : Nat) : State :=
  if id = Cfg.PWR_IDLE_GATE ∧ v = 0 then
    let ds : Tab Domain := s.power.domains.mapVals {} fun _ (d : Domain) => if d.idle then { d with st := 0, idle := false } else d
    { s with power := { s.power with domains := ds } }
  else if id = Cfg.HMP_AMBER ∨ id = Cfg.HMP_RED then (s.settlePool poolNR).settlePool poolFW
  else s

/-- What a Live write of CFG_PWR_CH_IDLE_MS leaves to the idle periods that have begun (Table 15.10). -/
def State.beforeLive (s : State) (id : Nat) : State :=
  if id = Cfg.PWR_CH_IDLE_MS then { s with power := { s.power with chIdle := (s.cfgOf Cfg.PWR_CH_IDLE_MS, s.now) } } else s

/-- A Live or Staged value: in force at once, or at its boundary. Every source takes the escalation thresholds for itself
at its next window start (R450), so nothing else holds them back. (DEDUCED, log entry 96.) -/
def State.putField (s : State) (id idx v : Nat) : State :=
  match cfgInfo id with
  | none => s
  | some f =>
    match f.kind with
    | .static => s
    | .live => ((s.beforeLive id).setCfg id idx v).afterLive id v
    | .window => s.setCfg id idx v
    | _ => { s with cfgStaged := s.cfgStaged.set none (cfgKey id idx) (some v) }

/-- A field's record is Static. -/
def recStatic (r : CfgRec) : Bool := match cfgInfo r.id with
  | some f => decide (f.kind = .static)
  | none => false

/-- FIELD_WRITE: the status, the number of Static records skipped, the state. (DEDUCED, log entry 59.)
(DEDUCED, log entry 27.) -/
def State.writeFields (s : State) (recs : List CfgRec) : Nat × Nat × State :=
  let st := s.recsStatus recs s.named
  if st ≠ 0 then (st, 0, s)
  else
    let skipped := recs.filter fun (r : CfgRec) => recStatic r && decide (s.cfgAt r.id r.idx ≠ r.value)
    let s := s.each recs fun s (r : CfgRec) => s.putField r.id r.idx r.value
    let s := s.each skipped fun s (r : CfgRec) => s.report (ownerSource r.id) 0x50 (2 ^ 39 + r.id) 0
    (if skipped.isEmpty then 0 else 6, skipped.length, s)

/-! ### Images (R467 to R469) -/

/-- The header's bytes before its CRC (Table 18.4), its integers little-endian (DESIGN CHOICE, log entry 33). -/
def cfgFront (h : CfgHeader) : List Nat :=
  h.magic ++ le 2 h.format ++ le 2 h.part ++ le 2 h.steppings ++ le 2 h.fwMin ++ le 4 h.length ++ le 4 h.rollback ++ le 4 h.imageSeq ++
    le 4 h.records ++ le 4 h.bodyLen ++ be 48 h.digest ++ le 32 h.module ++ List.replicate 140 0

/-- The header check of R468. -/
def State.cfgHeaderOk (s : State) (h : CfgHeader) : Bool :=
  decide (h.magic = [0x43, 0x5A, 0x43, 0x46]) && decide (h.format = 1) && decide (h.crc = crc32c (cfgFront h)) &&
    decide (h.part = 0x1024) && bit h.steppings 1 && decide (h.fwMin ≤ 0x32) &&
    decide (h.length ≤ 1048576) && decide (256 + h.bodyLen ≤ h.length) && decide (s.cfgCounter ≤ h.rollback)

/-- A configuration image's digest and chain hold (R468, R491). -/
def State.cfgChainOk (s : State) (h : CfgHeader) (c : Chain) : Bool := s.chainOk 1 h.rollback s.cfgCounter [h.digest] c

/-- The bytes of a field's VALUE: 8 for the retry order's sixteen nibbles, else 4 (R467; DESIGN CHOICE, log entry 16). -/
def valueLen (id : Nat) : Nat := if id = Cfg.LDPC_RETRY_ORDER then 8 else 4

/-- A field record (R467). -/
def recordBytes (id idx value : Nat) : List Nat := le 2 id ++ le 2 idx ++ le 2 (valueLen id) ++ le 2 0 ++ le (valueLen id) value

/-- The bytes that records with, or without, their values take. -/
def recsLen (recs : List CfgRec) (values : Bool) : Nat :=
  (recs.map fun (r : CfgRec) => if values then 8 + valueLen r.id else 8).sum

/-- The records of an image: no field twice, every required field there, ranges and limits, the limit of R177. -/
def State.imageStatus (s : State) (recs : List CfgRec) : Nat :=
  let before := fun (_ _ : Nat) => (none : Option Nat)
  let named := candidate recs before
  let st := s.recsStatus recs before
  if st ≠ 0 then st
  else if !(decide (recs.map fun (r : CfgRec) => cfgKey r.id r.idx).Nodup) ∨ !(recs.any fun r => decide (r.id = Cfg.DMC_TIMING)) then 5
  -- before discovery no group is known (Bisque mode)
  else if s.boot.phase ≠ .bisque ∧ !(s.poolOk (fun id idx => (named id idx).getD (cfgDefault id idx)) named) then 5
  else 0

/-- The slot a new image is written to: the other than the one in force (R469); with none in force the one with the
lower IMAGE_SEQ (R500). -/
def State.otherCfgSlot (s : State) : Nat :=
  match s.mgmt.inForce with
  | some k => if k = 0 then 1 else 0
  | none => match s.mgmt.slots.get none 0, s.mgmt.slots.get none 1 with
    | none, _ => 0
    | some _, none => 1
    | some a, some b => if b.hdr.imageSeq < a.hdr.imageSeq then 1 else 0

/-- The Static fields whose value in the image differs from the one in force. (DEDUCED, log entry 27.) -/
def State.staticDiff (s : State) (recs : List CfgRec) : Nat :=
  (recs.filter fun (r : CfgRec) => recStatic r && decide (s.cfgAt r.id r.idx ≠ r.value)).length +
    (s.cfg.filter fun e => (match cfgInfo (e.1 / 4096) with
      | some f => decide (f.kind = .static)
      | none => false) && !(recs.any fun r => decide (cfgKey r.id r.idx = e.1))).length

/-- The image comes into force (R469): its Live and Staged fields, those it leaves out at their default; Static fields
wait for start-up. An instance's weight that the image does not name stays the manager's (DEDUCED, log entry 19).
(DEDUCED, log entry 96.) -/
def State.imageInForce (s : State) (recs : List CfgRec) : State :=
  let s := s.post 6 []
  let left := s.cfg.filter fun e => !(recs.any fun r => decide (cfgKey r.id r.idx = e.1)) && decide (e.1 / 4096 ≠ Cfg.INTAKE_WEIGHT)
  let s := { s with cfgStaged := [] }
  let s := s.each left fun s e => s.putField (e.1 / 4096) (e.1 % 4096) (cfgDefault (e.1 / 4096) (e.1 % 4096))
  s.each recs fun s (r : CfgRec) => s.putField r.id r.idx r.value

/-- A request of Table 18.2: the status, the bytes of the response payload, the state. Chunks carry their records.
(PRESUMED, log entry 16.) -/
def State.cfgRequest (s : State) (path opcode : Nat) (hdr : CfgHeader) (offset length mode : Nat) (recs : List CfgRec)
    (chain : Chain) : Nat × List Nat × State :=
  let close := fun (s : State) => { s with mgmt := { s.mgmt with session := none } }
  let mine := s.mgmt.session.filter fun x => decide (x.path = path)
  -- the payload a message of the path carries (Table 18.3, R504)
  let room := if path = 0 then 4096 else 4078
  match opcode with
  | 0x0001 =>
    if length < 256 ∨ room < length then (3, [], s)
    else if s.mgmt.session.isSome ∨ s.boot.shut.isSome then (1, [], s)
    else if !(s.cfgHeaderOk hdr) then (7, [], s)
    else
      let x : CfgSession := { path := path, hdr := hdr, got := length, recs := recs, at_ := s.now }
      -- in Bisque mode the image streams into its slot (R500)
      let slots : Tab (Option CfgSlot) := if s.boot.phase = .bisque then s.mgmt.slots.set none s.otherCfgSlot none else s.mgmt.slots
      (0, [], { s with mgmt := { s.mgmt with session := some x, slots := slots } })
  | 0x0002 => match mine with
    | none => (9, [], s)
    | some x =>
      if offset ≠ x.got then (9, [], s)
      else if room < 4 + length ∨ x.hdr.length < offset + length then (3, [], s)
      else
        let y : CfgSession := { x with got := x.got + length, recs := x.recs ++ recs, at_ := s.now }
        (0, [], { s with mgmt := { s.mgmt with session := some y } })
  | 0x0003 => match mine with
    | none => (9, [], s)
    | some x =>
      if x.got ≠ x.hdr.length then (9, [], close s)
      else if !(s.cfgChainOk x.hdr chain) then (8, [], close s)
      else
        let st := s.imageStatus x.recs
        if st ≠ 0 then (st, [], close s)
        else
          let k := s.otherCfgSlot
          let waiting := s.staticDiff x.recs
          let slots : Tab (Option CfgSlot) := s.mgmt.slots.set none k (some { hdr := x.hdr, recs := x.recs, chain := chain })
          if s.boot.phase = .bisque then (0, le 4 waiting, { s with mgmt := { s.mgmt with slots := slots, session := none } })
          else
            let s : State := { s with mgmt := { s.mgmt with slots := slots, inForce := some k, forceAt := s.now, staticWait := waiting, session := none } }
            (0, le 4 waiting, s.imageInForce x.recs)
  | 0x0004 => match mine with
    | none => (9, [], s)
    | some _ => (0, [], close s)
  | 0x0010 =>
    if room < recsLen recs true then (3, [], s)
    else if !(recs.all recKnown) then (4, [], s)
    else (0, recs.flatMap fun (r : CfgRec) => recordBytes r.id r.idx (s.cfgAt r.id r.idx), s)
  | 0x0011 =>
    if room < recsLen recs true then (3, [], s)
    else
      let r := s.writeFields recs
      (r.1, le 4 r.2.1, r.2.2)
  | 0x0020 => match mode with
    | 0 => (0, [], { s with zone := { s.zone with nextMode := some .clear } })
    | 1 => (0, [], { s with zone := { s.zone with nextMode := some .xts } })
    | 2 => (0, [], { s with zone := { s.zone with nextMode := some .sealed_ } })
    | 3 => (0, [], { s with zone := { s.zone with nextMode := some .keyPerIo } })
    | _ => (5, [], s)
  | _ => (2, [], s)

/-- The mailbox answers (R463): the payload into the manager's buffer and the registers in BAR2 (path 0), or the Service Port
(path 1). (PRESUMED, log entry 16.) -/
def State.mbxAnswer (s : State) (path status : Nat) (payload : List Nat) : State :=
  if path = 0 then
    let at_ := s.reg Reg.CFG_MBX_BUF_LO_ADDR + s.reg Reg.CFG_MBX_BUF_HI_ADDR * 2 ^ 32
    let s := if payload.isEmpty then s else s.emit (.mem 0 at_ payload)
    let s := ((((s.setReg Reg.CFG_MBX_STATUS_RSP_STATUS status).setReg Reg.CFG_MBX_RSP_RSP_LENGTH payload.length).setReg
      Reg.CFG_MBX_RSP_RSP_SEQUENCE (s.reg Reg.CFG_MBX_HDR0_SEQUENCE)).setReg Reg.CFG_MBX_STATUS_BUSY 0).setReg
      Reg.CFG_MBX_STATUS_DONE 1
    if s.reg Reg.CFG_MBX_CTRL_IEN = 1 then s.interrupt 0 (s.reg Reg.CFG_MBX_CTRL_VECTOR) else s
  else s.emit (.reply Port.service (le 2 status ++ payload))

/-- The mailbox takes requests: PCIe ready and the management plane up. -/
def State.mbxOn (s : State) (path : Nat) : Bool :=
  s.boot.phase = .ready && !s.fault.graveStopped && !(s.domainOff 93) && (path = 0 || path = 1)

/-- A request, if the mailbox takes one, with its answer. -/
def State.mbxDo (s : State) (path : Nat) (f : State → Nat × List Nat × State) : Res :=
  if !(s.mbxOn path) then .next s
  else
    let r := f s
    .next (r.2.2.mbxAnswer path r.1 r.2.1)

end Sys2Proof.Machine
end

