-- ==== Sys2Proof/Machine/OpsFirmware.lean ====
section
/-!
DEFINITION. Firmware slots, staging and commit (R486 to R497), the Service Port's requests (R501 to R505).
-/

namespace Sys2Proof.Machine

/-! ### Headers (Table 19.9, R489) -/

/-- A section's entry in the header. -/
def sectionBytes (x : Section) : List Nat := le 4 x.offset ++ le 4 x.length ++ le 8 0 ++ be 48 x.digest

/-- The header's bytes before its CRC, its integers little-endian (DESIGN CHOICE, log entry 33). -/
def fwFront (h : FwHeader) : List Nat :=
  h.magic ++ le 2 h.format ++ le 2 h.part ++ le 2 h.steppings ++ le 2 h.release ++ le 4 h.length ++ le 4 h.rollback ++ le 4 h.flags ++
    le 4 h.build ++ le 4 h.cfgFormat ++ sectionBytes h.overlay ++ sectionBytes h.control ++ List.replicate 348 0

/-- A header from an image's first bytes. -/
def fwHeaderOf (l : List Nat) : FwHeader :=
  let part := fun (o : Nat) => ({ offset := leAt l o 4, length := leAt l (o + 4) 4, digest := ofLe ((l.drop (o + 16)).take 48).reverse } : Section)
  { magic := l.take 4, format := leAt l 4 2, part := leAt l 6 2, steppings := leAt l 8 2, release := leAt l 10 2, length := leAt l 12 4,
    rollback := leAt l 16 4, flags := leAt l 20 4, build := leAt l 24 4, cfgFormat := leAt l 28 4, overlay := part 0x20,
    control := part 0x60, crc := leAt l 0x1FC 4 }

/-- A section lies behind the header and before the signature block, within its size limit. -/
def sectionOk (h : FwHeader) (x : Section) (limit : Nat) : Bool :=
  decide (512 ≤ x.offset) && decide (x.offset + x.length ≤ h.length - 4096) && decide (x.length ≤ limit)

/-- The sections do not overlap. -/
def sectionsApart (a b : Section) : Bool := decide (a.offset + a.length ≤ b.offset) || decide (b.offset + b.length ≤ a.offset)

/-- A chain from a tunnelled command's body: the numbers of Table 19.10 in order, then M and the digests. -/
def chainOf (l : List Nat) : Chain :=
  let x := fun (k : Nat) => l.getD k 0
  { block := { rootEcdsa := x 0, rootLms := x 1, rootEcdsaSig := x 8, rootLmsSig := x 9, imageEcdsaSig := x 10, imageLmsSig := x 11,
               signer := { ecdsa := x 2, lms := x 3, validFrom := x 4, validTo := x 5, usage := x 6, id := x 7 } }
    m := x 12, parts := l.drop 13 }

/-! ### Slots (Table 19.8) -/

abbrev slotEmpty : Nat := 0
abbrev slotWriting : Nat := 1
abbrev slotValid : Nat := 2
abbrev slotTrial : Nat := 3
abbrev slotConfirmed : Nat := 4
abbrev slotFailed : Nat := 5

def State.fwSlot (s : State) (k : Nat) : FwSlot := s.boot.slots.get ({} : FwSlot) k

/-- The other slot of the two. -/
def otherSlot (k : Nat) : Nat := if k = 1 then 2 else 1

/-- A slot changes its state: a new directory page (R486); the page that marks it Valid is kept (R487). -/
def State.markSlot (s : State) (k st : Nat) : State :=
  let n := s.boot.dirSeq + 1
  let slots : Tab FwSlot := s.boot.slots.upd ({} : FwSlot) k fun (x : FwSlot) =>
    { x with st := st, seq := if st = slotValid then n else x.seq }
  { s with boot := { s.boot with slots := slots, dirSeq := n } }

/-- The trial attempt count, in its directory page. -/
def State.setAttempts (s : State) (n : Nat) : State :=
  { s with boot := { s.boot with attempts := n, dirSeq := s.boot.dirSeq + 1 } }

/-- A slot is selected: Trial, with no attempt made; a Trial of the other slot is Valid again.
(DEDUCED, log entry 34.) -/
def State.makeTrial (s : State) (k : Nat) : State :=
  let s := if (s.fwSlot (otherSlot k)).st = slotTrial then s.markSlot (otherSlot k) slotValid else s
  (s.markSlot k slotTrial).setAttempts 0

/-- An image is written into a slot (R495, steps 1 to 5); control firmware has it through the steward mailbox, and the steward
the notice for SPDM's measurements (Table 18.7). -/
def State.writeSlot (s : State) (k : Nat) (hdr : FwHeader) (chain : Chain) (trial : Bool) : State :=
  let s := ((s.markSlot k slotWriting).post 7 [k]).postBack 8 [k]
  let slots : Tab FwSlot := s.boot.slots.upd ({} : FwSlot) k fun (x : FwSlot) => { x with hdr := hdr, chain := chain }
  let s := { s with boot := { s.boot with slots := slots } }
  if trial then s.makeTrial k else s.markSlot k slotValid

/-! ### Headers and staging (R489, R494) -/

/-- The header checks of R489. -/
def State.fwHeaderOk (s : State) (h : FwHeader) : Bool :=
  decide (h.magic = [0x43, 0x5A, 0x50, 0x48]) && decide (h.format = 1) && decide (h.crc = crc32c (fwFront h)) &&
    decide (h.part = 0x1024) && bit h.steppings 1 && decide (h.length ≤ 33554432) && decide (h.length % 4096 = 0) &&
    sectionOk h h.overlay 1048576 && sectionOk h h.control 31457280 && sectionsApart h.overlay h.control &&
    decide (h.rollback ≤ 512) && decide (s.fwCounter ≤ h.rollback) && (!bit h.flags 0 || decide (s.lifecycle < 2))

/-- A firmware image's chain holds (R491). -/
def State.fwChainOk (s : State) (h : FwHeader) (c : Chain) : Bool :=
  s.chainOk 0 h.rollback s.fwCounter [h.overlay.digest, h.control.digest] c

/-- The one staging area, and its holder (R494) (DEDUCED, log entry 33). -/
def State.setStaging (s : State) (x : Option Staging) : State := { s with boot := { s.boot with staging := x } }

/-- A piece overlaps one received before. -/
def Staging.overlaps (x : Staging) (offset length : Nat) : Bool :=
  x.pieces.any fun p => decide (p.1 < offset + length) && decide (offset < p.1 + p.2)

/-- Every byte of the image has been received. -/
def Staging.complete (x : Staging) : Bool := decide ((x.pieces.map (·.2)).sum = x.hdr.length)

/-- Firmware Image Download (R494): the status and the state. A piece other than the last that is no multiple of 4 KiB, or
starts off one, is refused as FWUG has it. (DEDUCED, log entry 33.) -/
def State.download (s : State) (offset length : Nat) (hdr : FwHeader) : Nat × State :=
  let refuse := (0x107, s.setStaging none)
  let odd := fun (h : FwHeader) => offset % 4096 ≠ 0 || (offset + length ≠ h.length && length % 4096 ≠ 0)
  let mine := s.boot.staging.filter fun (x : Staging) => decide (x.path = 1)
  if s.boot.staging.isSome ∧ mine.isNone then (Status.sequenceError, s)
  else if offset = 0 then
    if length < 512 ∨ !(s.fwHeaderOk hdr) ∨ hdr.length < length then refuse
    else if odd hdr then (Status.invalidField, s)
    else
      let x : Staging := { path := 1, hdr := hdr, pieces := [(0, length)], at_ := s.now }
      (Status.success, s.setStaging (some x))
  else match mine with
    | none => refuse
    | some x =>
      if x.hdr.length < offset + length then refuse
      else if x.overlaps offset length then (0x114, s)
      else if odd x.hdr then (Status.invalidField, s)
      else
        let y : Staging := { x with pieces := x.pieces ++ [(offset, length)], at_ := s.now }
        (Status.success, s.setStaging (some y))

/-- A commit writes the staged image (R495): the NVMe status and the state. Staging is cleared.
(DEDUCED, log entry 34.) -/
def State.commitStaged (s : State) (path k : Nat) (trial : Bool) (chain : Chain) : Nat × State :=
  match s.boot.staging.filter fun (x : Staging) => decide (x.path = path) with
  | none => (0x107, s)
  | some x =>
    if !x.complete then (0x107, s.setStaging none)
    else if x.hdr.rollback < s.fwCounter then (0x113, s.setStaging none)
    else if !(s.fwChainOk x.hdr chain) then (0x107, s.setStaging none)
    else (Status.success, (s.setStaging none).writeSlot k x.hdr chain trial)

/-- Firmware Commit (R495, Table 19.11): the status, the state, whether the activation is at once.
(DEDUCED, log entry 33.) -/
def State.fwCommit (s : State) (slot action : Nat) (chain : Chain) : Nat × State × Bool :=
  let running := s.boot.running
  let k := if slot = 0 then otherSlot running else slot
  let staged := s.boot.staging.any fun (x : Staging) => decide (x.path = 1)
  if 4 ≤ action then (Status.invalidField, s, false)
  else if 2 < slot then (0x106, s, false)
  else if action ≤ 1 ∨ (action = 3 ∧ staged) then
    if k = running then (0x106, s, false)
    else
      let r := s.commitStaged 1 k (decide (action ≠ 0)) chain
      (r.1, r.2, decide (action = 3) && decide (r.1 = Status.success))
  else if k = running then
    -- naming the running slot cancels a pending Trial of the other
    let o := otherSlot running
    let s := if (s.fwSlot o).st = slotTrial then s.markSlot o slotValid else s
    (Status.success, s, decide (action = 3))
  else if (s.fwSlot k).st ≠ slotValid ∧ (s.fwSlot k).st ≠ slotConfirmed then (0x107, s, false)
  else (Status.success, s.makeTrial k, decide (action = 3))

/-! ### The start-up record (R482) -/

/-- The numbers of Table 19.5, and its bytes. -/
def BootRec.words (r : BootRec) : List Nat :=
  [r.path, r.fwSlot + 4 * r.cfgSlot + 16 * r.copies, dramRateCode r.dramRate, r.lastStep] ++
    ((List.range 10).map fun k => r.stepEnds.getD k 0) ++ [r.hostTime]
def BootRec.bytes (r : BootRec) : List Nat := bodyBytes Code.powerOn r.words

/-! ### The Service Port (R501 to R505) -/

/-- The port is reachable: the start-up has begun, its domain is on. (DEDUCED, log entry 36.) -/
def State.portUp (s : State) : Bool :=
  s.boot.phase ≠ .fresh && s.boot.phase ≠ .down && !s.boot.testHeld && !(s.domainOff 93)

/-- The part holds: the Grave hold, a stop of Table 19.6, the wait before step 3. (DEDUCED, log entry 36.) -/
def State.portHeld (s : State) : Bool :=
  s.boot.phase = .graveHold || s.boot.phase = .stopped || s.boot.phase = .romWait || s.fault.graveHold

/-- Where Table 19.14 accepts a command: the lifecycle states, Bisque mode, and while the part holds (2 also after a
failed OTP check). -/
structure SmiliOn where
  states : List Nat := [0, 1, 2, 3]
  bisque : Bool := false
  held : Nat := 0
  deriving DecidableEq, Repr

/-- The command is permitted in the lifecycle state and mode. -/
def State.smiliOk (s : State) (on : SmiliOn) : Bool :=
  on.states.contains s.lifecycle && (s.boot.phase ≠ .bisque || on.bisque) &&
    (!s.portHeld || decide ((if s.boot.otpHold then 2 else 1) ≤ on.held))

/-- Bytes after the sync byte as they are sent (R502). -/
def escaped : List Nat → List Nat
  | [] => []
  | b :: t => if b = 0x7E ∨ b = 0x7D then 0x7D :: (b ^^^ 0x20) :: escaped t else b :: escaped t

/-- A Smili frame (Table 19.13). -/
def smiliFrame (type seq : Nat) (payload : List Nat) : List Nat :=
  let body := [type, seq % 256] ++ le 2 payload.length ++ payload
  0x7E :: escaped (body ++ le 4 (crc32c body))

/-- A response: its frame, the status and the data, kept and sent. -/
def State.smiliAnswer (s : State) (seq st : Nat) (data : List Nat) : State :=
  let l := smiliFrame 2 seq (le 2 st ++ data)
  ({ s with boot := { s.boot with lastReq := some (seq, l) } }).emit (.reply Port.service l)

/-- A new request: executed where permitted, then answered. -/
def State.smiliNew (s : State) (seq : Nat) (on : SmiliOn) (f : State → Nat × List Nat × State) : State :=
  let r := if s.smiliOk on then f s else (0x000A, [], s)
  let t : State := r.2.2
  t.smiliAnswer seq r.1 r.2.1

/-- A valid frame is seen at the port. -/
def State.portHeard (s : State) : State := { s with boot := { s.boot with frameAt := s.now } }

/-- A request (R503): a repeated SEQUENCE gets the stored response. `f` gives status, data bytes and state.
(PRESUMED, log entry 35.) -/
def State.smili (s : State) (seq : Nat) (on : SmiliOn) (f : State → Nat × List Nat × State) : State :=
  if !s.portUp then s
  else
    match s.boot.lastReq with
    | some (n, l) => if n = seq then s.portHeard.emit (.reply Port.service l) else s.portHeard.smiliNew seq on f
    | none => s.portHeard.smiliNew seq on f

/-- A token is accepted, and its nonce used up (R505). (PRESUMED, log entry 35.) -/
def State.useToken (s : State) (purpose : Nat) (token : SigBlock) : Option State :=
  if s.tokenOk purpose token then some { s with boot := { s.boot with nonce := none } } else none

end Sys2Proof.Machine
end

