-- ==== Sys2Proof/Machine/Flash.lean ====
section
/-!
DEFINITION. Meanings of the rows of the flash back end: the die scheduler, reads and their decode ladder, programs,
erases and their suspends, Predictable Latency windows, the Pulse Gate (spec/05_flash_back_end.md, R213 to R216).
-/

namespace Sys2Proof.Machine

/-! ### What a die may start (Tables 5.5, 5.6, 5.11) -/

def OpKind.order : OpKind → Nat
  | .dumpProgram => 1
  | .trailProgram => 2
  | .hostRead => 3
  | .rebuildRead => 3
  | .parityProgram => 4
  | .internalRead => 5
  | .qlcUnit => 6
  | .erase => 7

def OpKind.isRead : OpKind → Bool
  | .hostRead => true
  | .rebuildRead => true
  | .internalRead => true
  | .dumpProgram => false
  | .trailProgram => false
  | .parityProgram => false
  | .qlcUnit => false
  | .erase => false

/-- A host read or a read that reconstructs one. -/
def OpKind.forHost : OpKind → Bool
  | .hostRead => true
  | .rebuildRead => true
  | .internalRead => false
  | .dumpProgram => false
  | .trailProgram => false
  | .parityProgram => false
  | .qlcUnit => false
  | .erase => false

/-- Row of Table 5.11 with host data before Refire and relocation data. -/
def FlashOp.order (o : FlashOp) : Nat := 2 * o.kind.order + b2n o.internal

/-- The Bay's Pulse Gate is closed: by its comparators (R163, R164), or held closed by ISOLATE (Table 17.6). -/
def State.gateClosed (s : State) (die : Nat) : Bool := s.flash.closed.contains (bayOf die) || s.fault.lines.isolate

/-- The die belongs to a set that is in a deterministic window, or is on its way into one. -/
def State.inWindow (s : State) (die : Nat) : Bool := (s.dieSet (s.setOfDie die)).plm.deterministic
def State.nearWindow (s : State) (die : Nat) : Bool :=
  s.inWindow die || (s.dieSet (s.setOfDie die)).plm.entering.isSome

/-- A running erase is suspended whatever the limits of R145 are (R145, last sentence). -/
def State.mustSuspend (s : State) (die : Nat) : Bool := s.gateClosed die || s.trail.dumpMode || s.nearWindow die

/-- The domain of the die's channel runs: a request waits at its isolation gate until it does (R414). -/
def State.channelOn (s : State) (die : Nat) : Bool := (s.power.domains.get {} (channelOf die)).st = 0

/-- Dump mode, the windows, an entry to PS3 or PS4 and the channel's domain let the operation start (R154, R158, R414, R416). -/
def State.modeAllows (s : State) (die : Nat) (d : Die) (o : FlashOp) : Bool :=
  (!s.trail.dumpMode || decide (o.kind.order ≤ 3)) && s.channelOn die &&
    !(s.settling && (o.internal || decide (o.kind = .erase))) &&
    (!(s.nearWindow die) || o.kind.forHost || decide (o.kind = .trailProgram) ||
      (decide (o.kind = .internalRead) && !(d.shortQ.any fun x => x.kind.forHost)))

/-- The state of the die lets the operation start (Tables 5.5 to 5.7). -/
def State.stateAllows (s : State) (die : Nat) (d : Die) (o : FlashOp) : Bool :=
  if o.kind = .qlcUnit then decide (d.st = .idle)
  else if o.kind = .erase then decide (d.st = .idle) && d.shortQ.isEmpty
  else match d.st with
    | .idle => true
    | .gap => o.kind.isRead && (s.gateClosed die || decide (d.gapReads < d.gapLimit))
    | .suspended => !d.holdPassed
    | .reading => false
    | .slcProgramming => false
    | .pass => false
    | .erasing => false
    | .suspending => false
    | .resuming => false

/-- A program unit waits while a substitute of its row's blocks is erased and filled (R205). -/
def State.substWait (s : State) (die : Nat) (o : FlashOp) : Bool :=
  decide (o.kind = .qlcUnit) && (s.opBlocks die o).any fun b => (s.blockOf die b.2 b.1).subst

/-- An operation that may start now, the gate apart. -/
def State.mayStart (s : State) (die : Nat) (o : FlashOp) : Bool :=
  let d := s.die die
  !(s.substWait die o) &&
  s.modeAllows die d o && s.stateAllows die d o && !(decide (o.kind = .qlcUnit) && d.long.isSome) &&
    !(decide (o.kind = .erase) && d.long.isSome)

/-- The first operation of a queue in the order of R154: an aged head, then the rows of Table 5.11, oldest first. -/
def firstOp (ok : FlashOp → Bool) (q : List FlashOp) : Option FlashOp :=
  match q.find? fun o => o.aged && ok o with
  | some o => some o
  | none => (q.filter ok).foldl (fun b o =>
      match b with
      | none => some o
      | some x => if o.order < x.order then some o else some x) none

/-- The operation the scheduler takes: from the short queue, else from the long queue. -/
def State.nextOp (s : State) (die : Nat) (ok : FlashOp → Bool) : Option FlashOp :=
  match firstOp (fun o => s.mayStart die o && ok o) (s.die die).shortQ with
  | some o => some o
  | none => firstOp (fun o => s.mayStart die o && ok o) (s.die die).longQ

/-! ### Refusals (R149 to R151) -/

/-- Counts a refusal and shows it (Tables 5.19 and 5.20). -/
def State.countRefusal (s : State) (die code : Nat) : State :=
  (((s.setReg Reg.FBE_REFUSE_LAST_CODE code).setReg Reg.FBE_REFUSE_LAST_DIE die).setReg
    Reg.FBE_REFUSE_LAST_VALID 1).bump Reg.FBE_REFUSE_COUNT_COUNT

/-- A refusal reported by the Bay: its code and its die in the address (Table 17.4). -/
def State.refuse (s : State) (die code cls : Nat) (host : Bool := false) : State :=
  (s.countRefusal die code).reportHost (0x40 + bayOf die) 0x20 (code * 2 ^ 36 + die) cls host

/-- Takes an operation out of the die's queues. -/
def State.dequeue (s : State) (die : Nat) (o : FlashOp) : State :=
  s.modDie die fun d => { d with shortQ := d.shortQ.erase o, longQ := d.longQ.erase o }

/-- A read names a block that is being erased, or one that is not written there (Table 5.10). -/
def readRefusal (blocks : List Block) (wordline : Nat) : Nat :=
  if blocks.any fun b => b.st = .erasing || b.st = .eraseSuspended then 3
  else if blocks.any fun b => b.st = .erased || (b.st = .open_ && decide (b.next ≤ wordline)) then 4
  else 0

/-- A program names a block that is not Erased or Open, or another wordline than NEXT, or another mode. -/
def programRefusal (blocks : List Block) (slc : Bool) (wordline : Nat) : Nat :=
  if !(blocks.all fun b => b.st = .open_ || b.st = .erased) then 1
  else if blocks.all fun b => b.slc = slc && b.next = wordline then 0
  else 2

/-- The same for a trailer copy, which lies in the last wordline behind the data or the padding (R170).
(DESIGN CHOICE, log entry 83.) -/
def trailerRefusal (blocks : List Block) : Nat :=
  if !(blocks.all fun b => b.st = .open_ || b.st = .full || b.st = .erased) then 1
  else if blocks.any (·.slc) then 2 else 0

/-- Why the block state table refuses an operation; 0 when it does not (Table 5.10). -/
def State.refusalOf (s : State) (die : Nat) (o : FlashOp) : Nat :=
  let blocks := (s.opBlocks die o).map fun b => s.blockOf die b.2 b.1
  match o.kind with
  | .qlcUnit =>
    match o.owner with
    | .row _ u => if 16 * (s.die die).geo.wordlines ≤ u then trailerRefusal blocks else programRefusal blocks false o.wordline
    | _ => programRefusal blocks false o.wordline
  | .erase => if blocks.all fun b => b.st = .dirty || b.st = .retired then 0 else 5
  | .hostRead => readRefusal blocks o.wordline
  | .rebuildRead => readRefusal blocks o.wordline
  | .internalRead => readRefusal blocks o.wordline
  | .dumpProgram => programRefusal blocks true o.slcAt
  | .trailProgram => programRefusal blocks true o.slcAt
  | .parityProgram => programRefusal blocks true o.slcAt

/-! ### Reads -/

/-- Parity lets a unit of a failed die or an undecodable codeword be rebuilt: the wordline's parity is there and the
group's other dies are in service (R182, R183). -/
def State.rebuildable (s : State) (r : RowRef) (w die : Nat) : Bool :=
  let x := s.rowRec r
  x.hasParity w && x.covered && ((s.group r.group).dies.all fun d => decide (d = die) || !(s.die d).retired)

/-- The blocks of a host read have come, or are lost. -/
def State.readArrived (s : State) (tag gen : Nat) (idx : List Nat) (lost : Bool) : State :=
  if (s.tag tag).gen ≠ gen then s
  else s.modTag tag fun t => { t with sources := t.sources.zipIdx.map fun x =>
    if !(idx.contains x.2) then x.1
    else match x.1 with
      | .media c _ => .media (if lost then Content.lost else c) true
      | .zeros => .zeros
      | .fwd u q => .fwd u q }

/-- Blocks that could not be recovered are lost in the map as well (R182). -/
def State.readLost (s : State) (tag gen : Nat) (idx : List Nat) : State :=
  let c := (s.tag tag).cmd
  if (s.tag tag).gen ≠ gen then s
  else
    let s := s.each idx fun s k =>
      if (s.blkAt c.nsid (c.slba + k)).content = .lost then s
      else (s.modBlk c.nsid (c.slba + k) fun b => { b with content := .lost }).countLost c.nsid 1
    (s.readArrived tag gen idx true).log Code.hole 2 0x200 [c.nsid, c.slba, idx.length]

/-- A read of a die that is out of service (R149 code 0x6): rebuilt from the other dies where parity exists. -/
def State.readElsewhere (s : State) (die : Nat) (o : FlashOp) : State :=
  let r : RowRef := { group := (s.die die).group, row := o.block }
  match o.owner with
  | .read tag gen idx =>
    if s.rebuildable r o.wordline die then
      match (s.group r.group).dies.find? fun d => !(s.die d).retired with
      | some d => s.enqueue d { o with kind := .rebuildRead, stage := 1, aged := false }
      | none => s.readLost tag gen idx
    else s.readLost tag gen idx
  | _ => s

/-- The host command of a read refused twice ends with Internal Error (R151); what waited for other reads goes on. -/
def State.readRefused (s : State) (o : FlashOp) : State :=
  match o.owner with
  | .read tag gen _ =>
    if (s.tag tag).gen ≠ gen then s
    else s.modTag tag fun t => { t with done := some (t.done.getD Status.internalError) }
  | .scan _ => s.driveWaiting
  | _ => s

/-- The address the map gives now for a host read: the die and the read (R151). -/
def State.translateAgain (s : State) (o : FlashOp) : Option (Nat × FlashOp) :=
  match o.owner with
  | .read tag gen (k :: _) =>
    let c := (s.tag tag).cmd
    let b := s.blkAt c.nsid (c.slba + k)
    if (s.tag tag).gen ≠ gen then none
    else b.row.map fun r =>
      let u := unitAt (s.group r.group).geo (s.ns c.nsid).zoned b.off
      (s.dieOf r u, { o with kind := .hostRead, block := r.row, wordline := u / 16, again := true, aged := false })
  | _ => none

/-! ### Issue -/

/-- SLC wordlines that a program fills: a parity unit four, else one. -/
def OpKind.slcSpan : OpKind → Nat
  | .parityProgram => 4
  | _ => 1

/-- 4 KiB units an operation moves over the bus. -/
def State.moves (s : State) (die : Nat) (o : FlashOp) : Nat :=
  match o.kind with
  | .hostRead => match o.owner with
    | .read _ _ idx => idx.length
    | _ => 1
  | .rebuildRead => 1
  | .internalRead => 4 * (s.die die).geo.planes
  | .qlcUnit => (s.die die).geo.unitBlocks
  | .parityProgram => (s.die die).geo.unitBlocks
  | .dumpProgram => 16
  | .trailProgram => 16
  | .erase => 0

/-- An operation enters the short slot; a program's blocks are Open up to its end, and its data-in asks for the bus. -/
def State.issueShort (s : State) (die : Nat) (o : FlashOp) : State :=
  let s := (s.dequeue die o).modDie die fun d =>
    { d.goes s.now (if o.kind.isRead then .reading else .slcProgramming) with
      short := some { o with retrySteps := s.cfgOf Cfg.LDPC_RETRY_STEPS }
      gapReads := if d.st = .gap then d.gapReads + 1 else d.gapReads }
  if o.kind.isRead then s
  else (s.setBlocks die (s.opBlocks die o) fun b => { b with
    st := .open_, next := o.slcAt + o.kind.slcSpan, reserved := false }).askBus die false (s.moves die o)

/-- A QLC unit starts: its blocks are Open, its codewords take their write sequences (R171, R260). -/
def State.issueUnit (s : State) (die : Nat) (o : FlashOp) (r : RowRef) (u : Nat) : State :=
  let s := (s.dequeue die o).modDie die fun d => { d.goes s.now .pass with long := some { o with passes := 0 } }
  let s := s.askBus die false (s.moves die o)
  let n := (s.die die).geo.unitBlocks
  let (q, s) := s.takeSeq n
  let s := s.modRow r fun x => { x with
    seqFirst := if x.done.isEmpty && decide (u = 0) then q else x.seqFirst
    seqLast := q + n - 1
    unitSeq := x.unitSeq.set 0 u q }
  let trailer := decide (16 * (s.die die).geo.wordlines ≤ u)
  s.rowBlocks die r.row fun b => { b with
    st := if trailer && decide (b.st = .full) then .full else .open_
    slc := false, next := if trailer then b.next else o.wordline + 1, role := if b.role = 0 then roleZone else b.role }

def State.issueErase (s : State) (die : Nat) (o : FlashOp) : State :=
  let s := (s.dequeue die o).modDie die fun d => { d.goes s.now .erasing with long := some o, suspCount := 0 }
  s.setBlocks die (s.opBlocks die o) fun b => if b.st = .retired then b else { b with st := .erasing }

def State.issueOp (s : State) (die : Nat) (o : FlashOp) : State :=
  match o.kind, o.owner with
  | .qlcUnit, .row r u => s.issueUnit die o r u
  | .erase, _ => s.issueErase die o
  | _, _ => s.issueShort die o

/-! ### SLC programs that fail (R150, R200, R205) -/

/-- A parity unit goes to the next free block of the pool on its die, after what the retired block held; without one, its
quarter gets another pool die. -/
def State.moveParity (s : State) (die : Nat) (o : FlashOp) (r : RowRef) (w : Nat) : State :=
  let q := quarterOf (s.group r.group).geo w
  match s.takeBlocks rolePool die with
  | some t =>
    let s := t.2.setBlocks die t.1.zipIdx fun b => { b with st := .open_, next := o.slcAt }
    let s := s.modRow r fun x => { x with pool := x.pool.set q (die, t.1) }
    s.modDie die fun d => { d with shortQ := { o with aged := false, phys := t.1 } :: d.shortQ }
  | none => (s.losePlace r q).findPlace r q

/-- A program of the Trail or of the dump goes to the next free block of its region, on its die or on another. -/
def State.moveRegion (s : State) (die : Nat) (o : FlashOp) (role : Nat) : State :=
  let s := { s with flash := { s.flash with regionAt := s.flash.regionAt.filter fun e => decide (e.1 ≠ die * 8 + role) } }
  match (die :: s.dumpDies).findSome? fun d => (s.regionNext role d).map fun x => (d, x) with
  | some (d, x) => x.2.modDie d fun y => { y with shortQ := { o with aged := false, phys := x.1.1, slcAt := x.1.2 } :: y.shortQ }
  | none => s

/-- An SLC program has failed, or its refusal was found lasting: its blocks are retired and its data is written to the next
free block of the same region (R205). -/
def State.slcFailed (s : State) (die : Nat) (o : FlashOp) : State :=
  let s := s.each (s.opBlocks die o) fun s b => s.retireRegion die b.2 b.1
  match o.kind, o.owner with
  | .parityProgram, .row r w => s.moveParity die o r w
  | .trailProgram, _ => s.moveRegion die o roleTrail
  | .dumpProgram, _ => s.moveRegion die o roleDump
  | _, _ => s

/-- A program refused twice (R150): the block is retired and its data placed as a failed target's is. -/
def State.programRefused (s : State) (die : Nat) (o : FlashOp) : State :=
  match o.kind, o.owner with
  | .qlcUnit, .row r _ => (s.dequeue die o).programFailed die r o
  | _, _ => (s.dequeue die o).slcFailed die o

/-- A refused read is issued once more at the address the map gives now; a second refusal is lasting (R151). -/
def State.refuseRead (s : State) (die code : Nat) (o : FlashOp) : State :=
  let s := s.dequeue die o
  match (if o.again then none else s.translateAgain o) with
  | some (d, x) => (s.countRefusal die code).modDie d fun y => { y with shortQ := x :: y.shortQ }
  | none => (s.refuse die code 2 (decide (o.kind = .hostRead))).readRefused o

/-- An operation at a die that is retired, failed discovery or does not exist (Table 5.10, code 0x6): a read of a failed
die is reconstructed; a unit is folded into its parity. -/
def State.refuseAbsent (s : State) (die : Nat) (o : FlashOp) : State :=
  let s := s.dequeue die o
  if (s.die die).retired ∧ o.kind.isRead then (s.refuse die 6 0).readElsewhere die o
  else
    let s := s.refuse die 6 2
    match o.kind, o.owner with
    | .qlcUnit, .row r u => if (s.die die).retired then s.unitDone r u else s
    | .hostRead, _ => s.readRefused o
    | .rebuildRead, _ => s.readRefused o
    | _, _ => s

/-- The check of the block state table, and what follows it (R149 to R151). `glitch`: 1 or 2 where the first check refuses
with the first or the second code of its kind and the entry rewritten from its SECDED copy passes. -/
def State.checkAndIssue (s : State) (die glitch : Nat) (o : FlashOp) : State :=
  let code := s.refusalOf die o
  if code = 0 then
    let first := if o.kind = .erase then 0 else (if o.kind.isRead then 2 else 0) + min glitch 2
    let s := if o.again then s.report (0x40 + bayOf die) 0x20 (4 * 2 ^ 36 + die) 0
      else if glitch = 0 ∨ first = 0 then s
      else s.refuse die first 0
    s.issueOp die o
  else if o.kind.isRead then s.refuseRead die code o
  else if o.kind = .erase then (s.dequeue die o).refuse die code 2
  else (s.refuse die code 2).programRefused die o

/-- DIE_OPERATION_ISSUE (R142, R149 to R151, R154, R158, R163). (DEDUCED, log entry 72.) (DESIGN CHOICE, log entry 92.) -/
def execDieOperationIssue (die glitch : Nat) (s : State) : Res :=
  let d := s.die die
  .next (
    if !(dieNameOk die) then s.refuse die 8 2
    else match s.nextOp die fun _ => true with
      | none => s
      | some o =>
        if d.retired ∨ !d.present then s.refuseAbsent die o
        else if s.gateClosed die ∧ !o.kind.isRead then
          -- held, and the first read in order goes instead
          let s := s.countRefusal die 7
          match s.nextOp die fun x => x.kind.isRead with
          | some x => s.checkAndIssue die 0 x
          | none => s
        else s.checkAndIssue die glitch o)

/-- Moves the operation at an index to the head of a queue, behind those aged before it. -/
def ageIn (q : List FlashOp) (idx : Nat) : List FlashOp :=
  match q[idx]? with
  | none => q
  | some o =>
    if o.aged then q
    else
      let rest := q.eraseIdx idx
      (rest.filter fun x => x.aged) ++ [{ o with aged := true }] ++ rest.filter fun x => !x.aged

/-- OPERATION_AGING (R154): an operation has waited more than 50 ms. -/
def execOperationAging (die idx : Nat) (long : Bool) (s : State) : Res :=
  .next (s.modDie die fun d =>
    if long then { d with longQ := ageIn d.longQ idx } else { d with shortQ := ageIn d.shortQ idx })

/-- The state a die has once its short operation ends (Table 5.6). -/
def Die.afterShort (d : Die) : DieState :=
  match d.long with
  | none => .idle
  | some o => if o.kind = .erase then .suspended else .gap

/-- Records a warned page of a full or read-only zone (R191). -/
def State.warn (s : State) (nsid z : Nat) : State :=
  let st := (s.zoneAt nsid z).st
  if (st = .zsf ∨ st = .zsro) ∧ !(s.flash.warned.contains (nsid, z)) then
    { s with flash := { s.flash with warned := s.flash.warned ++ [(nsid, z)] } }
  else s

/-- The same for a closed conventional row (R199), kept under the row's key. -/
def State.warnRow (s : State) (nsid : Nat) (r : RowRef) : State :=
  if s.flash.warned.contains (nsid, rowKey r) then s
  else { s with flash := { s.flash with warned := s.flash.warned ++ [(nsid, rowKey r)] } }

/-- The decode path of a read (R152): 0 hard, 1 to 16 the read-retry step, 17 soft. -/
def FlashOp.path (o : FlashOp) (retry : Nat) : Nat :=
  if o.stage = 1 then 0 else if o.stage = 2 then min (max 1 retry) o.retrySteps else 17

/-- The namespace of a read's data, where its blocks carry a guard (R219, R220). -/
def State.guarded (s : State) (o : FlashOp) : Bool :=
  let pi := fun (n : Nat) => decide ((s.ns n).pi.kind ≠ 0)
  match o.owner with
  | .read tag gen _ => decide ((s.tag tag).gen = gen) && pi (s.tag tag).cmd.nsid
  | .row r _ => pi (s.rowRec r).nsid
  | .scan r => pi (s.rowRec r).nsid
  | _ => false

/-- A guard that did not match (R219): a match on the second read is transient; a second mismatch ends a host read with a
guard check error, and makes an internal read's block an undecodable codeword. (PRESUMED, log entry 107.) -/
def State.guardCheck (s : State) (die : Nat) (o : FlashOp) (misses : Nat) : State :=
  if misses = 0 ∨ !(s.guarded o) then s
  else if misses = 1 then s.reportTransient (0x88 + bayOf die) 0x26 (blockAddress die o.plane (s.physBlock die o.plane o.block))
  else match o.owner with
    | .read tag _ _ => s.modTag tag fun t => { t with done := some (t.done.getD Status.guardCheck) }
    | .row r u => if s.rebuildable r (u / 16) die then s.bump Reg.FBE_LDPC_REBUILT_COUNT else s
    | _ => s

/-- A read's data is out: it is returned with its corrected-bit count, its path and its warning flag (R152, R153, R191).
-/
def State.readReturned (s : State) (die : Nat) (o : FlashOp) (r : ReadReturn) : State :=
  let d := s.die die
  let cbc := min r.cbc 1023
  let warning := decide (s.reg Reg.FBE_CBC_WARN_THRESH < cbc) || decide (1 < o.stage)
  let s := (s.leaveBus die).modDie die fun d => { d.goes s.now d.afterShort with short := none }
  let s := s.emit (.reply Port.engine [die, cbc, o.path r.retry, b2n warning])
  let s := if warning then s.bump Reg.FBE_CBC_COUNT_COUNT else s
  let row : RowRef := { group := d.group, row := o.block }
  let x := s.rowRec row
  let s := match x.zone with
    | some z => if warning then s.warn x.nsid z else s
    | none => if warning ∧ (s.isKept row ∨ (x.endAt.isSome ∧ x.nsid ≠ 0)) then s.warnRow x.nsid row else s
  let s := s.guardCheck die o r.guardMisses
  match o.owner with
  | .read tag gen idx => if o.stage = 6 then s.readLost tag gen idx else s.readArrived tag gen idx false
  | .scan _ => s.driveWaiting
  | _ => s

/-- NAND_READ_COMPLETE (R138, R152, R153, R191, R213, R219): the read is done at the NAND, and its data-out takes the bus;
while another transfer has it, or a data-in goes first, the read waits. (DEDUCED, log entry 108.) -/
def execNandReadComplete (die : Nat) (r : ReadReturn) (s : State) : Res :=
  match (s.die die).short with
  | none => .next s
  | some o =>
    if (s.die die).st ≠ .reading then .next s
    else
      let s := s.askBus die true (s.moves die o)
      .next (if (s.chan (channelOf die)).has die then s.readReturned die o r else s)

/-- The offset sets of a read's retry steps, in the order they are selected: CFG_LDPC_RETRY_ORDER has four bits for each, less
one (R239; PRESUMED, log entry 110). -/
def State.retrySets (s : State) (o : FlashOp) : List Nat :=
  (List.range o.retrySteps).map fun k => bits (s.cfgOf Cfg.LDPC_RETRY_ORDER) (4 * k) 4 + 1

/-- DECODE_LADDER_STEP (Table 7.3, R213, R214): the read at the NAND reaches a step, and decodes there or not. -/
def execDecodeLadderStep (die step : Nat) (ok : Bool) (s : State) : Res :=
  let d := s.die die
  match d.short with
  | none => .next s
  | some o =>
    if d.st ≠ .reading ∨ step ≠ o.stage + 1 ∨ 5 < step then .next s
    else
      let r : RowRef := { group := d.group, row := o.block }
      let addr := blockAddress die o.plane (s.physBlock die o.plane o.block)
      let rebuilt := ok && s.rebuildable r o.wordline die
      let s := s.modDie die fun d => { d with short := some { o with stage := if step = 5 ∧ !rebuilt then 6 else step } }
      .next (match step with
        -- the die is given the offset sets in turn, as many as the read was issued with (R215)
        | 2 => if o.retrySteps = 0 then s else (s.bump Reg.FBE_LDPC_RETRY_COUNT).emit (.reply Port.engine (die :: s.retrySets o))
        | 3 => s.bump Reg.FBE_LDPC_SOFT_COUNT
        | 4 =>
          if ok then (s.bump Reg.FBE_LDPC_TRANSIENT_COUNT).reportTransient (0x88 + bayOf die) 0x26 addr
          else
            let s := (s.bump Reg.FBE_LDPC_CONFIRMED_COUNT).report (0x88 + bayOf die) 0x27 addr 1
            (s.setBlock die o.plane (s.physBlock die o.plane o.block) fun b => { b with suspect := true }).queueRow r .early
        | _ => if rebuilt then s.bump Reg.FBE_LDPC_REBUILT_COUNT else s)

/-! ### Programs -/

/-- The steps of a brown-out are done on every die of the Bay: the Notice, with the operations it holds (Table 5.14, step
6). -/
def State.gateReport (s : State) (bay : Nat) : State :=
  match s.flash.gateNotice.find? fun x => decide (x.1 = bay) with
  | none => s
  | some x =>
    if s.flash.dies.any fun d => decide (bayOf d.1 = bay) &&
        (d.2.st = .erasing || d.2.st = .suspending || d.2.st = .resuming || d.2.st = .pass || d.2.st = .slcProgramming) then s
    else
      let held := Tab.sum (fun k d => if bayOf k = bay then
        b2n d.long.isSome + d.longQ.length + (d.shortQ.filter fun o => !o.kind.isRead).length else 0) s.flash.dies
      let s := { s with flash := { s.flash with gateNotice := s.flash.gateNotice.filter fun x => decide (x.1 ≠ bay) } }
      s.report (0x40 + bay) 0x21 (x.2 % 4 * 2 ^ 36 + min held 65535) 0

/-- Bytes programmed, in 4 KiB units (R209). -/
def State.countUnits (s : State) (die n : Nat) : State :=
  { s with flash := { s.flash with unitsWritten := s.flash.unitsWritten.upd 0 (s.setOfDie die) (· + n) } }

/-- A QLC pass has ended (R143, R155). -/
def State.passEnded (s : State) (die : Nat) (ok : Bool) (o : FlashOp) : State :=
  let s := s.leaveBus die
  let idle := fun (s : State) => s.modDie die fun d => { d.goes s.now .idle with long := none }
  match o.owner with
  | .row r u =>
    if !ok then (idle s).programFailed die r o
    else if o.passes + 1 < 4 then
      s.modDie die fun d => { d.goes s.now .gap with
        long := some { o with passes := o.passes + 1 }, gapReads := 0, gapLimit := s.reg Reg.FBE_CFG_GAP_READS }
    else ((idle s).countUnits die (s.die die).geo.unitBlocks).unitDone r u
  | _ => idle s

/-- QLC_PASS_COMPLETE (R138, R143, R155): a first pass whose data-in still waits for the bus has not run. -/
def execQlcPassComplete (die : Nat) (ok : Bool) (s : State) : Res :=
  let d := s.die die
  match d.long with
  | none => .next s
  | some o =>
    if d.st ≠ .pass ∨ (s.chan (channelOf die)).waitsFor die then .next s
    else .next ((s.passEnded die ok o).gateReport (bayOf die))

/-- QLC_NEXT_PASS_START (R144, R147, R158, R163, R164): the gap's reads are done, or no read waits. In dump mode a unit
that has started runs its remaining passes (Table 8.2, step 3). -/
def execQlcNextPassStart (die : Nat) (s : State) : Res :=
  let d := s.die die
  let readWaits := d.shortQ.any fun o => o.kind.isRead
  if d.st = .gap ∧ !(s.gateClosed die) ∧ !(s.inWindow die) ∧
      (!readWaits ∨ d.gapLimit ≤ d.gapReads ∨ s.trail.dumpMode) then
    .next (s.modDie die fun d => d.goes s.now .pass)
  else .next s

/-- A program of the dump is on media: a header copy, the Trail tail, a chunk (R245). -/
def State.dumpChunkDone (s : State) : Nat → State
  | 0 =>
    -- the header's HASH field is that of the start of dump mode: nothing has reached a lane since (Table 8.3, R224)
    let hash := s.hashStates
    { s with trail := { s.trail with dump := s.trail.dump.map fun (d : Dump) => { d with headers := d.headers + 1, hash := hash } } }
  | 1 => { s with trail := { s.trail with dump := s.trail.dump.map fun (d : Dump) => { d with tail := true } } }
  | n + 2 =>
    match s.trail.dumpPlan.find? fun c => decide (c.1 = n) with
    | none => s
    | some c => { s with trail := { s.trail with
        dumpPlan := s.trail.dumpPlan.filter fun x => decide (x.1 ≠ n), dumpUnits := c.2 ++ s.trail.dumpUnits } }

/-- An SLC program has ended (R143, R174, R205). -/
def State.slcEnded (s : State) (die : Nat) (ok : Bool) (o : FlashOp) : State :=
  let s := (s.leaveBus die).modDie die fun d => { d.goes s.now d.afterShort with short := none }
  if !ok then
    let at_ := match s.opBlocks die o with
      | b :: _ => blockAddress die b.2 b.1
      | [] => blockAddress die 0 0
    (s.report (channelOf die) 0x24 at_ 0).slcFailed die o
  else
    let n := if o.kind = .parityProgram then (s.die die).geo.unitBlocks else 16
    -- a segment's codewords took theirs when the flush was cut
    let s := if o.kind = .trailProgram then s else (s.takeSeq n).2
    let s := (s.countUnits die n).setBlocks die (s.opBlocks die o) fun b =>
      if (s.die die).geo.wordlines ≤ b.next ∧ b.st = .open_ then { b with st := .full } else b
    match o.owner with
    | .row r w => (s.wordlineCovered r w).verifyCheck r
    | .dump k => s.dumpChunkDone k
    | _ => s

/-- SLC_PROGRAM_COMPLETE (R138, R143, R174, R205): a failed one goes to the next free block of its region. -/
def execSlcProgramComplete (die : Nat) (ok : Bool) (s : State) : Res :=
  let d := s.die die
  match d.short with
  | none => .next s
  | some o =>
    if d.st ≠ .slcProgramming ∨ (s.chan (channelOf die)).waitsFor die then .next s
    else .next ((s.slcEnded die ok o).gateReport (bayOf die))

/-! ### Erases (R144 to R146, R171) -/

/-- Every die of the group in service has the row erased: it is free again. -/
def State.rowErased (s : State) (r : RowRef) : State :=
  if s.flash.releasing.contains r && (s.group r.group).dies.all fun d =>
      (s.die d).retired || decide ((s.blockOf d 0 (s.physBlock d 0 r.row)).st = .erased) then
    let s := { s with flash := { s.flash with releasing := s.flash.releasing.filter (· ≠ r) } }
    (s.modGroup r.group fun x => { x with erases := x.erases.upd 0 r.row (· + 1) }).resumeConv
  else s

/-- A block whose erase has passed (Table 6.4): Erased with its count incremented; a substitute takes the wordlines of the
block it replaces with it (R205, step 2). -/
def Block.afterErase (b : Block) (w : Nat) : Block :=
  if b.st = .retired then b
  else if b.role = 0 then { b with st := .spare, next := 0, qlcErases := b.qlcErases + 1 }
  else if b.slc then { b with st := .erased, next := 0, reserved := false, slcErases := b.slcErases + 1 }
  else if b.subst ∧ b.next ≠ 0 then
    { b with st := if w ≤ b.next then .full else .open_, subst := false, qlcErases := b.qlcErases + 1 }
  else { b with st := .erased, next := 0, subst := false, qlcErases := b.qlcErases + 1 }

/-- Erases that the substitutes of a row's blocks on a die wait for. -/
def State.eraseSubst (s : State) (die row : Nat) : State :=
  let due := (s.rowPhys die row).zipIdx.filter fun b => (s.blockOf die b.2 b.1).subst
  if due.isEmpty ∨ (s.die die).retired then s
  else if due.length = (s.die die).geo.planes then s.enqueue die { kind := .erase, block := row }
  else s.each due fun s b => s.enqueue die { kind := .erase, plane := b.2, phys := [b.1] }

/-- An erase has failed: its plane-blocks are Retired and a spare takes the place of each. -/
def State.eraseFailed (s : State) (die : Nat) (o : FlashOp) : State :=
  let at_ := match s.opBlocks die o with
    | b :: _ => blockAddress die b.2 b.1
    | [] => blockAddress die 0 0
  let s := s.report (channelOf die) 0x25 at_ 0
  if !o.phys.isEmpty then s.each (s.opBlocks die o) fun s b =>
    let x := s.blockOf die b.2 b.1
    if x.role = 0 then s.markRetired die b.2 b.1
    else if x.slc then s.retireRegion die b.2 b.1
    else (s.retireBlock die b.2 { group := (s.die die).group, row := x.row } false).eraseSubst die x.row
  else
    let r : RowRef := { group := (s.die die).group, row := o.block }
    let s := s.retireRowDie die r false
    if (s.group r.group).gone.contains r.row then { s with flash := { s.flash with releasing := s.flash.releasing.filter (· ≠ r) } }
    else s

/-- Work that waited for erased blocks of a region goes on: parity places, flushes of the Trail. -/
def State.regionErased (s : State) : State := s.driveWaiting.programFlushes

/-- ERASE_COMPLETE (R171, Table 6.4): Erased with its count incremented, or Retired with a spare in its place. -/
def execEraseComplete (die : Nat) (ok : Bool) (s : State) : Res :=
  let d := s.die die
  match d.long with
  | none => .next s
  | some o =>
    if d.st ≠ .erasing then .next s
    else
      let s := s.modDie die fun d => { d.goes s.now .idle with long := none, suspCount := 0 }
      let s := if ok then
          let s := s.setBlocks die (s.opBlocks die o) fun b => b.afterErase (s.die die).geo.wordlines
          if o.phys.isEmpty then s.rowErased { group := d.group, row := o.block } else (s.refreshSpares d.group).regionErased
        else s.eraseFailed die o
      .next (s.gateReport (bayOf die))

/-- ERASE_SUSPEND_REQUEST (R145): MIN_PROGRESS has been reached, or the suspend is one that no limit governs. -/
def execEraseSuspendRequest (die : Nat) (s : State) : Res :=
  let d := s.die die
  if d.st ≠ .erasing then .next s
  else if s.mustSuspend die then .next (s.modDie die fun d => { d.goes s.now .suspending with forced := true })
  else if !d.shortQ.isEmpty ∧ d.suspCount < s.reg Reg.FBE_CFG_ERS_SUSP_MAX then
    .next (s.modDie die fun d => { d.goes s.now .suspending with forced := false })
  else .next s

/-- ERASE_SUSPEND_COMPLETE (R144, Table 6.4). -/
def execEraseSuspendComplete (die : Nat) (s : State) : Res :=
  let d := s.die die
  match d.long with
  | none => .next s
  | some o =>
    if d.st ≠ .suspending then .next s
    else
      let s := s.modDie die fun d => { d.goes s.now .suspended with
        holdPassed := false, suspCount := if d.forced then d.suspCount else d.suspCount + 1 }
      let s := s.setBlocks die (s.opBlocks die o) fun b => if b.st = .erasing then { b with st := .eraseSuspended } else b
      .next (s.gateReport (bayOf die))

/-- ERASE_RESUME (R144, Table 5.6): the short queue is empty, or SUSP_HOLD has passed and the short operation has
ended: the die resumes, for up to 10 µs; the next ERASE_RESUME of the die marks their end, and the erase runs again.
(DEDUCED, log entry 72.) -/
def execEraseResume (die : Nat) (holdPassed : Bool) (s : State) : Res :=
  let s := if holdPassed then s.modDie die fun d => { d with holdPassed := d.holdPassed || d.long.isSome } else s
  let d := s.die die
  match d.long with
  | none => .next s
  | some o =>
    if d.st = .resuming then
      let s := s.modDie die fun d => d.goes s.now .erasing
      .next (s.setBlocks die (s.opBlocks die o) fun b => if b.st = .eraseSuspended then { b with st := .erasing } else b)
    else if d.st = .suspended ∧ (d.shortQ.isEmpty ∨ d.holdPassed) ∧ !(s.mustSuspend die) then
      .next (s.modDie die fun d => { d.goes s.now .resuming with holdPassed := false, forced := false })
    else .next s

/-! ### Channels (R140) -/

/-- CHANNEL_RETRAIN (R140): inserted where no die of the target has an operation at the NAND. -/
def execChannelRetrain (channel target : Nat) (ok : Bool) (s : State) : Res :=
  let c := s.chan channel
  let busy := s.flash.dies.any fun d => decide (d.1 / 4 % 512 = channel * 8 + target) && d.2.st.atNand
  if c.rate ≠ 4800 ∨ busy then .next s
  else
    let s := { s with flash := { s.flash with chans := s.flash.chans.upd {} channel fun c =>
      { c with retrains := satAdd 16 c.retrains 1 } } }
    if ok then .next s
    else .next (({ s with flash := { s.flash with chans := s.flash.chans.upd {} channel fun c =>
      { c with rate := 3600, fallback := true } } } : State).report channel 0x22 channel 1)

/-! ### Predictable Latency windows (R158 to R161) -/

/-- The dies of a die set. -/
def State.diesOf (s : State) (d : Nat) : List Nat := (s.dieSet d).groups.flatMap fun g => (s.group g).dies

/-- DETERMINISTIC_WINDOW_ENTERED (R158, R160): every die has reached the state a window requires; a running erase is
suspended for the whole window. -/
def execDeterministicWindowEntered (set : Nat) (s : State) : Res :=
  match (s.dieSet set).plm.entering with
  | none => .next s
  | some (i, cid) =>
    let busy := (s.diesOf set).any fun k =>
      let d := s.die k
      d.st = .pass || d.st = .gap || (d.st = .slcProgramming && decide (d.short.map (·.kind) ≠ some .trailProgram)) ||
        d.long.any (·.kind = .qlcUnit)
    if busy then .next s
    else
      let s := s.each (s.diesOf set) fun s k =>
        match (s.die k).long with
        | some o =>
          let s := s.modDie k fun d =>
            { d.goes s.now (if d.st = .erasing ∨ d.st = .suspending ∨ d.st = .resuming then .suspended else d.st) with forced := true }
          s.setBlocks k (s.opBlocks k o) fun b => if b.st = .erasing then { b with st := .eraseSuspended } else b
        | none => s
      let s := s.takeCfg .dwindow fun idx => idx = set || idx = 0
      let units := s.writeAllow set * 256
      let s := s.modDieSet set fun x => { x with plm := { x.plm with
        deterministic := true, entering := none, winSeq := s.intake.seqNext, allowance := units } }
      .next (s.adminCqe i cid Status.success 0)

/-- DTWIN_MAX_EXPIRY (R161): the window has lasted CFG_PLM_DTWIN_MAX. -/
def execDtwinMaxExpiry (set : Nat) (s : State) : Res := .next (s.endWindow set 1)

/-! ### Pulse Gate (R163 to R165) -/

/-- The rails a Bay's comparators watch: that of VDD_CORE is disarmed below a setpoint of 0.60 V (R250). -/
def State.armedRails (s : State) (rail : Nat) : Nat := if s.power.confirmed < 600 then rail % 4 / 2 * 2 else rail % 4

/-- BROWN_OUT_DETECT (R163, R250, Table 5.14): `rail` is 1 VDD_CORE, 2 VDDQ_FL, 3 both. -/
def execBrownOutDetect (bay rail : Nat) (s : State) : Res :=
  if 8 ≤ bay ∨ s.flash.closed.contains bay ∨ s.armedRails rail = 0 then .next s
  else
    let s := s.bump Reg.FBE_PG_STATUS_EVENTS
    let cut := fun (k : Nat) (d : Die) =>
      if bayOf k = bay ∧ d.st = .erasing then { d.goes s.now .suspending with forced := true } else d
    let s := { s with flash := { s.flash with
      closed := s.flash.closed ++ [bay], gateNotice := s.flash.gateNotice ++ [(bay, s.armedRails rail)]
      dies := s.flash.dies.mapVals {} cut } }
    .next ((s.gateReport bay).lifeBreak 4)

/-- PULSE_GATE_REOPEN (R164): each held unit's gap counts as a new gap. -/
def execPulseGateReopen (bay : Nat) (s : State) : Res :=
  if !(s.flash.closed.contains bay) then .next s
  else
    let anew := fun (k : Nat) (d : Die) =>
      if bayOf k = bay ∧ d.long.any (fun o => o.kind = .qlcUnit) ∧ d.st ≠ .pass then
        { d with gapReads := 0, gapLimit := s.reg Reg.FBE_CFG_GAP_READS } else d
    .next { s with flash := { s.flash with closed := s.flash.closed.erase bay, dies := s.flash.dies.mapVals {} anew } }

end Sys2Proof.Machine
end

