-- ==== Sys2Proof/Machine/OpsForm.lean ====
section
/-! DEFINITION. Stripe groups formed from the dies (R34, R35, R141, R169). -/

namespace Sys2Proof.Machine

/-- The dies fitted on a channel in discovery order: target-major, which is the order of their names (R34). A die that
fails discovery keeps its position. (DEDUCED, log entry 41.) -/
def State.channelDies (s : State) (c : Nat) : List Nat :=
  (s.flash.dies.filter fun d => decide (channelOf d.1 = c) && (d.2.fitted || d.2.present || d.2.listed)).map (·.1)

/-- The 16 channels of a stripe group's channel set, ascending (R34). -/
def groupChannels (g : Nat) : List Nat := (List.range 16).map fun k => 8 * (k / 2) + g % 4 + 4 * (k % 2)

/-- Zone rows of a group: the image's value, or 92.5 % of the rows in steps of 256 (R169). -/
def State.zoneRowsFor (s : State) (g : Geometry) : Nat :=
  (s.cfgNamed Cfg.MEDIA_ZONE_ROWS 0).getD (925 * g.blocksPerPlane / 256000 * 256)

/-- A die leaves the pool and the dump area for its group: parity it held gets other places (R184), its blocks take the
roles of their rows. (DEDUCED, log entry 41.) -/
def State.joinGroup (s : State) (g die : Nat) : State :=
  let s := s.each (s.flash.rows.filter fun x => x.2.pool.any fun p => decide (p.1 = die)) fun s x =>
    s.each (x.2.pool.zipIdx.filter fun p => decide (p.1.1 = die)) fun s p => s.losePlace (rowOfKey x.1) p.2
  let s := s.modDie die fun y => { y with listed := true, inGroup := true, group := g, shortQ := [], longQ := [] }
  let used := s.flash.blocks.filter fun b => decide (b.1 / 32768 = die) && b.2.st ≠ .retired
  s.each used fun s b => s.setBlock die (b.1 / 4096 % 8) (b.1 % 4096) fun x =>
    { s.placed die (b.1 % 4096) with qlcErases := x.qlcErases, slcErases := x.slcErases }

/-- A stripe group is formed from its 16 dies (R35, R169). -/
def State.formGroup (s : State) (g : Nat) (ds : List Nat) (geo : Geometry) : State :=
  let rows := s.zoneRowsFor geo
  let blanket := s.cfgOf Cfg.MEDIA_ROWS_BLANKET
  let trail := s.cfgOf Cfg.MEDIA_ROWS_TRAIL
  let x : Group := { s.group g with
    formed := true, geo := geo, dies := ds, zoneRows := rows, poolRows := blanket, trailRows := trail
    spareBase := geo.blocksPerPlane - rows - blanket - 2 - trail - 4 }
  let s := s.modGroup g fun _ => x
  let s := (s.each ds fun s d => s.joinGroup g d).refreshSpares g
  (s.modGroup g fun y => { y with spareAtForm := y.spareRows }).driveWaiting

/-- Forms every group whose 16 positions hold dies that passed discovery and share one geometry; dies not on the list
only with `all` (R141). (DEDUCED, log entry 41.) -/
def State.formGroups (s : State) (all : Bool) : State :=
  let chans := (List.range 64).map s.channelDies
  let most := (chans.map List.length).foldl max 0
  s.each (List.range (4 * most)) fun s g =>
    let ds := (groupChannels g).filterMap fun c => (chans.getD c [])[g / 4]?
    let geo := (s.die (ds.headD 0)).geo
    if (s.group g).formed ∨ ds.length < 16 ∨ !(ds.all fun d =>
        (s.die d).present && !(s.die d).retired && !(s.die d).inGroup && (all || (s.die d).listed) && (s.die d).geo = geo) then s
    else s.formGroup g ds geo

end Sys2Proof.Machine
end

