-- ==== Sys2Proof/Machine/Namespaces.lean ====
section
/-!
DEFINITION. Meanings of the rows of namespaces and zones: row release, zone ages, Namespace Management, Format,
Sanitize, Capacity Management, attachment, and the features of namespaces and NVM Sets (spec/02_zones_and_placement.md,
spec/05_flash_back_end.md R157 to R161, spec/06_media_management.md R189, spec/12_pcie_attachment.md R360 to R362).
-/

namespace Sys2Proof

/-- The Key Per I/O attribute goes with the modes that allow it (Table 9.2). -/
def kpioAllowed (m : Machine.EncMode) : Bool := m ≠ .sealed_

end Sys2Proof

namespace Sys2Proof.Machine

/-! ### Rows and ages -/

/-- An admitted read that must see a row as it was is in flight (R51, R131). -/
def State.readsBefore (s : State) (w : RelWait) : Bool :=
  s.intake.tags.any fun t =>
    t.2.stage = .inFlight && t.2.cmd.opc = .read && decide (t.2.cmd.nsid = w.nsid) && decide (t.2.seq < w.seq) &&
      decide (t.2.cmd.slba ≤ w.hi) && decide (w.lo < t.2.cmd.slba + t.2.cmd.nlb)

/-- ZONE_ROW_RELEASE (R45, R51, R115, R131, R172, R230): a walk slot is free and its walk finds no earlier read, and reads of
the whole row have returned; the row goes to erase once the record of its release is durable. -/
def execZoneRowRelease (group row : Nat) (s : State) : Res :=
  match s.flash.relWaits.find? fun w => decide (w.row = { group := group, row := row }) with
  | none => .next s
  | some w =>
    if s.readsBefore w ∨ s.programsBefore w.row ∨ s.scanning w.row ∨ 64 ≤ s.sieve.walks.length then .next s
    else
      let s := ((s.withdrawRow w.row).releaseParity w.row).modRow w.row fun _ => {}
      let s := s.each ((s.group group).dies.filter fun d => !(s.die d).retired) fun s d =>
        s.rowBlocks d row fun b => if b.st = .retired then b else { b with st := .dirty, subst := false }
      -- a block that has failed verify in two uses in a row is retired now that its data has moved (Table 6.11)
      let s := s.each (s.group group).dies fun s d => s.each (List.range (s.die d).geo.planes) fun s p =>
        if (s.blockOf d p (s.physBlock d p row)).retireDue then s.retireBlock d p w.row false else s
      let s := { s with flash := { s.flash with
        relWaits := s.flash.relWaits.erase w, releasing := s.flash.releasing ++ [w.row] } }
      .next (s.trailRec (.rowRelease group row (s.group group).geo.planes))

/-- An age limit in 10 ms rounds. -/
def roundsOf (hours : Nat) : Nat := hours * 360000

/-- Finish Zone Recommended is set and reported (R55, R56). -/
def State.recommendFinish (s : State) (nsid z : Nat) : State :=
  if (s.zoneAt nsid z).fzr then s else (s.modZone nsid z fun x => { x with fzr := true }).zoneChanged nsid z

/-- ZONE_FZR_AGE_REACHED (R55). -/
def execZoneFzrAgeReached (nsid zone : Nat) (s : State) : Res :=
  if !(s.zoneAt nsid zone).st.isActive then .next s
  else
    let s := s.modZone nsid zone fun x => { x with age := max x.age (roundsOf (s.cfgOf Cfg.ZONE_FZR_AGE)) }
    .next (s.recommendFinish nsid zone)

/-- ZONE_FINISH_AGE_REACHED (R52, R55). -/
def execZoneFinishAgeReached (nsid zone : Nat) (s : State) : Res :=
  if !(s.zoneAt nsid zone).st.isActive then .next s
  else
    let s := s.modZone nsid zone fun x => { x with age := max x.age (roundsOf (s.cfgOf Cfg.ZONE_FINISH_AGE)) }
    .next (s.controllerFinish nsid zone)

/-! ### Create -/

/-- The die set a create names: 0 names the lowest-numbered one (R32). -/
def State.namedSet (s : State) (set : Nat) : Option Nat :=
  if set = 0 then (s.zone.dieSets.find? fun d => !d.2.groups.isEmpty).map (·.1)
  else if (s.dieSet set).groups.isEmpty then none else some set

/-- Rows of a die set that conventional namespaces hold. -/
def State.convRows (s : State) (d : Nat) : Nat :=
  Tab.sum (fun _ n => if n.exists_ ∧ !n.zoned ∧ n.dieSet = d then n.rows.length else 0) s.zone.nss

/-- Zones a die set offers (R38, R41, R58): withdrawn groups' rows are not in service. -/
def State.zonesOffered (s : State) (d : Nat) : Nat :=
  let rows := ((s.dieSet d).groups.map fun g => if (s.group g).withdrawn then 0 else (s.group g).zoneRows).sum - s.convRows d
  if (s.dieSet d).kept then rows * 15 / 16 else rows

/-- Zones of the die set's zoned namespaces. -/
def State.zonesMade (s : State) (d : Nat) : Nat :=
  Tab.sum (fun _ n => if n.exists_ ∧ n.zoned ∧ n.dieSet = d then n.size / zoneBlocks else 0) s.zone.nss

/-- ZCAP in a die set: that of its smallest geometry (R40). -/
def State.zcapIn (s : State) (d : Nat) : Nat :=
  match (s.dieSet d).groups.map fun g => zcapOf (s.group g).geo with
  | [] => 0
  | x :: t => t.foldl min x

/-- A geometry of the die set is too large for zones (R40). -/
def State.tooLarge (s : State) (d : Nat) : Bool :=
  (s.dieSet d).groups.any fun g => decide (zoneBlocks < 16 * (s.group g).geo.wordlines * (s.group g).geo.unitBlocks)

/-- Bytes of all conventional namespaces. -/
def State.convBytes (s : State) : Nat :=
  Tab.sum (fun _ n => if n.exists_ ∧ !n.zoned then n.size * 4096 else 0) s.zone.nss

/-- Takes rows for a conventional namespace one at a time until they hold 8/7 of `need` blocks (R59); none when the die
set has too few. The last argument bounds the rows. -/
def State.takeRows (s : State) (nsid d need : Nat) (have_ : Nat) : Nat → Option State
  | 0 => if need * 8 ≤ have_ * 7 then some s else none
  | n + 1 =>
    if need * 8 ≤ have_ * 7 then some s
    else match s.place d with
      | none => none
      | some r =>
        let g := (s.group r.group).geo
        (s.bindRow r nsid none).takeRows nsid d need (have_ + 16 * g.wordlines * g.unitBlocks) n

/-- The mode a create gives (R269): the manager's choice for it, else the image's default. -/
def State.createMode (s : State) (kpio : Bool) : EncMode :=
  if kpio then .keyPerIo
  else match s.zone.nextMode with
    | some m => m
    | none => match s.cfgOf Cfg.GLZ_NS_MODE_DEFAULT with
      | 0 => .clear
      | 2 => .sealed_
      | _ => .xts

/-- The lowest NSID that no namespace holds. -/
def State.freeNsid (s : State) : Option Nat :=
  firstFrom (fun n => n ≤ 1024 && !(s.ns n).exists_) 1 (s.zone.nss.length + 1)

/-- The placement rules of a new namespace (R60, R132), inserted behind the rules there are, each in its turn (R121). -/
def State.addHandles (s : State) (nsid : Nat) (handles : List Nat) : State :=
  s.finishShifts.each handles.zipIdx fun s h =>
    let e : Ent := { lo := h.2, hi := h.2, scope := scopePlacement nsid, prio := 0x80, payload := h.1, valid := true }
    (s.queueRule { op := .insert, pos := s.rules.length, ent := e, access := false }).finishShifts

/-- Gives a namespace its global range: with an MEK in XTS and Sealed mode. -/
def State.firstRange (s : State) (nsid size : Nat) : State :=
  let x : LockRange := { exists_ := true, lo := 0, hi := size - 1 }
  match (s.ns nsid).mode with
  | .xts => s.createRange nsid 0 (s.freeSlot.getD 0) 0 x
  | .sealed_ => s.createRange nsid 0 (s.freeSlot.getD 0) 0 x
  | _ => (s.modRange nsid 0 fun _ => x).storeKeys

/-- NAMESPACE_MANAGEMENT_CREATE (R32, R33, R40, R41, R59, R60, R269, R292): `size` counts zones of a zoned namespace and
blocks of a conventional one; `set` is the NVM Set identifier; `handles` the reclaim unit handles.
(DEDUCED, log entry 80.) -/
def execNamespaceManagementCreate (inst cid : Nat) (zoned kpio : Bool) (set size lbaf : Nat) (pi : PiFormat) (handles : List Nat)
    (s : State) : Res :=
  s.managerDo inst cid fun s =>
    let mode := s.createMode kpio
    match s.namedSet set with
    | none => refusedWith Status.invalidField s
    | some d =>
      let ruh := s.cfgOf Cfg.FDP_RUH_COUNT
      if !(formatOk lbaf pi) ∨ size = 0 ∨ (kpio ∧ (s.zone.nextMode.map kpioAllowed) = some false) ∨
          (zoned ∧ (s.tooLarge d ∨ !handles.isEmpty)) ∨ ruh < handles.length ∨ handles.any (fun h => decide (ruh ≤ h)) then
        refusedWith Status.invalidField s
      else match s.freeNsid with
        | none => refusedWith Status.nsIdUnavailable s
        | some nsid =>
          let keyed := mode = .xts || mode = .sealed_
          if keyed ∧ s.glaze.drbgFail then refusedWith Status.internalError s
          else if keyed ∧ s.freeSlot.isNone then refusedWith Status.nsInsufficientCapacity s
          else if s.ruleRoom < s.rulesAfter + (if !zoned ∧ (s.dieSet d).fdp then max 1 handles.length else 0) then
            refusedWith Status.nsInsufficientCapacity s
          else if (zoned ∧ s.zonesOffered d < s.zonesMade d + size) ∨
              (!zoned ∧ 2000000000000 < s.convBytes + size * 4096) then
            refusedWith Status.nsInsufficientCapacity s
          else
            let n : Ns := {
              exists_ := true, zoned := zoned, dieSet := d, lbaf := lbaf, pi := pi,
              size := if zoned then size * zoneBlocks else size, zcap := if zoned then s.zcapIn d else 0, mode := mode,
              handles := if !zoned ∧ (s.dieSet d).fdp then (if handles.isEmpty then [0] else handles) else [] }
            let made := s.modNs nsid fun _ => n
            match if zoned then some made else made.takeRows nsid d size 0 (size / 65536 + 2) with
            | none => refusedWith Status.nsInsufficientCapacity s
            | some t =>
              if !zoned ∧ t.zonesOffered d < t.zonesMade d then refusedWith Status.nsInsufficientCapacity s
              else
                let t := { t with zone := { t.zone with nextMode := none } }
                let s := (t.firstRange nsid n.size).addHandles nsid n.handles
                (Status.success, nsid, s.trailRec (.settings 1 nsid))

/-! ### Delete, Format, Sanitize: they wait until the namespace is idle (R77) -/

/-- A command to the namespace is in flight. -/
def State.nsBusy (s : State) (nsid : Nat) : Bool :=
  s.intake.tags.any fun t => (t.2.stage = .inFlight || t.2.stage = .posting) &&
    (decide (t.2.cmd.nsid = nsid) || (t.2.cmd.opc = .flush && decide (t.2.cmd.nsid = 0xFFFFFFFF)))

/-- Drops the writes of a namespace that have not been programmed. -/
def State.dropExpos (s : State) (nsid : Nat) : State :=
  let mine := s.trail.expos.filter fun e => decide (e.nsid = nsid)
  let s := { s with trail := { s.trail with expos := s.trail.expos.filter fun e => !(decide (e.nsid = nsid)) } }
  s.each mine fun s e => (s.releaseUnits ((e.left ++ e.ready ++ e.parked).map (·.unit))).dropEntriesOf e.seq

/-- Abandons the relocations of a namespace: their target rows are released. -/
def State.dropRelocs (s : State) (nsid : Nat) : State :=
  let d := (s.ns nsid).dieSet
  let mine := (s.dieSet d).relocs.filter fun r => decide (r.nsid = nsid)
  let s := s.modDieSet d fun x => { x with
    relocs := x.relocs.filter fun r => !(decide (r.nsid = nsid))
    retryRows := x.retryRows.filter fun r => !(decide (r.1 = nsid))
    retryZones := x.retryZones.filter fun r => !(decide (r.nsid = nsid)) }
  s.each mine fun s r => (s.releaseParity r.target).releaseRow r.target nsid 0 0 0

/-- Empties a namespace: its zones, but for Read Only and Offline ones, go to ZSE, its rows to erase, its blocks are
gone. -/
def State.emptyNs (s : State) (nsid : Nat) : State :=
  let seq := s.intake.seqNext
  let s := s.dropExpos nsid
  let s := s.each ((s.ns nsid).zones.map (·.1)) fun s z =>
    let st := (s.zoneAt nsid z).st
    if st = .zsro ∨ st = .zso then s else s.resetZone nsid z seq
  let used := (s.ns nsid).rows.filter fun r => decide ((s.rowRec r).issued ≠ 0) && !(s.flash.relWaits.any fun w => decide (w.row = r))
  let s := s.each used fun s r => ((s.withdrawRow r).releaseParity r).recycleRow r nsid 0
  s.modNs nsid fun n => { n with
    map := n.map.keep fun lba _ => n.zoned && ((n.zones.get {} (lba / zoneBlocks)).st = .zsro || (n.zones.get {} (lba / zoneBlocks)).st = .zso)
    opens := [], relRow := none, relNext := 0 }

/-- Removes a namespace with all it holds. -/
def State.removeNs (s : State) (nsid : Nat) : State :=
  let n := s.ns nsid
  let s := (s.dropRelocs nsid).emptyNs nsid
  let rows := (n.zones.map fun z => z.2.row).filterMap id
  let s := s.each (n.rows ++ rows) fun s r =>
    if (s.group r.group).bound.contains r.row then (s.releaseParity r).releaseRow r nsid 0 0 0 else s
  let s := (s.dropRules fun e => e.scope = scopePlacement nsid).2
  let s := (s.dropKeys nsid).modNs nsid fun _ => {}
  let s := { s with zone := { s.zone with changed := s.zone.changed.keep fun k _ => decide (k % 2048 ≠ nsid) } }
  s.trailRec (.settings 1 nsid)

/-- NAMESPACE_MANAGEMENT_DELETE (R77): with NSID 0xFFFFFFFF, every namespace. The row stands for the command until it
completes: given again once the namespaces are idle, it ends. -/
def execNamespaceManagementDelete (inst cid nsid : Nat) (s : State) : Res :=
  let key := [0x0D, nsid]
  s.adminWaiting inst cid key fun s =>
    let all := (s.zone.nss.filter fun n => n.2.exists_).map (·.1)
    let mine := if nsid = 0xFFFFFFFF then all else [nsid]
    if inst ≠ 0 then s.adminCqe inst cid Status.invalidOpcode 0
    else if nsid ≠ 0xFFFFFFFF ∧ !(s.ns nsid).exists_ then s.adminCqe inst cid Status.invalidNamespace 0
    else if mine.any s.nsBusy then s.closeFor inst cid key mine
    else (s.each mine fun s n => s.removeNs n).adminCqe inst cid Status.success 0

/-- FORMAT_NVM (R33, R77, R291, Table 9.2): `ses` 2 is a crypto erase. (DEDUCED, log entry 78.)
(DEDUCED, log entry 80.) -/
def execFormatNvm (inst cid nsid lbaf : Nat) (pi : PiFormat) (ses : Nat) (s : State) : Res :=
  let key := [0x80, nsid, lbaf, pi.kind, b2n pi.guard64 + 2 * b2n pi.first, ses]
  s.adminWaiting inst cid key fun s =>
    let n := s.ns nsid
    let crypto := ses = 2
    if inst ≠ 0 then s.adminCqe inst cid Status.invalidOpcode 0
    else if !n.exists_ then s.adminCqe inst cid Status.invalidNamespace 0
    else if !(formatOk lbaf pi) ∨ 2 < ses ∨ (crypto ∧ (n.mode = .clear ∨ n.mode = .keyPerIo)) then
      s.adminCqe inst cid Status.invalidField 0
    else if crypto ∧ s.glaze.drbgFail then s.adminCqe inst cid Status.internalError 0
    else if s.nsBusy nsid then s.closeFor inst cid key [nsid]
    else
      let s := s.emptyNs nsid
      let s := if crypto then s.each (s.rangesIn nsid) fun s r => s.cryptoErase nsid r else s
      let s := s.modNs nsid fun x => { x with lbaf := lbaf, pi := pi, closing := false }
      (s.trailRec (.settings 1 nsid)).adminCqe inst cid Status.success 0

/-- SANITIZE_CRYPTO_ERASE (R77, R291, R292): every range of every namespace; a Clear namespace cannot be crypto-erased
(Table 9.2). (DEDUCED, log entry 78.) -/
def execSanitizeCryptoErase (inst cid : Nat) (s : State) : Res :=
  let key := [0x84, 4]
  s.adminWaiting inst cid key fun s =>
    let all := (s.zone.nss.filter fun n => n.2.exists_).map (·.1)
    if inst ≠ 0 then s.adminCqe inst cid Status.invalidOpcode 0
    else if all.any fun n => (s.ns n).mode = .clear then s.adminCqe inst cid Status.invalidField 0
    else if s.glaze.drbgFail then s.adminCqe inst cid Status.internalError 0
    else if all.any s.nsBusy then s.closeFor inst cid key all
    else
      let s := s.each all fun s n =>
        let s := if (s.ns n).mode = .keyPerIo then s else s.each (s.rangesIn n) fun s r => s.cryptoErase n r
        s.modNs n fun x => { x with closing := false }
      s.adminCqe inst cid Status.success 0

/-! ### Die sets (R36 to R38, R53) -/

/-- The die set a configuration gives a stripe group: CFG_CAPCFG holds eight bits for each group; a configuration 0
of zero is one die set of all groups (PRESUMED, log entry 21). -/
def setOfGroup (config value g : Nat) : Nat := if config = 0 ∧ value = 0 then 1 else bits value (8 * g) 8

/-- The groups each die set of a configuration holds. (PRESUMED, log entry 21.) -/
def State.planOf (s : State) (config : Nat) : List (Nat × List Nat) :=
  let v := s.cfgAt Cfg.CAPCFG config
  let formed := (s.zone.groups.filter fun g => g.2.formed).map (·.1)
  ((List.range' 1 128).map fun d => (d, formed.filter fun g => setOfGroup config v g = d)).filter fun x => !x.2.isEmpty

/-- Forms the die sets of a configuration: one that does not change keeps its record. (DEDUCED, log entry 41.) -/
def State.formSets (s : State) (config : Nat) : State :=
  let plan := s.planOf config
  let opens := budgets (s.cfgNamed Cfg.DS_OPEN_BUDGET) 1024 plan
  let actives := budgets (s.cfgNamed Cfg.DS_ACTIVE_BUDGET) 4096 plan
  let s := { s with zone := { s.zone with
    capConfig := config, dieSets := s.zone.dieSets.keep fun d x => plan.contains (d, x.groups) } }
  plan.foldl (fun s p =>
    let d := p.1
    let gs := p.2
    let s := s.setRemainders gs
    let spare := (gs.map fun g => (s.group g).spareRows).sum
    s.modDieSet d fun x =>
      let x := if x.groups = gs then x
        else { groups := gs, kept := s.cfgAt Cfg.DS_KEPT_BLANKET d = 1, spareAtForm := spare }
      { x with
        openBudget := (opens.find? fun y => decide (y.1 = d)).map (·.2) |>.getD 0
        activeBudget := (actives.find? fun y => decide (y.1 = d)).map (·.2) |>.getD 0 }) s

/-- CAPACITY_MANAGEMENT_SELECT (R37). -/
def execCapacityManagementSelect (inst cid config : Nat) (s : State) : Res :=
  s.managerDo inst cid fun s =>
    let old := s
    -- a die that is not on the list is used once a selection includes it (R141)
    let s := s.formGroups true
    let plan := s.planOf config
    if 16 ≤ config ∨ plan.isEmpty then refusedWith Status.invalidField old
    else if s.zone.nss.any fun n => n.2.exists_ && !(plan.contains (n.2.dieSet, (s.dieSet n.2.dieSet).groups)) then
      refusedWith Status.sequenceError old
    else succeeded ((s.formSets config).trailRec (.settings 2 config))

/-! ### Attachment (R368, R369) -/

/-- NAMESPACE_ATTACHMENT: a detach waits for the instances' commands to the namespace, and its row is given again. -/
def execNamespaceAttachment (inst cid nsid : Nat) (attach : Bool) (targets : List Nat) (s : State) : Res :=
  let key := [0x15, nsid] ++ targets
  s.adminWaiting inst cid key fun s =>
    let n := s.ns nsid
    if inst ≠ 0 then s.adminCqe inst cid Status.invalidOpcode 0
    else if !n.exists_ then s.adminCqe inst cid Status.invalidNamespace 0
    else if targets.isEmpty ∨ targets.any (fun i => decide (511 < i)) then s.adminCqe inst cid Status.ctrlListInvalid 0
    else if attach then
      if targets.any fun i => !((s.inst i).dieSets.contains n.dieSet) then s.adminCqe inst cid Status.ctrlListInvalid 0
      else if targets.any n.attached.contains then s.adminCqe inst cid Status.nsAlreadyAttached 0
      else ((s.modNs nsid fun x => { x with attached := x.attached ++ targets }).trailRec (.settings 1 nsid)).adminCqe
        inst cid Status.success 0
    else if targets.any fun i => !(n.attached.contains i) then s.adminCqe inst cid Status.nsNotAttached 0
    else if s.intake.tags.any fun t => t.2.stage = .inFlight && decide (t.2.cmd.nsid = nsid) && targets.contains t.2.inst then
      s.keepWaiting inst cid key []
    else
      let s := s.modNs nsid fun x => { x with attached := x.attached.filter fun i => !(targets.contains i) }
      let s := { s with zone := { s.zone with changed := s.zone.changed.keep fun k _ =>
        !(decide (k % 2048 = nsid) && targets.contains (k / 2048)) } }
      (s.trailRec (.settings 1 nsid)).adminCqe inst cid Status.success 0

/-! ### Identify, Get Features, changed zones -/

/-- Power state descriptors (Table 15.2): MP in mW, ENLAT and EXLAT in µs, the relative throughputs and latencies, NOPS. -/
def powerStates : List Nat :=
  [58000, 0, 0, 0, 0] ++ [40000, 0, 0, 1, 0] ++ [25000, 0, 0, 2, 0] ++ [3500, 15000, 2000, 3, 1] ++ [900, 16000, 15000, 4, 1]

/-- Queue and interrupt resources an instance's vectors hold (R347, R368). -/
def State.vqUsed (s : State) : Nat := Tab.sum (fun i x => if s.isPf i then 0 else x.vq) s.tenant.insts
def State.viUsed (s : State) : Nat := Tab.sum (fun i x => if s.isPf i then 0 else x.vi) s.tenant.insts

/-- Command sets of Identify: 0x00 namespace, 0x01 controller, 0x02 attached namespaces, 0x05 zoned namespace,
0x14 primary controller capabilities, 0x15 secondary controllers. -/
def State.identifyData (s : State) (inst cns nsid : Nat) : Option (List Nat) :=
  let n := s.ns nsid
  match cns with
  | 0x00 =>
    -- NSFEAT bit 1, NAWUN, NAWUPF, NACWU, NABSN, NABO, NABSPF (R98), DLFEAT (R84)
    some (if n.exists_ then [n.size, n.size, n.lbaf, n.pi.kind, b2n n.pi.guard64, b2n n.pi.first, n.dieSet, b2n n.zoned,
      n.attached.length, 2, 511, 63, 0, 0, 0, 0, b2n (!n.zoned)] else [])
  | 0x01 => some ([inst, 1024, 9, 8, 15, s.cfgOf Cfg.CONE_NAND_THROTTLE + 273, s.cfgOf Cfg.CONE_NAND_THROTTLE + 283,
    -- AWUN, AWUPF, ACWU (R98); RTD3E, VWC, FRMW, FWUG, MTFA, NPSS, the power states
    511, 63, 0, 2000000, 6, 0x14, 1, s.boot.mtfa, 4] ++ powerStates)
  | 0x02 => some ((s.zone.nss.filter fun n => n.2.exists_ && n.2.attached.contains inst).map (·.1))
  | 0x05 =>
    if !n.exists_ ∨ !n.zoned then none
    else some [zoneBlocks, n.zcap, (s.dieSet n.dieSet).openBudget - 1, (s.dieSet n.dieSet).activeBudget - 1,
      s.cfgOf Cfg.ZONE_FZR_AGE * 3600, 1]
  | 0x14 => if s.isPf inst then some [inst, 7680, s.vqUsed, 4096, s.viUsed] else none
  | 0x15 =>
    if inst ≠ 0 then none
    else some (((s.tenant.insts.filter fun i => !(s.isPf i.1)).map fun i =>
      [i.1, b2n (decide (i.2.st ≠ .offline)), i.2.vq, i.2.vi]).flatMap id)
  | _ => none

/-- IDENTIFY (R32, R39, R53, R55). -/
def execIdentify (inst cid cns nsid : Nat) (s : State) : Res :=
  s.adminDo inst cid fun s =>
    match s.identifyData inst cns nsid with
    | none => refusedWith Status.invalidField s
    | some d => succeeded (s.reply inst 0 cid d)

/-- The value of a feature, as Dword 0 gives it. -/
def State.featureOf (s : State) (inst fid nsid : Nat) : Option Nat :=
  let x := s.inst inst
  match fid with
  | 0x01 => some x.arbitration
  | 0x02 => some x.powerFeature
  -- the over threshold of the sensor that `nsid` selects
  | 0x04 => if nsid ≤ 2 then some ((x.overTemp.get none nsid).getD (s.cfgOf Cfg.CONE_NAND_THROTTLE + 273)) else none
  | 0x07 => some ((x.vq - 1) * 65537)
  | 0x08 => some x.coalescing
  | 0x0B => some x.asyncConfig
  | 0x0C => some (b2n x.apstOn)
  | 0x0E => some s.hostTime
  | 0x13 => some (b2n (s.dieSet nsid).plm.enabled)
  | 0x14 => some (if (s.dieSet nsid).plm.deterministic then 1 else 2)
  | 0x1D => some (b2n (s.dieSet nsid).fdp)
  | 0x1E => some (s.dieSet (s.ns nsid).dieSet).fdpEvents
  | 0x81 => some x.hostId
  | 0x82 => some (x.resMask.get 0 nsid)
  | 0x83 => some (b2n (s.ns nsid).ptpl)
  | _ => none

/-- GET_FEATURES (R106): `nsid` names the namespace, or the NVM Set of features 0x13, 0x14 and 0x1D. -/
def execGetFeatures (inst cid fid nsid : Nat) (s : State) : Res :=
  s.adminDo inst cid fun s =>
    match s.featureOf inst fid nsid with
    | none => refusedWith Status.invalidField s
    | some v => (Status.success, v, s)

/-- Log 0xBF (R56): its status, its data, and the state in which the reading instance's list alone is cleared. -/
def State.changedZonePage (s : State) (inst nsid : Nat) : Nat × List Nat × State :=
  if !((s.ns nsid).exists_ && (s.ns nsid).attached.contains inst) then (Status.invalidNamespace, [], s)
  else
    let k := inst * 2048 + nsid
    let c := s.zone.changed.get {} k
    (Status.success, if c.overflow then [0xFFFF] else c.zones.length :: c.zones.map (· * zoneBlocks),
      { s with zone := { s.zone with changed := s.zone.changed.set {} k {} } })

/-- GET_LOG_CHANGED_ZONE_LIST (R56). -/
def execGetLogChangedZoneList (inst cid nsid : Nat) (s : State) : Res :=
  s.adminDo inst cid fun s =>
    let r := s.changedZonePage inst nsid
    if r.1 ≠ Status.success then refusedWith r.1 s
    else succeeded ((r.2.2.reply inst 0 cid r.2.1).unmask inst Ev.notice)

/-! ### Predictable Latency (R157 to R161, R369) -/

/-- NDWIN Time Minimum Low in ms (Table 5.13). -/
def State.ndMinimum (s : State) (d : Nat) : Nat :=
  ceilDiv (s.writeAllow d * 1048576) (max 1 (s.dieSet d).groups.length * 718000) + 100

/-- Ends a window, or a wait for one, at the host's word: held work is released, and a command that still waits for the
window ends with Command Abort Requested (DESIGN CHOICE, log entry 105). -/
def State.leaveWindow (s : State) (d : Nat) : State :=
  let x := s.dieSet d
  let s := match x.plm.entering with
    | some (i, c) => s.adminCqe i c Status.abortRequested 0
    | none => s
  let s := s.modDieSet d fun x => { x with plm := { x.plm with deterministic := false, entering := none, ndRounds := 0 } }
  s.each (x.groups.flatMap fun g => (s.group g).dies) fun s k => s.modDie k fun y => { y with forced := false }

/-- SET_FEATURES_PLM_CONFIG (R157, R369). -/
def execSetFeaturesPlmConfig (inst cid set : Nat) (enable : Bool) (events : Nat) (s : State) : Res :=
  s.adminDo inst cid fun s =>
    let x := s.dieSet set
    if x.groups.isEmpty ∨ !(s.controlsSet inst set) ∨
        (enable ∧ (x.groups.flatMap fun g => (s.group g).dies).any fun k => !(s.die k).plmOk) then
      refusedWith Status.invalidField s
    else
      let s := s.leaveWindow set
      succeeded (s.modDieSet set fun x => { x with plm := { x.plm with enabled := enable, events := events } })

/-- SET_FEATURES_PLM_WINDOW (R157, R160, R161, R369): a deterministic window completes when the dies are ready. A second
request for one while the first waits ends with Command Sequence Error (DESIGN CHOICE, log entry 105). -/
def execSetFeaturesPlmWindow (inst cid set : Nat) (deterministic : Bool) (s : State) : Res :=
  s.admin inst cid fun s =>
    let p := (s.dieSet set).plm
    if (s.dieSet set).groups.isEmpty ∨ !(s.controlsSet inst set) then s.adminCqe inst cid Status.invalidField 0
    else if !p.enabled then s.adminCqe inst cid Status.sequenceError 0
    else if !deterministic then (s.leaveWindow set).adminCqe inst cid Status.success 0
    else if p.deterministic then s.adminCqe inst cid Status.success 0
    else if p.entering.isSome ∨ p.ndRounds * 10 < s.ndMinimum set then s.adminCqe inst cid Status.sequenceError 0
    else (s.modDieSet set fun x => { x with plm := { x.plm with entering := some (inst, cid) } }).keepWaiting inst cid [0x09, set] []

/-! ### Flexible Data Placement (R60, R61) -/

/-- SET_FEATURES_FDP: not while a namespace exists in the Endurance Group. -/
def execSetFeaturesFdp (inst cid set : Nat) (enable : Bool) (s : State) : Res :=
  s.managerDo inst cid fun s =>
    if (s.dieSet set).groups.isEmpty then refusedWith Status.invalidField s
    else if s.zone.nss.any fun n => n.2.exists_ && decide (n.2.dieSet = set) then refusedWith Status.sequenceError s
    else succeeded ((s.modDieSet set fun x => { x with fdp := enable }).trailRec (.settings 3 set))

/-- SET_FEATURES_FDP_EVENTS: the event types recorded for the namespace's Endurance Group. -/
def execSetFeaturesFdpEvents (inst cid nsid mask : Nat) (s : State) : Res :=
  s.adminDo inst cid fun s =>
    let n := s.ns nsid
    if !(n.exists_ && n.attached.contains inst) then refusedWith Status.invalidNamespace s
    else if !(s.dieSet n.dieSet).fdp then refusedWith Status.invalidField s
    else succeeded (s.modDieSet n.dieSet fun x => { x with fdpEvents := mask })

/-! ### Hosts and reservations (R360, R362) -/

/-- SET_FEATURES_HOST_IDENTIFIER: instances that report one identifier are one host. -/
def execSetFeaturesHostIdentifier (inst cid id : Nat) (s : State) : Res :=
  s.adminDo inst cid fun s => succeeded (s.modInst inst fun x => { x with hostId := id })

/-- SET_FEATURES_RESERVATION: 0x82 sets the notification mask, 0x83 Persist Through Power Loss. -/
def execSetFeaturesReservation (inst cid fid nsid value : Nat) (s : State) : Res :=
  s.adminDo inst cid fun s =>
    if !((s.ns nsid).exists_ && (s.ns nsid).attached.contains inst) then refusedWith Status.invalidNamespace s
    else if fid = 0x82 then succeeded (s.modInst inst fun x => { x with resMask := x.resMask.set 0 nsid value })
    else if fid = 0x83 then
      succeeded ((s.modNs nsid fun n => { n with ptpl := decide (value % 2 = 1) }).trailRec (.settings 1 nsid))
    else refusedWith Status.invalidField s

/-! ### Timestamp (R189) -/

/-- Adds an off interval in ms to the Firing Index counters and the zone ages (R55, R189). -/
def State.addOffTime (s : State) (ms : Nat) : State :=
  let inc := af256 (s.cfgOf Cfg.MEDIA_FI_EA) (2 * s.cfgOf Cfg.MEDIA_FI_OFF_TEMP + 80)
  let s := { s with zone := { s.zone with groups := s.zone.groups.mapVals {} fun _ g =>
    if g.formed then { g with fi := (g.fi + inc * (ms / 1000)) % 2 ^ 64 } else g } }
  { s with zone := { s.zone with nss := s.zone.nss.mapVals {} fun _ n =>
    { n with zones := n.zones.mapVals {} fun _ z => if z.st.isActive then { z with age := z.age + ms / 10 } else z } } }

/-- The off interval cannot be computed (R189): nothing is added, a Warning is written. -/
def State.offUnknown (s : State) : State :=
  let s := { s with flash := { s.flash with fiOffUnknown := s.flash.fiOffUnknown + 1, offDone := true } }
  s.log Code.offUnknown 3 0x1B0 []

/-- The host's timestamp in ms is set (R189): the first after power-on gives the off interval; the start-up record
takes the first one (Table 19.5). -/
def State.setTimestamp (s : State) (value : Nat) : State :=
  let s := if s.flash.offDone then s
    else match s.trail.recordedTs with
      | none => { s with flash := { s.flash with offDone := true } }
      | some r =>
        if value < r then s.offUnknown
        else
          let s := s.addOffTime (value - r - s.trail.tailMs)
          { s with flash := { s.flash with offDone := true } }
  let s := { s with trail := { s.trail with timestamp := some (value, s.now) } }
  let rec_ : BootRec := { s.boot.record with hostTime := if s.boot.record.hostTime = 0 then value else s.boot.record.hostTime }
  let s : State := { s with boot := { s.boot with record := rec_ } }
  s.trailRec (.timestamp value)

/-- SET_FEATURES_TIMESTAMP (R189). -/
def execSetFeaturesTimestamp (inst cid value : Nat) (s : State) : Res :=
  s.adminDo inst cid fun s => succeeded (s.setTimestamp value)

end Sys2Proof.Machine
end

