-- ==== Sys2Proof/Machine/Media.lean ====
section
/-!
DEFINITION. Meanings of the rows of media management: die failures, verify and Blanket release, the Firing Index,
Refire and relocation (spec/06_media_management.md).
-/

namespace Sys2Proof.Machine

/-! ### Die failures (R182 to R184, R206) -/

/-- A pool die has failed: the rows whose parity lay on it lose that place (R184). A full row that waits for verify is
verified at once; the others get another pool die. -/
def State.replacePool (s : State) (die : Nat) : State :=
  s.each (s.flash.rows.filter fun x => x.2.pool.any fun p => decide (p.1 = die) && !p.2.isEmpty) fun s x =>
    let r := rowOfKey x.1
    let mine := x.2.pool.zipIdx.filter fun p => decide (p.1.1 = die)
    let s := s.each mine fun s p => s.losePlace r p.2
    if x.2.verified then s
    else if s.flash.verifyQ.contains r then
      { s with flash := { s.flash with verifyQ := r :: s.flash.verifyQ.filter (· ≠ r) } }
    else s.each mine fun s p => s.findPlace r p.2

/-- The operations a failed die held are returned (R206): reads are rebuilt, units are folded into their parity; a program
of the Trail or of the dump goes to another die. (DEDUCED, log entry 76.) -/
def State.returnOps (s : State) (die : Nat) : State :=
  let d := s.die die
  let ops := d.short.toList ++ d.long.toList ++ d.shortQ ++ d.longQ
  let s := (s.leaveBus die).modDie die fun d =>
    { d.goes s.now .idle with short := none, long := none, shortQ := [], longQ := [], suspCount := 0, forced := false, holdPassed := false }
  s.each ops fun s o =>
    match o.kind, o.owner with
    | .hostRead, _ => s.readElsewhere die { o with stage := 1 }
    | .rebuildRead, _ => s.readElsewhere die { o with stage := 1 }
    | .qlcUnit, .row r u => s.unitDone r u
    | .trailProgram, _ => s.moveRegion die o roleTrail
    | .dumpProgram, _ => s.moveRegion die o roleDump
    | .erase, _ => if o.phys.isEmpty then s.rowErased { group := d.group, row := o.block } else s
    | _, _ => s

/-- A failed die held kept parity (R181): it is computed again into another kept parity row from the rows it covers, where
those rows' own dies are intact. The rest of a kept parity row of the die's group is Refired (R199). -/
def State.rekeep (s : State) (d die : Nat) : State :=
  let g := (s.die die).group
  s.each ((s.dieSet d).keptRows.filter fun k => decide (k.row.group = g)) fun s k =>
    let s := s.each (k.slots.filter fun p => decide (s.dieOf k.row p.slot = die)) fun s p =>
      s.keptLost k p ((s.group p.of.group).dies.all fun x => !(s.die x).retired) .rebuild
    if s.isKept k.row then s.queueRow k.row .rebuild else s

/-- One bound row of a failed die's group (Table 6.6); `others` are the group's other failed dies (R183). -/
def State.rowAfterFailure (s : State) (r : RowRef) (die : Nat) (others : List Nat) : State :=
  let x := s.rowRec r
  if (s.refireTo r).isSome ∨ (s.relocTo r).isSome then s.targetFailed r
  else
    match x.zone with
    | some z =>
      let st := (s.zoneAt x.nsid z).st
      if (s.zoneAt x.nsid z).row ≠ some r then s
      else if st.isActive then ((s.controllerFinish x.nsid z).loseUnits r (die :: others)).queueRefire x.nsid z .rebuild
      else if st = .zsf ∨ st = .zsro then
        let s := s.loseUnits r (die :: others)
        let s := if st = .zsf ∧ x.verified ∧ !x.kept then s.readOnlyZone x.nsid z else s
        s.queueRefire x.nsid z .rebuild
      else s
    | none =>
      if x.nsid = 0 ∨ x.issued = 0 then s
      else
        let s := s.each ((s.ns x.nsid).openRows.filter fun o => decide (o.2.row = r)) fun s o => s.endOpen x.nsid o.1
        (s.loseUnits r (die :: others)).queueReloc x.nsid r .rebuild

/-- A die fails (R182 to R184, R206): reported once; its group is withdrawn from placement. (DEDUCED, log entry 76.) -/
def State.dieFails (s : State) (die : Nat) : State :=
  let d := s.die die
  if d.retired ∨ !(d.present || d.listed) then s
  else
    let s := (s.modDie die fun d => { d with retired := true }).bump Reg.FBE_MM_RETIRED_DIES
    let s := s.report 0x200 0x23 die 2
    let s := (s.replacePool die).returnOps die
    if !d.inGroup then s
    else
      let others := (s.group d.group).dies.filter fun k => decide (k ≠ die) && (s.die k).retired
      let s := s.modGroup d.group fun x => { x with withdrawn := true }
      let set := s.setOfDie die
      let rows := (s.flash.rows.filter fun x => decide (x.1 / 4096 = d.group)).map fun x => rowOfKey x.1
      let s := (s.each rows fun s r => s.rowAfterFailure r die others).rekeep set die
      (((s.coverShortfall set (s.emptyZones set)).ladder set).endWindow set 4).reserveCheck.driveWaiting

/-- DIE_FAILURE (R141, R206). (DEDUCED, log entry 76.) -/
def execDieFailure (die : Nat) (s : State) : Res := .next (s.dieFails die)

/-! ### Verify and Blanket release (R178 to R181) -/

/-- A codeword passes the checks of Table 6.5; one whose guard does not match is an undecodable one (R219). -/
def State.verifyPasses (s : State) (x : CodewordRead) : Bool :=
  decide (x.path = 0) && decide (x.cbc ≤ s.cfgOf Cfg.MEDIA_VFY_CBC) && x.tagOk && x.trailerOk && x.guardOk

/-- A verify has failed (R179): the block is Suspect, the row keeps its parity, or gets it again (R184), and is rewritten. -/
def State.verifyFailed (s : State) (r : RowRef) (die plane : Nat) : State :=
  let b := s.physBlock die plane r.row
  let s := s.report 0x200 0x28 (blockAddress die plane b) 1
  let s := s.setBlock die plane b fun b => { b with suspect := true, retireDue := b.suspect }
  let s := s.modRow r fun y => { y with suspect := true, verifying := false }
  if (s.refireTo r).isSome ∨ (s.relocTo r).isSome then s.targetFailed r
  else match (if s.isKept r then s.keptAt r else none) with
    | some k => match k.pending with
      | some p => s.keptLost k p true .verify
      | none => s
    | none => (s.repool r).queueRow r .verify

/-- A verify has passed (R179, R180): the Suspect marks go, and a VERIFIED record is written; a Refire's follows its switch
(Table 6.9, step 6). -/
def State.verifyPassed (s : State) (r : RowRef) : State :=
  let x := s.rowRec r
  let s := s.each ((s.group r.group).dies.filter fun d => !(s.die d).retired) fun s d =>
    s.rowBlocks d r.row fun b => { b with suspect := false, retireDue := false }
  let s := s.modRow r fun y => { y with suspect := false, verifying := false }
  match s.refireTo r with
  | some (d, q) =>
    s.modDieSet d fun y => { y with running := y.running.map fun k => if k.job = q.job then { k with verified := true } else k }
  | none => match (if s.isKept r then s.keptAt r else none) with
  | some k => match k.pending with
    | some p => s.keptPassed k p
    | none => s
  | none =>
    let s := match s.relocTo r with
      | some (d, _) => s.modDieSet d fun y => { y with relocs := y.relocs.map fun (k : Reloc) => if k.target = r then { k with verified := true } else k }
      | none => s
    let s := s.modRow r fun y => { y with verifyPending := true }
    s.trailRec (.verified (if x.zone.isSome then x.nsid else 0) (x.zone.getD r.row) r.group)

/-- VERIFY_COMPLETE (R178 to R180, R219): all the row's reads are done; those of the codeword on a die-plane that stood
worst (Table 6.5). -/
def execVerifyComplete (group row : Nat) (result : VerifyReads) (die plane : Nat) (s : State) : Res :=
  let r : RowRef := { group := group, row := row }
  if !(s.flash.verifyQ.contains r) ∨ s.scanning r then .next s
  else
    let s := { s with flash := { s.flash with verifyQ := s.flash.verifyQ.filter (· ≠ r) } }
    .next (if s.verifyPasses result.first then s.verifyPassed r
      else if s.verifyPasses result.second then
        (s.reportTransient 0x200 0x28 (blockAddress die plane (s.physBlock die plane row))).verifyPassed r
      else s.verifyFailed r die plane)

/-- BLANKET_RELEASE (R180, R181): the verified record is durable; in a die set with Kept Blanket the copy of the parity
begins, and its own verify releases the pool blocks. -/
def execBlanketRelease (group row : Nat) (s : State) : Res :=
  let r : RowRef := { group := group, row := row }
  let x := s.rowRec r
  .next (
    if !x.verified ∨ x.pool.isEmpty then s
    else if (s.dieSet (s.ns x.nsid).dieSet).kept ∧ !x.parity.isEmpty then s.startKeep (s.ns x.nsid).dieSet r
    else (s.releaseParity r).driveWaiting)

/-! ### Firing Index (R187 to R192) -/

/-- The dies of a row with the last wordline programmed there: of a kept parity row those of the copies it holds. -/
def State.lastLines (s : State) (r : RowRef) : List (Nat × Nat) :=
  if s.isKept r then match s.keptAt r with
    | some k => (k.slots.filter (·.done)).map fun p => (s.dieOf r p.slot, ((s.keptUnits p).getLastD 0) / 16)
    | none => []
  else (s.group r.group).dies.zipIdx.map fun d => (d.1, (s.unitsIn r - 1 - d.2) / 16)

/-- Internal reads of a patrol (R192): wordline 0 and the last programmed wordline of each die. -/
def State.patrol (s : State) (r : RowRef) : State :=
  s.each ((s.lastLines r).filter fun d => !(s.die d.1).retired) fun s d =>
    s.each ([0, d.2].dedup) fun s w =>
      s.enqueue d.1 { kind := .internalRead, block := r.row, wordline := w, owner := .row r (16 * w), internal := true }

/-- The triggers of one zone against the threshold (R188, R192). -/
def State.fiZone (s : State) (nsid z : Nat) (r : RowRef) : State :=
  let x := s.zoneAt nsid z
  let fi := (s.group r.group).fi - x.fiStamp
  let thr := s.cfgOf Cfg.MEDIA_FI_THRESH * 921600
  if !(decide (x.st = .zsf) || decide (x.st = .zsro)) then s
  else
    let due := (if thr ≤ 2 * fi then 1 else 0) + (if 3 * thr ≤ 4 * fi then 1 else 0)
    let s := if x.patrols < due then (s.modZone nsid z fun y => { y with patrols := due }).patrol r else s
    if thr ≤ fi then s.queueRefire nsid z .threshold else s

/-- The triggers of one closed conventional row, or of a kept parity row (R199). -/
def State.fiRow (s : State) (r : RowRef) : State :=
  let x := s.rowRec r
  let fi := (s.group r.group).fi - x.stamp
  let thr := s.cfgOf Cfg.MEDIA_FI_THRESH * 921600
  if x.endAt.isNone ∧ !(s.isKept r) then s
  else
    let due := (if thr ≤ 2 * fi then 1 else 0) + (if 3 * thr ≤ 4 * fi then 1 else 0)
    let s := if x.patrols < due then (s.modRow r fun y => { y with patrols := due }).patrol r else s
    if thr ≤ fi then s.queueRow r .threshold else s

/-- NAND_TEMPERATURE_SUMMARY (R187, R188, R192): the temperature of each group, in half degrees above -40 °C. A formed
group the summary does not name counts at the highest of its dies' means, or where none is known at its last temperature. (DEDUCED, log entry 75.) -/
def execNandTemperatureSummary (temps : List (Nat × Nat)) (s : State) : Res :=
  let s := s.takeCfg .summary fun _ => true
  let ea := s.cfgOf Cfg.MEDIA_FI_EA
  let s := { s with flash := { s.flash with fiSilent := 0 } }
  let one := fun (g : Nat) (x : Group) =>
    if !x.formed then x
    else
      let means := (x.dies.filter s.dieServes).filterMap fun d => (s.die d).mean
      let t := match temps.find? fun e => decide (e.1 = g) with
        | some e => min e.2 330
        | none => if means.isEmpty then x.temp else min 330 (means.foldl max 0)
      { x with temp := t, fi := wrapAdd 64 x.fi (af256 ea t) }
  let s := { s with zone := { s.zone with groups := s.zone.groups.mapVals {} one } }
  let zs := s.zone.nss.flatMap fun n => n.2.zones.filterMap fun z => z.2.row.map fun r => (n.1, z.1, r)
  let s := s.each zs fun s z => s.fiZone z.1 z.2.1 z.2.2
  let rows := s.zone.nss.flatMap (fun n => if n.2.zoned then [] else n.2.rows) ++
    s.zone.dieSets.flatMap fun d => d.2.keptRows.map (·.row)
  .next (s.each rows fun s r => s.fiRow r)

/-- FI_SUMMARY_TIMEOUT (R188): `seconds` without a summary are counted at the last temperature plus 10 °C; the count
stands still in PS3 and PS4. (DEDUCED, log entry 75.) -/
def execFiSummaryTimeout (seconds : Nat) (s : State) : Res :=
  if 3 ≤ s.power.ps ∨ s.flash.fiSilent + seconds < 5 then .next s
  else
    let ea := s.cfgOf Cfg.MEDIA_FI_EA
    let first := s.flash.fiSilent = 0
    let s := { s with flash := { s.flash with fiSilent := s.flash.fiSilent + seconds } }
    let one := fun (_ : Nat) (x : Group) =>
      if x.formed then { x with fi := wrapAdd 64 x.fi (seconds * af256 ea (min (x.temp + 20) 330)) } else x
    let s := { s with zone := { s.zone with groups := s.zone.groups.mapVals {} one } }
    .next (if first then s.report 0x200 0x2A 0 1 else s)

/-- TIMESTAMP_WAIT_EXPIRY (R189). -/
def execTimestampWaitExpiry (s : State) : Res := .next (if s.flash.offDone then s else s.offUnknown)

/-- EARLY_WARNING_CONFIRM (R191, R192): the second read of a warned page. `zone` is the row's key where the namespace is
conventional, and under namespace 0, which stands for kept parity rows (R199). -/
def execEarlyWarningConfirm (nsid zone : Nat) (warned : Bool) (s : State) : Res :=
  if !(s.flash.warned.contains (nsid, zone)) then .next s
  else
    let s := { s with flash := { s.flash with warned := s.flash.warned.filter (· ≠ (nsid, zone)) } }
    if !warned then .next (s.bump Reg.FBE_MM_EARLY_TRANSIENT)
    else
      let s := s.bump Reg.FBE_MM_EARLY_CONFIRMED
      .next (if nsid ≠ 0 ∧ (s.ns nsid).zoned then s.queueRefire nsid zone .early else s.queueRow (rowOfKey zone) .early)

/-! ### Refire (R190 to R198) -/

/-- The order of rebuild Refires (R183): unverified zones, the last programmed first, then kept ones, then the rest;
of the other reasons: the highest Firing Index first (R190). Smaller comes first. -/
def State.refireKey (s : State) (q : RefireReq) : Nat × Nat × Nat :=
  let z := s.zoneAt q.nsid q.zone
  let r := if q.nsid = 0 then rowOfKey q.zone else z.row.getD {}
  let x := s.rowRec r
  if q.reason = .rebuild then
    (0, if q.nsid = 0 then 2 else if !x.verified then 0 else if x.kept then 1 else 2, 2 ^ 64 - x.seqLast)
  else (q.reason.rank, 0, 2 ^ 64 - ((s.group r.group).fi - (if q.nsid = 0 then x.stamp else z.fiStamp)))

def keyBefore (a b : Nat × Nat × Nat) : Bool :=
  decide (a.1 < b.1) || (decide (a.1 = b.1) && (decide (a.2.1 < b.2.1) || (decide (a.2.1 = b.2.1) && decide (a.2.2 < b.2.2))))

/-- The Refires for the reasons "early", "threshold" and "wear" that may run at once in a die set: CFG_MEDIA_REFIRE_MAX, in
PS1 and PS2 scaled by the power factor (R193, R409). -/
def State.refireLimit (s : State) : Nat :=
  let m := s.cfgOf Cfg.MEDIA_REFIRE_MAX
  if s.powerMode = 1 ∨ s.powerMode = 2 then max 1 (s.power.g * m / 100) else m

/-- The limits on running Refires allow another (R183, R186, R193). -/
def State.refireRoom (s : State) (d : Nat) (why : Reason) : Bool :=
  let running := (s.dieSet d).running
  let of := fun (p : Reason → Bool) => (running.filter fun r => p r.reason).length
  if why = .rebuild then decide (of (· = .rebuild) < 16)
  else decide (of (· ≠ .rebuild) < s.cfgOf Cfg.MEDIA_REFIRE_MAX) &&
    (decide (why = .verify) || decide (of (fun r => r ≠ .rebuild && r ≠ .verify) < s.refireLimit)) &&
    (decide (why ≠ .wear) || decide (of (· = .wear) = 0))

/-- What a request names may be Refired now: a full or read-only zone that is programmed, with its keys (R193, R281), and not
under verify by a fixity job unless its dies have failed (R230); a kept parity row into which no copy is being made.
(DEDUCED, log entry 109.) -/
def State.refireFit (s : State) (q : RefireReq) : Bool :=
  if q.nsid = 0 then (s.keptAt (rowOfKey q.zone)).any fun k => decide (k.row = rowOfKey q.zone) && k.pending.isNone && k.next.isNone
  else
    let z := s.zoneAt q.nsid q.zone
    (decide (z.st = .zsf) || decide (z.st = .zsro)) && z.row.any s.programmed && !(s.keyWait q.nsid) &&
      (decide (q.reason = .rebuild) || !(s.underVerify q.nsid q.zone))

/-- Whether a queued Refire may start now. -/
def State.refireReady (s : State) (d : Nat) (q : RefireReq) : Bool :=
  !s.settling && s.refireRoom d q.reason && s.refireFit q &&
    !((s.dieSet d).running.any fun r => decide (r.nsid = q.nsid) && decide (r.zone = q.zone))

/-- The most-worn free row of a die set, for a wear Refire (R186): the first group's on equal counts.
(DESIGN CHOICE, log entry 11.) -/
def State.wornRow (s : State) (d : Nat) : Option RowRef :=
  let rows := ((s.dieSet d).groups.filter s.groupOk).flatMap fun g =>
    ((List.range ((s.group g).zoneRows + (s.group g).gone.length)).filter fun r => (s.group g).rowFree (s.releasingIn g) r).map fun r =>
      ({ group := g, row := r } : RowRef)
  let worn := fun (r : RowRef) => (s.group r.group).erases.get 0 r.row
  rows.foldl (fun b r => match b with
    | none => some r
    | some k => if worn k < worn r then some r else some k) none

/-- The groups a Refire's target may lie in: any, but for a kept parity row none of those whose parity it holds (R181). -/
def State.targetGroup (s : State) (q : RefireReq) (g : Nat) : Bool :=
  decide (q.nsid ≠ 0) || !((s.keptAt (rowOfKey q.zone)).any fun k => k.slots.any fun p => decide (p.of.group = g))

/-- The target row of a Refire (step 1), and the state in which a finish-reserve row has been made one (R198). -/
def State.refireTarget (s : State) (d : Nat) (q : RefireReq) : Option (RowRef × State) :=
  match (if q.reason = .wear then s.wornRow d else s.placeAmong d (s.targetGroup q)) with
  | some r => some (r, s)
  | none =>
    if (s.dieSet d).stage ≠ .exhausted then none
    else
      let gs := (s.dieSet d).groups.filter fun g => !(s.group g).withdrawn && s.targetGroup q g
      match gs.find? fun g => decide (0 < s.freeRows g) with
      | some g => (s.chooseRow g).map fun r => ({ group := g, row := r }, s)
      | none =>
        if !(s.zonesOf d fun z => z.st.isActive).isEmpty then none
        else match gs.find? fun g => !(s.group g).reserveUsed with
          | none => none
          | some g => some ({ group := g, row := (s.group g).zoneRows + (s.group g).gone.length },
              s.modGroup g fun x => { x with reserveUsed := true, zoneRows := x.zoneRows + 1 })

/-- The internal Sieve entry of a Refire over its zone (Table 6.9, step 1); a kept parity row has no blocks, and needs none. -/
def State.refireEntry (s : State) (q : RefireReq) (job : Nat) : Option (Option Nat × State) :=
  if q.nsid = 0 then some (none, s)
  else
    let lo := q.zone * zoneBlocks
    let e : Ent := { lo := lo, hi := lo + zoneBlocks - 1, scope := scopeNs q.nsid, prio := 0x40, payload := 0x8000 + job % 32768 }
    match s.insertEntry e { seq := s.intake.seqNext, nsid := q.nsid, tag := job, supply := 0 } true with
    | (none, _) => none
    | (some p, s) => some (some p, s)

/-- The target's record, and for a kept parity row its place behind it. -/
def State.bindTarget (s : State) (d : Nat) (q : RefireReq) (t : RowRef) : State :=
  let s := s.modGroup t.group fun x => { x with bound := if x.bound.contains t.row then x.bound else x.bound ++ [t.row] }
  let g := (s.group t.group).geo
  if q.nsid = 0 then
    (s.modRow t fun _ => { kind := kindRefire, endAt := some (16 * g.wordlines * g.unitBlocks), born := s.intake.seqNext }).modDieSet d fun x => { x with
      keptRows := x.keptRows.map fun k => if k.row = rowOfKey q.zone then { k with next := some t } else k }
  else s.modRow t fun _ => { kind := kindRefire, nsid := q.nsid, zone := some q.zone, endAt := some (s.zoneAt q.nsid q.zone).wp, born := s.intake.seqNext }

/-- The queued Refire that is served first (R190). -/
def State.nextRefire (s : State) (set : Nat) : Option RefireReq :=
  ((s.dieSet set).queue.filter (s.refireReady set)).foldl (fun b q => match b with
    | none => some q
    | some k => if keyBefore (s.refireKey q) (s.refireKey k) then some q else some k) none

/-- REFIRE_START (R190, R193 to R198): steps 1 and 2 of Table 6.9 for the first queued zone that may start.
(DESIGN CHOICE, log entry 92.) -/
def execRefireStart (set : Nat) (s : State) : Res :=
  .next (match s.nextRefire set with
  | none => s
  | some q => match s.refireTarget set q with
    | none => s
    | some (t, s') => match s'.refireEntry q s.flash.nextJob with
      | none => s
      | some (p, s) =>
        let job := s.flash.nextJob
        let old := if q.nsid = 0 then rowOfKey q.zone else (s.zoneAt q.nsid q.zone).row.getD {}
        let s := if q.reason = .rebuild then s.endVerify q.nsid q.zone else s
        let s := { s with
          sieve := { s.sieve with jobKinds := s.sieve.jobKinds.set (.keptWrite, 0) job (.refire, s.intake.seqNext) }
          flash := { s.flash with nextJob := job + 1 } }
        let mine := fun (f : Nat × Nat × Nat) => decide (f.1 = q.nsid) && decide (f.2.1 = q.zone)
        let fails := ((s.dieSet set).failed.filter mine).map (·.2.2)
        let s := s.modDieSet set fun x => { x with
          queue := x.queue.filter (· ≠ q)
          failed := x.failed.filter fun f => !(mine f)
          running := x.running ++ [{ job := job, nsid := q.nsid, zone := q.zone, reason := q.reason, old := old,
                                     target := t, entry := p, failures := fails.getLastD 0 }] }
        (if s.scanning old then s.bindTarget set q t else (s.bindTarget set q t).scanRow old).driveWaiting)

/-- The running Refire with a job number, and its die set. -/
def State.refireJob (s : State) (job : Nat) : Option (Nat × Refire) :=
  match s.zone.dieSets.find? fun d => d.2.running.any fun x => decide (x.job = job) with
  | some d => (d.2.running.find? fun x => decide (x.job = job)).map fun x => (d.1, x)
  | none => none

def State.modRefire (s : State) (d job : Nat) (f : Refire → Refire) : State :=
  s.modDieSet d fun x => { x with running := x.running.map fun q => if q.job = job then f q else q }

/-- REFIRE_TARGET_PROGRAMMED (Table 6.9, steps 2 to 5; R227): `lost` are the offsets of blocks that could not be
recovered and are written as poisoned; the old digest is carried over. `mismatch` are the chunks that differ, where the
plaintext does not match the digest. -/
def execRefireTargetProgrammed (job : Nat) (mismatch : Option (List Nat)) (lost : List Nat) (s : State) : Res :=
  match s.refireJob job with
  | none => .next s
  | some (d, x) =>
    let t := s.rowRec x.target
    if x.programmed ∨ !((List.range (s.unitsIn x.target)).all t.done.contains) ∨ !t.covered then .next s
    else
      let base := x.zone * zoneBlocks
      let new := if x.nsid = 0 then [] else lost.filter fun o => (s.blkAt x.nsid (base + o)).content ≠ .lost
      let s := s.each new fun s o => s.modBlk x.nsid (base + o) fun b => { b with content := .lost }
      let s := if new.isEmpty then s
        else (s.countLost x.nsid new.length).log Code.hole 2 0x203
          (x.nsid :: x.zone :: new)
      let s := match mismatch with
        | some chunks => (s.countMismatch x.nsid).log Code.refire 3 0x203 (x.nsid :: x.zone :: chunks)
        | none => s
      let s := (s.queueTrailers x.target true).modRow x.target fun y => { y with issued := 16 * (s.group x.target.group).geo.wordlines }
      .next (s.modRefire d job fun q => { q with programmed := true, mismatch := mismatch.isSome })

/-- A kept parity row's copies lie in its target from now on; the target gives up the pool blocks that covered its programs.
-/
def State.switchKept (s : State) (d : Nat) (x : Refire) : State :=
  (s.modDieSet d fun y => { y with keptRows := y.keptRows.map fun k =>
    if k.row = x.old then { k with row := x.target, next := none, given := 16 } else k }).releasePool x.target

/-- REFIRE_SWITCH (Table 6.9, step 6): one map update, the Trail records, the new stamp. (DEDUCED, log entry 74.) -/
def execRefireSwitch (job : Nat) (s : State) : Res :=
  match s.refireJob job with
  | none => .next s
  | some (d, x) =>
    if !x.verified ∨ x.switched then .next s
    else if x.nsid = 0 then .next ((s.switchKept d x).modRefire d job fun q => { q with switched := true, seq := s.intake.seqNext })
    else
      let t := s.rowRec x.target
      let s := s.modNs x.nsid fun n => { n with map := n.map.mapVals {} fun lba b =>
        if lba / zoneBlocks = x.zone ∧ b.row = some x.old then { b with row := some x.target, pieceLen := 0, pieceIdx := 0 } else b }
      let s := s.modZone x.nsid x.zone fun z => { z with
        row := some x.target, fiStamp := t.stamp, patrols := 0
        trailer := z.trailer.map fun y => { y with
          mismatch := y.mismatch || x.mismatch, seqFirst := t.seqFirst, seqLast := t.seqLast } }
      let s := (s.modRow x.target fun y => { y with verifyPending := true }).trailRec
        (.bind x.nsid x.zone x.target.group x.target.row t.stamp)
      let s := s.trailRec (.verified x.nsid x.zone x.target.group)
      .next (s.modRefire d job fun q => { q with switched := true, seq := s.intake.seqNext })

/-- REFIRE_OLD_ROW_RELEASE (Table 6.9, step 7; R115): its walk takes a free slot, and the reads it latches hold the row. -/
def execRefireOldRowRelease (job : Nat) (s : State) : Res :=
  match s.refireJob job with
  | none => .next s
  | some (d, x) =>
    let lo := x.zone * zoneBlocks
    let w : RelWait := { row := x.old, nsid := x.nsid, lo := lo, hi := lo + zoneBlocks - 1, seq := x.seq }
    if !x.switched ∨ 64 ≤ s.sieve.walks.length ∨ s.readsBefore w then .next s
    else
      let s := ((s.releaseParity x.old).releaseRow x.old x.nsid lo (lo + zoneBlocks - 1) x.seq).removeEntries x.entry.toList
      let s := s.modDieSet d fun y => { y with running := y.running.filter fun q => q.job ≠ job }
      let s := { s with
        sieve := { s.sieve with jobKinds := s.sieve.jobKinds.set (.keptWrite, 0) job (.keptWrite, 0) }
        flash := { s.flash with refireDone := s.flash.refireDone.set x.reason.rank (s.flash.refireDone.getD x.reason.rank 0 + 1) } }
      .next ((s.bump Reg.FBE_MM_REFIRE_COUNT_DONE).log Code.refire 2 0x203 [x.nsid, x.zone, x.reason.rank]).driveWaiting

/-- REFIRE_RETRY_TIMER (R197): an hour after four failed targets. -/
def execRefireRetryTimer (nsid zone : Nat) (s : State) : Res :=
  let d := s.reqSet nsid zone
  match (s.dieSet d).retryZones.find? fun q => decide (q.nsid = nsid) && decide (q.zone = zone) with
  | none => .next s
  | some q => .next ((s.modDieSet d fun x => { x with retryZones := x.retryZones.erase q }).queueRefire nsid zone q.reason)

/-! ### Relocation (R200 to R203) -/

/-- Free conventional rows of a die set, and all of them. -/
def State.convRowsFree (s : State) (d : Nat) : Nat :=
  Tab.sum (fun _ n => if n.exists_ ∧ !n.zoned ∧ n.dieSet = d then (n.rows.filter (s.convFree n)).length else 0) s.zone.nss
def State.convRowsAll (s : State) (d : Nat) : Nat :=
  Tab.sum (fun _ n => if n.exists_ ∧ !n.zoned ∧ n.dieSet = d then n.rows.length else 0) s.zone.nss

/-- The valid units of a source row, in LBA order, with the sequence of their map entries. -/
def State.validUnits (s : State) (nsid : Nat) (r : RowRef) : List (Nat × Nat) :=
  ((s.ns nsid).map.filter fun b => decide (b.2.row = some r)).map fun b => (b.1, b.2.seq)

/-- The victim of R201: the Full, verified row with the fewest valid units, the row written earliest on equal counts. -/
def State.victim (s : State) (nsid : Nat) : Option RowRef :=
  let busy := (s.dieSet (s.ns nsid).dieSet).relocs.map (·.source)
  ((s.ns nsid).rows.filter fun r => (s.rowRec r).verified && (s.rowRec r).endAt.isSome && !(busy.contains r) &&
      !(s.flash.relWaits.any fun w => decide (w.row = r)) && !(s.flash.releasing.contains r)).foldl (fun b r =>
    match b with
    | none => some r
    | some k =>
      let m := (s.validUnits nsid k).length
      let n := (s.validUnits nsid r).length
      if n < m ∨ (n = m ∧ (s.rowRec r).born < (s.rowRec k).born) then some r else some k) none

/-- The open relocation target with room, or a new one (R201). (DEDUCED, log entry 74.) -/
def State.relTarget (s : State) (nsid : Nat) : Option (RowRef × State) :=
  let n := s.ns nsid
  match n.relRow with
  | some r => if n.relNext < s.rowBlocksMax r then some (r, s) else none
  | none => (s.freshRow nsid none).map fun x =>
    (x.1, (x.2.modRow x.1 fun y => { y with kind := kindReloc }).modNs nsid fun n => { n with relRow := some x.1, relNext := 0 })

/-- Closes the open relocation target at what it holds, so that it is programmed and verified. -/
def State.endRelRow (s : State) (nsid : Nat) : State :=
  match (s.ns nsid).relRow with
  | none => s
  | some r =>
    let at_ := (s.ns nsid).relNext
    ((s.modNs nsid fun n => { n with relRow := none, relNext := 0 }).modRow r fun y => { y with endAt := some at_ }).driveWaiting

/-- The reads of a relocation's source begin (R200). -/
def State.readSource (s : State) (r : RowRef) : State := if s.scanning r then s else s.scanRow r

/-- Copies units of a source into target rows, at most `n` rows. -/
def State.copyUnits (s : State) (nsid : Nat) (src : RowRef) (fails : Nat) : Nat → List (Nat × Nat) → State
  | 0, _ => s
  | n + 1, units =>
    match s.relTarget nsid with
    | none => s
    | some (t, s) =>
      let at_ := (s.ns nsid).relNext
      let room := s.rowBlocksMax t - at_
      let now := (units.take room).zipIdx.map fun u => (u.1.1, u.1.2, at_ + u.2)
      let job := s.flash.nextJob
      -- the internal entry covers the LBAs of the units (Table 4.3)
      let lbas := now.map (·.1)
      let ent : Ent := { lo := lbas.foldl min (lbas.headD 0), hi := lbas.foldl max 0, scope := scopeNs nsid, prio := 0x40
                         payload := 0x8000 + job % 32768 }
      let (p, s) := if now.isEmpty then (none, s)
        else s.insertEntry ent { seq := s.intake.seqNext, nsid := nsid, tag := job, supply := 0 } true
      let s := { s with flash := { s.flash with nextJob := job + 1 } }
      let s := s.modDieSet (s.ns nsid).dieSet fun x => { x with relocs := x.relocs ++
        [{ job := job, nsid := nsid, source := src, target := t, entry := p, units := now, failures := fails }] }
      let s := { s with sieve := { s.sieve with jobKinds := s.sieve.jobKinds.set (.keptWrite, 0) job (.relocation, s.intake.seqNext) } }
      let s := s.modNs nsid fun x => { x with relNext := at_ + now.length }
      if room ≤ units.length then (s.endRelRow nsid).copyUnits nsid src fails n (units.drop room)
      else s.driveTarget t

/-- RELOCATION_START (R199 to R203): a queued row first; else, with too few free rows, the victim. A row queued for a
reason of Table 6.8 has its target closed at once, so that it may be emptied. (DESIGN CHOICE, log entry 92.) -/
def execRelocationStart (nsid : Nat) (s : State) : Res :=
  let d := (s.ns nsid).dieSet
  let mine := (s.dieSet d).convQ.filter fun q => decide (q.1 = nsid) && !((s.dieSet d).relocs.any fun x => decide (x.source = q.2.1))
  if (s.ns nsid).zoned ∨ !(s.ns nsid).exists_ ∨ s.settling then .next s
  else match mine.foldl (fun b q => match b with
      | none => some q
      | some k => if q.2.2.rank < k.2.2.rank then some q else some k) none with
    | some q =>
      if !(s.programmed q.2.1) ∨ (s.relTarget nsid).isNone then .next s
      else
        let fails := ((s.dieSet d).failedRows.filter fun f => f.1 = q.2.1).map (·.2)
        let s := s.modDieSet d fun x => { x with convQ := x.convQ.erase q, failedRows := x.failedRows.filter fun f => f.1 ≠ q.2.1 }
        .next (((s.readSource q.2.1).copyUnits nsid q.2.1 (fails.getLastD 0) 2 (s.validUnits nsid q.2.1)).endRelRow nsid)
    | none =>
      if max 2 (ceilDiv (2 * s.convRowsAll d) 100) ≤ s.convRowsFree d then .next s
      else match s.victim nsid with
        | none => .next s
        | some r =>
          if (s.relTarget nsid).isNone then .next s
          else .next ((s.readSource r).copyUnits nsid r 0 2 (s.validUnits nsid r))

/-- A relocation's source is given back once every target that received its units has switched (R202). -/
def State.releaseSource (s : State) (d nsid : Nat) (src : RowRef) : State :=
  let mine := (s.dieSet d).relocs.filter fun x => decide (x.source = src)
  if mine.isEmpty ∨ !(mine.all fun x => x.switched) ∨ !(s.validUnits nsid src).isEmpty then s
  else
    let s := s.modDieSet d fun x => { x with relocs := x.relocs.filter fun q => q.source ≠ src }
    (s.releaseParity src).recycleRow src nsid s.intake.seqNext

/-- RELOCATION_SWITCH (R202): map entries that still name the source location are switched; the others stay.
(DEDUCED, log entry 74.) -/
def execRelocationSwitch (job : Nat) (s : State) : Res :=
  match s.zone.dieSets.find? fun d => d.2.relocs.any fun x => decide (x.job = job) && x.verified && !x.switched with
  | none => .next s
  | some d =>
    match d.2.relocs.find? fun x => decide (x.job = job) with
    | none => .next s
    | some x =>
      let live := x.units.filter fun u =>
        decide ((s.blkAt x.nsid u.1).row = some x.source) && decide ((s.blkAt x.nsid u.1).seq = u.2.1)
      let s := s.each live fun s u =>
        (s.modBlk x.nsid u.1 fun b => { b with row := some x.target, off := u.2.2, pieceLen := 0, pieceIdx := 0 }).trailRec (.convMap x.nsid u.1 1 u.2.1)
      let s := s.removeEntries x.entry.toList
      let s := s.modDieSet d.1 fun y => { y with relocs := y.relocs.map fun q => if q.job = job then { q with switched := true } else q }
      let s := { s with sieve := { s.sieve with jobKinds := s.sieve.jobKinds.set (.keptWrite, 0) job (.keptWrite, 0) } }
      .next (s.releaseSource d.1 x.nsid x.source)

/-- RELOCATION_RETRY_TIMER (R203): an hour after four failed targets. -/
def execRelocationRetryTimer (nsid group row : Nat) (s : State) : Res :=
  let d := (s.ns nsid).dieSet
  let r : RowRef := { group := group, row := row }
  if (s.dieSet d).retryRows.contains (nsid, r) then
    .next ((s.modDieSet d fun x => { x with retryRows := x.retryRows.erase (nsid, r) }).queueReloc nsid r .rebuild)
  else .next s

/-! ### Registers (R211) -/

/-- The block state table entry as Table 6.17 shows it: a conventional or a kept parity row under its own role, every block
of a die out of service as Retired (R204). -/
def State.blockShown (s : State) (die plane b : Nat) : Block :=
  let x := s.blockOf die plane b
  let r : RowRef := { group := (s.die die).group, row := x.row }
  let role := if x.role ≠ roleZone then x.role
    else if s.isKept r then 3
    else if s.zone.nss.any fun n => n.2.rows.contains r then 2 else roleZone
  { x with role := role, st := if (s.die die).retired then .retired else x.st }

/-- FBE_MM_BLK_CAPTURE (Table 6.17): the entry of the selected block is captured. -/
def State.blkCapture (s : State) (die plane block : Nat) : State :=
  if !(dieNameOk die) then s
  else
    let s := ((s.setReg Reg.FBE_MM_BLK_SEL_DIE die).setReg Reg.FBE_MM_BLK_SEL_PLANE (plane % 8)).setReg Reg.FBE_MM_BLK_SEL_BLOCK (block % 4096)
    { s with flash := { s.flash with blkCaptured := some (s.blockShown die (plane % 8) (block % 4096)) } }
def execFbeMmBlkCapture (die plane block : Nat) (s : State) : Res := .next (s.mgmtWrite 0xB130 fun s => s.blkCapture die plane block)

end Sys2Proof.Machine
end

