-- ==== Sys2Proof/Machine/OpsRebuild.lean ====
section
/-!
DEFINITION. Rebuild at start-up (Table 8.9): what is found of the exposure, pieces kept (R263), write pointers (R50), lost
blocks (R264), rows and their programs going on.
-/

namespace Sys2Proof.Machine

/-- How start-up finds the Trail (R262): 0 a first start, 1 a clean shutdown or a quiet record, 2 a power loss. -/
def State.startPath (s : State) : Nat :=
  if s.trail.segSeq = 0 ∧ s.trail.dumpSeq = 0 ∧ s.trail.expos.isEmpty then 0
  else if (s.trail.clean ∨ s.trail.quiet) ∧ !s.trail.toRestore ∧ s.trail.expos.all (fun e => e.left.isEmpty) then 1
  else 2

/-- The exposure is known: the clean path, or a dump of which a header copy is readable. -/
def State.exposureKnown (s : State) (info : BootInfo) : Bool :=
  decide (s.startPath = 1) || (s.trail.toRestore && !info.headerLost && s.trail.dump.any fun d => d.headers ≠ 0)

/-- The units found, on media and in dump rows (Table 8.9, stages 4 and 5). -/
def State.unitsFound (s : State) (info : BootInfo) : List DUnit :=
  s.trail.mediaUnits ++
    (if info.headerLost then [] else s.trail.dumpUnits.filter fun u => !(info.dumpLost.contains (u.nsid, u.lba)))

/-- A write's blocks that are not in the map yet. -/
def Expo.blocks (e : Expo) : List XBlk := e.ready ++ e.left ++ e.parked

def Expo.unitIn (e : Expo) (units : List DUnit) (b : XBlk) : Option DUnit :=
  units.find? fun u => decide (u.nsid = e.nsid) && decide (u.lba = b.lba) && decide (u.seq = e.seq)

/-- A block is kept (R263): it is found, and so is every block of its 256 KiB piece unless the write was posted. -/
def Expo.keeps (e : Expo) (units : List DUnit) (posted : Bool) (b : XBlk) : Bool :=
  let k := (b.lba - e.slba) / 64
  (e.unitIn units b).isSome &&
    (posted || (e.blocks.filter fun c => (c.lba - e.slba) / 64 = k).all fun c => (e.unitIn units c).isSome)

/-- A write that a later Reset of its zone has overtaken, or that failed, leaves nothing. -/
def State.expoStands (s : State) (e : Expo) : Bool :=
  !e.failed && !((s.ns e.nsid).zoned && decide (e.seq < (s.zoneAt e.nsid (e.slba / zoneBlocks)).resetSeq))

/-- The end of the longest run of kept blocks of a zone (R263): lost blocks of posted writes count as written (R264). -/
def State.zoneCut (s : State) (units : List DUnit) (known : Bool) (nsid z : Nat) : Nat :=
  ((s.trail.expos.filter fun e => decide (e.nsid = nsid) && decide (e.slba / zoneBlocks = z) && s.expoStands e).flatMap fun e =>
    (e.blocks.filter fun b => !(e.keeps units (known && e.posted) b) && !(known && e.posted)).map fun (b : XBlk) => b.lba % zoneBlocks).foldl
    min (s.zoneAt nsid z).wp

/-- A zone whose write pointer falls back to `cut`: beyond it nothing is kept. A zone that its last write had filled is
active again. (DEDUCED, log entry 43.) -/
def State.cutZone (s : State) (nsid z cut : Nat) : State :=
  let x := s.zoneAt nsid z
  if x.wp ≤ cut then s
  else
    let full := decide (x.st = .zsf) && decide (x.wp = (s.ns nsid).zcap)
    let s := s.modNs nsid fun n => { n with
      map := n.map.keep fun lba _ => !(decide (lba / zoneBlocks = z) && decide (cut ≤ lba % zoneBlocks)) }
    let s := s.modZone nsid z fun y => { y with
      wp := cut, st := if full then .zsc else y.st, trailer := none
      hash := y.hash.filter fun h => decide (h.1 ≤ cut)
      holes := y.holes.filter fun h => decide (h.1 < cut) }
    match x.row with
    | none => s
    | some r =>
      let u := unitAt (s.group r.group).geo true cut
      s.modRow r fun y => { y with
        issued := min y.issued u, done := y.done.filter (· < u), trailer := [], trailerQueued := false
        endAt := if full then none else y.endAt.map fun e => min e cut }

/-- A block of a write restored to Far Hamper (Table 8.9, stage 5). -/
def State.restoreBlock (s : State) (e : Expo) (units : List DUnit) (b : XBlk) : XBlk × State :=
  let g := match e.row with
    | some r => r.group
    | none => 0
  match s.alloc poolFW 1 0 .writer g with
  | (some (k :: _), s) =>
    let u := (e.unitIn units b).getD {}
    ({ b with unit := k }, s.modUnit k fun x => { x with data := some u.data, poisoned := u.poisoned })
  | (_, s) => (b, s)

def State.restoreBlocks (s : State) (e : Expo) (units : List DUnit) : List XBlk → List XBlk × State
  | [] => ([], s)
  | b :: t =>
    let r := s.restoreBlock e units b
    let q := r.2.restoreBlocks e units t
    (r.1 :: q.1, q.2)

/-- A block whose data is on media enters the map. -/
def State.mapFound (s : State) (e : Expo) (units : List DUnit) (b : XBlk) : State :=
  match e.unitIn units b with
  | some u => s.setMap e.nsid b.lba e.seq { content := if u.poisoned then .lost else .data u.data, row := e.row, off := b.off
                                            pieceLen := e.pieceLen b.lba, pieceIdx := (b.lba - e.slba) % 64 }
  | none => s

/-- Blocks of posted writes that are not found are lost (R264): counted and recorded. -/
def State.loseBlocks (s : State) (e : Expo) (bs : List XBlk) : State :=
  if bs.isEmpty then s
  else
    let s := s.each bs fun s (b : XBlk) => s.setMap e.nsid b.lba e.seq { content := .lost, row := e.row, off := b.off }
    let s := (s.countLost e.nsid bs.length).log Code.hole 2 0x201 (e.nsid :: bs.map (·.lba))
    { s with mgmt := { s.mgmt with dataLost := true } }

/-- The Sieve entry of a restored write, so that reads take its data from Far Hamper (R130): an internal one, since no
command holds it. (DEDUCED, log entry 42.) -/
def State.holdRestored (s : State) (e : Expo) : State :=
  (s.insertEntry { lo := e.slba, hi := e.slba + e.nlb - 1, scope := scopeNs e.nsid, prio := 0x40, payload := 0x8000 }
    { seq := e.seq, nsid := e.nsid, supply := 1 } true).2

/-- One write-like command at the rebuild. What is on media with its parity enters the map; what is not goes back to Far
Hamper, exposure as exposure and parked units as parked ones. With an unknown exposure only the media count.
(DEDUCED, log entry 42.)
(DEDUCED, log entry 43.) -/
def State.rebuildExpo (s : State) (units : List DUnit) (known : Bool) (e : Expo) : State :=
  if !(s.expoStands e) then s
  else if e.zeros then
    if known || e.zerosDurable then
      s.each (List.range e.nlb) fun s k => s.setMap e.nsid (e.slba + k) e.seq {}
    else s
  else
    let posted := known && e.posted
    let z := s.zoneAt e.nsid (e.slba / zoneBlocks)
    let below := fun (b : XBlk) => !(s.ns e.nsid).zoned || decide (b.lba % zoneBlocks < z.wp)
    let keep := fun (b : XBlk) => below b && e.keeps units posted b
    let lost := if posted then e.blocks.filter fun b => !(keep b) else []
    let s := s.loseBlocks e lost
    if known then
      let s := s.each (e.ready.filter keep) fun s b => s.mapFound e units b
      let l := s.restoreBlocks e units (e.left.filter keep)
      let p := l.2.restoreBlocks e units (e.parked.filter keep)
      let s : State := p.2
      let y : Expo := { e with left := l.1, ready := [], parked := p.1, dataIn := true, posted := true, pieces := e.nlb / 64 + 1 }
      if l.1.isEmpty ∧ p.1.isEmpty then s
      else ({ s with trail := { s.trail with expos := s.trail.expos ++ [y] } } : State).holdRestored y
    else s.each (e.blocks.filter keep) fun s b => s.mapFound e units b

/-! ### An unknown exposure: only the Trail and the tag scan (R264) -/

/-- The first unit of a row that is not on media. -/
def RowRec.firstGap (x : RowRec) : Nat := (firstFrom (fun u => !(x.done.contains u)) 0 (x.done.length + 1)).getD 0

/-- A zone whose row or last Reset the durable records do not hold goes back to what they do hold.
(DEDUCED, log entry 42.) -/
def State.revertZone (s : State) (nsid z : Nat) : State :=
  let old := (s.trail.saved.get {} nsid).zones.get {} z
  let now := s.zoneAt nsid z
  if now.row = old.row ∧ now.resetSeq = old.resetSeq then s
  else
    let s := match now.row with
      | some r => s.releaseRow r nsid 0 0 0
      | none => s
    let s := match old.row with
      | some r =>
        let s := (s.modGroup r.group fun x => { x with bound := x.bound ++ [r.row] }).modRow r fun x => { x with orphan := false }
        { s with flash := { s.flash with
          relWaits := s.flash.relWaits.filter fun w => w.row ≠ r, releasing := s.flash.releasing.filter (· ≠ r) } }
      | none => s
    let entries := (s.trail.saved.get {} nsid).map.filter fun b => b.1 / zoneBlocks = z
    let s := s.modNs nsid fun n => { n with map := n.map.keep fun lba _ => decide (lba / zoneBlocks ≠ z) }
    let s := s.each entries fun s b => s.modBlk nsid b.1 fun _ => b.2
    s.modZone nsid z fun _ => old

/-- The zones after a loss of the whole exposure: as the Trail holds them, their data as far as it is on media.
(DEDUCED, log entry 42.) -/
def State.revertZones (s : State) : State :=
  let zs := s.zone.nss.flatMap fun n => if n.2.exists_ && n.2.zoned then n.2.zones.map fun z => (n.1, z.1) else []
  s.each zs fun s x =>
    let s := s.revertZone x.1 x.2
    let z := s.zoneAt x.1 x.2
    match z.row with
    | some r =>
      let u := (s.rowRec r).firstGap
      if decide ((s.rowRec r).issued ≤ u) ∨ z.wp ≤ unitStart (s.group r.group).geo true u then s
      else s.cutZone x.1 x.2 (unitStart (s.group r.group).geo true u)
    | none => s

/-! ### Rows go on -/

/-- Operations of a row that a reset took from the die scheduler: erases of substitutes, units issued and not programmed,
trailers, parity. (DEDUCED, log entry 43.) -/
def State.reissueRow (s : State) (r : RowRef) : State :=
  let x := s.rowRec r
  let w := 16 * (s.group r.group).geo.wordlines
  let units := (List.range (min x.issued w)).filter fun u => !(x.done.contains u)
  let trailers := if x.trailerQueued then (List.range 16).filter fun k => !(x.trailer.contains k) else []
  let s := s.modRow r fun y => { y with
    parityQueued := y.parity.map (·.1), verifyPending := false, verifying := y.verifying && !y.verifyPending }
  let s := s.each (s.group r.group).dies fun s d => s.eraseSubst d r.row
  let s := s.each units fun s u => s.queueUnit r u false
  let s := s.each trailers fun s k => s.queueUnit r (w + k) false
  let s := s.each (List.range (ceilDiv (s.unitsIn r) 16)) fun s k => s.parityCheck r k
  -- the copy being made into a kept parity row, and a verify, which begins again (R180, R181)
  let copy := if s.isKept r then match (s.keptAt r).bind fun k => k.pending with
      | some p => (s.keptUnits p).filter fun u => !((s.rowRec r).done.contains u)
      | none => []
    else []
  let s := s.each copy fun s u => s.queueUnit r u true
  if s.flash.verifyQ.contains r then s.scanRow r else s.verifyCheck r

/-- Released SLC blocks, and spares that wait for their erase, are erased (R172). -/
def State.eraseRegions (s : State) : State :=
  s.each (s.flash.blocks.filter fun b => b.2.st = .dirty && (b.2.slc || decide (b.2.role = 0)) && !(s.die (b.1 / 32768)).retired)
    fun s b => s.enqueue (b.1 / 32768) { kind := .erase, plane := b.1 / 4096 % 8, phys := [b.1 % 4096] }

/-- Every bound row's programs go on; released rows are recorded again, and erased once that is durable (R257).
(DEDUCED, log entry 44.) -/
def State.resumePrograms (s : State) : State :=
  let s := s.mendTorn.eraseRegions
  let out := s.flash.releasing ++ s.flash.relWaits.map (·.row)
  let rows := (s.flash.rows.map fun x => rowOfKey x.1).filter fun r => !(out.contains r)
  let s := s.each rows State.reissueRow
  let s := s.each rows fun s r => match s.endOf r with
    | some e => s.driveRow r e
    | none => s
  let s := s.each s.flash.releasing fun s r => s.trailRec (.rowRelease r.group r.row (s.group r.group).geo.planes)
  s.driveWaiting

/-- Open zones go to ZSC (Table 8.9, stage 7). -/
def State.closeOpenZones (s : State) : State :=
  let zs := s.zone.nss.flatMap fun n => (n.2.zones.filter fun z => z.2.st.isOpen).map fun z => (n.1, z.1)
  s.each zs fun s x => (s.modZone x.1 x.2 fun z => { z with st := .zsc }).trailRec (.zone x.1 x.2)

/-- The next admission sequence lies above every one that the tables or the exposure hold. (DEDUCED, log entry 45.) -/
def State.nextSeq (s : State) : Nat :=
  let zones := s.zone.nss.flatMap fun n => n.2.zones.map fun z => max z.2.lastSeq z.2.resetSeq
  let blocks := s.zone.nss.flatMap fun n => n.2.map.map fun b => b.2.seq
  (zones ++ blocks ++ s.trail.expos.map (·.seq)).foldl max 0 + 1

/-! ### The stages together -/

/-- PWR_LOSS_STATUS after the rebuild, the reports of R264, the record of the result. (DEDUCED, log entry 46.) -/
def State.rebuildReports (s : State) (path : Nat) (lost : Bool) (info : BootInfo) : State :=
  let complete := s.trail.dump.any (·.marker)
  let s := s.setReg Reg.PWR_LOSS_STATUS_LAST (if path = 2 then (if complete && !info.headerLost then 2 else 3) else path)
  let s := s.setReg Reg.PWR_LOSS_STATUS_LOST (b2n lost)
  let s := s.setReg Reg.PWR_LOSS_STATUS_BROWNOUT (b2n (path = 2 && s.trail.brownEnd))
  let s := if path = 2 then s.log Code.dumpResult (if lost then 5 else 2) 0x201 [path, b2n complete, b2n lost] else s
  if lost then ({ s with mgmt := { s.mgmt with dataLost := true } }).report 0x201 0x4F 0 2 else s

/-- Step 9 of start-up (Table 8.9). (DEDUCED, log entry 44.) (DEDUCED, log entry 46.) -/
def State.rebuild (s : State) (info : BootInfo) : State :=
  let path := s.startPath
  let known := s.exposureKnown info || decide (path = 0)
  let units := s.unitsFound info
  let next := s.nextSeq
  let before := s.zone.dieSets.map fun d => d.2.lostBlocks
  let unknown := !known && s.trail.expos.any fun e => !e.failed && !e.left.isEmpty
  let complete := s.trail.dump.any (·.marker)
  -- the Trail tail of a dump is applied like any flush (R245, R262)
  let told := known && s.trail.dump.any fun d => d.tail
  let s := if told then s.each s.trail.half.reverse State.recDurable else s
  let tail := if told then s.trail.half else []
  let s := if path = 2 && known then s.restoreHashes (s.trail.dump.map (·.hash)).toList.flatten else s
  let s := { s with trail := { s.trail with half := [], durable := tail ++ s.trail.durable } }
  let s := if known then s else s.revertZones
  let zs := (s.trail.expos.filter fun e => (s.ns e.nsid).zoned && s.expoStands e).map fun e => (e.nsid, e.slba / zoneBlocks)
  let cuts := zs.dedup.map fun x => (x.1, x.2, s.zoneCut units known x.1 x.2)
  let s := s.each cuts fun s x => s.cutZone x.1 x.2.1 x.2.2
  let expos := s.trail.expos
  let s := { s with trail := { s.trail with expos := [] }, intake := { s.intake with seqNext := max s.intake.seqNext next } }
  let s := s.each expos fun s e => s.rebuildExpo units known e
  let lost := unknown || s.zone.dieSets.map (fun d => d.2.lostBlocks) ≠ before
  let s := s.rebuildReports path lost info
  let wseq := if path = 2 then s.trail.wseqReserved else s.trail.wseq
  let s := { s with
    trail := { s.trail with
      mediaUnits := [], toRestore := false, wseq := wseq
      wseqReserved := if path = 2 then wseq + 2 ^ 32 else s.trail.wseqReserved
      dumpUnits := if known then s.trail.dumpUnits else []
      dump := if known then s.trail.dump else none
      park := if known then s.trail.park else none
      recordedTs := match s.trail.dump with
        | some d => if path = 2 && known && d.timestamp ≠ 0 then some d.timestamp else s.trail.recordedTs
        | none => s.trail.recordedTs }
    mgmt := { s.mgmt with unsafeStops := s.mgmt.unsafeStops + b2n (path = 2 && !complete) } }
  -- a dump row that holds what is not released yet stays; what no dump names is erased and armed again (stage 6)
  let held := known && s.trail.dump.isSome
  let groups : Tab Group := s.zone.groups.mapVals {} fun _ (g : Group) => { g with dumpHeld := g.dumpHeld && held }
  let s := { s with zone := { s.zone with groups := groups } }
  let s := if held then s else s.releaseDump (s.flash.dies.map (·.1))
  let s := if path = 2 then s.trailRec (.wseqReserve s.trail.wseqReserved) else s
  s.closeOpenZones

end Sys2Proof.Machine
end

