-- ==== Sys2Proof/Machine/Sieve.lean ====
section
/-!
DEFINITION. Meanings of the rows of the Sieve: rule changes, scrub, diagnostics (spec/04_sieve.md).
-/

namespace Sys2Proof.Machine

/-- SIEVE_RULE_INSERT (R108, R121): refused by its fields or for a full region; while 32 changes are queued the
requesting firmware waits. With `replace` the rule at the position gets new fields. A placement rule comes from the
namespace's handle list, which the map and zone tables hold, so that function reports its refusal (DEDUCED, log entry 82).
(DESIGN CHOICE, log entry 103.) -/
def execSieveRuleInsert (pos lo hi scope prio payload : Nat) (access replace : Bool) (s : State) : Res :=
  let e : Ent := { lo := lo, hi := hi, scope := scope, prio := prio, payload := payload, valid := true }
  if s.entryRefused e access then
    .next (if access then s.ruleReply pos 1 else (s.ruleReply pos 1).report 0x202 0x15 0x202 2)
  else if 32 ≤ s.sieve.shifts.length then .next s
  else if replace then
    if s.rulesAfter ≤ pos then .next (s.ruleReply pos 1)
    else .next (s.queueRule { op := .replace, pos := pos, ent := e, access := access })
  else if s.ruleRoom ≤ s.rulesAfter then .next (s.ruleReply pos 1)
  else .next (s.queueRule { op := .insert, pos := pos, ent := e, access := access })

/-- SIEVE_RULE_REMOVE (R121). -/
def execSieveRuleRemove (pos : Nat) (s : State) : Res :=
  if 32 ≤ s.sieve.shifts.length then .next s
  else if s.rulesAfter ≤ pos then .next (s.ruleReply pos 1)
  else .next (s.queueRule { op := .remove, pos := pos })

/-- SIEVE_SHIFT_COMPLETE (R120, R121): the running shift ends, and the next change begins.
(DESIGN CHOICE, log entry 103.) -/
def execSieveShiftComplete (s : State) : Res := .next s.endShift

/-- The latest event of the array (Table 4.12). -/
def State.sieveFault (s : State) (pos kind : Nat) : State :=
  ((s.setReg Reg.SIEVE_LAST_FAULT_POS pos).setReg Reg.SIEVE_LAST_FAULT_KIND kind).setReg Reg.SIEVE_LAST_FAULT_VALID 1

/-- SIEVE_SHADOW_REWRITE_DONE (R124): the owner has rewritten both copies, so the position's results are returned again;
the lookup that waited is repeated by the command's own row. -/
def execSieveShadowRewriteDone (pos : Nat) (s : State) : Res :=
  let s := { s with sieve := { s.sieve with unverified := s.sieve.unverified.filter (· ≠ pos) } }
  .next ((s.sieveFault pos 4).report 0x1A1 0x12 pos 1)

/-- SIEVE_SCRUB_STEP (R125): `mismatch` is 0 for none, 1 for one that the repair ends, 2 for one it does not. -/
def execSieveScrubStep (mismatch : Nat) (s : State) : Res :=
  let p := s.sieve.scrubPos
  let s := { s with sieve := { s.sieve with scrubPos := (p + 1) % 65536 } }
  if mismatch = 0 then .next s
  else
    let s := (s.bump Reg.SIEVE_SCRUB_COUNT_COUNT).report 0x1A1 0x13 p 0
    if mismatch = 1 then .next (s.sieveFault p 3)
    else .next (((s.sieveFault p 2).retirePos p).report 0x1A1 0x11 p 1)

/-- Bits 135 to 0 of an entry (Table 4.1). -/
def Ent.word (e : Ent) : Nat :=
  e.lo + e.hi * 2 ^ 48 + e.scope * 2 ^ 96 + e.prio * 2 ^ 108 + e.payload * 2 ^ 116 + b2n e.valid * 2 ^ 132 +
    b2n e.retiring * 2 ^ 133

/-- SIEVE_DIAG_CAPTURE (R134, Table 4.15): the check bits of the shadow copy are a value the spec does not give
(DESIGN CHOICE, log entry 2); from the cells they read as 0. -/
def State.sieveCapture (s : State) (pos src : Nat) : State :=
  let p := pos % 65536
  let (ecc, s) := if src = 1 then s.free else (0, s)
  let w := (s.ent p).word + ecc % 512 * 2 ^ 136
  let s := { s with sieve := { s.sieve with diag := some (s.ent p) } }
  (((((((s.setReg Reg.SIEVE_DIAG_POS_POS p).setReg Reg.SIEVE_DIAG_POS_SRC (src % 2)).setReg
    Reg.SIEVE_DIAG_POS_READY 1).setReg Reg.SIEVE_DIAG_DATA0_ENTRY (bits w 0 32)).setReg
    Reg.SIEVE_DIAG_DATA1_ENTRY (bits w 32 32)).setReg Reg.SIEVE_DIAG_DATA2_ENTRY (bits w 64 32)).setReg
    Reg.SIEVE_DIAG_DATA3_ENTRY (bits w 96 32)).setReg Reg.SIEVE_DIAG_DATA4_ENTRY (bits w 128 17)
def execSieveDiagCapture (pos src : Nat) (s : State) : Res := .next (s.mgmtWrite 0x7040 fun s => s.sieveCapture pos src)

end Sys2Proof.Machine
end

