-- ==== Sys2Proof/Machine/OpsBoot.lean ====
section
/-!
DEFINITION. The boot sequence (R479 to R483): slot choice (R487, R469), Bisque mode (R499), the configuration image in
force, discovery (R141), the rebuild of what the planes hold, PCIe ready.
-/

namespace Sys2Proof

/-- The die offers every feature of Table 5.2 and has trained at a rate of Table 5.1 (R135). -/
def DieSpec.passes (x : DieSpec) : Bool :=
  x.onfi && x.slcMode && decide (x.pageUser = 16384) && decide (1664 ≤ x.pageSpare) && (decide (x.planes = 4) || decide (x.planes = 6)) &&
    x.multiPlane && x.splitProgram && decide (8 ≤ x.suspends) && decide (16 ≤ x.retrySets) && decide (2 ≤ x.softBits) &&
    decide (x.sensor ≤ 3) && decide (2 ≤ x.paramCopies) && x.status && decide (x.unitBlocks = 16 * x.planes) && !x.trains.isEmpty

/-- The die's parameters meet every limit of Table 5.3 (R136). -/
def DieSpec.latencyOk (x : DieSpec) : Bool :=
  decide (x.tRead ≤ 60) && decide (x.tSlcRead ≤ 25) && decide (x.tPass ≤ 1450) && decide (x.tSlcProgram ≤ 200) &&
    decide (x.tErase ≤ 4000) && decide (x.tSuspend ≤ 50) && decide (x.tResume ≤ 10)

/-- The die advertises the Cerzor training extension for 4,800 MT/s, and every bit has its eye margin (R139). -/
def DieSpec.extended (x : DieSpec) : Bool :=
  decide (x.capSignature = [0x43, 0x5A, 0x4C, 0x58]) && decide (x.capRate = 5) && decide (15 ≤ x.margin)

end Sys2Proof

namespace Sys2Proof.Machine

/-! ### Ends of the sequence -/

/-- The start-up record (R482): kept for BOOT_TIMES and written to the Kiln Log. -/
def State.bootRecord (s : State) (path last : Nat) (info : BootInfo) : State :=
  let copies := ([0, 1, 2, 3].filter fun c => !(info.bootDead.contains c) && !(s.boot.copiesLost.contains c)).map fun c => 2 ^ c
  let cfg := match s.mgmt.inForce with
    | some k => k + 1
    | none => 0
  let r : BootRec := { path := path, fwSlot := s.boot.running, cfgSlot := cfg, copies := copies.sum, dramRate := s.dram.rate
                       lastStep := last, stepEnds := info.stepEnds.take last }
  ({ s with boot := { s.boot with record := r } }).log Code.powerOn 1 0x300 r.words

/-- A start-up failure (Table 19.6): kind BOOT with the step in ADDRESS. -/
def State.bootFault (s : State) (step cls : Nat) : State := s.report 0x300 0x53 step cls

/-- The ROM stops (Table 19.6): PATH 4. (DEDUCED, log entry 39.) -/
def State.bootStop (s : State) (step : Nat) (info : BootInfo) : State :=
  let s := (s.bootFault step 2).bootRecord 4 (step - 1) info
  { s with boot := { s.boot with phase := .stopped } }

/-- Steps 3 and 4 of the Grave sequence where nothing runs (Table 17.6): STOP, ISOLATE, the Grave hold.
(DEDUCED, log entry 39.) -/
def State.enterHold (s : State) : State :=
  let lines : Lines := { s.fault.lines with stop := true, isolate := true }
  let s : State := { s with
    fault := { s.fault with graveStopped := true, graveHold := true, lines := lines }
    boot := { s.boot with phase := .graveHold } }
  s.holdDomains

/-- Bisque mode (R499). -/
def State.enterBisque (s : State) (step : Nat) (info : BootInfo) : State :=
  let s := { s with boot := { s.boot with phase := .bisque, running := 0 }, mgmt := { s.mgmt with inForce := none } }
  (s.bootFault step 2).bootRecord 3 step info

/-! ### Steps 3 to 5: the Boot Area and its slots -/

/-- The firmware slots in the order of R487. -/
def State.slotOrder (s : State) : List Nat :=
  let with_ := fun (st : Nat) => [1, 2].filter fun k => (s.fwSlot k).st = st
  let valid := with_ slotValid
  let a := s.fwSlot 1
  let b := s.fwSlot 2
  let second := a.hdr.release < b.hdr.release || (a.hdr.release = b.hdr.release && decide (a.seq < b.seq))
  with_ slotTrial ++ with_ slotConfirmed ++ (if valid.length = 2 && second then [2, 1] else valid)

/-- The first slot that is accepted (R487, R491; `bad` names slots whose bytes no longer have their digests): a Trial slot's attempt is counted before it is loaded; one with three attempts,
or a slot that is refused, becomes Failed. -/
def State.chooseSlot (s : State) (bad : List Nat) : List Nat → Option Nat × State
  | [] => (none, s)
  | k :: rest =>
    let trial := (s.fwSlot k).st = slotTrial
    if trial ∧ 3 ≤ s.boot.attempts then ((s.markSlot k slotFailed).bootFault 4 2).chooseSlot bad rest
    else
      let s := if trial then s.setAttempts (s.boot.attempts + 1) else s
      if !(s.fwHeaderOk (s.fwSlot k).hdr) then ((s.markSlot k slotFailed).bootFault 4 1).chooseSlot bad rest
      else if bad.contains k ∨ !(s.fwChainOk (s.fwSlot k).hdr (s.fwSlot k).chain) then
        ((s.markSlot k slotFailed).bootFault 5 1).chooseSlot bad rest
      else (some k, s)

/-- The configuration slots, the higher IMAGE_SEQ first (R469). -/
def State.cfgOrder (s : State) : List (Nat × CfgSlot) :=
  match s.mgmt.slots.get none 0, s.mgmt.slots.get none 1 with
  | some a, some b => if a.hdr.imageSeq < b.hdr.imageSeq then [(1, b), (0, a)] else [(0, a), (1, b)]
  | some a, none => [(0, a)]
  | none, some b => [(1, b)]
  | none, none => []

def State.chooseCfg (s : State) (bad : List Nat) : List (Nat × CfgSlot) → Option (Nat × CfgSlot) × State
  | [] => (none, s)
  | (k, x) :: rest =>
    if !(s.cfgHeaderOk x.hdr) then (s.bootFault 4 1).chooseCfg bad rest
    else if bad.contains k ∨ !(s.cfgChainOk x.hdr x.chain) then (s.bootFault 5 1).chooseCfg bad rest
    else (some (k, x), s)

/-- A slot that was being written when power was lost counts as Empty (Table 19.8). -/
def State.dropWriting (s : State) : State :=
  let slots : Tab FwSlot := s.boot.slots.mapVals ({} : FwSlot) fun _ (x : FwSlot) => if x.st = slotWriting then ({} : FwSlot) else x
  { s with boot := { s.boot with slots := slots } }

/-! ### Step 6: the image in force -/

/-- The sizes of R319, which a start-up after a power loss leaves as they were. -/
def sizeFields : List Nat := [Cfg.HMP_FAR_SIZE, Cfg.HMP_FAR_INTERNAL]

/-- The image's fields, and the defaults of those it leaves out (R469, R527). -/
def State.loadImage (s : State) (k : Nat) (x : CfgSlot) : State :=
  let kept := if s.startPath = 2 then s.cfg.filter fun e => sizeFields.contains (e.1 / 4096) else []
  let s := { s with cfg := kept, cfgStaged := [], mgmt := { s.mgmt with inForce := some k, forceAt := s.now, staticWait := 0 } }
  s.each (if kept.isEmpty && s.startPath ≠ 2 then x.recs else x.recs.filter fun (r : CfgRec) => !(sizeFields.contains r.id)) fun s (r : CfgRec) =>
    s.setCfg r.id r.idx r.value

/-- The persisted tenant settings (R367): every tenant Offline with its resources. (DEDUCED, log entry 19.) -/
def State.restoreTenants (s : State) : State :=
  let second := if s.boot.dualPort then some (s.cfgOf Cfg.PCIE_SEC_FIRST) else none
  let s := { s with tenant := { s.tenant with second := second } }
  s.each s.tenant.saved fun s (e : Nat × SavedInst) =>
    let x : SavedInst := e.2
    let y : Inst := { vq := x.vq, vi := x.vi, sieveQuota := x.sieveQuota, nrQuota := x.nrQuota, nrShare := x.nrShare
                      fwQuota := x.fwQuota, fwShare := x.fwShare, keyQuota := x.keyQuota, flags := x.flags, dieSets := x.dieSets }
    if e.1 = 0 then s else (s.setCfg Cfg.INTAKE_WEIGHT e.1 x.weight).modInst e.1 fun _ => y

/-- The pools of Table 10.3 in the sizes of the image, less the macro groups out of service (R307, R319).
(DEDUCED, log entry 81.) -/
def State.sizePools (s : State) : State :=
  let ni := s.cfgOf Cfg.HMP_NEAR_INTERNAL
  let fi := s.cfgOf Cfg.HMP_FAR_INTERNAL * 256
  let out := Tab.count (fun _ g => g.out) s.fixity.groups
  let pools : Tab Pool := [(0, { size := 512 }), (1, { size := 11776 - ni - 128 * out }), (2, { size := ni }),
    (3, { size := s.cfgOf Cfg.HMP_FAR_SIZE * 262144 - fi - 2048 }), (4, { size := fi }), (5, { size := 2048 })]
  { s with hamper := { s.hamper with pools := pools, units := [] } }

/-! ### Step 8: discovery (R141) -/

/-- A die that passes discovery. On the first start every die goes on the list. (DEDUCED, log entry 41.) -/
def State.dieFound (s : State) (first : Bool) (x : DieSpec) : State :=
  if !(dieNameOk x.name) ∨ !x.ready then s
  else if !x.passes then s.modDie x.name fun y => { y with fitted := true }
  else
    let geo : Geometry := { planes := x.planes, unitBlocks := x.unitBlocks, wordlines := x.wordlines, blocksPerPlane := x.blocksPerPlane }
    s.modDie x.name fun y =>
      if y.listed ∨ y.inGroup then { y with fitted := true, present := true, plmOk := x.latencyOk }
      else { y with fitted := true, present := true, plmOk := x.latencyOk, listed := first, geo := geo }

/-- The rate of a channel in MT/s (R137, R139, Table 5.4 steps 3 to 5): the highest at which every die has trained, and a
step lower for a check that fails; 4,800 with the extension on every die. 0 where no rate is left. -/
def channelRate (xs : List DieSpec) (ext : Bool) : Nat :=
  let onfi := [3600, 3200, 2400, 1600].filter fun r => xs.all fun x => x.trains.contains r
  let top := ext && onfi.contains 3600 && xs.all fun x => x.extended
  (((if top then [4800] else []) ++ onfi).find? fun r => xs.all fun x => !(x.checkFails.contains r)).getD 0

/-- The rate of a channel with dies; after a failed retrain it stays at 3,600 MT/s (R140). The domain of a channel without
dies is kept off (R141). (DESIGN CHOICE, log entry 40.) -/
def State.channelFound (s : State) (info : BootInfo) (c : Nat) : State :=
  if (s.channelDies c).isEmpty then { s with power := { s.power with domains := s.power.domains.upd {} c fun d => { d with st := 3 } } }
  else
    let xs := info.dies.filter fun x => decide (channelOf x.name = c) && (s.die x.name).present && x.ready && x.passes
    s.modChan c fun ch =>
      { ch with rate := if xs.isEmpty then 0 else channelRate xs (s.reg Reg.FBE_CFG_RATE_EXT_EN = 1 && !ch.fallback), dies := xs.length }

def State.discover (s : State) (info : BootInfo) : State :=
  let first := s.flash.dies.all fun d => !d.2.listed
  let dies : Tab Die := s.flash.dies.mapVals {} fun _ (d : Die) => { d with present := false, fitted := false }
  let s := { s with flash := { s.flash with dies := dies } }
  let s := s.each info.dies fun s x => s.dieFound first x
  let boot := [0, 1, 2, 3].filterMap fun c => (s.channelDies c).find? fun d => (s.die d).present
  let s := { s with flash := { s.flash with bootDies := if s.flash.bootDies.isEmpty then boot else s.flash.bootDies } }
  let s := (s.each (List.range 64) fun s c => s.channelFound info c).formGroups false
  let plan := s.planOf s.zone.capConfig
  if s.zone.nss.any fun n => n.2.exists_ && !(plan.contains (n.2.dieSet, (s.dieSet n.2.dieSet).groups)) then s
  else s.formSets s.zone.capConfig

/-- Dies on the list that failed discovery are failed dies (R206). -/
def State.missingDies (s : State) : State :=
  s.each ((s.flash.dies.filter fun d => d.2.listed && !d.2.present && !d.2.retired).map (·.1)) State.dieFails

/-! ### The Kiln Log (R459) -/

/-- The ring refilled from the persisted area at a cold power-on; what has been recorded since follows it.
(DEDUCED, log entry 38.) -/
def State.refillRing (s : State) : State :=
  let old := fitNewest ringBytes ((s.klog.segments.reverse.flatMap (·.recs)).map fun (r : Rec) => { r with saved := true })
  match old.getLast? with
  | none => s
  | some r =>
    let next := r.seq + 1
    let new := s.klog.ring.zipIdx.map fun (x : Rec × Nat) => { x.1 with seq := (next + x.2) % 65536 }
    let s := { s with klog := { s.klog with ring := old ++ new } }
    (s.setReg Reg.KLOG_SEQ_NEXT ((next + new.length) % 65536)).setReg Reg.KLOG_SEQ_SAVED r.seq

/-! ### The steps -/

/-- Step 6: the image in force, the tenants' settings, the root keys unless an alarm stands (R299), the pools. -/
def State.bootLoad (s : State) (k : Nat) (x : CfgSlot) : State :=
  let s := (s.loadImage k x).restoreTenants
  (if s.glaze.alarm.isSome then s else s.deriveKeys).sizePools

/-- The tests before a domain's first use: failed checkers, and after a cold power-on the positions of the Sieve's array
that fail (R126, R238). -/
def State.selfTests (s : State) (info : BootInfo) (cold : Bool) : State :=
  let s := s.each info.checkersBad fun s f => s.checkerFailed f.1 f.2
  if cold then s.each info.sieveBad fun s p => s.retirePos p else s

/-- The rate of R322: the highest up to CFG_DMC_RATE_MAX at which every subchannel trains; 0 where none does. -/
def State.dramRateOf (s : State) (trains : List Nat) : Nat :=
  (dramRates.find? fun r => decide (r ≤ s.cfgOf Cfg.DMC_RATE_MAX) && trains.contains r).getD 0

/-- Step 7: the rate that trained. -/
def State.bootDram (s : State) (trains : List Nat) : State := { s with dram := { s.dram with rate := s.dramRateOf trains } }

/-- A die set's sequential write rating in hundredths of a byte a µs: 718.75 MB/s for each stripe group; below 8,800 MT/s at most
0.327 of the DRAM's throughput (R322, R496). (DEDUCED, log entry 115.) -/
def State.writeRating (s : State) (groups : Nat) : Nat :=
  let full := groups * 71875
  if s.dram.rate < 8800 then min full (s.dram.rate * 10464 / 10) else full

/-- MTFA in 100 ms (R496): the exposure limit over the smallest rating, 1 s, and steps 3 to 10 on the clean path.
(DEDUCED, log entry 115.) -/
def State.computeMtfa (s : State) : Nat :=
  let ratings := s.zone.dieSets.filterMap fun d => if d.2.groups.isEmpty then none else some (s.writeRating d.2.groups.length)
  match ratings with
  | [] => 0
  | w :: rest => ceilDiv (s.exposureLimit * 409600 / max 1 (rest.foldl min w) + 2253700) 100000

/-- Step 10: the persisted rules, the keys, the programs that go on, the attempt count back to 0. With no good copy of the
key store the controller becomes ready, and a Grave fault is reported (R290). (DEDUCED, log entry 111.) -/
def State.bootFinish (s : State) (noStore : Bool) : State :=
  let s : State := (((s.setRules s.sieve.persisted).loadUnguarded).resumePrograms.post 6 []).post 7 [s.boot.running]
  let s : State := if s.boot.attempts = 0 then s else s.setAttempts 0
  let s : State := { s with
    boot := { s.boot with phase := .ready, replayed := true, readyAt := s.now, mtfa := s.computeMtfa }, intake := { s.intake with idleAt := s.now } }
  if noStore then s.report 0x1C0 0x43 0 3 else s

/-- Steps 6 to 10, with both images accepted. (DEDUCED, log entry 39.) -/
def State.bootRun (s : State) (info : BootInfo) (fw : Nat) (k : Nat) (x : CfgSlot) : State :=
  let path := s.startPath
  let cold := !s.boot.fromStep3
  let s : State := { s with boot := { s.boot with running := fw } }
  if info.clusters < 2 then s.bootStop 6 info
  else if (s.bootLoad k x).dramRateOf info.dramTrains = 0 then
    (((s.bootLoad k x).report 0x1D0 0x3A 0 3).bootRecord 4 6 info).enterHold
  else
    ((((((((s.bootLoad k x).selfTests info cold).bootDram info.dramTrains).discover info).readKeyStore info.keyStoreBad info.bootDead).rebuild info).missingDies.reserveCheck).bootFinish
      (s.noKeyStore info.keyStoreBad info.bootDead)).bootRecord
      path 10 info

/-- Step 3 on (R479). -/
def State.bootFrom3 (s : State) (info : BootInfo) : State :=
  let s := { s with boot := { s.boot with waiting := none, phase := .down } }
  let dead := info.bootDead.filter fun c => decide (c < 4) && !(s.boot.copiesLost.contains c)
  if [0, 1, 2, 3].all fun c => dead.contains c || s.boot.copiesLost.contains c then s.bootStop 3 info
  else
    let s := if dead.isEmpty then s else s.bootFault 3 1
    let s := s.dropWriting
    let f := s.chooseSlot info.fwBad s.slotOrder
    let c := f.2.chooseCfg info.cfgBad f.2.cfgOrder
    let t : State := c.2
    match f.1, c.1 with
    | some fw, some x => t.bootRun info fw x.1 x.2
    | _, _ => t.enterBisque 5 info

/-- A counter's main row one bit ahead of its mirror: step 1 programs the bit into the mirror (R507). -/
def State.mendMirror (s : State) (row : Nat) : State :=
  if onesIn (s.otpRow row) 0 512 = onesIn (s.otpRow (row + 1)) 0 512 + 1 then s.programOtp (row + 1) (s.otpRow row) else s

/-- Steps 1 and 2, and what may hold the ROM before step 3 (R453, R499, R507, R514, R516). (DEDUCED, log entry 37.) -/
def State.bootFrom1 (s : State) (cold : Bool) (info : BootInfo) : State :=
  match (if info.otpOk then s.otpFailure else some 0) with
  | some row =>
    let s := { s with boot := { s.boot with otpHold := true } }
    ((s.report 0x1C5 0x52 row 3).bootRecord 4 0 info).enterHold
  | none =>
    let s := ((s.mendMirror 9).mendMirror 11).otpOneBad
    if !info.checkersOk then
      let s := (s.report 0x300 0x33 0 2).bootRecord 4 1 info
      { s with boot := { s.boot with phase := .stopped } }
    else if s.fault.grave then s.enterHold
    else
      let s := if cold then s.refillRing else s
      if info.svcLow then s.enterBisque 2 info
      else if s.boot.pwrfailLow ∨ s.boot.pwrdis then { s with boot := { s.boot with phase := .romWait, waiting := some info } }
      else s.bootFrom3 info

/-- The straps and pins at the release of the AON reset (R514, R516, R520). -/
def State.sampleStraps (s : State) (info : BootInfo) : State :=
  { s with boot := { s.boot with
    dualPort := info.dualPort, ssc := info.ssc, testHeld := decide (info.test ≠ 0)
    pwrfailLow := info.pwrfailLow, pwrdis := info.pwrdisHigh } }

end Sys2Proof.Machine
end

