-- ==== Sys2Proof/Machine/Boot.lean ====
section
/-! DEFINITION. The meaning of BOOT_SEQUENCE (spec/19_startup_update_service.md). -/

namespace Sys2Proof.Machine

/-- BOOT_SEQUENCE (R479): from the release of the AON reset, or after a controller reset from its step. In any other phase
power has been away: a cold power-on. With a test strap set no step runs (R520). In the Grave state a controller reset gets
no further than step 2 (R453). (DESIGN CHOICE, log entry 7.) (DEDUCED, log entry 31.) -/
def execBootSequence (info : BootInfo) (s : State) : Res :=
  .next (
    if s.boot.phase = .down then
      if s.boot.fromStep3 then (if s.fault.grave then s.enterHold else s.bootFrom3 info) else s.bootFrom1 false info
    else
      let s := if s.boot.phase = .fresh then s else s.restart true
      let s := s.sampleStraps info
      if s.boot.testHeld then s else s.bootFrom1 true info)

end Sys2Proof.Machine
end

