-- ==== Sys2Proof/Machine/Cone.lean ====
section
/-! DEFINITION. Meanings of the rows of Cone and of the housekeeping round (spec/16_cone_thermal.md). Temperatures are
in 1/1000 °C, powers in mW. -/

namespace Sys2Proof.Machine

/-! ### The model (R435, R436) -/

/-- r(i,j) in m°C/W and τ(i) in ms: CFG_CONE_MODEL's indexes 24 i + j and 576 + i, else the reference set. -/
def State.coneR (s : State) (i j : Nat) : Nat := (s.cfgNamed Cfg.CONE_MODEL (24 * i + j)).getD (Config.coneR i j)
def State.coneTau (s : State) (i : Nat) : Nat := max 20 ((s.cfgNamed Cfg.CONE_MODEL (576 + i)).getD (Config.coneTau i))

/-- A working diode's reading; none for a failed one. -/
def State.diodes (s : State) : List Int :=
  (if s.cone.failed.contains 0 then [] else [s.cone.diode0]) ++ (if s.cone.failed.contains 1 then [] else [s.cone.diode1])

/-- The higher diode reading. -/
def State.diodeMax (s : State) : Int := s.diodes.foldl max (s.diodes.headD 0)

/-- One node after a round: moved towards its target, a Bay node at least its higher ring monitor less 5 °C. -/
def State.nodeNext (s : State) (i : Nat) : Int :=
  let t := s.cone.nodes.get 0 i
  let target := s.cone.base + ((List.range 24).map fun j => ((s.coneR i j * s.nodePower j / 1000 : Nat) : Int)).sum
  let t := t + 10 * (target - t) / s.coneTau i
  if i < 8 then max t (max (s.cone.rings.getD (2 * i) (-320)) (s.cone.rings.getD (2 * i + 1) (-320)) * 125 - 5000) else t

/-- The nodes set from a function. -/
def nodesOf (f : Nat → Int) : Tab Int := (List.range 24).foldl (fun t i => t.set 0 i (f i)) []

/-- T of R437 and its source. -/
def State.findHot (s : State) : Nat × Int :=
  let node := (List.range 24).foldl (fun b i => if s.cone.nodes.get 0 b < s.cone.nodes.get 0 i then i else b) 0
  let t := s.cone.nodes.get 0 node
  let d := fun k v (b : Nat × Int) => if !(s.cone.failed.contains k) ∧ b.2 < v then (24 + k, v) else b
  d 1 s.cone.diode1 (d 0 s.cone.diode0 (node, t))

/-- Asserts THERMTRIP_N with its Grave fault (R440); a trip while the persisted log holds an earlier one breaks a
service-life condition (R476). -/
def State.thermalTrip (s : State) (where_ : Nat) : State :=
  let earlier := s.klog.segments.any fun g => g.recs.any fun r => r.code = 0x014D
  let s := if earlier then s.lifeBreak 3 else s
  let s := ({ s with cone := { s.cone with trip := true } }).emit (.reply Port.pin [0])
  s.report 0x303 0x4D where_ 3

/-- Percent of a throttle law, rounded down. -/
def throttleAt (k : Nat) (t : Int) (limit : Nat) : Int := 100 - (k * (t - limit * 1000) + 999) / 1000

/-- f of R437 and the count of rounds f_j has stood at the floor. -/
def State.throttle (s : State) : State :=
  let k := s.cfgOf Cfg.CONE_K
  let floor := s.cfgOf Cfg.CONE_FLOOR
  let fj := throttleAt k s.cone.hot (s.cfgOf Cfg.CONE_T_THROTTLE)
  let fn := throttleAt k s.cone.nand (s.cfgOf Cfg.CONE_NAND_THROTTLE)
  let f := if s.diodes.isEmpty then floor else (max (floor : Int) (min 100 (min fj fn))).toNat
  { s with cone := { s.cone with f := f, floorRounds := if fj ≤ floor then s.cone.floorRounds + 1 else 0 } }

/-- The steps of VDD_CORE that Cone asks for (R438). -/
def State.coneVoltage (s : State) : State :=
  let step := s.cfgOf Cfg.CONE_AVS_STEP
  let limit : Int := (s.cfgOf Cfg.CONE_T_THROTTLE + s.cfgOf Cfg.CONE_AVS_DELTA) * 1000
  let cool := if s.cone.hot < limit - 3000 then s.cone.coolRounds + 1 else 0
  let s := { s with cone := { s.cone with coolRounds := cool } }
  let cur := s.power.confirmed
  let ask := fun (mv : Nat) =>
    let s' := s.coneStep mv
    if s'.power.avs = s.power.avs then s else { s' with cone := { s'.cone with coolRounds := 0 } }
  if s.cone.trip then s
  else if s.diodes.isEmpty then ask 600
  else if limit ≤ s.cone.hot ∨ 3 ≤ s.cone.floorRounds then ask (max 600 (cur - step))
  else if 10 ≤ cool then ask (min s.coreCeiling (cur + step))
  else s

/-! ### The other figures of a round -/

/-- Ranges of the nine rails in mV (Table 20.2), with the setpoint's for VDD_CORE, and their absolute maximum. -/
def State.railRange (s : State) (k : Nat) : Nat × Nat × Nat :=
  match k with
  | 0 => (s.power.confirmed - 35, s.power.confirmed + 35, 950)
  | 1 => (776, 824, 950)
  | 2 => (776, 824, 950)
  | 3 => (1140, 1260, 1400)
  | 4 => (1067, 1133, 1300)
  | 5 => (727, 773, 900)
  | 6 => (1164, 1236, 1400)
  | 7 => (1710, 1890, 2100)
  | _ => (3135, 3465, 3800)

/-- Rails outside their range by more than the channel's 5 mV. -/
def State.railsOutside (s : State) (rails : List Nat) : List Nat :=
  (rails.zipIdx.filter fun r => decide (r.1 + 5 < (s.railRange r.2).1) || decide ((s.railRange r.2).2.1 + 5 < r.1)).map (·.2)

/-- A wear Refire in a die set (R186): from the least-worn row of a finished zone onto the most-worn free row. -/
def State.wearRefire (s : State) (d : Nat) : State :=
  let x := s.dieSet d
  if (x.running.any fun r => r.reason = .wear) ∨ (x.queue.any fun r => r.reason = .wear) then s
  else
    let top := (x.groups.flatMap fun g => ((s.group g).erases.filter fun e => (s.group g).rowFree (s.releasingIn g) e.1).map (·.2)).foldl max 0
    let full := (s.zonesOf d fun z => z.st = .zsf).filterMap fun z => z.2.2.row.map fun r =>
      ((s.group r.group).erases.get 0 r.row, z.1, z.2.1)
    match full.foldl (fun (b : Option (Nat × Nat × Nat)) z => match b with
      | none => some z
      | some y => if z.1 < y.1 then some z else some y) none with
    | some z => if z.1 + s.cfgOf Cfg.MEDIA_WL_GAP < top then s.queueRefire z.2.1 z.2.2 .wear else s
    | none => s

/-- Spare rows lost since the last round, with the counted second (Table 18.9a). -/
def State.countSpares (s : State) (d : Nat) : State :=
  let n := s.spareRows d
  let before := s.mgmt.spareSeen.get 0 d
  let lost : List (Nat × Nat) := (List.range (before - n)).map fun _ => (d, s.cone.lifeSecs)
  let seen : Tab Nat := s.mgmt.spareSeen.set 0 d n
  { s with mgmt := { s.mgmt with spareLost := s.mgmt.spareLost ++ lost, spareSeen := seen } }

/-- Rounds of 10 ms since the latest one: more than one after a state in which none runs, whose time counts (R55). -/
def State.roundsPassed (s : State) : Nat := max 1 ((s.now - s.cone.roundAt) / 1000000)

/-- What has become due by the ages of the active zones: Finish Zone Recommended, finishes by the controller (R52, R55,
R67). -/
def State.applyAges (s : State) : State :=
  s.each (s.zone.nss.flatMap fun n => (n.2.zones.filter fun z => z.2.st.isActive).map fun z => (n.1, z.1, z.2.age)) fun s z =>
    if roundsOf (s.cfgOf Cfg.ZONE_FINISH_AGE) ≤ z.2.2 then s.controllerFinish z.1 z.2.1
    else if roundsOf (s.cfgOf Cfg.ZONE_FZR_AGE) ≤ z.2.2 then s.recommendFinish z.1 z.2.1
    else s

/-- A die's share of the round at the NAND, in percent (R156). -/
def Die.measured (d : Die) (now : Nat) : Die :=
  { d with util := min 100 (d.busyTo now * 100 / 1000000), busy := 0, since := now }

/-- What every round recomputes, whether or not its conversions are accepted: ages (R55), windows (R161), shares (R312),
utilisation (R156), the ladder's thresholds, wear (R186), percentage used. -/
def State.roundFigures (s : State) : State :=
  let s := s.takeCfg .round fun _ => true
  let n := Tab.count (fun _ x => x.sqs.any fun q => q.1 ≠ 0 && q.2.exists_) s.tenant.insts
  let more := s.roundsPassed
  let nss := s.zone.nss.mapVals {} fun _ (n : Ns) => { n with
    zones := n.zones.mapVals {} fun _ (z : Zone) => if z.st.isActive then { z with age := z.age + more } else z }
  let sets := s.zone.dieSets.mapVals {} fun _ (x : DieSet) =>
    if x.plm.deterministic then x else { x with plm := { x.plm with ndRounds := x.plm.ndRounds + more } }
  let s := { s with
    hamper := { s.hamper with shareN := max 1 n }
    zone := { s.zone with nss := nss, dieSets := sets }
    cone := { s.cone with roundAt := s.now }
    flash := { s.flash with dies := s.flash.dies.mapVals {} fun _ (d : Die) => d.measured s.now } }
  let s := s.applyAges
  let ds := s.zone.dieSets.map (·.1)
  let s := (s.each ds fun s d => ((s.ladder d).wearRefire d).countSpares d).countBins
  { s with flash := { s.flash with pctUsed := ds.foldl (fun t d => t.set 0 d (s.percentUsed d)) s.flash.pctUsed } }

/-- Minutes at the temperature limits are counted in rounds; the temperature events of the instances (R474). -/
def State.temperatureFigures (s : State) : State :=
  let w := s.cfgOf Cfg.CONE_NAND_THROTTLE + 273
  let c := s.composite
  let s := { s with mgmt := { s.mgmt with
    warmRounds := s.mgmt.warmRounds + b2n (decide (w ≤ c)), critRounds := s.mgmt.critRounds + b2n (decide (w + 10 ≤ c)) } }
  s.each ((s.tenant.insts.filter fun i => i.2.st = .online && bit i.2.asyncConfig 1).map (·.1)) fun s i =>
    if s.tempWarning i then s.event i Ev.smart 0x01 0x02 else s

/-- A round that is discarded (R432). -/
def State.discardRound (s : State) : State :=
  let n := s.cone.discarded + 1
  let s := { s with cone := { s.cone with discarded := n, f := if 3 ≤ n then s.cfgOf Cfg.CONE_FLOOR else s.cone.f } }
  let s := s.report 0x304 0x4A 0 0
  if n = 3 then s.report 0x304 0x4A 0 2 else s

/-- The voltage of a domain's rail in a round (R433): VDD_CORE's as it reads back, VDD_PEA's for the PCIe domains, VDD_AON's
for the rest. (PRESUMED, log entry 71.) -/
def State.domainMv (s : State) (a : AdcRound) (d : Nat) : Nat :=
  if onCore d then s.power.confirmed else if d = 72 ∨ d = 73 then a.rails.getD 5 750 else a.rails.getD 2 800

/-- A round that is accepted: the model, f, the voltage, the rails. -/
def State.acceptRound (s : State) (a : AdcRound) : State :=
  let s := { s with cone := { s.cone with
    discarded := 0, power := a.currents.zipIdx.map fun (x : Nat × Nat) => x.1 * s.domainMv a x.2 / 1000, rings := a.rings, diode0 := a.diode0 * 125, diode1 := a.diode1 * 125 } }
  let s :=
    if s.cone.started then { s with cone := { s.cone with nodes := nodesOf s.nodeNext } }
    else
      let d := s.diodeMax
      { s with cone := { s.cone with started := true, base := d, nodes := nodesOf fun _ => d } }
  let h := s.findHot
  let out := s.railsOutside a.rails
  let again := out.any s.cone.railsOut.contains
  let s := { s with cone := { s.cone with hotNode := h.1, hot := h.2, railsOut := out } }
  let s := if again then s.lifeBreak 4 else s
  let s := s.throttle
  let node := (List.range 24).find? fun i => decide (125000 ≤ s.cone.nodes.get 0 i)
  match node with
  | some i => if s.cone.trip then s else s.thermalTrip i
  | none => s

/-- A rail reads beyond its absolute maximum (R509): noted, and the round goes on as for any rail outside its range.
(DESIGN CHOICE, log entry 71.) -/
def State.noteStress (s : State) (rails : List Nat) : State :=
  if rails.zipIdx.any fun r => decide ((s.railRange r.2).2.2 < r.1) then { s with cone := { s.cone with stressed := true } } else s

/-- The round's readback of the setpoint over AVSBus (Table 15.8): within 10 mV it stands confirmed; else it is a failure
under R426, and the change is repeated once. -/
def State.roundReadback (s : State) (mv : Nat) : State :=
  if s.power.avs.isSome then s
  else if s.power.confirmed ≤ mv + 10 ∧ mv ≤ s.power.confirmed + 10 then 
    { s.avsRead (.readback mv) true with power := { s.power with readBack := true } }
  else
    (s.avsRead (.readback mv) false).avsWrite s.power.confirmed true

/-- HOUSEKEEPING_ROUND (R432 to R438, R408, R442): in PS4 no round runs; in PS3 no throttle message and no AVS request
is sent. (DESIGN CHOICE, log entry 62.) -/
def execHousekeepingRound (adc : AdcRound) (s : State) : Res :=
  if s.power.ps = 4 ∧ s.power.maint.isNone then .next s
  else
    let s := ({ s with cone := { s.cone with asked := false } }.noteStress adc.rails).roundFigures
    let s := if adc.ok then s.acceptRound adc else s.discardRound
    let s := s.temperatureFigures.computeArchive
    if s.asleep then .next s
    else
      let s := if adc.ok then (s.roundReadback adc.readback).coneVoltage else s
      .next s.updateG.sendThrottle

/-- A die's reading in 1/8 °C; a die that does not answer takes the highest of its channel plus 5 °C. -/
def dieReading (temps : List (Nat × Int)) (k : Nat) : Option Int :=
  match temps.find? fun (t : Nat × Int) => decide (t.1 = k) with
  | some t => some t.2
  | none => match (temps.filter fun (t : Nat × Int) => channelOf t.1 = channelOf k).map (fun (t : Nat × Int) => t.2) with
    | [] => none
    | v :: vs => some (vs.foldl max v + 40)

/-- One reading added to a die's second. -/
def addReading (t : Tab DieTemp) (x : Nat × Int) : Tab DieTemp :=
  t.upd {} x.1 fun (y : DieTemp) => { y with sum := y.sum + x.2, n := y.n + 1 }

/-- The readings of every present, unretired die. -/
def State.readingsOf (s : State) (temps : List (Nat × Int)) : List (Nat × Int) :=
  (s.flash.dies.filter fun (d : Nat × Die) => d.2.present && !d.2.retired).filterMap fun (d : Nat × Die) =>
    (dieReading temps d.1).map fun (v : Int) => (d.1, v)

/-- DIE_TEMPERATURE_READINGS (R434). -/
def execDieTemperatureReadings (temps : List (Nat × Int)) (s : State) : Res :=
  let all := s.readingsOf temps
  match all.map (fun (t : Nat × Int) => t.2) with
  | [] => .next s
  | v :: vs =>
    let s := s.postBack 2 (all.map fun (t : Nat × Int) => t.2)
    .next { s with cone := { s.cone with dieTemps := all.foldl addReading s.cone.dieTemps, nand := vs.foldl max v * 125 } }

/-- A diode reading outside -40 °C to 150 °C has failed (R436). -/
def State.diodeCheck (s : State) (k : Nat) (t : Int) : State :=
  if (t < -320 ∨ 1200 < t) ∧ !(s.cone.failed.contains k) then
    ({ s with cone := { s.cone with failed := s.cone.failed ++ [k] } }).report 0x303 0x4C k 2
  else s

/-- Each die's mean of the second put beside the die, for the summary. -/
def State.dieMeans (s : State) : State :=
  let dies : Tab Die := s.cone.dieTemps.foldl (fun (t : Tab Die) (x : Nat × DieTemp) =>
    if x.2.n = 0 then t else t.upd {} x.1 fun (d : Die) => { d with
      temp := (x.2.sum / x.2.n / 8 + 40).toNat, mean := some (80 + (x.2.sum + 4 * x.2.n - 1) / (4 * x.2.n)).toNat }) s.flash.dies
  let s : State := { s with flash := { s.flash with dies := dies } }
  { s with cone := { s.cone with dieTemps := [] } }

/-- Every node and the base moved by e. -/
def State.moveNodes (s : State) (e : Int) : State :=
  let nodes : Tab Int := nodesOf fun i => s.cone.nodes.get 0 i + e
  { s with cone := { s.cone with base := s.cone.base + e, nodes := nodes } }

/-- The anchoring on the working diodes, whose errors are e0 and e1. -/
def State.anchor (s : State) (e0 e1 : Int) : State :=
  if s.cone.failed.contains 0 then
    if s.cone.failed.contains 1 then
      let s : State := { s with cone := { s.cone with f := s.cfgOf Cfg.CONE_FLOOR } }
      s.coneStep 600
    else s.moveNodes e1
  else if s.cone.failed.contains 1 then s.moveNodes e0
  else
    let r : Int := (e0 - e1).natAbs
    let s : State := { s with cone := { s.cone with residual := r } }
    let s := s.moveNodes (max e0 e1)
    if 8000 < r then s.report 0x303 0x4B r.toNat 1 else s

/-- DIODE_ANCHOR (R434, R436): readings in 1/8 °C. -/
def execDiodeAnchor (diode0 diode1 : Int) (s : State) : Res :=
  let s := (s.diodeCheck 0 diode0).diodeCheck 1 diode1
  let s : State := { s with cone := { s.cone with diode0 := diode0 * 125, diode1 := diode1 * 125 } }
  .next ((s.dieMeans.anchor (s.cone.diode0 - s.cone.nodes.get 0 8) (s.cone.diode1 - s.cone.nodes.get 0 3)).post 1 [s.cone.nand])

/-- Bin of a temperature (Table 16.5). -/
def tempBin (t : Int) : Nat := if t < 50000 then 0 else min 15 (((t - 50000) / 5000).toNat + 1)

/-- The second counted into the histogram and the life average. -/
def State.countSecond (s : State) : State :=
  let t : Int := s.cone.hot
  let hist : Tab Nat := s.cone.hist.upd 0 (tempBin t) fun (n : Nat) => satAdd 32 n 1
  let cone : ConePart := { s.cone with hist := hist }
  let cone : ConePart := { cone with lifeSum := cone.lifeSum + t, lifeSecs := cone.lifeSecs + 1 }
  -- control firmware has a copy every 60 s
  let cone : ConePart := if cone.lifeSecs % 60 = 0 then { cone with copied := (cone.hist, cone.lifeSum, cone.lifeSecs) } else cone
  { s with cone := { cone with sinceWarn := cone.sinceWarn - 1 } }

/-- Seconds at 105 °C to 120 °C. -/
def State.hotSeconds (s : State) : Nat := s.cone.hist.get 0 12 + s.cone.hist.get 0 13 + s.cone.hist.get 0 14

/-- The daily warning of a life average above 95 °C. -/
def State.lifeWarning (s : State) : State :=
  let s : State := s.lifeBreak 1
  if s.cone.sinceWarn ≠ 0 then s
  else
    let cone : ConePart := { s.cone with sinceWarn := 86400 }
    let s : State := { s with cone := cone }
    s.log Code.lifeAverage 3 0x303 [s.lifeAverage.toNat]

/-- TEMPERATURE_HISTORY_TICK (R443). -/
def execTemperatureHistoryTick (s : State) : Res :=
  let s : State := s.countSecond
  let s := if s.cone.lifeSecs % 60 = 0 then s.post 4 [s.cone.lifeSum, s.cone.lifeSecs] else s
  let s : State := if 1000 * 3600 < s.hotSeconds then s.lifeBreak 2 else s
  .next (if s.lifeAverage ≤ 95000 then s else s.lifeWarning)

/-- THERMAL_TRIP (R440, R441): 0 to 23 a node, 24 and 25 a diode, whose comparator is ignored once it has failed. -/
def execThermalTrip (where_ : Nat) (s : State) : Res :=
  .next (if s.cone.trip ∨ 25 < where_ ∨ (24 ≤ where_ ∧ s.cone.failed.contains (where_ - 24)) then s else s.thermalTrip where_)

end Sys2Proof.Machine
end

