-- ==== Sys2Proof/Machine/Dram.lean ====
section
/-! DEFINITION. Meanings of the rows of the DRAM controller (spec/11_dram_controller.md). -/

namespace Sys2Proof.Machine

def State.dchan (s : State) (c : Nat) : DChannel := s.dram.chans.get {} c
def State.modDchan (s : State) (c : Nat) (f : DChannel → DChannel) : State :=
  { s with dram := { s.dram with chans := s.dram.chans.upd {} c f } }
def DChannel.sub (x : DChannel) (k : Nat) : Subchannel := x.subs.get {} k
def State.modSub (s : State) (c k : Nat) (f : Subchannel → Subchannel) : State :=
  s.modDchan c fun x => { x with subs := x.subs.upd {} k f }

/-- The source code of a DRAM channel (Table 17.3). -/
def dramSource (c : Nat) : Nat := 0x1D0 + c

/-- Channel burst address: subchannel in bit 27 (Table 11.11). -/
def burstAddress (sub addr : Nat) : Nat := sub * 2 ^ 27 + addr % 2 ^ 27

/-- A retraining holds the requests of the subchannel (R324, R334). -/
def State.dramHeld (s : State) (c k : Nat) : Bool := match s.dram.training with
  | some t => t.all || (decide (t.chan = c) && decide (t.sub = k))
  | none => false

/-- The channel is in self-refresh (Table 11.1, R318, R334, R335): in PS3 and PS4, and while all channels train again. -/
def State.selfRefresh (s : State) : Bool :=
  (decide (3 ≤ s.power.ps) && !s.trail.dumpMode) || (match s.dram.training with
    | some t => t.all
    | none => false)

/-- A retraining begins; it takes its bound of `ticks` (DESIGN CHOICE, log entry 67), and dump mode ends it (R335). -/
def State.retrain (s : State) (c k : Nat) (all : Bool) (rate ticks : Nat) : State :=
  if s.trail.dumpMode then s
  else { s with dram := { s.dram with training := some { chan := c, sub := k, all := all, rate := rate, until_ := s.now + ticks } } }

/-- The channel and subchannel exist and run. -/
def State.dramOn (s : State) (c k : Nat) : Bool :=
  decide (c < 4) && decide (k < 2) && decide (s.dram.rate ≠ 0) && !(s.dchan c).dead

/-- The queued, unissued write to a burst (R331). -/
def DChannel.queuedWrite (x : DChannel) (k addr : Nat) : Option (Nat × DEntry) :=
  x.queue.find? fun e => decide (e.1 = k) && e.2.req.write && decide (e.2.req.addr = addr)

/-- An answer to a requester: data and poison flag; or an error response (Table 11.5). -/
def State.dramAnswer (s : State) (id : Nat) (b : Burst) : State := s.emit (.reply Port.engine [id, b.data, b.poison.toNat])
def State.dramError (s : State) (id : Nat) : State := s.emit (.reply Port.engine [id, 0, 2])

/-- A request reaches its channel (R326, R331): a read of a queued write is answered from it, a write to one replaces
its data, a write-back to one is dropped; a full queue lets it wait. -/
def State.dramArrive (s : State) (c k : Nat) (r : DramReq) : State :=
  let x := s.dchan c
  let e : DEntry := { req := r, at_ := s.now, cap := s.cfgOf Cfg.DMC_AGE_CAP / 10 }
  match x.queuedWrite k r.addr with
  | some w =>
    if !r.write then s.dramAnswer r.id { data := w.2.req.data, poison := w.2.req.poison }
    else if r.writeBack then s
    else s.modDchan c fun x => { x with queue := x.queue.map fun e =>
      if e = w then (e.1, { e.2 with req := { e.2.req with data := r.data, poison := r.poison } }) else e }
  | none =>
    if 256 ≤ x.queue.length then s.modDchan c fun x => { x with waiting := x.waiting ++ [(k, e)] }
    else s.modDchan c fun x => { x with queue := x.queue ++ [(k, e)] }

/-- DRAM_REQUEST_ARRIVAL (R326, R331); no word of a channel at which no rate trains is readable (R334). -/
def execDramRequestArrival (chan sub : Nat) (req : DramReq) (s : State) : Res :=
  .next (if s.dramOn chan sub then s.dramArrive chan sub req
    else if (s.dchan chan).dead ∧ !req.write then (if req.priv then s.dramError req.id else s.dramAnswer req.id { poison := true })
    else s)

/-- The bank index of a bank: one bank of each of the 8 bank groups shares it (R330; DEDUCED, log entry 15). -/
def bankIndex (bank : Nat) : Nat := bank % 4

/-- The requests of a bank that no earlier request to the same burst holds back (R331), and no read-modify-write of it that
runs (R332). -/
def DChannel.eligible (x : DChannel) (k bank : Nat) : List (Nat × DEntry) :=
  let rec go (seen : List Nat) : List (Nat × DEntry) → List (Nat × DEntry)
    | [] => []
    | e :: t =>
      let rest := go (if e.1 = k then e.2.req.addr :: seen else seen) t
      if e.1 = k ∧ e.2.req.bank = bank ∧ !(seen.contains e.2.req.addr) then e :: rest else rest
  go (((x.sub k).inFlight.filter fun e => e.req.write).map fun e => e.req.addr) x.queue

/-- Queued writes and reads of a subchannel. -/
def DChannel.writesIn (x : DChannel) (k : Nat) : Nat := (x.queue.filter fun e => decide (e.1 = k) && e.2.req.write).length
def DChannel.readsIn (x : DChannel) (k : Nat) : Nat := (x.queue.filter fun e => decide (e.1 = k) && !e.2.req.write).length

/-- Whether the subchannel issues writes now (R328). -/
def State.writeMode (s : State) (c k : Nat) : Bool :=
  let x := s.dchan c
  let w := x.writesIn k
  decide (x.readsIn k = 0) ||
    (if (x.sub k).draining then decide (s.cfgAt Cfg.DMC_WR 1 < w) else decide (s.cfgAt Cfg.DMC_WR 0 ≤ w))

/-- The request a bank issues next (R327): the oldest at the age cap, then those that hit the open row, then the
others, oldest first; reads or writes as R328 allows. -/
def State.dramNext (s : State) (c k bank : Nat) : Option (Nat × DEntry) :=
  let x := s.dchan c
  let all := x.eligible k bank
  let open_ := (x.sub k).rows.get 0 bank
  let mode := s.writeMode c k
  let kind := all.filter fun e => e.2.req.write = mode
  (all.find? fun e => decide (e.2.cap ≤ s.now - e.2.at_)).or
    ((kind.find? fun e => decide (open_ = e.2.req.row + 1)).or kind.head?)

/-- A waiting request takes the room left by one that was issued (R326). -/
def State.dramRoom (s : State) (c : Nat) : State :=
  match (s.dchan c).waiting with
  | e :: rest =>
    if 256 ≤ (s.dchan c).queue.length then s
    else (s.modDchan c fun x => { x with waiting := rest }).dramArrive c e.1 e.2.req
  | [] => s

/-- A refresh of a bank index (R330): its banks' rows are closed. -/
def State.refreshIdx (s : State) (c k idx : Nat) : State :=
  s.modSub c k fun x => { x with
    rows := x.rows.keep fun b _ => bankIndex b ≠ idx
    postponed := x.postponed.set 0 idx 0, forced := x.forced.filter (· ≠ idx) }

/-- A command that leaves a row of a bank open, or closed, enters the retry buffer of 64 slots (R333). (DESIGN CHOICE, log
entry 67.) (DESIGN CHOICE, log entry 67.) -/
def Subchannel.open_ (x : Subchannel) (bank row : Nat) : Subchannel :=
  { x with rows := x.rows.set 0 bank row, recent := (x.recent ++ [(bank, row)]).drop (x.recent.length - 63) }

/-- DRAM_REQUEST_ISSUE (R327 to R329, R331, R332): a forced refresh of the bank goes first; a retraining holds the
subchannel's requests. A write shorter than a burst reads it first. (DEDUCED, log entry 15.) (DESIGN CHOICE, log entry 67.) -/
def execDramRequestIssue (chan sub bank : Nat) (s : State) : Res :=
  if !(s.dramOn chan sub) ∨ s.dramHeld chan sub ∨ s.selfRefresh then .next s
  else if (((s.dchan chan).sub sub).forced.contains (bankIndex bank)) then .next (s.refreshIdx chan sub (bankIndex bank))
  else match s.dramNext chan sub bank with
    | none => .next s
    | some e =>
      let mode := s.writeMode chan sub
      let r := e.2.req
      let s := s.modDchan chan fun x => { x with queue := x.queue.erase e }
      let s := s.modSub chan sub fun x => { (x.open_ bank (if r.closeAfter then 0 else r.row + 1)) with
        draining := mode && decide (s.cfgAt Cfg.DMC_WR 1 < (s.dchan chan).writesIn sub)
        inFlight := if r.write && !r.part then x.inFlight else x.inFlight ++ [{ e.2 with got := x.mem.get {} r.addr }]
        mem := if r.write && !r.part then x.mem.set {} r.addr { data := r.data, poison := r.poison } else x.mem }
      .next (s.dramRoom chan)

/-- A lasting fault at a burst is remapped to one of the channel's 32 entries (R235, R336). -/
def State.dramRemap (s : State) (c k addr : Nat) : State :=
  let a := burstAddress k addr
  let x := s.dchan c
  if x.remap.contains a then s
  else if 32 ≤ x.remap.length then (s.modDchan c fun x => { x with remapFull := true }).report (dramSource c) 0x32 c 1
  else (s.modDchan c fun x => { x with remap := x.remap ++ [a] }).log Code.retirement 2 (dramSource c) [c, a]

/-- A corrected burst (R336): counted and written back, unless a write to it is queued; `again` is the check read. -/
def State.dramCorrected (s : State) (c k addr again : Nat) : State :=
  let s := s.bump Reg.DMC_ERR_CORR_COUNT
  if again = 0 then s.reportTransient (dramSource c) 0x30 (burstAddress k addr)
  else (s.report (dramSource c) 0x30 (burstAddress k addr) 0).dramRemap c k addr

/-- The Trail writer's read failed (R338): the flush is abandoned, a checkpoint begins at once and writes are held until it
ends. The flush's records come back with the checkpoint. -/
def State.flushAbandoned (s : State) : State :=
  match s.trail.flushes with
  | [] => s
  | f :: rest =>
    let s : State := { s with trail := { s.trail with
      flushes := rest, half := s.trail.half ++ f.recs.reverse, held := true } }
    if s.trail.ckptBusy then s else s.ckptBegin

/-- The burst a read returns, or that a part write merges into, is done. -/
def State.dramFinish (s : State) (c k : Nat) (e : DEntry) (b : Burst) : State :=
  if e.req.write then s.modSub c k fun x => { x with mem := x.mem.set {} e.req.addr { data := e.req.data, poison := b.poison } }
  else s.dramAnswer e.req.id b

/-- A burst goes back poisoned to an ordinary requester (R337): a unit's owner acts as R317 states; a table page is rebuilt
from its checkpoint and the Trail and written back, and the commands that use it go on; or it is lost, a Grave fault
(R339). The rebuilt page holds what was last written to it. -/
def State.dramPoisoned (s : State) (c k : Nat) (e : DEntry) (b : Burst) (rebuilt : Bool) : State :=
  if e.req.write then s.dramFinish c k e { b with poison := true }
  else match e.req.page with
    | some p =>
      if rebuilt then
        (s.modSub c k fun x => { x with mem := x.mem.set {} e.req.addr { b with poison := false } }).dramAnswer e.req.id
          { b with poison := false }
      else (s.report 0x202 0x3B p 3).dramFinish c k e { b with poison := true }
    | none =>
      let s := s.dramFinish c k e { b with poison := true }
      match e.req.unit with
      | some u => s.unitLost u
      | none => s

/-- DRAM_READ_RETURN (R325, R332, R336 to R339, Table 11.5): the outcome of the read and of the second or check read: 0
clean, 1 corrected, 2 uncorrectable, 3 uncorrectable in a table page that cannot be rebuilt. -/
def execDramReadReturn (chan sub id outcome again : Nat) (s : State) : Res :=
  match ((s.dchan chan).sub sub).inFlight.find? fun e => decide (e.req.id = id) with
  | none => .next s
  | some e =>
    let a := e.req.addr
    let b := e.got
    let s := s.modSub chan sub fun x => { x with inFlight := x.inFlight.erase e }
    if b.poison then .next (if e.req.priv then s.dramFinish chan sub e b else s.dramPoisoned chan sub e b (again ≠ 3))
    else if outcome = 0 then .next (s.dramFinish chan sub e b)
    else if outcome = 1 then .next ((s.dramCorrected chan sub a again).dramFinish chan sub e b)
    else if e.req.priv then
      let s := (s.bump Reg.DMC_ERR_PRIV_COUNT).log Code.dramPrivileged 4 (dramSource chan) [chan, burstAddress sub a]
      let s := if e.req.trail then s.flushAbandoned else s
      .next (if e.req.write then s.dramFinish chan sub e { b with poison := true } else s.dramError e.req.id)
    else if again < 2 then
      .next ((s.reportTransient (dramSource chan) 0x39 (burstAddress sub a)).dramFinish chan sub e b)
    else
      let s := (s.bump Reg.DMC_ERR_POISON_COUNT).report (dramSource chan) 0x39 (burstAddress sub a) 1
      .next (s.dramPoisoned chan sub e b (again ≠ 3))

/-- REFRESH_DUE (R330): issued when its bank index is idle, else postponed, and at the limit forced.
(DEDUCED, log entry 15.)
(DESIGN CHOICE, log entry 67.) -/
def execRefreshDue (chan sub bankIdx : Nat) (s : State) : Res :=
  if !(s.dramOn chan sub) ∨ 3 < bankIdx then .next s
  else
    let x := s.dchan chan
    let y := x.sub sub
    let busy := (x.queue.any fun e => decide (e.1 = sub) && decide (bankIndex e.2.req.bank = bankIdx)) ||
      y.rows.any fun r => decide (bankIndex r.1 = bankIdx)
    let s := s.modSub chan sub fun y => { y with refLimit := s.reg Reg.DMC_CFG_REF_POSTPONE }
    if !busy ∨ y.forced.contains bankIdx then .next (s.refreshIdx chan sub bankIdx)
    else
      let p := y.postponed.get 0 bankIdx + 1
      if y.refLimit ≤ p then
        .next ((s.modSub chan sub fun y => { y with
          forced := y.forced ++ [bankIdx], rows := y.rows.keep fun b _ => bankIndex b ≠ bankIdx }).modDchan chan fun x =>
            { x with forcedRef := x.forcedRef + 1 })
      else .next (s.modSub chan sub fun y => { y with postponed := y.postponed.set 0 bankIdx p })

/-- ZQ_CALIBRATION_TIMER (R324). -/
def execZqCalibrationTimer (s : State) : Res :=
  .next (if s.dram.rate = 0 then s else { s with dram := { s.dram with zqRuns := s.dram.zqRuns + 1 } })

/-- DQS_OSCILLATOR_CHECK (R324): a drift of more than 3 % retrains the subchannel, for at most 20 µs. -/
def execDqsOscillatorCheck (chan sub : Nat) (drifted : Bool) (s : State) : Res :=
  .next (if s.dramOn chan sub ∧ drifted ∧ s.dram.training.isNone then
    ({ s with dram := { s.dram with retrains := s.dram.retrains + 1 } }).retrain chan sub false s.dram.rate 2000 else s)

/-- The replay of the retry buffer (R333): every bank is precharged, then the rows of the replayed commands open. -/
def Subchannel.replay (x : Subchannel) : Subchannel := { x with rows := x.recent.foldl (fun t c => t.set 0 c.1 c.2) [] }

/-- CA_PARITY_ALERT (R333, R334): every bank is precharged and the retry buffer replayed. Outcome 0: the replay is
accepted; 1: CA training at the current rate restores the subchannel, in 25 ms; 2: all channels train at a lower rate, in
26 ms (Table 11.3); 3: no rate trains. (DESIGN CHOICE, log entry 67.) -/
def execCaParityAlert (chan sub outcome rate : Nat) (s : State) : Res :=
  if !(s.dramOn chan sub) then .next s
  else
    let at_ := chan * 2 + sub
    if outcome = 0 then
      .next (((s.modSub chan sub Subchannel.replay).bump Reg.DMC_CA_REPLAY_TRANSIENT).reportTransient (dramSource chan) 0x38 at_)
    else
      let s := (s.modSub chan sub fun x => { x with rows := [], recent := [] }).bump Reg.DMC_CA_REPLAY_LASTING
      if outcome = 1 then .next ((s.report (dramSource chan) 0x38 at_ 0).retrain chan sub false s.dram.rate 2500000)
      else if outcome = 2 ∧ dramRates.contains rate ∧ rate < s.dram.rate then
        .next ((({ s with dram := { s.dram with fallback := true } }).report (dramSource chan) 0x38 at_ 1).retrain chan sub true rate 2600000)
      else .next ((s.modDchan chan fun x => { x with dead := true }).report (dramSource chan) 0x38 at_ 3)

/-- DRAM_SCRUB_STEP (R340): outcome 0 clean, 1 corrected, 2 uncorrectable, 3 corrected with the fault lasting. -/
def execDramScrubStep (chan sub addr outcome : Nat) (s : State) : Res :=
  if !(s.dramOn chan sub) then .next s
  else
    let b := ((s.dchan chan).sub sub).mem.get {} addr
    let s := { s with dram := { s.dram with scrubbed := s.dram.scrubbed + 1 } }
    if b.poison ∨ outcome = 0 then .next s
    else if outcome = 1 then .next (s.dramCorrected chan sub addr 0)
    else if outcome = 3 then .next (s.dramCorrected chan sub addr 1)
    else
      let s := (s.bump Reg.DMC_ERR_PRIV_COUNT).log Code.dramPrivileged 4 (dramSource chan) [chan, burstAddress sub addr]
      .next (s.modSub chan sub fun x => { x with mem := x.mem.set {} addr { b with poison := true } })

/-- DRAM_ROW_IDLE_CLOSE (R329). -/
def execDramRowIdleClose (chan sub bank : Nat) (s : State) : Res :=
  .next (if s.dramOn chan sub then s.modSub chan sub fun x => { x with rows := x.rows.set 0 bank 0 } else s)

end Sys2Proof.Machine
end

