-- ==== Sys2Proof/Machine/Electrical.lean ====
section
/-! DEFINITION. Meanings of the rows of the rails and of PWRDIS (spec/20_electrical_and_package.md). -/

namespace Sys2Proof.Machine

/-- RAIL_LOW (R512): rails in the order of Table 20.2. VDD_CORE (0) and VDDQ_FL (3) belong to the Bays' comparators; of the
others all but VDD_IO33 (8) enter dump mode as PWRFAIL_N does. (DEDUCED, log entry 61.) -/
def execRailLow (rail : Nat) (s : State) : Res :=
  .next (
    if rail = 8 then
      (({ s with boot := { s.boot with io33Low := true } }).report 0x301 0x55 (96 + rail) 1).lifeBreak 4
    else if rail = 0 ∨ rail = 3 ∨ 8 < rail ∨ s.boot.pwrfailLow then s
    else
      let s := { s with boot := { s.boot with pwrfailLow := true } }
      let s := if s.noDump then s else ({ s with boot := { s.boot with shut := none } }).dumpStart
      (s.report 0x301 0x55 (96 + rail) 2).lifeBreak 4)

/-- IO33_RESTORED (R512). -/
def execIo33Restored (s : State) : Res := .next { s with boot := { s.boot with io33Low := false } }

/-- Registers of the latched first source (R449). -/
def firstFields : List Nat :=
  [Reg.FLT_FIRST_LO_MSG, Reg.FLT_FIRST_HI_MSG, Reg.FLT_FIRST_TIME_LO_TIME, Reg.FLT_FIRST_TIME_HI_TIME,
   Reg.FLT_FIRST_CTRL_VALID, Reg.FLT_FIRST_CTRL_OVERFLOW, Reg.FLT_FIRST_CTRL_GRAVE_LATER]

/-- AON_RESET (R512): the whole chip is reset, without a dump. A power cycle counts as one only when every rail has fallen,
so the Grave state and the latched first source stand (R453, R515). (DEDUCED, log entry 32.) -/
def execAonReset (s : State) : Res :=
  .next (
    let t := s.restart true
    let t := firstFields.foldl (fun (t : State) k => t.setReg k (s.reg k)) t
    { t with fault := { t.fault with grave := s.fault.grave } })

/-- CSTS.SHST = 10b on every function. -/
def State.allShut (s : State) : State :=
  let insts : Tab Inst := s.tenant.insts.mapVals {} fun _ (x : Inst) => { x with shst := 2 }
  { s with tenant := { s.tenant with insts := insts } }

/-- PWRDIS_ASSERT (R516): the shutdown runs to SHUTDOWN_COMPLETE; in PS3, in PS4, or after a normal shutdown the state is
quiet and the request completes at once. -/
def execPwrdisAssert (s : State) : Res :=
  .next (
    let s := { s with boot := { s.boot with pwrdis := true } }
    if s.boot.phase ≠ .ready ∨ s.trail.dumpMode ∨ s.fault.graveStopped then s
    else
      let stop := fun (s : State) => { s with intake := { s.intake with stopped := true } }
      match s.boot.shut with
      | some (.device _) => s
      | some _ => { s with boot := { s.boot with shut := some .pwrdis } }
      | none =>
        if s.asleep ∨ (s.intake.stopped ∧ s.trail.clean) then (stop s).allShut
        else { (stop s) with boot := { s.boot with shut := some .pwrdis } })

/-- PWRDIS_RELEASE (R516): a controller reset once the shutdown has ended; a ROM that waits goes on.
(DEDUCED, log entry 37.) -/
def execPwrdisRelease (s : State) : Res :=
  .next (
    let was := s.boot.pwrdis
    let s := { s with boot := { s.boot with pwrdis := false } }
    if !was then s
    else match s.boot.phase, s.boot.shut, s.boot.waiting with
      | .ready, some .pwrdis, _ => { s with boot := { s.boot with pwrdisFell := true } }
      | .ready, none, _ =>
        if s.trail.dumpMode ∨ s.fault.graveStopped ∨ !s.intake.stopped then s else s.controllerReset
      | .romWait, _, some info => if s.boot.pwrfailLow then s else s.bootFrom3 info
      | _, _, _ => s)

/-- PWRFAIL_HIGH_BEFORE_START (R514). (DEDUCED, log entry 37.) -/
def execPwrfailHighBeforeStart (s : State) : Res :=
  .next (
    match s.boot.phase, s.boot.waiting with
    | .romWait, some info =>
      let s := { s with boot := { s.boot with pwrfailLow := false } }
      if s.boot.pwrdis then s else s.bootFrom3 info
    | _, _ => s)

end Sys2Proof.Machine
end

