-- ==== Sys2Proof/Machine/OpsTick.lean ====
section
/-!
DEFINITION. The handshake bridges (R28, R29) and what the block does while no command waits.
-/

namespace Sys2Proof.Machine

/-! ### Bridges -/

def State.bridge (s : State) (d : Nat) : Bridge := s.fabric.bridges.get {} d
def State.modBridge (s : State) (d : Nat) (f : Bridge → Bridge) : State :=
  { s with fabric := { s.fabric with bridges := s.fabric.bridges.upd {} d f } }

/-- The power domain of a clock domain, in the order of Table 1.8 (Tables 1.1 and 15.3; DEDUCED, log entry 99). -/
def clockPower (d : Nat) : Nat :=
  if d < 64 then d
  else if d < 128 then d - 64
  else if d < 136 then 74 + (d - 128) / 2
  else if d < 140 then 72 + d % 2
  else if d = 140 ∨ d = 143 then 94
  else if d = 144 then 95
  else 93

/-- The power domain of an island is on. -/
def State.islandPowered (s : State) (d : Nat) : Bool := (s.power.domains.get {} (clockPower d)).st = 0

/-- The isolation gate of an island's power domain wakes it for a request (R414); in PS3 and PS4 it does not. -/
def State.gateWake (s : State) (domain : Nat) : State :=
  let d := s.power.domains.get {} domain
  if 95 < domain ∨ d.st = 0 ∨ d.st = 3 ∨ 3 ≤ s.power.ps then s
  else { s with power := { s.power with domains := s.power.domains.upd {} domain fun d =>
    { d with st := 0, idle := false, autoWakes := satAdd 16 d.autoWakes 1 } } }

/-- A held request restarts the island and goes on into the FIFO (R29); while the island's power domain is off it stays
held (R414). (DESIGN CHOICE, log entry 99.) -/
def State.serveBridge (s : State) (d : Nat) : State :=
  let b := s.bridge d
  if b.held = 0 ∨ 16 ≤ b.inFifo ∨ !(s.islandPowered d) then s
  else
    let s := s.modBridge d fun b => { b with held := b.held - 1, inFifo := b.inFifo + 1 }
    { s with fabric := { s.fabric with stopped := s.fabric.stopped.filter (· ≠ d) } }

/-- The island's clock stops once both FIFOs of its bridge are empty (R29). (DESIGN CHOICE, log entry 99.) -/
def State.settleStop (s : State) (d : Nat) : State :=
  let b := s.bridge d
  if s.fabric.stopWaits.contains d ∧ b.inFifo = 0 ∧ b.outFifo = 0 then
    { s with fabric := { s.fabric with
      stopWaits := s.fabric.stopWaits.filter (· ≠ d)
      stopped := if s.fabric.stopped.contains d then s.fabric.stopped else s.fabric.stopped ++ [d] } }
  else s

/-- One word of each FIFO of a bridge moves on, unless the island's clock has stopped. (DESIGN CHOICE, log entry 99.) -/
def State.drainBridge (s : State) (d : Nat) : State :=
  if s.fabric.stopped.contains d then s
  else s.modBridge d fun b => { b with inFifo := b.inFifo - 1, outFifo := b.outFifo - 1 }

/-- A tick of the bridges: words move, waiting stops take effect, held requests go on (R28, R29).
(DESIGN CHOICE, log entry 99.) -/
def State.tickBridges (s : State) : State :=
  s.each (s.fabric.bridges.map (·.1)) fun s d => ((s.drainBridge d).settleStop d).serveBridge d

/-! ### The idle tick -/

/-- Data-in transfers of the channels run on (R138). -/
def State.tickChannels (s : State) : State :=
  { s with flash := { s.flash with chans := s.flash.chans.mapVals {} fun _ (c : Chan) => c.tick s.now } }

/-- A DRAM retraining that has come to its end leaves the rate that trained (R324, R334). -/
def State.tickDram (s : State) : State := match s.dram.training with
  | some t => if t.until_ ≤ s.now then { s with dram := { s.dram with training := none, rate := t.rate } } else s
  | none => s

/-- The AON timer counts one 10 ns tick (Table 17.7; DESIGN CHOICE, log entry 1), the bridges move their words and the
channels their data, a DRAM retraining ends, the steward mailbox delivers; everything else that happens with time has a row of its own. -/
def State.idle (s : State) : State := { s with now := s.now + 1 }.tickBridges.tickChannels.tickDram.tickMail

end Sys2Proof.Machine
end

