-- ==== Sys2Proof/Machine/Fabric.lean ====
section
/-!
DEFINITION. Meanings of the rows of the Switch, the handshake bridges and the clocked islands
(spec/01_architecture.md).
-/

namespace Sys2Proof.Machine

/-- The source code of a word's place (Table 17.3): Switch segment 0 to 63, or bridge of clock domain 0 to 147. -/
def wordSource : WordAt → Nat
  | .segment g _ _ => 0x090 + g % 64
  | .bridge d _ => 0x100 + d % 148

/-- A word's place is one the chip has. -/
def wordOk : WordAt → Bool
  | .segment g _ _ => decide (g < 64)
  | .bridge d dir => decide (d < 148) && decide (dir < 2)

/-- The address of a word's report (Table 17.4, kinds 0x01 and 0x04). -/
def wordAddress : WordAt → Nat
  | .segment _ a b => a * 65536 + b
  | .bridge _ dir => dir

/-- A word is discarded and its sender retransmits it once. One report is made for the event, when the outcome of the
retransmission has given its class (R22, R23; DEDUCED, log entry 10). -/
def State.discardWord (s : State) (w : WordAt) : State :=
  if !wordOk w ∨ s.fabric.discarded.contains w then s
  else { s with fabric := { s.fabric with discarded := s.fabric.discarded ++ [w] } }

/-- SWITCH_WORD_DISCARD (R22, R28). (DEDUCED, log entry 10.) -/
def execSwitchWordDiscard (w : WordAt) (s : State) : Res := .next (s.discardWord w)

/-- HANDSHAKE_WATCHDOG_EXPIRY (R22): a cycle that has not finished within 64 handshake periods. -/
def execHandshakeWatchdogExpiry (w : WordAt) (s : State) : Res := .next (s.discardWord w)

/-- Adds a number to a list once. -/
def addOnce {α : Type} [DecidableEq α] (l : List α) (x : α) : List α := if l.contains x then l else l ++ [x]

/-- A lasting fault of a word's place (R23): the segment leaves service and the traffic between its two ports uses the
other Switch half; reported Degraded. -/
def State.segmentOut (s : State) (w : WordAt) : State :=
  match w with
  | .segment g a b =>
    let s := { s with fabric := { s.fabric with
      segmentsOut := addOnce s.fabric.segmentsOut g, oneHalf := addOnce s.fabric.oneHalf (a, b) } }
    s.report (wordSource w) 0x02 g 1
  | .bridge _ dir => s.report (wordSource w) 0x04 dir 1

/-- The port (or the bridge) leaves service, reported Severe; commands with data in flight through it complete with
Internal Error (R23). Of the two ports of a word's pair the one it was sent to leaves service (DESIGN CHOICE, log entry
10). (DEDUCED, log entry 10.) -/
def State.portOut (s : State) (w : WordAt) (tags : List Nat) : State :=
  let s := match w with
    | .segment _ _ b =>
      { s with fabric := { s.fabric with portsOut := addOnce s.fabric.portsOut b } }.reportHost (wordSource w) 0x03 b 2 !tags.isEmpty
    | .bridge d dir =>
      { s with fabric := { s.fabric with bridgesOut := addOnce s.fabric.bridgesOut d } }.reportHost (wordSource w) 0x04 dir 2 !tags.isEmpty
  s.each tags fun s t => s.failTag t Status.internalError

/-- SWITCH_RETRANSMIT_RESULT (R23): whether the second and the third attempt were accepted, and the commands whose data
is in flight through the port. (DEDUCED, log entry 10.) -/
def execSwitchRetransmitResult (w : WordAt) (second third : Bool) (tags : List Nat) (s : State) : Res :=
  if !(s.fabric.discarded.contains w) then .next s
  else
    let s := { s with fabric := { s.fabric with discarded := s.fabric.discarded.erase w } }
    let kind := match w with
      | .segment _ _ _ => 0x01
      | .bridge _ _ => 0x04
    if second then .next (s.reportTransient (wordSource w) kind (wordAddress w))
    else
      let s := s.segmentOut w
      if third then .next s else .next (s.portOut w tags)

/-- ISLAND_CLOCK_STOP (R29): with the words found in the two FIFOs of the island's bridge; the stop waits until both are
empty. (DESIGN CHOICE, log entry 99.) -/
def execIslandClockStop (domain inWords outWords : Nat) (s : State) : Res :=
  if 148 ≤ domain ∨ 16 < inWords ∨ 16 < outWords ∨ s.fabric.stopped.contains domain then .next s
  else
    let s := s.modBridge domain fun b => { b with inFifo := inWords, outFifo := outWords }
    .next ({ s with fabric := { s.fabric with stopWaits := addOnce s.fabric.stopWaits domain } }.settleStop domain)

/-- ISLAND_CLOCK_RESTART (R29, R414): an interior request reaches the bridge of an island. It is held there and is not
lost; it wakes the power domain where a gate may, restarts the island's clock and goes into the FIFO.
(DESIGN CHOICE, log entry 99.) -/
def execIslandClockRestart (domain : Nat) (s : State) : Res :=
  if 148 ≤ domain then .next s
  else .next (((s.modBridge domain fun b => { b with held := b.held + 1 }).gateWake (clockPower domain)).serveBridge domain)

end Sys2Proof.Machine
end

