-- ==== Sys2Proof/Machine/Firmware.lean ====
section
/-! DEFINITION. Meanings of the rows of firmware update and the Boot Area (spec/19_startup_update_service.md). -/

namespace Sys2Proof.Machine

/-- FIRMWARE_IMAGE_DOWNLOAD (R493, R494). -/
def execFirmwareImageDownload (inst cid offset length : Nat) (hdr : FwHeader) (s : State) : Res :=
  s.adminDo inst cid fun s =>
    if inst ≠ 0 then refusedWith Status.invalidOpcode s
    else
      let r := s.download offset length hdr
      (r.1, 0, r.2)

/-- FIRMWARE_COMMIT (R493, R495, R496): an activation at once raises its event, posts the completion, then resets. -/
def execFirmwareCommit (inst cid slot action : Nat) (chain : Chain) (s : State) : Res :=
  s.admin inst cid fun s =>
    if inst ≠ 0 then s.adminCqe inst cid Status.invalidOpcode 0
    else
      let r := s.fwCommit slot action chain
      let t : State := r.2.1
      if r.2.2 then
        let t := if bit (t.inst 0).asyncConfig 9 then t.event 0 Ev.notice Ev.firmwareActivationStarting 0x03 else t
        (t.adminCqe inst cid r.1 0).beginDeviceReset false
      else t.adminCqe inst cid r.1 0

/-- STAGING_TIMEOUT (R494, R497): CFG_MGMT_SESSION_S with no piece. -/
def execStagingTimeout (s : State) : Res :=
  .next (s.setStaging (s.boot.staging.filter fun (x : Staging) => decide (s.now < x.at_ + s.cfgOf Cfg.MGMT_SESSION_S * 100000000)))

/-- One hour of AON time. -/
def oneHour : Nat := 360000000000

/-- TRIAL_SLOT_CONFIRM (Table 19.8, R492): one hour after PCIe ready with no Grave fault. -/
def execTrialSlotConfirm (s : State) : Res :=
  .next (
    let k := s.boot.running
    let o := otherSlot k
    if s.boot.phase ≠ .ready ∨ s.fault.grave ∨ (s.fwSlot k).st ≠ slotTrial ∨ s.now < s.boot.readyAt + oneHour then s
    else
      let s := s.markSlot k slotConfirmed
      let s := if (s.fwSlot o).st = slotConfirmed then s.markSlot o slotValid else s
      s.advanceCounter 9 (s.fwSlot k).hdr.rollback)

/-- CONFIG_ROLLBACK_ADVANCE (R492): the image in force has been so for one hour. -/
def execConfigRollbackAdvance (s : State) : Res :=
  .next (
    match (if s.boot.phase = .ready ∧ s.mgmt.forceAt + oneHour ≤ s.now then s.mgmt.inForce else none).bind fun k => s.mgmt.slots.get none k with
    | some x => s.advanceCounter 11 x.hdr.rollback
    | none => s)

/-- A Boot Area block of a channel's copy fails (R485): the die's spare replaces it; with none left the copy is
abandoned. -/
def State.bootBlockFailed (s : State) (c : Nat) : State :=
  if s.boot.copiesLost.contains c then s
  else if s.boot.sparesUsed.contains c then
    ({ s with boot := { s.boot with copiesLost := s.boot.copiesLost ++ [c] } }).report 0x300 0x53 0 2
  else { s with boot := { s.boot with sparesUsed := s.boot.sparesUsed ++ [c] } }

/-- BOOT_AREA_REFRESH (R485): the regions of the channels in `weak` are rewritten from a good copy, which changes no
content; a block of each channel in `failed` fails. -/
def execBootAreaRefresh (weak failed : List Nat) (s : State) : Res :=
  .next (
    if s.boot.phase ≠ .ready ∨ s.trail.dumpMode ∨ s.asleep then s
    else s.each (failed.filter fun c => decide (c < 4) && (weak.contains c || !(s.boot.copiesLost.contains c))) State.bootBlockFailed)

end Sys2Proof.Machine
end

