-- ==== Sys2Proof/Machine/Glaze.lean ====
section
/-!
DEFINITION. Meanings of the rows of Glaze: descriptors, key slots, Opal, Key Per I/O, the DRBG, alarms
(spec/09_glaze_cipher.md).
-/

namespace Sys2Proof.Machine

/-! ### Descriptors -/

/-- GLAZE_DESCRIPTOR_SUBMIT (R271 to R274, R276, R285). -/
def execGlazeDescriptorSubmit (d : GDesc) (s : State) : Res := .next (s.gdSubmit d)

/-- A lasting authentication failure (R284): the block named by `address` on the media. -/
def State.authFailed (s : State) (d : GDesc) (address : Nat) : State :=
  let s := (s.bump Reg.GLZ_AUTH_FAIL_COUNT).reportHost 0x1C0 0x40 address 1 !d.internal
  let s := s.log Code.authFail 3 0x1C0 [address, d.nsid, d.lba]
  if d.internal ∨ (s.tag d.tag).stage ≠ .inFlight ∨ (s.tag d.tag).gen ≠ d.gen then s
  else s.modTag d.tag fun t => { t with done := some Status.unrecoveredRead }

/-- GLAZE_DESCRIPTOR_COMPLETE (R273, R277, R284): the lane's descriptor ends. `auth`, `again` and `rebuilt` are what an
open finds on the first read, on the second read, and on the codeword rebuilt from parity. -/
def execGlazeDescriptorComplete (lane : Nat) (auth again rebuilt : Bool) (address : Nat) (s : State) : Res :=
  match (s.lane lane).running with
  | none => .next s
  | some d =>
    let opens := d.op = 6 || d.op = 7
    let s := s.modLane lane fun y => { y with running := none, aged := false, doneAt := s.now }
    let bad := opens && !auth && !again && !rebuilt
    let s :=
      if !opens ∨ auth then s
      else if again then s.reportTransient 0x1C0 0x40 address
      else if rebuilt then s.bump Reg.FBE_LDPC_REBUILT_COUNT
      else s.authFailed d address
    let s := (s.gdEnd d (if bad then 1 else 0)).laneNext lane (s.laneTries lane)
    .next s.gdAdmitWaiting

/-- GLAZE_CONTEXT_AGED_RESUME (R277): a context of the lane that has been suspended for 100 µs, its oldest, resumes next.
(DEDUCED, log entry 111.) -/
def execGlazeContextAgedResume (lane : Nat) (s : State) : Res :=
  let x := s.lane lane
  if !(x.contexts.any fun c => decide (c.since + 10000 ≤ s.now)) then .next s
  else
    let s := s.modLane lane fun y => { y with agedDue := true }
    .next (if x.running.isSome then s else s.laneNext lane (s.laneTries lane))

/-! ### Key slots -/

/-- KEY_UNWRAP_LOAD (R286, R287): the MEK of a range from the key store. A failed unwrap leaves the slot as it was. -/
def execKeyUnwrapLoad (nsid range : Nat) (halvesDiffer : Bool) (s : State) : Res :=
  let x := s.range nsid range
  let gcm := (s.ns nsid).mode = .sealed_
  if !x.exists_ ∨ !s.glaze.rootKeys then .next (s.emit (.reply Port.engine [x.slot, 1]))
  else match x.wrapped.unwrap (s.wrapUnder x) with
    | none => .next (s.emit (.reply Port.engine [x.slot, 1]))
    | some key =>
      if !gcm ∧ !halvesDiffer then .next (s.emit (.reply Port.engine [x.slot, 1]))
      else .next ((s.loadSlot x.slot key gcm).emit (.reply Port.engine [x.slot, 0])).resumeRows

/-- KEY_SLOT_UNLOAD (R288): reason 0 unloads, another locks with that REASON. Slot 0 is not unloaded (R285). -/
def execKeySlotUnload (slot reason : Nat) (s : State) : Res :=
  if slot = 0 ∨ 3 < reason then .next s
  else .next (s.drainSlot slot (if reason = 0 then none else some reason))

/-- KEY_SLOT_DRAINED (R288). -/
def execKeySlotDrained (slot : Nat) (s : State) : Res := .next (s.slotDrained slot)

/-! ### Opal (R289, R293) -/

/-- The answer of a TCG method: 0, an NVMe status the spec names, 1 not authorized, 7 insufficient space. -/
def State.tcg (s : State) (code : Nat) : State := s.emit (.reply Port.tcg [code])

/-- An authority may act: it has no credential yet, or has authenticated. -/
def State.mayAct (s : State) (a : Nat) : Bool := (s.glaze.credentials.get none a).isNone || s.glaze.authenticated.contains a

/-- Loads the ranges an authority guards that are not locked. -/
def State.loadGuarded (s : State) (a : Nat) : State :=
  s.each ((s.glaze.ranges.filter fun r => r.2.exists_ && r.2.authority = some a && (s.guard r.2).isSome).map (·.1)) fun s k =>
    let x := s.glaze.ranges.get {} k
    if x.readLocked && x.writeLocked then s else s.loadRange (k / 128) (k % 128)

/-- OPAL_AUTHENTICATE (R289): K_cred of the credential must unwrap what the authority guards. -/
def execOpalAuthenticate (authority credential : Nat) (s : State) : Res :=
  if s.glaze.credentials.get none authority ≠ some credential then .next (s.tcg 1)
  else
    let s := { s with glaze := { s.glaze with
      authenticated := if s.glaze.authenticated.contains authority then s.glaze.authenticated
        else s.glaze.authenticated ++ [authority] } }
    .next ((s.loadGuarded authority).resumeRows.tcg 0)

/-- OPAL_SET_CREDENTIAL (R289, R292): a new credential takes a new salt, and the MEKs it guards are rewrapped.
(PRESUMED, log entry 79.) -/
def execOpalSetCredential (authority credential : Nat) (s : State) : Res :=
  if !(s.mayAct authority) then .next (s.tcg 1)
  else if s.glaze.drbgFail then .next (s.tcg Status.internalError)
  else
    let s := s.newKey.2
    let s := { s with glaze := { s.glaze with credentials := s.glaze.credentials.set none authority (some credential) } }
    let mine := (s.glaze.ranges.filter fun r => r.2.exists_ && r.2.authority = some authority).map (·.1)
    let s := s.each mine fun s k => s.rewrap (k / 128) (k % 128) id
    .next (s.storeKeys.tcg 0)

/-- A range with the columns of a Set. -/
def LockRange.setTo (r : LockRange) (x : LockSet) : LockRange :=
  { r with
    lo := x.lo, hi := x.hi, readLockEnabled := x.readLockEnabled, writeLockEnabled := x.writeLockEnabled,
    readLocked := x.readLocked, writeLocked := x.writeLocked, lockOnCycle := x.lockOnCycle, lockOnReset := x.lockOnReset,
    authority := x.authority }

/-- A range is locked for reads and for writes. -/
def LockRange.shut (r : LockRange) : Bool :=
  r.readLockEnabled && r.readLocked && r.writeLockEnabled && r.writeLocked

/-- Locks or unlocks a range's slot as its columns say. -/
def State.applyLock (s : State) (nsid r : Nat) : State :=
  let x := s.range nsid r
  if x.shut then s.drainSlot x.slot (some 1)
  else if (s.slotAt x.slot).reason = 1 ∨ (s.slotAt x.slot).lockAfter = some 1 then s.loadRange nsid r
  else s

/-- OPAL_SET_LOCKING (R289, R293): up to 127 further ranges; a new range has its own MEK and slot.
(PRESUMED, log entry 79.) -/
def execOpalSetLocking (nsid range : Nat) (x : LockSet) (s : State) : Res :=
  let r := s.range nsid range
  if !(s.ns nsid).exists_ ∨ 127 < range ∨ x.hi < x.lo then .next (s.tcg Status.invalidField)
  else if !((r.authority.map s.mayAct).getD true) then .next (s.tcg 1)
  else if r.exists_ then
    let s := s.rewrap nsid range fun r => r.setTo x
    .next ((s.storeKeys.applyLock nsid range).resumeRows.tcg 0)
  else if (s.ns nsid).mode = .clear ∨ (s.ns nsid).mode = .keyPerIo then
    .next ((s.modRange nsid range fun r => { r.setTo x with exists_ := true }).storeKeys.tcg 0)
  else if s.glaze.drbgFail then .next (s.tcg Status.internalError)
  else match s.freeSlot with
    | none => .next (s.tcg 7)
    | some k => .next (((s.createRange nsid range k 0 (({} : LockRange).setTo x)).applyLock nsid range).tcg 0)

/-- OPAL_GENKEY (R291, Table 9.2): one range, or with Revert every range, the further ranges and the credentials gone.
(DEDUCED, log entry 78.) -/
def execOpalGenkey (nsid range : Nat) (revert : Bool) (s : State) : Res :=
  let m := (s.ns nsid).mode
  if !(s.ns nsid).exists_ ∨ m = .clear ∨ m = .keyPerIo ∨ !(s.range nsid range).exists_ then
    .next (s.tcg Status.invalidField)
  else if s.glaze.drbgFail then .next (s.tcg Status.internalError)
  else if !revert then .next ((s.cryptoErase nsid range).tcg 0)
  else
    let s := s.each (s.rangesIn nsid) fun s r =>
      (s.modRange nsid r fun x => ({ exists_ := true, slot := x.slot } : LockRange)).cryptoErase nsid r
    let s := s.each ((s.rangesIn nsid).filter (· ≠ 0)) fun s r =>
      (s.emptySlot (s.range nsid r).slot).modRange nsid r fun _ => {}
    let s := { s with glaze := { s.glaze with credentials := [], authenticated := [] } }
    .next (s.storeKeys.tcg 0)

/-! ### Key Per I/O (R290, R294) -/

/-- KEY_PER_IO_KEK_SET (R290). -/
def execKeyPerIoKekSet (nsid kek : Nat) (s : State) : Res :=
  if (s.ns nsid).mode ≠ .keyPerIo ∨ !s.glaze.rootKeys then .next (s.tcg Status.invalidField)
  else
    let w : Wrapped := { under := kWrap s.drk, key := kek }
    let s := { s with glaze := { s.glaze with keks := s.glaze.keks.set none nsid (some w) } }
    .next (s.storeKeys.tcg 0)

/-- The KEK of a namespace, while the root keys are present. -/
def State.kekOf (s : State) (nsid : Nat) : Option Nat :=
  if s.glaze.rootKeys then (s.glaze.keks.get none nsid).bind fun w => w.unwrap (kWrap s.drk) else none

/-- KEY_TAG_INJECT (R287, R294, Table 13.4): a key wrapped under `under`, which must be the namespace's KEK. -/
def execKeyTagInject (inst nsid tag under key : Nat) (halvesDiffer : Bool) (s : State) : Res :=
  if (s.ns nsid).mode ≠ .keyPerIo ∨ 1024 ≤ tag then .next (s.tcg Status.invalidField)
  else if s.kekOf nsid ≠ some under ∨ !halvesDiffer then .next (s.tcg Status.invalidField)
  else match s.glaze.keyTags.get none (nsid * 1024 + tag) with
    | some k => .next ((s.loadSlot k key false).tcg 0)
    | none =>
      if (s.inst inst).keyQuota ≤ s.slotsHeld inst then .next (s.tcg 7)
      else match s.freeSlot with
        | none => .next (s.tcg 7)
        | some k =>
          let s := s.modSlot k fun x => { x with owner := inst, tag := some (nsid, tag) }
          let s := { s with glaze := { s.glaze with keyTags := s.glaze.keyTags.set none (nsid * 1024 + tag) (some k) } }
          .next ((s.loadSlot k key false).tcg 0)

/-- KEY_TAG_CLEAR (R294): the tag has no key from now on, and its slot drains. (PRESUMED, log entry 79.) -/
def execKeyTagClear (nsid tag : Nat) (s : State) : Res :=
  match s.glaze.keyTags.get none (nsid * 1024 + tag) with
  | none => .next (s.tcg Status.invalidField)
  | some k =>
    let s := { s with glaze := { s.glaze with keyTags := s.glaze.keyTags.set none (nsid * 1024 + tag) none } }
    .next (((if (s.slotAt k).st = .ready then s.drainSlot k none else s.emptySlot k)).tcg 0)

/-! ### Waits, the DRBG, alarms -/

/-- Refires or relocations of a namespace are queued or waiting. -/
def State.refiresWait (s : State) (nsid : Nat) : Bool :=
  let d := s.dieSet (s.ns nsid).dieSet
  d.queue.any (fun q => decide (q.nsid = nsid)) || d.relocs.any fun r => decide (r.nsid = nsid)

/-- SEALED_WAIT_WARNING (R270): an hour of a wait has passed. -/
def execSealedWaitWarning (nsid : Nat) (s : State) : Res :=
  if !(s.keyWait nsid && s.refiresWait nsid) then .next s
  else
    let s := { s with glaze := { s.glaze with sealedWaits := s.glaze.sealedWaits + 1 } }
    .next (s.log Code.sealedWait 3 0x1C0 [nsid])

/-- ENTROPY_HEALTH_FAIL (R292). -/
def execEntropyHealthFail (s : State) : Res :=
  .next (({ s with glaze := { s.glaze with drbgFail := true } }).report 0x1C0 0x42 0 2)

/-- ENTROPY_HEALTH_TEST_PASS (R292). -/
def execEntropyHealthTestPass (s : State) : Res := .next { s with glaze := { s.glaze with drbgFail := false } }

/-- GLAZE_ALARM (R298, Tables 9.8 and 9.9). -/
def execGlazeAlarm (code : Nat) (s : State) : Res :=
  if code = 0 ∨ 5 < code then .next s else .next (s.raiseAlarm code)

/-- ALARM_RECOVERY (R300): of a Severe alarm alone; a failed OTP check is an alarm of its own. -/
def execAlarmRecovery (otpOk : Bool) (s : State) : Res :=
  if s.glaze.alarm.isNone ∨ s.glaze.alarmGrave ∨ s.derivesNothing then .next s
  else if !otpOk ∨ s.otpFailure.isSome then .next (s.raiseAlarm 5)
  else
    let s := (s.deriveKeys).loadUnguarded
    let s := { s with
      glaze := { s.glaze with alarm := none }
      fault := { s.fault with lines := { s.fault.lines with zeroize := false } } }
    .next s.resumeRows

/-- OTP_INTEGRITY_RECHECK (R507, Table 9.8): `ok` says that the array reads as it was programmed. -/
def execOtpIntegrityRecheck (ok : Bool) (s : State) : Res :=
  if !ok ∨ s.otpFailure.isSome then .next (s.raiseAlarm 5) else .next s.otpOneBad

end Sys2Proof.Machine
end

