-- ==== Sys2Proof/Machine/Hamper.lean ====
section
/-!
DEFINITION. Meanings of the rows of the Hamper buffer pools (spec/10_hamper_buffers.md).
-/

namespace Sys2Proof.Machine

/-- The owner kinds of Table 10.2. -/
def OwnerKind.ofCode : Nat → OwnerKind
  | 1 => .command
  | 2 => .writer
  | 3 => .job
  | 4 => .trail
  | _ => .none_

/-- HAMPER_ALLOCATE (R308, R310): a request to an internal pool is met in full, or waits behind the others. -/
def execHamperAllocate (pool kind id need : Nat) (s : State) : Res :=
  if 5 < pool ∨ need = 0 then .next s
  else
    let r : PoolReq := { owner := OwnerKind.ofCode kind, ownerId := id, need := need }
    let s := s.modPool pool fun p => { p with waiting := p.waiting ++ [r] }
    .next (s.servePool pool (s.pool pool).waiting.length)

/-- Whether a requester is the unit's owner. -/
def State.owns (s : State) (u : Nat) (kind id : Nat) : Bool :=
  (s.hunit u).st = 1 && (s.hunit u).owner = OwnerKind.ofCode kind && decide ((s.hunit u).ownerId = id)

/-- A refusal that the repeat confirmed (R316): a Severe fault of the requesting block, the count and the latest unit;
nothing else changes. -/
def State.refuseOwnership (s : State) (u : Nat) (who : Requester) (op : Nat) : State :=
  let s := s.bump Reg.HMP_OWN_COUNT_COUNT
  let s := ((((s.setReg Reg.HMP_OWN_LAST_POOL (u / 4194304)).setReg Reg.HMP_OWN_LAST_UNIT (u % 4194304)).setReg
    Reg.HMP_OWN_LAST_REQ_KIND (who.kind % 8)).setReg Reg.HMP_OWN_LAST_OP op).setReg Reg.HMP_OWN_LAST_VALID 1
  s.report who.source 0x34 u 2

/-- The check that Hamper makes of a request, and repeats once (R316): a first refusal that the repeat does not confirm is
a transient Notice. -/
def State.checked (s : State) (u : Nat) (who : Requester) (op : Nat) (ok : Bool) (f : State → State) : State :=
  if !ok then s.refuseOwnership u who op else f (if who.glitch then s.reportTransient who.source 0x34 u else s)

/-- HAMPER_HAND (R314, R316). -/
def execHamperHand (unit : Nat) (who : Requester) (id toKind toId : Nat) (s : State) : Res :=
  .next (s.checked unit who 0 (s.owns unit who.kind id) fun s =>
    s.modUnit unit fun u => { u with owner := OwnerKind.ofCode toKind, ownerId := toId })

/-- HAMPER_CLAIM (R314): a refusal tells the engine so and changes nothing; a claim at 255 waits for a drop.
(DEDUCED, log entry 77.) -/
def execHamperClaim (unit : Nat) (s : State) : Res :=
  if s.claimOk unit then .next ((s.claimUnit unit).emit (.reply Port.engine [unit, 0]))
  else if (s.hunit unit).st = 1 then .next (s.modUnit unit fun u => { u with claimWaits := u.claimWaits + 1 })
  else .next (s.emit (.reply Port.engine [unit, 1]))

/-- HAMPER_DROP (R314, R316). -/
def execHamperDrop (unit : Nat) (who : Requester) (s : State) : Res :=
  .next (s.checked unit who 1 (decide ((s.hunit unit).claims ≠ 0)) fun s => s.dropClaim unit)

/-- HAMPER_RELEASE (R314, R316). -/
def execHamperRelease (unit : Nat) (who : Requester) (id : Nat) (s : State) : Res :=
  .next (s.checked unit who 2 (s.owns unit who.kind id) fun s => s.releaseUnit unit)

/-- POOL_WAIT_NOTICE (R310): the head request has waited 100 ms. (DEDUCED, log entry 94.) -/
def execPoolWaitNotice (pool : Nat) (s : State) : Res :=
  if (s.pool pool).waiting.isEmpty then .next s else .next (s.report (0x1B0 + pool) 0x0A pool 0)

/-- FREE_LIST_REBUILD (R317): a state word or a free unit's pointer is uncorrectable; the pool stops allocating, and the
faulty location is left out of its free list. -/
def execFreeListRebuild (pool unit : Nat) (s : State) : Res :=
  if 5 < pool then .next s
  else
    let s := s.modPool pool fun p => { p with
      rebuild := true, freed := p.freed.filter (· ≠ unit), gone := if p.gone.contains unit then p.gone else p.gone ++ [unit] }
    .next (s.report (0x1B0 + pool) 0x35 pool 1)

/-- FREE_LIST_REBUILD_DONE (R317): every free unit is threaded again, the faulty location left out. -/
def execFreeListRebuildDone (pool : Nat) (s : State) : Res :=
  if !(s.pool pool).rebuild then .next s
  else
    let s := s.modPool pool fun p => { p with rebuild := false }
    .next (s.servePool pool (s.pool pool).waiting.length)

end Sys2Proof.Machine
end

