-- ==== Sys2Proof/Machine/Intake.lean ====
section
/-!
DEFINITION. Meanings of the rows of intake other than the host's I/O commands: doorbells, rounds, throttle, queues,
Abort, events, completion (spec/03_command_intake.md).
-/

namespace Sys2Proof.Machine

/-! ### Doorbells (R69, R15) -/

/-- A submission tail that moves past unfetched entries, or is not below the size, is bad. -/
def Sq.tailOk (q : Sq) (v : Nat) : Bool :=
  decide (v < q.size) &&
    decide ((q.tail + q.size - q.head) % q.size + (v + q.size - q.tail) % q.size < q.size)

/-- SQ_DOORBELL_WRITE (R69): the notices of one queue are merged (R15); in PS3 and PS4, and while one of them is being
entered, the doorbell wakes the controller (R103, R419). -/
def execSqDoorbellWrite (inst qid tail : Nat) (s : State) : Res :=
  let q := (s.inst inst).sqs.get {} qid
  if s.ideBlocked then .next s
  else if !q.exists_ then .next (s.event inst Ev.error Ev.invalidDoorbellRegister 0x01)
  else if !(q.tailOk tail) then .next (s.event inst Ev.error Ev.invalidDoorbellValue 0x01)
  else
    let s := s.modInst inst fun x => { x with sqs := x.sqs.upd {} qid fun a => { a with tail := tail } }
    let n := if s.intake.notices.contains (inst, qid) then s.intake.notices else s.intake.notices ++ [(inst, qid)]
    .next ({ s with intake := { s.intake with notices := n } }.wake 0)

/-- CQ_DOORBELL_WRITE (R69). -/
def execCqDoorbellWrite (inst qid head : Nat) (s : State) : Res :=
  let q := (s.inst inst).cqs.get {} qid
  if s.ideBlocked then .next s
  else if !q.exists_ then .next (s.event inst Ev.error Ev.invalidDoorbellRegister 0x01)
  else if q.size ≤ head then .next (s.event inst Ev.error Ev.invalidDoorbellValue 0x01)
  else .next (s.modInst inst fun x => { x with cqs := x.cqs.upd {} qid fun a => { a with head := head } })

/-! ### Rounds and throttle (R71, R81, R82) -/

/-- A staged command would wait at one of steps 3 to 7. -/
def State.wouldWait (s : State) (t : Nat) : Bool :=
  (s.ns (s.tag t).cmd.nsid).closing || (s.sieveStep t).isSome || s.heldAt t ≠ 0

/-- An I/O queue head that waits at no step of Table 3.4 (R71). -/
def State.admissible (s : State) (i : Nat) : Bool :=
  (s.inst i).sqs.any fun q => q.1 ≠ 0 && (match q.2.staged with
    | some t => !(s.wouldWait t)
    | none => q.2.fetchable && ((s.inst i).cqs.get {} q.2.cq).hasSlot && (s.freeTag .b).isSome && s.intake.sieveWait.isEmpty)

/-- The balance an instance carries into a round (R71), with its quantum in bytes. -/
def nextDeficit (d : Int) (quantum : Nat) (eligible : Bool) : Int :=
  if !eligible then 0 else min (d + quantum) (max quantum d)

/-- DRR_ROUND_START (R71): no round begins while an instance with a positive counter has an admissible command. -/
def execDrrRoundStart (s : State) : Res :=
  if !s.intakeOn ∨ s.tenant.insts.any (fun x => decide (0 < x.2.deficit) && s.admissible x.1) then .next s
  else
    let q := s.cfgOf Cfg.INTAKE_QUANTUM * 1024
    let s := s.each (s.tenant.insts.map (·.1)) fun s i =>
      s.modInst i fun x =>
        let eligible := x.sqs.any fun a => a.1 ≠ 0 && (a.2.staged.isSome || decide (a.2.head ≠ a.2.tail))
        { x with deficit := nextDeficit x.deficit (s.cfgAt Cfg.INTAKE_WEIGHT i * q) eligible }
    .next { s with intake := { s.intake with rounds := s.intake.rounds + 1 } }

/-- The factors change; the bucket is brought up to date before (R81). -/
def State.setFactors (s : State) (f g : Nat) (lost : Bool) : State :=
  let depth := s.cfgOf Cfg.INTAKE_THROTTLE_BURST * 1048576
  { s with intake := { s.intake with
    f := f, g := g, throttleLost := lost, bucketSpent := depth - s.bucket, bucketTime := s.now } }

/-- THROTTLE_MESSAGE (R81, R82, R104): f and g in percent apply from the next admission. (DEDUCED, log entry 88.) -/
def execThrottleMessage (f g : Nat) (s : State) : Res :=
  if f = 0 ∨ 100 < f ∨ g = 0 ∨ 100 < g then .next s
  else .next (s.setFactors f g false)

/-- THROTTLE_TIMEOUT (R82): the 30 ms count stands still in PS3 and PS4. -/
def execThrottleTimeout (s : State) : Res :=
  if 3 ≤ s.power.ps ∨ s.intake.throttleLost then .next s
  else .next ((s.setFactors 25 s.intake.g true).report 0x1A0 0x09 0 1)

/-! ### Data arrival and completion -/

/-- A write that waits for data. -/
def TagRec.waitsData (r : TagRec) : Bool :=
  r.stage = .inFlight && (r.cmd.opc = .write || r.cmd.opc = .append) && !r.dataIn && decide (r.fate = 0)

/-- A write whose protection information fails the check ends after its admission (R217, R49). -/
def State.failCommand (s : State) (t status : Nat) : State :=
  let r := s.tag t
  (s.failWrite r.seq (holeReason status)).postTag t status 0

/-- The data of a zone's commands reaches its hash lane one command at a time, in LBA order (R222); in dump mode the transfers
from the host have stopped (Table 8.2, step 2). -/
def State.mayTransfer (s : State) (t : Nat) : Bool :=
  let r := s.tag t
  !s.ideBlocked && !s.trail.dumpMode && (!(s.ns r.cmd.nsid).zoned || !(s.intake.tags.any fun x => x.2.waitsData && decide (x.2.cmd.nsid = r.cmd.nsid) &&
    decide (x.2.lba / zoneBlocks = r.lba / zoneBlocks) && decide (x.2.seq < r.seq)))

/-- The status of a failed protection information check (R217): 1 guard, 2 application tag, 3 reference tag. -/
def piStatus (pi : Nat) : Nat :=
  if pi = 1 then Status.guardCheck else if pi = 2 then Status.appTagCheck else Status.refTagCheck

/-- The status of the first block of a write that fails its protection information check, 0 for none (R217). -/
def State.writeStatus (s : State) (c : HostCmd) (idxs : List Nat) : Nat :=
  ((idxs.map fun k => (s.ns c.nsid).piCheck c k (c.data.getD k 0)).find? fun st => decide (st ≠ 0)).getD 0

/-- The outcome of the check of blocks a command's data brings: with PRACT there is nothing to check. -/
def State.arrivalStatus (s : State) (c : HostCmd) (pi : Nat) (idxs : List Nat) : Nat :=
  if (s.ns c.nsid).pi.kind = 0 ∨ c.pract then 0 else if pi ≠ 0 then piStatus pi else s.writeStatus c idxs

/-- WRITE_DATA_IN_FAR_HAMPER (R241, R86, R217); `pi` names a check that fails for what the link did to the data. -/
def execWriteDataInFarHamper (tag pi : Nat) (s : State) : Res :=
  let r := s.tag tag
  if !r.waitsData ∨ !(s.mayTransfer tag) then .next s
  else
    let st := s.arrivalStatus r.cmd pi (List.range r.cmd.nlb)
    .next (if st ≠ 0 then s.failCommand tag st else s.dataAllIn tag)

/-- HOST_DATA_UNIT_ARRIVAL (R86, R217, R242): the unit's data is in Far Hamper, so reads that wait for that block alone
go on, and whole 256 KiB pieces from the write's start can be programmed. -/
def execHostDataUnitArrival (tag idx pi : Nat) (s : State) : Res :=
  let r := s.tag tag
  if !r.waitsData ∨ r.cmd.nlb ≤ idx ∨ !(s.mayTransfer tag) then .next s
  else
    let st := s.arrivalStatus r.cmd pi [idx]
    if st ≠ 0 then .next (s.failCommand tag st)
    else
      let s := s.arrive tag idx
      let r := s.tag tag
      let s := s.modExpo r.seq fun e => { e with pieces := piecesIn r.arrived e.nlb (e.nlb / 64) }
      match (s.trail.expos.find? fun e => decide (e.seq = r.seq)).bind (·.row) with
      | some row => .next (s.driveRow row ((s.rowRec row).endAt.getD (s.zoneAt r.cmd.nsid (r.lba / zoneBlocks)).wp))
      | none => .next s

/-- COMPLETION_POST (R91, R48, R92): posts the tag's own entry and then the completions of its zone it was holding. -/
def execCompletionPost (tag : Nat) (s : State) : Res :=
  let r := s.tag tag
  let s := s.complete tag
  if r.cmd.fwNeed = 0 ∨ r.stage ≠ .inFlight then .next s
  else
    let held := (s.intake.tags.filter fun x => x.2.stage = .inFlight && decide (x.2.cmd.nsid = r.cmd.nsid) &&
      x.2.cmd.fwNeed ≠ 0 && decide (x.2.lba / zoneBlocks = r.lba / zoneBlocks) && decide (r.seq < x.2.seq) &&
      x.2.done.isSome).map (·.1)
    -- one pass per held completion, each releasing the next in admission order
    .next (s.each held fun s _ => s.each held fun s t => s.complete t)

/-- INTERRUPT_COALESCING_EXPIRY (R93). -/
def execInterruptCoalescingExpiry (inst cq : Nat) (s : State) : Res :=
  let q := (s.inst inst).cqs.get {} cq
  if !q.exists_ ∨ !q.ien ∨ q.unsignalled = 0 then .next s
  else .next ((s.modInst inst fun x => { x with cqs := x.cqs.upd {} cq fun q => { q with unsignalled := 0 } }).interrupt
    inst q.vector)

/-- The walk for a map update waits: for one of the 64 slots, or for a position whose shadow copy is being rewritten
(R115, R124). -/
def State.mapWalkWaits (s : State) (seq : Nat) : Bool :=
  s.trail.expos.any fun e => decide (e.seq = seq) &&
    ((decide (64 ≤ s.sieve.walks.length) &&
        !(s.matches_ e.slba (e.slba + e.nlb - 1) [scopeNs e.nsid] 0x48 0x48).isEmpty) ||
      s.unverifiedIn e.slba (e.slba + e.nlb - 1) [scopeNs e.nsid] 0x48 0x48)

/-- MAP_UPDATE (R88, R84): its walk finds the earlier reads (R115), and may meet a false hit (R122). -/
def execMapUpdate (seq : Nat) (hit : FalseHit) (s : State) : Res :=
  let s := s.lookupHit hit
  .next (if s.mapWalkWaits seq then s else s.mapUpdate seq)

/-- WALK_SLOT_FREED (R114, R115): the oldest walk has returned its results, so its slot is free and the read that waits at
the admission point goes on. (DESIGN CHOICE, log entry 82.) -/
def execWalkSlotFreed (s : State) : Res :=
  let s := match s.sieve.walks with
    | [] => s
    | w :: _ => s.endWalk w.tag
  .next (match s.intake.walkWait with
    | some t => if 64 ≤ s.sieve.walks.length then s else s.tryAdmission t .none_
    | none => s)

/-! ### Queues (R68) -/

/-- I/O queue pairs an instance may have (R68, Table 13.4): a tenant its VQ; the manager what the tenants' VQ and the
512 admin pairs leave of the 8,192. -/
def State.ioPairs (s : State) (i : Nat) : Nat :=
  if i = 0 then 7680 - Tab.sum (fun _ x => x.vq) s.tenant.insts else (s.inst i).vq

/-- A queue identifier within the instance's quota. -/
def State.queueIdOk (s : State) (i qid : Nat) : Bool := decide (1 ≤ qid) && decide (qid ≤ s.ioPairs i)

/-- CREATE_IO_SUBMISSION_QUEUE (R68): size in entries. (DEDUCED, log entry 84.) -/
def execCreateIoSubmissionQueue (inst cid qid cqid : Nat) (mem : QMem) (prio : Nat) (s : State) : Res :=
  s.adminDo inst cid fun s =>
    let x := s.inst inst
    if !(s.queueIdOk inst qid) ∨ (x.sqs.get {} qid).exists_ then refusedWith Status.invalidQueueId s
    else if mem.size < 2 ∨ 16384 < mem.size then refusedWith Status.invalidQueueSize s
    else if cqid = 0 ∨ !(x.cqs.get {} cqid).exists_ then refusedWith Status.cqInvalid s
    else succeeded (s.modInst inst fun x => { x with
      sqs := x.sqs.set {} qid { exists_ := true, size := mem.size, base := mem.base, pc := mem.pc, cq := cqid, prio := prio % 4 } })

/-- CREATE_IO_COMPLETION_QUEUE (R68). -/
def execCreateIoCompletionQueue (inst cid qid : Nat) (mem : QMem) (vector : Nat) (ien : Bool) (s : State) : Res :=
  s.adminDo inst cid fun s =>
    let x := s.inst inst
    if !(s.queueIdOk inst qid) ∨ (x.cqs.get {} qid).exists_ then refusedWith Status.invalidQueueId s
    else if mem.size < 2 ∨ 16384 < mem.size then refusedWith Status.invalidQueueSize s
    else succeeded (s.modInst inst fun x => { x with
      cqs := x.cqs.set {} qid { exists_ := true, size := mem.size, base := mem.base, pc := mem.pc, vector := vector, ien := ien } })

/-- DELETE_IO_SUBMISSION_QUEUE (R68): the commands of the queue still in the controller are aborted, as NVMe has it. -/
def execDeleteIoSubmissionQueue (inst cid qid : Nat) (s : State) : Res :=
  s.adminDo inst cid fun s =>
    let q := (s.inst inst).sqs.get {} qid
    if qid = 0 ∨ !q.exists_ then refusedWith Status.invalidQueueId s
    else
      let mine := (s.intake.tags.filter fun t => t.2.stage ≠ .free && decide (t.2.inst = inst) && decide (t.2.sq = qid)).map (·.1)
      let s := s.each mine fun s t => (s.abortTag t Status.abortSqDeletion).2
      let s := { s with intake := { s.intake with notices := s.intake.notices.filter (· ≠ (inst, qid)) } }
      succeeded (s.modInst inst fun x => { x with sqs := x.sqs.set {} qid {} })

/-- DELETE_IO_COMPLETION_QUEUE (R68). -/
def execDeleteIoCompletionQueue (inst cid qid : Nat) (s : State) : Res :=
  s.adminDo inst cid fun s =>
    let x := s.inst inst
    if qid = 0 ∨ !(x.cqs.get {} qid).exists_ then refusedWith Status.invalidQueueId s
    else if x.sqs.any fun q => q.2.exists_ && decide (q.2.cq = qid) then refusedWith Status.invalidQueueDeletion s
    else succeeded (s.modInst inst fun x => { x with cqs := x.cqs.set {} qid {} })

/-! ### Abort and events -/

/-- Aborts of an instance in flight (R97). -/
def State.abortsOf (s : State) (i : Nat) : Nat :=
  Tab.count (fun _ r => r.stage ≠ .free && r.cmd.opc = .abort && decide (r.inst = i)) s.intake.tags

/-- ABORT (R94, R95, R97, Table 3.6): Dword 0 bit 0 is 0 when the target was aborted. The Abort's own completion is posted
by COMPLETION_POST, so Aborts can be outstanding. With `race` nonzero the target, where it may, takes its tag lock first
and posts. -/
def execAbort (inst cid sq targetCid race : Nat) (s : State) : Res :=
  s.adminAs inst cid .abort fun s =>
    if 16 < s.abortsOf inst then s.adminCqe inst cid Status.abortLimit 0
    else
      let r := match s.findTag inst sq targetCid with
        | none => (false, s)
        | some t => (if race ≠ 0 then s.complete t else s).abortTag t Status.abortRequested
      match r.2.findTag inst 0 cid with
      | some a => r.2.modTag a fun x => { x with done := some 0, dw0 := b2n (!r.1) }
      | none => r.2

/-- ASYNCHRONOUS_EVENT_REQUEST (R101): held until an event is reported; an instance holds 16 of them (R391).
(DEDUCED, log entry 84.) -/
def execAsynchronousEventRequest (inst cid : Nat) (s : State) : Res :=
  s.adminAs inst cid .aer fun s =>
    if 16 ≤ (s.inst inst).aers.length then s.adminCqe inst cid Status.aerLimit 0
    else ((s.modInst inst fun x => { x with aers := x.aers ++ [cid] }).deliverEvent inst).idleBegins

/-! ### Features of intake -/

/-- SET_FEATURES_ARBITRATION (R72): value is AB, LPW, MPW, HPW as Feature 0x01 lays them out. -/
def execSetFeaturesArbitration (inst cid value : Nat) (s : State) : Res :=
  s.adminDo inst cid fun s => succeeded (s.modInst inst fun x => { x with
    arbitration := value % 2 ^ 32, creditH := bits value 24 8 + 1, creditM := bits value 16 8 + 1,
    creditL := bits value 8 8 + 1 })

/-- SET_FEATURES_INTERRUPT_COALESCING (R93): threshold in bits 7:0, time in units of 100 µs in bits 15:8.
(DESIGN CHOICE, log entry 30.) -/
def execSetFeaturesInterruptCoalescing (inst cid value : Nat) (s : State) : Res :=
  s.adminDo inst cid fun s => succeeded (s.modInst inst fun x => { x with coalescing := value % 65536 })

/-- SET_FEATURES_ASYNC_EVENT_CONFIG (R56): enabling a notice does not report changes listed before. -/
def execSetFeaturesAsyncEventConfig (inst cid value : Nat) (s : State) : Res :=
  s.adminDo inst cid fun s => succeeded (s.modInst inst fun x => { x with asyncConfig := value % 2 ^ 32 })

end Sys2Proof.Machine
end

