-- ==== Sys2Proof/Machine/Io.lean ====
section
/-!
DEFINITION. Meanings of the I/O rows: fetch, admission, the host's I/O commands, data arrival, completion, map update
(spec/02_zones_and_placement.md, spec/03_command_intake.md, spec/04_sieve.md).
-/

namespace Sys2Proof.Machine

/-- COMMAND_FETCH (R73; Table 3.4, steps 1 and 2). -/
def execCommandFetch (inst sq : Nat) (c : HostCmd) (s : State) : Res := .next (s.stageCmd inst sq c).2

/-- ADMISSION (R78; Table 3.4, steps 3 to 8). -/
def execAdmission (tag : Nat) (hit : FalseHit) (s : State) : Res := .next (s.tryAdmission tag hit)

/-- WRITE (R43, R48). -/
def execWrite (inst sq : Nat) (c : HostCmd) (s : State) : Res := .next (s.runIo inst sq (c.as .write))
/-- WRITE_ZEROES (R43, R84). -/
def execWriteZeroes (inst sq : Nat) (c : HostCmd) (s : State) : Res := .next (s.runIo inst sq (c.as .writeZeroes))
/-- ZONE_APPEND (R43). -/
def execZoneAppend (inst sq : Nat) (c : HostCmd) (s : State) : Res := .next (s.runIo inst sq (c.as .append))
/-- READ (R85, R130). -/
def execRead (inst sq : Nat) (c : HostCmd) (s : State) : Res := .next (s.runIo inst sq (c.as .read))
/-- DATASET_MANAGEMENT (R84). -/
def execDatasetManagement (inst sq : Nat) (c : HostCmd) (s : State) : Res := .next (s.runIo inst sq (c.as .dsm))
/-- FLUSH (R90). -/
def execFlush (inst sq : Nat) (c : HostCmd) (s : State) : Res := .next (s.runIo inst sq (c.as .flush))
/-- ZONE_OPEN (R43, R47). -/
def execZoneOpen (inst sq : Nat) (c : HostCmd) (s : State) : Res := .next (s.runIo inst sq (c.asZone .open_))
/-- ZONE_CLOSE (R43, R47). -/
def execZoneClose (inst sq : Nat) (c : HostCmd) (s : State) : Res := .next (s.runIo inst sq (c.asZone .close))
/-- ZONE_FINISH (R44, R47). -/
def execZoneFinish (inst sq : Nat) (c : HostCmd) (s : State) : Res := .next (s.runIo inst sq (c.asZone .finish))
/-- ZONE_RESET (R45, R47). -/
def execZoneReset (inst sq : Nat) (c : HostCmd) (s : State) : Res := .next (s.runIo inst sq (c.asZone .reset))
/-- ZONE_OFFLINE (R43, R47). -/
def execZoneOffline (inst sq : Nat) (c : HostCmd) (s : State) : Res := .next (s.runIo inst sq (c.asZone .offline))
/-- SET_ZONE_DESCRIPTOR_EXTENSION (R43). -/
def execSetZoneDescriptorExtension (inst sq : Nat) (c : HostCmd) (s : State) : Res :=
  .next (s.runIo inst sq (c.asZone .setZde))
/-- ZONE_MANAGEMENT_RECEIVE (R128). -/
def execZoneManagementReceive (inst sq : Nat) (c : HostCmd) (s : State) : Res := .next (s.runIo inst sq (c.as .zoneRecv))
/-- IO_MANAGEMENT_SEND (R61). -/
def execIoManagementSend (inst sq : Nat) (c : HostCmd) (s : State) : Res := .next (s.runIo inst sq (c.as .ioMgmtSend))
/-- IO_MANAGEMENT_RECEIVE (R61). -/
def execIoManagementReceive (inst sq : Nat) (c : HostCmd) (s : State) : Res := .next (s.runIo inst sq (c.as .ioMgmtRecv))
/-- RESERVATION_REGISTER (R360). -/
def execReservationRegister (inst sq : Nat) (c : HostCmd) (s : State) : Res := .next (s.runIo inst sq (c.as .resRegister))
/-- RESERVATION_ACQUIRE (R361). -/
def execReservationAcquire (inst sq : Nat) (c : HostCmd) (s : State) : Res := .next (s.runIo inst sq (c.as .resAcquire))
/-- RESERVATION_RELEASE (R361). -/
def execReservationRelease (inst sq : Nat) (c : HostCmd) (s : State) : Res := .next (s.runIo inst sq (c.as .resRelease))
/-- RESERVATION_REPORT (R360). -/
def execReservationReport (inst sq : Nat) (c : HostCmd) (s : State) : Res := .next (s.runIo inst sq (c.as .resReport))

end Sys2Proof.Machine
end

