-- ==== Sys2Proof/Machine/Logs.lean ====
section
/-! DEFINITION. Meanings of the rows of Get Log Page whose pages have no family of their own (Tables 1.1, 2.1, 5.11,
17.10, 18.1). -/

namespace Sys2Proof.Machine

/-- Pages that rows of their own return. -/
def pagesWithRows : List Nat := [0x02, 0x07, 0x08, 0x0D, 0xBF, 0xC2, 0xC4]

/-- A release as log 0x03 shows it: its two digits with a point between them, then five spaces (R493). -/
def releaseText (r : Nat) : List Nat := [0x30 + r / 16 % 16, 0x2E, 0x30 + r % 16] ++ List.replicate 5 0x20

/-- Log 0x03 (R493): AFI and the release of each slot, zeros for an Empty or Failed one. -/
def State.slotPage (s : State) : List Nat :=
  let slot := fun (k : Nat) => s.boot.slots.get ({} : FwSlot) k
  let trial := if (slot 1).st = 3 then 1 else if (slot 2).st = 3 then 2 else 0
  let release := fun (k : Nat) => if (slot k).st = 0 ∨ (slot k).st = 5 then List.replicate 8 0 else releaseText (slot k).hdr.release
  [s.boot.running + 16 * trial] ++ release 1 ++ release 2

/-- 4 KiB units as NVMe data units, thousands of 512 bytes, rounded up. (DEDUCED, log entry 109.) -/
def dataUnits (n : Nat) : Nat := ceilDiv (8 * n) 1000

/-- Log 0x09 of a die set (R209, Table 2.7): critical warnings, spare and threshold, percentage used, endurance
estimate, media units written. -/
def State.endurancePage (s : State) (d : Nat) : List Nat :=
  let x := s.dieSet d
  [b2n (decide (x.stage.rank ≠ 0)) + 8 * b2n (decide (x.stage.rank = 3)), s.spareLevel d, s.cfgOf Cfg.LADDER_AMBER,
   s.flash.pctUsed.get 0 d, s.enduranceEstimate d, dataUnits (s.flash.unitsWritten.get 0 d)]

/-- Log 0x0A of a die set (Table 5.13): window, DTWIN Reads and Writes Typical, Time Maximum, NDWIN Time Minimum Low,
Minimum High and Maximum in ms, the events. -/
def State.plmPage (s : State) (d : Nat) : List Nat :=
  let p := (s.dieSet d).plm
  let g := (s.dieSet d).groups.length
  let t := s.cfgOf Cfg.PLM_DTWIN_MAX
  let low := ceilDiv (s.writeAllow d * 1048576) (max 1 g * 718000) + 100
  let deferred := Tab.sum (fun k (x : Die) => if s.setOfDie k = d then (x.longQ.filter fun o => o.kind = .erase).length else 0) s.flash.dies
  [b2n p.enabled, b2n p.deterministic, 16 * g * 8196 * t, s.writeAllow d, t * 1000, low,
   low + ceilDiv (1248 * deferred) (1600 * max 1 g), 60000] ++ p.log

/-- Log 0x10 (R37, R209): each formed stripe group with its spare, its percentage used and its Capacity Adjustment
Factor. -/
def State.mediaUnitPage (s : State) : List Nat :=
  (s.zone.groups.filter fun g => g.2.formed).flatMap fun (g : Nat × Group) =>
    let x := g.2
    let rows := x.zoneRows - x.rowsTaken
    [g.1, s.setOfDie (x.dies.headD 0), if x.withdrawn ∨ x.spareAtForm = 0 then 0 else x.spareRows * 100 / x.spareAtForm,
     s.percentOf [g.1],
     if x.withdrawn then 0 else 100 * x.zoneRows / max 1 rows]

/-- The reclaim unit handle type of R60, as NVMe numbers it. -/
abbrev initiallyIsolated : Nat := 1

/-- Logs 0x20 to 0x23 of a die set's Endurance Group (R60, R61): the configuration with its handles, their type, its
reclaim groups and the blocks of a reclaim unit; the handles in use; the Endurance Group's units; the events. -/
def State.fdpPage (s : State) (page d : Nat) : List Nat :=
  let x := s.dieSet d
  let mine := s.zone.nss.filter fun n => n.2.exists_ && decide (n.2.dieSet = d) && !n.2.zoned
  match page with
  | 0x20 => [b2n x.fdp, s.cfgOf Cfg.FDP_RUH_COUNT, initiallyIsolated, (mine.flatMap fun n => n.2.rows.map (·.group)).dedup.length,
      x.groups.foldl (fun b g => max b (s.rowBlocksMax { group := g })) 0]
  | 0x21 => (List.range (s.cfgOf Cfg.FDP_RUH_COUNT)).map fun h => b2n (mine.any fun n => n.2.handles.contains h)
  | 0x22 => [s.flash.unitsWritten.get 0 d]
  | _ => x.fdpLog

/-- What a page holds for an instance; none for a page the part does not have or an identifier it does not name. -/
def State.logPage (s : State) (inst page lsi : Nat) : Option (List Nat) :=
  let set := fun (l : List Nat) => if (s.dieSet lsi).groups.isEmpty then none else some l
  match page with
  | 0x01 => some []
  | 0x03 => some s.slotPage
  | 0x09 => set (s.endurancePage lsi)
  | 0x0A => set (s.plmPage lsi)
  | 0x0B => some ((s.zone.dieSets.filter fun d => !d.2.plm.log.isEmpty).map (·.1))
  | 0x10 => some s.mediaUnitPage
  | 0x11 => some (s.zone.capConfig :: (List.range 16).filter fun k => !(s.planOf k).isEmpty)
  | 0x20 => set (s.fdpPage page lsi)
  | 0x21 => set (s.fdpPage page lsi)
  | 0x22 => set (s.fdpPage page lsi)
  | 0x23 => set (s.fdpPage page lsi)
  | 0x80 => some (match (s.inst inst).resLog with
    | (t, n) :: _ => [t, n, (s.inst inst).resLog.length]
    | [] => [0, 0, 0])
  | _ => none

/-- The event type that a page's reading unmasks. -/
def pageEvent (page : Nat) : Option Nat :=
  match page with
  | 0x01 => some Ev.error
  | 0x0B => some Ev.notice
  | 0x80 => some Ev.io
  | _ => none

/-- What reading a page changes: the events of log 0x0A and the oldest notification of log 0x80 have been given out. -/
def State.afterLog (s : State) (inst page lsi : Nat) : State :=
  match page with
  | 0x0A => s.modDieSet lsi fun x => { x with plm := { x.plm with log := [] } }
  | 0x80 => s.modInst inst fun x => { x with resLog := x.resLog.tail }
  | _ => s

/-- GET_LOG_PAGE: a page with a row of its own is that row's command. Invalid Log Page is NVMe's.
(DEDUCED, log entry 53.) -/
def execGetLogPage (inst cid page lsi : Nat) (s : State) : Res :=
  if pagesWithRows.contains page then .next s
  else s.adminDo inst cid fun s =>
    match s.logPage inst page lsi with
    | none => refusedWith (if page = 0x09 ∨ page = 0x0A ∨ (0x20 ≤ page ∧ page ≤ 0x23) then Status.invalidField else 0x109) s
    | some l =>
      let s := (s.afterLog inst page lsi).reply inst 0 cid l
      succeeded (match pageEvent page with
        | some e => s.unmask inst e
        | none => s)

/-- GET_LOG_SMART_HEALTH (R474). -/
def execGetLogSmartHealth (inst cid : Nat) (s : State) : Res :=
  s.adminDo inst cid fun s => succeeded ((s.reply inst 0 cid (s.smartPage inst)).unmask inst Ev.smart)

/-- The die sets whose Archive page an instance may read (R475). -/
def State.archiveOk (s : State) (inst lsi : Nat) : Bool :=
  if lsi = 0 then inst = 0 else !(s.dieSet lsi).groups.isEmpty && (inst = 0 || (s.inst inst).dieSets.contains lsi)

/-- GET_LOG_ARCHIVE (R475). -/
def execGetLogArchive (inst cid lsi : Nat) (s : State) : Res :=
  s.adminDo inst cid fun s =>
    if s.archiveOk inst lsi then succeeded (s.reply inst 0 cid (s.archivePage lsi)) else refusedWith Status.invalidField s

/-- The records of the Persistent Event Log, oldest first: those of the persisted area that have left the ring, and the
ring's (R459, R460). -/
def State.pelRecords (s : State) : List Rec :=
  let old := s.klog.segments.reverse.flatMap fun (g : Segment) => g.recs
  let gone := old.filter fun r => !(s.klog.ring.any fun x => decide (x.seq = r.seq) && decide (x.time = r.time))
  (gone ++ s.klog.ring).filter fun r => r.pel

/-- The page of a context: the newest events that fit in 64 MiB (Table 17.10). -/
def pelPage (l : List Rec) : List Nat := (fitNewest 67108864 l).flatMap Rec.event

/-- Log 0x0D (Table 17.10): action 0 reads within a context, 1 establishes one and reads, 2 releases it; the status, the data, the
state. -/
def State.pelAct (s : State) (inst action : Nat) : Nat × List Nat × State :=
  let put := fun (c : Option (List Rec)) =>
    { s with klog := { s.klog with pelContexts := s.klog.pelContexts.set none inst c } }
  match action, s.klog.pelContexts.get none inst with
  | 0, some l => (Status.success, pelPage l, s)
  | 1, none => (Status.success, pelPage s.pelRecords, put (some s.pelRecords))
  | 2, some _ => (Status.success, [], put none)
  | 0, none => (Status.sequenceError, [], s)
  | 1, some _ => (Status.sequenceError, [], s)
  | 2, none => (Status.sequenceError, [], s)
  | _, _ => (Status.invalidField, [], s)

/-- GET_LOG_PERSISTENT_EVENT (Table 17.10). -/
def execGetLogPersistentEvent (inst cid action : Nat) (s : State) : Res :=
  s.adminDo inst cid fun s =>
    let r := s.pelAct inst action
    if r.1 ≠ Status.success then refusedWith r.1 s
    else succeeded (if action = 2 then r.2.2 else r.2.2.reply inst 0 cid r.2.1)

/-- A telemetry page (Table 17.10): whether controller-initiated data is available, then the areas of a copy. -/
def State.telemetryPage (s : State) (c : TeleCopy) : List Nat :=
  b2n s.klog.teleAvail :: c.regs.flatMap (le 4) ++ c.ring.flatMap Rec.bytes ++
    (c.persisted.reverse.flatMap Segment.bytes) ++ c.snap.flatMap (le 8)

/-- The telemetry page of a copy, if there is one. -/
def State.telemetryOf (s : State) (c : Option TeleCopy) : List Nat := (c.map fun x => s.telemetryPage x).getD []

/-- GET_LOG_TELEMETRY_HOST (Table 17.10): Create captures a new copy. -/
def execGetLogTelemetryHost (inst cid : Nat) (create : Bool) (s : State) : Res :=
  s.adminDo inst cid fun s =>
    let s : State := if create then { s with klog := { s.klog with teleHost := some s.telemetry } } else s
    succeeded (s.reply inst 0 cid (s.telemetryOf s.klog.teleHost))

/-- The controller-initiated copy has been given out: the next Severe message captures again. -/
def State.teleTaken (s : State) : State := { s with klog := { s.klog with teleCtrl := none, teleAvail := false } }

/-- GET_LOG_TELEMETRY_CONTROLLER (Table 17.10). -/
def execGetLogTelemetryController (inst cid : Nat) (s : State) : Res :=
  s.adminDo inst cid fun s => succeeded (((s.reply inst 0 cid (s.telemetryOf s.klog.teleCtrl)).teleTaken).unmask inst Ev.notice)

end Sys2Proof.Machine
end

