-- ==== Sys2Proof/Machine/Mgmt.lean ====
section
/-! DEFINITION. Meanings of the rows of the configuration mailbox, NVMe-MI and the steward mailbox
(spec/18_management_and_configuration.md). -/

namespace Sys2Proof.Machine

/-! ### Configuration mailbox (R463 to R469) -/

def execImageBegin (path : Nat) (hdr : CfgHeader) (length : Nat) (s : State) : Res :=
  s.mbxDo path fun s => s.cfgRequest path 0x0001 hdr 0 length 0 [] {}

def execImageChunk (path offset length : Nat) (recs : List CfgRec) (s : State) : Res :=
  s.mbxDo path fun s => s.cfgRequest path 0x0002 {} offset length 0 recs {}

def execImageCommit (path : Nat) (chain : Chain) (s : State) : Res :=
  s.mbxDo path fun s => s.cfgRequest path 0x0003 {} 0 0 0 [] chain

def execImageAbort (path : Nat) (s : State) : Res := s.mbxDo path fun s => s.cfgRequest path 0x0004 {} 0 0 0 [] {}

def execFieldRead (path : Nat) (recs : List CfgRec) (s : State) : Res :=
  s.mbxDo path fun s => s.cfgRequest path 0x0010 {} 0 0 0 recs {}

def execFieldWrite (path : Nat) (recs : List CfgRec) (s : State) : Res :=
  s.mbxDo path fun s => s.cfgRequest path 0x0011 {} 0 0 0 recs {}

def execNsModeSet (path mode : Nat) (s : State) : Res := s.mbxDo path fun s => s.cfgRequest path 0x0020 {} 0 0 mode [] {}

/-- CFG_MBX_BAD_DOORBELL (R463, R464): an opcode of Table 18.2 names a doorbell written while BUSY is 1, which is ignored
and sets ERR; any other opcode is answered with Bad opcode. (DEDUCED, log entry 28.) -/
def execCfgMbxBadDoorbell (opcode : Nat) (s : State) : Res :=
  if !(s.mbxOn 0) then .next s
  else if [1, 2, 3, 4, 0x10, 0x11, 0x20].contains opcode then .next (s.setReg Reg.CFG_MBX_STATUS_ERR 1)
  else .next (s.mbxAnswer 0 2 [])

/-- IMAGE_SESSION_TIMEOUT (R465): CFG_MGMT_SESSION_S without a request. -/
def execImageSessionTimeout (s : State) : Res :=
  let live := s.mgmt.session.filter fun x => decide (s.now < x.at_ + s.cfgOf Cfg.MGMT_SESSION_S * 100000000)
  .next { s with mgmt := { s.mgmt with session := live } }

/-- STEWARD_MAILBOX_TIMEOUT (R473). -/
def execStewardMailboxTimeout (s : State) : Res := .next (s.report 0x300 0x54 0 2)

/-! ### NVMe-MI (R470 to R472) -/

/-- A transport carries commands: SMBus (0) while VDD_IO33 is up (R512), PCIe VDM (1) when enabled and the link is up. -/
def State.miUp (s : State) (t : Nat) : Bool :=
  !(s.boot.phase = .fresh) && (if t = 0 then !s.boot.io33Low
    else t = 1 && s.cfgOf Cfg.MI_VDM_EN = 1 && (s.pcie.ports.get {} 0).up)

def miPort (t : Nat) : Nat := if t = 0 then Port.smbus else Port.pcie

/-- A response, kept for Replay. -/
def State.miReply (s : State) (t : Nat) (l : List Nat) : State :=
  let last : Tab (List Nat) := s.mgmt.miLast.set [] t l
  ({ s with mgmt := { s.mgmt with miLast := last } }).emit (.reply (miPort t) l)

/-- A frame arrives: on SMBus it may wake domain 93 (Table 15.5, source 4), on PCIe it is a host access. -/
def State.miFrame (s : State) (t : Nat) : State :=
  if t = 0 then
    let s := s.wakePort 4
    { s with mgmt := { s.mgmt with smbusAt := s.now } }
  else s.hostAccess

/-- An NVMe-MI command: not while the transport is paused; in Bisque mode refused; in the Grave hold the status is
Internal Error (2) but for what the steward answers there. -/
def State.mi (s : State) (t : Nat) (inGrave : Bool) (f : State → State) : Res :=
  if !(s.miUp t) then .next s
  else if s.mgmt.miPaused.contains t then .next (s.miFrame t)
  else
  let s := s.miFrame t
  if s.boot.phase = .bisque ∨ (s.boot.phase ≠ .ready ∧ !inGrave) then .next (s.miReply t [2])
  else if (s.fault.graveStopped ∨ s.boot.phase = .graveHold) ∧ !inGrave then .next (s.miReply t [2])
  else .next (f s)

/-- The health words that Basic Management Command and the polls report. -/
def State.statusFlags (s : State) : Nat :=
  let hold := s.fault.graveHold || s.boot.phase = .graveHold
  64 * b2n (decide (s.boot.phase ≠ .ready)) + 32 * b2n (s.boot.phase ≠ .bisque && !hold)

/-- MI_BASIC_MANAGEMENT_COMMAND (R471, R499): answered in every state. -/
def execMiBasicManagementCommand (s : State) : Res :=
  if s.boot.phase = .fresh ∨ s.boot.io33Low then .next s
  else
    let s := s.miFrame 0
    .next (s.emit (.reply Port.smbus [s.statusFlags, 255 - s.criticalWarning 0, (s.cone.nand / 1000).toNat, s.worstUsed]))

/-- MI_KILN_LOG_READ (R472). -/
def execMiKilnLogRead (transport start count : Nat) (s : State) : Res :=
  s.mi transport true fun s => s.miReply transport (0 :: s.kilnRead start count)

/-- A page a tunnelled Get Log Page reads, those with rows of their own among them; the identifier is the page's operand, with
the action or the namespace where it has one. -/
def State.tunnelledPage (s : State) (page lsi : Nat) : Nat × List Nat × State :=
  match page with
  | 0x02 => (Status.success, s.smartPage 0, s)
  | 0x07 => (Status.success, s.telemetryOf s.klog.teleHost, s)
  | 0x08 => (Status.success, s.telemetryOf s.klog.teleCtrl, s.teleTaken)
  | 0x0D => s.pelAct 0 lsi
  | 0xBF => s.changedZonePage 0 lsi
  | 0xC2 => if s.archiveOk 0 lsi then (Status.success, s.archivePage lsi, s) else (Status.invalidField, [], s)
  | 0xC4 => (Status.success, s.resultPage 0 lsi, s)
  | _ => match s.logPage 0 page lsi with
    | some d => (Status.success, d, s.afterLog 0 page lsi)
    | none => (0x109, [], s)

/-- A host admin command of a kind is in flight. -/
def State.adminBusy (s : State) (opcode : Nat) : Bool :=
  s.intake.tags.any fun t => decide (t.2.stage = .inFlight) && decide (t.2.sq = 0) && decide (t.2.cmd.args.head? = some opcode)

/-- A tunnelled command of instance 0 (Table 18.1): status, data, state. The body gives the command's fields in order. -/
def State.tunnelled (s : State) (opcode : Nat) (body : List Nat) : Nat × List Nat × State :=
  let a := body.getD 0 0
  let b := body.getD 1 0
  if (opcode = 0x09 ∨ opcode = 0x10) ∧ s.adminBusy opcode then (Status.invalidField, [], s)
  else match opcode with
  | 0x06 => match s.identifyData 0 a b with
    | some d => (Status.success, d, s)
    | none => (Status.invalidField, [], s)
  | 0x02 => s.tunnelledPage a b
  | 0x0A => match s.featureOf 0 a b with
    | some v => (Status.success, [v], s)
    | none => (Status.invalidField, [], s)
  | 0x09 =>
    if a = 0x04 then match s.setThreshold 0 (bit b 20) (b % 2 ^ 20) with
      | some t => (Status.success, [], t)
      | none => (Status.invalidField, [], s)
    else if a = 0x0E then (Status.success, [], s.setTimestamp b)
    else (Status.invalidOpcode, [], s)
  | 0x11 =>
    let r := s.download a b (fwHeaderOf (body.drop 2))
    (r.1, [], r.2)
  | 0x10 =>
    let r := s.fwCommit a b (chainOf (body.drop 2))
    (r.1, [], if r.2.2 then r.2.1.beginDeviceReset false else r.2.1)
  | _ => (Status.invalidOpcode, [], s)

/-- MI_TUNNELLED_ADMIN (R470): a Class U command of instance 0. While the part sleeps the control plane is up for the command
only (R423; DEDUCED, log entry 70). -/
def execMiTunnelledAdmin (transport opcode : Nat) (body : List Nat) (s : State) : Res :=
  s.mi transport false fun s =>
    if !s.running then s
    else
      let r := s.tunnelled opcode body
      r.2.2.miReply transport (0 :: r.1 :: r.2.1)

/-- MI_CONTROL_PRIMITIVE: 0 Pause, 1 Resume, 2 Abort, 3 Get State, 4 Replay (the codes are NVMe-MI's).
(PRESUMED, log entry 16.) -/
def execMiControlPrimitive (transport op slot : Nat) (s : State) : Res :=
  if !(s.miUp transport) ∨ s.boot.phase = .bisque ∨ 1 < slot then .next s
  else
  let s := s.miFrame transport
  let paused := fun (l : List Nat) => { s with mgmt := { s.mgmt with miPaused := l } }
  match op with
    | 0 => .next ((paused (if s.mgmt.miPaused.contains transport then s.mgmt.miPaused else transport :: s.mgmt.miPaused)).emit
        (.reply (miPort transport) [0, 0]))
    | 1 => .next ((paused (s.mgmt.miPaused.filter (· ≠ transport))).emit (.reply (miPort transport) [0, 1]))
    -- one command runs at a time and has ended: nothing is left to abort
    | 2 => .next (s.emit (.reply (miPort transport) [0, 2, 0]))
    | 3 => .next (s.emit (.reply (miPort transport) [0, 3, b2n (s.mgmt.miPaused.contains transport)]))
    | 4 => .next (s.emit (.reply (miPort transport) (s.mgmt.miLast.get [] transport)))
    | _ => .next s

/-- What a health poll reports of the subsystem, or of instance 0's controller. -/
def State.healthWord (s : State) (subsystem : Bool) : List Nat :=
  if subsystem then [s.statusFlags, 255 - s.criticalWarning 0, (s.cone.nand / 1000).toNat, s.worstUsed]
  else
    let x := s.inst 0
    [b2n x.rdy + 2 * b2n s.fault.cfs + 4 * x.shst, s.composite, s.worstUsed, s.worstSpare, s.criticalWarning 0]

/-- MI_HEALTH_STATUS_POLL: the figures, and whether they changed since they were last cleared. -/
def execMiHealthStatusPoll (transport : Nat) (subsystem clear : Bool) (s : State) : Res :=
  s.mi transport false fun s =>
    let w := s.healthWord subsystem
    let now := s.statusFlags * 256 + s.criticalWarning 0
    let changed := b2n (decide (now ≠ s.mgmt.miChanged))
    let s : State := if clear then { s with mgmt := { s.mgmt with miChanged := now } } else s
    s.miReply transport (0 :: changed :: w)

/-- MI_READ_DATA_STRUCTURE: 0 subsystem, 1 port, 2 controller list, 3 controller, 4 optional commands. -/
def execMiReadDataStructure (transport kind : Nat) (s : State) : Res :=
  s.mi transport false fun s =>
    match kind with
    | 0 => s.miReply transport [0, if s.boot.dualPort then 2 else 1, 1, 2]
    | 1 => s.miReply transport [0, s.cfgOf Cfg.MI_SMB_ADDR, s.cfgOf Cfg.MI_VDM_EN]
    | 2 => s.miReply transport (0 :: (s.tenant.insts.filter fun i => i.2.st ≠ .offline).map (·.1))
    | 3 => s.miReply transport [0, 0, 0x1024]
    | 4 => s.miReply transport [0, 0xC0]
    | _ => s.miReply transport [4]

/-- A configuration identifier and a value it can take: 1 SMBus frequency (1 to 3: 100 kHz, 400 kHz, 1 MHz), 2 Health
Status Change, 3 MCTP Transmission Unit Size. -/
def miConfigOk (id value : Nat) : Bool :=
  (id = 1 && decide (1 ≤ value) && decide (value ≤ 3)) || id = 2 || (id = 3 && decide (64 ≤ value) && decide (value ≤ 4096))

/-- MI_CONFIGURATION_GET (Table 18.1) (PRESUMED, log entry 56). -/
def execMiConfigurationGet (transport id port : Nat) (s : State) : Res :=
  s.mi transport false fun s =>
    if id < 1 ∨ 3 < id ∨ 1 < port then s.miReply transport [4]
    else s.miReply transport [0, s.mgmt.miConfig.get (if id = 3 then 64 else 1) (2 * id + port)]

/-- MI_CONFIGURATION_SET (Table 18.1) (PRESUMED, log entry 56). -/
def execMiConfigurationSet (transport id port value : Nat) (s : State) : Res :=
  s.mi transport false fun s =>
    if !(miConfigOk id value) ∨ 1 < port then s.miReply transport [4]
    else if id = 2 then
      ({ s with mgmt := { s.mgmt with miChanged := s.statusFlags * 256 + s.criticalWarning 0 } }).miReply transport [0]
    else
      let t : Tab Nat := s.mgmt.miConfig.set (if id = 3 then 64 else 1) (2 * id + port) value
      ({ s with mgmt := { s.mgmt with miConfig := t } }).miReply transport [0]

/-- VPD: 256 bytes (PRESUMED, log entry 20). -/
def vpdSize : Nat := 256

/-- MI_VPD_READ (Table 18.1): the bytes, or Invalid Parameter beyond the VPD (PRESUMED, log entry 20). -/
def execMiVpdRead (transport offset length : Nat) (s : State) : Res :=
  s.mi transport false fun s =>
    if vpdSize < offset + length then s.miReply transport [4]
    else s.miReply transport (0 :: (List.range length).map fun k => s.mgmt.vpd.get 0xFF (offset + k))

/-- MI_VPD_WRITE (Table 18.1) (PRESUMED, log entry 20). -/
def execMiVpdWrite (transport offset : Nat) (data : List Nat) (s : State) : Res :=
  s.mi transport false fun s =>
    if vpdSize < offset + data.length then s.miReply transport [4]
    else
      let t : Tab Nat := data.zipIdx.foldl (fun (t : Tab Nat) (x : Nat × Nat) => t.set 0xFF (offset + x.2) (x.1 % 256)) s.mgmt.vpd
      ({ s with mgmt := { s.mgmt with vpd := t } }).miReply transport [0]

/-- MI_RESET: the NVM Subsystem Reset of R404. -/
def execMiReset (transport : Nat) (s : State) : Res :=
  s.mi transport false fun s => (s.miReply transport [0]).beginDeviceReset false

end Sys2Proof.Machine
end

