-- ==== Sys2Proof/Machine/Pcie.lean ====
section
/-! DEFINITION. Meanings of the rows of the PCIe attachment (spec/12_pcie_attachment.md) and of the device resets
(R404, R11). -/

namespace Sys2Proof.Machine

/-! ### Ports -/

abbrev State.port (s : State) (p : Nat) : PPort := s.portAt p
abbrev State.modPort (s : State) (p : Nat) (f : PPort → PPort) : State := s.modPortAt p f

/-- A port that the strap gives (R343): PERST1_N and the second port exist in dual-port mode alone. -/
def State.portExists (s : State) (p : Nat) : Bool := p = 0 || (p = 1 && s.boot.dualPort)

def State.func (s : State) (i : Nat) : PFunc := s.pcie.funcs.get {} i
def State.modFunc (s : State) (i : Nat) (f : PFunc → PFunc) : State :=
  { s with pcie := { s.pcie with funcs := s.pcie.funcs.upd {} i f } }

/-- The stream enters Insecure (R359). -/
def State.ideInsecure (s : State) : State :=
  let ide : Ide := { s.pcie.ide with secure := false, inUse := [] }
  { s with pcie := { s.pcie with ide := ide } }

/-- What waits to be sent is lost with the link (R246). -/
def State.dropHeld (s : State) : State := { s with pcie := { s.pcie with heldOut := [] } }

/-- CLKREQ_N is released only while every port is in L1.1 or L1.2 (R354). -/
def State.settleClkreq (s : State) : State :=
  let low := fun (p : Nat) => (s.port p).l = .l11 || (s.port p).l = .l12
  { s with pcie := { s.pcie with clkreqReleased := low 0 && (!s.boot.dualPort || low 1) } }

/-- The link of a port has reached L0: WAKE_N is released (R354). -/
def State.linkL0 (s : State) (p : Nat) : State :=
  let s := (s.modPort p fun x => { x with l := .l0 }).settleClkreq
  { s with pcie := { s.pcie with wakeLow := false } }

/-- PERST_ASSERT (R356, R359, R480): a pulse below 1 µs is ignored, and so is the pin while VDD_IO33 is low (R512). -/
def execPerstAssert (port ns : Nat) (s : State) : Res :=
  if ns < 1000 ∨ !(s.portExists port) ∨ s.boot.io33Low then .next s
  else
    let s := s.modPort port fun x => { perst := true, lost := x.lost || x.up }
    let s := if port = 0 then s.ideInsecure.dropHeld else s
    -- in PS3 and PS4 it is a wake source first (Table 15.5)
    let s := if s.power.ps < 3 then s else s.wake 3
    .next (if s.boot.dualPort then s.resetPort port kindPerst else s.beginDeviceReset true)

/-- PERST_RELEASE (R355, R480): the port may train again. -/
def execPerstRelease (port : Nat) (s : State) : Res :=
  if !(s.portExists port) ∨ s.boot.io33Low ∨ !(s.port port).perst then .next s
  else .next (s.modPort port fun x => { x with perst := false })

/-- Rates of Table 12.1 in GT/s; 2 stands for 2.5. -/
def linkRates : List Nat := [64, 32, 16, 8, 5, 2]

/-- LINK_UP (R355, Table 12.2): at a rate and a width of Tables 12.1 and 12.2. In Bisque mode, in the Grave hold and
where the ROM has stopped no link trains (R453, R499). (DEDUCED, log entry 51.) (PRESUMED, log entry 52.) -/
def execLinkUp (port rate width : Nat) (s : State) : Res :=
  let widths := if s.boot.dualPort then [8, 4, 2, 1] else [16, 8, 4, 2, 1]
  if !(s.portExists port) ∨ (s.port port).perst ∨ (s.port port).up ∨ !(linkRates.contains rate) ∨
      !(widths.contains width) ∨ s.boot.phase = .bisque ∨ s.boot.phase = .graveHold ∨ s.boot.phase = .stopped ∨
      s.boot.phase = .fresh then .next s
  else .next ((s.modPort port fun x =>
    { x with up := true, lost := false, rate := rate, width := width, active := width }).linkL0 port)

/-- LINK_DOWN (R359, R246). (DEDUCED, log entry 51.) -/
def execLinkDown (port : Nat) (s : State) : Res :=
  if !(s.port port).up then .next s
  else
    let s := (s.modPort port fun x => { x with up := false, lost := true, l := .l0, active := 0 }).settleClkreq
    .next (if port = 0 then s.ideInsecure.dropHeld else s)

/-! ### Link power (R352 to R354) -/

/-- The substate asked may be entered: L1.2 only with a reported tolerance of at least the threshold. -/
def State.subAllowed (s : State) (f : PFunc) (sub : Nat) : Bool :=
  match sub with
  | 0 => true
  | 1 => f.l11
  | 2 => f.l12 && decide (f.l12Threshold ≤ s.intake.ltr)
  | _ => false

/-- ASPM_L1_ENTRY (R352): sub 0 is L1, 1 and 2 its substates. A link is idle no longer than intake is (DEDUCED, log entry
51). (DEDUCED, log entry 51.) -/
def execAspmL1Entry (port sub : Nat) (s : State) : Res :=
  let f := s.func (s.portPf port)
  if !(s.portExists port) ∨ !(s.port port).up ∨ !f.l1 ∨ s.busyTags ∨ !s.intake.notices.isEmpty ∨ !(s.subAllowed f sub) ∨
      s.now < s.intake.idleAt + s.cfgOf Cfg.PCIE_L1_IDLE_US * 100 then .next s
  else
    let l := if sub = 1 then LState.l11 else if sub = 2 then LState.l12 else LState.l1
    .next (s.modPort port fun x => { x with l := l }).settleClkreq

/-- ASPM_L1_EXIT (R352, R354): in an operational state; in PS3 and PS4 it is a wake source. -/
def execAspmL1Exit (port : Nat) (s : State) : Res :=
  if (s.port port).l = .l0 ∨ !(s.port port).up ∨ 3 ≤ s.power.ps then .next s else .next (s.linkL0 port)

/-- CFG_PCIE_L0P_MIN in lanes. -/
def State.l0pMin (s : State) : Nat := 2 * 2 ^ s.cfgOf Cfg.PCIE_L0P_MIN

/-- L0P_NARROW (R353). -/
def execL0pNarrow (port : Nat) (s : State) : Res :=
  let p := s.port port
  if !p.up ∨ p.l ≠ .l0 ∨ !(s.func (s.portPf port)).l0p ∨ p.active / 2 < s.l0pMin then .next s
  else .next (s.modPort port fun x => { x with active := x.active / 2 })

/-- L0P_WIDEN (R353): the full width is asked for. -/
def execL0pWiden (port : Nat) (s : State) : Res :=
  let p := s.port port
  if !p.up ∨ p.l ≠ .l0 then .next s else .next (s.modPort port fun x => { x with active := x.width })

/-- WAKE_N_ASSERT (R354): a function with PME_En in D3hot, one of whose instances has an event to report; a physical
function's instances are those of its port. -/
def execWakeNAssert (inst : Nat) (s : State) : Res :=
  let x := s.inst inst
  let mine := fun (i : Nat) => decide (i = inst) || (s.isPf inst && decide (s.portOf i = s.portOf inst))
  if x.pmeEn ∧ x.dState = 3 ∧ s.tenant.insts.any (fun e => mine e.1 && !e.2.events.isEmpty) then
    .next ({ s with pcie := { s.pcie with wakeLow := true } }.emit (.reply Port.pin [1]))
  else .next s

/-! ### Reads of host memory, interrupts -/

/-- PCIE_READ_ERROR (R351): 0 Completion Timeout, 1 Unsupported Request, 2 Completer Abort, 3 poisoned. The command ends
with Data Transfer Error; a write's range is handled as R49 and R87 state. -/
def execPcieReadError (tag aer : Nat) (s : State) : Res :=
  let r := s.tag tag
  let p := s.portOf r.inst
  if 3 < aer ∨ !(r.stage = .staged ∨ r.stage = .inFlight) ∨ r.fate ≠ 0 then .next s
  else .next (((s.failTag tag Status.dataTransferError).modPort p fun x => { x with aer := aer :: x.aer }).reportHost (0x1E0 + p) 0x51 aer 0 true)

/-- MSIX_VECTOR_UNMASK (R348). -/
def execMsixVectorUnmask (inst vector : Nat) (s : State) : Res :=
  let x := s.inst inst
  let s := s.modInst inst fun x => { x with
    msixMasked := x.msixMasked.filter (· ≠ vector), msixPending := x.msixPending.filter (· ≠ vector) }
  .next (if x.msixMasked.contains vector ∧ x.msixPending.contains vector then s.emit (.msi inst vector) else s)

/-! ### DOE, SPDM and IDE (R357 to R359) -/

def State.doe (s : State) (i : Nat) : DoeBox := s.pcie.does.get {} i
def State.modDoe (s : State) (i : Nat) (f : DoeBox → DoeBox) : State :=
  { s with pcie := { s.pcie with does := s.pcie.does.upd {} i f } }

/-- The steward answers over a DOE mailbox: the instance has one and the device is ready, in every power state and in the
Grave hold (R17, R357). -/
def State.doeOn (s : State) (i : Nat) : Bool := s.isPf i && s.boot.phase = .ready

/-- A DOE response: the object in progress is answered. -/
def State.doeReply (s : State) (i : Nat) (words : List Nat) : State :=
  (s.modDoe i fun b => { b with object := none }).emit (.reply Port.doe (i :: words))

/-- DOE_OBJECT (R357): one object at a time, at most 16 KiB. The first word names vendor (PCI-SIG: 1) and type: 0 DOE
Discovery, 1 CMA/SPDM, 2 Secured CMA/SPDM; Discovery is answered from the list of supported protocols. -/
def execDoeObject (inst : Nat) (object : List Nat) (s : State) : Res :=
  let h := object.headD 0
  let type := bits h 16 8
  if !(s.doeOn inst) ∨ (s.doe inst).object.isSome ∨ 4096 < object.length ∨ h % 65536 ≠ 1 ∨ 2 < type then .next s
  else
    let s := s.modDoe inst fun b => { b with object := some object }
    if type = 0 then
      let k := object.getD 2 0 % 256
      .next (s.doeReply inst [h, 3, if k ≤ 2 then 1 + k * 65536 + (if k < 2 then (k + 1) * 2 ^ 24 else 0) else 0xFFFF])
    else .next s

/-- DOE_ABORT (R357). -/
def execDoeAbort (inst : Nat) (s : State) : Res :=
  if !(s.doeOn inst) then .next s else .next (s.modDoe inst fun b => { b with object := none })

/-- The SPDM identity key is there: it is derived from its seed, and gone while ZEROIZE holds (R302). -/
def State.identityKey (s : State) : Option Nat :=
  if s.lifecycle = 0 ∨ s.glaze.alarm.isSome then none else some (Config.kdf s.identitySeed [0x50])

/-- The six measurement blocks of Table 12.6. -/
def State.measurements (s : State) : List Nat :=
  let fw := (s.boot.slots.get ({} : FwSlot) s.boot.running).hdr
  let cfg := match s.mgmt.inForce.bind fun k => s.mgmt.slots.get none k with
    | some c => c.hdr.digest
    | none => 0
  [Config.sha384 [s.reg Reg.CZ_ID_STEPPING], fw.overlay.digest, fw.control.digest, cfg,
   Config.sha384 [s.lifecycle, s.otpRow 9, s.otpRow 11],
   s.reg Reg.CZ_ID_PART * 65536 + s.reg Reg.CZ_ID_STEPPING * 256 + s.reg Reg.CZ_ID_FW_MAJOR * 16 + s.reg Reg.CZ_ID_FW_MINOR]

/-- SPDM's ERROR response with its error code. -/
def State.spdmError (s : State) (i code : Nat) : State := s.doeReply i [0x7F, code]

/-- SPDM_GET_MEASUREMENTS (R358): the blocks, the nonce and a signature over both. -/
def execSpdmGetMeasurements (inst nonce : Nat) (s : State) : Res :=
  if !(s.doeOn inst) then .next s
  else match s.identityKey with
    | none => .next (s.spdmError inst 0x05)
    | some k =>
      let m := s.measurements
      .next (s.doeReply inst (0x60 :: m ++ [nonce, Config.sign k (Config.sha384 (nonce :: m))]))

/-- SPDM_REQUEST (R357, Table 12.5). Request and error codes are SPDM's. (PRESUMED, log entry 16.) -/
def execSpdmRequest (inst code session : Nat) (body : List Nat) (s : State) : Res :=
  let b := s.doe inst
  let key := s.identityKey
  let answer := fun (s : State) => s.doeReply inst [code % 128, Config.spdm code (key.getD 0) body]
  if !(s.doeOn inst) then .next s
  else match code with
    -- GET_VERSION, GET_CAPABILITIES, NEGOTIATE_ALGORITHMS
    | 0x84 => .next (s.doeReply inst [0x04, 0x12])
    | 0xE1 => .next (answer s)
    | 0xE3 => .next (answer s)
    -- GET_DIGESTS, GET_CERTIFICATE of slot 0, CHALLENGE: the chain written at provisioning
    | 0x81 => if s.boot.certBytes = 0 then .next (s.spdmError inst 0x05) else .next (answer s)
    | 0x82 => if s.boot.certBytes = 0 ∨ body.headD 0 ≠ 0 then .next (s.spdmError inst 0x01) else .next (answer s)
    | 0x83 => if s.boot.certBytes = 0 ∨ body.headD 0 ≠ 0 ∨ key.isNone then .next (s.spdmError inst 0x01) else .next (answer s)
    -- KEY_EXCHANGE: at most 2 sessions
    | 0xE4 =>
      if key.isNone then .next (s.spdmError inst 0x05)
      else if 2 ≤ b.sessions.length then .next (s.spdmError inst 0x0A)
      else
        let id := b.nextSession
        let s := s.modDoe inst fun b => { b with sessions := b.sessions ++ [id], nextSession := id + 1 }
        .next (s.doeReply inst [0x64, id, Config.spdm code (key.getD 0) body])
    -- FINISH, HEARTBEAT, KEY_UPDATE, END_SESSION
    | 0xE5 => if b.sessions.contains session then .next (answer s) else .next (s.spdmError inst 0x02)
    | 0xE8 => if b.sessions.contains session then .next (answer s) else .next (s.spdmError inst 0x02)
    | 0xE9 => if b.sessions.contains session then .next (answer s) else .next (s.spdmError inst 0x02)
    | 0xEC =>
      if b.sessions.contains session then
        .next ((s.modDoe inst fun b => { b with sessions := b.sessions.filter (· ≠ session) }).doeReply inst [0x6C])
      else .next (s.spdmError inst 0x02)
    -- PSK_EXCHANGE, mutual authentication and the rest: not supported
    | _ => .next (s.spdmError inst 0x07)

/-- A direction has a key of the set. -/
def Ide.hasKey (x : Ide) (keySet dir : Nat) : Bool := (x.keys.get none (2 * keySet + dir)).isSome

/-- The stream is Secure while IDE is enabled and both directions use a key set. -/
def Ide.settle (x : Ide) : Ide :=
  { x with secure := x.enabled && (x.inUse.get none 0).isSome && (x.inUse.get none 1).isSome }

/-- IDE_KM_REQUEST (R359): QUERY (0), KEY_PROG (2), K_SET_GO (4) and K_SET_STOP (5) of a session of instance 0; key sets
0 and 1, directions 0 and 1. A refused request is answered with a status other than 0. (PRESUMED, log entry 16.) -/
def execIdeKmRequest (session op stream keySet dir key : Nat) (s : State) : Res :=
  let x := s.pcie.ide
  let set := fun (y : Ide) => ({ s with pcie := { s.pcie with ide := y } } : State).ideRelease
  let ok := x.stream = stream && decide (keySet ≤ 1) && decide (dir ≤ 1)
  if !(s.doeOn 0) ∨ s.boot.dualPort ∨ !((s.doe 0).sessions.contains session) then .next s
  else match op with
    | 0 => .next (s.doeReply 0 [1, x.stream, b2n x.enabled, b2n x.secure])
    | 2 =>
      if ok then .next ((set { x with keys := x.keys.set none (2 * keySet + dir) (some key) }).doeReply 0 [3, 0])
      else .next (s.doeReply 0 [3, 1])
    | 4 =>
      if ok ∧ x.hasKey keySet dir then
        .next ((set ({ x with inUse := x.inUse.set none dir (some keySet) } : Ide).settle).doeReply 0 [6, 0])
      else .next (s.doeReply 0 [6, 1])
    | 5 =>
      if ok then
        let inUse := if x.inUse.get none dir = some keySet then x.inUse.set none dir none else x.inUse
        .next ((set ({ x with inUse := inUse, keys := x.keys.set none (2 * keySet + dir) none } : Ide).settle).doeReply 0 [6, 0])
      else .next (s.doeReply 0 [6, 1])
    | _ => .next s

/-- IDE_INTEGRITY_CHECK_FAILURE (R359): reported through AER, and by the port as R351's event is.
(DEDUCED, log entry 17.) -/
def execIdeIntegrityCheckFailure (s : State) : Res :=
  if !s.pcie.ide.secure then .next s
  else .next ((s.ideInsecure.modPort 0 fun x => { x with aer := 4 :: x.aer }).report 0x1E0 0x51 4 0)

/-! ### Configuration space -/

/-- TotalVFs of a physical function (R345). -/
def State.totalVfs (s : State) (i : Nat) : Nat :=
  match s.tenant.second with
  | none => if i = 0 then 511 else 0
  | some k => if i = 0 then k - 1 else if i = k then 511 - k else 0

/-- What a read of a field returns. -/
def State.configRead (s : State) (i : Nat) (field : PField) : List Nat :=
  let f := s.func i
  let x := s.inst i
  match field with
  | .command _ _ => [b2n x.busMaster, b2n x.memEnable]
  | .power _ _ => [x.dState, b2n x.pmeEn]
  | .ltr _ => [b2n f.ltrOn]
  | .ltrMax _ _ => [f.maxSnoop, f.maxNoSnoop]
  | .readSize _ => [f.mrrs]
  | .tenBitTags _ => [b2n f.tenBit]
  | .relaxed _ => [b2n f.relaxed]
  | .tph _ => [b2n f.tph]
  | .aspm _ _ _ => [b2n f.l1, b2n f.l11, b2n f.l12]
  | .l12Threshold _ => [f.l12Threshold]
  | .l0p _ => [b2n f.l0p]
  | .ide _ _ => [b2n s.pcie.ide.enabled, s.pcie.ide.stream, b2n s.pcie.ide.secure]
  | .msixMask v _ => [b2n (x.msixMasked.contains v), b2n (x.msixPending.contains v)]
  | .msixSteer v _ => [x.steering.get 0 v]
  | .sriov => [s.totalVfs i, 1, 1]
  | .barSizes => if i = 0 then [65536, 524288, 65536] else [16384, 8192, 65536]
  | .msixSize => [if i = 0 then s.cfgOf Cfg.PCIE_MGR_VECTORS - 1 else x.vi - 1]
  | .l1Advert => [8, 40, 10]
  | .flr => [0]
  | .dword k => [f.dwords.get 0 k]

/-- What a write to a field does. IDE belongs to instance 0 in ×16 mode; a disabled stream is not Secure. -/
def State.configWrite (s : State) (i : Nat) (field : PField) (value : Nat) : State :=
  match field with
  | .command m e => s.modInst i fun x => { x with busMaster := m, memEnable := e }
  | .power d p => s.modInst i fun x => { x with dState := if d = 0 ∨ d = 3 then d else x.dState, pmeEn := p }
  | .ltr on => s.modFunc i fun f => { f with ltrOn := on }
  | .ltrMax a b => s.modFunc i fun f => { f with maxSnoop := a, maxNoSnoop := b }
  | .readSize n => if [128, 256, 512, 1024, 2048, 4096].contains n then s.modFunc i fun f => { f with mrrs := n } else s
  | .tenBitTags on => s.modFunc i fun f => { f with tenBit := on }
  | .relaxed on => s.modFunc i fun f => { f with relaxed := on }
  | .tph on => s.modFunc i fun f => { f with tph := on }
  | .aspm a b c => s.modFunc i fun f => { f with l1 := a, l11 := b, l12 := c }
  | .l12Threshold us => s.modFunc i fun f => { f with l12Threshold := us }
  | .l0p on => s.modFunc i fun f => { f with l0p := on }
  | .ide on k =>
    if i ≠ 0 ∨ s.boot.dualPort ∨ 255 < k then s
    else
      let ide : Ide := { s.pcie.ide with enabled := on, stream := k }
      ({ s with pcie := { s.pcie with ide := ide.settle } } : State).ideRelease
  | .msixMask v on =>
    if on then s.modInst i fun x =>
      { x with msixMasked := if x.msixMasked.contains v then x.msixMasked else x.msixMasked ++ [v] }
    else s
  | .msixSteer v k => s.modInst i fun x => { x with steering := x.steering.set 0 v (k % 256) }
  | .sriov => s
  | .barSizes => s
  | .msixSize => s
  | .l1Advert => s
  | .flr => s.functionReset i
  | .dword k => s.modFunc i fun f => { f with dwords := f.dwords.set 0 k (value % 2 ^ 32) }

/-- A configuration request is answered with the value read, or the write is applied. -/
def State.configRequest (s : State) (inst : Nat) (field : PField) (write : Bool) (value : Nat) : State :=
  if write then (s.configWrite inst field value).emit (.reply Port.pcie [inst, 0])
  else s.emit (.reply Port.pcie (inst :: 0 :: s.configRead inst field))

/-- CONFIGURATION_REQUEST (R355, R480, R345): Retry Status (2) until PCIe ready; then the value read, or the write
applied (0). In the Grave hold the configuration space answers (R453). In PS3 and PS4 it waits for the exit that it starts
(Table 15.7). (PRESUMED, log entry 55.) -/
def execConfigurationRequest (inst : Nat) (field : PField) (write : Bool) (value : Nat) (s : State) : Res :=
  if 511 < inst ∨ (s.port (s.portOf inst)).perst ∨ !(s.port (s.portOf inst)).up then .next s
  else if s.boot.phase ≠ .ready then .next (s.emit (.reply Port.pcie [inst, 2]))
  else
    let s := s.hostAccess
    .next (
      if s.power.ps < 3 then s.configRequest inst field write value
      else { s with power := { s.power with held := s.power.held ++ [(inst, some (field, write, value))] } })

/-! ### Device resets -/

/-- NVM_SUBSYSTEM_RESET (R404). -/
def execNvmSubsystemReset (s : State) : Res := .next (s.beginDeviceReset false)

/-- CONTROLLER_RESET (R11): the boot sequence goes on from its step 3. (DEDUCED, log entry 60.) -/
def execControllerReset (s : State) : Res :=
  .next (if s.boot.phase = .ready ∨ s.boot.phase = .bisque ∨ s.boot.phase = .stopped then s.controllerReset else s)

end Sys2Proof.Machine
end

