-- ==== Sys2Proof/Machine/Power.lean ====
section
/-! DEFINITION. Meanings of the rows of power states, domains and the regulator (spec/15_power_states.md). -/

namespace Sys2Proof.Machine

/-! ### Features -/

/-- SET_FEATURES_POWER_MANAGEMENT (R102, R407, R411): each instance keeps its value; instance 0's is the choice.
(DEDUCED, log entry 69.) -/
def execSetFeaturesPowerManagement (inst cid ps : Nat) (s : State) : Res :=
  s.adminDo inst cid fun s =>
    if 4 < ps then refusedWith Status.invalidField s
    else
      let s := s.modInst inst fun x => { x with powerFeature := ps }
      if inst ≠ 0 then succeeded s
      else if ps < 3 then succeeded (s.enterOperational ps)
      else succeeded { s with power := { s.power with chosen := some ps, gaveUp := false } }

/-- SET_FEATURES_APST (R410): 32 entries of idle time and state; a transition state must be non-operational.
(DEDUCED, log entry 69.) -/
def execSetFeaturesApst (inst cid : Nat) (enable : Bool) (entries : List (Nat × Nat)) (s : State) : Res :=
  s.adminDo inst cid fun s =>
    if 32 < entries.length ∨ entries.any (fun e => decide (e.1 ≠ 0) && (decide (e.2 < 3) || decide (4 < e.2))) then
      refusedWith Status.invalidField s
    else succeeded (s.modInst inst fun x => { x with apstOn := enable, apst := entries })

/-- SET_FEATURES_TEMPERATURE_THRESHOLD (R474). -/
def execSetFeaturesTemperatureThreshold (inst cid : Nat) (under : Bool) (value : Nat) (s : State) : Res :=
  s.adminDo inst cid fun s =>
    match s.setThreshold inst under value with
    | none => refusedWith Status.invalidField s
    | some t => succeeded t

/-! ### Entry -/

/-- NONOP_ENTRY_START (Table 15.4, steps 1 to 3; R416, R417): `refusal` is the domain that refuses and its reason. -/
def execNonopEntryStart (target : Nat) (refusal : Option (Nat × Nat)) (s : State) : Res :=
  .next (if s.entryOk ∧ s.power.chosen = some target ∧ s.power.backoff.isNone then s.entryStart target refusal else s)

/-- The power domain of a source of fault messages (Tables 17.3 and 15.3). (DEDUCED, log entry 70.) -/
def sourceDomain (c : Nat) : Nat :=
  if c < 0x40 then c
  else if c < 0x48 then 64 + (c - 0x40)
  else if c < 0x88 then c - 0x48
  else if c < 0x90 then 64 + (c - 0x88)
  else if c < 0xD0 then 91 + c % 2
  else if 0x100 ≤ c ∧ c ≤ 0x193 then clockPower (c - 0x100)
  else if c = 0x1A1 then 85
  else if 0x1B0 ≤ c ∧ c ≤ 0x1B5 then 87
  else if c = 0x1C0 then 78
  else if 0x1C8 ≤ c ∧ c ≤ 0x1CF then 80
  else if 0x1D0 ≤ c ∧ c ≤ 0x1D3 then 74 + (c - 0x1D0)
  else if 0x1F0 ≤ c ∧ c ≤ 0x1F3 then 81 + (c - 0x1F0)
  else if 0x200 ≤ c ∧ c ≤ 0x206 then 81
  else 94

/-- A voting domain that has sent a message since the votes began (Table 15.7). -/
def State.faultVote (s : State) : Option Nat :=
  ((s.fault.srcs.filter fun x => decide (s.power.entryCounts.get 0 x.1 < x.2.count) && votes (sourceDomain x.1)).map
    fun x => sourceDomain x.1).head?

/-- NONOP_STATE_REACHED (Table 15.4, steps 3 to 6; R428; Table 15.7). -/
def execNonopStateReached (stepDownOk : Bool) (s : State) : Res :=
  match s.power.entering with
  | none => .next s
  | some t =>
    if !s.diesIdle ∨ s.trail.dumpMode then .next s
    else if !s.intakeIdle then .next s.endEntry
    else match s.faultVote with
      | some d => .next ((s.setDomains 0).voteRefused d 1 t)
      | none =>
        let s := s.stopInterior t stepDownOk
        let s := { s with power := { s.power with
          ps := t, entering := none, chosen := none, refusals := 0, heat := 0, sleptAt := s.now } }
        .next (s.ltrUpdate (stateLtr t))

/-- ENTRY_BACKOFF_RETRY (R418): abandoned, without counting, when intake is not idle. -/
def execEntryBackoffRetry (refusal : Option (Nat × Nat)) (s : State) : Res :=
  .next (match s.power.backoff, s.power.chosen with
    | some due, some t =>
      if s.now < due then s
      else if s.entryOk then s.entryStart t refusal else { s with power := { s.power with backoff := none, refusals := 0 } }
    | _, _ => s)

/-- EXLAT in µs (Table 15.2). -/
def exlat (ps : Nat) : Nat := stateLtr ps

/-- The deepest state APST allows once intake has been idle for the entry's time in ms (R410). -/
def State.apstState (s : State) : Option Nat :=
  let x := s.inst 0
  match x.apst[s.power.ps]? with
  | some (idle, deepest) =>
    if !x.apstOn ∨ idle = 0 ∨ s.now < s.intake.idleAt + idle * 100000 then none
    else [4, 3].find? fun p => decide (p ≤ deepest) && (match s.tolerance with
      | some t => decide (exlat p ≤ t)
      | none => true)
  | none => none

/-- APST_IDLE_EXPIRY (R410). -/
def execApstIdleExpiry (refusal : Option (Nat × Nat)) (s : State) : Res :=
  .next (match s.apstState with
    | some p =>
      if s.entryOk ∧ s.power.backoff.isNone then
        ({ s with power := { s.power with chosen := some p } }).entryStart p refusal
      else s
    | none => s)

/-- PS3_PS4_CHANGE (R420). -/
def execPs3Ps4Change (s : State) : Res :=
  .next (
    if s.power.ps < 3 ∨ s.power.exiting.isSome ∨ s.power.maint.isSome then s
    else
      let t := if s.power.ps = 3 then 4 else 3
      let s := s.setDomains (if t = 4 then 2 else 1)
      let s := { s with cone := { s.cone with started := s.cone.started && decide (t = 4) } }
      ({ s with power := { s.power with ps := t } }).ltrUpdate (stateLtr t))

/-! ### Wake -/

/-- WAKE_SOURCE (R419, R423, Table 15.5): code 0 is a doorbell notice, 1 to 6 are the table's.
(DEDUCED, log entry 70.) -/
def execWakeSource (code : Nat) (s : State) : Res :=
  .next (
    if 6 < code then s
    else if code = 4 ∨ code = 5 then s.wakePort code
    else s.wake code)

/-- A Function Level Reset or a configuration request that waited for the exit is handled (Table 15.7). -/
def State.serveHeld (s : State) (x : Nat × Option (PField × Bool × Nat)) : State :=
  match x.2 with
  | none => s.functionReset x.1
  | some (f, w, v) => s.configRequest x.1 f w v

/-- Step 9 of the exit: firmware resumes in the last operational state, and what waited is served. -/
def State.resumeAll (s : State) : State :=
  let held := s.power.held
  let s := { s with power := { s.power with ps := s.power.lastOp, exiting := none, chosen := none, held := [] } }
  (s.each held State.serveHeld).ltrUpdate 1000

/-- EXIT_COMPLETE (Table 15.6, steps 3 to 9): once the running setpoint is confirmed. After the maintenance timer's wake the
reported state stays, and firmware works under the limits of PS2 (R422). -/
def execExitComplete (s : State) : Res :=
  match s.power.exiting with
  | none => .next s
  | some (code, t0) =>
    if s.power.avs.isSome ∨ s.power.confirmed ≠ s.power.running then .next s
    else
      let s := s.startInterior
      let s := { s with boot := { s.boot with baud := if s.power.ps = 4 then 115200 else s.boot.baud } }
      let s := s.setReg Reg.PWR_WAKE_LAST_EXIT_US (min 65535 ((s.now - t0) / 100))
      if code = 6 then
        let s := { s with power := { s.power with exiting := none, maint := some s.power.ps, gBefore := s.power.gFine } }
        .next (s.setG s.firstG)
      else .next s.resumeAll

/-- MAINTENANCE_WAKE (R422): CFG_PWR_MAINT_H has been spent in PS3 or PS4; the exit begins.
(DEDUCED, log entry 70.) -/
def execMaintenanceWake (s : State) : Res :=
  .next (
    if s.power.ps < 3 ∨ s.power.exiting.isSome ∨ s.power.maint.isSome ∨
        s.now < s.power.sleptAt + s.cfgOf Cfg.PWR_MAINT_H * 360000000000 then s
    else s.exitStart 6)

/-- MAINTENANCE_REENTRY (R422): the same state again by Table 15.4. (DEDUCED, log entry 70.) -/
def execMaintenanceReentry (refusal : Option (Nat × Nat)) (s : State) : Res :=
  match s.power.maint with
  | none => .next s
  | some t =>
    if !s.intakeIdle ∨ !s.diesIdle ∨ s.programsLeft then .next s
    else
      let s := ((s.flushAll.mapAll).park.trailRec .quiet).flushAll
      match refusal.or s.preCheck with
      | some (d, why) => .next (s.voteRefused d why t)
      | none =>
        let s := (s.stopInterior t true).endMaint
        .next { s with power := { s.power with refusals := 0, sleptAt := s.now } }

/-- WAKE_DOMAIN_IDLE_RETURN (R423): neither port has received a frame for 100 ms. -/
def execWakeDomainIdleReturn (s : State) : Res :=
  .next (match s.power.portWake with
    | some st => if s.now < max s.power.wokenAt (max s.mgmt.smbusAt s.boot.frameAt) + 10000000 then s else { s with power := { s.power with
        portWake := none, domains := s.power.domains.upd {} 93 fun d => { d with st := st } } }
    | none => s)

/-! ### Domains -/

/-- The idle time that gates a channel whose idle period began at a moment (Table 15.10). -/
def State.chIdleMs (s : State) (t0 : Nat) : Nat := if t0 < s.power.chIdle.2 then s.power.chIdle.1 else s.cfgOf Cfg.PWR_CH_IDLE_MS

/-- A channel with nothing queued and nothing at the NAND for CFG_PWR_CH_IDLE_MS, of no set in a deterministic window, with
no retrain under way. -/
def State.channelIdle (s : State) (c : Nat) : Bool :=
  let mine := s.flash.dies.filter fun d => decide (channelOf d.1 = c)
  let t0 := mine.foldl (fun t d => max t d.2.idleAt) 0
  mine.all (fun d => d.2.short.isNone && d.2.long.isNone && d.2.shortQ.isEmpty && d.2.longQ.isEmpty && !(s.inWindow d.1)) &&
    decide (t0 + s.chIdleMs t0 * 100000 ≤ s.now)

/-- Lanes 8 to 15 of Glaze have had no descriptor for 1 ms and hold no context. -/
def State.upperLanesIdle (s : State) : Bool :=
  (List.range' 8 8).all fun l => (s.lane l).running.isNone && (s.lane l).contexts.isEmpty && decide ((s.lane l).doneAt + 100000 ≤ s.now)

/-- DOMAIN_IDLE_GATE (R413). -/
def execDomainIdleGate (domain : Nat) (s : State) : Res :=
  .next (
    let ok := if domain < 64 then s.channelIdle domain else domain = 79 && s.upperLanesIdle
    if s.cfgOf Cfg.PWR_IDLE_GATE = 1 ∧ s.power.ps < 3 ∧ ok ∧ (s.power.domains.get {} domain).st = 0 then
      { s with power := { s.power with domains := s.power.domains.upd {} domain fun d => { d with st := 2, idle := true } } }
    else s)

/-- ISOLATION_GATE_WAKE (R414): in PS3 and PS4 the request is held and starts no exit. -/
def execIsolationGateWake (domain : Nat) (s : State) : Res := .next (s.gateWake domain)

/-! ### The regulator -/

/-- AVS_STEP_REQUEST (R426, R427). -/
def execAvsStepRequest (mv : Nat) (s : State) : Res := .next (s.coneStep mv)

/-- A setpoint is confirmed (R426, R428). -/
def State.avsConfirmed (s : State) (mv : Nat) : State :=
  { s with power := { s.power with avs := none, confirmed := mv, readBack := true, avsHeld := false } }

/-- A setpoint change has failed twice (R426): the confirmed setpoint stands. -/
def State.avsFailed (s : State) (mv : Nat) : State :=
  ({ s with power := { s.power with avs := none, failedAt := s.now } }.bump Reg.PWR_AVS_FAIL_FAILURES).report 0x302 0x48 mv 2

/-- AVS_STEP_RESULT (R426, R428): a failure repeats the whole change once. -/
def execAvsStepResult (answer : AvsAnswer) (s : State) : Res :=
  match s.power.avs with
  | none => .next s
  | some a =>
    if !(s.avsDue a answer) then .next s
    else
      let ok := avsConfirms answer a.mv
      let s := s.avsRead answer ok
      .next (
        if ok then
          let s := s.avsConfirmed a.mv
          if a.retried then (s.bump Reg.PWR_AVS_FAIL_RETRIES).reportTransient 0x302 0x48 a.mv else s
        else if a.retried then s.avsFailed a.mv
        else s.avsWrite a.mv true)

/-- AVS_EXIT_RETRY (R428): 1 ms after the failure the exit is repeated from its step 2. -/
def execAvsExitRetry (answer : AvsAnswer) (s : State) : Res :=
  .next (
    if s.power.exiting.isNone ∨ s.power.avs.isSome ∨ s.power.confirmed = s.power.running ∨ s.now < s.power.failedAt + 100000 then s
    else
      let mv := s.power.running
      let ok := avsConfirms answer mv
      let s := (s.emit (.reply Port.avs [0, mv])).avsRead answer ok
      if ok then s.avsConfirmed mv else s.avsFailed mv)

/-- Half degrees above -40 °C of a reading in 1/8 °C, rounded up. -/
def halfDegrees (t : Int) : Nat := ((t + 323) / 4).toNat

/-- AON_DIODE_READ (R421): readings in 1/8 °C. -/
def execAonDiodeRead (diode0 diode1 : Int) (s : State) : Res :=
  .next (
    if s.power.ps < 3 then s
    else
      let h := af256 (s.cfgOf Cfg.MEDIA_FI_EA) (halfDegrees (max diode0 diode1))
      { s with
        power := { s.power with heat := s.power.heat + h }
        cone := { s.cone with diode0 := diode0 * 125, diode1 := diode1 * 125 } })

/-- The `k`-th 32-bit word of a record's bytes; those beyond LENGTH read 0 (R456, Table 17.14). -/
def Rec.dword (r : Rec) (k : Nat) : Nat :=
  ((List.range 4).map fun j => r.bytes.getD (4 * k + j) 0 * 256 ^ j).sum

/-- The 32 bits a manager read of a register returns: a register's fields, KLOG_RD_DATA (Table 17.14), the message
delivered from a tenant in its window (R373). -/
def State.readReg (s : State) (off : Nat) : Nat :=
  if 0x4400 ≤ off ∧ off < 0x4800 then (s.klog.captured.map fun (r : Rec) => r.dword ((off - 0x4400) / 4)).getD 0
  else if 0x10100 ≤ off ∧ off < 0x30000 then (s.inst ((off - 0x10000) / 256)).mbxM.inMsg.get 0 (off % 256 / 4)
  else ((fieldsAt off).map fun f => s.readField f.key * 2 ^ (f.key % 32)).sum

/-- OFF_DOMAIN_READ (R9, R414): a read of a register whose domain runs returns its value. -/
def execOffDomainRead (offset : Nat) (s : State) : Res :=
  .next (
    if s.domainOff (s.regDomain offset) then (s.setReg Reg.PWR_STATUS_OFFREAD 1).emit (.reply Port.register [offset, 0xFFFFFFFF])
    else s.emit (.reply Port.register [offset, s.readReg offset]))

end Sys2Proof.Machine
end

