-- ==== Sys2Proof/Machine/PowerLoss.lean ====
section
/-! DEFINITION. Meanings of the rows of power loss, shutdown and the Trail (spec/08_power_loss_and_trail.md). -/

namespace Sys2Proof.Machine

/-- PWRFAIL_ASSERT (R244): `ns` is how long PWRFAIL_N is low. (DEDUCED, log entry 47.) -/
def execPwrfailAssert (ns : Nat) (s : State) : Res :=
  .next (
    if ns < 5000 then (s.bump Reg.PWR_LOSS_STATUS_GLITCHES).report sequencerSource 0x4E ns 0
    else
      let s := { s with boot := { s.boot with pwrfailLow := true } }
      if s.noDump then s
      else ({ s with boot := { s.boot with shut := none } }).dumpStart)

/-- The dump has written everything: units started have run their passes, and no program of it is left (Table 8.2,
Table 8.5 cases 3 and 4). -/
def State.dumpDone (s : State) : Bool :=
  let mine := fun (o : FlashOp) => decide (o.kind = .dumpProgram)
  s.trail.dumpMode && (match s.trail.dump with
    | some d => !d.marker
    | none => false) && s.trail.dumpPlan.isEmpty &&
    s.flash.dies.all fun d => d.2.st ≠ .pass && d.2.st ≠ .gap && !(d.2.shortQ.any mine || d.2.short.any mine)

/-- DUMP_COMPLETE (R224; R245, steps 5 to 8; Table 8.5; Table 14.3; R253 for an abrupt shutdown). -/
def execDumpComplete (s : State) : Res :=
  if !s.dumpDone then .next s
  else
    let s := s.tailDurable
    -- the marker in the four header places
    let s := (s.takeSeq 64).2
    let dump := s.trail.dump.map fun (d : Dump) => { d with marker := true }
    let s := { s with
      trail := { s.trail with toRestore := true, dump := dump }
      mgmt := { s.mgmt with unsafeStops := s.mgmt.unsafeStops + 1 } }
    let s := (s.setReg Reg.PWR_LOSS_STATUS_LAST 2).setReg Reg.PWR_LOSS_STATUS_DUMP_MS
      (min 255 ((s.now - s.trail.dumpStart) / 100000))
    let s := s.abandonFences fun _ => true
    let insts : Tab Inst := s.tenant.insts.mapVals {} fun _ (x : Inst) => if x.ccShn = 2 then { x with shst := 2 } else x
    .next { s with tenant := { s.tenant with insts := insts } }

/-- PWRFAIL_RELEASE_TIMEOUT (Table 8.5, case 5): PWRFAIL_N high for 100 ms. In the Grave state no start-up follows
(R453). -/
def execPwrfailReleaseTimeout (s : State) : Res :=
  .next (
    let s' := { s with boot := { s.boot with pwrfailLow := false } }
    if !s.boot.pwrfailLow then s
    else if !s.trail.dumpMode then s'
    else if s.trail.dump.any (·.marker) ∧ !s.fault.grave then s'.controllerReset
    else if s.fault.grave then s'
    else s)

/-- CC.SHN of an instance other than instance 0 acts on that instance alone (R367). -/
def State.tenantShut (s : State) (inst shn : Nat) : State :=
  if !(s.inst inst).ccEn ∨ (s.inst inst).shst = 2 then s
  else (s.modInst inst fun x => { x with ccShn := shn, shst := 1 }).shutdownDone inst

/-- NORMAL_SHUTDOWN (R253): fetching stops; SHUTDOWN_COMPLETE ends it. (DEDUCED, log entry 50.) -/
def execNormalShutdown (inst : Nat) (s : State) : Res :=
  .next (
    if inst ≠ 0 then s.tenantShut inst 1
    else if s.boot.phase ≠ .ready ∨ s.trail.dumpMode ∨ s.boot.shut.isSome ∨ (s.inst 0).shst = 2 then s
    else
      let s := (s.modInst 0 fun x => { x with ccShn := 1, shst := 1 }).hostAccess
      { s with intake := { s.intake with stopped := true }, boot := { s.boot with shut := some .normal } })

/-- ABRUPT_SHUTDOWN (R253): the dump sequence runs, DUMP_COMPLETE sets SHST. (DEDUCED, log entry 50.) -/
def execAbruptShutdown (inst : Nat) (s : State) : Res :=
  .next (
    if inst ≠ 0 then s.tenantShut inst 1
    else if s.boot.phase ≠ .ready ∨ s.trail.dumpMode ∨ (s.inst 0).shst = 2 then s
    else
      let s := s.modInst 0 fun x => { x with ccShn := 2, shst := 1 }
      ({ s with boot := { s.boot with shut := none } }).dumpStart)

/-- A ×16 PERST clears what is held without Persist Through Power Loss (R362). -/
def State.dropRegistrants (s : State) : State :=
  let nss : Tab Ns := s.zone.nss.mapVals {} fun _ (n : Ns) => if n.ptpl then n else { n with registrants := [], holder := none }
  { s with zone := { s.zone with nss := nss } }

/-- SHUTDOWN_COMPLETE (R253, steps 4 and 5; R404, R356; R516): once no command is in flight. -/
def execShutdownComplete (s : State) : Res :=
  match s.boot.shut with
  | none => .next s
  | some k =>
    let stopping := (s.tenant.insts.filter fun i => i.2.st = .stopping).map (·.1)
    -- in PS3 and PS4 the exit comes first (Table 15.5, source 3)
    if s.trail.dumpMode ∨ stopping.any s.atNand ∨ 3 ≤ s.power.ps then .next s
    else match k with
      | .device perst =>
        let s := ((s.each stopping State.endStop).drainEnd).controllerReset
        .next (if perst then s.dropRegistrants else s)
      | .normal =>
        if s.busyTags then .next s
        else .next (
          let s := s.drainEnd.modInst 0 fun x => { x with shst := 2 }
          { s with boot := { s.boot with shut := none } })
      | .pwrdis =>
        if s.busyTags then .next s
        else .next (
          let s := s.drainEnd
          let insts : Tab Inst := s.tenant.insts.mapVals {} fun _ (x : Inst) => { x with shst := 2 }
          let s := { s with tenant := { s.tenant with insts := insts } }
          if s.boot.pwrdisFell then s.controllerReset else { s with boot := { s.boot with shut := none } })

/-- TRAIL_FLUSH_START (R255): fields staged for the next flush come into force. -/
def execTrailFlushStart (s : State) : Res :=
  .next s.flushNow

/-- TRAIL_FLUSH_DURABLE (R255): every segment of the oldest flush has been programmed. -/
def execTrailFlushDurable (s : State) : Res :=
  .next (match s.trail.flushes with
    | f :: _ => if s.flushAtDie f then s else (s.flushDurable f).flushForFence
    | [] => s)

/-- CHECKPOINT_START (R258, R338). -/
def execCheckpointStart (s : State) : Res :=
  .next (if !s.trailOn ∨ s.trail.ckptBusy then s else (s.takeCfg .checkpoint fun _ => true).ckptBegin)

/-- CHECKPOINT_END (R259): CKPT_END is durable, so the records before it are. -/
def execCheckpointEnd (s : State) : Res :=
  .next (if s.trail.ckptBusy ∧ s.trailOn ∧ !(s.trail.half.contains (.ckptBegin s.trail.ckptSeq)) ∧
      !(s.trail.flushes.any fun f => f.recs.contains (.ckptBegin s.trail.ckptSeq)) then s.ckptEnd else s)

/-- DUMP_ROW_RELEASE (R243): the record is written; once it is durable the row is erased and armed.
(DESIGN CHOICE, log entry 48.) -/
def execDumpRowRelease (group : Nat) (s : State) : Res :=
  .next (if (s.group group).dumpHeld ∧ s.dumpReplayed ∧ s.trailOn ∧ !(s.trail.half.contains (.dumpRelease group)) then
    s.trailRec (.dumpRelease group) else s)

end Sys2Proof.Machine
end

