-- ==== Sys2Proof/Machine/Tenants.lean ====
section
/-!
DEFINITION. Meanings of the rows of the instances: Virtualization Management, quiesce, resets, resources, state
records, mailboxes, dirty-page log (spec/13_tenants.md).
-/

namespace Sys2Proof

/-- A selected field of the record. -/
def ResRec.has (r : ResRec) (b : Nat) : Bool := bit r.valid b

/-- Entries for Asynchronous Event Requests and waiting events, at most 16. -/
def InstRec.naer (r : InstRec) : Nat := min 16 (max r.aers.length r.events.length)

/-- The record's size in bytes. -/
def InstRec.size (r : InstRec) : Nat := 192 + 48 * r.queues.length + 4 * r.nsids.length + 8 * r.naer + 4

open Machine (le padTo crc32c)

/-- CC of a running controller: EN, AMS, entry sizes of 64 and 16 bytes, as NVMe places them (PRESUMED, log entry 112). -/
def InstRec.cc (r : InstRec) : Nat := 1 + b2n r.wrr * 2 ^ 11 + 6 * 2 ^ 16 + 4 * 2 ^ 20

/-- The features in the table's order. -/
def InstRec.features (r : InstRec) : List Nat :=
  [r.arbitration, r.powerFeature, r.coalescing, r.asyncConfig, b2n r.apstOn] ++ (r.apst.flatMap fun a => [a.1, a.2]) ++
  (r.plm.flatMap fun p => [p.1, b2n p.2.1, p.2.2]) ++ [r.hostId] ++ (r.resMask.flatMap fun m => [m.1, m.2]) ++ r.ptpl

/-- The bytes of a queue pair. -/
def QPair.bytes (q : QPair) : List Nat :=
  le 2 q.sq ++ le 2 q.cq ++ le 2 q.sqSize ++ le 2 q.cqSize ++ le 8 q.sqBase ++ le 8 q.cqBase ++ le 2 q.sqHead ++ le 2 q.sqTail ++
  le 2 q.cqTail ++ le 2 q.cqHead ++ le 2 q.vector ++ le 2 (b2n q.phase + 2 * b2n q.ien + 4 * b2n q.pc + 8 * q.prio) ++ le 12 0

/-- The bytes of the record before its CRC (Table 13.11). A missing request reads as identifier 0xFFFF, the event's bytes
are its type, information and log page (DESIGN CHOICE, log entry 112). -/
def InstRec.body (r : InstRec) : List Nat :=
  let admin := r.queues.headD {}
  le 4 r.magic ++ le 2 1 ++ le 2 0 ++ le 2 r.part ++ [r.fw, 0] ++ le 2 r.source ++ le 2 r.queues.length ++
  le 2 r.nsids.length ++ [r.naer] ++ le 3 0 ++ le 4 r.size ++ le 38 0 ++
  padTo 64 (le 4 r.cc ++ le 4 (admin.sqSize - 1 + (admin.cqSize - 1) * 65536) ++ le 8 admin.sqBase ++ le 8 admin.cqBase ++ le 4 0) ++
  padTo 64 (Config.packFeatures r.features) ++ r.queues.flatMap QPair.bytes ++ r.nsids.flatMap (le 4) ++
  (List.range r.naer).flatMap fun k =>
    let e := r.events.getD k (0, 0, 0)
    le 2 (r.aers.getD k 0xFFFF) ++ [e.1, e.2.1, e.2.2] ++ le 3 0
def InstRec.bytes (r : InstRec) : List Nat := r.body ++ le 4 (crc32c r.body)

end Sys2Proof

namespace Sys2Proof.Machine

/-! ### Virtualization Management -/

/-- VIRT_MGMT_ASSIGN (R347, Table 13.4): rt 0 is VQ, 1 is VI. -/
def execVirtMgmtAssign (inst cid target rt n : Nat) (s : State) : Res :=
  s.managerDo inst cid fun s =>
    let x := s.inst target
    let port := Tab.sum (fun i y => if i ≠ 0 ∧ s.portOf i = s.portOf target ∧ i ≠ target then y.vi else 0) s.tenant.insts
    let mgr := if s.portOf target = 0 then s.cfgOf Cfg.PCIE_MGR_VECTORS else 0
    let pairs := Tab.sum (fun i y => if i ≠ target then y.vq else 0) s.tenant.insts
    if target = 0 ∨ 511 < target then refusedWith Status.invalidCtrlId s
    else if 1 < rt then refusedWith Status.invalidResourceId s
    else if x.st ≠ .offline then refusedWith Status.invalidCtrlState s
    else if rt = 0 ∧ (1023 < n ∨ 7680 < pairs + n) then refusedWith Status.invalidResourceCount s
    else if rt = 1 ∧ (n = 0 ∨ 2048 < n ∨ 4096 < port + mgr + n) then refusedWith Status.invalidField s
    else
      let s := s.modInst target fun x => if rt = 0 then { x with vq := n } else { x with vi := n }
      (Status.success, n, s.saveInst target)

/-- VIRT_MGMT_ONLINE (R365, Table 13.3). -/
def execVirtMgmtOnline (inst cid target : Nat) (s : State) : Res :=
  s.managerDo inst cid fun s =>
    let x := s.inst target
    if target = 0 ∨ 511 < target then refusedWith Status.invalidCtrlId s
    else if x.st ≠ .offline then refusedWith Status.invalidCtrlState s
    else if x.vq = 0 ∨ x.vi = 0 then refusedWith Status.invalidResourceCount s
    else succeeded (s.modInst target fun x => { x with st := .online, rdy := x.ccEn })

/-- VIRT_MGMT_OFFLINE (R365, R384): Dword 0 is the number of access entries removed. -/
def execVirtMgmtOffline (inst cid target : Nat) (s : State) : Res :=
  s.managerDo inst cid fun s =>
    let x := s.inst target
    if target = 0 ∨ 511 < target then refusedWith Status.invalidCtrlId s
    else if !(x.st = .held ∨ (x.st = .online ∧ !x.ccEn ∧ !(s.hasCommands target))) then
      refusedWith Status.invalidCtrlState s
    else
      let r := s.removeInstance target
      (Status.success, r.1, r.2)

/-! ### Quiesce -/

/-- INSTANCE_QUIESCE_PAUSE (R377, R370): limit in ms; the command completes when the instance is Paused. -/
def execInstanceQuiescePause (inst cid target limit : Nat) (reservedOk : Bool) (s : State) : Res :=
  s.admin inst cid fun s =>
    let x := s.inst target
    if inst ≠ 0 then s.adminCqe inst cid Status.invalidOpcode 0
    else if !(s.isTenant target) then s.adminCqe inst cid Status.invalidCtrlId 0
    else if !reservedOk ∨ 10000 < limit then s.adminCqe inst cid Status.invalidField 0
    else if !(x.st = .online ∧ x.rdy) then s.adminCqe inst cid Status.sequenceError 0
    else (s.beginPause target limit cid).keepWaiting inst cid [0xC1] []

/-- PAUSE_DRAIN_COMPLETE (R377): only Asynchronous Event Requests remain. -/
def execPauseDrainComplete (target : Nat) (s : State) : Res :=
  let x := s.inst target
  if x.st ≠ .pausing ∨ s.hasCommands target then .next s
  else
    let s := (s.modInst target fun x => { x with st := .paused, quiesce := {} }).leaveTree
      fun o => decide (o = .quiesce target)
    .next (s.each x.quiesce.waiters fun s w => s.adminCqe 0 w.2 w.1 0)

/-- PAUSE_LIMIT_EXPIRY (R377, R365): the Pause goes on as a Stop that leaves the instance Held. -/
def execPauseLimitExpiry (target : Nat) (s : State) : Res :=
  let x := s.inst target
  if x.st ≠ .pausing ∨ s.now < x.quiesce.tZero + x.quiesce.limit * 100000 then .next s
  else .next (s.beginStop target kindLimit true none)

/-- INSTANCE_QUIESCE_STOP (R378, R365). -/
def execInstanceQuiesceStop (inst cid target : Nat) (reservedOk : Bool) (s : State) : Res :=
  s.admin inst cid fun s =>
    let x := s.inst target
    if inst ≠ 0 then s.adminCqe inst cid Status.invalidOpcode 0
    else if !(s.isTenant target) then s.adminCqe inst cid Status.invalidCtrlId 0
    else if !reservedOk then s.adminCqe inst cid Status.invalidField 0
    else match x.st with
      | .held => s.adminCqe inst cid Status.success 0
      | .stopping => s.adminCqe inst cid Status.sequenceError 0
      | .offline => s.adminCqe inst cid Status.sequenceError 0
      | _ => (s.beginStop target kindStop true (some (Status.success, cid))).keepWaiting inst cid [0xC1] []

/-- INSTANCE_QUIESCE_RESUME (R365): from Held, CC.EN reads 0. -/
def execInstanceQuiesceResume (inst cid target : Nat) (reservedOk : Bool) (s : State) : Res :=
  s.adminDo inst cid fun s =>
    if inst ≠ 0 then refusedWith Status.invalidOpcode s
    else if !(s.isTenant target) then refusedWith Status.invalidCtrlId s
    else if !reservedOk then refusedWith Status.invalidField s
    else match (s.inst target).st with
      | .paused => succeeded (s.modInst target fun x => { x with st := .online })
      | .held => succeeded (s.modInst target fun x => { x with st := .online, ccEn := false, rdy := false })
      | _ => refusedWith Status.sequenceError s

/-- STOP_DRAIN_COMPLETE (R378): no operation of the instance is at the NAND any more. -/
def execStopDrainComplete (target : Nat) (s : State) : Res :=
  if (s.inst target).st ≠ .stopping ∨ s.atNand target then .next s else .next (s.endStop target)

/-! ### Resets of a function, CC.EN, CC.SHN -/

/-- FUNCTION_LEVEL_RESET (R366): in PS3 and PS4 it waits for the exit that it starts (Table 15.7). -/
def execFunctionLevelReset (inst : Nat) (s : State) : Res :=
  let s := s.hostAccess
  .next (if s.power.ps < 3 then s.functionReset inst
    else { s with power := { s.power with held := s.power.held ++ [(inst, none)] } })

/-- CONTROLLER_DISABLE (R365): CC.EN from 1 to 0, handled as a Stop. -/
def execControllerDisable (inst : Nat) (s : State) : Res :=
  let x := s.inst inst
  if x.st = .online ∧ x.ccEn then .next (s.beginStop inst kindReset false none) else .next s

/-- CONTROLLER_ENABLE (R345): CC.EN = 1 with the admin queues and CC.AMS. CSTS.RDY stays 0 while the instance is
Offline or Held, and before the part is ready. -/
def execControllerEnable (inst : Nat) (asq acq : QMem) (wrr : Bool) (s : State) : Res :=
  let x := s.inst inst
  if x.ccEn ∨ asq.size < 2 ∨ acq.size < 2 ∨ 4096 < asq.size ∨ 4096 < acq.size then .next s
  else match x.st with
    | .stopping => .next s
    | .pausing => .next s
    | .paused => .next s
    | _ =>
      -- after a normal shutdown that has completed, instance 0 starts to fetch again (R253)
      let again := decide (inst = 0) && decide (x.shst = 2) && s.boot.shut.isNone && s.boot.phase = .ready &&
        !s.trail.dumpMode && !s.boot.pwrdis
      let s : State := if again then { s with intake := { s.intake with stopped := false } } else s
      .next (s.modInst inst fun x => { x with
        ccEn := true, wrr := wrr, ccShn := 0, shst := 0, rdy := x.st = .online && s.boot.phase = .ready
        sqs := x.sqs.set {} 0 { exists_ := true, size := asq.size, base := asq.base }
        cqs := x.cqs.set {} 0 { exists_ := true, size := acq.size, base := acq.base } })

/-- TENANT_SHUTDOWN (R367): SHST = 10b once the admitted commands have posted. -/
def execTenantShutdown (inst : Nat) (s : State) : Res :=
  if inst = 0 ∨ !(s.inst inst).ccEn ∨ (s.inst inst).shst = 2 then .next s
  else .next ((s.modInst inst fun x => { x with ccShn := 1, shst := 1 }).shutdownDone inst)

/-! ### Resources (R370, R371, Tables 13.4 and 13.6) -/

/-- Every selected field is in range. -/
def State.resOk (s : State) (target : Nat) (r : ResRec) : Bool :=
  let sets := if r.has 8 then r.dieSets else (s.inst target).dieSets
  let share := fun (v size : Nat) => v = 0x3FFFFF || decide (v ≤ size)
  r.zerosOk && r.instNo = target && decide (r.valid < 512) &&
    (!r.has 0 || (decide (1 ≤ r.weight) && decide (r.weight ≤ 255))) &&
    (!r.has 1 || decide (r.sieve ≤ 61184)) &&
    (!r.has 2 || decide (r.nrQuota ≤ (s.pool poolNR).size)) && (!r.has 3 || share r.nrShare (s.pool poolNR).size) &&
    (!r.has 4 || decide (r.fwQuota ≤ (s.pool poolFW).size)) && (!r.has 5 || share r.fwShare (s.pool poolFW).size) &&
    (!r.has 6 || decide (r.keySlots ≤ 2047)) && (!r.has 7 || decide (r.flags < 2)) &&
    (!r.has 8 || r.dieSets.all fun d => decide (1 ≤ d) && decide (d ≤ 128)) &&
    -- at most one instance controls the windows of a die set
    (!(if r.has 7 then r.flags = 1 else (s.inst target).flags = 1) ||
      !(s.tenant.insts.any fun i => i.1 ≠ target && i.1 ≠ 0 && i.2.flags = 1 && i.2.dieSets.any sets.contains))

/-- A namespace of a die set the record takes away is attached to the instance (Table 13.4). -/
def State.dieSetHeld (s : State) (target : Nat) (r : ResRec) : Bool :=
  r.has 8 && s.zone.nss.any fun n => n.2.exists_ && n.2.attached.contains target && !(r.dieSets.contains n.2.dieSet)

/-- The fields set, all at once. -/
def State.applyRes (s : State) (target : Nat) (r : ResRec) : State :=
  let s := if r.has 0 then s.setCfg Cfg.INTAKE_WEIGHT target r.weight else s
  let s := s.modInst target fun x => { x with
    sieveQuota := if r.has 1 then r.sieve else x.sieveQuota
    nrQuota := if r.has 2 then r.nrQuota else x.nrQuota
    nrShare := if r.has 3 then r.nrShare else x.nrShare
    fwQuota := if r.has 4 then r.fwQuota else x.fwQuota
    fwShare := if r.has 5 then r.fwShare else x.fwShare
    keyQuota := if r.has 6 then r.keySlots else x.keyQuota
    flags := if r.has 7 then r.flags else x.flags
    dieSets := if r.has 8 then r.dieSets else x.dieSets }
  s.saveInst target

/-- INSTANCE_RESOURCES_SET (R371). -/
def execInstanceResourcesSet (inst cid target : Nat) (r : ResRec) (reservedOk : Bool) (s : State) : Res :=
  s.adminDo inst cid fun s =>
    if inst ≠ 0 then refusedWith Status.invalidOpcode s
    else if target = 0 ∨ 511 < target then refusedWith Status.invalidCtrlId s
    else if !reservedOk ∨ !(s.resOk target r) then refusedWith Status.invalidField s
    else if s.dieSetHeld target r then refusedWith Status.sequenceError s
    else succeeded (s.applyRes target r)

/-- The state code of Table 13.2. -/
def InstState.code : InstState → Nat
  | .offline => 0
  | .online => 1
  | .pausing => 2
  | .paused => 3
  | .stopping => 4
  | .held => 5

/-- The resource record that a Get returns (Table 13.6): every field valid, the VQ and VI assigned, the state's code. -/
def State.resourceBytes (s : State) (i : Nat) : List Nat :=
  let x := s.inst i
  padTo 64 (le 2 i ++ le 2 0x1FF ++ [s.cfgAt Cfg.INTAKE_WEIGHT i, 0] ++ le 2 x.sieveQuota ++ le 4 x.nrQuota ++ le 4 x.nrShare ++
    le 4 x.fwQuota ++ le 4 x.fwShare ++ le 2 x.keyQuota ++ le 2 x.flags ++ le 4 0 ++ le 16 (x.dieSets.map fun d => 2 ^ (d - 1)).sum ++
    le 2 x.vq ++ le 2 x.vi ++ [x.st.code])

/-- INSTANCE_RESOURCES_GET (R370, Table 13.6). -/
def execInstanceResourcesGet (inst cid target : Nat) (s : State) : Res :=
  s.adminDo inst cid fun s =>
    if inst ≠ 0 then refusedWith Status.invalidOpcode s
    else if 511 < target then refusedWith Status.invalidCtrlId s
    else succeeded (s.reply inst 0 cid (s.resourceBytes target))

/-! ### State records (R390 to R392, Table 13.11) -/

/-- The record of an instance. -/
def State.recordOf (s : State) (i : Nat) : InstRec :=
  let x := s.inst i
  let nsids := (s.zone.nss.filter fun n => n.2.exists_ && n.2.attached.contains i).map (·.1)
  let r : InstRec := {
    source := i, wrr := x.wrr, arbitration := x.arbitration, powerFeature := x.powerFeature, coalescing := x.coalescing
    asyncConfig := x.asyncConfig, apstOn := x.apstOn, apst := x.apst, hostId := x.hostId, resMask := x.resMask
    queues := x.sqs.map fun q =>
      let c := x.cqs.get {} q.2.cq
      { sq := q.1, cq := q.2.cq, sqBase := q.2.base, cqBase := c.base, pc := q.2.pc, sqSize := q.2.size, cqSize := c.size, sqHead := q.2.head, sqTail := q.2.tail,
        cqTail := c.tail, cqHead := c.head, vector := c.vector, phase := c.phase, ien := c.ien, prio := q.2.prio }
    plm := ((s.zone.dieSets.map (·.1)).filter (s.controlsSet i)).map fun d =>
      (d, (s.dieSet d).plm.enabled, (s.dieSet d).plm.events)
    ptpl := nsids.filter fun n => (s.ns n).ptpl
    nsids := nsids
    aers := x.aers, events := x.events }
  { r with crc := crc32c r.body }

/-- INSTANCE_STATE_SAVE (R390): a save changes nothing in the instance. -/
def execInstanceStateSave (inst cid target size : Nat) (s : State) : Res :=
  s.adminDo inst cid fun s =>
    if inst ≠ 0 then refusedWith Status.invalidOpcode s
    else if !(s.isTenant target) then refusedWith Status.invalidCtrlId s
    else if (s.inst target).st ≠ .paused then refusedWith Status.sequenceError s
    else
      let r := s.recordOf target
      if size < r.size then (Status.invalidField, r.size, s)
      else (Status.success, r.size, s.reply inst 0 cid r.bytes)

/-- The queues of a record's pair. -/
def savedSq (q : QPair) : Sq :=
  { exists_ := true, size := q.sqSize, base := q.sqBase, pc := q.pc, cq := q.cq, prio := q.prio, head := q.sqHead, tail := q.sqTail }
def savedCq (q : QPair) : Cq :=
  { exists_ := true, size := q.cqSize, base := q.cqBase, pc := q.pc, head := q.cqHead, tail := q.cqTail, phase := q.phase, vector := q.vector,
    ien := q.ien }

/-- A record can be restored into the instance. -/
def State.recordFits (s : State) (i : Nat) (r : InstRec) : Bool :=
  let x := s.inst i
  decide (r.crc = crc32c r.body) && decide (r.magic = 0x53495A43) && decide (r.part = 0x1024) && decide (r.fw = 0x32) && decide (r.queues.length ≤ x.vq + 1) && r.queues.all (fun q => decide (q.vector ≤ x.vi)) &&
    r.nsids.all fun n => (s.ns n).exists_ && (s.ns n).attached.contains i

/-- An outstanding Asynchronous Event Request restored: it holds a tag and its completion queue slot (R75). -/
def State.restoreAer (s : State) (i cid : Nat) : State :=
  match s.freeTag .a with
  | none => s
  | some t =>
    let s := s.modTag t fun r => { gen := r.gen, stage := .inFlight, cls := .a, inst := i, cmd := { cid := cid, opc := .aer, nsid := 0 } }
    s.modInst i fun x => { x with cqs := x.cqs.upd {} 0 fun a => { a with reserved := a.reserved + 1 } }

/-- INSTANCE_STATE_RESTORE (R392): the instance is left Paused with every queue as saved; its key tags stay Locked with
REASON 3 (R391). -/
def execInstanceStateRestore (inst cid target : Nat) (r : InstRec) (s : State) : Res :=
  s.adminDo inst cid fun s =>
    let x := s.inst target
    if inst ≠ 0 then refusedWith Status.invalidOpcode s
    else if !(s.isTenant target) then refusedWith Status.invalidCtrlId s
    else if !(x.st = .held ∨ (x.st = .online ∧ !x.ccEn)) then refusedWith Status.sequenceError s
    else if !(s.recordFits target r) then refusedWith Status.invalidField s
    else
      let s := s.modInst target fun x => { x.functionReset .paused with
        ccEn := true, rdy := true, wrr := r.wrr, arbitration := r.arbitration
        creditH := bits r.arbitration 24 8 + 1, creditM := bits r.arbitration 16 8 + 1, creditL := bits r.arbitration 8 8 + 1
        powerFeature := r.powerFeature, coalescing := r.coalescing, asyncConfig := r.asyncConfig, apstOn := r.apstOn
        apst := r.apst, hostId := r.hostId, resMask := r.resMask, aers := r.aers, events := r.events
        sqs := r.queues.foldl (fun t q => t.set {} q.sq (savedSq q)) []
        cqs := r.queues.foldl (fun t q => t.set {} q.cq (savedCq q)) [] }
      let s := s.each (r.plm.filter fun p => s.controlsSet target p.1) fun s p =>
        s.modDieSet p.1 fun x => { x with plm := { x.plm with enabled := p.2.1, events := p.2.2 } }
      let s := s.each r.nsids fun s n => s.modNs n fun x => { x with ptpl := r.ptpl.contains n }
      succeeded (s.each r.aers fun s c => s.restoreAer target c)

/-! ### Mailboxes (R374) -/

/-- MBX_T_DOORBELL: a message from a tenant to the manager; refused in Stopping, Held and Offline (R376). -/
def State.tenantSend (s : State) (inst : Nat) : State :=
  let x := s.inst inst
  if inst = 0 then s
  else if x.mbxT.refused ∨ !(x.st = .online ∨ x.st = .pausing ∨ x.st = .paused) then
    s.modInst inst fun x => { x with mbxT := { x.mbxT with err := true } }
  else
    (s.modInst inst fun x => { x with
      mbxT := { x.mbxT with outBusy := true }
      mbxM := { x.mbxM with
        inFull := true, inMsg := deliverWords x.mbxT.out x.mbxM.inMsg x.mbxT.length inst } }).signalManager
def execMbxTDoorbell (inst : Nat) (s : State) : Res := .next (s.tenantSend inst)

/-- MBX_T_ACK: a tenant's answer to the manager's message. -/
def State.tenantAck (s : State) (inst seq status : Nat) : State :=
  if !(s.inst inst).mbxT.inFull then s
  else
    (s.modInst inst fun x => { x with
      mbxT := { x.mbxT with inFull := false }
      mbxM := { x.mbxM with outBusy := false, ackStatus := status % 65536, ackSeq := seq % 65536 } }).signalManager
def execMbxTAck (inst seq status : Nat) (s : State) : Res := .next (s.tenantAck inst seq status)

/-- MBX_INST_DOORBELL: the manager's message to the instance MBX_INST_SEL names; 0 is ignored. -/
def State.managerSend (s : State) : State :=
  let i := s.reg Reg.MBX_INST_SEL_INST
  let x := s.inst i
  if i = 0 then s
  else if x.mbxM.refused then s.modInst i fun x => { x with mbxM := { x.mbxM with err := true } }
  else
    (s.modInst i fun x => { x with
      mbxM := { x.mbxM with outBusy := true }
      mbxT := { x.mbxT with inFull := true, inMsg := deliverWords x.mbxM.out x.mbxT.inMsg x.mbxM.length 0 } }).signalTenant i
def execMbxInstDoorbell (s : State) : Res := .next (s.mgmtWrite 0x1804 fun s => s.managerSend)

/-- MBX_INST_ACK: the manager's answer to the selected tenant's message. -/
def State.managerAck (s : State) (seq status : Nat) : State :=
  let i := s.reg Reg.MBX_INST_SEL_INST
  if i = 0 ∨ !(s.inst i).mbxM.inFull then s
  else
    (s.modInst i fun x => { x with
      mbxM := { x.mbxM with inFull := false }
      mbxT := { x.mbxT with outBusy := false, ackStatus := status % 65536, ackSeq := seq % 65536 } }).signalTenant i
def execMbxInstAck (seq status : Nat) (s : State) : Res := .next (s.mgmtWrite 0x1808 fun s => s.managerAck seq status)

/-! ### Dirty-page log and report ring -/

/-- DIRTY_LOG_ENABLE (R387): of the instance MIG_SEL names; at most 16 instances log at once. -/
def State.dirtyEnable (s : State) : State :=
  let i := s.reg Reg.MIG_SEL_INST
  if i = 0 ∨ (s.inst i).dirty.enabled then s
  else if 16 ≤ Tab.count (fun _ x => x.dirty.enabled) s.tenant.insts then
    s.modInst i fun x => { x with dirty := { x.dirty with refused := true } }
  else s.modInst i fun x => { x with dirty := { x.dirty with
    enabled := true, activeB := false, cache := [], written := [], windowBase := x.dirty.newBase, windowPages := x.dirty.newPages
    logA := x.dirty.newA, logB := x.dirty.newB } }
def execDirtyLogEnable (s : State) : Res := .next (s.mgmtWrite 0x40004 fun s => s.dirtyEnable)

/-- DIRTY_LOG_DISABLE (R385): the cache is written back and logging stops. -/
def State.dirtyDisable (s : State) : State :=
  let i := s.reg Reg.MIG_SEL_INST
  if i = 0 ∨ !(s.inst i).dirty.enabled then s else s.dirtyOff i
def execDirtyLogDisable (s : State) : Res := .next (s.mgmtWrite 0x40004 fun s => s.dirtyDisable)

/-- REPORT_RING_SIZE_WRITE (R383, Table 13.17): a size that is not a multiple of 64 is ignored. -/
def State.ringSize (s : State) (size : Nat) : State :=
  if size % 64 ≠ 0 ∨ 2 ^ 32 ≤ size then s
  else { s with tenant := { s.tenant with
    rptBase := s.tenant.rptNewBase, rptSize := size, rptHead := 0, rptTail := 0 } }
def execReportRingSizeWrite (size : Nat) (s : State) : Res := .next (s.mgmtWrite 0x40108 fun s => s.ringSize size)

end Sys2Proof.Machine
end

