-- ==== Sys2Proof/Machine/Waymark.lean ====
section
/-! DEFINITION. Meanings of the rows of Waymark and of the dirty-page log (spec/14_waymark_and_global_operations.md,
R385 to R389). -/

namespace Sys2Proof.Machine

/-- GLOBAL_OP_STALL_RELEASE (R21, R400). -/
def execGlobalOpStallRelease (s : State) : Res := .next s.releaseStall

/-- FENCE_ISSUE (R395, R398, R400): a write of WMK_ISSUE (port 0) or a request on another port. -/
def execFenceIssue (port cls scope target : Nat) (snap : Bool) (s : State) : Res :=
  .next (if 7 < port ∨ 3 < cls ∨ 3 < scope then s else (s.issueFence port cls scope target snap).2)

/-- FENCE_COMPLETE (R395, R398, R401). (DEDUCED, log entry 63.) -/
def execFenceComplete (port id : Nat) (s : State) : Res :=
  .next (match (s.fport port).out.find? fun f => decide (f.id = id) with
    | some f => if s.fenceReady f then s.endFence port id 0 else s
    | none => s)

/-- A write of WMK_SNAP.VIEW (R402, Table 14.8): ignored while the bank holds nothing. -/
def State.writeView (s : State) (v : Nat) : State :=
  if s.reg Reg.WMK_SNAP_VALID = 0 then s else s.setReg Reg.WMK_SNAP_VIEW v

/-- SNAPSHOT_VIEW (R402, Table 14.8). (DEDUCED, log entry 65.) -/
def execSnapshotView (view : Bool) (s : State) : Res := .next (s.writeView (b2n view))

/-- A harvest (R388): the other bitmap becomes active and a fence is issued; ignored while a harvest runs. -/
def State.harvest (s : State) (inst : Nat) : State :=
  let d := (s.inst inst).dirty
  if !d.enabled ∨ d.harvestBusy then s
  else
    let r := (s.writeCache inst).issueFence harvestPort 1 2 0 false
    r.2.modInst inst fun x => { x with dirty := { x.dirty with
      activeB := !x.dirty.activeB, written := [], harvestBusy := true, harvestFence := r.1.getD 0 } }

/-- HARVEST (R388). (DEDUCED, log entry 13.) (DEDUCED, log entry 63.) -/
def execHarvest (inst : Nat) (s : State) : Res := .next (s.mgmtWrite 0x40004 fun s => s.harvest inst)

/-- HARVEST_COMPLETE (R388, step 4): the harvest's fence completes. -/
def execHarvestComplete (inst : Nat) (s : State) : Res :=
  .next (
    let d := (s.inst inst).dirty
    if !d.harvestBusy then s
    else
      let held := fun (s : State) => (s.fport harvestPort).out.find? fun f => decide (f.id = d.harvestFence)
      let s := match held s with
        | some f => if s.fenceReady f then s.endFence harvestPort d.harvestFence 0 else s
        | none => s
      if (held s).isSome then s
      else s.modInst inst fun x => { x with dirty := { x.dirty with harvestBusy := false } })

end Sys2Proof.Machine
end

