-- ==== Sys2Proof/Machine/Registers.lean ====
section
/-!
DEFINITION. Writes of registers: access types (R6), kinds (R8), the values the tables ignore, tenant registers (Table
13.14), mailbox windows (R373).
-/

namespace Sys2Proof.Machine

/-! ### Values a table ignores -/

/-- The value fits the field as its table states; others are ignored. (DEDUCED, log entry 26.) -/
def State.regValueOk (s : State) (k v : Nat) : Bool :=
  if k = Reg.SIEVE_CFG_SCRUB_MS then decide (1 ≤ v) && decide (v ≤ 100)
  else if k = Reg.SIEVE_INST_QUOTA_QUOTA then decide (v ≤ 61184)
  else if k = Reg.FBE_CFG_ERS_SUSP_MAX then decide (v ≤ 8)
  else if k = Reg.FBE_CFG_MIN_PROGRESS then decide (10 ≤ v) && decide (v ≤ 100)
  else if k = Reg.FBE_CFG_GAP_READS then decide (1 ≤ v)
  else if k = Reg.FBE_CFG_SUSP_HOLD then decide (10 ≤ v) && decide (v ≤ 200)
  else if k = Reg.FBE_CBC_WARN_THRESH then decide (1 ≤ v)
  else if k = Reg.FBE_DIE_SEL_DIE then dieNameOk v
  else if k = Reg.FBE_MM_DS_SEL_DS then decide (1 ≤ v) && decide (v ≤ 128)
  else if k = Reg.FLT_ECC_REMAP_SEL_GROUP then decide (v ≤ 383)
  else if k = Reg.HMP_POOL_SEL_POOL then decide (v ≤ 5)
  else if k = Reg.HMP_INST_QUOTA_QUOTA then decide (v ≤ (s.pool s.instPool).size)
  else if k = Reg.DMC_CFG_REF_POSTPONE then decide (1 ≤ v) && decide (v ≤ 4)
  else if k = Reg.DMC_CFG_IDLE_CLOSE then decide (1 ≤ v)
  else if k = Reg.MBX_INST_SEL_INST ∨ k = Reg.MIG_SEL_INST then decide (1 ≤ v)
  else if k = Reg.PWR_DOM_SEL_DOMAIN then decide (v ≤ 95)
  else if k = Reg.CONE_NODE_SEL_NODE then decide (v ≤ 25)
  else if k = Reg.KLOG_DROP_SEL_SEVERITY then decide (v ≤ 6)
  else if k = Reg.CFG_MBX_HDR1_LENGTH then decide (v ≤ 4096)
  else true

/-! ### Fields with a home outside the register file -/

/-- A quota or share of the instance HMP_INST_SEL names, kept for its pool (R313). -/
def State.writeHamperQuota (s : State) (share : Bool) (v : Nat) : State :=
  let i := s.reg Reg.HMP_INST_SEL_INST
  let near := s.instPool = poolNR
  (s.modInst i fun x =>
    if near then (if share then { x with nrShare := v } else { x with nrQuota := v })
    else (if share then { x with fwShare := v } else { x with fwQuota := v })).saveInst i

/-- Replaces the low or the high 32 bits of a 64-bit value. -/
def putHalf (old : Nat) (high : Bool) (v : Nat) : Nat := if high then old % 2 ^ 32 + v * 2 ^ 32 else old / 2 ^ 32 * 2 ^ 32 + v

/-- The dirty-page log's staged fields of the instance MIG_SEL names (Table 13.16): page and line bits are ignored. -/
def State.writeMig (s : State) (f : DirtyLog → DirtyLog) : State :=
  let i := s.reg Reg.MIG_SEL_INST
  if i = 0 then s else s.modInst i fun x => { x with dirty := f x.dirty }

/-- The mailbox flags of the instance MBX_INST_SEL names. -/
def State.writeMbxM (s : State) (f : Mailbox → Mailbox) : State :=
  let i := s.reg Reg.MBX_INST_SEL_INST
  if i = 0 then s else s.modInst i fun x => { x with mbxM := f x.mbxM }

def State.writeReport (s : State) (f : TenantPart → TenantPart) : State := { s with tenant := f s.tenant }

/-- A stored value: in the part that holds it, else in the register file. (DEDUCED, log entry 26.) -/
def State.storeField (s : State) (k v : Nat) : State :=
  if k = Reg.SIEVE_INST_QUOTA_QUOTA then
    (s.modInst (s.reg Reg.SIEVE_INST_SEL_INST) fun x => { x with sieveQuota := v }).saveInst (s.reg Reg.SIEVE_INST_SEL_INST)
  else if k = Reg.HMP_INST_QUOTA_QUOTA then s.writeHamperQuota false v
  else if k = Reg.HMP_INST_SHARE_SHARE then s.writeHamperQuota true v
  else if k = Reg.MIG_CTRL_ENABLE then (if v = 1 then s.dirtyEnable else s.dirtyDisable)
  else if k = Reg.MIG_WIN_BASE_LO_BASE then s.writeMig fun d => { d with newBase := putHalf (d.newBase * 4096) false v / 4096 }
  else if k = Reg.MIG_WIN_BASE_HI_BASE then s.writeMig fun d => { d with newBase := putHalf (d.newBase * 4096) true v / 4096 }
  else if k = Reg.MIG_WIN_PAGES_PAGES then s.writeMig fun d => { d with newPages := v }
  else if k = Reg.MIG_LOG_A_LO_ADDR then s.writeMig fun d => { d with newA := putHalf d.newA false (v / 64 * 64) }
  else if k = Reg.MIG_LOG_A_HI_ADDR then s.writeMig fun d => { d with newA := putHalf d.newA true v }
  else if k = Reg.MIG_LOG_B_LO_ADDR then s.writeMig fun d => { d with newB := putHalf d.newB false (v / 64 * 64) }
  else if k = Reg.MIG_LOG_B_HI_ADDR then s.writeMig fun d => { d with newB := putHalf d.newB true v }
  else if k = Reg.MIG_RPT_BASE_LO_ADDR then s.writeReport fun t => { t with rptNewBase := putHalf t.rptNewBase false (v / 64 * 64) }
  else if k = Reg.MIG_RPT_BASE_HI_ADDR then s.writeReport fun t => { t with rptNewBase := putHalf t.rptNewBase true v }
  else if k = Reg.MIG_RPT_HEAD_HEAD then s.writeReport fun t => { t with rptHead := v }
  else if k = Reg.CFG_MBX_BUF_LO_ADDR then s.setReg k (v / 4096 * 4096)
  else if k = Reg.WMK_SNAP_VIEW then s.writeView v
  else s.setReg k v

/-- A bit cleared by writing 1. -/
def State.clearField (s : State) (k : Nat) : State :=
  if k = Reg.MBX_INST_STATUS_ERR then s.writeMbxM fun m => { m with err := false }
  else if k = Reg.MBX_INST_STATUS_DROPPED then s.writeMbxM fun m => { m with dropped := false }
  else if k = Reg.MIG_STATUS_OUTSIDE then s.writeMig fun d => { d with outside := false }
  else if k = Reg.MIG_STATUS_REFUSED then s.writeMig fun d => { d with refused := false }
  else if k = Reg.FLT_FIRST_CTRL_VALID then s.clearFirst
  else s.setReg k 0

/-! ### Registers that show fields of the configuration image -/

/-- The configuration record that a write of a register field makes. -/
def State.aliasRec (s : State) (k v : Nat) : Option CfgRec :=
  let p := s.reg Reg.HMP_POOL_SEL_POOL
  if k = Reg.HMP_POOL_THRESH_AMBER ∨ k = Reg.HMP_POOL_THRESH_RED then
    let id := if k = Reg.HMP_POOL_THRESH_AMBER then Cfg.HMP_AMBER else Cfg.HMP_RED
    if p = poolNR then some { id := id, idx := 0, value := v }
    else if p = poolFW then some { id := id, idx := 1, value := v }
    else none
  else match aliasTable.find? fun e => decide (e.1 = k) with
    | some (_, id, idx, unit) => some { id := id, idx := idx, value := v * unit }
    | none => none

/-- Records of one register write: those outside their range are ignored; the rest come in together where the limits
between fields allow it, else one by one in bit order (DEDUCED, log entry 23). -/
def State.putAliased (s : State) (recs : List CfgRec) : State :=
  let good := recs.filter fun (r : CfgRec) => recInRange r
  if s.recsStatus good s.named = 0 then s.each good fun s (r : CfgRec) => s.putField r.id r.idx r.value
  else s.each good fun s (r : CfgRec) => if s.recsStatus [r] s.named = 0 then s.putField r.id r.idx r.value else s

/-- A field that a register write reaches through the configuration. -/
def isAliased (k : Nat) : Bool :=
  k = Reg.HMP_POOL_THRESH_AMBER || k = Reg.HMP_POOL_THRESH_RED || aliasTable.any fun e => decide (e.1 = k)

/-- The block that reports a write of a Static register field (Tables 4.7, 5.15 and 9.11). (DEDUCED, log entry 27.) -/
def staticSource (page : Nat) : Nat := if page = 0x07 then 0x1A1 else if page = 0x09 then 0x1C0 else 0x040

/-- One field of a register write, by access type and kind (R6, R8). (DEDUCED, log entry 27.) -/
def State.writeField (s : State) (f : FieldInfo) (value : Nat) : State :=
  let v := bits value (f.key % 32) f.width
  match f.access with
  | .ro => s
  | .rw1c => if v = 1 then s.clearField f.key else s
  | .wo => s
  | .rw =>
    if f.kind = .static then
      (if v = s.show f.key then s else s.report (staticSource (f.key / 131072)) 0x50 (f.key / 32) 0)
    else if isAliased f.key ∨ !(s.regValueOk f.key v) then s
    else s.storeField f.key v

/-- Every field of a register, then the fields behind the configuration together. (DEDUCED, log entry 23.) -/
def State.writeFieldsAt (s : State) (off value : Nat) : State :=
  let fs := fieldsAt off
  let recs := fs.filterMap fun (f : FieldInfo) =>
    if f.kind = .static then none else s.aliasRec f.key (bits value (f.key % 32) f.width)
  (s.each fs fun s (f : FieldInfo) => s.writeField f value).putAliased recs

/-! ### Registers whose write is an action -/

/-- The action of a write-only field, or of a register written as a whole (Tables 4.15, 6.17, 7.13, 13.15 to 13.17, 14.6,
17.13 and 17.14). CFG_MBX_DOORBELL acts through the rows of its requests. (DEDUCED, log entry 28.)
(DEDUCED, log entry 95.) -/
def State.actRegister (s : State) (off v : Nat) : State :=
  match off with
  | 0x1804 => if bit v 0 then s.managerSend else s
  | 0x1808 => s.managerAck (bits v 0 16) (bits v 16 16)
  | 0x2000 => (s.issueFence 0 (bits v 0 2) (bits v 2 2) (bits v 4 9) (bit v 13)).2
  | 0x3040 => { s with fault := { s.fault with injectLo := v } }
  | 0x3044 => s.inject (v * 2 ^ 32 + s.fault.injectLo)
  | 0x3800 => if bit v 0 && !s.fixity.testBusy then { s with fixity := { s.fixity with testBusy := true } } else s
  | 0x4000 => if bit v 3 then s.persistNow else s
  | 0x40004 => if bit v 1 then s.harvest (s.reg Reg.MIG_SEL_INST) else s
  | _ => s

/-- A write of a manager register; a register that captures or resizes is written as a whole. -/
def State.writeManager (s : State) (off v : Nat) : State :=
  match off with
  | 0x4020 => s.klogCapture (bits v 0 16)
  | 0x7040 => s.sieveCapture (bits v 0 16) (bits v 16 1)
  | 0xB130 => s.blkCapture (bits v 0 14) (bits v 14 3) (bits v 17 12)
  | 0x40108 => s.ringSize v
  | _ => (s.writeFieldsAt off v).actRegister off v

/-! ### Mailbox windows and tenant registers -/

/-- The manager's window of an instance (R373): the outgoing message, by word; instance 0's ignores writes. -/
def State.writeWindow (s : State) (off v : Nat) : State :=
  let i := (off - 0x10000) / 256
  if i = 0 then s
  else s.modInst i fun x => { x with mbxM := { x.mbxM with out := x.mbxM.out.set 0 (off % 256 / 4) v } }

/-- A tenant's BAR2 (R373, Table 13.14). -/
def State.writeTenantReg (s : State) (i off v : Nat) : State :=
  if 0x1000 ≤ off ∧ off < 0x1100 then
    s.modInst i fun x => { x with mbxT := { x.mbxT with out := x.mbxT.out.set 0 (off % 256 / 4) v } }
  else match off with
    | 0x1200 => if bit v 0 then s.tenantSend i else s
    | 0x1204 => s.tenantAck i (bits v 0 16) (bits v 16 16)
    | 0x1208 => if bit v 2 then s.modInst i fun x => { x with mbxT := { x.mbxT with err := false } } else s
    | 0x120C => s.modInst i fun x => { x with mbxVector := bits v 0 11, mbxIen := bit v 11 }
    | _ => s

/-- REGISTER_WRITE (R6, R8, R346, R414): 32 bits at an offset of BAR2 of a function. BAR2 is reached from PCIe ready on.
(DEDUCED, log entry 29.) -/
def execRegisterWrite (inst offset value : Nat) (s : State) : Res :=
  let v := value % 2 ^ 32
  .next (
    if s.boot.phase ≠ .ready ∨ offset % 4 ≠ 0 ∨ 511 < inst then s
    else if inst ≠ 0 then s.writeTenantReg inst offset v
    else s.mgmtWrite offset fun s =>
      if 0x10000 ≤ offset ∧ offset < 0x30000 then s.writeWindow offset v else s.writeManager offset v)

end Sys2Proof.Machine
end

