-- ==== Sys2Proof/Machine/Service.lean ====
section
/-! DEFINITION. Meanings of the rows of the Service Port (spec/19_startup_update_service.md, R501 to R508). -/

namespace Sys2Proof.Machine

/-! ### Frames and rate -/

/-- SMILI_BAD_FRAME (R503): a Nak with the SEQUENCE, 0xFF when it cannot be read, and the reason. -/
def execSmiliBadFrame (seq reason : Nat) (s : State) : Res :=
  .next (if s.portUp then s.emit (.reply Port.service (smiliFrame 4 seq [reason])) else s)

/-- The rates of R501. -/
def portRates : List Nat := [115200, 921600, 3000000, 6000000, 12000000]

/-- The standard rate a measured one lies within 2 % of. -/
def portRate (baud : Nat) : Option Nat := portRates.find? fun r => decide (r * 98 ≤ baud * 100) && decide (baud * 100 ≤ r * 102)

/-- SERVICE_PORT_AUTOBAUD (R501): the switch, then an Event frame RATE, which carries the rate in four bytes. (PRESUMED, log
entry 35.) (PRESUMED, log entry 35.) -/
def execServicePortAutobaud (baud : Nat) (s : State) : Res :=
  .next (match portRate baud with
    | some r =>
      if s.portUp then
        ({ s with boot := { s.boot with baud := r, frameAt := s.now } }).emit (.reply Port.service (smiliFrame 3 0 (le 4 r)))
      else s
    | none => s)

/-- SERVICE_PORT_RATE_TIMEOUT (R501): 10 s with no valid frame. -/
def execServicePortRateTimeout (s : State) : Res :=
  .next (if s.boot.frameAt + 1000000000 ≤ s.now then { s with boot := { s.boot with baud := 115200 } } else s)

/-! ### Reports -/

/-- The mode IDENTIFY names: 0 running or starting, 1 Bisque, 2 Grave hold, 3 stopped, 4 waiting for step 3. -/
def State.portMode (s : State) : Nat :=
  if s.boot.phase = .bisque then 1
  else if s.boot.phase = .graveHold ∨ s.fault.graveHold then 2
  else if s.boot.phase = .stopped then 3
  else if s.boot.phase = .romWait then 4
  else 0

/-- IDENTIFY (Table 19.14): the part, its lifecycle and where it stands (PRESUMED, log entry 35). -/
def execIdentifySmili (seq : Nat) (s : State) : Res :=
  .next (s.smili seq { bisque := true, held := 2 } fun s =>
    (0, le 4 (s.regWord 0) ++ le 64 (s.otpRow 0) ++ [s.lifecycle, s.portMode, (s.fwSlot 1).st, (s.fwSlot 2).st], s))

def execBootTimes (seq : Nat) (s : State) : Res :=
  .next (s.smili seq { bisque := true, held := 1 } fun s => (0, s.boot.record.bytes, s))

def execLogRead (seq start count : Nat) (s : State) : Res :=
  .next (s.smili seq { bisque := true, held := 2 } fun s => (0, s.kilnRead start count, s))

/-- A 64 KiB place of the persisted area: the segment there, else erased bytes. (DEDUCED, log entry 57.) -/
def State.areaPlace (s : State) (k : Nat) : List Nat :=
  match s.klog.segments.find? fun (g : Segment) => decide (g.seq % 1024 = k) with
  | some g => g.bytes
  | none => List.replicate 65536 0xFF

/-- LOG_AREA_READ: `length` bytes of the persisted area from `offset`. -/
def execLogAreaRead (seq offset length : Nat) (s : State) : Res :=
  .next (s.smili seq { bisque := true } fun s =>
    if 67108864 < offset + length ∨ 4094 < length then (3, [], s)
    else
      let k := offset / 65536
      (0, ((s.areaPlace k ++ s.areaPlace (k + 1)).drop (offset % 65536)).take length, s))

/-- RESET: 0 a controller reset, 1 from step 1 (from Bisque mode always, R500). (DEDUCED, log entry 36.) -/
def execServiceReset (seq kind : Nat) (s : State) : Res :=
  .next (
    let on : SmiliOn := { bisque := true, held := 1 }
    let fresh := s.portUp && s.smiliOk on && decide (kind ≤ 1) && !(s.boot.lastReq.any fun x => decide (x.1 = seq))
    let from1 := decide (kind = 1) || decide (s.boot.phase = .bisque)
    let t := s.smili seq on fun s => (if kind ≤ 1 then 0 else 5, [], s)
    if !fresh then t
    else
      let r := t.controllerReset
      if from1 then { r with boot := { r.boot with fromStep3 := false } } else r)

/-! ### Firmware and configuration (R497, R500, R504) -/

/-- The slot Bisque mode writes: A, or B when A is Confirmed. -/
def State.bisqueTarget (s : State) : Nat := if (s.fwSlot 1).st = slotConfirmed then 2 else 1

def execFwBegin (seq : Nat) (hdr : FwHeader) (length : Nat) (s : State) : Res :=
  .next (s.smili seq { bisque := true } fun s =>
    if length < 512 ∨ 4094 < length ∨ hdr.length < length then (3, [], s)
    else if s.boot.staging.any (fun (x : Staging) => decide (x.path = 1)) then (1, [], s)
    else if !(s.fwHeaderOk hdr) then (7, [], s)
    else
      let x : Staging := { path := 2, hdr := hdr, pieces := [(0, length)], at_ := s.now }
      let t := s.setStaging (some x)
      if s.boot.phase ≠ .bisque then (0, [], t)
      else
        let k := s.bisqueTarget
        let t := t.markSlot k slotWriting
        let slots : Tab FwSlot := t.boot.slots.upd ({} : FwSlot) k fun (y : FwSlot) => { y with hdr := hdr }
        (0, [], { t with boot := { t.boot with bisqueSlot := k, slots := slots } }))

/-- The Service Port's session. -/
def State.portSession (s : State) : Option Staging := s.boot.staging.filter fun (x : Staging) => decide (x.path = 2)

def execFwChunk (seq offset length : Nat) (s : State) : Res :=
  .next (s.smili seq { bisque := true } fun s =>
    match s.portSession with
    | none => (9, [], s)
    | some x =>
      if offset ≠ (x.pieces.map (·.2)).sum then (9, [], s)
      else if 4090 < length ∨ x.hdr.length < offset + length then (3, [], s)
      else
        let y : Staging := { x with pieces := x.pieces ++ [(offset, length)], at_ := s.now }
        (0, [], s.setStaging (some y)))

/-- FW_COMMIT: slot 0 names the slot that is not running, as over NVMe. -/
def execFwCommit (seq slot action : Nat) (chain : Chain) (s : State) : Res :=
  .next (s.smili seq { bisque := true } fun s =>
    match s.portSession with
    | none => (9, [], s)
    | some x =>
      if s.boot.phase = .bisque then
        if !x.complete then (9, [], s.setStaging none)
        else if s.fwChainOk x.hdr chain then
          let slots : Tab FwSlot := s.boot.slots.upd ({} : FwSlot) s.boot.bisqueSlot fun (y : FwSlot) => { y with chain := chain }
          (0, [], (({ s with boot := { s.boot with slots := slots } } : State).setStaging none).makeTrial s.boot.bisqueSlot)
        else (8, [], (s.setStaging none).markSlot s.boot.bisqueSlot slotFailed)
      else
        let k := if slot = 0 then otherSlot s.boot.running else slot
        if 2 < slot ∨ 1 < action ∨ k = s.boot.running then (5, [], s)
        else if !x.complete then (9, [], s.setStaging none)
        else
          let r := s.commitStaged 2 k (decide (action = 1)) chain
          (if r.1 = Status.success then 0 else if r.1 = 0x113 then 7 else 8, [], r.2))

def execFwAbort (seq : Nat) (s : State) : Res :=
  .next (s.smili seq { bisque := true } fun s =>
    match s.portSession with
    | none => (9, [], s)
    | some _ => (0, [], s.setStaging none))

/-- CFG_MSG (R504): in Bisque mode only the image opcodes. -/
def execCfgMsg (seq opcode : Nat) (hdr : CfgHeader) (offset length : Nat) (recs : List CfgRec) (chain : Chain) (s : State) : Res :=
  .next (s.smili seq { bisque := true } fun s =>
    if s.boot.phase = .bisque ∧ !(decide (1 ≤ opcode) && decide (opcode ≤ 4)) then (0x000A, [], s)
    else s.cfgRequest 1 opcode hdr offset length length recs chain)

/-- The purposes of a token (R505). -/
abbrev forDebug : Nat := 1
abbrev forReturn : Nat := 2

/-- TRACE (R504, R505): a token in Production. -/
def execTrace (seq : Nat) (token : SigBlock) (on : Bool) (s : State) : Res :=
  .next (s.smili seq {} fun s =>
    let set := fun (s : State) => { s with boot := { s.boot with tracing := on } }
    if s.lifecycle ≠ 2 then (0, [], set s)
    else match s.useToken forDebug token with
      | some t => (0, [], set t)
      | none => (8, [], s))

/-! ### OTP and lifecycle (R504 to R508) -/

/-- Key rows that OTP_READ does not show. -/
def keyRows : List Nat := [1, 3, 5, 7]

def execOtpRead (seq row : Nat) (s : State) : Res :=
  .next (s.smili seq { bisque := true } fun s =>
    if 63 < row then (5, [], s)
    else (0, if keyRows.contains row then le 4 (bits (s.otpRow row) 384 32) else le 64 (s.otpRow row), s))

/-- The bits of a mask below a bit. -/
def maskBelow (mask n : Nat) : Nat := mask % 2 ^ n

/-- OTP_PROGRAM (R504, R508): bits are programmed from bit 0 up; a bit of the mask at `failedAt` or above does not verify, so
the row is left there. -/
def execOtpProgram (seq row mask failedAt : Nat) (s : State) : Res :=
  .next (s.smili seq { states := [0, 1] } fun s =>
    let may := if s.lifecycle = 0 then [0, 2, 6].contains row else [2, 6].contains row && decide (s.otpRow row = 0)
    let m := mask % 2 ^ 512
    if !may ∨ s.otpRefused row then (0x000A, [], s)
    -- in dump mode no bit is programmed
    else if s.trail.dumpMode then (0x000B, [], s)
    else if maskBelow m failedAt = m then (0, [], s.programOtp row m)
    else (0x000B, [], (s.programOtp row (maskBelow m failedAt)).report 0x305 0x52 row 2))

/-- PROVISION_KEYS (R504): the seeds from the DRBG, the key rows, the lifecycle, the identity's public key.
(PRESUMED, log entry 35.) -/
def execProvisionKeys (seq : Nat) (s : State) : Res :=
  .next (s.smili seq { states := [0] } fun s =>
    if s.otpRow 0 = 0 ∨ s.otpRow 2 = 0 ∨ s.otpRow 6 = 0 then (9, [], s)
    else if [1, 3, 5, 7].any s.otpRefused then (0x000A, [], s)
    -- no status names a DRBG that gives nothing
    else if s.glaze.drbgFail then (1, [], s)
    else if s.trail.dumpMode then (0x000B, [], s)
    else
      let (root, s) := s.newKey
      let (identity, s) := s.newKey
      let s := ((s.programOtp 1 (keyRow root)).programOtp 5 (keyRow root)).programOtp 3 (keyRow identity)
      let s := (s.programOtp 7 (keyRow identity)).programOtp 13 0xFF
      (0, be 96 (Config.kdf s.identitySeed [384]), s))

/-- CERT_WRITE (R504): the certificate chain's plane-block holds 12 MiB (Table 19.7). (PRESUMED, log entry 35.) -/
def execCertWrite (seq offset length : Nat) (s : State) : Res :=
  .next (s.smili seq { states := [1] } fun s =>
    if 4090 < length ∨ 12582912 < offset + length then (3, [], s)
    else (0, [], { s with boot := { s.boot with certBytes := max s.boot.certBytes (offset + length) } }))

/-- LIFECYCLE_ADVANCE (R504): to Production with a certificate chain, which locks rows 0 to 8; to Returned with a return
token. (PRESUMED, log entry 35.) -/
def execLifecycleAdvance (seq target : Nat) (token : SigBlock) (s : State) : Res :=
  .next (s.smili seq { states := [1, 2] } fun s =>
    if target ≠ s.lifecycle + 1 then (5, [], s)
    else if s.otpRefused 13 then (0x000A, [], s)
    else if s.trail.dumpMode then (0x000B, [], s)
    else if s.lifecycle = 1 then
      if s.boot.certBytes = 0 then (9, [], s)
      else (0, [], (s.programOtp 13 0xFF00).programOtp 14 (0x1FF + 0x1FF * 2 ^ 256))
    else match s.useToken forReturn token with
      | some t => (0, [], t.programOtp 13 0xFF0000)
      | none => (8, [], s))

/-- DEBUG_CHALLENGE (R505). -/
def execDebugChallenge (seq : Nat) (s : State) : Res :=
  .next (s.smili seq {} fun s =>
    if s.glaze.drbgFail then (1, [], s)
    else
      let (n, s) := s.newKey
      let n := n % 2 ^ 256
      (0, le 32 n, { s with boot := { s.boot with nonce := some n } }))

/-- DEBUG_UNLOCK (R504, R505): open but in Production, where a token is required and ZEROIZE is asserted. -/
def execDebugUnlock (seq : Nat) (token : SigBlock) (s : State) : Res :=
  .next (s.smili seq {} fun s =>
    let open_ := fun (s : State) => { s with boot := { s.boot with unlocked := true } }
    if s.lifecycle ≠ 2 then (0, [], open_ s)
    else match s.useToken forDebug token with
      | some t => (0, [], (open_ t).zeroize 0)
      | none => (8, [], s))

end Sys2Proof.Machine
end

