-- ==== Sys2Proof/Machine/Dispatch.lean ====
section
/-! DEFINITION. The meaning of every command: one direct call per constructor of Instr. -/

namespace Sys2Proof.Machine

def exec (i : Instr) (s : State) : Host.Outcome State Fault Refusal :=
  match i with
  | .registerWrite inst offset value => Sys2Proof.Machine.execRegisterWrite inst offset value s
  | .switchWordDiscard w => Sys2Proof.Machine.execSwitchWordDiscard w s
  | .handshakeWatchdogExpiry w => Sys2Proof.Machine.execHandshakeWatchdogExpiry w s
  | .switchRetransmitResult w second third tags => Sys2Proof.Machine.execSwitchRetransmitResult w second third tags s
  | .globalOpStallRelease => Sys2Proof.Machine.execGlobalOpStallRelease s
  | .islandClockStop domain inWords outWords => Sys2Proof.Machine.execIslandClockStop domain inWords outWords s
  | .islandClockRestart domain => Sys2Proof.Machine.execIslandClockRestart domain s
  | .sqDoorbellWrite inst qid tail => Sys2Proof.Machine.execSqDoorbellWrite inst qid tail s
  | .cqDoorbellWrite inst qid head => Sys2Proof.Machine.execCqDoorbellWrite inst qid head s
  | .commandFetch inst sq c => Sys2Proof.Machine.execCommandFetch inst sq c s
  | .drrRoundStart => Sys2Proof.Machine.execDrrRoundStart s
  | .admission tag hit => Sys2Proof.Machine.execAdmission tag hit s
  | .writeDataInFarHamper tag pi => Sys2Proof.Machine.execWriteDataInFarHamper tag pi s
  | .completionPost tag => Sys2Proof.Machine.execCompletionPost tag s
  | .interruptCoalescingExpiry inst cq => Sys2Proof.Machine.execInterruptCoalescingExpiry inst cq s
  | .throttleMessage f g => Sys2Proof.Machine.execThrottleMessage f g s
  | .throttleTimeout => Sys2Proof.Machine.execThrottleTimeout s
  | .write inst sq c => Sys2Proof.Machine.execWrite inst sq c s
  | .writeZeroes inst sq c => Sys2Proof.Machine.execWriteZeroes inst sq c s
  | .zoneAppend inst sq c => Sys2Proof.Machine.execZoneAppend inst sq c s
  | .read inst sq c => Sys2Proof.Machine.execRead inst sq c s
  | .datasetManagement inst sq c => Sys2Proof.Machine.execDatasetManagement inst sq c s
  | .flush inst sq c => Sys2Proof.Machine.execFlush inst sq c s
  | .zoneOpen inst sq c => Sys2Proof.Machine.execZoneOpen inst sq c s
  | .zoneClose inst sq c => Sys2Proof.Machine.execZoneClose inst sq c s
  | .zoneFinish inst sq c => Sys2Proof.Machine.execZoneFinish inst sq c s
  | .zoneReset inst sq c => Sys2Proof.Machine.execZoneReset inst sq c s
  | .zoneOffline inst sq c => Sys2Proof.Machine.execZoneOffline inst sq c s
  | .setZoneDescriptorExtension inst sq c => Sys2Proof.Machine.execSetZoneDescriptorExtension inst sq c s
  | .zoneManagementReceive inst sq c => Sys2Proof.Machine.execZoneManagementReceive inst sq c s
  | .zoneRowRelease group row => Sys2Proof.Machine.execZoneRowRelease group row s
  | .zoneFzrAgeReached nsid zone => Sys2Proof.Machine.execZoneFzrAgeReached nsid zone s
  | .zoneFinishAgeReached nsid zone => Sys2Proof.Machine.execZoneFinishAgeReached nsid zone s
  | .namespaceManagementCreate inst cid zoned kpio set size lbaf pi handles => Sys2Proof.Machine.execNamespaceManagementCreate inst cid zoned kpio set size lbaf pi handles s
  | .namespaceManagementDelete inst cid nsid => Sys2Proof.Machine.execNamespaceManagementDelete inst cid nsid s
  | .formatNvm inst cid nsid lbaf pi ses => Sys2Proof.Machine.execFormatNvm inst cid nsid lbaf pi ses s
  | .sanitizeCryptoErase inst cid => Sys2Proof.Machine.execSanitizeCryptoErase inst cid s
  | .capacityManagementSelect inst cid config => Sys2Proof.Machine.execCapacityManagementSelect inst cid config s
  | .namespaceAttachment inst cid nsid attach targets => Sys2Proof.Machine.execNamespaceAttachment inst cid nsid attach targets s
  | .identify inst cid cns nsid => Sys2Proof.Machine.execIdentify inst cid cns nsid s
  | .getFeatures inst cid fid nsid => Sys2Proof.Machine.execGetFeatures inst cid fid nsid s
  | .setFeaturesArbitration inst cid value => Sys2Proof.Machine.execSetFeaturesArbitration inst cid value s
  | .setFeaturesPowerManagement inst cid ps => Sys2Proof.Machine.execSetFeaturesPowerManagement inst cid ps s
  | .setFeaturesInterruptCoalescing inst cid value => Sys2Proof.Machine.execSetFeaturesInterruptCoalescing inst cid value s
  | .setFeaturesApst inst cid enable entries => Sys2Proof.Machine.execSetFeaturesApst inst cid enable entries s
  | .setFeaturesTimestamp inst cid value => Sys2Proof.Machine.execSetFeaturesTimestamp inst cid value s
  | .setFeaturesPlmConfig inst cid set enable events => Sys2Proof.Machine.execSetFeaturesPlmConfig inst cid set enable events s
  | .setFeaturesPlmWindow inst cid set deterministic => Sys2Proof.Machine.execSetFeaturesPlmWindow inst cid set deterministic s
  | .setFeaturesFdp inst cid set enable => Sys2Proof.Machine.execSetFeaturesFdp inst cid set enable s
  | .setFeaturesFdpEvents inst cid nsid mask => Sys2Proof.Machine.execSetFeaturesFdpEvents inst cid nsid mask s
  | .setFeaturesTemperatureThreshold inst cid under value => Sys2Proof.Machine.execSetFeaturesTemperatureThreshold inst cid under value s
  | .setFeaturesHostIdentifier inst cid id => Sys2Proof.Machine.execSetFeaturesHostIdentifier inst cid id s
  | .setFeaturesReservation inst cid fid nsid value => Sys2Proof.Machine.execSetFeaturesReservation inst cid fid nsid value s
  | .ioManagementSend inst sq c => Sys2Proof.Machine.execIoManagementSend inst sq c s
  | .ioManagementReceive inst sq c => Sys2Proof.Machine.execIoManagementReceive inst sq c s
  | .getLogPage inst cid page lsi => Sys2Proof.Machine.execGetLogPage inst cid page lsi s
  | .getLogChangedZoneList inst cid nsid => Sys2Proof.Machine.execGetLogChangedZoneList inst cid nsid s
  | .getLogSmartHealth inst cid => Sys2Proof.Machine.execGetLogSmartHealth inst cid s
  | .getLogArchive inst cid lsi => Sys2Proof.Machine.execGetLogArchive inst cid lsi s
  | .getLogFixityJobResult inst cid job => Sys2Proof.Machine.execGetLogFixityJobResult inst cid job s
  | .getLogPersistentEvent inst cid action => Sys2Proof.Machine.execGetLogPersistentEvent inst cid action s
  | .getLogTelemetryHost inst cid create => Sys2Proof.Machine.execGetLogTelemetryHost inst cid create s
  | .getLogTelemetryController inst cid => Sys2Proof.Machine.execGetLogTelemetryController inst cid s
  | .createIoSubmissionQueue inst cid qid cqid size prio => Sys2Proof.Machine.execCreateIoSubmissionQueue inst cid qid cqid size prio s
  | .createIoCompletionQueue inst cid qid size vector ien => Sys2Proof.Machine.execCreateIoCompletionQueue inst cid qid size vector ien s
  | .deleteIoSubmissionQueue inst cid qid => Sys2Proof.Machine.execDeleteIoSubmissionQueue inst cid qid s
  | .deleteIoCompletionQueue inst cid qid => Sys2Proof.Machine.execDeleteIoCompletionQueue inst cid qid s
  | .abort inst cid sq targetCid outstanding => Sys2Proof.Machine.execAbort inst cid sq targetCid outstanding s
  | .asynchronousEventRequest inst cid => Sys2Proof.Machine.execAsynchronousEventRequest inst cid s
  | .sieveRuleInsert pos lo hi scope prio payload access replace => Sys2Proof.Machine.execSieveRuleInsert pos lo hi scope prio payload access replace s
  | .sieveRuleRemove pos => Sys2Proof.Machine.execSieveRuleRemove pos s
  | .sieveShiftComplete => Sys2Proof.Machine.execSieveShiftComplete s
  | .sieveShadowRewriteDone pos => Sys2Proof.Machine.execSieveShadowRewriteDone pos s
  | .sieveScrubStep mismatch => Sys2Proof.Machine.execSieveScrubStep mismatch s
  | .sieveDiagCapture pos src => Sys2Proof.Machine.execSieveDiagCapture pos src s
  | .walkSlotFreed => Sys2Proof.Machine.execWalkSlotFreed s
  | .mapUpdate seq hit => Sys2Proof.Machine.execMapUpdate seq hit s
  | .channelRetrain channel target ok => Sys2Proof.Machine.execChannelRetrain channel target ok s
  | .dieOperationIssue die glitch => Sys2Proof.Machine.execDieOperationIssue die glitch s
  | .operationAging die idx long => Sys2Proof.Machine.execOperationAging die idx long s
  | .nandReadComplete die cbc => Sys2Proof.Machine.execNandReadComplete die cbc s
  | .decodeLadderStep die step ok => Sys2Proof.Machine.execDecodeLadderStep die step ok s
  | .qlcPassComplete die ok => Sys2Proof.Machine.execQlcPassComplete die ok s
  | .qlcNextPassStart die => Sys2Proof.Machine.execQlcNextPassStart die s
  | .slcProgramComplete die ok => Sys2Proof.Machine.execSlcProgramComplete die ok s
  | .eraseComplete die ok => Sys2Proof.Machine.execEraseComplete die ok s
  | .eraseSuspendRequest die => Sys2Proof.Machine.execEraseSuspendRequest die s
  | .eraseSuspendComplete die => Sys2Proof.Machine.execEraseSuspendComplete die s
  | .eraseResume die holdPassed => Sys2Proof.Machine.execEraseResume die holdPassed s
  | .deterministicWindowEntered set => Sys2Proof.Machine.execDeterministicWindowEntered set s
  | .dtwinMaxExpiry set => Sys2Proof.Machine.execDtwinMaxExpiry set s
  | .brownOutDetect bay rail => Sys2Proof.Machine.execBrownOutDetect bay rail s
  | .pulseGateReopen bay => Sys2Proof.Machine.execPulseGateReopen bay s
  | .dieFailure die => Sys2Proof.Machine.execDieFailure die s
  | .verifyComplete group row result die plane => Sys2Proof.Machine.execVerifyComplete group row result die plane s
  | .blanketRelease group row => Sys2Proof.Machine.execBlanketRelease group row s
  | .nandTemperatureSummary temps => Sys2Proof.Machine.execNandTemperatureSummary temps s
  | .fiSummaryTimeout seconds => Sys2Proof.Machine.execFiSummaryTimeout seconds s
  | .timestampWaitExpiry => Sys2Proof.Machine.execTimestampWaitExpiry s
  | .earlyWarningConfirm nsid zone warned => Sys2Proof.Machine.execEarlyWarningConfirm nsid zone warned s
  | .refireStart set => Sys2Proof.Machine.execRefireStart set s
  | .refireTargetProgrammed job mismatch lost => Sys2Proof.Machine.execRefireTargetProgrammed job mismatch lost s
  | .refireSwitch job => Sys2Proof.Machine.execRefireSwitch job s
  | .refireOldRowRelease job => Sys2Proof.Machine.execRefireOldRowRelease job s
  | .refireRetryTimer nsid zone => Sys2Proof.Machine.execRefireRetryTimer nsid zone s
  | .relocationStart nsid => Sys2Proof.Machine.execRelocationStart nsid s
  | .relocationSwitch job => Sys2Proof.Machine.execRelocationSwitch job s
  | .relocationRetryTimer nsid group row => Sys2Proof.Machine.execRelocationRetryTimer nsid group row s
  | .fbeMmBlkCapture die plane block => Sys2Proof.Machine.execFbeMmBlkCapture die plane block s
  | .fixityVerify inst sq c => Sys2Proof.Machine.execFixityVerify inst sq c s
  | .fixityCancel inst sq c => Sys2Proof.Machine.execFixityCancel inst sq c s
  | .fixityZoneStart job => Sys2Proof.Machine.execFixityZoneStart job s
  | .fixityZoneDone job zone bad trailerOk => Sys2Proof.Machine.execFixityZoneDone job zone bad trailerOk s
  | .sramCheckRead group word clean => Sys2Proof.Machine.execSramCheckRead group word clean s
  | .sramUncorrectableReread group word ok => Sys2Proof.Machine.execSramUncorrectableReread group word ok s
  | .eccSelftestRun => Sys2Proof.Machine.execEccSelftestRun s
  | .eccSelftestDone tested failed => Sys2Proof.Machine.execEccSelftestDone tested failed s
  | .pwrfailAssert ns => Sys2Proof.Machine.execPwrfailAssert ns s
  | .dumpComplete => Sys2Proof.Machine.execDumpComplete s
  | .pwrfailReleaseTimeout => Sys2Proof.Machine.execPwrfailReleaseTimeout s
  | .normalShutdown inst => Sys2Proof.Machine.execNormalShutdown inst s
  | .abruptShutdown inst => Sys2Proof.Machine.execAbruptShutdown inst s
  | .shutdownComplete => Sys2Proof.Machine.execShutdownComplete s
  | .trailFlushStart => Sys2Proof.Machine.execTrailFlushStart s
  | .trailFlushDurable => Sys2Proof.Machine.execTrailFlushDurable s
  | .checkpointStart => Sys2Proof.Machine.execCheckpointStart s
  | .checkpointEnd => Sys2Proof.Machine.execCheckpointEnd s
  | .dumpRowRelease group => Sys2Proof.Machine.execDumpRowRelease group s
  | .glazeDescriptorSubmit d => Sys2Proof.Machine.execGlazeDescriptorSubmit d s
  | .glazeDescriptorComplete lane auth again rebuilt address => Sys2Proof.Machine.execGlazeDescriptorComplete lane auth again rebuilt address s
  | .glazeContextAgedResume lane => Sys2Proof.Machine.execGlazeContextAgedResume lane s
  | .keyUnwrapLoad nsid range halvesDiffer => Sys2Proof.Machine.execKeyUnwrapLoad nsid range halvesDiffer s
  | .keySlotUnload slot reason => Sys2Proof.Machine.execKeySlotUnload slot reason s
  | .keySlotDrained slot => Sys2Proof.Machine.execKeySlotDrained slot s
  | .opalAuthenticate authority credential => Sys2Proof.Machine.execOpalAuthenticate authority credential s
  | .opalSetCredential authority credential => Sys2Proof.Machine.execOpalSetCredential authority credential s
  | .opalSetLocking nsid range x => Sys2Proof.Machine.execOpalSetLocking nsid range x s
  | .opalGenkey nsid range revert => Sys2Proof.Machine.execOpalGenkey nsid range revert s
  | .keyTagInject inst nsid tag under key halvesDiffer => Sys2Proof.Machine.execKeyTagInject inst nsid tag under key halvesDiffer s
  | .keyTagClear nsid tag => Sys2Proof.Machine.execKeyTagClear nsid tag s
  | .sealedWaitWarning nsid => Sys2Proof.Machine.execSealedWaitWarning nsid s
  | .entropyHealthFail => Sys2Proof.Machine.execEntropyHealthFail s
  | .glazeAlarm code => Sys2Proof.Machine.execGlazeAlarm code s
  | .alarmRecovery otpOk => Sys2Proof.Machine.execAlarmRecovery otpOk s
  | .otpIntegrityRecheck ok => Sys2Proof.Machine.execOtpIntegrityRecheck ok s
  | .hamperAllocate pool kind id need => Sys2Proof.Machine.execHamperAllocate pool kind id need s
  | .hamperHand unit kind id toKind toId => Sys2Proof.Machine.execHamperHand unit kind id toKind toId s
  | .hamperClaim unit => Sys2Proof.Machine.execHamperClaim unit s
  | .hamperDrop unit kind => Sys2Proof.Machine.execHamperDrop unit kind s
  | .hamperRelease unit kind id => Sys2Proof.Machine.execHamperRelease unit kind id s
  | .poolWaitNotice pool => Sys2Proof.Machine.execPoolWaitNotice pool s
  | .freeListRebuild pool unit => Sys2Proof.Machine.execFreeListRebuild pool unit s
  | .freeListRebuildDone pool => Sys2Proof.Machine.execFreeListRebuildDone pool s
  | .dramRequestArrival chan sub req => Sys2Proof.Machine.execDramRequestArrival chan sub req s
  | .dramRequestIssue chan sub bank => Sys2Proof.Machine.execDramRequestIssue chan sub bank s
  | .dramReadReturn chan sub id outcome again => Sys2Proof.Machine.execDramReadReturn chan sub id outcome again s
  | .refreshDue chan sub bankIdx => Sys2Proof.Machine.execRefreshDue chan sub bankIdx s
  | .zqCalibrationTimer => Sys2Proof.Machine.execZqCalibrationTimer s
  | .dqsOscillatorCheck chan sub drifted => Sys2Proof.Machine.execDqsOscillatorCheck chan sub drifted s
  | .caParityAlert chan sub outcome rate => Sys2Proof.Machine.execCaParityAlert chan sub outcome rate s
  | .dramScrubStep chan sub addr outcome => Sys2Proof.Machine.execDramScrubStep chan sub addr outcome s
  | .perstAssert port ns => Sys2Proof.Machine.execPerstAssert port ns s
  | .perstRelease port => Sys2Proof.Machine.execPerstRelease port s
  | .linkUp port rate width => Sys2Proof.Machine.execLinkUp port rate width s
  | .aspmL1Entry port sub => Sys2Proof.Machine.execAspmL1Entry port sub s
  | .l0pNarrow port => Sys2Proof.Machine.execL0pNarrow port s
  | .l0pWiden port => Sys2Proof.Machine.execL0pWiden port s
  | .pcieReadError tag aer => Sys2Proof.Machine.execPcieReadError tag aer s
  | .msixVectorUnmask inst vector => Sys2Proof.Machine.execMsixVectorUnmask inst vector s
  | .wakeNAssert inst => Sys2Proof.Machine.execWakeNAssert inst s
  | .doeObject inst object => Sys2Proof.Machine.execDoeObject inst object s
  | .doeAbort inst => Sys2Proof.Machine.execDoeAbort inst s
  | .spdmGetMeasurements inst nonce => Sys2Proof.Machine.execSpdmGetMeasurements inst nonce s
  | .spdmRequest inst code session body => Sys2Proof.Machine.execSpdmRequest inst code session body s
  | .ideKmRequest session op stream keySet dir key => Sys2Proof.Machine.execIdeKmRequest session op stream keySet dir key s
  | .reservationRegister inst sq c => Sys2Proof.Machine.execReservationRegister inst sq c s
  | .reservationAcquire inst sq c => Sys2Proof.Machine.execReservationAcquire inst sq c s
  | .reservationRelease inst sq c => Sys2Proof.Machine.execReservationRelease inst sq c s
  | .reservationReport inst sq c => Sys2Proof.Machine.execReservationReport inst sq c s
  | .virtMgmtAssign inst cid target rt n => Sys2Proof.Machine.execVirtMgmtAssign inst cid target rt n s
  | .virtMgmtOnline inst cid target => Sys2Proof.Machine.execVirtMgmtOnline inst cid target s
  | .virtMgmtOffline inst cid target => Sys2Proof.Machine.execVirtMgmtOffline inst cid target s
  | .instanceQuiescePause inst cid target limit reservedOk => Sys2Proof.Machine.execInstanceQuiescePause inst cid target limit reservedOk s
  | .pauseDrainComplete target => Sys2Proof.Machine.execPauseDrainComplete target s
  | .pauseLimitExpiry target => Sys2Proof.Machine.execPauseLimitExpiry target s
  | .instanceQuiesceStop inst cid target reservedOk => Sys2Proof.Machine.execInstanceQuiesceStop inst cid target reservedOk s
  | .instanceQuiesceResume inst cid target reservedOk => Sys2Proof.Machine.execInstanceQuiesceResume inst cid target reservedOk s
  | .stopDrainComplete target => Sys2Proof.Machine.execStopDrainComplete target s
  | .functionLevelReset inst => Sys2Proof.Machine.execFunctionLevelReset inst s
  | .controllerDisable inst => Sys2Proof.Machine.execControllerDisable inst s
  | .controllerEnable inst asqSize acqSize wrr => Sys2Proof.Machine.execControllerEnable inst asqSize acqSize wrr s
  | .tenantShutdown inst => Sys2Proof.Machine.execTenantShutdown inst s
  | .instanceResourcesSet inst cid target r reservedOk => Sys2Proof.Machine.execInstanceResourcesSet inst cid target r reservedOk s
  | .instanceResourcesGet inst cid target => Sys2Proof.Machine.execInstanceResourcesGet inst cid target s
  | .instanceStateSave inst cid target size => Sys2Proof.Machine.execInstanceStateSave inst cid target size s
  | .instanceStateRestore inst cid target r => Sys2Proof.Machine.execInstanceStateRestore inst cid target r s
  | .mbxTDoorbell inst => Sys2Proof.Machine.execMbxTDoorbell inst s
  | .mbxTAck inst seq status => Sys2Proof.Machine.execMbxTAck inst seq status s
  | .mbxInstDoorbell => Sys2Proof.Machine.execMbxInstDoorbell s
  | .mbxInstAck seq status => Sys2Proof.Machine.execMbxInstAck seq status s
  | .dirtyLogEnable => Sys2Proof.Machine.execDirtyLogEnable s
  | .dirtyLogDisable => Sys2Proof.Machine.execDirtyLogDisable s
  | .harvest inst => Sys2Proof.Machine.execHarvest inst s
  | .harvestComplete inst => Sys2Proof.Machine.execHarvestComplete inst s
  | .reportRingSizeWrite size => Sys2Proof.Machine.execReportRingSizeWrite size s
  | .fenceIssue port cls scope target snap => Sys2Proof.Machine.execFenceIssue port cls scope target snap s
  | .fenceComplete port id => Sys2Proof.Machine.execFenceComplete port id s
  | .snapshotView view => Sys2Proof.Machine.execSnapshotView view s
  | .nvmSubsystemReset => Sys2Proof.Machine.execNvmSubsystemReset s
  | .controllerReset => Sys2Proof.Machine.execControllerReset s
  | .nonopEntryStart target refusal => Sys2Proof.Machine.execNonopEntryStart target refusal s
  | .nonopStateReached stepDownOk => Sys2Proof.Machine.execNonopStateReached stepDownOk s
  | .entryBackoffRetry refusal => Sys2Proof.Machine.execEntryBackoffRetry refusal s
  | .apstIdleExpiry refusal => Sys2Proof.Machine.execApstIdleExpiry refusal s
  | .ps3Ps4Change => Sys2Proof.Machine.execPs3Ps4Change s
  | .wakeSource code => Sys2Proof.Machine.execWakeSource code s
  | .exitComplete => Sys2Proof.Machine.execExitComplete s
  | .maintenanceWake => Sys2Proof.Machine.execMaintenanceWake s
  | .maintenanceReentry refusal => Sys2Proof.Machine.execMaintenanceReentry refusal s
  | .wakeDomainIdleReturn => Sys2Proof.Machine.execWakeDomainIdleReturn s
  | .domainIdleGate domain => Sys2Proof.Machine.execDomainIdleGate domain s
  | .isolationGateWake domain => Sys2Proof.Machine.execIsolationGateWake domain s
  | .avsStepRequest mv => Sys2Proof.Machine.execAvsStepRequest mv s
  | .avsStepResult ok => Sys2Proof.Machine.execAvsStepResult ok s
  | .avsExitRetry ok => Sys2Proof.Machine.execAvsExitRetry ok s
  | .housekeepingRound adc => Sys2Proof.Machine.execHousekeepingRound adc s
  | .dieTemperatureReadings temps => Sys2Proof.Machine.execDieTemperatureReadings temps s
  | .diodeAnchor diode0 diode1 => Sys2Proof.Machine.execDiodeAnchor diode0 diode1 s
  | .temperatureHistoryTick => Sys2Proof.Machine.execTemperatureHistoryTick s
  | .thermalTrip where_ => Sys2Proof.Machine.execThermalTrip where_ s
  | .faultMessage word => Sys2Proof.Machine.execFaultMessage word s
  | .faultHandler => Sys2Proof.Machine.execFaultHandler s
  | .graveStopIsolate => Sys2Proof.Machine.execGraveStopIsolate s
  | .klogTokenRefill => Sys2Proof.Machine.execKlogTokenRefill s
  | .klogPersistSegment => Sys2Proof.Machine.execKlogPersistSegment s
  | .persistNow => Sys2Proof.Machine.execPersistNow s
  | .firstSourceClear => Sys2Proof.Machine.execFirstSourceClear s
  | .faultInject word => Sys2Proof.Machine.execFaultInject word s
  | .klogRecordCapture seq => Sys2Proof.Machine.execKlogRecordCapture seq s
  | .imageBegin path hdr length => Sys2Proof.Machine.execImageBegin path hdr length s
  | .imageChunk path offset length recs => Sys2Proof.Machine.execImageChunk path offset length recs s
  | .imageCommit path chainOk => Sys2Proof.Machine.execImageCommit path chainOk s
  | .imageAbort path => Sys2Proof.Machine.execImageAbort path s
  | .fieldRead path recs => Sys2Proof.Machine.execFieldRead path recs s
  | .fieldWrite path recs => Sys2Proof.Machine.execFieldWrite path recs s
  | .nsModeSet path mode => Sys2Proof.Machine.execNsModeSet path mode s
  | .cfgMbxBadDoorbell opcode => Sys2Proof.Machine.execCfgMbxBadDoorbell opcode s
  | .imageSessionTimeout => Sys2Proof.Machine.execImageSessionTimeout s
  | .miBasicManagementCommand => Sys2Proof.Machine.execMiBasicManagementCommand s
  | .miKilnLogRead transport start count => Sys2Proof.Machine.execMiKilnLogRead transport start count s
  | .miTunnelledAdmin transport opcode body => Sys2Proof.Machine.execMiTunnelledAdmin transport opcode body s
  | .miControlPrimitive transport op slot => Sys2Proof.Machine.execMiControlPrimitive transport op slot s
  | .miHealthStatusPoll transport subsystem clear => Sys2Proof.Machine.execMiHealthStatusPoll transport subsystem clear s
  | .miReadDataStructure transport kind => Sys2Proof.Machine.execMiReadDataStructure transport kind s
  | .miConfigurationGet transport id port => Sys2Proof.Machine.execMiConfigurationGet transport id port s
  | .miConfigurationSet transport id port value => Sys2Proof.Machine.execMiConfigurationSet transport id port value s
  | .miVpdRead transport offset length => Sys2Proof.Machine.execMiVpdRead transport offset length s
  | .miVpdWrite transport offset data => Sys2Proof.Machine.execMiVpdWrite transport offset data s
  | .miReset transport => Sys2Proof.Machine.execMiReset transport s
  | .stewardMailboxTimeout => Sys2Proof.Machine.execStewardMailboxTimeout s
  | .bootSequence info => Sys2Proof.Machine.execBootSequence info s
  | .trialSlotConfirm => Sys2Proof.Machine.execTrialSlotConfirm s
  | .configRollbackAdvance => Sys2Proof.Machine.execConfigRollbackAdvance s
  | .bootAreaRefresh weak failed => Sys2Proof.Machine.execBootAreaRefresh weak failed s
  | .firmwareImageDownload inst cid offset length hdr => Sys2Proof.Machine.execFirmwareImageDownload inst cid offset length hdr s
  | .firmwareCommit inst cid slot action chainOk => Sys2Proof.Machine.execFirmwareCommit inst cid slot action chainOk s
  | .stagingTimeout => Sys2Proof.Machine.execStagingTimeout s
  | .smiliBadFrame seq reason => Sys2Proof.Machine.execSmiliBadFrame seq reason s
  | .servicePortAutobaud baud => Sys2Proof.Machine.execServicePortAutobaud baud s
  | .servicePortRateTimeout => Sys2Proof.Machine.execServicePortRateTimeout s
  | .identifySmili seq => Sys2Proof.Machine.execIdentifySmili seq s
  | .bootTimes seq => Sys2Proof.Machine.execBootTimes seq s
  | .logRead seq start count => Sys2Proof.Machine.execLogRead seq start count s
  | .logAreaRead seq offset length => Sys2Proof.Machine.execLogAreaRead seq offset length s
  | .serviceReset seq kind => Sys2Proof.Machine.execServiceReset seq kind s
  | .fwBegin seq hdr length => Sys2Proof.Machine.execFwBegin seq hdr length s
  | .fwChunk seq offset length => Sys2Proof.Machine.execFwChunk seq offset length s
  | .fwCommit seq slot action chainOk => Sys2Proof.Machine.execFwCommit seq slot action chainOk s
  | .fwAbort seq => Sys2Proof.Machine.execFwAbort seq s
  | .cfgMsg seq opcode hdr offset length recs chainOk => Sys2Proof.Machine.execCfgMsg seq opcode hdr offset length recs chainOk s
  | .trace seq token on => Sys2Proof.Machine.execTrace seq token on s
  | .otpRead seq row => Sys2Proof.Machine.execOtpRead seq row s
  | .otpProgram seq row mask failedAt => Sys2Proof.Machine.execOtpProgram seq row mask failedAt s
  | .provisionKeys seq => Sys2Proof.Machine.execProvisionKeys seq s
  | .certWrite seq offset length => Sys2Proof.Machine.execCertWrite seq offset length s
  | .lifecycleAdvance seq target token => Sys2Proof.Machine.execLifecycleAdvance seq target token s
  | .debugChallenge seq => Sys2Proof.Machine.execDebugChallenge seq s
  | .debugUnlock seq token => Sys2Proof.Machine.execDebugUnlock seq token s
  | .railLow rail => Sys2Proof.Machine.execRailLow rail s
  | .io33Restored => Sys2Proof.Machine.execIo33Restored s
  | .aonReset => Sys2Proof.Machine.execAonReset s
  | .pwrdisAssert => Sys2Proof.Machine.execPwrdisAssert s
  | .pwrdisRelease => Sys2Proof.Machine.execPwrdisRelease s
  | .offDomainRead offset => Sys2Proof.Machine.execOffDomainRead offset s
  | .hostDataUnitArrival tag idx pi => Sys2Proof.Machine.execHostDataUnitArrival tag idx pi s
  | .linkDown port => Sys2Proof.Machine.execLinkDown port s
  | .ideIntegrityCheckFailure => Sys2Proof.Machine.execIdeIntegrityCheckFailure s
  | .aspmL1Exit port => Sys2Proof.Machine.execAspmL1Exit port s
  | .configurationRequest inst field write value => Sys2Proof.Machine.execConfigurationRequest inst field write value s
  | .dramRowIdleClose chan sub bank => Sys2Proof.Machine.execDramRowIdleClose chan sub bank s
  | .aonDiodeRead diode0 diode1 => Sys2Proof.Machine.execAonDiodeRead diode0 diode1 s
  | .entropyHealthTestPass => Sys2Proof.Machine.execEntropyHealthTestPass s
  | .pwrfailHighBeforeStart => Sys2Proof.Machine.execPwrfailHighBeforeStart s
  | .setFeaturesAsyncEventConfig inst cid value => Sys2Proof.Machine.execSetFeaturesAsyncEventConfig inst cid value s
  | .keyPerIoKekSet nsid kek => Sys2Proof.Machine.execKeyPerIoKekSet nsid kek s

end Sys2Proof.Machine
end

