-- ==== Sys2Proof/Machine/OpsLayout.lean ====
section
/-!
DEFINITION. The layouts in which the part keeps what State holds: stored forms (R279 to R281), page tags and codewords (R212,
R261), zone trailers (R225), Trail records and segments (R255, R256), dump headers (Table 8.3), Glaze descriptors (R271), Hamper
units (R305), DRAM bursts (R325). Where the spec states no byte order, the least significant byte comes first (DESIGN CHOICE,
DESIGN CHOICE, log entry 116).
-/

namespace Sys2Proof.Machine

/-! ### Stored forms (R279 to R281) -/

/-- The slot that holds a block's key: its zone's key tag in Key Per I/O, else its locking range (R293, R295). -/
def State.blockSlot (s : State) (nsid lba : Nat) : Nat :=
  if (s.ns nsid).mode = .keyPerIo then
    ((s.zoneAt nsid (lba / zoneBlocks)).keyTag.bind fun t => s.glaze.keyTags.get none (nsid * 1024 + t)).getD 0
  else (s.range nsid (s.rangeAt nsid lba)).slot
def State.blockKey (s : State) (nsid lba : Nat) : Nat := ((s.slotAt (s.blockSlot nsid lba)).key).getD 0

/-- The 4,096 data bytes of a block's number, and its host metadata in the bytes its LBA format uses. -/
def dataOf (v : Nat) : Nat := v % 2 ^ 32768
def Ns.metaOf (n : Ns) (v : Nat) : Nat := bits v 32768 (metaBits n.lbaf)

/-- The tweak of the buffer form (R280), the nonce and the additional data of a sealed sector (R281). -/
def bufTweak (nsid lba : Nat) : Nat := (nsid - 1) * 2 ^ 48 + lba
def sealNonce (nsid wseq : Nat) : List Nat := be 4 nsid ++ be 8 wseq
def Ns.sealAad (n : Ns) (nsid lba wseq v : Nat) : List Nat :=
  be 4 nsid ++ be 8 lba ++ be 8 wseq ++ le (metaBits n.lbaf / 8) (n.metaOf v)

/-- A block as the media hold it: its 4,096 bytes and its GCM tag, 0 for none. -/
def State.stored (s : State) (nsid lba wseq v : Nat) : Nat × Nat :=
  match (s.ns nsid).mode with
  | .clear => (dataOf v, 0)
  | .sealed_ => Config.gcm (s.blockKey nsid lba) (ofLe (sealNonce nsid wseq).reverse) ((s.ns nsid).sealAad nsid lba wseq v) (dataOf v)
  | _ => (Config.xts (s.blockKey nsid lba) lba (dataOf v), 0)

/-- A block as Far Hamper and the dump hold it: sealed data in buffer form under K_buf (R280). -/
def State.buffered (s : State) (nsid lba v : Nat) : Nat :=
  match (s.ns nsid).mode with
  | .clear => dataOf v
  | .sealed_ => Config.xts (kBuf s.drk) (bufTweak nsid lba) (dataOf v)
  | _ => Config.xts (s.blockKey nsid lba) lba (dataOf v)

/-! ### Page tags and codewords (R212, R261) -/

/-- A page tag (Table 8.8). -/
structure PageTag where
  wseq : Nat := 0
  lba : Nat := 0
  nsid : Nat := 1
  kind : Nat := 0
  zone : Nat := 0xFFFFFFFF
  aseq : Nat := 0
  pieceLen : Nat := 0
  pieceIdx : Nat := 0
  deriving DecidableEq, Repr

/-- A KIND whose tag names no LBA: Blanket parity, Trail, pad, trailer. -/
def kindBlank (k : Nat) : Bool := [1, 2, 6, 7].contains k

/-- Bytes 4,160 to 4,219 of a codeword: the GCM tag, then the page tag. -/
def PageTag.front (t : PageTag) (gcm : Nat) : List Nat :=
  le 16 gcm ++ le 8 t.wseq ++ le 6 (if kindBlank t.kind then 0 else t.lba) ++ le 2 ((t.nsid - 1) % 1024 + 1024 * t.kind) ++
    le 4 t.zone ++ le 6 t.aseq ++ le 1 t.pieceLen ++ le 1 t.pieceIdx ++ le 16 0

/-- The 64 bytes of controller metadata, which are a Hamper unit's metadata too (Tables 7.2 and 10.1).
(DESIGN CHOICE, log entry 116.) -/
def PageTag.bytes (t : PageTag) (gcm : Nat) : List Nat := t.front gcm ++ le 4 (crc32c (t.front gcm))

/-- A codeword (Table 7.2): data, host metadata area, controller metadata, LDPC parity. -/
structure Codeword where
  data : Nat := 0
  host : Nat := 0
  gcm : Nat := 0
  tag : PageTag := {}
  deriving DecidableEq, Repr

def Codeword.front (c : Codeword) : List Nat := le 4096 c.data ++ le 64 c.host ++ c.tag.bytes c.gcm
def Codeword.bytes (c : Codeword) : List Nat := c.front ++ padTo 288 (Config.ldpc c.front)

/-- The write sequence of the codeword at an offset of a row (R260). -/
def State.codewordSeq (s : State) (r : RowRef) (off : Nat) : Nat :=
  let g := (s.group r.group).geo
  let x := s.rowRec r
  let u := unitAt g x.zone.isSome off
  x.unitSeq.get 0 u + (off - unitStart g x.zone.isSome u)

/-- The page tag of a block of the map. -/
def State.tagOf (s : State) (nsid lba : Nat) (r : RowRef) : PageTag :=
  let b := s.blkAt nsid lba
  let kind := (s.rowRec r).kind
  { wseq := s.codewordSeq r b.off, lba := lba, nsid := nsid, kind := kind
    zone := if (s.ns nsid).zoned then lba / zoneBlocks else 0xFFFFFFFF
    aseq := if kind = kindHost then b.seq else 0
    pieceLen := if kind = kindHost then b.pieceLen else 0, pieceIdx := if kind = kindHost then b.pieceIdx else 0 }

/-- The codeword of a block that lies in a row. -/
def State.codeword (s : State) (nsid lba : Nat) : Option Codeword :=
  match (s.blkAt nsid lba).row, (s.blkAt nsid lba).content with
  | some r, .data v =>
    let t := s.tagOf nsid lba r
    let x := s.stored nsid lba t.wseq v
    some { data := x.1, host := (s.ns nsid).metaOf v, gcm := x.2, tag := t }
  | _, _ => none

/-- The codeword of a unit that a dump row holds: KIND 3, and the fields of the data (R261, R280). -/
def State.dumpCodeword (s : State) (wseq : Nat) (e : Expo) (d : DUnit) : Codeword :=
  { data := s.buffered d.nsid d.lba d.data, host := (s.ns d.nsid).metaOf d.data
    tag := { wseq := wseq, lba := d.lba, nsid := d.nsid, kind := 3
             zone := if (s.ns d.nsid).zoned then d.lba / zoneBlocks else 0xFFFFFFFF
             aseq := d.seq, pieceLen := e.pieceLen d.lba, pieceIdx := (d.lba - e.slba) % 64 } }

/-! ### Zone trailers (R225) -/

/-- Bytes 0x0000 to 0xFFFB of a trailer copy (Table 7.5). -/
def Trailer.front (t : Trailer) (nsid zone : Nat) : List Nat :=
  let hole := fun (h : Nat × Nat × Nat) => le 8 (zone * zoneBlocks + h.1) ++ le 4 h.2.1 ++ le 4 h.2.2
  padTo 65532 (padTo 256 ([0x43, 0x5A, 0x54, 0x52] ++ le 2 1 ++
      le 2 (b2n t.chunks + 2 * b2n (decide (1024 < t.holes.length)) + 4 * b2n t.mismatch) ++ le 4 nsid ++ le 4 zone ++
      le 8 (zone * zoneBlocks) ++ le 8 t.dataEnd ++ be 32 t.digest ++ le 8 t.seqFirst ++ le 8 t.seqLast ++ le 4 t.holes.length ++
      le 4 t.chunkDigests.length) ++
    padTo 2048 ((t.chunkDigests.take 64).flatMap (be 32)) ++ padTo 16384 ((t.holes.take 1024).flatMap hole))
def Trailer.bytes (t : Trailer) (nsid zone : Nat) : List Nat := t.front nsid zone ++ le 4 (crc32c (t.front nsid zone))

/-! ### Trail records and segments (R255, R256) -/

/-- The location of an offset of a row (Table 8.7): the die, the plane, the block, the wordline, the codeword, from bit 0 up. (DESIGN
CHOICE, log entry 116.) -/
def State.location (s : State) (r : RowRef) (off : Nat) : Nat :=
  let g := (s.group r.group).geo
  let z := (s.rowRec r).zone.isSome
  let u := unitAt g z off
  let k := off - unitStart g z u
  let die := s.dieOf r u
  let plane := k / 16 % g.planes
  die + plane * 2 ^ 14 + s.physBlock die plane r.row * 2 ^ 17 + u / 16 * 2 ^ 29 + k % 4 * 2 ^ 39

/-- A BLOCK record. -/
def State.blockRec (s : State) (die plane block st : Nat) : List Nat :=
  let b := s.blockOf die plane block
  [0x06, 0] ++ le 2 16 ++ le 2 die ++ [plane, st] ++ le 2 block ++ le 2 (if b.slc then b.slcErases else b.qlcErases) ++ [b.role, 0, 0, 0]

/-- The bytes of a record, with the namespaces as its flush found them. The types of the records that Table 8.7 does not list are the
model's (DESIGN CHOICE, log entry 13). -/
def State.recBytes (s : State) (snap : Tab Ns) (r : TrailRec) : List Nat :=
  let rec_ := fun (type : Nat) (body : List Nat) => padTo r.len ([type, 0] ++ le 2 r.len ++ body)
  match r with
  | .convMap n lba count seq =>
    let b := (snap.get {} n).map.get {} lba
    let at_ := (b.row.map fun x => s.location x b.off).getD 0
    rec_ 0x01 (le 4 n ++ le 6 lba ++ le 2 count ++ le 8 at_ ++ le 6 seq)
  | .dealloc n lba count seq => rec_ 0x02 (le 4 n ++ le 6 lba ++ le 4 count ++ le 6 seq)
  | .zone n z =>
    let x := (snap.get {} n).zones.get {} z
    rec_ 0x03 (le 4 n ++ le 4 z ++ [x.st.code, x.attributes, 0, 0] ++ le 4 x.wp ++ le 6 (max x.lastSeq x.resetSeq))
  | .bind n z g row stamp => rec_ 0x04 (le 4 n ++ le 4 z ++ [g % 256] ++ le 2 row ++ [0] ++ le 8 stamp)
  | .verified n z g => rec_ 0x05 (le 4 n ++ le 4 z ++ [g % 256])
  | .block d p b => s.blockRec d p b (s.blockOf d p b).st.code
  | .rowMap g dp row b => rec_ 0x07 ([g % 256, dp % 256] ++ le 2 row ++ le 2 b)
  | .hole n lba count reason => rec_ 0x08 (le 4 n ++ le 6 lba ++ le 4 count ++ [reason % 256])
  | .wseqReserve next => rec_ 0x09 (le 8 next)
  | .fi g v => rec_ 0x0A (le 2 g ++ le 2 1 ++ le 8 v)
  | .timestamp t => rec_ 0x0B (le 8 t)
  | .settings what i => rec_ 0x10 (le 4 what ++ le 4 i)
  | .rule c => rec_ 0x11 (le 4 (match c.op with
      | .insert => 0
      | .replace => 1
      | .remove => 2) ++ le 4 c.pos)
  | .dumpRelease g => rec_ 0x0E (le 8 s.trail.dumpSeq ++ [g % 256])
  | .rowRelease g row planes =>
    (s.group g).dies.flatMap fun d => (List.range planes).flatMap fun p => s.blockRec d p (s.physBlock d p row) (BlockState.dirty).code
  | .dirty d bs => bs.zipIdx.flatMap fun b => s.blockRec d b.2 b.1 (BlockState.dirty).code
  | .ckptBegin seq => rec_ 0x0C (le 8 seq)
  | .ckptEnd seq => rec_ 0x0D (le 8 seq)
  | .quiet => rec_ 0x0F []

/-- Records packed into segments, each whole in one. -/
def packed : List (List Nat) → List (List Nat)
  | [] => []
  | r :: rest => match packed rest with
    | [] => [r]
    | seg :: segs => if r.length + seg.length ≤ 65468 then (r ++ seg) :: segs else r :: seg :: segs

/-- FLAGS of a flush's segments: a checkpoint's, the shutdown flag, a quiet record (Table 8.6). -/
def State.flushFlags (s : State) (f : Flush) : Nat :=
  let ckpt := f.recs.any fun r => match r with
    | .ckptBegin _ => true
    | .ckptEnd _ => true
    | _ => false
  b2n ckpt + 2 * b2n (ckpt && s.boot.shut.isSome) + 4 * b2n (f.recs.contains .quiet)

/-- The 64 KiB of segment `k` of the `n` of a flush (Table 8.6). -/
def State.segmentFront (s : State) (f : Flush) (k n : Nat) (recs : List Nat) : List Nat :=
  padTo 65532 (padTo 64 ([0x43, 0x5A, 0x54, 0x4C] ++ le 2 1 ++ le 2 (s.flushFlags f) ++ le 8 (f.first + k) ++ le 8 f.seq ++
    le 8 s.trail.ckptSeq ++ le 2 k ++ le 2 n ++ le 4 recs.length) ++ recs)
def State.segmentBytes (s : State) (f : Flush) (k n : Nat) (recs : List Nat) : List Nat :=
  s.segmentFront f k n recs ++ le 4 (crc32c (s.segmentFront f k n recs))
def State.flushBytes (s : State) (f : Flush) : List (List Nat) :=
  let segs := packed (f.recs.map (s.recBytes f.snap))
  segs.zipIdx.map fun x => s.segmentBytes f x.2 segs.length x.1

/-! ### The dump header (Table 8.3) -/

/-- An EXPOSURE entry of 24 bytes, a zone's hash state of 64. The places within them are the model's (DESIGN CHOICE, log entry 116). -/
def Expo.bytes (e : Expo) : List Nat := padTo 24 (le 6 e.seq ++ le 4 e.nsid ++ le 6 e.slba ++ le 4 e.nlb ++ [b2n e.posted])
def hashBytes (h : Nat × Nat × Nat × Nat) : List Nat := padTo 64 (le 4 h.1 ++ le 4 h.2.1 ++ le 8 h.2.2.1 ++ be 32 h.2.2.2)
def Dump.front (d : Dump) : List Nat :=
  le 8 d.seq ++ le 8 d.timestamp ++ le 8 d.aonTime ++ d.exposure.flatMap Expo.bytes ++ d.hash.flatMap hashBytes ++
    d.fi.flatMap (fun g => le 8 g.2) ++ le 8 d.wseq
def Dump.bytes (d : Dump) : List Nat := d.front ++ le 4 (crc32c d.front)

/-! ### Glaze descriptors (R271) -/

/-- OWNER of a descriptor, and its 64 bytes (Table 9.3). -/
def ownerWord (d : GDesc) : Nat := d.tag % 2 ^ 15 + d.gen % 32 * 2 ^ 15 + d.inst % 512 * 2 ^ 20 + b2n d.internal * 2 ^ 29
def descriptorBytes (d : GDesc) : List Nat :=
  [d.op % 256, b2n d.urgent + 2 * b2n d.hash] ++ le 2 d.slotA ++ [d.genA % 256, d.genB % 256] ++ le 2 d.slotB ++ le 4 (ownerWord d) ++
    [d.units % 256, d.hashLane % 256, 0, 0] ++ le 8 d.src ++ le 8 d.dst ++ le 8 d.lba ++ le 4 d.nsid ++ le 4 0 ++ le 8 d.wseq ++ le 8 0

/-! ### Hamper units (R305) -/

/-- OWNER_KIND (Table 10.2). -/
def OwnerKind.code : OwnerKind → Nat
  | .none_ => 0
  | .command => 1
  | .writer => 2
  | .job => 3
  | .trail => 4

/-- OWNER_ID: a command's tag with its generation, else the number as it is. -/
def State.ownerId (s : State) (u : HUnit) : Nat := match u.owner with
  | .command => u.ownerId % 2 ^ 15 + (s.tag u.ownerId).gen % 32 * 2 ^ 15
  | .writer => u.ownerId % 2 ^ 7
  | .job => u.ownerId % 2 ^ 15
  | _ => 0

/-- The state word of a unit of a pool (Table 10.2). -/
def State.stateWord (s : State) (pool : Nat) (u : HUnit) : Nat :=
  u.st % 4 + pool % 8 * 2 ^ 2 + u.inst % 512 * 2 ^ 5 + u.owner.code * 2 ^ 14 + s.ownerId u * 2 ^ 17 + u.claims % 256 * 2 ^ 37

/-- The free list of a pool in its order, and the index a free unit's metadata names: the next one's, or all ones (R305). -/
def Pool.freeList (p : Pool) : List Nat :=
  ((List.range' p.fresh (p.size - p.fresh)).filter fun i => !(p.gone.contains i)) ++ p.freed
def Pool.nextFree (p : Pool) (i : Nat) : Nat := ((p.freeList.dropWhile fun k => decide (k ≠ i)).drop 1).headD 0xFFFFFFFF

/-! ### DRAM bursts (R325) -/

/-- The 16 bytes of check information of a burst's eight words: a SECDED code for each, the CRC, the poison flag with its
complement, in two bytes of one bit each; two bytes are not used (DESIGN CHOICE, log entry 116). -/
def burstCheck (addr : Nat) (words : List Nat) (poison : Bool) : List Nat :=
  padTo 8 (words.map fun w => Config.secded w % 256) ++ le 4 (Config.burstCrc words addr) ++ [b2n poison, b2n (!poison), 0, 0]

end Sys2Proof.Machine
end

