-- ==== Sys2Proof/Safety.lean ====
section
/-!
DEFINITION. What counts as a sound state, in the terms that statements use: the canonical form of the register file and
of the configuration in force, and what makes a staged command's admission succeed.
-/

namespace Sys2Proof.Machine

/-- The register file and the configuration hold no entry out of order and none at its cold or default value, so that
equal contents are equal data. -/
def State.tablesCanonical (s : State) : Bool := Tab.wf none s.regs && Tab.wf none s.cfg

/-- The state in which the tag of an admin command holds it, intake having fetched it at this step (R74, R75). -/
def State.taken (s : State) (i cid : Nat) (o : Opc := .admin) : State := (s.fetchAdmin i cid o).2

/-- The state in which a tag's command has passed the checks of step 2 (R78, R129). -/
def State.passed (s : State) (t : Nat) : State := s.modTag t fun x => { x with checked := true }

/-- The staged command of a tag meets every condition of Table 3.4 (R78), so that its admission is not put off and does
not end it. -/
structure State.AdmitReady (s : State) (t : Nat) : Prop where
  staged : (s.tag t).stage = .staged
  intake : s.intakeOn = true
  instance_ : s.admits (s.tag t).inst = true
  first : s.higherWaits (s.tag t).cls = false
  lookups : s.lookupWaits (s.tag t).cmd (s.tag t).checked = false
  checks : s.commandCheck t = none
  open_ : (s.ns (s.tag t).cmd.nsid).closing = false
  deficit : 0 < (s.inst (s.tag t).inst).deficit ∨ (s.tag t).cls ≠ .b
  sieve : (s.passed t).sieveStep t = none
  room : (s.passed t).heldAt t = 0
  point : (s.passed t).pointCheck (s.tag t).cmd = none
  walk : (s.tag t).cmd.opc ≠ .read ∨ s.sieve.walks.length < 64

end Sys2Proof.Machine
end

