-- ==== Sys2Proof/WellFormed.lean ====
section
/-!
DEFINITION. When a command is well formed: its operands lie in the ranges that the hardware's own wires, registers and
tables give them. What a rule checks (and refuses with a status) is no matter of form: exec answers it.
-/

namespace Sys2Proof

/-! ### Checks of operands -/

/-- An instance number (R344). -/
def okInst (i : Nat) : Bool := decide (i ≤ 511)
def okWord16 (x : Nat) : Bool := decide (x < 65536)
def okWord32 (x : Nat) : Bool := decide (x < 4294967296)
def okWord64 (x : Nat) : Bool := decide (x < 18446744073709551616)
/-- A 15-bit command tag (Table 0.3). -/
def okTag (t : Nat) : Bool := decide (t < 32768)
/-- A die name whose channel belongs to its Bay (R4). -/
def okDie (d : Nat) : Bool := decide (d < 16384) && decide (d / 256 % 8 = d / 2048)
def okChannel (c : Nat) : Bool := decide (c < 64)
def okBay (b : Nat) : Bool := decide (b < 8)
/-- A chip enable of a channel (R4). -/
def okTarget (t : Nat) : Bool := decide (t < 8)
def okPlane (p : Nat) : Bool := decide (p < 8)
def okBlock (b : Nat) : Bool := decide (b < 4096)
def okRow (r : Nat) : Bool := decide (r < 4096)
/-- A stripe group: sixteen of at most 2,048 dies (R34). -/
def okGroup (g : Nat) : Bool := decide (g < 128)
/-- A Sieve position (Table 0.3). -/
def okPos (p : Nat) : Bool := decide (p < 65536)
/-- A Glaze key slot (Table 9.6). -/
def okSlot (k : Nat) : Bool := decide (k < 2048)
/-- A Hamper pool code (Table 10.3). -/
def okPool (p : Nat) : Bool := decide (p ≤ 5)
/-- A die set number (R36). -/
def okSet (d : Nat) : Bool := decide (1 ≤ d) && decide (d ≤ 128)
/-- A factor in percent (R81). -/
def okPercent (x : Nat) : Bool := decide (x ≤ 100)
/-- A path of the configuration mailbox: 0 BAR2, 1 the Service Port (R463). -/
def okPath (p : Nat) : Bool := decide (p < 2)
/-- One of the sixteen Glaze lanes. -/
def okLane (l : Nat) : Bool := decide (l < 16)
/-- A locking range of a namespace: the global range and up to 127 more (R293). -/
def okRange (r : Nat) : Bool := decide (r < 128)
/-- A DRAM channel, subchannel and one of its 32 banks (Table 11.2). -/
def okChan (c : Nat) : Bool := decide (c < 4)
def okSub (x : Nat) : Bool := decide (x < 2)
def okBank (b : Nat) : Bool := decide (b < 32)
/-- A 32-bit register of the manager's 512 KiB BAR2 (Table 12.3). -/
def okOffset (o : Nat) : Bool := decide (o < 524288) && decide (o % 4 = 0)
/-- A clock domain (Table 1.8) and a power domain (Table 15.3). -/
def okBridge (d : Nat) : Bool := decide (d < 148)
def okDomain (d : Nat) : Bool := decide (d < 96)
/-- An OTP row (R506). -/
def okOtpRow (r : Nat) : Bool := decide (r < 64)
/-- An SRAM macro group (Table 7.13). -/
def okMacro (g : Nat) : Bool := decide (g < 384)
/-- A PCIe port, and a fence port (R398). -/
def okPort (p : Nat) : Bool := decide (p < 2)
def okFencePort (p : Nat) : Bool := decide (p < 8)
def okTwoBits (x : Nat) : Bool := decide (x < 4)
/-- A rail (Table 20.2). -/
def okRail (r : Nat) : Bool := decide (r < 9)
/-- A power state (Table 15.2). -/
def okPs (p : Nat) : Bool := decide (p ≤ 4)
/-- A setpoint in the ten bits of PWR_AVS_STATUS (Table 15.13). -/
def okSetpoint (mv : Nat) : Bool := decide (mv < 1024)
/-- A Switch segment (Table 17.3) or a clock domain's bridge. -/
def okWordAt : WordAt → Bool
  | .segment seg _ _ => decide (seg < 64)
  | .bridge domain dir => okBridge domain && decide (dir < 2)
/-- A submission queue entry: a 16-bit identifier, a 64-bit LBA. -/
def okCmd (c : HostCmd) : Bool := okWord16 c.cid && okWord32 c.nsid && okWord64 c.slba

/-- The operands of a command lie in their ranges. -/
def Instr.wellFormed : Instr → Bool
  | .registerWrite inst offset value => okInst inst && okOffset offset && okWord32 value
  | .switchWordDiscard w => okWordAt w
  | .handshakeWatchdogExpiry w => okWordAt w
  | .switchRetransmitResult w _ _ _ => okWordAt w
  | .globalOpStallRelease => true
  | .islandClockStop domain _ _ => okBridge domain
  | .islandClockRestart domain => okBridge domain
  | .sqDoorbellWrite inst qid tail => okInst inst && okWord16 qid && okWord16 tail
  | .cqDoorbellWrite inst qid head => okInst inst && okWord16 qid && okWord16 head
  | .commandFetch inst sq c => okInst inst && okWord16 sq && okCmd c
  | .drrRoundStart => true
  | .admission tag _ => okTag tag
  | .writeDataInFarHamper tag _ => okTag tag
  | .completionPost tag => okTag tag
  | .interruptCoalescingExpiry inst cq => okInst inst && okWord16 cq
  | .throttleMessage f g => okPercent f && okPercent g
  | .throttleTimeout => true
  | .write inst sq c => okInst inst && okWord16 sq && okCmd c
  | .writeZeroes inst sq c => okInst inst && okWord16 sq && okCmd c
  | .zoneAppend inst sq c => okInst inst && okWord16 sq && okCmd c
  | .read inst sq c => okInst inst && okWord16 sq && okCmd c
  | .datasetManagement inst sq c => okInst inst && okWord16 sq && okCmd c
  | .flush inst sq c => okInst inst && okWord16 sq && okCmd c
  | .zoneOpen inst sq c => okInst inst && okWord16 sq && okCmd c
  | .zoneClose inst sq c => okInst inst && okWord16 sq && okCmd c
  | .zoneFinish inst sq c => okInst inst && okWord16 sq && okCmd c
  | .zoneReset inst sq c => okInst inst && okWord16 sq && okCmd c
  | .zoneOffline inst sq c => okInst inst && okWord16 sq && okCmd c
  | .setZoneDescriptorExtension inst sq c => okInst inst && okWord16 sq && okCmd c
  | .zoneManagementReceive inst sq c => okInst inst && okWord16 sq && okCmd c
  | .zoneRowRelease group row => okGroup group && okRow row
  | .zoneFzrAgeReached nsid _ => okWord32 nsid
  | .zoneFinishAgeReached nsid _ => okWord32 nsid
  | .namespaceManagementCreate inst cid _ _ _ _ _ _ _ => okInst inst && okWord16 cid
  | .namespaceManagementDelete inst cid nsid => okInst inst && okWord16 cid && okWord32 nsid
  | .formatNvm inst cid nsid _ _ _ => okInst inst && okWord16 cid && okWord32 nsid
  | .sanitizeCryptoErase inst cid => okInst inst && okWord16 cid
  | .capacityManagementSelect inst cid _ => okInst inst && okWord16 cid
  | .namespaceAttachment inst cid nsid _ _ => okInst inst && okWord16 cid && okWord32 nsid
  | .identify inst cid _ nsid => okInst inst && okWord16 cid && okWord32 nsid
  | .getFeatures inst cid _ nsid => okInst inst && okWord16 cid && okWord32 nsid
  | .setFeaturesArbitration inst cid _ => okInst inst && okWord16 cid
  | .setFeaturesPowerManagement inst cid _ => okInst inst && okWord16 cid
  | .setFeaturesInterruptCoalescing inst cid _ => okInst inst && okWord16 cid
  | .setFeaturesApst inst cid _ _ => okInst inst && okWord16 cid
  | .setFeaturesTimestamp inst cid _ => okInst inst && okWord16 cid
  | .setFeaturesPlmConfig inst cid _ _ _ => okInst inst && okWord16 cid
  | .setFeaturesPlmWindow inst cid _ _ => okInst inst && okWord16 cid
  | .setFeaturesFdp inst cid _ _ => okInst inst && okWord16 cid
  | .setFeaturesFdpEvents inst cid nsid _ => okInst inst && okWord16 cid && okWord32 nsid
  | .setFeaturesTemperatureThreshold inst cid _ _ => okInst inst && okWord16 cid
  | .setFeaturesHostIdentifier inst cid _ => okInst inst && okWord16 cid
  | .setFeaturesReservation inst cid _ nsid _ => okInst inst && okWord16 cid && okWord32 nsid
  | .ioManagementSend inst sq c => okInst inst && okWord16 sq && okCmd c
  | .ioManagementReceive inst sq c => okInst inst && okWord16 sq && okCmd c
  | .getLogPage inst cid _ _ => okInst inst && okWord16 cid
  | .getLogChangedZoneList inst cid nsid => okInst inst && okWord16 cid && okWord32 nsid
  | .getLogSmartHealth inst cid => okInst inst && okWord16 cid
  | .getLogArchive inst cid _ => okInst inst && okWord16 cid
  | .getLogFixityJobResult inst cid _ => okInst inst && okWord16 cid
  | .getLogPersistentEvent inst cid _ => okInst inst && okWord16 cid
  | .getLogTelemetryHost inst cid _ => okInst inst && okWord16 cid
  | .getLogTelemetryController inst cid => okInst inst && okWord16 cid
  | .createIoSubmissionQueue inst cid qid cqid _ _ => okInst inst && okWord16 cid && okWord16 qid && okWord16 cqid
  | .createIoCompletionQueue inst cid qid _ _ _ => okInst inst && okWord16 cid && okWord16 qid
  | .deleteIoSubmissionQueue inst cid qid => okInst inst && okWord16 cid && okWord16 qid
  | .deleteIoCompletionQueue inst cid qid => okInst inst && okWord16 cid && okWord16 qid
  | .abort inst cid sq targetCid _ => okInst inst && okWord16 cid && okWord16 sq && okWord16 targetCid
  | .asynchronousEventRequest inst cid => okInst inst && okWord16 cid
  | .sieveRuleInsert pos _ _ _ _ _ _ _ => okPos pos
  | .sieveRuleRemove pos => okPos pos
  | .sieveShiftComplete => true
  | .sieveShadowRewriteDone pos => okPos pos
  | .sieveScrubStep _ => true
  | .sieveDiagCapture pos _ => okPos pos
  | .walkSlotFreed => true
  | .mapUpdate _ _ => true
  | .channelRetrain channel target _ => okChannel channel && okTarget target
  | .dieOperationIssue die _ => okDie die
  | .operationAging die _ _ => okDie die
  | .nandReadComplete die _ => okDie die
  | .decodeLadderStep die _ _ => okDie die
  | .qlcPassComplete die _ => okDie die
  | .qlcNextPassStart die => okDie die
  | .slcProgramComplete die _ => okDie die
  | .eraseComplete die _ => okDie die
  | .eraseSuspendRequest die => okDie die
  | .eraseSuspendComplete die => okDie die
  | .eraseResume die _ => okDie die
  | .deterministicWindowEntered set => okSet set
  | .dtwinMaxExpiry set => okSet set
  | .brownOutDetect bay _ => okBay bay
  | .pulseGateReopen bay => okBay bay
  | .dieFailure die => okDie die
  | .verifyComplete group row _ die plane => okGroup group && okRow row && okDie die && okPlane plane
  | .blanketRelease group row => okGroup group && okRow row
  | .nandTemperatureSummary _ => true
  | .fiSummaryTimeout _ => true
  | .timestampWaitExpiry => true
  | .earlyWarningConfirm nsid _ _ => okWord32 nsid
  | .refireStart set => okSet set
  | .refireTargetProgrammed _ _ _ => true
  | .refireSwitch _ => true
  | .refireOldRowRelease _ => true
  | .refireRetryTimer nsid _ => okWord32 nsid
  | .relocationStart nsid => okWord32 nsid
  | .relocationSwitch _ => true
  | .relocationRetryTimer nsid group row => okWord32 nsid && okGroup group && okRow row
  | .fbeMmBlkCapture die plane block => okDie die && okPlane plane && okBlock block
  | .fixityVerify inst sq c => okInst inst && okWord16 sq && okCmd c
  | .fixityCancel inst sq c => okInst inst && okWord16 sq && okCmd c
  | .fixityZoneStart _ => true
  | .fixityZoneDone _ _ _ _ => true
  | .sramCheckRead group _ _ => okMacro group
  | .sramUncorrectableReread group _ _ => okMacro group
  | .eccSelftestRun => true
  | .eccSelftestDone _ _ => true
  | .pwrfailAssert _ => true
  | .dumpComplete => true
  | .pwrfailReleaseTimeout => true
  | .normalShutdown inst => okInst inst
  | .abruptShutdown inst => okInst inst
  | .shutdownComplete => true
  | .trailFlushStart => true
  | .trailFlushDurable => true
  | .checkpointStart => true
  | .checkpointEnd => true
  | .dumpRowRelease group => okGroup group
  | .glazeDescriptorSubmit _ => true
  | .glazeDescriptorComplete lane _ _ _ _ => okLane lane
  | .glazeContextAgedResume lane => okLane lane
  | .keyUnwrapLoad nsid range _ => okWord32 nsid && okRange range
  | .keySlotUnload slot _ => okSlot slot
  | .keySlotDrained slot => okSlot slot
  | .opalAuthenticate _ _ => true
  | .opalSetCredential _ _ => true
  | .opalSetLocking nsid range _ => okWord32 nsid && okRange range
  | .opalGenkey nsid range _ => okWord32 nsid && okRange range
  | .keyTagInject inst nsid tag _ _ _ => okInst inst && okWord32 nsid && okTag tag
  | .keyTagClear nsid tag => okWord32 nsid && okTag tag
  | .sealedWaitWarning nsid => okWord32 nsid
  | .entropyHealthFail => true
  | .glazeAlarm _ => true
  | .alarmRecovery _ => true
  | .otpIntegrityRecheck _ => true
  | .hamperAllocate pool _ _ _ => okPool pool
  | .hamperHand _ _ _ _ _ => true
  | .hamperClaim _ => true
  | .hamperDrop _ _ => true
  | .hamperRelease _ _ _ => true
  | .poolWaitNotice pool => okPool pool
  | .freeListRebuild pool _ => okPool pool
  | .freeListRebuildDone pool => okPool pool
  | .dramRequestArrival chan sub _ => okChan chan && okSub sub
  | .dramRequestIssue chan sub bank => okChan chan && okSub sub && okBank bank
  | .dramReadReturn chan sub _ _ _ => okChan chan && okSub sub
  | .refreshDue chan sub _ => okChan chan && okSub sub
  | .zqCalibrationTimer => true
  | .dqsOscillatorCheck chan sub _ => okChan chan && okSub sub
  | .caParityAlert chan sub _ _ => okChan chan && okSub sub
  | .dramScrubStep chan sub _ _ => okChan chan && okSub sub
  | .perstAssert port _ => okPort port
  | .perstRelease port => okPort port
  | .linkUp port _ _ => okPort port
  | .aspmL1Entry port sub => okPort port && okSub sub
  | .l0pNarrow port => okPort port
  | .l0pWiden port => okPort port
  | .pcieReadError tag _ => okTag tag
  | .msixVectorUnmask inst _ => okInst inst
  | .wakeNAssert inst => okInst inst
  | .doeObject inst _ => okInst inst
  | .doeAbort inst => okInst inst
  | .spdmGetMeasurements inst _ => okInst inst
  | .spdmRequest inst _ _ _ => okInst inst
  | .ideKmRequest _ _ _ _ _ _ => true
  | .reservationRegister inst sq c => okInst inst && okWord16 sq && okCmd c
  | .reservationAcquire inst sq c => okInst inst && okWord16 sq && okCmd c
  | .reservationRelease inst sq c => okInst inst && okWord16 sq && okCmd c
  | .reservationReport inst sq c => okInst inst && okWord16 sq && okCmd c
  | .virtMgmtAssign inst cid target _ _ => okInst inst && okWord16 cid && okInst target
  | .virtMgmtOnline inst cid target => okInst inst && okWord16 cid && okInst target
  | .virtMgmtOffline inst cid target => okInst inst && okWord16 cid && okInst target
  | .instanceQuiescePause inst cid target _ _ => okInst inst && okWord16 cid && okInst target
  | .pauseDrainComplete target => okInst target
  | .pauseLimitExpiry target => okInst target
  | .instanceQuiesceStop inst cid target _ => okInst inst && okWord16 cid && okInst target
  | .instanceQuiesceResume inst cid target _ => okInst inst && okWord16 cid && okInst target
  | .stopDrainComplete target => okInst target
  | .functionLevelReset inst => okInst inst
  | .controllerDisable inst => okInst inst
  | .controllerEnable inst _ _ _ => okInst inst
  | .tenantShutdown inst => okInst inst
  | .instanceResourcesSet inst cid target _ _ => okInst inst && okWord16 cid && okInst target
  | .instanceResourcesGet inst cid target => okInst inst && okWord16 cid && okInst target
  | .instanceStateSave inst cid target _ => okInst inst && okWord16 cid && okInst target
  | .instanceStateRestore inst cid target _ => okInst inst && okWord16 cid && okInst target
  | .mbxTDoorbell inst => okInst inst
  | .mbxTAck inst seq _ => okInst inst && okWord16 seq
  | .mbxInstDoorbell => true
  | .mbxInstAck seq _ => okWord16 seq
  | .dirtyLogEnable => true
  | .dirtyLogDisable => true
  | .harvest inst => okInst inst
  | .harvestComplete inst => okInst inst
  | .reportRingSizeWrite size => okWord32 size
  | .fenceIssue port cls scope target _ => okFencePort port && okTwoBits cls && okTwoBits scope && okInst target
  | .fenceComplete port _ => okFencePort port
  | .snapshotView _ => true
  | .nvmSubsystemReset => true
  | .controllerReset => true
  | .nonopEntryStart target _ => okPs target
  | .nonopStateReached _ => true
  | .entryBackoffRetry _ => true
  | .apstIdleExpiry _ => true
  | .ps3Ps4Change => true
  | .wakeSource _ => true
  | .exitComplete => true
  | .maintenanceWake => true
  | .maintenanceReentry _ => true
  | .wakeDomainIdleReturn => true
  | .domainIdleGate domain => okDomain domain
  | .isolationGateWake domain => okDomain domain
  | .avsStepRequest mv => okSetpoint mv
  | .avsStepResult _ => true
  | .avsExitRetry _ => true
  | .housekeepingRound _ => true
  | .dieTemperatureReadings _ => true
  | .diodeAnchor _ _ => true
  | .temperatureHistoryTick => true
  | .thermalTrip _ => true
  | .faultMessage word => okWord64 word
  | .faultHandler => true
  | .graveStopIsolate => true
  | .klogTokenRefill => true
  | .klogPersistSegment => true
  | .persistNow => true
  | .firstSourceClear => true
  | .faultInject word => okWord64 word
  | .klogRecordCapture seq => okWord16 seq
  | .imageBegin path _ _ => okPath path
  | .imageChunk path _ _ _ => okPath path
  | .imageCommit path _ => okPath path
  | .imageAbort path => okPath path
  | .fieldRead path _ => okPath path
  | .fieldWrite path _ => okPath path
  | .nsModeSet path _ => okPath path
  | .cfgMbxBadDoorbell _ => true
  | .imageSessionTimeout => true
  | .miBasicManagementCommand => true
  | .miKilnLogRead _ _ _ => true
  | .miTunnelledAdmin _ _ _ => true
  | .miControlPrimitive _ _ _ => true
  | .miHealthStatusPoll _ _ _ => true
  | .miReadDataStructure _ _ => true
  | .miConfigurationGet _ _ _ => true
  | .miConfigurationSet _ _ _ _ => true
  | .miVpdRead _ _ _ => true
  | .miVpdWrite _ _ _ => true
  | .miReset _ => true
  | .stewardMailboxTimeout => true
  | .bootSequence _ => true
  | .trialSlotConfirm => true
  | .configRollbackAdvance => true
  | .bootAreaRefresh _ _ => true
  | .firmwareImageDownload inst cid _ _ _ => okInst inst && okWord16 cid
  | .firmwareCommit inst cid _ _ _ => okInst inst && okWord16 cid
  | .stagingTimeout => true
  | .smiliBadFrame seq _ => okWord16 seq
  | .servicePortAutobaud _ => true
  | .servicePortRateTimeout => true
  | .identifySmili seq => okWord16 seq
  | .bootTimes seq => okWord16 seq
  | .logRead seq _ _ => okWord16 seq
  | .logAreaRead seq _ _ => okWord16 seq
  | .serviceReset seq _ => okWord16 seq
  | .fwBegin seq _ _ => okWord16 seq
  | .fwChunk seq _ _ => okWord16 seq
  | .fwCommit seq _ _ _ => okWord16 seq
  | .fwAbort seq => okWord16 seq
  | .cfgMsg seq _ _ _ _ _ _ => okWord16 seq
  | .trace seq _ _ => okWord16 seq
  | .otpRead seq row => okWord16 seq && okOtpRow row
  | .otpProgram seq row _ _ => okWord16 seq && okOtpRow row
  | .provisionKeys seq => okWord16 seq
  | .certWrite seq _ _ => okWord16 seq
  | .lifecycleAdvance seq _ _ => okWord16 seq
  | .debugChallenge seq => okWord16 seq
  | .debugUnlock seq _ => okWord16 seq
  | .railLow rail => okRail rail
  | .io33Restored => true
  | .aonReset => true
  | .pwrdisAssert => true
  | .pwrdisRelease => true
  | .offDomainRead offset => okOffset offset
  | .hostDataUnitArrival tag _ _ => okTag tag
  | .linkDown port => okPort port
  | .ideIntegrityCheckFailure => true
  | .aspmL1Exit port => okPort port
  | .configurationRequest inst _ _ _ => okInst inst
  | .dramRowIdleClose chan sub bank => okChan chan && okSub sub && okBank bank
  | .aonDiodeRead _ _ => true
  | .entropyHealthTestPass => true
  | .pwrfailHighBeforeStart => true
  | .setFeaturesAsyncEventConfig inst cid _ => okInst inst && okWord16 cid
  | .keyPerIoKekSet nsid _ => okWord32 nsid

end Sys2Proof
end

