-- ==== Sys2Proof/Certificates/Slice0/Obligations.lean ====
section
/-! DEFINITION. The statements for the provers. A statement names the rows of a family and says where each completes, what
it writes and what it leaves. -/

open Sys2Proof Sys2Proof.Machine

/-- A step takes the command at the front of the queue and runs it on the state with the queue's rest. -/
def Obligations.StepRunsFrontCommand : Prop :=
  ∀ (c : Instr) (rest : List Instr) (s : State),
    step { s with pending := c :: rest } = exec c { s with pending := rest }

/-- With no command waiting the block counts one 10 ns tick of its AON timer (the model's choice, log entry 1), and
only what runs on by itself goes on: the words of the bridges (log entry 99), the channels' data, a DRAM retraining
that has come to its end (R324), the steward's mail, one message each way (log entry 113). -/
def Obligations.IdleStepCounts : Prop :=
  ∀ s : State, s.pending = [] → let t := s.idle
    step s = .next t ∧
    t = { s with
      now := s.now + 1
      fabric := { s.fabric with bridges := t.fabric.bridges, stopped := t.fabric.stopped, stopWaits := t.fabric.stopWaits }
      flash := { s.flash with chans := t.flash.chans }
      dram := t.dram
      mgmt := { s.mgmt with
        mailOut := s.mgmt.mailOut.drop 1 ++ s.mgmt.mailOutWait.take 1, mailOutWait := s.mgmt.mailOutWait.drop 1
        mailBack := s.mgmt.mailBack.drop 1 ++ s.mgmt.mailBackWait.take 1, mailBackWait := s.mgmt.mailBackWait.drop 1 } } ∧
    (∀ x, s.dram.training = some x → x.until_ ≤ s.now + 1 → t.dram = { s.dram with training := none, rate := x.rate }) ∧
    (s.dram.training.all (fun x => decide (s.now + 1 < x.until_)) = true → t.dram = s.dram) ∧
    (∀ d, s.fabric.bridges = [(d, s.bridge d)] → d ∉ s.fabric.stopped → (s.bridge d).held = 0 →
      (t.bridge d).inFifo = (s.bridge d).inFifo - 1 ∧ (t.bridge d).outFifo = (s.bridge d).outFifo - 1)

/-- What reset leaves (R6, R141, R479, R506): every register field at its cold value, every configuration field at its
default, no memory of commands, an unprogrammed OTP, the tables in canonical form, the boot sequence not yet run. -/
def Obligations.ResetState : Prop :=
  let s := State.reset
  (∀ k, s.reg k = fieldCold k) ∧ (∀ id idx, s.cfgAt id idx = cfgDefault id idx) ∧ s.pending = [] ∧ s.out = [] ∧ s.now = 0 ∧
    s.tablesCanonical = true ∧ s.boot.phase = .fresh ∧ (∀ r, s.otpRow r = 0) ∧ s.lifecycle = 0 ∧ s.intake.tags = [] ∧
    s.trail.dumpMode = false ∧ s.fault.grave = false ∧ (∀ i, s.port i = {}) ∧ (s.port 0).perst = true ∧
    s.power.confirmed = 750 ∧ s.boot.baud = 115200 ∧ s.cone.trip = false

/-- Every step keeps the canonical form of the register file and of the configuration, and takes nothing back: a
command once taken leaves the rest of the queue as it was, what has been sent stays sent, an OTP bit once programmed
stays programmed (R506), and the Grave state stands until a cold power-on runs the boot sequence (R453). -/
def Obligations.StepKeeps : Prop :=
  ∀ s t : State, step s = .next t →
    (s.tablesCanonical = true → t.tablesCanonical = true) ∧ t.pending = s.pending.tail ∧
    (∃ new, t.out = new ++ s.out) ∧ s.freeCtr ≤ t.freeCtr ∧
    (∀ r b, (s.otpRow r).testBit b = true → (t.otpRow r).testBit b = true) ∧
    (s.fault.grave = true → t.fault.grave = true ∨ ∃ info, s.pending.head? = some (.bootSequence info))

/-- Switch words and bridges (R22, R23, R28): a word of a place the chip has is discarded once; an accepted second
attempt is a Notice and nothing else; a failed one takes the segment out of service, Degraded, and with the third
attempt failed the port, or the bridge, as well, Severe, its commands ending with Internal Error. Which of a pair's
two ports leaves is the model's choice (log entry 10). Clocked islands (R29): a stop waits with the words found in the
two FIFOs and takes effect once both are empty; a request is counted as held at the bridge, wakes the power domain,
and once that is on and the FIFO has room it restarts the clock and goes on. Nothing else changes. -/
def Obligations.FabricRows : Prop :=
  ((∀ (w : WordAt) (s : State), wordOk w = true → w ∉ s.fabric.discarded →
    let t := { s with fabric := { s.fabric with discarded := s.fabric.discarded ++ [w] } }
    exec (.switchWordDiscard w) s = .next t ∧ exec (.handshakeWatchdogExpiry w) s = .next t) ∧
  (∀ (g a b : Nat) (third : Bool) (tags : List Nat) (s : State), WordAt.segment g a b ∈ s.fabric.discarded →
    let w := WordAt.segment g a b
    let src := 0x090 + g % 64
    let s1 := { s with fabric := { s.fabric with discarded := s.fabric.discarded.erase w } }
    let s2 := { s1 with fabric := { s1.fabric with
      segmentsOut := addOnce s.fabric.segmentsOut g, oneHalf := addOnce s.fabric.oneHalf (a, b) } }.report src 0x02 g 1
    exec (.switchRetransmitResult w true third tags) s = .next (s1.reportTransient src 0x01 (a * 65536 + b)) ∧
    exec (.switchRetransmitResult w false true tags) s = .next s2 ∧
    exec (.switchRetransmitResult w false false tags) s = .next (tags.foldl (fun t k => t.failTag k Status.internalError)
      ({ s2 with fabric := { s2.fabric with portsOut := addOnce s2.fabric.portsOut b } }.reportHost src 0x03 b 2 !tags.isEmpty))) ∧
  (∀ (d dir : Nat) (third : Bool) (tags : List Nat) (s : State), WordAt.bridge d dir ∈ s.fabric.discarded →
    let w := WordAt.bridge d dir
    let src := 0x100 + d % 148
    let s1 := { s with fabric := { s.fabric with discarded := s.fabric.discarded.erase w } }
    let s2 := s1.report src 0x04 dir 1
    exec (.switchRetransmitResult w true third tags) s = .next (s1.reportTransient src 0x04 dir) ∧
    exec (.switchRetransmitResult w false true tags) s = .next s2 ∧
    exec (.switchRetransmitResult w false false tags) s = .next (tags.foldl (fun t k => t.failTag k Status.internalError)
      ({ s2 with fabric := { s2.fabric with bridgesOut := addOnce s2.fabric.bridgesOut d } }.reportHost src 0x04 dir 2 !tags.isEmpty)))) ∧
  ((∀ (d i o : Nat) (s : State), d < 148 → i ≤ 16 → o ≤ 16 → d ∉ s.fabric.stopped → ∃ w : State,
    exec (.islandClockStop d i o) s = .next (w.settleStop d) ∧
    w = { s.modBridge d (fun b => { b with inFifo := i, outFifo := o }) with fabric := w.fabric } ∧
    w.fabric = { (s.modBridge d fun b => { b with inFifo := i, outFifo := o }).fabric with stopWaits := w.fabric.stopWaits } ∧
    ∀ e, e ∈ w.fabric.stopWaits ↔ e ∈ s.fabric.stopWaits ∨ e = d) ∧
  (∀ (d : Nat) (s : State), d ∈ s.fabric.stopWaits →
    if (s.bridge d).inFifo = 0 ∧ (s.bridge d).outFifo = 0 then
      let t := s.settleStop d
      (∀ e, e ∈ t.fabric.stopWaits ↔ e ∈ s.fabric.stopWaits ∧ e ≠ d) ∧
      (∀ e, e ∈ t.fabric.stopped ↔ e ∈ s.fabric.stopped ∨ e = d) ∧
      t = { s with fabric := { s.fabric with stopped := t.fabric.stopped, stopWaits := t.fabric.stopWaits } }
    else s.settleStop d = s) ∧
  (∀ (d : Nat) (s : State), d < 148 → exec (.islandClockRestart d) s =
    .next (((s.modBridge d fun b => { b with held := b.held + 1 }).gateWake (clockPower d)).serveBridge d)) ∧
  (∀ (d : Nat) (s : State),
    if (s.bridge d).held ≠ 0 ∧ (s.bridge d).inFifo < 16 ∧ s.islandPowered d = true then
      let t := s.serveBridge d
      let u := s.modBridge d fun b => { b with held := b.held - 1, inFifo := b.inFifo + 1 }
      (∀ e, e ∈ t.fabric.stopped ↔ e ∈ s.fabric.stopped ∧ e ≠ d) ∧
      t = { u with fabric := { u.fabric with stopped := t.fabric.stopped } }
    else s.serveBridge d = s))

/-- Fences (R398, R400, R21): on a full port 0 no ID is taken and OVERRUN is set; a fence takes its port's next ID; a
refused one ends at once with RESULT 2; one that finds the tree full, counted from the oldest operation that has not
completed, or others waiting, waits at the root; the oldest that waits goes on when there is room; one whose covered
events are done (those of class 0 the words at the bridges, of class 2 its records, of class 3 the messages at the
ports) is ended with RESULT 0. Results come in ID order (R398): while an earlier fence of a port has not ended, the
end of a later one is kept and neither reported nor counted. -/
def Obligations.FenceRows : Prop :=
  ((∀ (port cls scope target : Nat) (snap : Bool) (s : State), port ≤ 7 → cls ≤ 3 → scope ≤ 3 →
    let id := (s.fport port).nextId
    let f : Fence := { id := id, cls := cls, scope := scope, target := target, snap := snap }
    let q := s.modFport port fun x => { x with nextId := (id + 1) % 65536, out := x.out ++ [f] }
    let q := if port = 0 then q.setReg Reg.WMK_LAST_ID_ID id else q
    if port = 0 ∧ 16 ≤ ((s.fport 0).out.filter fun f => !f.dropped).length then
      exec (.fenceIssue port cls scope target snap) s = .next (s.setReg Reg.WMK_STATUS_OVERRUN 1)
    else if scope = 3 ∨ (scope = 1 ∧ 7 < target) ∨ (scope = 2 ∧ 511 < target) ∨ (snap = true ∧ scope ≠ 0) then
      exec (.fenceIssue port cls scope target snap) s = .next (q.endFence port id 2)
    else if 64 ≤ s.wmk.tree.length ∨ s.wmk.stalled ≠ [] then
      exec (.fenceIssue port cls scope target snap) s =
        .next { q with wmk := { q.wmk with stalled := q.wmk.stalled ++ [.fence port id] } }
    else exec (.fenceIssue port cls scope target snap) s = .next (q.startFence port id)) ∧
  (∀ (port id : Nat) (f : Fence) (s : State), ((s.fport port).out.find? fun f => decide (f.id = id)) = some f →
    f.started = true → f.ended = none → (f.cls = 0 → f.mark ≤ s.now) → (f.cls = 2 → f.mark ≤ s.trail.doneSeq) →
    (f.cls = 3 → ∀ c ∈ f.held, (s.src c).held = none) →
    exec (.fenceComplete port id) s = .next (s.endFence port id 0)) ∧
  (∀ (o : Stalled) (rest : List Stalled) (s : State), s.wmk.stalled = o :: rest → s.wmk.tree.length < 64 →
    exec .globalOpStallRelease s = .next (({ s with wmk := { s.wmk with stalled := rest } }).resume o))) ∧
  (∀ (port id : Nat) (a f : Fence) (l : List Fence) (s : State), Tab.wf {} s.wmk.ports = true →
    (s.fport port).out = a :: l → a.ended = none → a.id ≠ id → (l.find? fun f => decide (f.id = id)) = some f →
    s.fenceReady f = true →
    ∃ t, exec (.fenceComplete port id) s = .next t ∧ t.out = s.out ∧ t.regs = s.regs ∧
      (t.fport port).out = a :: l.map (fun y => if y.id = id ∧ y.ended = none then { y with ended := some 0 } else y))

/-- Doorbells (R69): a write for a queue that does not exist, or with a bad value, is ignored but for its asynchronous
event; any other moves the tail, whose notice intake sees once and which wakes the controller, or the head. While IDE
holds TLPs back nothing arrives. I/O queues (R68): a queue is created with its identifier within the instance's quota
and free, its size within 2 to 16,384, and for a submission queue an existing completion queue; it is deleted when it
exists and, for a completion queue, serves no submission queue. Anything else completes with NVMe's status and changes
nothing else. The command has been fetched before: `u` is the state in which its tag holds it. The completion of an
admin command (R75, R91, R359): the tag that holds it posts it, unless a Stop of the instance has taken it; while the
stream is Insecure it waits. A command whose identifier another holds is refused with Invalid Field (R76), and one
that cannot be fetched changes nothing. -/
def Obligations.QueueRows : Prop :=
  (∀ (i q v : Nat) (s : State), s.ideBlocked = false →
    let sq := (s.inst i).sqs.get {} q
    let cq := (s.inst i).cqs.get {} q
    (if sq.exists_ = false then
      exec (.sqDoorbellWrite i q v) s = .next (s.event i Ev.error Ev.invalidDoorbellRegister 0x01)
    else if sq.size ≤ v ∨ sq.size ≤ (sq.tail + sq.size - sq.head) % sq.size + (v + sq.size - sq.tail) % sq.size then
      exec (.sqDoorbellWrite i q v) s = .next (s.event i Ev.error Ev.invalidDoorbellValue 0x01)
    else ∃ t : State, exec (.sqDoorbellWrite i q v) s = .next (t.wake 0) ∧
      t.tenant = (s.modInst i fun x => { x with sqs := x.sqs.upd {} q fun a => { a with tail := v } }).tenant ∧
      (∀ e, e ∈ t.intake.notices ↔ e ∈ s.intake.notices ∨ e = (i, q)) ∧
      (s.intake.notices.Nodup → t.intake.notices.Nodup) ∧
      t = { s with tenant := t.tenant, intake := { s.intake with notices := t.intake.notices } }) ∧
    (if cq.exists_ = false then
      exec (.cqDoorbellWrite i q v) s = .next (s.event i Ev.error Ev.invalidDoorbellRegister 0x01)
    else if cq.size ≤ v then
      exec (.cqDoorbellWrite i q v) s = .next (s.event i Ev.error Ev.invalidDoorbellValue 0x01)
    else exec (.cqDoorbellWrite i q v) s =
      .next (s.modInst i fun x => { x with cqs := x.cqs.upd {} q fun a => { a with head := v } }))) ∧
  (∀ (i cid qid cqid x : Nat) (m : QMem) (ien : Bool) (s : State), s.takes i cid = true → let u := s.taken i cid
    let free := 1 ≤ qid ∧ qid ≤ u.ioPairs i
    let sq := (u.inst i).sqs.get {} qid
    let cq := (u.inst i).cqs.get {} qid
    exec (.createIoSubmissionQueue i cid qid cqid m x) s = .next (
      if ¬ free ∨ sq.exists_ = true then u.adminCqe i cid Status.invalidQueueId 0
      else if m.size < 2 ∨ 16384 < m.size then u.adminCqe i cid Status.invalidQueueSize 0
      else if cqid = 0 ∨ ((u.inst i).cqs.get {} cqid).exists_ = false then u.adminCqe i cid Status.cqInvalid 0
      else (u.modInst i fun y => { y with
        sqs := y.sqs.set {} qid { exists_ := true, size := m.size, base := m.base, pc := m.pc, cq := cqid, prio := x % 4 } }).adminCqe
        i cid Status.success 0) ∧
    exec (.createIoCompletionQueue i cid qid m x ien) s = .next (
      if ¬ free ∨ cq.exists_ = true then u.adminCqe i cid Status.invalidQueueId 0
      else if m.size < 2 ∨ 16384 < m.size then u.adminCqe i cid Status.invalidQueueSize 0
      else (u.modInst i fun y => { y with
        cqs := y.cqs.set {} qid { exists_ := true, size := m.size, base := m.base, pc := m.pc, vector := x, ien := ien } }).adminCqe
        i cid Status.success 0) ∧
    exec (.deleteIoCompletionQueue i cid qid) s = .next (
      if qid = 0 ∨ cq.exists_ = false then u.adminCqe i cid Status.invalidQueueId 0
      else if ∃ q ∈ (u.inst i).sqs, q.2.exists_ = true ∧ q.2.cq = qid then u.adminCqe i cid Status.invalidQueueDeletion 0
      else (u.modInst i fun y => { y with cqs := y.cqs.set {} qid {} }).adminCqe i cid Status.success 0) ∧
    ((qid = 0 ∨ sq.exists_ = false) →
      exec (.deleteIoSubmissionQueue i cid qid) s = .next (u.adminCqe i cid Status.invalidQueueId 0)) ∧
    (qid ≠ 0 → sq.exists_ = true → (∀ t ∈ u.intake.tags, t.2.stage ≠ .free → t.2.inst = i → t.2.sq ≠ qid) →
      exec (.deleteIoSubmissionQueue i cid qid) s = .next (State.adminCqe (State.modInst { u with intake := { u.intake with
        notices := u.intake.notices.filter (· ≠ (i, qid)) } } i fun y => { y with sqs := y.sqs.set {} qid {} }) i cid Status.success 0))) ∧
  ((∀ (i cid st d t : Nat) (s : State), s.findTag i 0 cid = some t →
    s.adminCqe i cid st d =
      if (s.tag t).fate ≠ 0 then s
      else if s.ideBlocked = true then s.modTag t fun x => { x with done := some st, dw0 := d }
      else s.postTag t st d) ∧
  (∀ (i cid v : Nat) (s : State), s.adminOn i = true → s.cidInFlight i 0 cid = true →
    exec (.setFeaturesInterruptCoalescing i cid v) s = .next ((s.taken i cid).postTag (s.fetchAdmin i cid .admin).1 Status.invalidField 0)) ∧
  (∀ (i cid v : Nat) (s : State), s.adminOn i = false → exec (.setFeaturesInterruptCoalescing i cid v) s = .next s))

/-- Rounds and throttle (R71, R81, R82): a round adds each eligible instance's quantum, held at one quantum, and sets
the others' counters to 0; a throttle message sets f and g; 30 ms without one sets f to 25 % and reports Degraded. -/
def Obligations.RoundsAndThrottle : Prop :=
  (∀ (s : State), s.intakeOn = true → (∀ x ∈ s.tenant.insts, 0 < x.2.deficit → s.admissible x.1 = false) →
    exec .drrRoundStart s = .next (
      let q := s.cfgOf Cfg.INTAKE_QUANTUM * 1024
      let eligible := fun (x : Inst) => x.sqs.any fun a => a.1 ≠ 0 && (a.2.staged.isSome || decide (a.2.head ≠ a.2.tail))
      let next := fun (x : Inst) (n : Nat) => if eligible x then min (x.deficit + n) (max (n : Int) x.deficit) else 0
      let t := (s.tenant.insts.map (·.1)).foldl (fun t i => t.modInst i fun x =>
        { x with deficit := next x (t.cfgAt Cfg.INTAKE_WEIGHT i * q) }) s
      { t with intake := { t.intake with rounds := t.intake.rounds + 1 } })) ∧
  (∀ (f g : Nat) (s : State), 0 < f → f ≤ 100 → 0 < g → g ≤ 100 → ∃ t, exec (.throttleMessage f g) s = .next t ∧
    t.intake.f = f ∧ t.intake.g = g ∧ t.intake.throttleLost = false ∧ t.bucket = s.bucket ∧
    t = { s with intake := { s.intake with
      f := f, g := g, throttleLost := false, bucketSpent := t.intake.bucketSpent, bucketTime := s.now } }) ∧
  (∀ (s : State), s.power.ps < 3 → s.intake.throttleLost = false →
    let d := s.cfgOf Cfg.INTAKE_THROTTLE_BURST * 1048576
    exec .throttleTimeout s = .next (State.report { s with intake := { s.intake with
      f := 25, g := s.intake.g, throttleLost := true, bucketSpent := d - s.bucket, bucketTime := s.now } } 0x1A0 0x09 0 1))

/-- Abort and Asynchronous Event Request (R94, R97, R101, Table 3.6): an Abort beyond the limit is refused; a command
no tag holds leaves Dword 0 bit 0 at 1; a held one ends by its stage; the Abort's own completion is posted after. A
request is kept until an event is there for it, and intake may fall idle then. Features of intake (R72, R93, R56): the
burst and the three weights, counted from 1, the coalescing threshold and time, the enabled notices; each completes
with success and changes only its instance's setting. An aggregation time that runs out signals the queue. -/
def Obligations.IntakeFeatureRows : Prop :=
  (∀ (i cid sq target : Nat) (s : State), s.takes i cid = true →
    let u := s.taken i cid .abort
    let v := s.taken i cid .aer
    let answer := fun (r : State) (k : Nat) => match r.findTag i 0 cid with
      | some a => r.modTag a fun x => { x with done := some 0, dw0 := k }
      | none => r
    (16 < u.abortsOf i → exec (.abort i cid sq target 0) s = .next (u.adminCqe i cid Status.abortLimit 0)) ∧
    (u.abortsOf i ≤ 16 → u.findTag i sq target = none → exec (.abort i cid sq target 0) s = .next (answer u 1)) ∧
    (∀ t, u.abortsOf i ≤ 16 → u.findTag i sq target = some t → (u.tag t).stage = .staged →
      exec (.abort i cid sq target 0) s = .next (answer ((u.discardDescs t (u.tag t).gen).postTag t Status.abortRequested 0) 0)) ∧
    (∀ t, u.abortsOf i ≤ 16 → u.findTag i sq target = some t → (u.tag t).stage = .posting →
      exec (.abort i cid sq target 0) s = .next (answer u 1)) ∧
    exec (.asynchronousEventRequest i cid) s = .next (
      if 16 ≤ (v.inst i).aers.length then v.adminCqe i cid Status.aerLimit 0
      else ((v.modInst i fun x => { x with aers := x.aers ++ [cid] }).deliverEvent i).idleBegins)) ∧
  (∀ (i cid v cq : Nat) (s : State),
    (s.takes i cid = true → let u := s.taken i cid
      exec (.setFeaturesArbitration i cid v) s = .next ((u.modInst i fun x => { x with
        arbitration := v % 2 ^ 32, creditH := v / 2 ^ 24 % 256 + 1, creditM := v / 2 ^ 16 % 256 + 1, creditL := v / 2 ^ 8 % 256 + 1 }).adminCqe
          i cid 0 0) ∧
      exec (.setFeaturesInterruptCoalescing i cid v) s = .next ((u.modInst i fun x => { x with coalescing := v % 2 ^ 16 }).adminCqe
        i cid 0 0) ∧
      exec (.setFeaturesAsyncEventConfig i cid v) s = .next ((u.modInst i fun x => { x with asyncConfig := v % 2 ^ 32 }).adminCqe
        i cid 0 0)) ∧
    (let q := (s.inst i).cqs.get {} cq
     q.exists_ = true → q.ien = true → 0 < q.unsignalled →
      exec (.interruptCoalescingExpiry i cq) s = .next (
        (s.modInst i fun x => { x with cqs := x.cqs.upd {} cq fun q => { q with unsignalled := 0 } }).interrupt i q.vector)))

/-- The host's I/O rows, with ADMISSION (R43, R78, R115): a command that is staged and meets every condition of Table
3.4, its lookup meeting no false hit, is admitted by its row, at once; the read that waited for a walk slot is
admitted once the oldest walk has given its slot up. -/
def Obligations.IoRowsAdmitted : Prop :=
  (∀ (i q t : Nat) (c : HostCmd) (s : State), s.stagedTag i q c.cid = some t → c.hit = .none_ → s.AdmitReady t →
    ∀ x ∈ [Instr.write i q c, .writeZeroes i q c, .zoneAppend i q c, .read i q c, .datasetManagement i q c, .flush i q c,
      .zoneOpen i q c, .zoneClose i q c, .zoneFinish i q c, .zoneReset i q c, .zoneOffline i q c,
      .setZoneDescriptorExtension i q c, .zoneManagementReceive i q c, .ioManagementSend i q c, .ioManagementReceive i q c,
      .reservationRegister i q c, .reservationAcquire i q c, .reservationRelease i q c, .reservationReport i q c,
      .fixityVerify i q c, .fixityCancel i q c], exec x s = .next ((s.passed t).admitAt t)) ∧
  (∀ (t : Nat) (s : State), s.AdmitReady t → exec (.admission t .none_) s = .next ((s.passed t).admitAt t)) ∧
  (∀ (t : Nat) (s : State),
    let u := match s.sieve.walks with
      | [] => s
      | w :: _ => s.endWalk w.tag
    u.AdmitReady t → u.intake.walkWait = some t → u.sieve.walks.length < 64 →
      exec .walkSlotFreed s = .next ((u.passed t).admitAt t))

/-- A command that fails a check completes with the failing check's status and reaches no admission (R79, R80). -/
def Obligations.FailedCheckCompletes : Prop :=
  (∀ (t st : Nat) (s : State), (s.tag t).stage = .staged → s.intakeOn = true → s.admits (s.tag t).inst = true →
    s.higherWaits (s.tag t).cls = false → s.lookupWaits (s.tag t).cmd (s.tag t).checked = false →
    s.commandCheck t = some st → s.placementOk (s.tag t).cmd = true →
    exec (.admission t .none_) s = .next (s.postTag t st 0)) ∧
  (∀ (t st : Nat) (s : State), (s.tag t).stage = .staged → s.intakeOn = true → s.admits (s.tag t).inst = true →
    s.higherWaits (s.tag t).cls = false → s.lookupWaits (s.tag t).cmd (s.tag t).checked = false →
    s.commandCheck t = none → (s.ns (s.tag t).cmd.nsid).closing = false →
    (0 < (s.inst (s.tag t).inst).deficit ∨ (s.tag t).cls ≠ .b) → (s.passed t).sieveStep t = none →
    (s.passed t).heldAt t = 0 → (s.passed t).pointCheck (s.tag t).cmd = some st →
    exec (.admission t .none_) s = .next ((s.passed t).postTag t st 0))

/-- Fetch (R73; Table 3.4, steps 1 and 2): the head moves on by one, one completion slot is reserved, the command
waits in its tag, a repeated identifier marked, and no other tag changes. -/
def Obligations.FetchStagesCommand : Prop :=
  ∀ (i q t : Nat) (c : HostCmd) (s : State), s.canFetch i q = true → s.freeTag (classOf i q) = some t →
    let sq := (s.inst i).sqs.get {} q
    ∃ u, exec (.commandFetch i q c) s = .next u ∧
      (u.tag t).stage = .staged ∧ (u.tag t).inst = i ∧ (u.tag t).sq = q ∧ (u.tag t).cq = sq.cq ∧
      (u.tag t).cmd = { c with fieldsOk := c.fieldsOk && !(s.cidInFlight i q c.cid) } ∧ (u.tag t).gen = (s.tag t).gen ∧
      (∀ k, k ≠ t → u.tag k = s.tag k) ∧ (i, q) ∉ u.intake.notices ∧
      ((u.inst i).sqs.get {} q).head = (sq.head + 1) % sq.size ∧ ((u.inst i).sqs.get {} q).staged = some t ∧
      ((u.inst i).cqs.get {} sq.cq).reserved = ((s.inst i).cqs.get {} sq.cq).reserved + 1

/-- Reservations (R360, R361) on a command that is admitted: a registration beyond the 64th ends with Invalid Field
and changes none; one within the limit joins the list; an Acquire by a registrant with its key takes a namespace no
one holds; a Release by the holder with the right type frees it. -/
def Obligations.ReservationEffects : Prop :=
  ∀ (i q t : Nat) (c : HostCmd) (s : State), s.stagedTag i q c.cid = some t → c.hit = .none_ → s.AdmitReady t →
    let d := (s.tag t).cmd
    let n := s.ns d.nsid
    let h := (s.inst (s.tag t).inst).hostId
    n.exists_ = true →
    (d.opc = .resRegister → d.args.getD 0 0 = 0 → (∀ r ∈ n.registrants, r.host ≠ h) → ∃ u,
      exec (.reservationRegister i q c) s = .next u ∧ (u.ns d.nsid).holder = n.holder ∧
      (if 64 ≤ n.registrants.length then (u.ns d.nsid).registrants = n.registrants ∧ (u.tag t).done = some Status.invalidField
       else (u.ns d.nsid).registrants = n.registrants ++ [{ host := h, key := d.args.getD 4 0 }] ∧ (u.tag t).done = some 0)) ∧
    (∀ r, d.opc = .resAcquire → d.args.getD 0 0 = 0 → n.holder = none →
      (n.registrants.find? fun r => decide (r.host = h)) = some r → r.key = d.args.getD 3 0 →
      1 ≤ d.args.getD 2 0 → d.args.getD 2 0 ≤ 6 → ∃ u, exec (.reservationAcquire i q c) s = .next u ∧
      (u.ns d.nsid).holder = some (h, d.args.getD 2 0) ∧ (u.ns d.nsid).registrants = n.registrants ∧ (u.tag t).done = some 0) ∧
    (∀ r, d.opc = .resRelease → d.args.getD 0 0 = 0 → n.holder = some (h, d.args.getD 2 0) →
      (n.registrants.find? fun r => decide (r.host = h)) = some r → r.key = d.args.getD 3 0 →
      ∃ u, exec (.reservationRelease i q c) s = .next u ∧
      (u.ns d.nsid).holder = none ∧ (u.ns d.nsid).registrants = n.registrants ∧ (u.tag t).done = some 0)

/-- Data and completions (R86, R88, R91, R217): data enters a write or, with a failed check of its protection
information, ends it; a finished read sends its blocks; a write posts, and with it the completions of its zone that it
held up; a Flush posts once every write before it has; durable zeros become the map's. -/
def Obligations.DataAndCompletion : Prop :=
  (∀ (t pi : Nat) (s : State), (s.tag t).waitsData = true → s.mayTransfer t = true →
    let r := s.tag t
    let n := s.ns r.cmd.nsid
    let st := if n.pi.kind = 0 ∨ r.cmd.pract = true then 0
      else if pi = 0 then s.writeStatus r.cmd (List.range r.cmd.nlb)
      else if pi = 1 then 0x282 else if pi = 2 then 0x283 else 0x284
    exec (.writeDataInFarHamper t pi) s =
      .next (if st = 0 then s.dataAllIn t else (s.failWrite r.seq (holeReason st)).postTag t st 0)) ∧
  (∀ (t k : Nat) (row : RowRef) (e : Expo) (s : State), (s.tag t).waitsData = true → s.mayTransfer t = true →
    k < (s.tag t).cmd.nlb → s.arrivalStatus (s.tag t).cmd 0 [k] = 0 →
    let a := s.arrive t k
    let r := a.tag t
    let b := a.modExpo r.seq fun e => { e with pieces := piecesIn r.arrived e.nlb (e.nlb / 64) }
    (b.trail.expos.find? fun e => decide (e.seq = r.seq)) = some e → e.row = some row →
    exec (.hostDataUnitArrival t k 0) s =
      .next (b.driveRow row ((b.rowRec row).endAt.getD (b.zoneAt r.cmd.nsid (r.lba / zoneBlocks)).wp))) ∧
  (∀ (t : Nat) (s : State), s.mayPost t = true → s.ideBlocked = false →
    let r := s.tag t
    (r.cmd.opc = .flush → exec (.completionPost t) s = .next (s.postTag t 0 0)) ∧
    (r.cmd.opc = .read →
      let st := r.done.getD (s.readStatus r)
      let n := s.ns r.cmd.nsid
      let u := if st = 0 then s.reply r.inst r.sq r.cmd.cid (r.sources.map fun x => n.toHost r.cmd (s.sourceData n x)) else s
      exec (.completionPost t) s = .next ((u.endRead t).postTag t st 0)) ∧
    (r.cmd.opc = .write → r.cmd.fwNeed ≠ 0 → r.done = some 0 →
      let u := ((((s.handToWriter r.seq).modExpo r.seq fun e => { e with posted := true }).postTag t 0 r.dw0).sweepExpos)
      let held := (u.intake.tags.filter fun x => x.2.stage = .inFlight && decide (x.2.cmd.nsid = r.cmd.nsid) &&
        x.2.cmd.fwNeed ≠ 0 && decide (x.2.lba / zoneBlocks = r.lba / zoneBlocks) && decide (r.seq < x.2.seq) &&
        x.2.done.isSome).map (·.1)
      exec (.completionPost t) s = .next (held.foldl (fun v _ => held.foldl (fun v k => v.complete k) v) u))) ∧
  (∀ (seq : Nat) (e : Expo) (s : State), (s.trail.expos.filter fun e => decide (e.seq = seq) && !e.failed) = [e] →
    e.zeros = true → e.zerosDurable = true → (∀ k < e.nlb, s.readHolds e.nsid (e.slba + k) seq = false) →
    s.mapWalkWaits seq = false →
    let m := (List.range e.nlb).foldl (fun s k => s.setMap e.nsid (e.slba + k) seq {}) s
    let r := m.releaseUnits (e.left.map (·.unit))
    exec (.mapUpdate seq .none_) s = .next (State.sweepExpos { r with trail := { r.trail with
      expos := r.trail.expos.map fun x => if x.seq = seq ∧ x.slba = e.slba then { x with zeros := false, left := [] } else x } }))

/-- Create (R32, R33, R40, R41, R59, R60, R269): with the set, the format, the handles and the room as the rules ask,
a namespace of the mode in force takes the lowest free NSID: a zoned one its size in zones and the die set's ZCAP, a
conventional one its rows at once; then its global range, its placement rules and its record are made. Delete, Format,
Sanitize, Select (R37, R77, R141, R291, Table 9.2): each takes effect when the namespaces it acts on have no command
in flight, else closes them to new commands and waits; given again it goes on. A crypto erase renews every range's
key; a Clear namespace cannot be crypto-erased. A waiting command goes on when its row is given again (R77): a Delete
once its namespace is idle. -/
def Obligations.NamespaceRows : Prop :=
  (∀ (cid set d size lbaf nsid : Nat) (zoned kpio : Bool) (pi : PiFormat) (handles : List Nat) (s t : State),
    s.takes 0 cid = true → let u := s.taken 0 cid
    let mode := u.createMode kpio
    let ruh := u.cfgOf Cfg.FDP_RUH_COUNT
    let n : Ns := {
      exists_ := true, zoned := zoned, dieSet := d, lbaf := lbaf, pi := pi,
      size := if zoned = true then size * zoneBlocks else size, zcap := if zoned = true then u.zcapIn d else 0, mode := mode,
      handles := if zoned = false ∧ (u.dieSet d).fdp = true then (if handles = [] then [0] else handles) else [] }
    u.namedSet set = some d → formatOk lbaf pi = true → 0 < size →
    (kpio = true → u.zone.nextMode.map kpioAllowed ≠ some false) →
    (zoned = true → u.tooLarge d = false ∧ handles = [] ∧ u.zonesMade d + size ≤ u.zonesOffered d) →
    (zoned = false → u.convBytes + size * 4096 ≤ 2000000000000) →
    handles.length ≤ ruh → (∀ h ∈ handles, h < ruh) → u.freeNsid = some nsid →
    (mode = .xts ∨ mode = .sealed_ → u.glaze.drbgFail = false ∧ u.freeSlot ≠ none) →
    u.rulesAfter + (if zoned = false ∧ (u.dieSet d).fdp = true then max 1 handles.length else 0) ≤ u.ruleRoom →
    (if zoned = true then some (u.modNs nsid fun _ => n)
      else (u.modNs nsid fun _ => n).takeRows nsid d size 0 (size / 65536 + 2)) = some t →
    (zoned = false → t.zonesMade d ≤ t.zonesOffered d) →
    exec (.namespaceManagementCreate 0 cid zoned kpio set size lbaf pi handles) s =
      .next ((((({ t with zone := { t.zone with nextMode := none } } : State).firstRange nsid n.size).addHandles nsid
        n.handles).trailRec (.settings 1 nsid)).adminCqe 0 cid 0 nsid)) ∧
  (∀ (cid nsid lbaf ses config : Nat) (pi : PiFormat) (s : State), s.takes 0 cid = true → let u := s.taken 0 cid
    let all := (u.zone.nss.filter fun n => n.2.exists_).map (·.1)
    ((u.ns nsid).exists_ = true → nsid ≠ 0xFFFFFFFF →
      (u.nsBusy nsid = false → exec (.namespaceManagementDelete 0 cid nsid) s = .next ((u.removeNs nsid).adminCqe 0 cid 0 0)) ∧
      (u.nsBusy nsid = true →
        exec (.namespaceManagementDelete 0 cid nsid) s =
          .next ((u.modNs nsid fun x => { x with closing := true }).keepWaiting 0 cid [0x0D, nsid] [nsid])) ∧
      (formatOk lbaf pi = true → ses ≤ 1 → u.nsBusy nsid = false → exec (.formatNvm 0 cid nsid lbaf pi ses) s =
        .next ((((u.emptyNs nsid).modNs nsid fun x => { x with lbaf := lbaf, pi := pi, closing := false }).trailRec
          (.settings 1 nsid)).adminCqe 0 cid 0 0)) ∧
      (formatOk lbaf pi = true → (u.ns nsid).mode ≠ .clear → (u.ns nsid).mode ≠ .keyPerIo → u.glaze.drbgFail = false →
        u.nsBusy nsid = false → exec (.formatNvm 0 cid nsid lbaf pi 2) s =
        .next ((((((u.emptyNs nsid).rangesIn nsid).foldl (fun t r => t.cryptoErase nsid r) (u.emptyNs nsid)).modNs nsid
          fun x => { x with lbaf := lbaf, pi := pi, closing := false }).trailRec (.settings 1 nsid)).adminCqe 0 cid 0 0))) ∧
    ((∀ n ∈ all, u.nsBusy n = false) → exec (.namespaceManagementDelete 0 cid 0xFFFFFFFF) s =
      .next ((all.foldl (fun t n => t.removeNs n) u).adminCqe 0 cid 0 0)) ∧
    ((∃ n ∈ all, (u.ns n).mode = .clear) → exec (.sanitizeCryptoErase 0 cid) s = .next (u.adminCqe 0 cid Status.invalidField 0)) ∧
    ((∀ n ∈ all, (u.ns n).mode ≠ .clear) → u.glaze.drbgFail = false → (∀ n ∈ all, u.nsBusy n = false) →
      exec (.sanitizeCryptoErase 0 cid) s = .next ((all.foldl (fun t n =>
        (if (t.ns n).mode = .keyPerIo then t else (t.rangesIn n).foldl (fun t r => t.cryptoErase n r) t).modNs n
          fun x => { x with closing := false }) u).adminCqe 0 cid 0 0)) ∧
    (let f := u.formGroups true
     config < 16 → f.planOf config ≠ [] →
      (∀ n ∈ f.zone.nss, n.2.exists_ = true → (n.2.dieSet, (f.dieSet n.2.dieSet).groups) ∈ f.planOf config) →
      exec (.capacityManagementSelect 0 cid config) s =
        .next (((f.formSets config).trailRec (.settings 2 config)).adminCqe 0 cid 0 0))) ∧
  (∀ (cid nsid : Nat) (s : State), s.adminWaits 0 cid [0x0D, nsid] = true → (s.ns nsid).exists_ = true → nsid ≠ 0xFFFFFFFF →
    s.nsBusy nsid = false →
    exec (.namespaceManagementDelete 0 cid nsid) s = .next ((s.removeNs nsid).adminCqe 0 cid 0 0))

/-- Attachment (R368): attached once, to instances that may use the die set; detached when it is attached and no
command of the named instances is in flight, with their changed zone lists of it. -/
def Obligations.AttachmentRows : Prop :=
  ∀ (cid nsid : Nat) (targets : List Nat) (s : State), s.takes 0 cid = true → let u := s.taken 0 cid
    (u.ns nsid).exists_ = true → targets ≠ [] → (∀ i ∈ targets, i ≤ 511) →
    ((∀ i ∈ targets, (u.ns nsid).dieSet ∈ (u.inst i).dieSets ∧ i ∉ (u.ns nsid).attached) →
      exec (.namespaceAttachment 0 cid nsid true targets) s = .next (((u.modNs nsid fun x => { x with
        attached := x.attached ++ targets }).trailRec (.settings 1 nsid)).adminCqe 0 cid 0 0)) ∧
    ((∃ i ∈ targets, (u.ns nsid).dieSet ∉ (u.inst i).dieSets) →
      exec (.namespaceAttachment 0 cid nsid true targets) s = .next (u.adminCqe 0 cid Status.ctrlListInvalid 0)) ∧
    ((∀ i ∈ targets, (u.ns nsid).dieSet ∈ (u.inst i).dieSets) → (∃ i ∈ targets, i ∈ (u.ns nsid).attached) →
      exec (.namespaceAttachment 0 cid nsid true targets) s = .next (u.adminCqe 0 cid Status.nsAlreadyAttached 0)) ∧
    ((∃ i ∈ targets, i ∉ (u.ns nsid).attached) →
      exec (.namespaceAttachment 0 cid nsid false targets) s = .next (u.adminCqe 0 cid Status.nsNotAttached 0)) ∧
    ((∀ i ∈ targets, i ∈ (u.ns nsid).attached) →
      (∀ x ∈ u.intake.tags, x.2.stage = .inFlight → x.2.cmd.nsid = nsid → x.2.inst ∉ targets) →
      ∃ t : State, exec (.namespaceAttachment 0 cid nsid false targets) s = .next ((t.trailRec (.settings 1 nsid)).adminCqe 0 cid 0 0) ∧
        (t.ns nsid).attached = (u.ns nsid).attached.filter (fun i => !(targets.contains i)) ∧
        (∀ m, m ≠ nsid → t.ns m = u.ns m) ∧
        (∀ e ∈ t.zone.changed, e ∈ u.zone.changed ∧ ¬ (e.1 % 2048 = nsid ∧ e.1 / 2048 ∈ targets)) ∧
        t = { u with zone := { u.zone with nss := t.zone.nss, changed := t.zone.changed } })

/-- Zone ages, released rows and changed zones (R45, R52, R55, R56, R131): an active zone that has reached the first
age recommends its finish once, at the second it is finished; a row goes to erase once no read and no program needs
it; a read of the changed zones clears the reader's list alone. -/
def Obligations.ZoneAgesAndRows : Prop :=
  (∀ (nsid z : Nat) (s : State), (s.zoneAt nsid z).st.isActive = true → (s.zoneAt nsid z).fzr = false →
    ∃ t, exec (.zoneFzrAgeReached nsid z) s = .next t ∧ (t.zoneAt nsid z).fzr = true ∧
      (t.zoneAt nsid z).st = (s.zoneAt nsid z).st ∧ (t.zoneAt nsid z).wp = (s.zoneAt nsid z).wp ∧
      s.cfgOf Cfg.ZONE_FZR_AGE * 360000 ≤ (t.zoneAt nsid z).age ∧ t.regs = s.regs ∧ t.flash = s.flash) ∧
  (∀ (nsid z : Nat) (s : State), (s.zoneAt nsid z).st.isActive = false →
    exec (.zoneFzrAgeReached nsid z) s = .next s ∧ exec (.zoneFinishAgeReached nsid z) s = .next s) ∧
  (∀ (nsid z : Nat) (s : State), (s.zoneAt nsid z).st.isActive = true → exec (.zoneFinishAgeReached nsid z) s =
    .next ((s.modZone nsid z fun x => { x with age := max x.age (s.cfgOf Cfg.ZONE_FINISH_AGE * 360000) }).controllerFinish nsid z)) ∧
  (∀ (g r : Nat) (w : RelWait) (s : State), (s.flash.relWaits.find? fun w => decide (w.row = { group := g, row := r })) = some w →
    s.readsBefore w = false → s.programsBefore w.row = false → s.scanning w.row = false → s.sieve.walks.length < 64 →
      ∃ t k, exec (.zoneRowRelease g r) s = .next t ∧ w.row ∈ t.flash.releasing ∧
        t.trail.half.head? = some (.rowRelease g r k)) ∧
  (∀ (i cid nsid : Nat) (s : State), s.takes i cid = true → let u := s.taken i cid
    (u.ns nsid).exists_ = true → i ∈ (u.ns nsid).attached →
    let k := i * 2048 + nsid
    let c := u.zone.changed.get {} k
    let v : State := { u with zone := { u.zone with changed := u.zone.changed.set {} k {} } }
    exec (.getLogChangedZoneList i cid nsid) s = .next (((v.reply i 0 cid
      (if c.overflow = true then [0xFFFF] else c.zones.length :: c.zones.map (· * zoneBlocks))).unmask i Ev.notice).adminCqe i cid 0 0))

/-- Identify and the features of namespaces and NVM Sets (R39, R60, R61, R106, R157, R160, R189, R360, R362, R369),
each with its conditions met. -/
def Obligations.NamespaceFeatures : Prop :=
  ∀ (i cid k nsid v : Nat) (b : Bool) (s : State), s.takes i cid = true → let u := s.taken i cid

    (∀ d, u.identifyData i k nsid = some d → exec (.identify i cid k nsid) s = .next ((u.reply i 0 cid d).adminCqe i cid 0 0)) ∧
    (∀ x, u.featureOf i k nsid = some x → exec (.getFeatures i cid k nsid) s = .next (u.adminCqe i cid 0 x)) ∧
    (∀ d, (u.dieSet d).groups ≠ [] → u.controlsSet i d = true →
      (b = true → ∀ k ∈ (u.dieSet d).groups.flatMap fun g => (u.group g).dies, (u.die k).plmOk = true) →
      exec (.setFeaturesPlmConfig i cid d b v) s = .next (((u.leaveWindow d).modDieSet d fun x => { x with
        plm := { x.plm with enabled := b, events := v } }).adminCqe i cid 0 0)) ∧
    (∀ d, (u.dieSet d).groups ≠ [] → u.controlsSet i d = true → (u.dieSet d).plm.enabled = true →
      exec (.setFeaturesPlmWindow i cid d false) s = .next ((u.leaveWindow d).adminCqe i cid 0 0) ∧
      ((u.dieSet d).plm.deterministic = false → (u.dieSet d).plm.entering = none →
        u.ndMinimum d ≤ (u.dieSet d).plm.ndRounds * 10 → exec (.setFeaturesPlmWindow i cid d true) s =
          .next ((u.modDieSet d fun x => { x with plm := { x.plm with entering := some (i, cid) } }).keepWaiting i cid [0x09, d] []))) ∧
    (∀ d, i = 0 → (u.dieSet d).groups ≠ [] → exec (.setFeaturesFdp 0 cid d b) s = .next (
      if ∃ n ∈ u.zone.nss, n.2.exists_ = true ∧ n.2.dieSet = d then u.adminCqe 0 cid Status.sequenceError 0
      else ((u.modDieSet d fun x => { x with fdp := b }).trailRec (.settings 3 d)).adminCqe 0 cid 0 0)) ∧
    ((u.ns nsid).exists_ = true → i ∈ (u.ns nsid).attached →
      ((u.dieSet (u.ns nsid).dieSet).fdp = true → exec (.setFeaturesFdpEvents i cid nsid v) s =
        .next ((u.modDieSet (u.ns nsid).dieSet fun x => { x with fdpEvents := v }).adminCqe i cid 0 0)) ∧
      exec (.setFeaturesReservation i cid 0x82 nsid v) s =
        .next ((u.modInst i fun x => { x with resMask := x.resMask.set 0 nsid v }).adminCqe i cid 0 0) ∧
      exec (.setFeaturesReservation i cid 0x83 nsid v) s =
        .next (((u.modNs nsid fun n => { n with ptpl := decide (v % 2 = 1) }).trailRec (.settings 1 nsid)).adminCqe i cid 0 0)) ∧
    exec (.setFeaturesHostIdentifier i cid v) s = .next ((u.modInst i fun x => { x with hostId := v }).adminCqe i cid 0 0) ∧
    (u.flash.offDone = true →
      exec (.setFeaturesTimestamp i cid v) s = .next (State.adminCqe (State.trailRec { u with
        trail := { u.trail with timestamp := some (v, u.now) }
        boot := { u.boot with record := { u.boot.record with hostTime := if u.boot.record.hostTime = 0 then v else u.boot.record.hostTime } } }
        (.timestamp v)) i cid 0 0))

/-- Virtualization Management (R347, R365; Tables 13.3 and 13.4): queues or vectors assigned to an Offline tenant
within the limits and kept as settings; Online with both assigned; Offline from Held. A tenant that may not be named,
or is in another state, is refused with no change. -/
def Obligations.VirtualizationRows : Prop :=
  ∀ (cid i n : Nat) (s : State), s.takes 0 cid = true → let u := s.taken 0 cid; 1 ≤ i → i ≤ 511 →
    let x := u.inst i
    let pairs := Tab.sum (fun k y => if k ≠ i then y.vq else 0) u.tenant.insts
    let port := Tab.sum (fun k y => if k ≠ 0 ∧ u.portOf k = u.portOf i ∧ k ≠ i then y.vi else 0) u.tenant.insts
    let mgr := if u.portOf i = 0 then u.cfgOf Cfg.PCIE_MGR_VECTORS else 0
    (x.st = .offline →
      exec (.virtMgmtAssign 0 cid i 0 n) s = .next (if 1023 < n ∨ 7680 < pairs + n then u.adminCqe 0 cid Status.invalidResourceCount 0
        else ((u.modInst i fun x => { x with vq := n }).saveInst i).adminCqe 0 cid 0 n) ∧
      exec (.virtMgmtAssign 0 cid i 1 n) s = .next (if n = 0 ∨ 2048 < n ∨ 4096 < port + mgr + n then u.adminCqe 0 cid Status.invalidField 0
        else ((u.modInst i fun x => { x with vi := n }).saveInst i).adminCqe 0 cid 0 n) ∧
      exec (.virtMgmtOnline 0 cid i) s = .next (if x.vq = 0 ∨ x.vi = 0 then u.adminCqe 0 cid Status.invalidResourceCount 0
        else (u.modInst i fun x => { x with st := .online, rdy := x.ccEn }).adminCqe 0 cid 0 0) ∧
      exec (.virtMgmtOffline 0 cid i) s = .next (u.adminCqe 0 cid Status.invalidCtrlState 0)) ∧
    (x.st ≠ .offline →
      exec (.virtMgmtAssign 0 cid i 0 n) s = .next (u.adminCqe 0 cid Status.invalidCtrlState 0) ∧
      exec (.virtMgmtOnline 0 cid i) s = .next (u.adminCqe 0 cid Status.invalidCtrlState 0)) ∧
    (x.st = .held → ∃ t, (u.removeInstance i).2 = t ∧
      exec (.virtMgmtOffline 0 cid i) s = .next (t.adminCqe 0 cid 0 (u.removeInstance i).1))

/-- Quiesce (R21, R365, R377, R378): a Pause takes an Online ready tenant to Pausing (a limit of 0 means 100 ms) and a
Stop starts, each as a global operation that waits while the tree is full, and the command waits for their end. A
Pause ends Paused once the tenant has no commands, completing those that wait; its limit, run out, turns it into a
Stop; a Stop ends once nothing of the tenant is at the NAND. Resume takes Paused to Online, and Held to Online with
CC.EN 0. -/
def Obligations.QuiesceRows : Prop :=
  ∀ (cid i limit : Nat) (s : State),
    (s.takes 0 cid = true → let u := s.taken 0 cid
      u.isTenant i = true →
      ((u.inst i).st = .online → (u.inst i).rdy = true → limit ≤ 10000 →
        (u.treeFull = false → exec (.instanceQuiescePause 0 cid i limit true) s = .next (((u.enterTree (.quiesce i)).modInst i
          fun x => { x with
            st := .pausing
            quiesce := { active := true, kind := 4, limit := if limit = 0 then 100 else limit, tZero := u.now,
                         waiters := [(0, cid)] } }).keepWaiting 0 cid [0xC1] [])) ∧
        (u.treeFull = true → exec (.instanceQuiescePause 0 cid i limit true) s =
          .next ((u.stall (.pause i limit cid)).keepWaiting 0 cid [0xC1] []))) ∧
      ((u.inst i).st = .online → exec (.instanceQuiesceStop 0 cid i true) s =
        .next ((if u.treeFull = true then u.stall (.stop i 1 true (some (0, cid)))
          else (u.enterTree (.quiesce i)).startStop i 1 true (some (0, cid))).keepWaiting 0 cid [0xC1] [])) ∧
      ((u.inst i).st = .pausing → exec (.instanceQuiesceStop 0 cid i true) s =
        .next ((u.startStop i 1 true (some (0, cid))).keepWaiting 0 cid [0xC1] [])) ∧
      ((u.inst i).st = .held → exec (.instanceQuiesceStop 0 cid i true) s = .next (u.adminCqe 0 cid 0 0)) ∧
      ((u.inst i).st = .offline ∨ (u.inst i).st = .stopping →
        exec (.instanceQuiesceStop 0 cid i true) s = .next (u.adminCqe 0 cid Status.sequenceError 0)) ∧
      ((u.inst i).st = .paused → exec (.instanceQuiesceResume 0 cid i true) s =
        .next ((u.modInst i fun x => { x with st := .online }).adminCqe 0 cid 0 0)) ∧
      ((u.inst i).st = .held → exec (.instanceQuiesceResume 0 cid i true) s =
        .next ((u.modInst i fun x => { x with st := .online, ccEn := false, rdy := false }).adminCqe 0 cid 0 0)) ∧
      (10000 < limit → exec (.instanceQuiescePause 0 cid i limit true) s = .next (u.adminCqe 0 cid Status.invalidField 0))) ∧
    ((s.inst i).st = .pausing →
      (s.hasCommands i = false → exec (.pauseDrainComplete i) s = .next ((s.inst i).quiesce.waiters.foldl
        (fun s w => s.adminCqe 0 w.2 w.1 0) ((s.modInst i fun x => { x with st := .paused, quiesce := {} }).leaveTree
          fun o => decide (o = .quiesce i)))) ∧
      (s.hasCommands i = true → exec (.pauseDrainComplete i) s = .next s) ∧
      ((s.inst i).quiesce.tZero + (s.inst i).quiesce.limit * 100000 ≤ s.now →
        exec (.pauseLimitExpiry i) s = .next (s.startStop i 4 true none)) ∧
      (s.now < (s.inst i).quiesce.tZero + (s.inst i).quiesce.limit * 100000 → exec (.pauseLimitExpiry i) s = .next s)) ∧
    ((s.inst i).st = .stopping → exec (.stopDrainComplete i) s = .next (if s.atNand i = true then s else s.endStop i))

/-- CC.EN, CC.SHN and function resets (R253, R345, R365 to R367, Table 15.7): enabling builds the admin queues and
raises RDY for an Online instance of a ready part, and lets intake fetch again after instance 0's normal shutdown has
completed; disabling is a Stop; a tenant's shutdown is complete once it has no commands; a reset of a virtual function
stops that one, or resets a Held one at once with its configuration space, and waits in PS3 and PS4 for the exit it
starts. Resources and state records (R370, R371, R390, R392): a record whose selected fields are in range is set at
once and kept; Get returns the record; a Save of a Paused tenant returns the bytes of its record and changes nothing
in it; a Restore leaves the tenant Paused, enabled and ready, with the record's features. -/
def Obligations.InstanceControlRows : Prop :=
  (∀ (i : Nat) (a c : QMem) (wrr : Bool) (s : State),
    let enabled := fun (s : State) => s.modInst i fun x => { x with
      ccEn := true, wrr := wrr, ccShn := 0, shst := 0, rdy := s.boot.phase = .ready
      sqs := x.sqs.set {} 0 { exists_ := true, size := a.size, base := a.base }
      cqs := x.cqs.set {} 0 { exists_ := true, size := c.size, base := c.base } }
    (2 ≤ a.size → a.size ≤ 4096 → 2 ≤ c.size → c.size ≤ 4096 → (s.inst i).ccEn = false → (s.inst i).st = .online →
      ((s.inst i).shst = 0 → exec (.controllerEnable i a c wrr) s = .next (enabled s)) ∧
      ((s.inst i).shst = 2 → s.boot.shut = none → s.boot.phase = .ready → s.trail.dumpMode = false → s.boot.pwrdis = false →
        exec (.controllerEnable i a c wrr) s =
          .next (enabled (if i = 0 then { s with intake := { s.intake with stopped := false } } else s)))) ∧
    ((s.inst i).ccEn = true →
      exec (.controllerEnable i a c wrr) s = .next s ∧
      ((s.inst i).st = .online → exec (.controllerDisable i) s = .next (s.beginStop i 3 false none)) ∧
      (i ≠ 0 → (s.inst i).shst ≠ 2 →
        exec (.tenantShutdown i) s = .next (s.modInst i fun x =>
          { x with ccShn := 1, shst := if s.hasCommands i = true then 1 else 2 }))) ∧
    (s.power.ps < 3 → s.isPf i = false →
      ((s.inst i).st = .offline → exec (.functionLevelReset i) s = .next s) ∧
      ((s.inst i).st = .online → exec (.functionLevelReset i) s = .next (s.beginStop i 2 false none)) ∧
      ((s.inst i).st = .held → ∃ u, exec (.functionLevelReset i) s = .next u ∧ (u.inst i).st = .held ∧
        (u.inst i).sqs = [] ∧ (u.inst i).vq = (s.inst i).vq ∧ (u.inst i).busMaster = false ∧ (u.inst i).msixMasked = [] ∧
        u.pcie.funcs = s.pcie.funcs.set {} i {} ∧ (∀ k, k ≠ i → u.inst k = s.inst k) ∧ u.regs = s.regs)) ∧
    (3 ≤ s.power.ps → ∀ u, s.wake 1 = u → 3 ≤ u.power.ps → exec (.functionLevelReset i) s =
      .next { u with power := { u.power with held := u.power.held ++ [(i, none)] } })) ∧
  (∀ (cid i size : Nat) (r : ResRec) (q : InstRec) (s : State), s.takes 0 cid = true → let u := s.taken 0 cid
    (1 ≤ i → i ≤ 511 → u.resOk i r = true → u.dieSetHeld i r = false →
      exec (.instanceResourcesSet 0 cid i r true) s = .next ((u.applyRes i r).adminCqe 0 cid 0 0)) ∧
    (1 ≤ i → i ≤ 511 → u.resOk i r = true → u.dieSetHeld i r = true →
      exec (.instanceResourcesSet 0 cid i r true) s = .next (u.adminCqe 0 cid Status.sequenceError 0)) ∧
    (1 ≤ i → i ≤ 511 → u.resOk i r = false →
      exec (.instanceResourcesSet 0 cid i r true) s = .next (u.adminCqe 0 cid Status.invalidField 0)) ∧
    (i ≤ 511 →
      exec (.instanceResourcesGet 0 cid i) s = .next ((u.reply 0 0 cid (u.resourceBytes i)).adminCqe 0 cid 0 0)) ∧
    (u.isTenant i = true →
      ((u.inst i).st = .paused → let b := (u.recordOf i).size
        exec (.instanceStateSave 0 cid i size) s = .next (if size < b then u.adminCqe 0 cid Status.invalidField b
          else (u.reply 0 0 cid (u.recordOf i).bytes).adminCqe 0 cid 0 b)) ∧
      ((u.inst i).st ≠ .paused → exec (.instanceStateSave 0 cid i size) s = .next (u.adminCqe 0 cid Status.sequenceError 0)) ∧
      ((u.inst i).st = .held → u.recordFits i q = true → ∃ t : State, exec (.instanceStateRestore 0 cid i q) s = .next (t.adminCqe 0 cid 0 0) ∧
        (t.inst i).st = .paused ∧ (t.inst i).rdy = true ∧ (t.inst i).arbitration = q.arbitration ∧ (t.inst i).hostId = q.hostId ∧
        (t.inst i).aers = q.aers ∧ (t.inst i).vq = (u.inst i).vq ∧ (t.inst i).sieveQuota = (u.inst i).sieveQuota ∧
        t.glaze = u.glaze ∧ t.regs = u.regs) ∧
      ((u.inst i).st = .held → u.recordFits i q = false →
        exec (.instanceStateRestore 0 cid i q) s = .next (u.adminCqe 0 cid Status.invalidField 0))))

/-- Mailboxes (R374, R376): a doorbell with a message delivers it and makes its sender busy; one while busy only sets
ERR; an acknowledgment frees the sender's buffer with its status. The manager's rows act while the block's domain is
on. -/
def Obligations.MailboxRows : Prop :=
  (∀ (i : Nat) (s : State), i ≠ 0 → (s.inst i).st = .online →
    ((s.inst i).mbxT.refused = true → exec (.mbxTDoorbell i) s =
      .next (s.modInst i fun x => { x with mbxT := { x.mbxT with err := true } })) ∧
    ((s.inst i).mbxT.refused = false → s.reg Reg.MBX_MGR_CTRL_IEN = 0 → exec (.mbxTDoorbell i) s =
      .next (s.modInst i fun x => { x with
        mbxT := { x.mbxT with outBusy := true }
        mbxM := { x.mbxM with inFull := true, inMsg := deliverWords x.mbxT.out x.mbxM.inMsg x.mbxT.length i } }))) ∧
  (∀ (i seq st : Nat) (s : State), (s.inst i).mbxT.inFull = true → s.reg Reg.MBX_MGR_CTRL_IEN = 0 →
    exec (.mbxTAck i seq st) s = .next (s.modInst i fun x => { x with
      mbxT := { x.mbxT with inFull := false }
      mbxM := { x.mbxM with outBusy := false, ackStatus := st % 65536, ackSeq := seq % 65536 } })) ∧
  (∀ (i seq st : Nat) (s : State), s.domainOff 81 = false → s.reg Reg.MBX_INST_SEL_INST = i → i ≠ 0 → (s.inst i).mbxIen = false →
    ((s.inst i).mbxM.refused = true → exec .mbxInstDoorbell s =
      .next (s.modInst i fun x => { x with mbxM := { x.mbxM with err := true } })) ∧
    ((s.inst i).mbxM.refused = false → exec .mbxInstDoorbell s =
      .next (s.modInst i fun x => { x with
        mbxM := { x.mbxM with outBusy := true }
        mbxT := { x.mbxT with inFull := true, inMsg := deliverWords x.mbxM.out x.mbxT.inMsg x.mbxM.length 0 } })) ∧
    ((s.inst i).mbxM.inFull = false → exec (.mbxInstAck seq st) s = .next s) ∧
    ((s.inst i).mbxM.inFull = true → exec (.mbxInstAck seq st) s = .next ((s.modInst i fun x => { x with
      mbxM := { x.mbxM with inFull := false }
      mbxT := { x.mbxT with outBusy := false, ackStatus := st % 65536, ackSeq := seq % 65536 } }).signalTenant i))) ∧
  (∀ (seq st : Nat) (s : State), s.domainOff 81 = false → s.reg Reg.MBX_INST_SEL_INST = 0 →
    exec .mbxInstDoorbell s = .next s ∧ exec (.mbxInstAck seq st) s = .next s)

/-- Dirty-page logs, harvests, report ring (R383, R385, R387, R388): sixteen logs at most, each taking its staged
window; disabling writes the cache back; a harvest writes the old bitmap's cache back, switches the active bitmap and
waits for a fence; its end clears the wait; a ring size that is a multiple of 64 empties the ring. -/
def Obligations.MigrationRows : Prop :=
  ∀ (i size : Nat) (s : State), s.domainOff 81 = false →
    (s.reg Reg.MIG_SEL_INST = i → i ≠ 0 →
      ((s.inst i).dirty.enabled = false → exec .dirtyLogEnable s = .next (
        if 16 ≤ Tab.count (fun _ x => x.dirty.enabled) s.tenant.insts then
          s.modInst i fun x => { x with dirty := { x.dirty with refused := true } }
        else s.modInst i fun x => { x with dirty := { x.dirty with
          enabled := true, activeB := false, cache := [], written := [], windowBase := x.dirty.newBase
          windowPages := x.dirty.newPages, logA := x.dirty.newA, logB := x.dirty.newB } })) ∧
      ((s.inst i).dirty.enabled = true → exec .dirtyLogDisable s =
        .next ((s.writeCache i).modInst i fun x => { x with dirty := { x.dirty with enabled := false, written := [] } }))) ∧
    ((s.inst i).dirty.enabled = true → (s.inst i).dirty.harvestBusy = false →
      ∃ t, exec (.harvest i) s = .next t ∧ (t.inst i).dirty.activeB = !(s.inst i).dirty.activeB ∧
        (t.inst i).dirty.cache = [] ∧ (t.inst i).dirty.harvestBusy = true ∧ (t.inst i).dirty.harvestFence = (s.fport 1).nextId ∧
        (∀ k, k ≠ i → t.inst k = s.inst k) ∧ t.regs = s.regs ∧ t.flash = s.flash) ∧
    ((s.inst i).dirty.harvestBusy = true →
      ((∀ f ∈ (s.fport 1).out, f.id ≠ (s.inst i).dirty.harvestFence) → exec (.harvestComplete i) s =
        .next (s.modInst i fun x => { x with dirty := { x.dirty with harvestBusy := false } })) ∧
      (∀ f, (s.fport 1).out.find? (fun f => decide (f.id = (s.inst i).dirty.harvestFence)) = some f →
        s.fenceReady f = false → exec (.harvestComplete i) s = .next s)) ∧
    exec (.reportRingSizeWrite size) s = .next (if size % 64 ≠ 0 ∨ 2 ^ 32 ≤ size then s
      else { s with tenant := { s.tenant with rptBase := s.tenant.rptNewBase, rptSize := size, rptHead := 0, rptTail := 0 } })

/-- Log pages (R56, R474, R475; Table 17.10): a page the part holds is returned and its event type unmasked; Archive
pages are given to those who may read them; a Persistent Event Log context is established once, read within and
released, its page the newest events that fit; host telemetry captures a copy only when told to, and the controller's
copy is given out once. -/
def Obligations.LogPageRows : Prop :=
  ∀ (i cid page lsi : Nat) (s : State), s.takes i cid = true → let u := s.taken i cid
    (∀ l, page ∉ pagesWithRows → u.logPage i page lsi = some l →
      let t := (u.afterLog i page lsi).reply i 0 cid l
      exec (.getLogPage i cid page lsi) s = .next (State.adminCqe (match pageEvent page with
        | some e => t.unmask i e
        | none => t) i cid 0 0)) ∧
    exec (.getLogSmartHealth i cid) s = .next (((u.reply i 0 cid (u.smartPage i)).unmask i Ev.smart).adminCqe i cid 0 0) ∧
    exec (.getLogArchive i cid lsi) s = .next (if u.archiveOk i lsi = true then
      (u.reply i 0 cid (u.archivePage lsi)).adminCqe i cid 0 0 else u.adminCqe i cid Status.invalidField 0) ∧
    (let put := fun c => { u with klog := { u.klog with pelContexts := u.klog.pelContexts.set none i c } }
     (u.klog.pelContexts.get none i = none →
      exec (.getLogPersistentEvent i cid 0) s = .next (u.adminCqe i cid Status.sequenceError 0) ∧
      exec (.getLogPersistentEvent i cid 1) s =
        .next (((put (some u.pelRecords)).reply i 0 cid (pelPage u.pelRecords)).adminCqe i cid 0 0)) ∧
     (∀ l, u.klog.pelContexts.get none i = some l →
      exec (.getLogPersistentEvent i cid 0) s = .next ((u.reply i 0 cid (pelPage l)).adminCqe i cid 0 0) ∧
      exec (.getLogPersistentEvent i cid 1) s = .next (u.adminCqe i cid Status.sequenceError 0) ∧
      exec (.getLogPersistentEvent i cid 2) s = .next ((put none).adminCqe i cid 0 0))) ∧
    (let v := { u with klog := { u.klog with teleHost := some u.telemetry } }
     exec (.getLogTelemetryHost i cid true) s =
       .next ((v.reply i 0 cid (v.telemetryPage u.telemetry)).adminCqe i cid 0 0)) ∧
    (∀ c, u.klog.teleHost = some c → exec (.getLogTelemetryHost i cid false) s =
      .next ((u.reply i 0 cid (u.telemetryPage c)).adminCqe i cid 0 0)) ∧
    (∀ c, u.klog.teleCtrl = some c → ∃ t : State,
      exec (.getLogTelemetryController i cid) s = .next ((t.unmask i Ev.notice).adminCqe i cid 0 0) ∧
      t.klog.teleCtrl = none ∧ t.klog.teleAvail = false ∧ t.klog.ring = u.klog.ring ∧ t.regs = u.regs ∧
      t.out = (u.reply i 0 cid (u.telemetryPage c)).out)

/-- The Sieve's match rule (R110): an entry matches exactly when it is valid, shares an LBA with the range, has one of
the lookup's scopes, a PRIO in its bounds, and its payload agrees with the value under the mask. A lookup with no
payload qualifier has mask 0; the access lookup's mask is 1FFh, the instance field, and it takes the first of its
matches. -/
def Obligations.SieveMatchRule : Prop :=
  ∀ (s : State) (a b pmin pmax : Nat) (scopes : List Nat),
    let hit := fun (mask value : Nat) (x : Nat × Ent) => x.2.valid = true ∧ x.2.lo ≤ b ∧ a ≤ x.2.hi ∧ x.2.scope ∈ scopes ∧
      pmin ≤ x.2.prio ∧ x.2.prio ≤ pmax ∧ x.2.payload &&& mask = value &&& mask
    (∀ x, x ∈ s.matches_ a b scopes pmin pmax ↔ x ∈ s.sieve.ents ∧ hit 0 0 x) ∧
    ∀ inst, inst < 512 → ∃ l : List (Nat × Ent), s.firstFor inst a b scopes pmin pmax = (bestMatch l).map (·.2) ∧
      l.Sublist s.sieve.ents ∧ ∀ x, x ∈ l ↔ x ∈ s.sieve.ents ∧ hit 0x1FF inst x

/-- The first match has the lowest PRIO and among those the lowest position (R111): no other match has a lower PRIO,
and none of the same PRIO stands before it in position order. -/
def Obligations.FirstMatchRank : Prop :=
  ∀ (l : List (Nat × Ent)) (x : Nat × Ent), l.Pairwise (fun a b => a.1 < b.1) → bestMatch l = some x →
    x ∈ l ∧ ∀ y ∈ l, x.2.prio < y.2.prio ∨ (x.2.prio = y.2.prio ∧ x.1 ≤ y.1)

/-- Rule changes (R108, R120, R121): a manager's insertion that its fields refuse, or that finds the region full,
answers 1 and changes nothing; an accepted change waits in the queue, with its record, and a removal at the head of
the queue takes effect at once; with 32 queued nothing happens; at its shift's end an insertion takes effect, and the
change answers 0. Scrub, shadow repair, diagnostics (R124, R125, R134): a scrub step without a mismatch only moves the
position on; one that the repair ends is counted and a Notice; a repaired shadow's position returns results again and
is Degraded; a capture of the cells shows the entry's bits and zero check bits. -/
def Obligations.SieveChangeRows : Prop :=
  (∀ (pos lo hi sc pr pl : Nat) (s : State),
    let e : Ent := { lo := lo, hi := hi, scope := sc, prio := pr, payload := pl, valid := true }
    let ins : RuleChange := { op := .insert, pos := pos, ent := e, access := true }
    let rem : RuleChange := { op := .remove, pos := pos }
    (s.entryRefused e true = true →
      exec (.sieveRuleInsert pos lo hi sc pr pl true false) s = .next (s.emit (.reply Port.engine [pos, 1]))) ∧
    (s.entryRefused e true = false → s.sieve.shifts.length < 32 →
      (s.ruleRoom ≤ s.rulesAfter →
        exec (.sieveRuleInsert pos lo hi sc pr pl true false) s = .next (s.emit (.reply Port.engine [pos, 1]))) ∧
      (s.rulesAfter < s.ruleRoom → ∃ t, exec (.sieveRuleInsert pos lo hi sc pr pl true false) s = .next t ∧
        t.sieve.shifts = s.sieve.shifts ++ [ins] ∧ t.sieve.ents = s.sieve.ents ∧
        t.trail.half = .rule ins :: s.trail.half ∧ t.out = s.out ∧ t.zone = s.zone)) ∧
    (s.sieve.shifts.length < 32 → pos < s.rulesAfter →
      (s.sieve.shifts ≠ [] → ∃ t, exec (.sieveRuleRemove pos) s = .next t ∧
        t.sieve.shifts = s.sieve.shifts ++ [rem] ∧ t.sieve.ents = s.sieve.ents ∧
        t.trail.half = .rule rem :: s.trail.half ∧ t.out = s.out ∧ t.zone = s.zone) ∧
      (s.sieve.shifts = [] → exec (.sieveRuleRemove pos) s = .next
        ((({ s with sieve := { s.sieve with shifts := [rem] } } : State).trailRec (.rule rem)).setRules (s.rules.eraseIdx pos)))) ∧
    (32 ≤ s.sieve.shifts.length → exec (.sieveRuleRemove pos) s = .next s) ∧
    (s.sieve.shifts.length < 32 → s.rulesAfter ≤ pos →
      exec (.sieveRuleRemove pos) s = .next (s.emit (.reply Port.engine [pos, 1]))) ∧
    (∀ c rest, s.sieve.shifts = c :: rest →
      let v := if c.op = .insert then s.setRules (s.rules.insertIdx (min c.pos s.rules.length) c.ent) else s
      let w := ({ v with sieve := { v.sieve with shifts := rest } } : State).emit (.reply Port.engine [c.pos, 0])
      exec .sieveShiftComplete s = .next (w.startShift (rest.length + 1)) ∧
      (rest = [] → exec .sieveShiftComplete s = .next w))) ∧
  (∀ (pos : Nat) (s : State),
    let p := s.sieve.scrubPos
    let q := { s with sieve := { s.sieve with scrubPos := (p + 1) % 65536 } }
    exec (.sieveScrubStep 0) s = .next q ∧
    exec (.sieveScrubStep 1) s = .next (((q.bump Reg.SIEVE_SCRUB_COUNT_COUNT).report 0x1A1 0x13 p 0).sieveFault p 3) ∧
    exec (.sieveScrubStep 2) s = .next ((((((q.bump Reg.SIEVE_SCRUB_COUNT_COUNT).report 0x1A1 0x13 p 0).sieveFault p 2).retirePos p)).report
      0x1A1 0x11 p 1) ∧
    (let r := { s with sieve := { s.sieve with unverified := s.sieve.unverified.filter (· ≠ pos) } }
     exec (.sieveShadowRewriteDone pos) s = .next ((r.sieveFault pos 4).report 0x1A1 0x12 pos 1)) ∧
    (s.domainOff 85 = false → s.tablesCanonical = true → ∃ t, exec (.sieveDiagCapture pos 0) s = .next t ∧
      t.reg Reg.SIEVE_DIAG_POS_POS = pos % 65536 ∧ t.reg Reg.SIEVE_DIAG_POS_READY = 1 ∧
      t.reg Reg.SIEVE_DIAG_DATA0_ENTRY = (s.ent (pos % 65536)).word % 2 ^ 32 ∧
      t.reg Reg.SIEVE_DIAG_DATA4_ENTRY = (s.ent (pos % 65536)).word / 2 ^ 128 % 2 ^ 17 ∧
      t.sieve.ents = s.sieve.ents ∧ t.freeCtr = s.freeCtr ∧ t.zone = s.zone))

/-- What the die scheduler starts (R142, R149 to R151, R154, R163): an invalid name is refused with code 8, Severe;
with no operation that may start nothing happens; one that the block state table allows is issued, after a transient
refusal where the entry rewritten from its SECDED copy passes; a read refused again, or a program, is Severe and takes
its lasting course; an operation at a die out of service is refused with code 6; behind a closed gate a program or
erase is held and counted with code 7. -/
def Obligations.DieScheduler : Prop :=
  ∀ (k g : Nat) (s : State),
    (dieNameOk k = false → exec (.dieOperationIssue k g) s = .next (s.refuse k 8 2)) ∧
    (dieNameOk k = true →
      ((s.nextOp k fun _ => true) = none → exec (.dieOperationIssue k g) s = .next s) ∧
      (∀ o, (s.nextOp k fun _ => true) = some o →
        ((s.die k).retired = true ∨ (s.die k).present = false → exec (.dieOperationIssue k g) s = .next (s.refuseAbsent k o)) ∧
        ((s.die k).retired = false → (s.die k).present = true →
          ((s.gateClosed k = false ∨ o.kind.isRead = true) → s.refusalOf k o = 0 → o.again = false →
            exec (.dieOperationIssue k 0) s = .next (s.issueOp k o) ∧
            (1 ≤ g → o.kind ≠ .erase → exec (.dieOperationIssue k g) s = .next
              ((s.refuse k ((if o.kind.isRead = true then 2 else 0) + min g 2) 0).issueOp k o))) ∧
          ((s.gateClosed k = false ∨ o.kind.isRead = true) → s.refusalOf k o ≠ 0 →
            (o.kind.isRead = true → o.again = true → exec (.dieOperationIssue k g) s =
              .next (((s.dequeue k o).refuse k (s.refusalOf k o) 2 (decide (o.kind = .hostRead))).readRefused o)) ∧
            (o.kind = .erase → exec (.dieOperationIssue k g) s = .next ((s.dequeue k o).refuse k (s.refusalOf k o) 2)) ∧
            (o.kind.isRead = false → o.kind ≠ .erase → exec (.dieOperationIssue k g) s =
              .next ((s.refuse k (s.refusalOf k o) 2).programRefused k o))) ∧
          (s.gateClosed k = true → o.kind.isRead = false →
            ((s.countRefusal k 7).nextOp k fun x => x.kind.isRead) = none →
            exec (.dieOperationIssue k g) s = .next (s.countRefusal k 7)))))

/-- A read leaves the die (R138, R152, R154, R191, Table 5.6): its data-out waits for the channel's bus; with the bus,
a read whose corrected bits are within the threshold leaves the die idle, in the gap or suspended again, is returned
with its corrected-bit count, its path and no warning, and its blocks have arrived; an operation that has waited goes
to the head of its queue. The decode ladder (Table 7.3, R213 to R215): steps 2 and 3 are counted, and step 2 gives the
die the offset sets of the retry steps the read was issued with; a decode at step 4 is a Notice of a transient fault,
a failure there Degraded, with the block suspect and its row queued; step 5 counts a rebuilt codeword. -/
def Obligations.ReadRows : Prop :=
  ((∀ (k tag gen : Nat) (r : ReadReturn) (idx : List Nat) (o : FlashOp) (s : State), (s.die k).short = some o →
    (s.die k).st = .reading →
    let b := s.askBus k true (s.moves k o)
    ((b.chan (channelOf k)).has k = false → exec (.nandReadComplete k r) s = .next b) ∧
    ((b.chan (channelOf k)).has k = true → o.owner = .read tag gen idx → r.cbc ≤ s.reg Reg.FBE_CBC_WARN_THRESH →
      r.cbc ≤ 1023 → r.guardMisses = 0 → o.stage ≤ 1 →
      exec (.nandReadComplete k r) s = .next (State.readArrived (State.emit ((b.leaveBus k).modDie k fun d =>
        { d.goes b.now d.afterShort with short := none }) (.reply Port.engine [k, r.cbc, o.path r.retry, 0])) tag gen idx false))) ∧
  (∀ (k : Nat) (r : ReadReturn) (s : State), (s.die k).short = none → exec (.nandReadComplete k r) s = .next s) ∧
  (∀ (k idx : Nat) (s : State),
    exec (.operationAging k idx true) s = .next (s.modDie k fun d => { d with longQ := ageIn d.longQ idx }) ∧
    exec (.operationAging k idx false) s = .next (s.modDie k fun d => { d with shortQ := ageIn d.shortQ idx }))) ∧
  (∀ (k : Nat) (ok : Bool) (o : FlashOp) (s : State), (s.die k).short = some o → (s.die k).st = .reading →
    let at_ := fun n => s.modDie k fun d => { d with short := some { o with stage := n } }
    let r : RowRef := { group := (s.die k).group, row := o.block }
    let b := s.physBlock k o.plane o.block
    let addr := blockAddress k o.plane b
    (o.stage = 1 → o.retrySteps ≠ 0 → exec (.decodeLadderStep k 2 ok) s =
      .next (((at_ 2).bump Reg.FBE_LDPC_RETRY_COUNT).emit (.reply Port.engine (k :: s.retrySets o)))) ∧
    (o.stage = 1 → o.retrySteps = 0 → exec (.decodeLadderStep k 2 ok) s = .next (at_ 2)) ∧
    (o.stage = 2 → exec (.decodeLadderStep k 3 ok) s = .next ((at_ 3).bump Reg.FBE_LDPC_SOFT_COUNT)) ∧
    (o.stage = 3 → exec (.decodeLadderStep k 4 true) s =
      .next (((at_ 4).bump Reg.FBE_LDPC_TRANSIENT_COUNT).reportTransient (0x88 + bayOf k) 0x26 addr)) ∧
    (o.stage = 3 → ∃ t : State, exec (.decodeLadderStep k 4 false) s =
      .next ((t.setBlock k o.plane (t.physBlock k o.plane o.block) fun b => { b with suspect := true }).queueRow r .early) ∧
      t = ((at_ 4).bump Reg.FBE_LDPC_CONFIRMED_COUNT).report (0x88 + bayOf k) 0x27 addr 1) ∧
    (o.stage = 4 → exec (.decodeLadderStep k 5 ok) s = .next (if ok = true ∧ s.rebuildable r o.wordline k = true then
      (at_ 5).bump Reg.FBE_LDPC_REBUILT_COUNT else at_ 6)) ∧
    (∀ n, n ≠ o.stage + 1 → exec (.decodeLadderStep k n ok) s = .next s))

/-- Programs (R138, R143, R144, R155, R174): a pass or program whose data-in still waits for the bus has not run;
three passes each end in a gap with the reads it may take, the fourth ends the unit, a failed pass fails it; the next
pass starts when no read waits and gate and window let it; a passed parity program covers its wordline. Erases (R144
to R146, R171): a passed erase makes the row's blocks Erased, counts it, and empties the slot; a suspend is granted
below the limit or where no limit governs; a suspended erase goes to Resuming when no short operation waits, and runs
again once the die has resumed. -/
def Obligations.ProgramEraseRows : Prop :=
  (∀ (k u : Nat) (r : RowRef) (o : FlashOp) (s : State),
    let b := s.leaveBus k
    ((s.die k).long = some o → (s.die k).st = .pass →
      ((s.chan (channelOf k)).waitsFor k = true → ∀ ok, exec (.qlcPassComplete k ok) s = .next s) ∧
      ((s.chan (channelOf k)).waitsFor k = false → o.owner = .row r u →
        let idle := b.modDie k fun d => { d.goes b.now .idle with long := none }
        exec (.qlcPassComplete k false) s = .next ((idle.programFailed k r o).gateReport (bayOf k)) ∧
        (o.passes < 3 → exec (.qlcPassComplete k true) s =
          .next (State.gateReport (b.modDie k fun d => { d.goes b.now .gap with
            long := some { o with passes := o.passes + 1 }, gapReads := 0, gapLimit := s.reg Reg.FBE_CFG_GAP_READS }) (bayOf k))) ∧
        (3 ≤ o.passes → exec (.qlcPassComplete k true) s =
          .next (((idle.countUnits k (s.die k).geo.unitBlocks).unitDone r u).gateReport (bayOf k))))) ∧
    ((s.die k).st = .gap → s.gateClosed k = false → s.inWindow k = false →
      ((∀ x ∈ (s.die k).shortQ, x.kind.isRead = false) ∨ (s.die k).gapLimit ≤ (s.die k).gapReads ∨ s.trail.dumpMode = true) →
      exec (.qlcNextPassStart k) s = .next (s.modDie k fun d => d.goes s.now .pass)) ∧
    ((s.die k).st = .gap → (s.gateClosed k = true ∨ s.inWindow k = true) → exec (.qlcNextPassStart k) s = .next s) ∧
    ((s.die k).short = some o → (s.die k).st = .slcProgramming →
      ((s.chan (channelOf k)).waitsFor k = true → ∀ ok, exec (.slcProgramComplete k ok) s = .next s) ∧
      ((s.chan (channelOf k)).waitsFor k = false → o.kind = .parityProgram → o.owner = .row r u →
        let q := b.modDie k fun d => { d.goes b.now d.afterShort with short := none }
        let n := (q.die k).geo.unitBlocks
        let t := (q.takeSeq n).2
        exec (.slcProgramComplete k true) s = .next ((((((t.countUnits k n).setBlocks k (t.opBlocks k o) fun x =>
          if (t.die k).geo.wordlines ≤ x.next ∧ x.st = .open_ then { x with st := .full } else x).wordlineCovered r u).verifyCheck r)).gateReport
            (bayOf k))))) ∧
  ((∀ (b : Block) (w : Nat), b.st ≠ .retired → b.role ≠ 0 → b.slc = false → b.subst = false →
    b.afterErase w = { b with st := .erased, next := 0, qlcErases := b.qlcErases + 1 }) ∧
  ∀ (k : Nat) (o : FlashOp) (s : State), (s.die k).long = some o →
    ((s.die k).st = .erasing →
      (o.phys = [] →
        let t := s.modDie k fun d => { d.goes s.now .idle with long := none, suspCount := 0 }
        exec (.eraseComplete k true) s = .next (State.gateReport (State.rowErased (t.setBlocks k (t.opBlocks k o) fun b =>
          b.afterErase (t.die k).geo.wordlines) { group := (s.die k).group, row := o.block }) (bayOf k))) ∧
      (s.mustSuspend k = true →
        exec (.eraseSuspendRequest k) s = .next (s.modDie k fun d => { d.goes s.now .suspending with forced := true })) ∧
      (s.mustSuspend k = false → (s.die k).shortQ ≠ [] → exec (.eraseSuspendRequest k) s = .next (
        if (s.die k).suspCount < s.reg Reg.FBE_CFG_ERS_SUSP_MAX then
          s.modDie k fun d => { d.goes s.now .suspending with forced := false }
        else s))) ∧
    ((s.die k).st = .suspending →
      let t := s.modDie k fun d => { d.goes s.now .suspended with
        holdPassed := false, suspCount := if d.forced then d.suspCount else d.suspCount + 1 }
      exec (.eraseSuspendComplete k) s = .next (State.gateReport (t.setBlocks k (t.opBlocks k o) fun b =>
        if b.st = .erasing then { b with st := .eraseSuspended } else b) (bayOf k))) ∧
    ((s.die k).st = .suspended → s.mustSuspend k = false → (s.die k).shortQ = [] →
      exec (.eraseResume k false) s = .next (s.modDie k fun d => { d.goes s.now .resuming with holdPassed := false, forced := false })) ∧
    ((s.die k).st = .suspended → (s.die k).shortQ ≠ [] → (s.die k).holdPassed = false →
      exec (.eraseResume k false) s = .next s) ∧
    ((s.die k).st = .resuming →
      let t := s.modDie k fun d => d.goes s.now .erasing
      exec (.eraseResume k false) s = .next (t.setBlocks k (t.opBlocks k o) fun b =>
        if b.st = .eraseSuspended then { b with st := .erasing } else b)))

/-- Channels, windows, Pulse Gate (R140, R160, R161, R163, R164, R250): a failed retrain leaves the channel at 3,600
MT/s, Degraded; a window is entered once no die programs, and its command completes; the longest window ends; a
brown-out on an armed rail closes a Bay's gate once, its reopening opens that Bay's alone. -/
def Obligations.ChannelsAndGates : Prop :=
  (∀ (c t : Nat) (s : State), (s.chan c).rate = 4800 →
    (∀ d ∈ s.flash.dies, d.1 / 4 % 512 = c * 8 + t → d.2.st.atNand = false) →
    let q : State := { s with flash := { s.flash with chans := s.flash.chans.upd {} c fun c => { c with retrains := satAdd 16 c.retrains 1 } } }
    exec (.channelRetrain c t true) s = .next q ∧
    exec (.channelRetrain c t false) s = .next (State.report { q with flash := { q.flash with
      chans := q.flash.chans.upd {} c fun c => { c with rate := 3600, fallback := true } } } c 0x22 c 1)) ∧
  (∀ (set : Nat) (s : State), ((s.dieSet set).plm.entering = none → exec (.deterministicWindowEntered set) s = .next s) ∧
    exec (.dtwinMaxExpiry set) s = .next (s.endWindow set 1) ∧
    (∀ i cid, (s.dieSet set).plm.entering = some (i, cid) →
      (∀ k ∈ s.diesOf set, (s.die k).st = .idle ∧ (s.die k).long = none) →
      ∃ t : State, exec (.deterministicWindowEntered set) s = .next (t.adminCqe i cid 0 0) ∧
        (t.dieSet set).plm.deterministic = true ∧ (t.dieSet set).plm.entering = none ∧
        (t.dieSet set).plm.winSeq = s.intake.seqNext ∧ t.flash = s.flash ∧ t.tenant = s.tenant)) ∧
  (∀ (bay rail : Nat) (s : State),
    (bay < 8 → bay ∉ s.flash.closed → s.armedRails rail ≠ 0 → ∃ t, exec (.brownOutDetect bay rail) s = .next t ∧
      t.flash.closed = s.flash.closed ++ [bay] ∧ t.zone = s.zone ∧ t.tenant = s.tenant) ∧
    (bay ∈ s.flash.closed → exec (.brownOutDetect bay rail) s = .next s ∧
      ∃ t, exec (.pulseGateReopen bay) s = .next t ∧ t.flash.closed = s.flash.closed.erase bay ∧ t.zone = s.zone ∧
        t.tenant = s.tenant ∧ t.out = s.out) ∧
    (s.armedRails rail = 0 → exec (.brownOutDetect bay rail) s = .next s) ∧
    (bay ∉ s.flash.closed → exec (.pulseGateReopen bay) s = .next s))

/-- Verify and Blanket release (R178 to R181, R206, Table 6.5): a codeword passes when it decodes hard, within the
corrected bits allowed, with its tag, trailer and guard as recorded; a row not waiting for verify, or whose reads are
still out, is left alone; a row passes when its worst codeword passes at once, or at its second read, a transient;
else the verify fails: Degraded, the block and the row are suspect, and the row is queued for rewriting. Parity is
released once the row's VERIFIED record is durable, or copied in a die set with Kept Blanket. A die already retired
does not fail again. -/
def Obligations.VerifyAndRelease : Prop :=
  ∀ (g w k p : Nat) (res : VerifyReads) (s : State),
    let r : RowRef := { group := g, row := w }
    let b := s.physBlock k p w
    (∀ x, s.verifyPasses x = true ↔ x.path = 0 ∧ x.cbc ≤ s.cfgOf Cfg.MEDIA_VFY_CBC ∧ x.tagOk = true ∧ x.trailerOk = true ∧ x.guardOk = true) ∧
    (r ∉ s.flash.verifyQ → exec (.verifyComplete g w res k p) s = .next s) ∧
    (s.scanning r = true → exec (.verifyComplete g w res k p) s = .next s) ∧
    (r ∈ s.flash.verifyQ → s.scanning r = false →
      let q : State := { s with flash := { s.flash with verifyQ := s.flash.verifyQ.filter (· ≠ r) } }
      (s.verifyPasses res.first = true → exec (.verifyComplete g w res k p) s = .next (q.verifyPassed r)) ∧
      (s.verifyPasses res.first = false → s.verifyPasses res.second = true → exec (.verifyComplete g w res k p) s =
        .next ((q.reportTransient 0x200 0x28 (blockAddress k p b)).verifyPassed r)) ∧
      (s.verifyPasses res.first = false → s.verifyPasses res.second = false → exec (.verifyComplete g w res k p) s =
        .next (q.verifyFailed r k p)) ∧
      (s.verifyPasses res.first = false → s.verifyPasses res.second = false → s.refireTo r = none → s.relocTo r = none →
        (s.zone.dieSets.all fun d => d.2.keptRows.isEmpty) = true → ∃ u v : State,
        exec (.verifyComplete g w res k p) s = .next ((v.repool r).queueRow r .verify) ∧
        u = q.report 0x200 0x28 (blockAddress k p b) 1 ∧
        v = (u.setBlock k p b fun x => { x with suspect := true, retireDue := x.suspect }).modRow r fun y =>
          { y with suspect := true, verifying := false })) ∧
    (let x := s.rowRec r
     (x.verified = false ∨ x.pool = [] → exec (.blanketRelease g w) s = .next s) ∧
     (x.verified = true → x.pool ≠ [] →
      ((s.dieSet (s.ns x.nsid).dieSet).kept = false → exec (.blanketRelease g w) s = .next (s.releaseParity r).driveWaiting) ∧
      ((s.dieSet (s.ns x.nsid).dieSet).kept = true → x.parity ≠ [] →
        exec (.blanketRelease g w) s = .next (s.startKeep (s.ns x.nsid).dieSet r)))) ∧
    ((s.die k).retired = true → exec (.dieFailure k) s = .next s) ∧
    ((s.die k).retired = false → (s.die k).present = true → (s.die k).inGroup = false →
      exec (.dieFailure k) s = .next (((((s.modDie k fun d => { d with retired := true }).bump Reg.FBE_MM_RETIRED_DIES).report
        0x200 0x23 k 2).replacePool k).returnOps k))

/-- The Firing Index (R187 to R189, R191): each summary adds the acceleration factor at the group's temperature to
every formed group's counter; silence is counted at the last temperature plus 10 °C and not in PS3 or PS4; the off
interval is given up once; a warned page is confirmed or transient. -/
def Obligations.FiringIndexRows : Prop :=
  (∀ (temps : List (Nat × Nat)) (s : State), let c := s.takeCfg .summary fun _ => true
    ∃ u v : State, exec (.nandTemperatureSummary temps) s = .next v ∧
      (∀ g e, (c.group g).formed = true → (temps.find? fun e => decide (e.1 = g)) = some e →
        (u.group g).temp = min e.2 330 ∧
        (u.group g).fi = ((c.group g).fi + af256 (c.cfgOf Cfg.MEDIA_FI_EA) (min e.2 330)) % 2 ^ 64) ∧
      (∀ g, (c.group g).formed = true → (temps.find? fun e => decide (e.1 = g)) = none →
        ((c.group g).dies.all fun k => (c.die k).mean.isNone) = true → (u.group g).temp = (c.group g).temp ∧
        (u.group g).fi = ((c.group g).fi + af256 (c.cfgOf Cfg.MEDIA_FI_EA) (c.group g).temp) % 2 ^ 64) ∧
      u.flash.fiSilent = 0 ∧ u.regs = c.regs ∧ u.zone.nss = c.zone.nss ∧
      (let w : State := (u.zone.nss.flatMap fun n => n.2.zones.filterMap fun z => z.2.row.map fun r => (n.1, z.1, r)).foldl
         (fun s z => s.fiZone z.1 z.2.1 z.2.2) u
       v = ((w.zone.nss.flatMap fun n => if n.2.zoned then [] else n.2.rows) ++
         w.zone.dieSets.flatMap fun d => d.2.keptRows.map (·.row)).foldl (fun s r => s.fiRow r) w)) ∧
  (∀ (n g : Nat) (s : State), s.power.ps < 3 → s.flash.fiSilent = 0 → 5 ≤ n → (s.group g).formed = true →
    ∃ t, exec (.fiSummaryTimeout n) s = .next t ∧ t.flash.fiSilent = n ∧ (t.group g).fi =
      ((s.group g).fi + n * af256 (s.cfgOf Cfg.MEDIA_FI_EA) (min ((s.group g).temp + 20) 330)) % 2 ^ 64) ∧
  (∀ (n : Nat) (s : State), 3 ≤ s.power.ps → exec (.fiSummaryTimeout n) s = .next s) ∧
  (∀ (s : State), exec .timestampWaitExpiry s = .next (if s.flash.offDone = true then s else s.offUnknown)) ∧
  (∀ (n z : Nat) (s : State), (n, z) ∉ s.flash.warned → ∀ w, exec (.earlyWarningConfirm n z w) s = .next s) ∧
  (∀ (n z : Nat) (s : State), (n, z) ∈ s.flash.warned →
    let q : State := { s with flash := { s.flash with warned := s.flash.warned.filter (· ≠ (n, z)) } }
    exec (.earlyWarningConfirm n z false) s = .next (q.bump Reg.FBE_MM_EARLY_TRANSIENT) ∧
    (n ≠ 0 → (s.ns n).zoned = true → exec (.earlyWarningConfirm n z true) s =
      .next ((q.bump Reg.FBE_MM_EARLY_CONFIRMED).queueRefire n z .early)) ∧
    (n = 0 ∨ (s.ns n).zoned = false → exec (.earlyWarningConfirm n z true) s =
      .next ((q.bump Reg.FBE_MM_EARLY_CONFIRMED).queueRow (rowOfKey z) .early)))

/-- Refire (Table 6.9, R190 to R197, R115): with none that may start nothing happens; one that starts leaves the queue
and runs into its target; a target wholly programmed and covered gets its trailers; the switch takes a verified job
once, moves the zone to the target row with its Firing Index stamp and asks for its records; the old row goes once a
walk slot is free and no earlier read needs it; a zone that waited its hour is queued again. -/
def Obligations.RefireSteps : Prop :=
  (∀ (d : Nat) (s : State), (∀ q ∈ (s.dieSet d).queue, s.refireReady d q = false) → exec (.refireStart d) s = .next s) ∧
  (∀ (d p : Nat) (q : RefireReq) (t : RowRef) (s u : State), (s.dieSet d).queue.filter (s.refireReady d) = [q] →
    q.reason = .threshold → q.nsid ≠ 0 → s.placeAmong d (s.targetGroup q) = some t →
    let lo := q.zone * zoneBlocks
    let e : Ent := { lo := lo, hi := lo + zoneBlocks - 1, scope := scopeNs q.nsid, prio := 0x40, payload := 0x8000 + s.flash.nextJob % 32768 }
    s.insertEntry e { seq := s.intake.seqNext, nsid := q.nsid, tag := s.flash.nextJob, supply := 0 } true = (some p, u) →
    ∃ w : State, exec (.refireStart d) s = .next w.driveWaiting ∧ w.flash.nextJob = s.flash.nextJob + 1 ∧
      (w.dieSet d).queue = (s.dieSet d).queue.filter (· ≠ q) ∧
      (∃ x, (w.dieSet d).running = (s.dieSet d).running ++ [x] ∧ x.job = s.flash.nextJob ∧ x.nsid = q.nsid ∧ x.zone = q.zone ∧
        x.target = t ∧ x.entry = some p ∧ x.programmed = false ∧ x.switched = false)) ∧
  (∀ (job d : Nat) (x : Refire) (s : State), s.refireJob job = some (d, x) →
    (x.verified = true → x.switched = false → x.nsid ≠ 0 → (s.ns x.nsid).exists_ = true →
      ∃ t, exec (.refireSwitch job) s = .next t ∧
      (t.zoneAt x.nsid x.zone).row = some x.target ∧ (t.zoneAt x.nsid x.zone).st = (s.zoneAt x.nsid x.zone).st ∧
      (t.zoneAt x.nsid x.zone).fiStamp = (s.rowRec x.target).stamp ∧ t.regs = s.regs ∧ t.tenant = s.tenant) ∧
    (x.verified = true → x.switched = false → x.nsid = 0 → exec (.refireSwitch job) s =
      .next ((s.switchKept d x).modRefire d job fun q => { q with switched := true, seq := s.intake.seqNext })) ∧
    (x.verified = false ∨ x.switched = true → exec (.refireSwitch job) s = .next s) ∧
    (x.switched = false ∨ 64 ≤ s.sieve.walks.length → exec (.refireOldRowRelease job) s = .next s) ∧
    (x.programmed = true → ∀ m l, exec (.refireTargetProgrammed job m l) s = .next s) ∧
    (let hi := x.zone * zoneBlocks + zoneBlocks - 1
     let wait : RelWait := { row := x.old, nsid := x.nsid, lo := x.zone * zoneBlocks, hi := hi, seq := x.seq }
     x.switched = true → s.sieve.walks.length < 64 → s.readsBefore wait = false →
      let a := (((s.releaseParity x.old).releaseRow x.old x.nsid (x.zone * zoneBlocks) hi x.seq).removeEntries x.entry.toList).modDieSet d fun y =>
        { y with running := y.running.filter fun q => q.job ≠ job }
      let b : State := { a with
        sieve := { a.sieve with jobKinds := a.sieve.jobKinds.set (.keptWrite, 0) job (.keptWrite, 0) }
        flash := { a.flash with refireDone := a.flash.refireDone.set x.reason.rank (a.flash.refireDone.getD x.reason.rank 0 + 1) } }
      exec (.refireOldRowRelease job) s =
        .next ((b.bump Reg.FBE_MM_REFIRE_COUNT_DONE).log Code.refire 2 0x203 [x.nsid, x.zone, x.reason.rank]).driveWaiting) ∧
    (x.programmed = false → (∀ u < s.unitsIn x.target, u ∈ (s.rowRec x.target).done) → (s.rowRec x.target).covered = true →
      let done := fun (v : State) (m : Bool) => ((v.queueTrailers x.target true).modRow x.target fun y =>
        { y with issued := 16 * (v.group x.target.group).geo.wordlines }).modRefire d job fun q =>
          { q with programmed := true, mismatch := m }
      exec (.refireTargetProgrammed job none []) s = .next (done s false) ∧
      ∀ l, exec (.refireTargetProgrammed job (some l) []) s =
        .next (done ((s.countMismatch x.nsid).log Code.refire 3 0x203 (x.nsid :: x.zone :: l)) true))) ∧
  (∀ (n z : Nat) (q : RefireReq) (s : State),
    ((s.dieSet (s.reqSet n z)).retryZones.find? fun q => decide (q.nsid = n) && decide (q.zone = z)) = some q →
    exec (.refireRetryTimer n z) s =
      .next ((s.modDieSet (s.reqSet n z) fun x => { x with retryZones := x.retryZones.erase q }).queueRefire n z q.reason))

/-- Relocation (R200 to R203) and the captured block entry (R211): with rows enough nothing starts; a queued full row
is read, copied and its target closed; a switch moves only the units the map still has at the source; a row that
waited its hour is queued again. -/
def Obligations.RelocationSteps : Prop :=
  (∀ (n : Nat) (s : State), let d := (s.ns n).dieSet
    ((s.ns n).zoned = true ∨ s.settling = true → exec (.relocationStart n) s = .next s) ∧
    ((s.ns n).zoned = false → (s.ns n).exists_ = true → (∀ q ∈ (s.dieSet d).convQ, q.1 ≠ n) →
      max 2 (ceilDiv (2 * s.convRowsAll d) 100) ≤ s.convRowsFree d → exec (.relocationStart n) s = .next s) ∧
    (∀ r why, (s.ns n).zoned = false → (s.ns n).exists_ = true → s.settling = false → (s.dieSet d).convQ = [(n, r, why)] →
      (s.dieSet d).relocs = [] → (s.dieSet d).failedRows = [] → s.programmed r = true → s.relTarget n ≠ none →
      let c := s.modDieSet d fun x => { x with convQ := [], failedRows := [] }
      exec (.relocationStart n) s = .next (((c.readSource r).copyUnits n r 0 2 (c.validUnits n r)).endRelRow n))) ∧
  (∀ (job : Nat) (s : State), (∀ d ∈ s.zone.dieSets, ∀ x ∈ d.2.relocs, x.job ≠ job) → exec (.relocationSwitch job) s = .next s) ∧
  (∀ (job d : Nat) (x : DieSet) (y : Reloc) (s : State), s.zone.dieSets = [(d, x)] → x.relocs = [y] → y.job = job → y.verified = true →
    y.switched = false →
    let live := y.units.filter fun u =>
      decide ((s.blkAt y.nsid u.1).row = some y.source) && decide ((s.blkAt y.nsid u.1).seq = u.2.1)
    let m := live.foldl (fun s u => (s.modBlk y.nsid u.1 fun b =>
      { b with row := some y.target, off := u.2.2, pieceLen := 0, pieceIdx := 0 }).trailRec (.convMap y.nsid u.1 1 u.2.1)) s
    let m := (m.removeEntries y.entry.toList).modDieSet d fun z =>
      { z with relocs := z.relocs.map fun q => if q.job = job then { q with switched := true } else q }
    exec (.relocationSwitch job) s = .next (State.releaseSource { m with sieve := { m.sieve with
      jobKinds := m.sieve.jobKinds.set (.keptWrite, 0) job (.keptWrite, 0) } } d y.nsid y.source)) ∧
  (∀ (n g w : Nat) (s : State), let r : RowRef := { group := g, row := w }
    exec (.relocationRetryTimer n g w) s = .next (if (n, r) ∈ (s.dieSet (s.ns n).dieSet).retryRows then
      (s.modDieSet (s.ns n).dieSet fun x => { x with retryRows := x.retryRows.erase (n, r) }).queueReloc n r .rebuild else s)) ∧
  (∀ (k p b : Nat) (s : State), s.domainOff 64 = false → dieNameOk k = true → ∃ t, exec (.fbeMmBlkCapture k p b) s = .next t ∧
    t.flash.blkCaptured = some (s.blockShown k (p % 8) (b % 4096)) ∧ t.flash.blocks = s.flash.blocks ∧ t.zone = s.zone)

/-- Fixity jobs (R229, R231; Tables 7.6 to 7.8): a job reaches its next zone, at most four at once, and reports a zone
that is offline, unwritten or keyless at once, else its reads begin at the job's rate; a finished zone's record says
what the media gave; the log page gives a job to its owner. None starts while a non-operational state is entered.
SECDED and the self-test (R233 to R236, R237, R238): a corrected word is counted, a Notice, and remapped while spare
words are left when its check read fails again; a second uncorrectable read poisons the word, and the Hamper unit that
lies there is lost; a test runs once and sets its figures. -/
def Obligations.IntegrityRows : Prop :=
  ((∀ (j : Nat) (s : State), let x := s.job j
    let z := x.first + x.started
    (x.st ≠ 1 ∨ x.cancelling = true ∨ x.zones ≤ x.started ∨ 4 ≤ x.active.length ∨ s.settling = true → exec (.fixityZoneStart j) s = .next s) ∧
    (x.st = 1 → x.cancelling = false → x.started < x.zones → x.active.length < 4 → s.settling = false →
      (∀ r ∈ (s.dieSet (s.ns x.nsid).dieSet).running, r.nsid = x.nsid → r.zone ≠ z) →
      let t := s.modJob j fun x => { x with started := x.started + 1 }
      exec (.fixityZoneStart j) s = .next (
        if (s.zoneAt x.nsid z).st = .zso then t.fixResult j { zone := z, result := 4 }
        else if (s.zoneAt x.nsid z).st ≠ .zsf ∧ (s.zoneAt x.nsid z).st ≠ .zsro then t.fixResult j { zone := z, result := 3 }
        else if t.zoneKeyless x.nsid z = true then t.fixResult j { zone := z, result := 5 }
        else let u := t.modJob j fun x => { x with active := x.active ++ [z], rate := t.verifyRate }
          match (u.zoneAt x.nsid z).row with
          | some r => u.verifyReads r (bit x.options 1)
          | none => u))) ∧
  (∀ (j z : Nat) (bad : List Nat) (ok : Bool) (s : State), (s.job j).st = 1 → z ∈ (s.job j).active → s.scanning (s.zoneRow (s.job j).nsid z) = false →
    ((s.job j).cancelling = true → exec (.fixityZoneDone j z bad ok) s = .next (s.fixResult j { zone := z, result := 7 })) ∧
    ((s.job j).cancelling = false → (s.zoneAt (s.job j).nsid z).trailer = none →
      exec (.fixityZoneDone j z bad ok) s = .next (s.fixResult j { zone := z, result := 6 })) ∧
    (∀ t, (s.job j).cancelling = false → (s.zoneAt (s.job j).nsid z).trailer = some t →
      let r := s.zoneResult (s.job j) z bad t
      exec (.fixityZoneDone j z bad true) s =
        .next ((if r.result = 1 then s.countMismatch (s.job j).nsid else s).fixResult j r))) ∧
  (∀ (i cid j : Nat) (s : State), s.takes i cid = true → let u := s.taken i cid
    let x := u.job j
    (x.st ≠ 0 → x.owner = i → exec (.getLogFixityJobResult i cid j) s =
      .next (((u.reply i 0 cid (x.page j)).unmask i Ev.vendor).adminCqe i cid 0 0)) ∧
    (x.st = 0 ∨ x.owner ≠ i → exec (.getLogFixityJobResult i cid j) s =
      .next (((u.reply i 0 cid (({} : FixJob).page j)).unmask i Ev.vendor).adminCqe i cid 0 0)))) ∧
  (∀ (g w : Nat) (u : Option Nat) (s : State),
    let c := s.bump Reg.FLT_ECC_CORR_COUNT
    let n := c.report (0x400 + g) 0x30 w 0
    exec (.sramCheckRead g w true) s = .next (c.reportTransient (0x400 + g) 0x30 w) ∧
    exec (.sramCheckRead g w false) s = .next (if (n.macroGroup g).used < 16 then
      (n.modMacro g fun x => { x with used := x.used + 1 }).log Code.retirement 2 (0x400 + g) [g, w]
      else (n.modMacro g fun x => { x with full := true }).report (0x400 + g) 0x32 g 1) ∧
    exec (.sramUncorrectableReread g { word := w, unit := u } true) s = .next (s.reportTransient (0x400 + g) 0x31 w) ∧
    (let p := { s with fixity := { s.fixity with poisoned := s.fixity.poisoned ++ [(g, w)] } }
     let q := (p.bump Reg.FLT_ECC_UNCORR_COUNT).report (0x400 + g) 0x31 w 1
     exec (.sramUncorrectableReread g { word := w, unit := u } false) s = .next (match u with
       | some x => q.unitLost x
       | none => q)) ∧
    exec .eccSelftestRun s = .next { s with fixity := { s.fixity with testBusy := true } } ∧
    (s.fixity.testBusy = false → ∀ f, exec (.eccSelftestDone w f) s = .next s) ∧
    (s.fixity.testBusy = true → let d := { s with fixity := { s.fixity with testBusy := false, testRuns := s.fixity.testRuns + 1 } }
      exec (.eccSelftestDone w []) s = .next ((d.setReg Reg.FLT_ECC_RESULT_TESTED (w % 65536)).setReg Reg.FLT_ECC_RESULT_FAILED 0)))

/-- PWRFAIL_N and the dump (R244, R245, R252, R265, R453; Table 8.5): a low of less than 5 µs is a glitch, counted; a
longer one starts the dump and stops intake, unless the state calls for none; the dump's end leaves its marker, to be
restored; a release outside dump mode only shows the pin high, after a complete dump it resets the controller, in the
Grave state it does not. Shutdowns (R253, R367, Table 15.5): a normal one stops fetching, an abrupt one starts the
dump; a shutdown of another instance touches that instance alone; a normal one is complete once no command is left,
and only then. -/
def Obligations.LossRows : Prop :=
  ((∀ (ns : Nat) (s : State),
    (ns < 5000 → exec (.pwrfailAssert ns) s = .next ((s.bump Reg.PWR_LOSS_STATUS_GLITCHES).report 0x301 0x4E ns 0)) ∧
    (5000 ≤ ns → s.noDump = true → exec (.pwrfailAssert ns) s = .next { s with boot := { s.boot with pwrfailLow := true } }) ∧
    (5000 ≤ ns → s.noDump = false → s.trail.dumpMode = false → ∃ t, exec (.pwrfailAssert ns) s = .next t ∧
      t.trail.dumpMode = true ∧ t.intake.stopped = true ∧ t.fault.lines.dump = true ∧ t.trail.dumpStart = s.now ∧
      t.trail.dumpSeq = s.trail.dumpSeq + 1 ∧ t.boot.pwrfailLow = true ∧ t.zone = s.zone)) ∧
  (∀ (s : State), (s.dumpDone = false → exec .dumpComplete s = .next s) ∧
    (s.dumpDone = true → ∃ t, exec .dumpComplete s = .next t ∧ t.trail.toRestore = true ∧
      (∃ d, t.trail.dump = some d ∧ d.marker = true) ∧ t.mgmt.unsafeStops = s.mgmt.unsafeStops + 1)) ∧
  (∀ (s : State), let s' := { s with boot := { s.boot with pwrfailLow := false } }
    (s.boot.pwrfailLow = false → exec .pwrfailReleaseTimeout s = .next s) ∧
    (s.boot.pwrfailLow = true →
      (s.trail.dumpMode = false → exec .pwrfailReleaseTimeout s = .next s') ∧
      (∀ d, s.trail.dumpMode = true → s.fault.grave = false → s.trail.dump = some d → d.marker = true →
        exec .pwrfailReleaseTimeout s = .next s'.controllerReset) ∧
      (s.trail.dumpMode = true → s.fault.grave = true → exec .pwrfailReleaseTimeout s = .next s') ∧
      (s.trail.dumpMode = true → s.fault.grave = false → (∀ d, s.trail.dump = some d → d.marker = false) →
        exec .pwrfailReleaseTimeout s = .next s)))) ∧
  ((∀ (s : State), s.boot.phase = .ready → s.trail.dumpMode = false → (s.inst 0).shst ≠ 2 →
    (s.boot.shut = none → s.power.ps < 3 → ∃ t, exec (.normalShutdown 0) s = .next t ∧ t.intake.stopped = true ∧
      t.boot.shut = some .normal ∧ (t.inst 0).shst = 1 ∧ (t.inst 0).ccShn = 1 ∧ t.flash = s.flash ∧ t.zone = s.zone ∧
      t.trail = s.trail) ∧
    (∃ t, exec (.abruptShutdown 0) s = .next t ∧ t.trail.dumpMode = true ∧ t.intake.stopped = true ∧ (t.inst 0).shst = 1 ∧
      (t.inst 0).ccShn = 2 ∧ t.zone = s.zone)) ∧
  (∀ (i : Nat) (s : State), i ≠ 0 → (s.inst i).ccEn = true → (s.inst i).shst ≠ 2 →
    let t := s.modInst i fun x => { x with ccShn := 1, shst := if s.hasCommands i = true then 1 else 2 }
    exec (.normalShutdown i) s = .next t ∧ exec (.abruptShutdown i) s = .next t) ∧
  (∀ (s : State), (s.boot.shut = none → exec .shutdownComplete s = .next s) ∧
    (s.trail.dumpMode = true ∨ 3 ≤ s.power.ps → exec .shutdownComplete s = .next s) ∧
    (s.boot.shut = some .normal → s.trail.dumpMode = false → s.power.ps < 3 → (∀ x ∈ s.tenant.insts, x.2.st ≠ .stopping) →
      (s.busyTags = true → exec .shutdownComplete s = .next s) ∧
      (s.busyTags = false → let t := s.drainEnd.modInst 0 fun x => { x with shst := 2 }
        exec .shutdownComplete s = .next { t with boot := { t.boot with shut := none } }))))

/-- The Trail (R243, R255, R258, R259): with the half buffer empty a flush writes nothing; one with records takes the
next flush number and empties the half; a flush is durable once no die holds its program; a checkpoint begins and ends
once; a dump row's release is recorded once. -/
def Obligations.TrailRows : Prop :=
  (∀ (s : State), (s.trailOn = false → exec .trailFlushStart s = .next s ∧ exec .checkpointStart s = .next s ∧
      ∀ g, exec (.dumpRowRelease g) s = .next s) ∧
    (s.trailOn = true → s.trail.flushes = [] → s.trail.half ≠ [] → ∃ t, exec .trailFlushStart s = .next t ∧
      t.trail.flushSeq = s.trail.flushSeq + 1 ∧ (∀ r ∈ t.trail.half, ∃ n, r = .wseqReserve n) ∧ t.trail.flushes.map (·.recs) = [s.trail.half.reverse] ∧
      t.zone = s.zone ∧ t.tenant = s.tenant) ∧
    (∀ f rest, s.trail.flushes = f :: rest →
      exec .trailFlushDurable s = .next (if s.flushAtDie f = true then s else (s.flushDurable f).flushForFence)) ∧
    (s.trailOn = true → s.trail.ckptBusy = false → ∃ t, exec .checkpointStart s = .next t ∧ t.trail.ckptBusy = true ∧
      t.trail.ckptSeq = s.trail.ckptSeq + 1 ∧ .ckptBegin (s.trail.ckptSeq + 1) ∈ t.trail.half ∧ t.trail.sinceBegin = 0 ∧
      t.zone = s.zone ∧ t.flash = s.flash) ∧
    (s.trail.ckptBusy = false → exec .checkpointEnd s = .next s) ∧
    (s.trail.ckptBusy = true → s.trailOn = true → .ckptBegin s.trail.ckptSeq ∉ s.trail.half →
      (∀ f ∈ s.trail.flushes, .ckptBegin s.trail.ckptSeq ∉ f.recs) → ∃ t, exec .checkpointEnd s = .next t ∧
        t.trail.ckptBusy = false ∧ t.trail.held = false ∧ t.trail.sinceDone = s.trail.sinceBegin ∧
        t.trail.durable = [.ckptEnd s.trail.ckptSeq])) ∧
  (∀ (g : Nat) (s : State), s.trailOn = true → (s.group g).dumpHeld = true → s.dumpReplayed = true →
    .dumpRelease g ∉ s.trail.half → exec (.dumpRowRelease g) s = .next { s with trail := { s.trail with
      half := .dumpRelease g :: s.trail.half, clean := false, quiet := false } })

/-- Hamper (R308, R310, R314, R316, R317; Table 10.4): the owner hands or releases a unit, anyone claims an allocated
one (at 255 the claim waits), a claim is dropped; a refusal that only the first check found is a transient Notice of
the requesting block; whatever the table refuses changes no unit, is counted and Severe; a pool under rebuild
allocates nothing until its rebuild is done, and its faulty unit stays out; a waiting head is a Notice. -/
def Obligations.HamperRows : Prop :=
  (∀ (u id k2 id2 : Nat) (who : Requester) (s : State),
    let ok := fun t : State => if who.glitch then t.reportTransient who.source 0x34 u else t
    (s.owns u who.kind id = true →
      exec (.hamperHand u who id k2 id2) s =
        .next ((ok s).modUnit u fun x => { x with owner := OwnerKind.ofCode k2, ownerId := id2 }) ∧
      exec (.hamperRelease u who id) s = .next ((ok s).releaseUnit u)) ∧
    (s.owns u who.kind id = false →
      exec (.hamperHand u who id k2 id2) s = .next (s.refuseOwnership u who 0) ∧
      exec (.hamperRelease u who id) s = .next (s.refuseOwnership u who 2)) ∧
    ((s.hunit u).claims = 0 → exec (.hamperDrop u who) s = .next (s.refuseOwnership u who 1)) ∧
    ((s.hunit u).claims ≠ 0 → exec (.hamperDrop u who) s = .next ((ok s).dropClaim u)) ∧
    (∀ op, let t := s.refuseOwnership u who op
      t.hamper = s.hamper ∧ t.zone = s.zone)) ∧
  (∀ (u : Nat) (s : State),
    ((s.hunit u).st = 1 → (s.hunit u).claims < 255 → exec (.hamperClaim u) s =
      .next ((s.modUnit u fun x => { x with claims := x.claims + 1 }).emit (.reply Port.engine [u, 0]))) ∧
    ((s.hunit u).st = 1 → 255 ≤ (s.hunit u).claims → exec (.hamperClaim u) s =
      .next (s.modUnit u fun x => { x with claimWaits := x.claimWaits + 1 })) ∧
    ((s.hunit u).st ≠ 1 → exec (.hamperClaim u) s = .next (s.emit (.reply Port.engine [u, 1]))) ∧
    ((s.hunit u).st = 1 → (s.hunit u).claims ≠ 0 → s.releaseUnit u = (s.refuseClaims u).modUnit u fun x => { x with st := 2 }) ∧
    ((s.hunit u).claims ≠ 0 → (s.hunit u).claimWaits = 0 → ((s.hunit u).st = 2 → (s.hunit u).claims ≠ 1) →
      s.dropClaim u = s.modUnit u fun x => { x with claims := x.claims - 1 }) ∧
    ((s.hunit u).claims ≠ 0 → (s.hunit u).claimWaits ≠ 0 → s.dropClaim u =
      (s.emit (.reply Port.engine [u, 0])).modUnit u fun x => { x with claimWaits := x.claimWaits - 1 })) ∧
  (∀ (p kind id n : Nat) (s : State), p ≤ 5 → n ≠ 0 → (s.pool p).waiting = [] →
    ((s.pool p).rebuild = true ∨ (s.pool p).free < n → ∃ t, exec (.hamperAllocate p kind id n) s = .next t ∧
      (t.pool p).waiting = [{ owner := OwnerKind.ofCode kind, ownerId := id, need := n }] ∧ t.hamper.units = s.hamper.units) ∧
    ((s.pool p).rebuild = false → n ≤ (s.pool p).free → ∃ t, exec (.hamperAllocate p kind id n) s = .next t ∧
      (t.pool p).waiting = [] ∧ (t.pool p).used = (s.pool p).used + n ∧ t.zone = s.zone ∧ t.regs = s.regs)) ∧
  (∀ (p : Nat) (s : State),
    exec (.poolWaitNotice p) s = .next (if (s.pool p).waiting = [] then s else s.report (0x1B0 + p) 0x0A p 0) ∧
    ((s.pool p).rebuild = false → exec (.freeListRebuildDone p) s = .next s) ∧
    ((s.pool p).rebuild = true → let t := s.modPool p fun x => { x with rebuild := false }
      exec (.freeListRebuildDone p) s = .next (t.servePool p (t.pool p).waiting.length)) ∧
    (∀ u, p ≤ 5 → ∃ t, exec (.freeListRebuild p u) s = .next t ∧ (t.pool p).rebuild = true ∧
      u ∉ (t.pool p).freed ∧ u ∈ (t.pool p).gone ∧ t.zone = s.zone ∧ t.hamper.units = s.hamper.units))

/-- Glaze descriptors (R273, R274, R277, R284, R285): a malformed one ends with 6, one whose slots are not Ready with
2, one that is stale with 3; a fresh one is counted at its slots and placed; at its end the slots count it no more,
and an open whose second read authenticates is a Notice, one rebuilt from parity counted, one that stays wrong
reported; a suspended context of 100 µs goes next. -/
def Obligations.GlazeDescriptors : Prop :=
  (∀ (d : GDesc) (s : State),
    (gdOk d = false → exec (.glazeDescriptorSubmit d) s = .next (s.emit (.reply Port.engine [d.tag, d.gen, d.op, 6]))) ∧
    (gdOk d = true → (∃ k ∈ gdSlots d, (s.slotAt k).st ≠ .ready) →
      exec (.glazeDescriptorSubmit d) s = .next (s.emit (.reply Port.engine [d.tag, d.gen, d.op, 2]))) ∧
    (gdOk d = true → (∀ k ∈ gdSlots d, (s.slotAt k).st = .ready) →
      s.glaze.urgentQ.length < 256 → s.glaze.bulkQ.length < 2048 →
      (s.gdFresh d = false → exec (.glazeDescriptorSubmit d) s = .next (s.emit (.reply Port.engine [d.tag, d.gen, d.op, 3]))) ∧
      (s.gdFresh d = true → exec (.glazeDescriptorSubmit d) s = .next (State.gdPlace
        ((gdSlots d).foldl (fun s k => s.modSlot k fun x => { x with accepted := x.accepted + 1 }) s) d)))) ∧
  (∀ (l addr : Nat) (s : State), (s.lane l).running = none → ∀ a b c, exec (.glazeDescriptorComplete l a b c addr) s = .next s) ∧
  (∀ (l addr : Nat) (d : GDesc) (s : State), (s.lane l).running = some d →
    let e := s.modLane l fun y => { y with running := none, aged := false, doneAt := s.now }
    let ends := fun (t : State) (code : Nat) => State.gdAdmitWaiting ((t.gdEnd d code).laneNext l (t.laneTries l))
    exec (.glazeDescriptorComplete l true false false addr) s = .next (ends e 0) ∧
    (d.op ≠ 6 → d.op ≠ 7 → ∀ a b c, exec (.glazeDescriptorComplete l a b c addr) s = .next (ends e 0)) ∧
    (d.op = 6 ∨ d.op = 7 →
      (∀ c, exec (.glazeDescriptorComplete l false true c addr) s = .next (ends (e.reportTransient 0x1C0 0x40 addr) 0)) ∧
      exec (.glazeDescriptorComplete l false false true addr) s = .next (ends (e.bump Reg.FBE_LDPC_REBUILT_COUNT) 0) ∧
      exec (.glazeDescriptorComplete l false false false addr) s = .next (ends (e.authFailed d addr) 1))) ∧
  (∀ (l : Nat) (s : State), ((∀ c ∈ (s.lane l).contexts, s.now < c.since + 10000) →
      exec (.glazeContextAgedResume l) s = .next s) ∧
    ((∃ c ∈ (s.lane l).contexts, c.since + 10000 ≤ s.now) → (s.lane l).running ≠ none →
      exec (.glazeContextAgedResume l) s = .next (s.modLane l fun y => { y with agedDue := true })) ∧
    ((∃ c ∈ (s.lane l).contexts, c.since + 10000 ≤ s.now) → (s.lane l).running = none →
      let t := s.modLane l fun y => { y with agedDue := true }
      exec (.glazeContextAgedResume l) s = .next (t.laneNext l (t.laneTries l))))

/-- Key slots (R286 to R288): a load from the store makes the slot Ready with the next generation; a failed unwrap or
no root keys answers 1 and leaves the slot as it was; an unload or lock of a Ready slot drains it, slot 0 never; the
end of the drain clears the key, with the lock's reason. Alarms (R298, R300, R507; Tables 9.8 and 9.9): an alarm
clears the root keys and every key, leaves no slot Ready and asserts ZEROIZE; a Grave alarm is not recovered from, nor
is one where no keys are derived; a Severe one is, with a passed OTP check, and ZEROIZE ends; a good recheck of the
array raises none. -/
def Obligations.KeyAlarmRows : Prop :=
  ((∀ (n r key : Nat) (s : State), let x := s.range n r
    (x.exists_ = false ∨ s.glaze.rootKeys = false ∨ x.wrapped.unwrap (s.wrapUnder x) = none →
      ∀ b, exec (.keyUnwrapLoad n r b) s = .next (s.emit (.reply Port.engine [x.slot, 1]))) ∧
    (x.exists_ = true → s.glaze.rootKeys = true → x.wrapped.unwrap (s.wrapUnder x) = some key →
      ((s.ns n).mode ≠ .sealed_ → exec (.keyUnwrapLoad n r false) s = .next (s.emit (.reply Port.engine [x.slot, 1]))) ∧
      exec (.keyUnwrapLoad n r true) s = .next (State.resumeRows
        ((s.loadSlot x.slot key (decide ((s.ns n).mode = .sealed_))).emit (.reply Port.engine [x.slot, 0]))))) ∧
  (∀ (k why : Nat) (s : State),
    (k = 0 ∨ 3 < why → exec (.keySlotUnload k why) s = .next s) ∧
    (k ≠ 0 → why ≤ 3 → exec (.keySlotUnload k why) s = .next (if (s.slotAt k).st = .ready then
      s.modSlot k fun x => { x with st := .draining, lockAfter := if why = 0 then none else some why } else s)) ∧
    ((s.slotAt k).st ≠ .draining ∨ (s.slotAt k).accepted ≠ 0 → exec (.keySlotDrained k) s = .next s) ∧
    ((s.slotAt k).st = .draining → (s.slotAt k).accepted = 0 → exec (.keySlotDrained k) s = .next (s.modSlot k fun x =>
      match x.lockAfter with
      | some r => { x with st := .locked, reason := r, key := none, lockAfter := none }
      | none => { x with st := .empty, reason := 0, key := none, lockAfter := none, tag := none })))) ∧
  ((∀ (code : Nat) (s : State), 1 ≤ code → code ≤ 5 → ∃ t, exec (.glazeAlarm code) s = .next t ∧
    t.glaze.rootKeys = false ∧ t.glaze.alarm = some code ∧ t.fault.lines.zeroize = true ∧
    (∀ k ∈ t.glaze.slots, k.2.st ≠ .empty → k.2.st = .locked ∧ k.2.reason = 2 ∧ k.2.key = none) ∧
    t.glaze.lanes = [] ∧ t.glaze.urgentQ = [] ∧ t.glaze.bulkQ = [] ∧ t.glaze.waiting = []) ∧
  (∀ (code : Nat) (s : State), code = 0 ∨ 5 < code → exec (.glazeAlarm code) s = .next s) ∧
  (∀ (s : State), (s.glaze.alarm = none ∨ s.glaze.alarmGrave = true ∨ s.derivesNothing = true → ∀ b, exec (.alarmRecovery b) s = .next s) ∧
    (s.glaze.alarm ≠ none → s.glaze.alarmGrave = false → s.derivesNothing = false → s.otpFailure = none →
      exec (.alarmRecovery false) s = .next (s.raiseAlarm 5) ∧
      (let t := s.deriveKeys.loadUnguarded
       exec (.alarmRecovery true) s = .next (State.resumeRows { t with
        glaze := { t.glaze with alarm := none }, fault := { t.fault with lines := { t.fault.lines with zeroize := false } } }))) ∧
    (s.otpFailure = none → exec (.otpIntegrityRecheck true) s = .next s.otpOneBad) ∧
    exec (.otpIntegrityRecheck false) s = .next (s.raiseAlarm 5)))

/-- Opal (R289, R291, R293; Table 9.2): a wrong credential answers 1 and changes nothing; the right one authenticates
and loads what the authority guards; only an authority that may act sets a credential or a range that it guards; a
range is set within the namespace's 127 further ranges; GenKey gives a range a new key and loses its blocks; a Clear
or Key Per I/O namespace refuses it. Key Per I/O and the DRBG (R270, R290, R292, R294): a KEK and its tags belong to
Key Per I/O namespaces and to keys wrapped under the KEK; a tag takes a free slot within the instance's quota and
gives it back; a failed health test is Severe and holds generation until one passes; a wait of an hour is recorded. -/
def Obligations.OpalKeyRows : Prop :=
  ((∀ (a c : Nat) (s : State),
    (s.glaze.credentials.get none a ≠ some c → exec (.opalAuthenticate a c) s = .next (s.emit (.reply Port.tcg [1]))) ∧
    (s.glaze.credentials.get none a = some c → a ∈ s.glaze.authenticated → exec (.opalAuthenticate a c) s =
      .next ((s.loadGuarded a).resumeRows.emit (.reply Port.tcg [0]))) ∧
    (s.mayAct a = false → exec (.opalSetCredential a c) s = .next (s.emit (.reply Port.tcg [1]))) ∧
    (s.mayAct a = true → s.glaze.drbgFail = true → exec (.opalSetCredential a c) s = .next (s.emit (.reply Port.tcg [6]))) ∧
    (s.mayAct a = true → s.glaze.drbgFail = false → (∀ r ∈ s.glaze.ranges, r.2.authority ≠ some a) →
      ∃ t, exec (.opalSetCredential a c) s = .next t ∧ t.glaze.credentials.get none a = some c ∧
        t.glaze.storeSeq = s.glaze.storeSeq + 1 ∧ t.glaze.ranges = s.glaze.ranges ∧ t.zone = s.zone)) ∧
  (∀ (n r : Nat) (x : LockSet) (s : State),
    ((s.ns n).exists_ = false ∨ 127 < r ∨ x.hi < x.lo →
      exec (.opalSetLocking n r x) s = .next (s.emit (.reply Port.tcg [2]))) ∧
    (∀ a, (s.ns n).exists_ = true → r ≤ 127 → x.lo ≤ x.hi → (s.range n r).authority = some a → s.mayAct a = false →
      exec (.opalSetLocking n r x) s = .next (s.emit (.reply Port.tcg [1]))) ∧
    ((s.ns n).exists_ = true → r ≤ 127 → x.lo ≤ x.hi → (s.range n r).authority = none →
      ((s.range n r).exists_ = true → exec (.opalSetLocking n r x) s =
        .next ((((s.rewrap n r fun r => r.setTo x).storeKeys.applyLock n r).resumeRows).emit (.reply Port.tcg [0]))) ∧
      ((s.range n r).exists_ = false → (s.ns n).mode = .clear → exec (.opalSetLocking n r x) s =
        .next ((s.modRange n r fun r => { r.setTo x with exists_ := true }).storeKeys.emit (.reply Port.tcg [0]))))) ∧
  (∀ (n r : Nat) (b : Bool) (s : State),
    ((s.ns n).mode = .clear ∨ (s.ns n).mode = .keyPerIo ∨ (s.range n r).exists_ = false →
      exec (.opalGenkey n r b) s = .next (s.emit (.reply Port.tcg [2]))) ∧
    ((s.ns n).exists_ = true → ((s.ns n).mode = .xts ∨ (s.ns n).mode = .sealed_) → (s.range n r).exists_ = true →
      s.glaze.drbgFail = false → exec (.opalGenkey n r false) s = .next ((s.cryptoErase n r).emit (.reply Port.tcg [0]))))) ∧
  ((∀ (i n tag kek key k : Nat) (s : State),
    ((s.ns n).mode ≠ .keyPerIo → exec (.keyPerIoKekSet n kek) s = .next (s.emit (.reply Port.tcg [2])) ∧
      exec (.keyTagInject i n tag kek key true) s = .next (s.emit (.reply Port.tcg [2]))) ∧
    ((s.ns n).mode = .keyPerIo →
      (s.glaze.rootKeys = true → exec (.keyPerIoKekSet n kek) s = .next (State.emit { s with glaze := { s.glaze with
        keks := s.glaze.keks.set none n (some { under := kWrap s.drk, key := kek }), storeSeq := s.glaze.storeSeq + 1,
        storeBad := [] } }
        (.reply Port.tcg [0]))) ∧
      (tag < 1024 → s.kekOf n ≠ some kek → exec (.keyTagInject i n tag kek key true) s = .next (s.emit (.reply Port.tcg [2]))) ∧
      (tag < 1024 → s.kekOf n = some kek → s.glaze.keyTags.get none (n * 1024 + tag) = none →
        ((s.inst i).keyQuota ≤ s.slotsHeld i → exec (.keyTagInject i n tag kek key true) s = .next (s.emit (.reply Port.tcg [7]))) ∧
        (s.slotsHeld i < (s.inst i).keyQuota → s.freeSlot = some k → ∃ t, exec (.keyTagInject i n tag kek key true) s = .next t ∧
          (t.slotAt k).st = .ready ∧ (t.slotAt k).key = some key ∧ (t.slotAt k).tag = some (n, tag) ∧ (t.slotAt k).owner = i ∧
          t.glaze.keyTags.get none (n * 1024 + tag) = some k ∧ t.zone = s.zone))) ∧
    (s.glaze.keyTags.get none (n * 1024 + tag) = none →
      exec (.keyTagClear n tag) s = .next (s.emit (.reply Port.tcg [2]))) ∧
    (s.glaze.keyTags.get none (n * 1024 + tag) = some k → (s.slotAt k).st = .ready → ∃ t, exec (.keyTagClear n tag) s = .next t ∧
      (t.slotAt k).st = .draining ∧ (t.slotAt k).lockAfter = none ∧ t.zone = s.zone ∧ t.regs = s.regs)) ∧
  (∀ (n : Nat) (s : State),
    (s.keyWait n = false ∨ s.refiresWait n = false → exec (.sealedWaitWarning n) s = .next s) ∧
    (s.keyWait n = true → s.refiresWait n = true → exec (.sealedWaitWarning n) s = .next (State.log
      { s with glaze := { s.glaze with sealedWaits := s.glaze.sealedWaits + 1 } } 0x0211 3 0x1C0 [n])) ∧
    exec .entropyHealthFail s = .next (({ s with glaze := { s.glaze with drbgFail := true } } : State).report 0x1C0 0x42 0 2) ∧
    exec .entropyHealthTestPass s = .next { s with glaze := { s.glaze with drbgFail := false } }))

/-- DRAM requests (R324, R326, R331, R332, R336 to R339; Table 11.5): a request to a running channel joins its queue,
or waits behind 256; a read of a queued write is answered from it, a write to one takes its place, a write-back to one
is dropped; a retraining or self-refresh holds a subchannel's requests, and a forced refresh goes before the bank's
own; a clean read answers with the burst; a table page is rebuilt or lost; an ordinary uncorrectable read answers with
poison, a privileged one with an error. DRAM upkeep (R324, R329, R330, R333, R334, R340): an idle bank index is
refreshed, a busy one postponed until the limit forces it; calibration is counted; a drift retrains for 20 µs; an
accepted replay restores the rows and is a Notice, a lower rate that trains Degraded, none Grave; an idle row closes;
a clean scrub step is counted, a corrected one written back. -/
def Obligations.DramRows : Prop :=
  ((∀ (c k : Nat) (r : DramReq) (s : State), s.dramOn c k = true →
    ((s.dchan c).queuedWrite k r.addr = none →
      let e : DEntry := { req := r, at_ := s.now, cap := s.cfgOf Cfg.DMC_AGE_CAP / 10 }
      exec (.dramRequestArrival c k r) s = .next (s.modDchan c fun x => if 256 ≤ (s.dchan c).queue.length then
        { x with waiting := x.waiting ++ [(k, e)] } else { x with queue := x.queue ++ [(k, e)] })) ∧
    (∀ w, (s.dchan c).queuedWrite k r.addr = some w →
      (r.write = false →
        exec (.dramRequestArrival c k r) s = .next (s.emit (.reply Port.engine [r.id, w.2.req.data, w.2.req.poison.toNat]))) ∧
      (r.write = true → r.writeBack = true → exec (.dramRequestArrival c k r) s = .next s) ∧
      (r.write = true → r.writeBack = false → exec (.dramRequestArrival c k r) s = .next (s.modDchan c fun x => { x with
        queue := x.queue.map fun e => if e = w then (e.1, { e.2 with req := { e.2.req with data := r.data, poison := r.poison } })
          else e }))) ∧
    (∀ b, s.dramHeld c k = true ∨ s.selfRefresh = true → exec (.dramRequestIssue c k b) s = .next s) ∧
    (s.dramHeld c k = false → s.selfRefresh = false → ∀ b,
      (bankIndex b ∈ ((s.dchan c).sub k).forced →
        exec (.dramRequestIssue c k b) s = .next (s.refreshIdx c k (bankIndex b))) ∧
      (bankIndex b ∉ ((s.dchan c).sub k).forced → s.dramNext c k b = none → exec (.dramRequestIssue c k b) s = .next s) ∧
      (∀ e, bankIndex b ∉ ((s.dchan c).sub k).forced → s.dramNext c k b = some e → e.2.req.write = false →
        let q := s.modDchan c fun x => { x with queue := x.queue.erase e }
        exec (.dramRequestIssue c k b) s = .next (State.dramRoom (q.modSub c k fun x =>
          { (x.open_ b (if e.2.req.closeAfter then 0 else e.2.req.row + 1)) with
            draining := s.writeMode c k && decide (q.cfgAt Cfg.DMC_WR 1 < (q.dchan c).writesIn k)
            inFlight := x.inFlight ++ [{ e.2 with got := x.mem.get {} e.2.req.addr }] }) c)))) ∧
  (∀ (c k id : Nat) (e : DEntry) (s : State), (((s.dchan c).sub k).inFlight.find? fun e => decide (e.req.id = id)) = some e →
    e.req.write = false →
    let t := s.modSub c k fun x => { x with inFlight := x.inFlight.erase e }
    let lost := (t.bump Reg.DMC_ERR_POISON_COUNT).report (0x1D0 + c) 0x39 (burstAddress k e.req.addr) 1
    (e.got.poison = false → exec (.dramReadReturn c k id 0 0) s = .next (t.emit (.reply Port.engine [id, e.got.data, 0]))) ∧
    (e.got.poison = false → e.req.priv = false → e.req.page = none → e.req.unit = none →
      exec (.dramReadReturn c k id 2 2) s = .next (lost.emit (.reply Port.engine [id, e.got.data, 1]))) ∧
    (e.got.poison = false → e.req.priv = false → ∀ p, e.req.page = some p →
      exec (.dramReadReturn c k id 2 2) s = .next ((lost.modSub c k fun x => { x with
        mem := x.mem.set {} e.req.addr { e.got with poison := false } }).emit (.reply Port.engine [id, e.got.data, 0])) ∧
      exec (.dramReadReturn c k id 2 3) s = .next ((lost.report 0x202 0x3B p 3).emit (.reply Port.engine [id, e.got.data, 1]))) ∧
    (e.got.poison = false → e.req.priv = true → e.req.trail = false → exec (.dramReadReturn c k id 2 2) s = .next
      (((t.bump Reg.DMC_ERR_PRIV_COUNT).log Code.dramPrivileged 4 (0x1D0 + c) [c, burstAddress k e.req.addr]).emit
        (.reply Port.engine [id, 0, 2]))) ∧
    (e.got.poison = false → exec (.dramReadReturn c k id 1 0) s = .next
      (((t.bump Reg.DMC_ERR_CORR_COUNT).reportTransient (0x1D0 + c) 0x30 (burstAddress k e.req.addr)).emit
        (.reply Port.engine [id, e.got.data, 0]))))) ∧
  ((∀ (s : State), exec .zqCalibrationTimer s = .next (if s.dram.rate = 0 then s
    else { s with dram := { s.dram with zqRuns := s.dram.zqRuns + 1 } })) ∧
  (∀ (c k n : Nat) (s : State), s.dramOn c k = true →
    (let lim := s.modSub c k fun y => { y with refLimit := s.reg Reg.DMC_CFG_REF_POSTPONE }
     n ≤ 3 →
      ((∀ e ∈ (s.dchan c).queue, e.1 = k → bankIndex e.2.req.bank ≠ n) →
        (∀ r ∈ ((s.dchan c).sub k).rows, bankIndex r.1 ≠ n) → exec (.refreshDue c k n) s = .next (lim.refreshIdx c k n)) ∧
      ((∃ e ∈ (s.dchan c).queue, e.1 = k ∧ bankIndex e.2.req.bank = n) → n ∉ ((s.dchan c).sub k).forced →
        let p := ((s.dchan c).sub k).postponed.get 0 n + 1
        (p < ((s.dchan c).sub k).refLimit → exec (.refreshDue c k n) s = .next (lim.modSub c k fun y => { y with
          postponed := y.postponed.set 0 n p })) ∧
        (((s.dchan c).sub k).refLimit ≤ p → exec (.refreshDue c k n) s = .next ((lim.modSub c k fun y => { y with
          forced := y.forced ++ [n], rows := y.rows.keep fun b _ => bankIndex b ≠ n }).modDchan c fun x =>
            { x with forcedRef := x.forcedRef + 1 })))) ∧
    (s.dram.training = none → s.trail.dumpMode = false → exec (.dqsOscillatorCheck c k true) s = .next
      { s with dram := { s.dram with
        retrains := s.dram.retrains + 1
        training := some { chan := c, sub := k, all := false, rate := s.dram.rate, until_ := s.now + 2000 } } }) ∧
    exec (.dqsOscillatorCheck c k false) s = .next s ∧
    exec (.dramRowIdleClose c k n) s = .next (s.modSub c k fun x => { x with rows := x.rows.set 0 n 0 }) ∧
    (let t : State := { s with dram := { s.dram with scrubbed := s.dram.scrubbed + 1 } }
     exec (.dramScrubStep c k n 0) s = .next t ∧
     ((((s.dchan c).sub k).mem.get {} n).poison = false → exec (.dramScrubStep c k n 1) s = .next
      ((t.bump Reg.DMC_ERR_CORR_COUNT).reportTransient (0x1D0 + c) 0x30 (burstAddress k n)))) ∧
    (let q := s.modSub c k Subchannel.replay
     exec (.caParityAlert c k 0 n) s = .next ((q.bump Reg.DMC_CA_REPLAY_TRANSIENT).reportTransient (0x1D0 + c) 0x38 (c * 2 + k))) ∧
    (let q := (s.modSub c k fun x => { x with rows := [], recent := [] }).bump Reg.DMC_CA_REPLAY_LASTING
     exec (.caParityAlert c k 1 n) s = .next ((q.report (0x1D0 + c) 0x38 (c * 2 + k) 0).retrain c k false q.dram.rate 2500000) ∧
     (n ∈ dramRates → n < q.dram.rate → exec (.caParityAlert c k 2 n) s = .next (State.retrain
      (State.report { q with dram := { q.dram with fallback := true } } (0x1D0 + c) 0x38 (c * 2 + k) 1) c k true n 2600000)) ∧
     exec (.caParityAlert c k 3 n) s = .next ((q.modDchan c fun x => { x with dead := true }).report (0x1D0 + c) 0x38 (c * 2 + k) 3))))

/-- Links (R352 to R356, R359, R404; Tables 12.1, 12.2): PERST below 1 µs or with VDD_IO33 low is ignored; a longer
one takes the port down and resets the device, or in dual-port mode the port's functions; a link comes up at a rate
and a width of the tables; its loss ends IDE's Secure state; L1, its substates and L0p follow what the function
enables; WAKE_N and unmasked MSI-X messages go out. -/
def Obligations.PcieLinks : Prop :=
  (∀ (p ns : Nat) (s : State),
    (ns < 1000 ∨ s.portExists p = false ∨ s.boot.io33Low = true → exec (.perstAssert p ns) s = .next s) ∧
    (1000 ≤ ns → s.boot.io33Low = false → s.boot.dualPort = false → s.power.ps < 3 →
      let t := (s.modPort 0 fun x => { perst := true, lost := x.lost || x.up }).ideInsecure.dropHeld
      exec (.perstAssert 0 ns) s = .next (t.beginDeviceReset true)) ∧
    (1000 ≤ ns → s.boot.io33Low = false → s.boot.dualPort = true → s.power.ps < 3 →
      let t := s.modPort 1 fun x => { perst := true, lost := x.lost || x.up }
      exec (.perstAssert 1 ns) s = .next (t.resetPort 1 kindPerst)) ∧
    (1000 ≤ ns → s.boot.io33Low = false → 3 ≤ s.power.ps →
      let t := ((s.modPort 0 fun x => { perst := true, lost := x.lost || x.up }).ideInsecure.dropHeld).wake 3
      exec (.perstAssert 0 ns) s = .next (if t.boot.dualPort then t.resetPort 0 kindPerst else t.beginDeviceReset true)) ∧
    (1000 ≤ ns → s.boot.io33Low = false → s.boot.dualPort = false → s.boot.phase = .ready → s.trail.dumpMode = false →
      s.power.ps < 3 → s.fault.graveStopped = false → ∃ t, exec (.perstAssert 0 ns) s = .next t ∧ t.pcie.ide.secure = false ∧
        t.pcie.ide.inUse = [] ∧ t.intake.stopped = true ∧ t.boot.shut = some (.device true)) ∧
    (s.portExists p = true → s.boot.io33Low = false → (s.port p).perst = true →
      exec (.perstRelease p) s = .next (s.modPort p fun x => { x with perst := false }))) ∧
  (∀ (p rate width : Nat) (s : State), s.portExists p = true → (s.port p).perst = false → (s.port p).up = false →
    s.boot.phase = .ready → linkRates.contains rate = true →
    (if s.boot.dualPort = true then [8, 4, 2, 1] else [16, 8, 4, 2, 1]).contains width = true →
    ∃ t, exec (.linkUp p rate width) s = .next t ∧ (t.port p).up = true ∧ (t.port p).lost = false ∧ (t.port p).rate = rate ∧
      (t.port p).width = width ∧ (t.port p).active = width ∧ (t.port p).l = .l0 ∧ t.pcie.wakeLow = false ∧
      t = { s with pcie := t.pcie }) ∧
  (∀ (p : Nat) (s : State), (s.port p).up = true →
    (∃ t, exec (.linkDown p) s = .next t ∧ (p = 0 → t.pcie.ide.secure = false) ∧ t = { s with pcie := t.pcie } ∧
      (t.port p).up = false ∧ (t.port p).lost = true ∧ (t.port p).active = 0 ∧ ∀ k, k ≠ p → t.port k = s.port k) ∧
    (∀ sub, s.portExists p = true → (s.func (s.portPf p)).l1 = true → s.busyTags = false → s.intake.notices = [] →
      s.subAllowed (s.func (s.portPf p)) sub = true → s.intake.idleAt + s.cfgOf Cfg.PCIE_L1_IDLE_US * 100 ≤ s.now →
      let l := if sub = 1 then LState.l11 else if sub = 2 then LState.l12 else LState.l1
      exec (.aspmL1Entry p sub) s = .next (s.modPort p fun x => { x with l := l }).settleClkreq) ∧
    ((s.port p).l ≠ .l0 → s.power.ps < 3 →
      ∃ t, exec (.aspmL1Exit p) s = .next t ∧ (t.port p).l = .l0 ∧ t.pcie.wakeLow = false ∧ t = { s with pcie := t.pcie }) ∧
    ((s.port p).l = .l0 → (s.func (s.portPf p)).l0p = true → s.l0pMin ≤ (s.port p).active / 2 → ∃ t,
      exec (.l0pNarrow p) s = .next t ∧ (t.port p).active = (s.port p).active / 2 ∧ t = { s with pcie := t.pcie }) ∧
    ((s.port p).l = .l0 → ((s.port p).active / 2 < s.l0pMin → exec (.l0pNarrow p) s = .next s) ∧ ∃ t,
      exec (.l0pWiden p) s = .next t ∧ (t.port p).active = (s.port p).width ∧ t = { s with pcie := t.pcie })) ∧
  (∀ (i v : Nat) (s : State),
    ((s.inst i).pmeEn = true → (s.inst i).dState = 3 →
      (∃ e ∈ s.tenant.insts, (e.1 = i ∨ (s.isPf i = true ∧ s.portOf e.1 = s.portOf i)) ∧ e.2.events ≠ []) →
      ∃ t, exec (.wakeNAssert i) s = .next t ∧
      t.pcie.wakeLow = true ∧ t.out = .reply Port.pin [1] :: s.out ∧ t.tenant = s.tenant) ∧
    (v ∈ (s.inst i).msixMasked → v ∈ (s.inst i).msixPending → ∃ t, exec (.msixVectorUnmask i v) s = .next t ∧
      (s.ideBlocked = false → s.reaches (.msi i v) = true → t.out = .msi i v :: s.out) ∧ (∀ k, k ≠ i → t.inst k = s.inst k) ∧
      t = { s with tenant := t.tenant, out := t.out, pcie := t.pcie })) ∧
  (∀ (s : State), exec .nvmSubsystemReset s = .next (s.beginDeviceReset false) ∧
    (s.boot.phase = .ready ∨ s.boot.phase = .bisque ∨ s.boot.phase = .stopped → ∃ t, exec .controllerReset s = .next t ∧
      t.boot.phase = .down ∧ t.boot.fromStep3 = true ∧ t.boot.otp = s.boot.otp ∧ t.klog.ring = s.klog.ring ∧
      t.fault.grave = s.fault.grave ∧ t.now = s.now ∧ t.intake.tags = [] ∧ t.hamper = {} ∧ t.glaze.credentials = s.glaze.credentials ∧
      t.trail.durable = s.trail.durable ∧ t.mgmt.slots = s.mgmt.slots))

/-- Messages of the PCIe attachment (R351, R355, R357 to R359; Tables 12.5, 12.6): a failed host read ends its
command; DOE holds one object; SPDM's measurements are signed and at most two sessions open; IDE keys make the stream
Secure once both directions use one, a stop or an integrity failure ends that; configuration requests get Retry Status
until PCIe ready and wait in a non-operational state. -/
def Obligations.PcieMessages : Prop :=
  (∀ (t aer : Nat) (s : State), aer ≤ 3 → (s.tag t).fate = 0 →
    let p := s.portOf (s.tag t).inst
    ((s.tag t).stage = .staged ∨ (s.tag t).stage = .inFlight → exec (.pcieReadError t aer) s =
      .next (((s.failTag t Status.dataTransferError).modPort p fun x => { x with aer := aer :: x.aer }).reportHost
        (0x1E0 + p) 0x51 aer 0 true)) ∧
    ((s.tag t).stage = .staged →
      s.failTag t Status.dataTransferError = (s.discardDescs t (s.tag t).gen).postTag t Status.dataTransferError 0) ∧
    ((s.tag t).stage = .inFlight → (s.tag t).cmd.fwNeed ≠ 0 → s.failTag t Status.dataTransferError =
      ((s.failWrite (s.tag t).seq (holeReason Status.dataTransferError)).discardDescs t (s.tag t).gen).postTag t
        Status.dataTransferError 0)) ∧
  (∀ (i : Nat) (s : State), s.doeOn i = true →
    (∀ o, (s.doe i).object = none → o.length ≤ 4096 → (o.headD 0) % 65536 = 1 →
      (bits (o.headD 0) 16 8 = 1 ∨ bits (o.headD 0) 16 8 = 2 → ∃ t, exec (.doeObject i o) s = .next t ∧
        (t.doe i).object = some o ∧ t = { s with pcie := t.pcie }) ∧
      (bits (o.headD 0) 16 8 = 0 → ∃ t w, exec (.doeObject i o) s = .next t ∧ t.out = .reply Port.doe [i, o.headD 0, 3, w] :: s.out)) ∧
    (∀ o, (s.doe i).object ≠ none ∨ 4096 < o.length → exec (.doeObject i o) s = .next s) ∧
    exec (.doeAbort i) s = .next (s.modDoe i fun b => { b with object := none }) ∧
    (∀ n, ∃ t, exec (.spdmGetMeasurements i n) s = .next t ∧ t = { s with pcie := t.pcie, out := t.out } ∧
      (s.identityKey = none → t.out = .reply Port.doe [i, 0x7F, 0x05] :: s.out) ∧
      (∀ k, s.identityKey = some k → ∃ m, m.length = 6 ∧
        t.out = .reply Port.doe (i :: 0x60 :: m ++ [n, Config.sign k (Config.sha384 (n :: m))]) :: s.out)) ∧
    (∀ k b, s.identityKey = some k → (s.doe i).sessions.length < 2 → ∃ t, exec (.spdmRequest i 0xE4 0 b) s = .next t ∧
      (t.doe i).sessions = (s.doe i).sessions ++ [(s.doe i).nextSession] ∧ t = { s with pcie := t.pcie, out := t.out }) ∧
    (∀ k b, s.identityKey = some k → 2 ≤ (s.doe i).sessions.length →
      exec (.spdmRequest i 0xE4 0 b) s = .next (s.doeReply i [0x7F, 0x0A])) ∧
    (∀ n b, n ∉ (s.doe i).sessions → ∀ c, c = 0xE5 ∨ c = 0xE8 ∨ c = 0xE9 ∨ c = 0xEC →
      exec (.spdmRequest i c n b) s = .next (s.doeReply i [0x7F, 0x02]))) ∧
  (∀ (ses ks d key : Nat) (s : State), s.doeOn 0 = true → s.boot.dualPort = false → ses ∈ (s.doe 0).sessions → ks ≤ 1 → d ≤ 1 →
    let x := s.pcie.ide
    let put := fun (y : Ide) => ({ s with pcie := { s.pcie with ide := y } } : State).ideRelease
    exec (.ideKmRequest ses 2 x.stream ks d key) s =
      .next ((put { x with keys := x.keys.set none (2 * ks + d) (some key) }).doeReply 0 [3, 0]) ∧
    (x.hasKey ks d = true → let y : Ide := { x with inUse := x.inUse.set none d (some ks) }
      exec (.ideKmRequest ses 4 x.stream ks d key) s = .next ((put y.settle).doeReply 0 [6, 0]) ∧
      (x.enabled = true → (x.inUse.get none (1 - d)).isSome = true → y.settle.secure = true)) ∧
    (x.inUse.get none d = some ks →
      let y : Ide := { x with inUse := x.inUse.set none d none, keys := x.keys.set none (2 * ks + d) none }
      exec (.ideKmRequest ses 5 x.stream ks d key) s = .next ((put y.settle).doeReply 0 [6, 0]) ∧
      (x.inUse.wf none = true → y.settle.secure = false)) ∧
    (∀ op, op = 2 ∨ op = 4 ∨ op = 5 → ∀ st, st ≠ x.stream →
      exec (.ideKmRequest ses op st ks d key) s = .next (s.doeReply 0 [if op = 2 then 3 else 6, 1])) ∧
    (x.hasKey ks d = false → exec (.ideKmRequest ses 4 x.stream ks d key) s = .next (s.doeReply 0 [6, 1])) ∧
    (∃ t, exec (.ideKmRequest ses 0 x.stream ks d key) s = .next t ∧
      t.out = .reply Port.doe [0, 1, x.stream, b2n x.enabled, b2n x.secure] :: s.out ∧ t.pcie.ide = x)) ∧
  (∀ (s : State), (s.pcie.ide.secure = false → exec .ideIntegrityCheckFailure s = .next s) ∧
    (s.pcie.ide.secure = true → exec .ideIntegrityCheckFailure s =
      .next ((s.ideInsecure.modPort 0 fun x => { x with aer := 4 :: x.aer }).report 0x1E0 0x51 4 0))) ∧
  (∀ (i v : Nat) (f : PField) (w : Bool) (s : State), i < 512 → (s.port (s.portOf i)).perst = false → (s.port (s.portOf i)).up = true →
    (s.boot.phase ≠ .ready → ∃ t, exec (.configurationRequest i f w v) s = .next t ∧
      t = { s with out := .reply Port.pcie [i, 2] :: s.out }) ∧
    (s.boot.phase = .ready → s.power.ps < 3 →
      exec (.configurationRequest i f true v) s = .next ((s.configWrite i f v).emit (.reply Port.pcie [i, 0])) ∧
      ∃ t, exec (.configurationRequest i f false v) s = .next t ∧
        t = { s with out := .reply Port.pcie (i :: 0 :: s.configRead i f) :: s.out }) ∧
    (s.boot.phase = .ready → 3 ≤ s.power.ps → 3 ≤ (s.wake 1).power.ps → exec (.configurationRequest i f w v) s = .next
      (let t := s.wake 1
       { t with power := { t.power with held := t.power.held ++ [(i, some (f, w, v))] } })))

/-- Power states chosen, entered and left (R102, R407, R410, R417 to R423; Tables 15.4 to 15.6): Set Features keeps
each instance's value and instance 0's is the choice; an entry starts only when intake is idle; a refusal is recorded
and backs off; work that arrives ends an entry, a message of a voting domain refuses it; reaching the state, waking,
the exit and a maintenance wake change what the sequencer shows and the state reported. -/
def Obligations.PowerStateRows : Prop :=
  (∀ (i cid ps : Nat) (s : State), s.takes i cid = true → let u := s.taken i cid;
    (4 < ps → exec (.setFeaturesPowerManagement i cid ps) s = .next (u.adminCqe i cid Status.invalidField 0)) ∧
    (ps ≤ 4 → i ≠ 0 → exec (.setFeaturesPowerManagement i cid ps) s =
      .next ((u.modInst i fun x => { x with powerFeature := ps }).adminCqe i cid 0 0))) ∧
  (∀ (cid ps : Nat) (s : State), s.takes 0 cid = true → let u := s.taken 0 cid;
    (ps < 3 → ∃ t, exec (.setFeaturesPowerManagement 0 cid ps) s = .next t ∧ t.power.ps = ps ∧ t.power.lastOp = ps ∧
      t.power.chosen = none ∧ t.flash = u.flash) ∧
    (3 ≤ ps → ps ≤ 4 → ∃ t, exec (.setFeaturesPowerManagement 0 cid ps) s = .next t ∧ t.power.ps = u.power.ps ∧
      t.power.chosen = some ps ∧ t.power.gaveUp = false ∧ t.flash = u.flash)) ∧
  (∀ (i cid v : Nat) (s : State), s.takes i cid = true → let u := s.taken i cid;
    (∀ on es, es.length ≤ 32 → (∀ e ∈ es, e.1 = 0 ∨ e.2 = 3 ∨ e.2 = 4) → exec (.setFeaturesApst i cid on es) s =
      .next ((u.modInst i fun x => { x with apstOn := on, apst := es }).adminCqe i cid 0 0)) ∧
    (∀ on es e, e ∈ es → e.1 ≠ 0 → e.2 < 3 → exec (.setFeaturesApst i cid on es) s = .next (u.adminCqe i cid Status.invalidField 0)) ∧
    (let sel := v / 65536
     let own := fun (x : Tab (Option Nat)) =>
      if sel = 15 then (x.set none 1 (some (v % 65536))).set none 2 (some (v % 65536)) else x.set none sel (some (v % 65536))
     (2 < sel → sel ≠ 15 → ∀ b, exec (.setFeaturesTemperatureThreshold i cid b v) s = .next (u.adminCqe i cid Status.invalidField 0)) ∧
     (sel ≤ 2 ∨ sel = 15 →
      exec (.setFeaturesTemperatureThreshold i cid true v) s =
        .next ((u.modInst i fun x => { x with underTemp := own x.underTemp }).adminCqe i cid 0 0) ∧
      exec (.setFeaturesTemperatureThreshold i cid false v) s =
        .next ((u.modInst i fun x => { x with overTemp := own x.overTemp }).adminCqe i cid 0 0)))) ∧
  (∀ (k : Nat) (r : Option (Nat × Nat)) (s : State),
    (s.entryOk = false → exec (.nonopEntryStart k r) s = .next s) ∧
    (s.entryOk = true → s.power.chosen = some k → s.power.backoff = none →
      exec (.nonopEntryStart k r) s = .next (s.entryStart k r) ∧
      (s.programsLeft = true → exec (.nonopEntryStart k r) s = .next s) ∧
      ∀ d why, s.programsLeft = false → r = some (d, why) → s.power.refusals + 1 < s.cfgOf Cfg.PWR_TRIES →
        s.cfgStaged = [] → ∃ t, exec (.nonopEntryStart k r) s = .next t ∧ t.power.entering = none ∧
          t.power.refusals = s.power.refusals + 1 ∧
          t.power.backoff = some (s.now + s.cfgOf Cfg.PWR_BACKOFF_MS * 2 ^ min s.power.refusals 6 * 100000) ∧ t.power.ps = s.power.ps) ∧
    (∀ b, s.power.backoff = some b → s.power.chosen = some k → s.now < b → exec (.entryBackoffRetry r) s = .next s) ∧
    (∀ b, s.power.backoff = some b → s.power.chosen = some k → b ≤ s.now → s.entryOk = false →
      exec (.entryBackoffRetry r) s = .next { s with power := { s.power with backoff := none, refusals := 0 } }) ∧
    (∀ b, s.power.backoff = some b → s.power.chosen = some k → b ≤ s.now → s.entryOk = true →
      exec (.entryBackoffRetry r) s = .next (s.entryStart k r)) ∧
    (s.apstState = none → exec (.apstIdleExpiry r) s = .next s) ∧
    (s.apstState = some k → s.entryOk = true → s.power.backoff = none → exec (.apstIdleExpiry r) s =
      .next (({ s with power := { s.power with chosen := some k } }).entryStart k r))) ∧
  (∀ (k : Nat) (ok : Bool) (s : State), s.power.entering = some k → s.trail.dumpMode = false →
    (s.diesIdle = false → exec (.nonopStateReached ok) s = .next s) ∧
    (s.diesIdle = true → s.intakeIdle = false → exec (.nonopStateReached ok) s = .next s.endEntry) ∧
    (∀ d, s.diesIdle = true → s.intakeIdle = true → s.faultVote = some d →
      exec (.nonopStateReached ok) s = .next ((s.setDomains 0).voteRefused d 1 k)) ∧
    (s.diesIdle = true → s.intakeIdle = true → s.faultVote = none → ∃ t, exec (.nonopStateReached ok) s = .next t ∧ t.power.ps = k ∧ t.power.entering = none ∧
      t.power.chosen = none ∧ t.power.refusals = 0 ∧ (ok = true → t.power.confirmed = 550) ∧
      (ok = false → t.power.confirmed = s.power.confirmed ∧ t.power.avsHeld = true) ∧ t.flash = s.flash ∧ t.zone = s.zone)) ∧
  (∀ (s : State), 3 ≤ s.power.ps → s.power.exiting = none → s.power.maint = none →
    (∃ t, exec .ps3Ps4Change s = .next t ∧ t.power.ps = (if s.power.ps = 3 then 4 else 3) ∧ t.flash = s.flash ∧ t.zone = s.zone) ∧
    (s.power.entering = none → ∀ c, c = 0 ∨ c = 1 ∨ c = 2 ∨ c = 3 ∨ c = 6 → ∃ t, exec (.wakeSource c) s = .next t ∧
      t.power.exiting = some (c, s.now) ∧ t.power.ps = s.power.ps ∧ t.power.avs = some { mv := s.power.running, at_ := s.now } ∧
      t.out = .reply Port.avs [0, s.power.running] :: s.out) ∧
    (s.now < s.power.sleptAt + s.cfgOf Cfg.PWR_MAINT_H * 360000000000 → exec .maintenanceWake s = .next s) ∧
    (s.power.sleptAt + s.cfgOf Cfg.PWR_MAINT_H * 360000000000 ≤ s.now → ∃ t, exec .maintenanceWake s = .next t ∧
      t.power.exiting = some (6, s.now) ∧ t.power.ps = s.power.ps ∧ t.power.avs = some { mv := s.power.running, at_ := s.now } ∧
      t.tenant = s.tenant)) ∧
  (∀ (k n c : Nat) (s : State),
    (s.power.entering = some k → (c = 0 ∨ c = 1 ∨ c = 2 ∨ c = 3 ∨ c = 6) → exec (.wakeSource c) s =
      .next ((State.setDomains { s with power := { s.power with entering := none } } 0).bump Reg.PWR_VOTE_COUNT_ABORTS)) ∧
    (s.power.exiting = some (c, n) → s.power.avs = none → s.power.confirmed = s.power.running →
      (c ≠ 6 → s.power.held = [] → ∃ t, exec .exitComplete s = .next t ∧ t.power.ps = s.power.lastOp ∧ t.power.exiting = none ∧
        t.power.heat = 0 ∧ t.flash = { s.flash with fiSilent := 0 } ∧ t.sieve = s.sieve) ∧
      (c = 6 → ∃ t, exec .exitComplete s = .next t ∧ t.power.ps = s.power.ps ∧ t.power.maint = some s.power.ps ∧
        t.power.exiting = none ∧ t.power.heat = 0 ∧ t.flash = { s.flash with fiSilent := 0 } ∧ t.tenant = s.tenant)) ∧
    (s.power.exiting = some (c, n) → s.power.confirmed ≠ s.power.running → exec .exitComplete s = .next s)) ∧
  (∀ (k : Nat) (r : Option (Nat × Nat)) (s : State), s.power.maint = some k → s.diesIdle = true →
    (s.intakeIdle = false ∨ s.programsLeft = true → exec (.maintenanceReentry r) s = .next s) ∧
    (s.intakeIdle = true → s.programsLeft = false → let f := ((s.flushAll.mapAll).park.trailRec .quiet).flushAll
      (r.or f.preCheck = none → ∃ t, exec (.maintenanceReentry r) s = .next t ∧ t.power.maint = none ∧ t.power.confirmed = 550) ∧
      (∀ d why, r = some (d, why) → exec (.maintenanceReentry r) s = .next (f.voteRefused d why k)))) ∧
  (∀ (st : Nat) (s : State), s.power.portWake = some st →
    let end_ := max s.power.wokenAt (max s.mgmt.smbusAt s.boot.frameAt) + 10000000
    (s.now < end_ → exec .wakeDomainIdleReturn s = .next s) ∧
    (end_ ≤ s.now → exec .wakeDomainIdleReturn s = .next { s with power := { s.power with
      portWake := none, domains := s.power.domains.upd {} 93 fun d => { d with st := st } } }))

/-- Domains and the regulator (R9, R413, R414, R421, R426 to R428; Tables 15.12, 15.13): an idle channel's or the
upper lanes' domain gates while CFG_PWR_IDLE_GATE is 1, and a request at its isolation gate wakes it and counts; one
voltage step at a time and a round, confirmed by its readback, whose failure is repeated once; the diodes add
heat-work in PS3 and PS4. -/
def Obligations.PowerDomainRows : Prop :=
  (∀ (d : Nat) (s : State),
    (s.cfgOf Cfg.PWR_IDLE_GATE = 1 → s.power.ps < 3 → (s.power.domains.get {} d).st = 0 →
      ((d < 64 ∧ s.channelIdle d = true) ∨ (d = 79 ∧ s.upperLanesIdle = true)) → ∃ t, exec (.domainIdleGate d) s = .next t ∧
      (t.power.domains.get {} d).st = 2 ∧ (t.power.domains.get {} d).idle = true ∧
      (∀ k, k ≠ d → t.power.domains.get {} k = s.power.domains.get {} k) ∧ t = { s with power := t.power }) ∧
    (s.cfgOf Cfg.PWR_IDLE_GATE ≠ 1 ∨ (64 ≤ d ∧ d ≠ 79) → exec (.domainIdleGate d) s = .next s) ∧
    (d ≤ 95 → s.power.ps < 3 → (s.power.domains.get {} d).st = 1 ∨ (s.power.domains.get {} d).st = 2 →
      (s.power.domains.get {} d).autoWakes < 65535 → ∃ t, exec (.isolationGateWake d) s = .next t ∧
      (t.power.domains.get {} d).st = 0 ∧ (t.power.domains.get {} d).autoWakes = (s.power.domains.get {} d).autoWakes + 1 ∧
      (∀ k, k ≠ d → t.power.domains.get {} k = s.power.domains.get {} k) ∧ t = { s with power := t.power }) ∧
    (3 ≤ s.power.ps → exec (.isolationGateWake d) s = .next s)) ∧
  (∀ (mv : Nat) (s : State),
    (s.power.avs = none → s.power.ps < 3 → s.power.entering = none → s.power.exiting = none → 600 ≤ mv → mv ≤ s.coreCeiling →
      mv % 5 = 0 → mv ≠ s.power.confirmed → s.cone.trip = false → s.cone.asked = false → ∃ t, exec (.avsStepRequest mv) s = .next t ∧
        t.power.avs = some { mv := mv, at_ := s.now } ∧ t.cone.asked = true ∧
        t.out = .reply Port.avs [0, mv] :: s.out ∧ t.power.confirmed = s.power.confirmed ∧ t.flash = s.flash) ∧
    (mv < 600 ∨ s.coreCeiling < mv ∨ s.power.avs.isSome = true ∨ s.cone.trip = true ∨ s.cone.asked = true →
      exec (.avsStepRequest mv) s = .next s)) ∧
  (∀ (a : AvsStep) (x : AvsAnswer) (s : State), s.power.avs = some a →
    (s.avsDue a x = false → exec (.avsStepResult x) s = .next s) ∧
    (s.avsDue a x = true →
      (avsConfirms x a.mv = true → a.retried = false →
        exec (.avsStepResult x) s = .next ((s.emit (.reply Port.avs [1])).avsConfirmed a.mv)) ∧
      (avsConfirms x a.mv = true → a.retried = true → exec (.avsStepResult x) s = .next
        ((((s.emit (.reply Port.avs [1])).avsConfirmed a.mv).bump Reg.PWR_AVS_FAIL_RETRIES).reportTransient 0x302 0x48 a.mv)) ∧
      (avsConfirms x a.mv = false → a.retried = false → ∃ t, exec (.avsStepResult x) s = .next t ∧
        t.power.avs = some { mv := a.mv, at_ := s.now, retried := true } ∧ t.power.confirmed = s.power.confirmed ∧
        t = { s with power := t.power, out := t.out }) ∧
      (avsConfirms x a.mv = false → a.retried = true → let t := s.avsRead x false
        exec (.avsStepResult x) s = .next ((State.bump { t with power := { t.power with avs := none, failedAt := t.now } }
          Reg.PWR_AVS_FAIL_FAILURES).report 0x302 0x48 a.mv 2)))) ∧
  (∀ (x : AvsAnswer) (s : State), s.power.exiting.isSome = true → s.power.avs = none → s.power.confirmed ≠ s.power.running →
    (s.now < s.power.failedAt + 100000 → exec (.avsExitRetry x) s = .next s) ∧
    (s.power.failedAt + 100000 ≤ s.now → ∃ t, exec (.avsExitRetry x) s = .next t ∧ t.power.exiting = s.power.exiting ∧
      t.power.ps = s.power.ps ∧
      (avsConfirms x s.power.running = true → t.power.confirmed = s.power.running) ∧
      (avsConfirms x s.power.running = false → t.power.confirmed = s.power.confirmed ∧ t.power.failedAt = s.now))) ∧
  (∀ (a b : Int) (s : State), (s.power.ps < 3 → exec (.aonDiodeRead a b) s = .next s) ∧
    (3 ≤ s.power.ps → ∃ t, exec (.aonDiodeRead a b) s = .next t ∧ t.cone.diode0 = a * 125 ∧ t.cone.diode1 = b * 125 ∧
      t.power.heat = s.power.heat + af256 (s.cfgOf Cfg.MEDIA_FI_EA) ((max a b + 323) / 4).toNat ∧ t.zone = s.zone))

/-- A management read (R9, R414): in a domain that is off it returns FFFFFFFFh and sets PWR_STATUS.OFFREAD; in a
running one it returns the register's value and changes nothing. -/
def Obligations.OffDomainRead : Prop :=
  ∀ (o : Nat) (s : State),
    (s.domainOff (s.regDomain o) = true → s.tablesCanonical = true → ∃ t, exec (.offDomainRead o) s = .next t ∧
      t.out = .reply Port.register [o, 0xFFFFFFFF] :: s.out ∧ t.reg Reg.PWR_STATUS_OFFREAD = 1 ∧
      (∀ k, k ≠ Reg.PWR_STATUS_OFFREAD → t.reg k = s.reg k) ∧ t = { s with regs := t.regs, out := t.out }) ∧
    (s.domainOff (s.regDomain o) = false → ∃ t, exec (.offDomainRead o) s = .next t ∧
      t = { s with out := .reply Port.register [o, s.readReg o] :: s.out })

/-- Cone (R432 to R438, R440 to R443, R408; Tables 16.1 to 16.5): a round that is accepted ends the count of discarded
ones and takes its readings, a discarded one counts, and the third in a row puts f at its floor; the throttle message
carries f and g; the die readings of a second give the NAND temperature, the diodes anchor every node; each second is
counted into its bin; a trip asserts the pin and is Grave. -/
def Obligations.ThermalRows : Prop :=
  (∀ (a : AdcRound) (s : State), (s.power.ps = 4 → s.power.maint = none → exec (.housekeepingRound a) s = .next s) ∧
    (s.power.ps ≠ 4 ∨ s.power.maint.isSome = true →
      let u := (State.noteStress { s with cone := { s.cone with asked := false } } a.rails).roundFigures
      ∃ t, exec (.housekeepingRound a) s = .next t ∧
        (a.ok = true → t.cone.discarded = 0 ∧ t.cone.rings = a.rings ∧ t.cone.started = true ∧
          t.cone.power = (a.currents.zipIdx.map fun x => x.1 * u.domainMv a x.2 / 1000) ∧
          t.cone.diode0 = a.diode0 * 125 ∧ t.cone.diode1 = a.diode1 * 125) ∧
        (a.ok = false → t.cone.discarded = u.cone.discarded + 1 ∧ t.cone.nodes = u.cone.nodes ∧ t.cone.hot = u.cone.hot ∧
          (u.cone.discarded < 2 → t.cone.f = u.cone.f) ∧ (2 ≤ u.cone.discarded → t.cone.f = t.cfgOf Cfg.CONE_FLOOR)) ∧
        (u.asleep = false → t.intake.f = t.cone.f ∧ t.intake.g = t.power.g))) ∧
  (∀ (ts : List (Nat × Int)) (s : State),
    (s.readingsOf ts = [] → exec (.dieTemperatureReadings ts) s = .next s) ∧
    (s.readingsOf ts ≠ [] → ∃ t, exec (.dieTemperatureReadings ts) s = .next t ∧
      t = { s.postBack 2 ((s.readingsOf ts).map fun x => x.2) with cone := t.cone } ∧
      (∃ x ∈ s.readingsOf ts, t.cone.nand = x.2 * 125) ∧ ∀ x ∈ s.readingsOf ts, x.2 * 125 ≤ t.cone.nand)) ∧
  (∀ (d0 d1 : Int) (s : State), s.cone.failed = [] →
    let e0 := d0 * 125 - s.cone.nodes.get 0 8
    let e1 := d1 * 125 - s.cone.nodes.get 0 3
    (-320 ≤ d0 → d0 ≤ 1200 → -320 ≤ d1 → d1 ≤ 1200 → ∃ t, exec (.diodeAnchor d0 d1) s = .next t ∧
      t.cone.base = s.cone.base + max e0 e1 ∧ t.cone.residual = (e0 - e1).natAbs ∧ t.cone.dieTemps = [] ∧
      (∀ i, i < 24 → t.cone.nodes.get 0 i = s.cone.nodes.get 0 i + max e0 e1) ∧ t.cone.failed = [] ∧ t.zone = s.zone) ∧
    (d0 < -320 ∨ 1200 < d0 → -320 ≤ d1 → d1 ≤ 1200 → ∃ t, exec (.diodeAnchor d0 d1) s = .next t ∧ t.cone.failed = [0] ∧
      t.cone.base = s.cone.base + e1 ∧ ∀ i, i < 24 → t.cone.nodes.get 0 i = s.cone.nodes.get 0 i + e1)) ∧
  (∀ (s : State), ∃ t, exec .temperatureHistoryTick s = .next t ∧ t.cone.lifeSecs = s.cone.lifeSecs + 1 ∧
    t.cone.lifeSum = s.cone.lifeSum + s.cone.hot ∧
    t.cone.hist.get 0 (tempBin s.cone.hot) = min (2 ^ 32 - 1) (s.cone.hist.get 0 (tempBin s.cone.hot) + 1) ∧
    (∀ b, b ≠ tempBin s.cone.hot → t.cone.hist.get 0 b = s.cone.hist.get 0 b) ∧ t.zone = s.zone ∧ t.power = s.power) ∧
  (∀ (w : Nat) (s : State),
    (s.cone.trip = true ∨ 25 < w ∨ (24 ≤ w ∧ w - 24 ∈ s.cone.failed) → exec (.thermalTrip w) s = .next s) ∧
    (s.cone.trip = false → w ≤ 25 → (24 ≤ w → w - 24 ∉ s.cone.failed) → ∃ t, exec (.thermalTrip w) s = .next t ∧
      t.cone.trip = true ∧ t.fault.grave = true ∧ .reply Port.pin [0] ∈ t.out ∧ t.glaze = s.glaze))

/-- Fault messages (R447 to R455; Tables 17.1, 17.3, 17.5, 17.13): each counts against its source; a Degraded or
Severe one starts the handler, whose actions its class names; a Grave one starts the Grave state at once; when the
queue is full the port holds one; injection takes no class above Degraded and no alarm; the first-source latch clears
as a whole. -/
def Obligations.FaultRows : Prop :=
  (∀ (w : Nat) (s : State), let m := Msg.ofWord w
    let c := countedSource m.source
    (alarmSource m.source = true →
      exec (.faultMessage w) s = .next ((s.fltMsg m).zeroize (m.source - 0x1C0))) ∧
    (alarmSource m.source = false → m.cls = 3 ∨ s.fault.queue.length < 256 → ∃ t, exec (.faultMessage w) s = .next t ∧
      (t.src c).count = min (2 ^ 32 - 1) ((s.src c).count + 1) ∧ (t.src c).lastKind = m.kind ∧
      (∀ k, k ≠ c → t.src k = s.src k) ∧ (m.cls = 3 → t.fault.grave = true) ∧
      (m.cls < 3 → t.fault.grave = s.fault.grave ∧ t.zone = s.zone ∧ t.flash = s.flash ∧ t.trail = s.trail) ∧
      (m.cls = 1 ∨ m.cls = 2 → s.fault.handler = none → ∃ h, t.fault.handler = some h ∧ h.source = m.source ∧ m.cls ≤ h.cls) ∧
      (m.cls < 3 → ∀ h, s.fault.handler = some h → t.fault.handler = some h ∧
        t.fault.queue.length = s.fault.queue.length + 1)) ∧
    (alarmSource m.source = false → m.cls < 3 → 256 ≤ s.fault.queue.length → (s.src c).held = none →
      exec (.faultMessage w) s = .next (s.modSrc c fun x => { x with held := some m }))) ∧
  (∀ (s : State), (s.fault.handler = none → exec .faultHandler s = .next s) ∧
    (∀ m, s.fault.handler = some m → (∀ x ∈ s.fault.srcs, x.2.held = none) →
      (s.fault.grave = true → exec .faultHandler s = .next { s with fault := { s.fault with
        handler := (nextHandled s.fault.queue).1, queue := (nextHandled s.fault.queue).2 } }) ∧
      (s.fault.grave = false → ∃ t, exec .faultHandler s = .next t ∧ t.fault.handler = (nextHandled s.fault.queue).1 ∧
        t.fault.queue = (nextHandled s.fault.queue).2 ∧
        t.fault.degradedCount = s.fault.degradedCount + (if m.cls = 1 then 1 else 0) ∧
        t.mgmt.severeCount = s.mgmt.severeCount + (if m.cls = 2 then 1 else 0) ∧
        (m.cls = 2 → t.klog.teleCtrl.isSome = true) ∧ t.zone = s.zone))) ∧
  (∀ (s : State), (s.fault.grave = false ∨ s.fault.graveStopped = true ∨ s.graveStepDue = false → exec .graveStopIsolate s = .next s) ∧
    (s.fault.grave = true → s.fault.graveStopped = false → s.graveStepDue = true → ∃ t, exec .graveStopIsolate s = .next t ∧
      t.fault.graveStopped = true ∧ t.fault.graveHold = true ∧ t.fault.lines.stop = true ∧ t.fault.lines.isolate = true ∧
      t.intake.stopped = true ∧ t.flash.closed = List.range 8 ∧ (∀ d, d < 96 → holdsPower d = false → (t.power.domains.get {} d).st = 3) ∧
      (∀ d, holdsPower d = true → t.power.domains.get {} d = s.power.domains.get {} d) ∧ t.zone = s.zone)) ∧
  (∀ (w : Nat) (s : State), (1 < (Msg.ofWord w).cls ∨ alarmSource (Msg.ofWord w).source = true →
      exec (.faultInject w) s = .next s) ∧
    ((Msg.ofWord w).cls ≤ 1 → alarmSource (Msg.ofWord w).source = false → s.fault.queue.length < 256 → ∃ t,
      exec (.faultInject w) s = .next t ∧ (t.src (countedSource (Msg.ofWord w).source)).lastKind = (Msg.ofWord w).kind ∧
      t.fault.grave = s.fault.grave ∧ t.zone = s.zone)) ∧
  (∀ (s : State), s.tablesCanonical = true → ∃ t, exec .firstSourceClear s = .next t ∧ t.reg Reg.FLT_FIRST_CTRL_VALID = 0 ∧
    t.reg Reg.FLT_FIRST_CTRL_OVERFLOW = 0 ∧ t.reg Reg.FLT_FIRST_CTRL_GRAVE_LATER = 0 ∧
    (∀ k, k ≠ Reg.FLT_FIRST_CTRL_VALID → k ≠ Reg.FLT_FIRST_CTRL_OVERFLOW → k ≠ Reg.FLT_FIRST_CTRL_GRAVE_LATER → t.reg k = s.reg k) ∧
    t = { s with regs := t.regs })

/-- The Kiln Log (R457, R459; Table 17.14): the oldest unsaved records become one segment, once the area can be
programmed and a segment is due or asked for; every code's bucket gets a token; a capture shows the newest record with
the sequence. -/
def Obligations.KilnRows : Prop :=
  (∀ (s : State),
    (s.areaOn = false → exec .klogPersistSegment s = .next s ∧
      exec .persistNow s = .next { s with klog := { s.klog with persistDue := true } }) ∧
    (s.segmentDue = false → exec .klogPersistSegment s = .next s) ∧
    (s.areaOn = true → (s.segmentDue = true → exec .klogPersistSegment s = exec .persistNow s) ∧
      ((s.klog.ring.filter fun r => !r.saved) = [] →
        exec .persistNow s = .next { s with klog := { s.klog with persistDue := false } }) ∧
      ∀ r l, (s.klog.ring.filter fun r => !r.saved) = r :: l → r.length ≤ segmentRoom → ∃ t g rest,
        exec .persistNow s = .next t ∧ t.klog.segments = g :: rest ∧ (∀ x ∈ g.recs, x.saved = true) ∧
        (∃ x l, g.recs = x :: l ∧ x = { r with saved := true }) ∧ t.klog.segSeq = g.seq + 1 ∧ t.klog.segAt = s.now ∧
        t.klog.ring.length = s.klog.ring.length ∧ t.zone = s.zone ∧ t.fault = s.fault) ∧
    (Tab.wf 0 s.klog.spent = true → ∃ t, exec .klogTokenRefill s = .next t ∧
      (∀ c, t.klog.spent.get 0 c = s.klog.spent.get 0 c - 1) ∧ t.klog.ring = s.klog.ring ∧ t = { s with klog := t.klog })) ∧
  (∀ (q : Nat) (s : State), s.tablesCanonical = true → q < 65536 → ∃ t, exec (.klogRecordCapture q) s = .next t ∧
    ((∀ r ∈ s.klog.ring, r.seq ≠ q) → t.klog.captured = none ∧ t.reg Reg.KLOG_RD_SEQ_READY = 0 ∧ t.reg Reg.KLOG_RD_SEQ_MISSING = 1) ∧
    ((∃ r ∈ s.klog.ring, r.seq = q) → (∃ r ∈ s.klog.ring, r.seq = q ∧ t.klog.captured = some r) ∧
      t.reg Reg.KLOG_RD_SEQ_READY = 1 ∧ t.reg Reg.KLOG_RD_SEQ_MISSING = 0) ∧
    t.klog.ring = s.klog.ring ∧ t = { s with klog := t.klog, regs := t.regs })

/-- The configuration mailbox (R8, R463 to R469; Tables 18.2 to 18.4): one image session at a time, whose pieces
follow one another; a commit with a complete and valid image puts it in the slot that is not in force; fields are
read, and written by their kind; the mode of the next namespace is set; a timeout ends the session; a doorbell while
BUSY sets ERR; the answer stands in the mailbox's registers, or goes out on the Service Port. -/
def Obligations.ConfigurationRows : Prop :=
  (∀ (p : Nat) (s : State), s.mbxOn p = true →
    let room := if p = 0 then 4096 else 4078
    let answers := fun (c : Instr) (t : State) (st : Nat) (l : List Nat) => exec c s = .next (t.mbxAnswer p st l)
    let session := fun (x : Option CfgSession) => ({ s with mgmt := { s.mgmt with session := x } } : State)
    (∀ h n, n < 256 ∨ room < n → answers (.imageBegin p h n) s 3 []) ∧
    (∀ h n, 256 ≤ n → n ≤ room →
      (s.mgmt.session.isSome = true ∨ s.boot.shut.isSome = true → answers (.imageBegin p h n) s 1 []) ∧
      (s.mgmt.session = none → s.boot.shut = none →
        (s.cfgHeaderOk h = false → answers (.imageBegin p h n) s 7 []) ∧
        (s.cfgHeaderOk h = true → answers (.imageBegin p h n)
          (session (some { path := p, hdr := h, got := n, recs := [], at_ := s.now })) 0 []))) ∧
    (∀ x, s.mgmt.session = some x → x.path = p →
      (∀ o n l, o ≠ x.got → answers (.imageChunk p o n l) s 9 []) ∧
      (∀ n l, room < 4 + n ∨ x.hdr.length < x.got + n → answers (.imageChunk p x.got n l) s 3 []) ∧
      (∀ n l, 4 + n ≤ room → x.got + n ≤ x.hdr.length → answers (.imageChunk p x.got n l)
        (session (some { x with got := x.got + n, recs := x.recs ++ l, at_ := s.now })) 0 []) ∧
      answers (.imageAbort p) (session none) 0 [] ∧
      (∀ c, x.got ≠ x.hdr.length → answers (.imageCommit p c) (session none) 9 []) ∧
      (∀ c, x.got = x.hdr.length →
        (s.cfgChainOk x.hdr c = false → answers (.imageCommit p c) (session none) 8 []) ∧
        (s.cfgChainOk x.hdr c = true →
          (s.imageStatus x.recs ≠ 0 → answers (.imageCommit p c) (session none) (s.imageStatus x.recs) []) ∧
          (s.imageStatus x.recs = 0 →
            let t : State := { s with mgmt := { s.mgmt with
              slots := s.mgmt.slots.set none s.otherCfgSlot (some { hdr := x.hdr, recs := x.recs, chain := c })
              inForce := some s.otherCfgSlot, forceAt := s.now, staticWait := s.staticDiff x.recs, session := none } }
            answers (.imageCommit p c) (t.imageInForce x.recs) 0 (le 4 (s.staticDiff x.recs)))))) ∧
    (s.mgmt.session = none → ∀ o n l c, answers (.imageChunk p o n l) s 9 [] ∧ answers (.imageCommit p c) s 9 [] ∧
      answers (.imageAbort p) s 9 []) ∧
    (∀ l, recsLen l true ≤ room →
      (l.all recKnown = false → answers (.fieldRead p l) s 4 []) ∧
      (l.all recKnown = true →
        answers (.fieldRead p l) s 0 (l.flatMap fun r => recordBytes r.id r.idx (s.cfgAt r.id r.idx))) ∧
      (s.recsStatus l s.named ≠ 0 → answers (.fieldWrite p l) s (s.recsStatus l s.named) (le 4 0))) ∧
    (∀ r f, s.recsStatus [r] s.named = 0 → cfgInfo r.id = some f →
      (f.kind = .live → answers (.fieldWrite p [r])
        (((s.beforeLive r.id).setCfg r.id r.idx r.value).afterLive r.id r.value) 0 (le 4 0)) ∧
      (f.kind = .window → answers (.fieldWrite p [r]) (s.setCfg r.id r.idx r.value) 0 (le 4 0)) ∧
      (f.kind = .static → s.cfgAt r.id r.idx ≠ r.value → answers (.fieldWrite p [r])
        (s.report (ownerSource r.id) 0x50 (2 ^ 39 + r.id) 0) 6 (le 4 1)) ∧
      (f.kind ≠ .live → f.kind ≠ .static → f.kind ≠ .window → answers (.fieldWrite p [r])
        { s with cfgStaged := s.cfgStaged.set none (cfgKey r.id r.idx) (some r.value) } 0 (le 4 0))) ∧
    (∀ m, (m < 4 → ∃ x, answers (.nsModeSet p m) { s with zone := { s.zone with nextMode := some x } } 0 []) ∧
      (4 ≤ m → answers (.nsModeSet p m) s 5 []))) ∧
  (∀ (st : Nat) (l : List Nat) (s : State),
    s.mbxAnswer 1 st l = { s with out := .reply Port.service (le 2 st ++ l) :: s.out } ∧
    (s.tablesCanonical = true → s.reg Reg.CFG_MBX_CTRL_IEN = 0 → let t := s.mbxAnswer 0 st l
      t.reg Reg.CFG_MBX_STATUS_RSP_STATUS = st ∧ t.reg Reg.CFG_MBX_RSP_RSP_LENGTH = l.length ∧
      t.reg Reg.CFG_MBX_RSP_RSP_SEQUENCE = s.reg Reg.CFG_MBX_HDR0_SEQUENCE ∧ t.reg Reg.CFG_MBX_STATUS_BUSY = 0 ∧
      t.reg Reg.CFG_MBX_STATUS_DONE = 1 ∧ t.mgmt = s.mgmt ∧ t.cfg = s.cfg ∧ t.zone = s.zone)) ∧
  (∀ (k : Nat) (s : State),
    (s.mbxOn 0 = true → k ∈ [1, 2, 3, 4, 0x10, 0x11, 0x20] → exec (.cfgMbxBadDoorbell k) s = .next (s.setReg Reg.CFG_MBX_STATUS_ERR 1)) ∧
    (s.mbxOn 0 = true → k ∉ [1, 2, 3, 4, 0x10, 0x11, 0x20] → exec (.cfgMbxBadDoorbell k) s = .next (s.mbxAnswer 0 2 [])) ∧
    (∀ x, s.mgmt.session = some x →
      (s.now < x.at_ + s.cfgOf Cfg.MGMT_SESSION_S * 100000000 → exec .imageSessionTimeout s = .next s) ∧
      (x.at_ + s.cfgOf Cfg.MGMT_SESSION_S * 100000000 ≤ s.now →
        exec .imageSessionTimeout s = .next { s with mgmt := { s.mgmt with session := none } })) ∧
    exec .stewardMailboxTimeout s = .next (s.report 0x300 0x54 0 2))

/-- NVMe-MI (R470 to R472): Basic Management Command is answered in every state; a command is answered while its
transport is up and not paused, with Internal Error where the part cannot; the control primitives, the configuration,
the VPD, the polls and a reset do what they say; a frame while the part runs wakes nothing. -/
def Obligations.NvmeMiRows : Prop :=
  (∀ (s : State), s.boot.phase ≠ .fresh → s.boot.io33Low = false → let u := s.miFrame 0
    exec .miBasicManagementCommand s = .next { u with
      out := .reply Port.smbus [u.statusFlags, 255 - u.criticalWarning 0, (u.cone.nand / 1000).toNat, u.worstUsed] :: u.out }) ∧
  (∀ (s : State), s.power.ps < 3 → s.power.entering = none →
    s.miFrame 0 = { s with mgmt := { s.mgmt with smbusAt := s.now } } ∧ s.miFrame 1 = s) ∧
  (∀ (tr : Nat) (l : List Nat) (s : State), s.miReply tr l = { s with
    mgmt := { s.mgmt with miLast := s.mgmt.miLast.set [] tr l }
    out := .reply (if tr = 0 then Port.smbus else Port.pcie) l :: s.out }) ∧
  (∀ (tr : Nat) (s : State), s.miUp tr = true → tr ∉ s.mgmt.miPaused → let u := s.miFrame tr
    u.boot.phase = .ready → u.fault.graveStopped = false →
    let answers := fun (c : Instr) (t : State) (l : List Nat) => exec c s = .next (t.miReply tr l)
    (∀ a n, answers (.miKilnLogRead tr a n) u (0 :: u.kilnRead a n)) ∧
    (∀ sub, let c := b2n (decide (u.statusFlags * 256 + u.criticalWarning 0 ≠ u.mgmt.miChanged))
      answers (.miHealthStatusPoll tr sub false) u (0 :: c :: u.healthWord sub) ∧
      answers (.miHealthStatusPoll tr sub true)
        { u with mgmt := { u.mgmt with miChanged := u.statusFlags * 256 + u.criticalWarning 0 } } (0 :: c :: u.healthWord sub)) ∧
    (∀ k, (k ≤ 4 → ∃ l, answers (.miReadDataStructure tr k) u (0 :: l)) ∧
      (5 ≤ k → answers (.miReadDataStructure tr k) u [4])) ∧
    (∀ k p, (1 ≤ k → k ≤ 3 → p ≤ 1 →
        answers (.miConfigurationGet tr k p) u [0, u.mgmt.miConfig.get (if k = 3 then 64 else 1) (2 * k + p)]) ∧
      (k < 1 ∨ 3 < k ∨ 1 < p → answers (.miConfigurationGet tr k p) u [4])) ∧
    (∀ k p v, (p ≤ 1 → miConfigOk k v = true → k ≠ 2 → answers (.miConfigurationSet tr k p v)
        { u with mgmt := { u.mgmt with miConfig := u.mgmt.miConfig.set (if k = 3 then 64 else 1) (2 * k + p) v } } [0]) ∧
      (miConfigOk k v = false ∨ 1 < p → answers (.miConfigurationSet tr k p v) u [4])) ∧
    (∀ o n, (o + n ≤ 256 →
        answers (.miVpdRead tr o n) u (0 :: (List.range n).map fun k => u.mgmt.vpd.get 0xFF (o + k))) ∧
      (256 < o + n → answers (.miVpdRead tr o n) u [4])) ∧
    (∀ o v, o < 256 → answers (.miVpdWrite tr o [v])
        { u with mgmt := { u.mgmt with vpd := u.mgmt.vpd.set 0xFF o (v % 256) } } [0]) ∧
    (∀ o l, 256 < o + l.length → answers (.miVpdWrite tr o l) u [4]) ∧
    exec (.miReset tr) s = .next ((u.miReply tr [0]).beginDeviceReset false) ∧
    (u.running = true →
      (∀ ms, u.adminBusy 0x09 = false → answers (.miTunnelledAdmin tr 0x09 [0x0E, ms]) (u.setTimestamp ms) [0, 0]) ∧
      ∀ a, answers (.miTunnelledAdmin tr 0x7F a) u [0, Status.invalidOpcode])) ∧
  (∀ (tr : Nat) (s : State), s.miUp tr = true → s.boot.phase ≠ .bisque →
    let port := if tr = 0 then Port.smbus else Port.pcie
    let u := s.miFrame tr
    (∃ t, exec (.miControlPrimitive tr 0 0) s = .next t ∧ tr ∈ t.mgmt.miPaused ∧ t.out = .reply port [0, 0] :: u.out) ∧
    (∃ t, exec (.miControlPrimitive tr 1 0) s = .next t ∧ tr ∉ t.mgmt.miPaused ∧ t.out = .reply port [0, 1] :: u.out) ∧
    (∃ t, exec (.miControlPrimitive tr 3 0) s = .next t ∧ t.mgmt = u.mgmt ∧
      t.out = .reply port [0, 3, b2n (u.mgmt.miPaused.contains tr)] :: u.out) ∧
    (∃ t, exec (.miControlPrimitive tr 4 0) s = .next t ∧ t.mgmt = u.mgmt ∧
      t.out = .reply port (u.mgmt.miLast.get [] tr) :: u.out)) ∧
  (∀ (tr a n k : Nat) (s : State), s.miUp tr = true → let u := s.miFrame tr
    (tr ∈ s.mgmt.miPaused → exec (.miKilnLogRead tr a n) s = .next u ∧ exec (.miReadDataStructure tr k) s = .next u) ∧
    (tr ∉ s.mgmt.miPaused → u.fault.graveStopped = true → u.boot.phase = .ready →
      exec (.miReadDataStructure tr k) s = .next (u.miReply tr [2]) ∧
      exec (.miKilnLogRead tr a n) s = .next (u.miReply tr (0 :: u.kilnRead a n))))

/-- Firmware slots and the Boot Area (R485, R492 to R496; Tables 19.8, 19.11): only instance 0 downloads and commits;
pieces are staged without overlap; a commit whose signatures hold writes the slot that is not running as Valid or
Trial, or selects a slot, at once when asked; naming the running slot cancels a Trial; an hour of operation confirms a
Trial and advances the counter; a failed Boot Area block takes the spare, then its copy is lost. -/
def Obligations.FirmwareRows : Prop :=
  (∀ (i cid o n : Nat) (h : FwHeader) (s : State), s.takes i cid = true → let u := s.taken i cid;
    (i ≠ 0 → exec (.firmwareImageDownload i cid o n h) s = .next (u.adminCqe i cid Status.invalidOpcode 0) ∧
      ∀ k a c, exec (.firmwareCommit i cid k a c) s = .next (u.adminCqe i cid Status.invalidOpcode 0)) ∧
    (i = 0 → u.boot.staging = none → u.fwHeaderOk h = true → 512 ≤ n → n ≤ h.length → n % 4096 = 0 →
      exec (.firmwareImageDownload i cid 0 n h) s =
        .next ((u.setStaging (some { path := 1, hdr := h, pieces := [(0, n)], at_ := u.now })).adminCqe 0 cid 0 0)) ∧
    (i = 0 → u.fwHeaderOk h = false → u.boot.staging = none →
      exec (.firmwareImageDownload i cid 0 n h) s = .next ((u.setStaging none).adminCqe 0 cid 0x107 0)) ∧
    (∀ x, i = 0 → u.boot.staging = some x → x.path = 1 → o ≠ 0 → o + n ≤ x.hdr.length →
      (x.overlaps o n = true → exec (.firmwareImageDownload i cid o n h) s = .next (u.adminCqe 0 cid 0x114 0)) ∧
      (x.overlaps o n = false → o % 4096 = 0 → n % 4096 = 0 → exec (.firmwareImageDownload i cid o n h) s =
        .next ((u.setStaging (some { x with pieces := x.pieces ++ [(o, n)], at_ := u.now })).adminCqe 0 cid 0 0)))) ∧
  (∀ (cid k : Nat) (s : State), s.takes 0 cid = true → let u := s.taken 0 cid;
    (∀ a c, 4 ≤ a → exec (.firmwareCommit 0 cid k a c) s = .next (u.adminCqe 0 cid Status.invalidField 0)) ∧
    (∀ a c, a < 4 → 2 < k → exec (.firmwareCommit 0 cid k a c) s = .next (u.adminCqe 0 cid 0x106 0)) ∧
    (∀ a c, exec (.firmwareCommit 0 cid 0 a c) s = exec (.firmwareCommit 0 cid (otherSlot u.boot.running) a c) s) ∧
    (∀ a c, a ≤ 1 → k = u.boot.running → k = 1 ∨ k = 2 → exec (.firmwareCommit 0 cid k a c) s = .next (u.adminCqe 0 cid 0x106 0)) ∧
    (∀ c, k = u.boot.running → k = 1 ∨ k = 2 → exec (.firmwareCommit 0 cid k 2 c) s =
      .next ((if (u.fwSlot (otherSlot k)).st = slotTrial then u.markSlot (otherSlot k) slotValid else u).adminCqe 0 cid 0 0)) ∧
    (k = 1 ∨ k = 2 → k ≠ u.boot.running →
      (∀ x c, u.boot.staging = some x → x.path = 1 → x.complete = true → u.fwCounter ≤ x.hdr.rollback →
        (u.fwChainOk x.hdr c = true →
          (∃ t, exec (.firmwareCommit 0 cid k 0 c) s = .next t ∧ (t.fwSlot k).st = slotValid ∧ (t.fwSlot k).hdr = x.hdr ∧
            (t.fwSlot k).chain = c ∧ t.boot.staging = none ∧ (∀ j, j ≠ k → t.fwSlot j = u.fwSlot j) ∧
            t.boot.running = u.boot.running ∧ t.zone = u.zone) ∧
          (∃ t, exec (.firmwareCommit 0 cid k 1 c) s = .next t ∧ (t.fwSlot k).st = slotTrial ∧ (t.fwSlot k).hdr = x.hdr ∧
            (t.fwSlot k).chain = c ∧ t.boot.staging = none ∧ t.boot.attempts = 0 ∧ (t.fwSlot (otherSlot k)).st ≠ slotTrial)) ∧
        (u.fwChainOk x.hdr c = false →
          exec (.firmwareCommit 0 cid k 0 c) s = .next ((u.setStaging none).adminCqe 0 cid 0x107 0))) ∧
      (u.boot.staging = none → (u.fwSlot k).st = slotValid ∨ (u.fwSlot k).st = slotConfirmed → ∀ c,
        exec (.firmwareCommit 0 cid k 2 c) s = .next ((u.makeTrial k).adminCqe 0 cid 0 0) ∧
        (u.makeTrial k).boot.attempts = 0 ∧ ((u.makeTrial k).fwSlot k).st = slotTrial ∧
        ((u.makeTrial k).fwSlot k).hdr = (u.fwSlot k).hdr ∧
        (u.boot.phase = .ready → u.trail.dumpMode = false → u.fault.graveStopped = false → ∃ t,
          exec (.firmwareCommit 0 cid k 3 c) s = .next t ∧ (t.fwSlot k).st = slotTrial ∧ t.intake.stopped = true ∧
          t.boot.shut = some (.device false))))) ∧
  (∀ (x : Staging) (s : State), s.boot.staging = some x →
    (x.at_ + s.cfgOf Cfg.MGMT_SESSION_S * 100000000 ≤ s.now → exec .stagingTimeout s = .next (s.setStaging none)) ∧
    (s.now < x.at_ + s.cfgOf Cfg.MGMT_SESSION_S * 100000000 → exec .stagingTimeout s = .next s)) ∧
  (∀ (s : State), s.boot.running = 1 ∨ s.boot.running = 2 →
    (s.boot.phase = .ready → s.fault.grave = false → (s.fwSlot s.boot.running).st = slotTrial →
      s.boot.readyAt + oneHour ≤ s.now → ∃ t,
      exec .trialSlotConfirm s = .next t ∧ (t.fwSlot s.boot.running).st = slotConfirmed ∧
      ((s.fwSlot (otherSlot s.boot.running)).st = slotConfirmed → (t.fwSlot (otherSlot s.boot.running)).st = slotValid) ∧
      ((s.fwSlot (otherSlot s.boot.running)).st ≠ slotConfirmed →
        t.fwSlot (otherSlot s.boot.running) = s.fwSlot (otherSlot s.boot.running)) ∧ (s.lifecycle ≠ 2 → t.boot.otp = s.boot.otp)) ∧
    (s.fault.grave = true ∨ (s.fwSlot s.boot.running).st ≠ slotTrial ∨ s.now < s.boot.readyAt + oneHour →
      exec .trialSlotConfirm s = .next s)) ∧
  (∀ (s : State), (s.mgmt.inForce = none ∨ s.now < s.mgmt.forceAt + oneHour → exec .configRollbackAdvance s = .next s) ∧
    (∀ k x, s.boot.phase = .ready → s.mgmt.forceAt + oneHour ≤ s.now → s.mgmt.inForce = some k → s.mgmt.slots.get none k = some x →
      exec .configRollbackAdvance s = .next (s.advanceCounter 11 x.hdr.rollback) ∧
      (s.lifecycle = 2 → s.cfgCounter < x.hdr.rollback → ∃ t, exec .configRollbackAdvance s = .next t ∧
        ∀ b, b < min x.hdr.rollback 512 → (t.otpRow 11).testBit b = true ∧ (t.otpRow 12).testBit b = true))) ∧
  (∀ (c : Nat) (s : State), s.boot.phase = .ready → s.trail.dumpMode = false → s.asleep = false → c < 4 → c ∉ s.boot.copiesLost →
    exec (.bootAreaRefresh [c] []) s = .next s ∧
    (c ∉ s.boot.sparesUsed →
      exec (.bootAreaRefresh [c] [c]) s = .next { s with boot := { s.boot with sparesUsed := s.boot.sparesUsed ++ [c] } }) ∧
    (c ∈ s.boot.sparesUsed → exec (.bootAreaRefresh [c] [c]) s =
      .next (({ s with boot := { s.boot with copiesLost := s.boot.copiesLost ++ [c] } }).report 0x300 0x53 0 2)))

/-- The Service Port (R500 to R508; Table 19.14): a request is executed where the lifecycle state and the mode permit
it, and answered with one frame, its status and its data, which is kept for a repeated sequence; the reports, the
reset, firmware and configuration, OTP and the lifecycle do what the table says; in Production a token of the last
nonce opens tracing and debug. -/
def Obligations.ServiceRows : Prop :=
  (∀ (q b : Nat) (s : State), s.portUp = true →
    exec (.smiliBadFrame q b) s = .next (s.emit (.reply Port.service (smiliFrame 4 q [b]))) ∧
    (∀ r, portRate b = some r → exec (.servicePortAutobaud b) s =
      .next (({ s with boot := { s.boot with baud := r, frameAt := s.now } }).emit (.reply Port.service (smiliFrame 3 0 (le 4 r))))) ∧
    (portRate b = none → exec (.servicePortAutobaud b) s = .next s) ∧
    (s.boot.frameAt + 1000000000 ≤ s.now →
      exec .servicePortRateTimeout s = .next { s with boot := { s.boot with baud := 115200 } }) ∧
    (s.now < s.boot.frameAt + 1000000000 → exec .servicePortRateTimeout s = .next s) ∧
    (∀ l, s.boot.lastReq = some (q, l) → let again : Res := .next (s.portHeard.emit (.reply Port.service l));
      exec (.identifySmili q) s = again ∧ exec (.otpProgram q b b b) s = again ∧ exec (.serviceReset q b) s = again)) ∧
  (∀ (q : Nat) (s : State), s.portUp = true → (∀ x, s.boot.lastReq = some x → x.1 ≠ q) → s.boot.phase = .ready →
    s.portHeld = false → s.lifecycle ≤ 3 →
    let u := s.portHeard
    let answers := fun (c : Instr) (st : Nat) (d : List Nat) (t : State) => exec c s = .next (t.smiliAnswer q st d)
    answers (.identifySmili q) 0
      (le 4 (u.regWord 0) ++ le 64 (u.otpRow 0) ++ [u.lifecycle, u.portMode, (u.fwSlot 1).st, (u.fwSlot 2).st]) u ∧
    answers (.bootTimes q) 0 u.boot.record.bytes u ∧
    (∀ a n, answers (.logRead q a n) 0 (u.kilnRead a n) u) ∧
    (∀ o n, (67108864 < o + n ∨ 4094 < n → answers (.logAreaRead q o n) 3 [] u) ∧
      (o + n ≤ 67108864 → n ≤ 4094 → answers (.logAreaRead q o n) 0
        (((u.areaPlace (o / 65536) ++ u.areaPlace (o / 65536 + 1)).drop (o % 65536)).take n) u)) ∧
    (∀ k, k ≤ 1 → ∃ t, exec (.serviceReset q k) s = .next t ∧ t.boot.phase = .down ∧ (t.boot.fromStep3 = true ↔ k = 0) ∧
      t.boot.otp = s.boot.otp ∧ .reply Port.service (smiliFrame 2 q [0, 0]) ∈ t.out) ∧
    (∀ h n, s.boot.staging = none → s.fwHeaderOk h = true → 512 ≤ n → n ≤ 4094 → n ≤ h.length →
      answers (.fwBegin q h n) 0 [] (u.setStaging (some { path := 2, hdr := h, pieces := [(0, n)], at_ := s.now }))) ∧
    (s.boot.staging = none → answers (.fwAbort q) 9 [] u ∧ ∀ o n, answers (.fwChunk q o n) 9 [] u) ∧
    (∀ x, s.boot.staging = some x → x.path = 2 →
      answers (.fwAbort q) 0 [] (u.setStaging none) ∧
      (∀ n, n ≤ 4090 → (x.pieces.map (·.2)).sum + n ≤ x.hdr.length → answers (.fwChunk q (x.pieces.map (·.2)).sum n) 0 []
        (u.setStaging (some { x with pieces := x.pieces ++ [((x.pieces.map (·.2)).sum, n)], at_ := s.now }))) ∧
      (∀ o n, o ≠ (x.pieces.map (·.2)).sum → answers (.fwChunk q o n) 9 [] u) ∧
      (∀ k a c, k = 1 ∨ k = 2 → k ≠ s.boot.running → a ≤ 1 → x.complete = true → s.fwCounter ≤ x.hdr.rollback →
        (s.fwChainOk x.hdr c = true →
          answers (.fwCommit q k a c) 0 [] ((u.setStaging none).writeSlot k x.hdr c (decide (a = 1)))) ∧
        (s.fwChainOk x.hdr c = false → answers (.fwCommit q k a c) 8 [] (u.setStaging none)))) ∧
    (∀ op h o n l c, let r := u.cfgRequest 1 op h o n n l c; answers (.cfgMsg q op h o n l c) r.1 r.2.1 r.2.2) ∧
    (∀ k on, let traced := fun (t : State) => ({ t with boot := { t.boot with tracing := on } } : State)
      (s.lifecycle ≠ 2 → answers (.trace q k on) 0 [] (traced u)) ∧
      (s.lifecycle = 2 → s.tokenOk forDebug k = true →
        answers (.trace q k on) 0 [] (traced { u with boot := { u.boot with nonce := none } })) ∧
      (s.lifecycle = 2 → s.tokenOk forDebug k = false → answers (.trace q k on) 8 [] u)) ∧
    (∀ r, r ≤ 63 → answers (.otpRead q r) 0
      (if r = 1 ∨ r = 3 ∨ r = 5 ∨ r = 7 then le 4 (bits (s.otpRow r) 384 32) else le 64 (s.otpRow r)) u) ∧
    (∀ r m, s.lifecycle = 0 → r = 0 ∨ r = 2 ∨ r = 6 → s.otpRefused r = false → s.trail.dumpMode = false → 0 < m → m < 2 ^ 512 →
      answers (.otpProgram q r m 512) 0 [] (u.programOtp r m) ∧ (u.programOtp r m).otpRow r = s.otpRow r ||| m ∧
        ∀ k, k ≠ r → (u.programOtp r m).otpRow k = s.otpRow k) ∧
    (∀ r m f, 2 ≤ s.lifecycle → answers (.otpProgram q r m f) 0x000A [] u) ∧
    (s.lifecycle = 0 → s.otpRow 0 ≠ 0 → s.otpRow 2 ≠ 0 → s.otpRow 6 ≠ 0 → (∀ r ∈ [1, 3, 5, 7], s.otpRefused r = false) →
      (s.glaze.drbgFail = true → answers (.provisionKeys q) 1 [] u) ∧
      (s.trail.dumpMode = false → s.glaze.drbgFail = false → ∃ t, t.lifecycle = 1 ∧
        answers (.provisionKeys q) 0 (be 96 (Config.kdf t.identitySeed [384])) t ∧
        ∀ k, k ≠ 1 → k ≠ 3 → k ≠ 5 → k ≠ 7 → k ≠ 13 → t.otpRow k = s.otpRow k)) ∧
    (∀ o n, (s.lifecycle = 1 → n ≤ 4090 → o + n ≤ 12582912 →
        answers (.certWrite q o n) 0 [] { u with boot := { u.boot with certBytes := max u.boot.certBytes (o + n) } }) ∧
      (s.lifecycle ≠ 1 → answers (.certWrite q o n) 0x000A [] u)) ∧
    (∀ k, s.lifecycle = 1 → s.otpRefused 13 = false → s.trail.dumpMode = false →
      (s.boot.certBytes = 0 → answers (.lifecycleAdvance q 2 k) 9 [] u) ∧
      (s.boot.certBytes ≠ 0 → ∃ t, answers (.lifecycleAdvance q 2 k) 0 [] t ∧ t.lifecycle = 2 ∧
        ∀ r, r ≤ 8 → t.rowLocked r = true)) ∧
    (∀ k, s.lifecycle = 2 → s.otpRefused 13 = false → s.trail.dumpMode = false →
      (s.tokenOk forReturn k = false → answers (.lifecycleAdvance q 3 k) 8 [] u) ∧
      (s.tokenOk forReturn k = true → ∃ t, answers (.lifecycleAdvance q 3 k) 0 [] t ∧ t.lifecycle = 3 ∧ t.boot.nonce = none)) ∧
    (s.glaze.drbgFail = true → answers (.debugChallenge q) 1 [] u) ∧
    (s.glaze.drbgFail = false → ∃ n t, answers (.debugChallenge q) 0 (le 32 n) t ∧ t.boot.nonce = some n ∧ n < 2 ^ 256 ∧
      t.zone = s.zone ∧ t.boot.otp = s.boot.otp) ∧
    (∀ k, let opened := fun (t : State) => ({ t with boot := { t.boot with unlocked := true } } : State)
      (s.lifecycle ≠ 2 → answers (.debugUnlock q k) 0 [] (opened u)) ∧
      (s.lifecycle = 2 → s.tokenOk forDebug k = true →
        answers (.debugUnlock q k) 0 [] ((opened { u with boot := { u.boot with nonce := none } }).zeroize 0)) ∧
      (s.lifecycle = 2 → s.tokenOk forDebug k = false → answers (.debugUnlock q k) 8 [] u)))

/-- Start-up (R453, R469, R479, R480, R487, R499, R507, R514, R520; Tables 19.1, 19.6): a test strap holds the part, a
failed OTP check ends in the Grave hold, the service strap in Bisque mode, PWRFAIL_N or PWRDIS holds the ROM before
step 3; after a controller reset the sequence goes on from step 3, and with a confirmed firmware slot and one
configuration image accepted it ends with the block ready and both in force. -/
def Obligations.BootRows : Prop :=
  (∀ (info : BootInfo) (s : State), s.boot.phase = .down → s.boot.fromStep3 = true →
    (s.fault.grave = true → ∃ t, exec (.bootSequence info) s = .next t ∧ t.boot.phase = .graveHold ∧ t.fault.graveHold = true ∧
      t.fault.lines.stop = true ∧ t.fault.lines.isolate = true ∧ t.fault.grave = true) ∧
    (∀ x, s.fault.grave = false → info.bootDead = [] → s.boot.copiesLost = [] → Tab.wf ({} : FwSlot) s.boot.slots = true →
      (s.fwSlot 1).st = slotConfirmed → (s.fwSlot 2).st = slotEmpty → s.fwHeaderOk (s.fwSlot 1).hdr = true →
      s.fwChainOk (s.fwSlot 1).hdr (s.fwSlot 1).chain = true → info.fwBad = [] →
      s.mgmt.slots.get none 0 = some x → s.mgmt.slots.get none 1 = none → s.cfgHeaderOk x.hdr = true →
      s.cfgChainOk x.hdr x.chain = true → info.cfgBad = [] →
      2 ≤ info.clusters → (s.loadImage 0 x).dramRateOf info.dramTrains ≠ 0 → ∃ t, exec (.bootSequence info) s = .next t ∧
        t.boot.phase = .ready ∧ t.boot.running = 1 ∧ t.boot.readyAt = s.now ∧ t.mgmt.inForce = some 0 ∧ t.boot.record.lastStep = 10 ∧
        t.dram.rate = (s.loadImage 0 x).dramRateOf info.dramTrains)) ∧
  (∀ (info : BootInfo) (s : State), s.boot.phase = .fresh →
    let p := s.sampleStraps info
    (info.test ≠ 0 → exec (.bootSequence info) s = .next p ∧ p.boot.testHeld = true ∧ p.boot.phase = .fresh) ∧
    (info.test = 0 → info.otpOk = false → ∃ t, exec (.bootSequence info) s = .next t ∧ t.boot.phase = .graveHold ∧
      t.boot.otpHold = true ∧ t.fault.grave = true) ∧
    (info.test = 0 → info.otpOk = true → p.otpFailure = none → info.checkersOk = true → s.fault.grave = false →
      (info.svcLow = true → ∃ t, exec (.bootSequence info) s = .next t ∧ t.boot.phase = .bisque ∧ t.boot.running = 0 ∧
        t.mgmt.inForce = none) ∧
      (info.svcLow = false → info.pwrfailLow = true ∨ info.pwrdisHigh = true → ∃ t, exec (.bootSequence info) s = .next t ∧
        t.boot.phase = .romWait ∧ t.boot.waiting = some info) ∧
      (info.svcLow = false → info.pwrfailLow = false → info.pwrdisHigh = false → info.bootDead = [] → s.boot.slots = [] →
        s.boot.copiesLost = [] → ∃ t, exec (.bootSequence info) s = .next t ∧ t.boot.phase = .bisque)) ∧
    (info.test = 0 → info.otpOk = true → p.otpFailure = none → info.checkersOk = false → ∃ t,
      exec (.bootSequence info) s = .next t ∧ t.boot.phase = .stopped))

/-- Rails, AON_RESET and PWRDIS (R449, R453, R512, R514, R516; Table 20.2): VDD_IO33 low shows, Degraded; another
comparator's rail enters dump mode as PWRFAIL_N does; the AON reset keeps OTP, the Grave state and the latched first
source; PWRDIS shuts down and its release resets or lets the ROM go on. -/
def Obligations.ElectricalRows : Prop :=
  (∀ (s : State), exec (.railLow 8) s =
      .next ((({ s with boot := { s.boot with io33Low := true } }).report 0x301 0x55 104 1).lifeBreak 4) ∧
    exec .io33Restored s = .next { s with boot := { s.boot with io33Low := false } } ∧
    (∀ r, r = 0 ∨ r = 3 ∨ 8 < r → exec (.railLow r) s = .next s) ∧
    (∀ r, r = 1 ∨ r = 2 ∨ (4 ≤ r ∧ r ≤ 7) → s.boot.pwrfailLow = false → ∃ t, exec (.railLow r) s = .next t ∧
      t.boot.pwrfailLow = true ∧ t.mgmt.lifeBroken = true ∧ (s.noDump = true → t.trail = s.trail) ∧
      (s.noDump = false → s.trail.dumpMode = false → t.trail.dumpMode = true ∧ t.intake.stopped = true ∧ t.fault.lines.dump = true))) ∧
  (∀ (s : State), s.tablesCanonical = true → ∃ t, exec .aonReset s = .next t ∧ t.boot.phase = .fresh ∧ t.now = 0 ∧
    t.boot.otp = s.boot.otp ∧ t.boot.slots = s.boot.slots ∧ t.fault.grave = s.fault.grave ∧
    (∀ k ∈ firstFields, t.reg k = s.reg k) ∧ t.klog.segments = s.klog.segments ∧ t.klog.ring = [] ∧ t.intake.tags = [] ∧
    t.power = {} ∧ t.trail.durable = s.trail.durable ∧ t.glaze.credentials = s.glaze.credentials) ∧
  (∀ (s : State),
    (s.boot.phase ≠ .ready → exec .pwrdisAssert s = .next { s with boot := { s.boot with pwrdis := true } }) ∧
    (s.boot.phase = .ready → s.trail.dumpMode = false → s.fault.graveStopped = false → s.boot.shut = none →
      (s.asleep = false → s.intake.stopped = false → exec .pwrdisAssert s = .next { s with
        intake := { s.intake with stopped := true }, boot := { s.boot with pwrdis := true, shut := some .pwrdis } }) ∧
      (s.asleep = true → ∃ t, exec .pwrdisAssert s = .next t ∧ t.intake.stopped = true ∧ t.boot.shut = none ∧
        (∀ x ∈ t.tenant.insts, x.2.shst = 2) ∧ t.zone = s.zone ∧ t.trail = s.trail)) ∧
    (s.boot.pwrdis = false → exec .pwrdisRelease s = .next s) ∧
    (s.boot.pwrdis = true → s.boot.phase = .ready →
      (s.boot.shut = some .pwrdis → exec .pwrdisRelease s = .next { s with boot := { s.boot with pwrdis := false, pwrdisFell := true } }) ∧
      (s.boot.shut = none → s.trail.dumpMode = false → s.fault.graveStopped = false → s.intake.stopped = true → ∃ t,
        exec .pwrdisRelease s = .next t ∧ t.boot.phase = .down ∧ t.boot.fromStep3 = true ∧ t.boot.otp = s.boot.otp)) ∧
    (∀ info, s.boot.phase = .romWait → s.boot.waiting = some info →
      (s.boot.pwrdis = true → s.boot.pwrfailLow = false →
        exec .pwrdisRelease s = .next (({ s with boot := { s.boot with pwrdis := false } }).bootFrom3 info)) ∧
      (s.boot.pwrdis = true → exec .pwrfailHighBeforeStart s = .next { s with boot := { s.boot with pwrfailLow := false } }) ∧
      (s.boot.pwrdis = false →
        exec .pwrfailHighBeforeStart s = .next (({ s with boot := { s.boot with pwrfailLow := false } }).bootFrom3 info))) ∧
    (s.boot.phase ≠ .romWait → exec .pwrfailHighBeforeStart s = .next s))

/-- The layouts in which the part keeps what it holds (R212, R225, R255, R261, R271, R325; Tables 7.2, 7.5, 8.6, 8.8,
9.3, 19.9): a codeword is 4,512 bytes with the data first and the page tag in its 64 bytes of controller metadata,
whose fields read back and whose CRC covers the bytes before it; a trailer copy and a Trail segment are 64 KiB, a
Glaze descriptor 64 bytes, a burst's check information 16; a firmware header reads back from its 512 bytes. The byte
order is the model's where the spec states none (log entries 33, 116). -/
def Obligations.StoredLayouts : Prop :=
  (∀ (c : Codeword), c.bytes.length = 4512 ∧ (c.bytes.drop 4160).take 64 = c.tag.bytes c.gcm ∧
    leAt c.bytes 0 4096 = c.data % 256 ^ 4096 ∧ leAt c.bytes 4096 64 = c.host % 256 ^ 64) ∧
  (∀ (t : PageTag) (gcm : Nat), let b := t.bytes gcm
    b.length = 64 ∧ leAt b 0 16 = gcm % 2 ^ 128 ∧ leAt b 16 8 = t.wseq % 2 ^ 64 ∧
    leAt b 24 6 = (if t.kind = 1 ∨ t.kind = 2 ∨ t.kind = 6 ∨ t.kind = 7 then 0 else t.lba % 2 ^ 48) ∧
    (t.kind < 64 → leAt b 30 2 % 1024 = (t.nsid - 1) % 1024 ∧ leAt b 30 2 / 1024 = t.kind) ∧
    leAt b 32 4 = t.zone % 2 ^ 32 ∧ leAt b 36 6 = t.aseq % 2 ^ 48 ∧ leAt b 42 1 = t.pieceLen % 256 ∧
    leAt b 43 1 = t.pieceIdx % 256 ∧ leAt b 60 4 = crc32c (b.take 60) % 2 ^ 32) ∧
  (∀ (t : Trailer) (n z : Nat), let b := t.bytes n z
    b.length = 65536 ∧ b.take 4 = [0x43, 0x5A, 0x54, 0x52] ∧ leAt b 8 4 = n % 2 ^ 32 ∧ leAt b 12 4 = z % 2 ^ 32 ∧
    leAt b 65532 4 = crc32c (b.take 65532) % 2 ^ 32) ∧
  (∀ (f : Flush) (k n : Nat) (recs : List Nat) (s : State), let b := s.segmentBytes f k n recs
    b.length = 65536 ∧ b.take 4 = [0x43, 0x5A, 0x54, 0x4C] ∧ leAt b 8 8 = (f.first + k) % 2 ^ 64 ∧ leAt b 32 2 = k % 65536 ∧
    leAt b 34 2 = n % 65536 ∧ (recs.length ≤ 65468 → leAt b 36 4 = recs.length ∧ (b.drop 64).take recs.length = recs) ∧
    leAt b 65532 4 = crc32c (b.take 65532) % 2 ^ 32) ∧
  (∀ (d : GDesc), let b := descriptorBytes d
    b.length = 64 ∧ leAt b 0 1 = d.op % 256 ∧ leAt b 2 2 = d.slotA % 65536 ∧ leAt b 6 2 = d.slotB % 65536 ∧
    leAt b 16 8 = d.src % 2 ^ 64 ∧ leAt b 24 8 = d.dst % 2 ^ 64 ∧ leAt b 32 8 = d.lba % 2 ^ 64 ∧ leAt b 40 4 = d.nsid % 2 ^ 32 ∧
    leAt b 48 8 = d.wseq % 2 ^ 64) ∧
  (∀ (a : Nat) (l : List Nat) (p : Bool), (burstCheck a l p).length = 16 ∧ leAt (burstCheck a l p) 12 1 = b2n p) ∧
  (∀ (h : FwHeader), h.magic.length = 4 → h.format < 2 ^ 16 → h.part < 2 ^ 16 → h.steppings < 2 ^ 16 → h.release < 2 ^ 16 →
    h.length < 2 ^ 32 → h.rollback < 2 ^ 32 → h.flags < 2 ^ 32 → h.build < 2 ^ 32 → h.cfgFormat < 2 ^ 32 → h.crc < 2 ^ 32 →
    h.overlay.offset < 2 ^ 32 → h.overlay.length < 2 ^ 32 → h.overlay.digest < 2 ^ 384 →
    h.control.offset < 2 ^ 32 → h.control.length < 2 ^ 32 → h.control.digest < 2 ^ 384 →
    (fwFront h ++ le 4 h.crc).length = 512 ∧ fwHeaderOf (fwFront h ++ le 4 h.crc) = h)

/-- Register writes (R6, R8, R9, R346, R373, R402; Tables 13.14, 14.8, 15.12): ignored before the block is ready and
off a dword; in a domain that is off they only set PWR_STATUS.OFFREAD; a read-only register keeps its value, a plain
field takes a value in its range, a Static one stays and raises a Notice; the mailbox windows and a tenant's registers
keep what is written; WMK_SNAP.VIEW moves only while the bank holds a snapshot. -/
def Obligations.RegisterRows : Prop :=
  (∀ (i o v : Nat) (s : State), s.boot.phase ≠ .ready ∨ o % 4 ≠ 0 ∨ 511 < i → exec (.registerWrite i o v) s = .next s) ∧
  (∀ (o v : Nat) (s : State), s.boot.phase = .ready → o % 4 = 0 → s.domainOff (pageDomain (o / 4096)) = true →
    exec (.registerWrite 0 o v) s = .next (s.setReg Reg.PWR_STATUS_OFFREAD 1)) ∧
  (∀ (v : Nat) (s : State), s.boot.phase = .ready → s.domainOff 94 = false →
    exec (.registerWrite 0 0 v) s = .next s ∧
    (v ≤ 95 → s.tablesCanonical = true → s.domainOff (pageDomain 5) = false → ∃ t, exec (.registerWrite 0 0x5010 v) s = .next t ∧
      t.reg Reg.PWR_DOM_SEL_DOMAIN = v ∧ (∀ k, k ≠ Reg.PWR_DOM_SEL_DOMAIN → t.reg k = s.reg k) ∧ t = { s with regs := t.regs }) ∧
    (96 ≤ v → v < 128 → s.domainOff (pageDomain 5) = false → exec (.registerWrite 0 0x5010 v) s = .next s)) ∧
  (∀ (i k v : Nat) (s : State), s.boot.phase = .ready → 1 ≤ i → i ≤ 511 → k < 64 → 0 < v → v < 2 ^ 32 →
    (∃ t, exec (.registerWrite i (0x1000 + 4 * k) v) s = .next t ∧ (t.inst i).mbxT.out.get 0 k = v ∧
      (∀ j, j ≠ i → t.inst j = s.inst j) ∧ t = { s with tenant := t.tenant }) ∧
    (s.domainOff (pageDomain ((0x10000 + 256 * i + 4 * k) / 4096)) = false → ∃ t,
      exec (.registerWrite 0 (0x10000 + 256 * i + 4 * k) v) s = .next t ∧ (t.inst i).mbxM.out.get 0 k = v ∧
      (∀ j, j ≠ i → t.inst j = s.inst j) ∧ t = { s with tenant := t.tenant })) ∧
  (∀ (b : Bool) (s : State), (s.reg Reg.WMK_SNAP_VALID = 0 → exec (.snapshotView b) s = .next s) ∧
    (s.reg Reg.WMK_SNAP_VALID ≠ 0 → s.tablesCanonical = true → ∃ t, exec (.snapshotView b) s = .next t ∧
      t.reg Reg.WMK_SNAP_VIEW = b2n b ∧ (∀ k, k ≠ Reg.WMK_SNAP_VIEW → t.reg k = s.reg k) ∧ t = { s with regs := t.regs }))
end

