-- ==== Sys2Proof/Laws/Tab.lean ====
section
/-!
SUPPORT. Laws of finite tables: reading after writing, and the canonical form that every table operation keeps.
-/

namespace Sys2Proof

variable {α : Type} [DecidableEq α] {d v w : α} {t : Tab α} {k b x y : Nat} {f : α → α}

/-- Every key of the table lies above `b`. -/
def Tab.Above (b : Nat) (t : Tab α) : Prop := ∀ e ∈ t, b < e.1

omit [DecidableEq α] in
theorem Tab.get_of_above (h : Tab.Above x t) : t.get d x = d := by
  induction t with
  | nil => rfl
  | cons e t ih =>
    have he : x < e.1 := h e (by simp)
    simp only [Tab.get, if_neg (Nat.ne_of_lt he)]
    exact ih fun a ha => h a (by simp [ha])

theorem Tab.above_of_wfAbove (h : Tab.wfAbove d b t = true) : Tab.Above b t := by
  induction t generalizing b with
  | nil => intro e he; simp at he
  | cons e t ih =>
    simp only [Tab.wfAbove, Bool.and_eq_true, decide_eq_true_eq] at h
    intro a ha
    rcases List.mem_cons.mp ha with rfl | ha
    · exact h.1.1
    · exact Nat.lt_trans h.1.1 (ih h.2 a ha)

theorem Tab.wfAbove_mono (h : Tab.wfAbove d k t = true) (hb : b ≤ k) : Tab.wfAbove d b t = true := by
  cases t with
  | nil => rfl
  | cons e t =>
    simp only [Tab.wfAbove, Bool.and_eq_true, decide_eq_true_eq] at h ⊢
    exact ⟨⟨by omega, h.1.2⟩, h.2⟩

theorem Tab.wf_of_wfAbove (h : Tab.wfAbove d b t = true) : t.wf d = true := by
  cases t with
  | nil => rfl
  | cons e t =>
    simp only [Tab.wfAbove, Tab.wf, Bool.and_eq_true, decide_eq_true_eq] at h ⊢
    exact ⟨h.1.2, h.2⟩

theorem Tab.wfAbove_cons_of (h : Tab.wfAbove d k t = true) (hb : b < k) : Tab.wfAbove d b (Tab.cons d k v t) = true := by
  unfold Tab.cons
  split
  · exact Tab.wfAbove_mono h (Nat.le_of_lt hb)
  · simp only [Tab.wfAbove, Bool.and_eq_true, decide_eq_true_eq]
    exact ⟨⟨hb, by assumption⟩, h⟩

/-- Setting a key keeps every key above a bound and the canonical form. -/
theorem Tab.wfAbove_set (h : Tab.wfAbove d b t = true) (hb : b < x) : Tab.wfAbove d b (t.set d x v) = true := by
  induction t generalizing b with
  | nil => exact Tab.wfAbove_cons_of rfl hb
  | cons e t ih =>
    obtain ⟨k, w⟩ := e
    simp only [Tab.wfAbove, Bool.and_eq_true, decide_eq_true_eq] at h
    unfold Tab.set
    split
    · refine Tab.wfAbove_cons_of ?_ hb
      simp only [Tab.wfAbove, Bool.and_eq_true, decide_eq_true_eq]
      exact ⟨⟨by assumption, h.1.2⟩, h.2⟩
    · split
      · subst x
        exact Tab.wfAbove_cons_of h.2 hb
      · simp only [Tab.wfAbove, Bool.and_eq_true, decide_eq_true_eq]
        exact ⟨h.1, ih h.2 (by omega)⟩

/-- Setting a key keeps the canonical form. -/
theorem Tab.wf_set (h : t.wf d = true) : (t.set d x v).wf d = true := by
  cases t with
  | nil =>
    simp only [Tab.set, Tab.cons]
    split
    · rfl
    · simp [Tab.wf, Tab.wfAbove, *]
  | cons e t =>
    obtain ⟨k, w⟩ := e
    simp only [Tab.wf, Bool.and_eq_true, decide_eq_true_eq] at h
    unfold Tab.set
    split
    · unfold Tab.cons
      split
      · simp [Tab.wf, h]
      · rename_i hlt hv
        simp [Tab.wf, Tab.wfAbove, hlt, hv, h]
    · split
      · unfold Tab.cons
        split
        · exact Tab.wf_of_wfAbove h.2
        · rename_i heq hv
          simp [Tab.wf, hv, heq, h]
      · simp only [Tab.wf, Bool.and_eq_true, decide_eq_true_eq]
        exact ⟨h.1, Tab.wfAbove_set h.2 (by omega)⟩

/-- Changing the value at a key keeps the canonical form. -/
theorem Tab.wf_upd (h : t.wf d = true) : (t.upd d x f).wf d = true := Tab.wf_set h

omit [DecidableEq α] in
theorem Tab.Above.filter {p : Nat × α → Bool} (h : Tab.Above b t) : Tab.Above b (t.filter p) :=
  fun e he => h e (List.mem_of_mem_filter he)

theorem Tab.wfAbove_filter {p : Nat × α → Bool} (h : Tab.wfAbove d b t = true) : Tab.wfAbove d b (t.filter p) = true := by
  induction t generalizing b with
  | nil => rfl
  | cons e t ih =>
    simp only [Tab.wfAbove, Bool.and_eq_true, decide_eq_true_eq] at h
    rw [List.filter_cons]
    split
    · simp only [Tab.wfAbove, Bool.and_eq_true, decide_eq_true_eq]
      exact ⟨h.1, ih h.2⟩
    · exact Tab.wfAbove_mono (ih h.2) (Nat.le_of_lt h.1.1)

/-- Removing entries keeps the canonical form. -/
theorem Tab.wf_filter {p : Nat × α → Bool} (h : t.wf d = true) : Tab.wf d (t.filter p) = true := by
  cases t with
  | nil => rfl
  | cons e t =>
    simp only [Tab.wf, Bool.and_eq_true, decide_eq_true_eq] at h
    rw [List.filter_cons]
    split
    · simp only [Tab.wf, Bool.and_eq_true, decide_eq_true_eq]
      exact ⟨h.1, Tab.wfAbove_filter h.2⟩
    · exact Tab.wf_of_wfAbove (Tab.wfAbove_filter h.2)

theorem Tab.wf_keep {p : Nat → α → Bool} (h : t.wf d = true) : Tab.wf d (t.keep p) = true := Tab.wf_filter h

/-! ### Reading after writing -/

@[simp] theorem Tab.get_cons_self (h : Tab.Above x t) : (Tab.cons d x v t).get d x = v := by
  unfold Tab.cons
  split
  · rw [Tab.get_of_above h]; simp [*]
  · simp [Tab.get]

theorem Tab.get_cons_ne (h : y ≠ x) : (Tab.cons d x v t).get d y = t.get d y := by
  unfold Tab.cons
  split
  · rfl
  · simp [Tab.get, h]

theorem Tab.get_set_ne (h : y ≠ x) : (t.set d x v).get d y = t.get d y := by
  induction t with
  | nil => exact Tab.get_cons_ne h
  | cons e t ih =>
    obtain ⟨k, w⟩ := e
    unfold Tab.set
    split
    · exact Tab.get_cons_ne h
    · split
      · rename_i hk
        subst hk
        rw [Tab.get_cons_ne h]
        simp [Tab.get, h]
      · simp only [Tab.get]
        split
        · rfl
        · exact ih

theorem Tab.get_set_self_above (h : Tab.wfAbove d b t = true) : (t.set d x v).get d x = v := by
  induction t generalizing b with
  | nil => exact Tab.get_cons_self (fun e he => by simp at he)
  | cons e t ih =>
    obtain ⟨k, w⟩ := e
    simp only [Tab.wfAbove, Bool.and_eq_true, decide_eq_true_eq] at h
    have ha := Tab.above_of_wfAbove h.2
    unfold Tab.set
    split
    · rename_i hlt
      refine Tab.get_cons_self fun e he => ?_
      rcases List.mem_cons.mp he with rfl | he
      · exact hlt
      · exact Nat.lt_trans hlt (ha e he)
    · split
      · subst x
        exact Tab.get_cons_self ha
      · rename_i hne
        simp only [Tab.get, if_neg hne]
        exact ih h.2

/-- A canonical table reads what was last set. -/
theorem Tab.get_set_self (h : t.wf d = true) : (t.set d x v).get d x = v := by
  cases t with
  | nil => exact Tab.get_cons_self (fun e he => by simp at he)
  | cons e t =>
    obtain ⟨k, w⟩ := e
    simp only [Tab.wf, Bool.and_eq_true, decide_eq_true_eq] at h
    have ha := Tab.above_of_wfAbove h.2
    unfold Tab.set
    split
    · rename_i hlt
      refine Tab.get_cons_self fun e he => ?_
      rcases List.mem_cons.mp he with rfl | he
      · exact hlt
      · exact Nat.lt_trans hlt (ha e he)
    · split
      · subst x
        exact Tab.get_cons_self ha
      · rename_i hne
        simp only [Tab.get, if_neg hne]
        exact Tab.get_set_self_above h.2

/-- A second write of a key replaces the first. -/
theorem Tab.set_set_of_ne {w : α} (h : v ≠ d) : (t.set d x v).set d x w = t.set d x w := by
  induction t with
  | nil => simp [Tab.set, Tab.cons, h]
  | cons e t ih =>
    obtain ⟨k, u⟩ := e
    by_cases h1 : x < k
    · simp [Tab.set, Tab.cons, h, h1]
    · by_cases h2 : x = k
      · simp [Tab.set, Tab.cons, h, h2]
      · simp [Tab.set, h1, h2, ih]

/-- A table reads what was last set, if that is not the default, whether or not it is canonical. -/
theorem Tab.get_set_self_of_ne (h : v ≠ d) : (t.set d x v).get d x = v := by
  induction t with
  | nil => simp [Tab.set, Tab.cons, h, Tab.get]
  | cons e t ih =>
    obtain ⟨k, w⟩ := e
    unfold Tab.set
    split
    · simp [Tab.cons, h, Tab.get]
    · split
      · subst x; simp [Tab.cons, h, Tab.get]
      · rename_i hne
        simp only [Tab.get, if_neg hne]
        exact ih

theorem Tab.get_upd_self (h : t.wf d = true) : (t.upd d x f).get d x = f (t.get d x) := Tab.get_set_self h

theorem Tab.get_upd_ne (h : y ≠ x) : (t.upd d x f).get d y = t.get d y := Tab.get_set_ne h

end Sys2Proof
end

