-- ==== Sys2Proof/Laws/Keeps.lean ====
section
/-!
SUPPORT. What every operation keeps, as one relation between the state before and the state after: the queue, the
outputs sent, the free values used, programmed OTP bits, the canonical form of the register file and of the
configuration, and, while the part stays warm, the Grave state. `Holds w s t` relates two states; `w` says that no cold
power-on lies between them. The other predicates say the same of the results that operations answer.
-/

namespace Sys2Proof.Machine

/-- The relation every operation keeps. -/
structure Holds (w : Prop) (s t : State) : Prop where
  queue : t.pending = s.pending
  used : s.freeCtr ≤ t.freeCtr
  sent : s.out <:+ t.out
  otp : ∀ r i, (s.otpRow r).testBit i = true → (t.otpRow r).testBit i = true
  regs : Tab.wf none s.regs = true → Tab.wf none t.regs = true
  cfg : Tab.wf none s.cfg = true → Tab.wf none t.cfg = true
  grave : w → s.fault.grave = true → t.fault.grave = true

variable {w P Q : Prop} {α β : Type} {r s t u : State}

theorem Holds.refl (s : State) : Holds w s s :=
  ⟨rfl, Nat.le_refl _, List.suffix_refl _, fun _ _ h => h, fun h => h, fun h => h, fun _ h => h⟩

theorem Holds.trans (h : Holds w s t) (k : Holds w t u) : Holds w s u :=
  ⟨k.queue.trans h.queue, Nat.le_trans h.used k.used, h.sent.trans k.sent, fun r i x => k.otp r i (h.otp r i x),
   fun x => k.regs (h.regs x), fun x => k.cfg (h.cfg x), fun e x => k.grave e (h.grave e x)⟩

/-- An update of parts that the relation does not speak of. -/
theorem Holds.upd {x y : State} (h : Holds w s x) (hq : y.pending = x.pending) (hf : y.freeCtr = x.freeCtr)
    (ho : y.out = x.out) (hp : y.boot.otp = x.boot.otp) (hr : y.regs = x.regs) (hc : y.cfg = x.cfg)
    (hg : y.fault.grave = x.fault.grave) : Holds w s y := by
  refine h.trans ⟨hq, by rw [hf], by rw [ho], ?_, by rw [hr]; exact fun h => h,
    by rw [hc]; exact fun h => h, by rw [hg]; exact fun _ h => h⟩
  intro r i hi
  simpa [State.otpRow, hp] using hi

/-! ### Updates of one part -/

theorem Holds.inKlog {x : KlogPart} (h : Holds w r s) : Holds w r { s with klog := x } :=
  h.upd rfl rfl rfl rfl rfl rfl rfl
theorem Holds.inIntake {x : IntakePart} (h : Holds w r s) : Holds w r { s with intake := x } :=
  h.upd rfl rfl rfl rfl rfl rfl rfl
theorem Holds.inSieve {x : SievePart} (h : Holds w r s) : Holds w r { s with sieve := x } :=
  h.upd rfl rfl rfl rfl rfl rfl rfl
theorem Holds.inHamper {x : HamperPart} (h : Holds w r s) : Holds w r { s with hamper := x } :=
  h.upd rfl rfl rfl rfl rfl rfl rfl
theorem Holds.inZone {x : ZonePart} (h : Holds w r s) : Holds w r { s with zone := x } :=
  h.upd rfl rfl rfl rfl rfl rfl rfl
theorem Holds.inFlash {x : FlashPart} (h : Holds w r s) : Holds w r { s with flash := x } :=
  h.upd rfl rfl rfl rfl rfl rfl rfl
theorem Holds.inTrail {x : TrailPart} (h : Holds w r s) : Holds w r { s with trail := x } :=
  h.upd rfl rfl rfl rfl rfl rfl rfl
theorem Holds.inTenant {x : TenantPart} (h : Holds w r s) : Holds w r { s with tenant := x } :=
  h.upd rfl rfl rfl rfl rfl rfl rfl
theorem Holds.inGlaze {x : GlazePart} (h : Holds w r s) : Holds w r { s with glaze := x } :=
  h.upd rfl rfl rfl rfl rfl rfl rfl
theorem Holds.inPower {x : PowerPart} (h : Holds w r s) : Holds w r { s with power := x } :=
  h.upd rfl rfl rfl rfl rfl rfl rfl
theorem Holds.inFabric {x : FabricPart} (h : Holds w r s) : Holds w r { s with fabric := x } :=
  h.upd rfl rfl rfl rfl rfl rfl rfl
theorem Holds.inFixity {x : FixityPart} (h : Holds w r s) : Holds w r { s with fixity := x } :=
  h.upd rfl rfl rfl rfl rfl rfl rfl
theorem Holds.inDram {x : DramPart} (h : Holds w r s) : Holds w r { s with dram := x } :=
  h.upd rfl rfl rfl rfl rfl rfl rfl
theorem Holds.inPcie {x : PciePart} (h : Holds w r s) : Holds w r { s with pcie := x } :=
  h.upd rfl rfl rfl rfl rfl rfl rfl
theorem Holds.inWmk {x : WmkPart} (h : Holds w r s) : Holds w r { s with wmk := x } :=
  h.upd rfl rfl rfl rfl rfl rfl rfl
theorem Holds.inCone {x : ConePart} (h : Holds w r s) : Holds w r { s with cone := x } :=
  h.upd rfl rfl rfl rfl rfl rfl rfl
theorem Holds.inMgmt {x : MgmtPart} (h : Holds w r s) : Holds w r { s with mgmt := x } :=
  h.upd rfl rfl rfl rfl rfl rfl rfl

/-- States a fact first and uses it after. -/
theorem cut (h : P) (k : P → Q) : Q := k h

/-- Holds a goal as it is: what was generalised before it stays general in the proof's term. -/
theorem keep (h : P) : P := h

/-! ### The results that operations answer -/

/-- A command's outcome. -/
def HoldsR (w : Prop) (r : State) (x : Res) : Prop := ∀ t, x = .next t → Holds w r t
/-- A value beside the state. -/
def HoldsP (w : Prop) (r : State) (x : α × State) : Prop := Holds w r x.2
/-- The state beside a value. -/
def HoldsF (w : Prop) (r : State) (x : State × α) : Prop := Holds w r x.1
/-- Two values beside the state. -/
def HoldsQ (w : Prop) (r : State) (x : α × β × State) : Prop := Holds w r x.2.2
/-- A value on each side of the state. -/
def HoldsM (w : Prop) (r : State) (x : α × State × β) : Prop := Holds w r x.2.1
/-- A state that may be absent. -/
def HoldsO (w : Prop) (r : State) (x : Option State) : Prop := ∀ t, x = some t → Holds w r t
/-- A value and a state that may be absent. -/
def HoldsOP (w : Prop) (r : State) (x : Option (α × State)) : Prop := ∀ a t, x = some (a, t) → Holds w r t

theorem HoldsR.next (h : Holds w r s) : HoldsR w r (.next s) := fun t e => by cases e; exact h
theorem HoldsR.fault {f : Fault} : HoldsR w r (.fault f) := fun t e => by cases e
theorem HoldsP.mk {a : α} (h : Holds w r s) : HoldsP w r (a, s) := h
theorem HoldsF.mk {a : α} (h : Holds w r s) : HoldsF w r (s, a) := h
theorem HoldsQ.mk {a : α} {b : β} (h : Holds w r s) : HoldsQ w r (a, b, s) := h
theorem HoldsM.mk {a : α} {b : β} (h : Holds w r s) : HoldsM w r (a, s, b) := h
theorem HoldsO.some (h : Holds w r s) : HoldsO w r (some s) := fun t e => by cases e; exact h
theorem HoldsO.none : HoldsO w r none := fun t e => by cases e
theorem HoldsOP.some {a : α} (h : Holds w r s) : HoldsOP w r (some (a, s)) := fun b t e => by cases e; exact h
theorem HoldsOP.none : HoldsOP w r (none : Option (α × State)) := fun a t e => by cases e

theorem HoldsP.of_eq {x : α × State} {a : α} (e : x = (a, s)) (h : HoldsP w r x) : Holds w r s := by subst e; exact h
theorem HoldsF.of_eq {x : State × α} {a : α} (e : x = (s, a)) (h : HoldsF w r x) : Holds w r s := by subst e; exact h
theorem HoldsQ.of_eq {x : α × β × State} {a : α} {b : β} (e : x = (a, b, s)) (h : HoldsQ w r x) : Holds w r s := by
  subst e; exact h
theorem HoldsM.of_eq {x : α × State × β} {a : α} {b : β} (e : x = (a, s, b)) (h : HoldsM w r x) : Holds w r s := by
  subst e; exact h
theorem HoldsO.of_eq {x : Option State} (e : x = Option.some s) (h : HoldsO w r x) : Holds w r s := h _ e
theorem HoldsOP.of_eq {x : Option (α × State)} {a : α} (e : x = Option.some (a, s)) (h : HoldsOP w r x) : Holds w r s :=
  h _ _ e

theorem HoldsOP.of_some {x : Option (α × State)} {z : α × State} (e : x = Option.some z) (h : HoldsOP w r x) : HoldsP w r z :=
  h z.1 z.2 e

/-! ### Choices and folds -/

theorem Holds.ite {a b : State} {c : Prop} [Decidable c] (ha : Holds w r a) (hb : Holds w r b) :
    Holds w r (if c then a else b) := by split <;> assumption
theorem HoldsR.ite {a b : Res} {c : Prop} [Decidable c] (ha : HoldsR w r a) (hb : HoldsR w r b) :
    HoldsR w r (if c then a else b) := by split <;> assumption
theorem HoldsP.ite {a b : α × State} {c : Prop} [Decidable c] (ha : HoldsP w r a) (hb : HoldsP w r b) :
    HoldsP w r (if c then a else b) := by split <;> assumption
theorem HoldsF.ite {a b : State × α} {c : Prop} [Decidable c] (ha : HoldsF w r a) (hb : HoldsF w r b) :
    HoldsF w r (if c then a else b) := by split <;> assumption
theorem HoldsQ.ite {a b : α × β × State} {c : Prop} [Decidable c] (ha : HoldsQ w r a) (hb : HoldsQ w r b) :
    HoldsQ w r (if c then a else b) := by split <;> assumption
theorem HoldsM.ite {a b : α × State × β} {c : Prop} [Decidable c] (ha : HoldsM w r a) (hb : HoldsM w r b) :
    HoldsM w r (if c then a else b) := by split <;> assumption
theorem HoldsO.ite {a b : Option State} {c : Prop} [Decidable c] (ha : HoldsO w r a) (hb : HoldsO w r b) :
    HoldsO w r (if c then a else b) := by split <;> assumption
theorem HoldsOP.ite {a b : Option (α × State)} {c : Prop} [Decidable c] (ha : HoldsOP w r a) (hb : HoldsOP w r b) :
    HoldsOP w r (if c then a else b) := by split <;> assumption

theorem Holds.foldl {l : List α} {f : State → α → State} (hf : ∀ t x, Holds w r t → Holds w r (f t x))
    (h : Holds w r s) : Holds w r (l.foldl f s) := by
  induction l generalizing s with
  | nil => exact h
  | cons x l ih => exact ih (hf s x h)

theorem HoldsP.foldl {l : List β} {f : α × State → β → α × State} {x : α × State}
    (hf : ∀ t y, HoldsP w r t → HoldsP w r (f t y)) (h : HoldsP w r x) : HoldsP w r (l.foldl f x) := by
  induction l generalizing x with
  | nil => exact h
  | cons y l ih => exact ih (hf x y h)

theorem HoldsF.foldl {l : List β} {f : State × α → β → State × α} {x : State × α}
    (hf : ∀ t y, HoldsF w r t → HoldsF w r (f t y)) (h : HoldsF w r x) : HoldsF w r (l.foldl f x) := by
  induction l generalizing x with
  | nil => exact h
  | cons y l ih => exact ih (hf x y h)

theorem HoldsOP.map {β : Type} {o : Option β} {f : β → α × State} (h : ∀ x, HoldsP w r (f x)) : HoldsOP w r (o.map f) := by
  cases o with
  | none => exact HoldsOP.none
  | some x => intro a t e; exact HoldsP.of_eq (Option.some.inj e) (h x)

theorem HoldsOP.mapOP {β : Type} {o : Option (β × State)} {f : β × State → α × State} (ho : HoldsOP w r o)
    (h : ∀ x, HoldsP w r x → HoldsP w r (f x)) : HoldsOP w r (o.map f) := by
  cases o with
  | none => exact HoldsOP.none
  | some x => intro a t e; exact HoldsP.of_eq (Option.some.inj e) (h x (ho x.1 x.2 rfl))

theorem Holds.each {l : List α} {f : State → α → State} (h : Holds w r s)
    (hf : ∀ t x, Holds w r t → Holds w r (f t x)) : Holds w r (s.each l f) := Holds.foldl hf h

theorem Holds.getD {x : Option State} (hx : HoldsO w r x) (h : Holds w r s) : Holds w r (x.getD s) := by
  cases x with
  | none => exact h
  | some t => exact hx t rfl

/-! ### The operations that write what the relation speaks of -/

theorem Holds.setReg {k v : Nat} (h : Holds w r s) : Holds w r (s.setReg k v) :=
  h.trans ⟨rfl, Nat.le_refl _, List.suffix_refl _, fun _ _ h => h, fun x => Tab.wf_set x, fun h => h, fun _ h => h⟩

theorem Holds.setCfg {id idx v : Nat} (h : Holds w r s) : Holds w r (s.setCfg id idx v) :=
  h.trans ⟨rfl, Nat.le_refl _, List.suffix_refl _, fun _ _ h => h, fun h => h, fun x => Tab.wf_set x, fun _ h => h⟩

theorem Holds.emit {o : Out} (h : Holds w r s) : Holds w r (s.emit o) := by
  unfold State.emit
  split
  · exact h.inPcie
  · split
    · exact h.trans ⟨rfl, Nat.le_refl _, List.suffix_cons _ _, fun _ _ h => h, fun h => h, fun h => h, fun _ h => h⟩
    · exact h

theorem Holds.push {o : Out} (h : Holds w r s) : Holds w r { s with out := o :: s.out } :=
  h.trans ⟨rfl, Nat.le_refl _, List.suffix_cons _ _, fun _ _ h => h, fun h => h, fun h => h, fun _ h => h⟩

theorem HoldsP.free (h : Holds w r s) : HoldsP w r s.free :=
  h.trans ⟨rfl, Nat.le_succ _, List.suffix_refl _, fun _ _ h => h, fun h => h, fun h => h, fun _ h => h⟩

end Sys2Proof.Machine
end

