-- ==== Sys2Proof/Laws/KeepsOps.lean ====
section
/-!
SUPPORT. Every operation keeps what `Holds` says: one lemma per operation, each from the lemmas of the operations it calls.
-/

namespace Sys2Proof.Machine

variable {w : Prop} {r : State}

theorem Holds.bumpBy {b0 : State} {b1 b2 : Nat} (hb0 : Holds w r b0) : Holds w r (State.bumpBy b0 b1 b2) := by
  unfold State.bumpBy
  extract_lets +onlyGivenNames w0
  exact Holds.setReg hb0

theorem Holds.bump {b0 : State} {b1 : Nat} (hb0 : Holds w r b0) : Holds w r (State.bump b0 b1) := by
  unfold State.bump
  exact Holds.bumpBy hb0

theorem Holds.modDieSet {b0 : State} {b1 : Nat} {b2 : DieSet → DieSet} (hb0 : Holds w r b0) :
    Holds w r (State.modDieSet b0 b1 b2) := by
  unfold State.modDieSet
  exact Holds.inZone hb0

theorem Holds.countLost {b0 : State} {b1 b2 : Nat} (hb0 : Holds w r b0) : Holds w r (State.countLost b0 b1 b2) := by
  unfold State.countLost
  exact Holds.modDieSet hb0

theorem Holds.countMismatch {b0 : State} {b1 : Nat} (hb0 : Holds w r b0) : Holds w r (State.countMismatch b0 b1) := by
  unfold State.countMismatch
  exact Holds.modDieSet hb0

theorem Holds.modNs {b0 : State} {b1 : Nat} {b2 : Ns → Ns} (hb0 : Holds w r b0) :
    Holds w r (State.modNs b0 b1 b2) := by
  unfold State.modNs
  exact Holds.inZone hb0

theorem Holds.modBlk {b0 : State} {b1 b2 : Nat} {b3 : Blk → Blk} (hb0 : Holds w r b0) :
    Holds w r (State.modBlk b0 b1 b2 b3) := by
  unfold State.modBlk
  exact Holds.modNs hb0

theorem Holds.modBlock {b0 : State} {b1 : Nat} {b2 : Block → Block} (hb0 : Holds w r b0) :
    Holds w r (State.modBlock b0 b1 b2) := by
  unfold State.modBlock
  exact Holds.inFlash hb0

theorem Holds.modDie {b0 : State} {b1 : Nat} {b2 : Die → Die} (hb0 : Holds w r b0) :
    Holds w r (State.modDie b0 b1 b2) := by
  unfold State.modDie
  exact Holds.inFlash hb0

theorem Holds.modEnt {b0 : State} {b1 : Nat} {b2 : Ent → Ent} (hb0 : Holds w r b0) :
    Holds w r (State.modEnt b0 b1 b2) := by
  unfold State.modEnt
  exact Holds.inSieve hb0

theorem Holds.modGroup {b0 : State} {b1 : Nat} {b2 : Group → Group} (hb0 : Holds w r b0) :
    Holds w r (State.modGroup b0 b1 b2) := by
  unfold State.modGroup
  exact Holds.inZone hb0

theorem Holds.modInst {b0 : State} {b1 : Nat} {b2 : Inst → Inst} (hb0 : Holds w r b0) :
    Holds w r (State.modInst b0 b1 b2) := by
  unfold State.modInst
  exact Holds.inTenant hb0

theorem Holds.modPool {b0 : State} {b1 : Nat} {b2 : Pool → Pool} (hb0 : Holds w r b0) :
    Holds w r (State.modPool b0 b1 b2) := by
  unfold State.modPool
  exact Holds.inHamper hb0

theorem Holds.modSrc {b0 : State} {b1 : Nat} {b2 : Src → Src} (hb0 : Holds w r b0) :
    Holds w r (State.modSrc b0 b1 b2) := by
  unfold State.modSrc
  exact Holds.upd (x := b0) hb0 rfl rfl rfl rfl rfl rfl rfl

theorem Holds.modTag {b0 : State} {b1 : Nat} {b2 : TagRec → TagRec} (hb0 : Holds w r b0) :
    Holds w r (State.modTag b0 b1 b2) := by
  unfold State.modTag
  exact Holds.inIntake hb0

theorem Holds.modUnit {b0 : State} {b1 : Nat} {b2 : HUnit → HUnit} (hb0 : Holds w r b0) :
    Holds w r (State.modUnit b0 b1 b2) := by
  unfold State.modUnit
  exact Holds.inHamper hb0

theorem Holds.modZone {b0 : State} {b1 b2 : Nat} {b3 : Zone → Zone} (hb0 : Holds w r b0) :
    Holds w r (State.modZone b0 b1 b2 b3) := by
  unfold State.modZone
  exact Holds.modNs hb0

theorem Holds.takeCfg {b0 : State} {b1 : CfgKind} {b2 : Nat → Bool} (hb0 : Holds w r b0) :
    Holds w r (State.takeCfg b0 b1 b2) := by
  unfold State.takeCfg
  extract_lets +onlyGivenNames due0 s1
  have hs1 : Holds w r s1 := Holds.upd (x := b0) hb0 rfl rfl rfl rfl rfl rfl rfl
  clear_value s1; revert s1; refine keep ?_; intro s1 hs1
  exact Holds.foldl (fun t2 x4 h3 => Holds.setCfg h3) hs1

theorem Holds.settlePool {b0 : State} {b1 : Nat} (hb0 : Holds w r b0) : Holds w r (State.settlePool b0 b1) := by
  unfold State.settlePool
  exact Holds.ite (Holds.modPool hb0) hb0

theorem HoldsP.alloc {b0 : State} {b1 b2 b3 : Nat} {b4 : OwnerKind} {b5 : Nat} (hb0 : Holds w r b0) :
    HoldsP w r (State.alloc b0 b1 b2 b3 b4 b5) := by
  unfold State.alloc
  extract_lets +onlyGivenNames x0
  refine HoldsP.ite (HoldsP.mk hb0) ?_
  split
  · rename_i z1 z2 z3 z4
    extract_lets +onlyGivenNames keys5 s6
    have hs6 : Holds w r s6 := Holds.modPool hb0
    clear_value s6; revert s6; refine keep ?_; intro s6 hs6
    extract_lets +onlyGivenNames s7
    have hs7 : Holds w r s7 := Holds.each hs6 (fun t8 x10 h9 => Holds.modUnit h9)
    clear_value s7; revert s7; refine keep ?_; intro s7 hs7
    exact HoldsP.mk (Holds.settlePool hs7)

theorem Holds.claimUnit {b0 : State} {b1 : Nat} (hb0 : Holds w r b0) : Holds w r (State.claimUnit b0 b1) := by
  unfold State.claimUnit
  exact Holds.modUnit hb0

theorem Holds.servePool {b0 : State} {b1 b2 : Nat} (hb0 : Holds w r b0) : Holds w r (State.servePool b0 b1 b2) := by
  induction b2 generalizing b0 b1
  · unfold State.servePool
    exact hb0
  · rename_i nn ih
    unfold State.servePool
    split
    · rename_i z0 z1
      exact hb0
    · rename_i z2 z3 z4 z5
      split
      · rename_i z6 z7 z8
        have h9 := HoldsP.of_eq (w := w) (r := r) z8 (HoldsP.alloc hb0)
        exact hb0
      · rename_i z10 z11 z12 z13
        have h14 := HoldsP.of_eq (w := w) (r := r) z13 (HoldsP.alloc hb0)
        apply ih
        exact Holds.modPool h14

theorem Holds.freeUnit {b0 : State} {b1 : Nat} (hb0 : Holds w r b0) : Holds w r (State.freeUnit b0 b1) := by
  unfold State.freeUnit
  extract_lets +onlyGivenNames p0 s1
  have hs1 : Holds w r s1 := Holds.modUnit hb0
  clear_value s1; revert s1; refine keep ?_; intro s1 hs1
  extract_lets +onlyGivenNames s2
  have hs2 : Holds w r s2 := Holds.modPool hs1
  clear_value s2; revert s2; refine keep ?_; intro s2 hs2
  exact Holds.settlePool hs2

theorem Holds.dropClaim {b0 : State} {b1 : Nat} (hb0 : Holds w r b0) : Holds w r (State.dropClaim b0 b1) := by
  unfold State.dropClaim
  extract_lets +onlyGivenNames u0
  refine Holds.ite hb0 ?_
  refine Holds.ite (Holds.modUnit (Holds.push hb0)) ?_
  exact Holds.ite (Holds.servePool (Holds.freeUnit hb0)) (Holds.modUnit hb0)

theorem Holds.refuseClaims {b0 : State} {b1 : Nat} (hb0 : Holds w r b0) : Holds w r (State.refuseClaims b0 b1) := by
  unfold State.refuseClaims
  extract_lets +onlyGivenNames n0
  exact Holds.modUnit (Holds.each hb0 (fun t1 x3 h2 => Holds.push h2))

theorem Holds.releaseUnit {b0 : State} {b1 : Nat} (hb0 : Holds w r b0) : Holds w r (State.releaseUnit b0 b1) := by
  unfold State.releaseUnit
  extract_lets +onlyGivenNames u0
  exact Holds.ite hb0 (Holds.ite (Holds.servePool (Holds.freeUnit hb0)) (Holds.modUnit (Holds.refuseClaims hb0)))

theorem Holds.releaseUnits {b0 : State} {b1 : List Nat} (hb0 : Holds w r b0) :
    Holds w r (State.releaseUnits b0 b1) := by
  unfold State.releaseUnits
  exact Holds.each hb0 (fun t0 x2 h1 => Holds.releaseUnit h1)

theorem Holds.modPortAt {b0 : State} {b1 : Nat} {b2 : PPort → PPort} (hb0 : Holds w r b0) :
    Holds w r (State.modPortAt b0 b1 b2) := by
  unfold State.modPortAt
  exact Holds.inPcie hb0

theorem Holds.issueReads {b0 : State} {b1 : Nat} (hb0 : Holds w r b0) : Holds w r (State.issueReads b0 b1) := by
  unfold State.issueReads
  extract_lets +onlyGivenNames x0
  refine Holds.ite hb0 ?_
  extract_lets +onlyGivenNames all1 free2 r3
  exact Holds.modPortAt hb0

theorem Holds.answerReads {b0 : State} {b1 b2 : Nat} (hb0 : Holds w r b0) :
    Holds w r (State.answerReads b0 b1 b2) := by
  unfold State.answerReads
  extract_lets +onlyGivenNames i0 p1 x2
  exact Holds.ite (Holds.issueReads (Holds.modPortAt hb0)) hb0

theorem Holds.shutdownDone {b0 : State} {b1 : Nat} (hb0 : Holds w r b0) : Holds w r (State.shutdownDone b0 b1) := by
  unfold State.shutdownDone
  extract_lets +onlyGivenNames x0
  exact Holds.ite (Holds.modInst hb0) hb0

theorem Holds.ltrUpdate {b0 : State} {b1 : Nat} (hb0 : Holds w r b0) : Holds w r (State.ltrUpdate b0 b1) := by
  unfold State.ltrUpdate
  extract_lets +onlyGivenNames v0
  refine Holds.ite hb0 ?_
  extract_lets +onlyGivenNames t1 s2 s3
  have hs3 : Holds w r s3 := Holds.emit (Holds.inIntake hb0)
  clear_value s3; revert s3; refine keep ?_; intro s3 hs3
  exact Holds.ite (Holds.emit hs3) hs3

theorem Holds.idleBegins {b0 : State} (hb0 : Holds w r b0) : Holds w r (State.idleBegins b0) := by
  unfold State.idleBegins
  refine Holds.ite ?_ hb0
  extract_lets +onlyGivenNames s0
  have hs0 : Holds w r s0 := Holds.takeCfg (Holds.takeCfg hb0)
  clear_value s0; revert s0; refine keep ?_; intro s0 hs0
  exact Holds.inIntake hs0

theorem Holds.freeTagOf {b0 : State} {b1 : Nat} (hb0 : Holds w r b0) : Holds w r (State.freeTagOf b0 b1) := by
  unfold State.freeTagOf
  extract_lets +onlyGivenNames r0 s1
  have hs1 : Holds w r s1 := Holds.answerReads hb0
  clear_value s1; revert s1; refine keep ?_; intro s1 hs1
  extract_lets +onlyGivenNames s2
  have hs2 : Holds w r s2 := Holds.ite (Holds.releaseUnits hs1) hs1
  clear_value s2; revert s2; refine keep ?_; intro s2 hs2
  extract_lets +onlyGivenNames s3
  have hs3 : Holds w r s3 := Holds.modInst hs2
  clear_value s3; revert s3; refine keep ?_; intro s3 hs3
  extract_lets +onlyGivenNames s4
  have hs4 : Holds w r s4 := Holds.modTag hs3
  clear_value s4; revert s4; refine keep ?_; intro s4 hs4
  extract_lets +onlyGivenNames s5
  have hs5 : Holds w r s5 := Holds.shutdownDone hs4
  clear_value s5; revert s5; refine keep ?_; intro s5 hs5
  extract_lets +onlyGivenNames s6 s7
  have hs7 : Holds w r s7 := Holds.inIntake hs5
  clear_value s7; revert s7; refine keep ?_; intro s7 hs7
  exact Holds.ltrUpdate (Holds.ite (Holds.idleBegins hs7) hs7)

theorem HoldsP.readLine {b0 : State} {b1 b2 : Nat} (hb0 : Holds w r b0) : HoldsP w r (State.readLine b0 b1 b2) := by
  unfold State.readLine
  extract_lets +onlyGivenNames d0
  split
  · rename_i z1 z2 z3
    exact HoldsP.mk hb0
  · rename_i z4 z5
    exact HoldsP.ite (HoldsP.mk hb0) (HoldsP.mk (show HoldsP w r _ from HoldsP.free hb0))

theorem Holds.writeLine {b0 : State} {b1 : Nat} {b2 : Nat × Nat} (hb0 : Holds w r b0) :
    Holds w r (State.writeLine b0 b1 b2) := by
  unfold State.writeLine
  extract_lets +onlyGivenNames d0 s1
  have hs1 : Holds w r s1 := Holds.modInst hb0
  clear_value s1; revert s1; refine keep ?_; intro s1 hs1
  exact Holds.emit hs1

theorem Holds.markPage {b0 : State} {b1 b2 : Nat} (hb0 : Holds w r b0) : Holds w r (State.markPage b0 b1 b2) := by
  unfold State.markPage
  extract_lets +onlyGivenNames d0
  refine Holds.ite hb0 ?_
  refine Holds.ite (Holds.modInst hb0) ?_
  extract_lets +onlyGivenNames n1 line2 r3
  have hr3 : HoldsP w r r3 := HoldsP.readLine hb0
  clear_value r3; revert r3; refine keep ?_; intro r3 hr3
  extract_lets +onlyGivenNames v4 cache5 s6
  refine cut (P := Holds w r s6) ?_ fun hs6 => ?_
  · unfold s6
    split
    · rename_i z7 z8 z9
      exact Holds.writeLine (show HoldsP w r _ from hr3)
    · rename_i z10 z11
      exact show HoldsP w r _ from hr3
  clear_value s6; revert s6; refine keep ?_; intro s6 hs6
  exact Holds.modInst hs6

theorem Holds.dirtyPages {b0 : State} {b1 : Nat} {b2 : List Nat} (hb0 : Holds w r b0) :
    Holds w r (State.dirtyPages b0 b1 b2) := by
  unfold State.dirtyPages
  exact Holds.each hb0 (fun t0 x2 h1 => Holds.markPage h1)

theorem Holds.interrupt {b0 : State} {b1 b2 : Nat} (hb0 : Holds w r b0) : Holds w r (State.interrupt b0 b1 b2) := by
  unfold State.interrupt
  exact Holds.ite (Holds.modInst hb0) (Holds.emit hb0)

theorem Holds.signalCq {b0 : State} {b1 b2 : Nat} (hb0 : Holds w r b0) : Holds w r (State.signalCq b0 b1 b2) := by
  unfold State.signalCq
  extract_lets +onlyGivenNames x0 q1 time2 thr3
  exact Holds.ite hb0 (Holds.ite hb0 (Holds.interrupt (Holds.modInst hb0)))

theorem Holds.postCqe {b0 : State} {b1 b2 b3 b4 b5 b6 : Nat} (hb0 : Holds w r b0) :
    Holds w r (State.postCqe b0 b1 b2 b3 b4 b5 b6) := by
  unfold State.postCqe
  extract_lets +onlyGivenNames q0 s1
  have hs1 : Holds w r s1 := Holds.emit (Holds.dirtyPages hb0)
  clear_value s1; revert s1; refine keep ?_; intro s1 hs1
  extract_lets +onlyGivenNames s2
  have hs2 : Holds w r s2 := Holds.modInst hs1
  clear_value s2; revert s2; refine keep ?_; intro s2 hs2
  exact Holds.signalCq hs2

theorem Holds.postTag {b0 : State} {b1 b2 b3 : Nat} (hb0 : Holds w r b0) : Holds w r (State.postTag b0 b1 b2 b3) := by
  unfold State.postTag
  extract_lets +onlyGivenNames r0 bad1 s2 s3
  have hs3 : Holds w r s3 := Holds.inMgmt hb0
  clear_value s3; revert s3; refine keep ?_; intro s3 hs3
  exact Holds.freeTagOf (Holds.postCqe hs3)

theorem Holds.adminCqe {b0 : State} {b1 b2 b3 b4 : Nat} (hb0 : Holds w r b0) :
    Holds w r (State.adminCqe b0 b1 b2 b3 b4) := by
  unfold State.adminCqe
  split
  · rename_i z0 z1 z2
    exact Holds.ite hb0 (Holds.ite (Holds.modTag hb0) (Holds.postTag hb0))
  · rename_i z3 z4
    exact hb0

theorem Holds.deliverEvent {b0 : State} {b1 : Nat} (hb0 : Holds w r b0) : Holds w r (State.deliverEvent b0 b1) := by
  unfold State.deliverEvent
  extract_lets +onlyGivenNames x0
  refine Holds.ite hb0 ?_
  split
  · rename_i z1 z2 z3 z4 z5 z6 z7
    exact Holds.adminCqe (Holds.modInst hb0)
  · rename_i z8 z9 z10
    exact hb0

theorem Holds.writeCache {b0 : State} {b1 : Nat} (hb0 : Holds w r b0) : Holds w r (State.writeCache b0 b1) := by
  unfold State.writeCache
  extract_lets +onlyGivenNames s0
  have hs0 : Holds w r s0 := Holds.each hb0 (fun t1 x3 h2 => Holds.writeLine h2)
  clear_value s0; revert s0; refine keep ?_; intro s0 hs0
  exact Holds.modInst hs0

theorem Holds.dirtyOff {b0 : State} {b1 : Nat} (hb0 : Holds w r b0) : Holds w r (State.dirtyOff b0 b1) := by
  unfold State.dirtyOff
  exact Holds.modInst (Holds.writeCache hb0)

theorem Holds.event {b0 : State} {b1 b2 b3 b4 : Nat} (hb0 : Holds w r b0) :
    Holds w r (State.event b0 b1 b2 b3 b4) := by
  unfold State.event
  exact Holds.deliverEvent (Holds.modInst hb0)

theorem Holds.ideRelease {b0 : State} (hb0 : Holds w r b0) : Holds w r (State.ideRelease b0) := by
  unfold State.ideRelease
  refine Holds.ite hb0 ?_
  extract_lets +onlyGivenNames s0
  have hs0 : Holds w r s0 := Holds.each hb0 (fun t1 x3 h2 => Holds.emit h2)
  clear_value s0; revert s0; refine keep ?_; intro s0 hs0
  extract_lets +onlyGivenNames s4 s5
  have hs5 : Holds w r s5 := Holds.inPcie hs0
  clear_value s5; revert s5; refine keep ?_; intro s5 hs5
  exact Holds.each hs5 (fun t6 x8 h7 => Holds.deliverEvent h7)

theorem Holds.post {b0 : State} {b1 : Nat} {b2 : List ℤ} (hb0 : Holds w r b0) : Holds w r (State.post b0 b1 b2) := by
  unfold State.post
  extract_lets +onlyGivenNames r0
  exact Holds.inMgmt hb0

theorem Holds.postBack {b0 : State} {b1 : Nat} {b2 : List ℤ} (hb0 : Holds w r b0) :
    Holds w r (State.postBack b0 b1 b2) := by
  unfold State.postBack
  extract_lets +onlyGivenNames r0
  exact Holds.inMgmt hb0

theorem Holds.reply {b0 : State} {b1 b2 b3 : Nat} {b4 : List Nat} (hb0 : Holds w r b0) :
    Holds w r (State.reply b0 b1 b2 b3 b4) := by
  unfold State.reply
  extract_lets +onlyGivenNames c0 cq1 isRead2 s3
  have hs3 : Holds w r s3 := Holds.dirtyPages hb0
  clear_value s3; revert s3; refine keep ?_; intro s3 hs3
  exact Holds.emit hs3

theorem Holds.startReads {b0 : State} {b1 b2 : Nat} (hb0 : Holds w r b0) : Holds w r (State.startReads b0 b1 b2) := by
  unfold State.startReads
  extract_lets +onlyGivenNames i0 p1
  exact Holds.issueReads (Holds.modPortAt hb0)

theorem Holds.tickMail {b0 : State} (hb0 : Holds w r b0) : Holds w r (State.tickMail b0) := by
  unfold State.tickMail
  extract_lets +onlyGivenNames m0
  exact Holds.inMgmt hb0

theorem Holds.unmask {b0 : State} {b1 b2 : Nat} (hb0 : Holds w r b0) : Holds w r (State.unmask b0 b1 b2) := by
  unfold State.unmask
  exact Holds.deliverEvent (Holds.modInst hb0)

theorem Holds.vendorEvent {b0 : State} {b1 b2 b3 : Nat} (hb0 : Holds w r b0) :
    Holds w r (State.vendorEvent b0 b1 b2 b3) := by
  unfold State.vendorEvent
  exact Holds.ite (Holds.event hb0) hb0

theorem Holds.modChan {b0 : State} {b1 : Nat} {b2 : Chan → Chan} (hb0 : Holds w r b0) :
    Holds w r (State.modChan b0 b1 b2) := by
  unfold State.modChan
  exact Holds.inFlash hb0

theorem Holds.askBus {b0 : State} {b1 : Nat} {b2 : Bool} {b3 : Nat} (hb0 : Holds w r b0) :
    Holds w r (State.askBus b0 b1 b2 b3) := by
  unfold State.askBus
  exact Holds.modChan hb0

theorem Holds.enqueue {b0 : State} {b1 : Nat} {b2 : FlashOp} (hb0 : Holds w r b0) :
    Holds w r (State.enqueue b0 b1 b2) := by
  unfold State.enqueue
  exact Holds.modDie hb0

theorem Holds.leaveBus {b0 : State} {b1 : Nat} (hb0 : Holds w r b0) : Holds w r (State.leaveBus b0 b1) := by
  unfold State.leaveBus
  exact Holds.modChan hb0

theorem Holds.setBlock {b0 : State} {b1 b2 b3 : Nat} {b4 : Block → Block} (hb0 : Holds w r b0) :
    Holds w r (State.setBlock b0 b1 b2 b3 b4) := by
  unfold State.setBlock
  extract_lets +onlyGivenNames x0
  exact Holds.modBlock hb0

theorem Holds.setBlocks {b0 : State} {b1 : Nat} {b2 : List (Nat × Nat)} {b3 : Block → Block} (hb0 : Holds w r b0) :
    Holds w r (State.setBlocks b0 b1 b2 b3) := by
  unfold State.setBlocks
  exact Holds.each hb0 (fun t0 x2 h1 => Holds.setBlock h1)

theorem HoldsOP.takeBlocks {b0 : State} {b1 b2 : Nat} (hb0 : Holds w r b0) :
    HoldsOP w r (State.takeBlocks b0 b1 b2) := by
  unfold State.takeBlocks
  extract_lets +onlyGivenNames n0 l1
  exact HoldsOP.ite (HoldsOP.some (Holds.setBlocks hb0)) HoldsOP.none

theorem HoldsOP.regionNext {b0 : State} {b1 b2 : Nat} (hb0 : Holds w r b0) :
    HoldsOP w r (State.regionNext b0 b1 b2) := by
  unfold State.regionNext
  extract_lets +onlyGivenNames k0 at1 set2
  have hset2 : ∀ a0 a1, Holds w r a0 → Holds w r (set2 a0 a1) := fun t3 x5 h4 => Holds.inFlash h4
  split
  · rename_i z6 z7 z8
    exact HoldsOP.some (hset2 _ _ hb0)
  · rename_i z9 z10
    refine HoldsOP.mapOP (HoldsOP.takeBlocks hb0) (fun x11 h12 => ?_)
    extract_lets +onlyGivenNames s13
    have hs13 : Holds w r s13 := hset2 _ _ (show HoldsP w r _ from h12)
    clear_value s13; revert s13; refine keep ?_; intro s13 hs13
    extract_lets +onlyGivenNames old14
    exact HoldsP.mk (Holds.inFlash hs13)

theorem Holds.rowBlocks {b0 : State} {b1 b2 : Nat} {b3 : Block → Block} (hb0 : Holds w r b0) :
    Holds w r (State.rowBlocks b0 b1 b2 b3) := by
  unfold State.rowBlocks
  exact Holds.setBlocks hb0

theorem Holds.modBridge {b0 : State} {b1 : Nat} {b2 : Bridge → Bridge} (hb0 : Holds w r b0) :
    Holds w r (State.modBridge b0 b1 b2) := by
  unfold State.modBridge
  exact Holds.inFabric hb0

theorem Holds.drainBridge {b0 : State} {b1 : Nat} (hb0 : Holds w r b0) : Holds w r (State.drainBridge b0 b1) := by
  unfold State.drainBridge
  exact Holds.ite hb0 (Holds.modBridge hb0)

theorem Holds.gateWake {b0 : State} {b1 : Nat} (hb0 : Holds w r b0) : Holds w r (State.gateWake b0 b1) := by
  unfold State.gateWake
  extract_lets +onlyGivenNames d0
  exact Holds.ite hb0 (Holds.inPower hb0)

theorem Holds.serveBridge {b0 : State} {b1 : Nat} (hb0 : Holds w r b0) : Holds w r (State.serveBridge b0 b1) := by
  unfold State.serveBridge
  extract_lets +onlyGivenNames b0
  refine Holds.ite hb0 ?_
  extract_lets +onlyGivenNames s1
  have hs1 : Holds w r s1 := Holds.modBridge hb0
  clear_value s1; revert s1; refine keep ?_; intro s1 hs1
  exact Holds.inFabric hs1

theorem Holds.settleStop {b0 : State} {b1 : Nat} (hb0 : Holds w r b0) : Holds w r (State.settleStop b0 b1) := by
  unfold State.settleStop
  extract_lets +onlyGivenNames b0
  exact Holds.ite (Holds.inFabric hb0) hb0

theorem Holds.tickBridges {b0 : State} (hb0 : Holds w r b0) : Holds w r (State.tickBridges b0) := by
  unfold State.tickBridges
  exact Holds.each hb0 (fun t0 x2 h1 => Holds.serveBridge (Holds.settleStop (Holds.drainBridge h1)))

theorem Holds.tickChannels {b0 : State} (hb0 : Holds w r b0) : Holds w r (State.tickChannels b0) := by
  unfold State.tickChannels
  exact Holds.inFlash hb0

theorem Holds.tickDram {b0 : State} (hb0 : Holds w r b0) : Holds w r (State.tickDram b0) := by
  unfold State.tickDram
  split
  · rename_i z0 z1 z2
    exact Holds.ite (Holds.inDram hb0) hb0
  · rename_i z3 z4
    exact hb0

theorem Holds.leaveTree {b0 : State} {b1 : TreeOp → Bool} (hb0 : Holds w r b0) :
    Holds w r (State.leaveTree b0 b1) := by
  unfold State.leaveTree
  extract_lets +onlyGivenNames tree0
  exact Holds.inWmk hb0

theorem Holds.modFport {b0 : State} {b1 : Nat} {b2 : FPort → FPort} (hb0 : Holds w r b0) :
    Holds w r (State.modFport b0 b1 b2) := by
  unfold State.modFport
  exact Holds.inWmk hb0

theorem HoldsP.settleSnap {b0 : State} {b1 : Fence} {b2 : Nat} (hb0 : Holds w r b0) :
    HoldsP w r (State.settleSnap b0 b1 b2) := by
  unfold State.settleSnap
  refine HoldsP.ite (HoldsP.mk hb0) ?_
  exact HoldsP.ite (HoldsP.mk hb0) (HoldsP.mk (Holds.setReg (Holds.setReg (Holds.inWmk hb0))))

theorem Holds.reportFence {b0 : State} {b1 : Nat} {b2 : Fence} {b3 : Nat} (hb0 : Holds w r b0) :
    Holds w r (State.reportFence b0 b1 b2 b3) := by
  unfold State.reportFence
  split
  · rename_i z0 z1 z2 z3
    have h4 := HoldsP.of_eq (w := w) (r := r) z3 (HoldsP.settleSnap hb0)
    extract_lets +onlyGivenNames s5
    have hs5 : Holds w r s5 := Holds.bump h4
    clear_value s5; revert s5; refine keep ?_; intro s5 hs5
    refine Holds.ite hs5 ?_
    refine Holds.ite (Holds.emit hs5) ?_
    extract_lets +onlyGivenNames s6
    have hs6 : Holds w r s6 := Holds.setReg (Holds.setReg hs5)
    clear_value s6; revert s6; refine keep ?_; intro s6 hs6
    extract_lets +onlyGivenNames s7
    have hs7 : Holds w r s7 := Holds.ite (Holds.setReg hs6) hs6
    clear_value s7; revert s7; refine keep ?_; intro s7 hs7
    extract_lets +onlyGivenNames s8
    have hs8 : Holds w r s8 := Holds.emit hs7
    clear_value s8; revert s8; refine keep ?_; intro s8 hs8
    exact Holds.ite (Holds.interrupt hs8) hs8

theorem Holds.releaseFences {b0 : State} {b1 : Nat} (hb0 : Holds w r b0) : Holds w r (State.releaseFences b0 b1) := by
  unfold State.releaseFences
  extract_lets +onlyGivenNames ended0 s1
  have hs1 : Holds w r s1 := Holds.modFport hb0
  clear_value s1; revert s1; refine keep ?_; intro s1 hs1
  exact Holds.each hs1 (fun t2 x4 h3 => Holds.reportFence h3)

theorem Holds.abandonFences {b0 : State} {b1 : Fence → Bool} (hb0 : Holds w r b0) :
    Holds w r (State.abandonFences b0 b1) := by
  unfold State.abandonFences
  extract_lets +onlyGivenNames hit0 s'1 s'2
  refine cut (P := Holds w r s'2) ?_ fun hs'2 => ?_
  · unfold s'2
    exact Holds.inWmk hb0
  clear_value s'2; revert s'2; refine keep ?_; intro s'2 hs'2
  extract_lets +onlyGivenNames s'3
  refine cut (P := Holds w r s'3) ?_ fun hs'3 => ?_
  · unfold s'3
    exact Holds.leaveTree hs'2
  clear_value s'3; revert s'3; refine keep ?_; intro s'3 hs'3
  exact Holds.each hs'3 (fun t4 x6 h5 => Holds.releaseFences h5)

theorem Holds.modFence {b0 : State} {b1 b2 : Nat} {b3 : Fence → Fence} (hb0 : Holds w r b0) :
    Holds w r (State.modFence b0 b1 b2 b3) := by
  unfold State.modFence
  exact Holds.modFport hb0

theorem Holds.endFence {b0 : State} {b1 b2 b3 : Nat} (hb0 : Holds w r b0) :
    Holds w r (State.endFence b0 b1 b2 b3) := by
  unfold State.endFence
  extract_lets +onlyGivenNames s0 s1
  have hs1 : Holds w r s1 := Holds.inWmk hb0
  clear_value s1; revert s1; refine keep ?_; intro s1 hs1
  exact Holds.releaseFences (Holds.leaveTree (Holds.modFence hs1))

theorem Holds.enterTree {b0 : State} {b1 : TreeOp} (hb0 : Holds w r b0) : Holds w r (State.enterTree b0 b1) := by
  unfold State.enterTree
  exact Holds.inWmk hb0

theorem Holds.stall {b0 : State} {b1 : Stalled} (hb0 : Holds w r b0) : Holds w r (State.stall b0 b1) := by
  unfold State.stall
  exact Holds.inWmk hb0

theorem Holds.latch {b0 : State} {b1 : Msg} {b2 : Nat} (hb0 : Holds w r b0) : Holds w r (State.latch b0 b1 b2) := by
  unfold State.latch
  refine Holds.ite hb0 ?_
  refine Holds.ite ?_ ?_
  · extract_lets +onlyGivenNames w0
    exact Holds.setReg (Holds.setReg (Holds.setReg (Holds.setReg (Holds.setReg hb0))))
  extract_lets +onlyGivenNames s1
  have hs1 : Holds w r s1 := Holds.bump (Holds.setReg hb0)
  clear_value s1; revert s1; refine keep ?_; intro s1 hs1
  exact Holds.ite (Holds.setReg hs1) hs1

theorem Holds.writeRec {b0 : State} {b1 : Rec} (hb0 : Holds w r b0) : Holds w r (State.writeRec b0 b1) := by
  unfold State.writeRec
  extract_lets +onlyGivenNames burst0 spent1
  refine Holds.ite ?_ ?_
  · extract_lets +onlyGivenNames src2
    have hsrc2 : Holds w r src2 := Holds.bump hb0
    exact Holds.inKlog hsrc2
  extract_lets +onlyGivenNames s3 s4
  have hs4 : Holds w r s4 := Holds.ite (Holds.inKlog hb0) hb0
  clear_value s4; revert s4; refine keep ?_; intro s4 hs4
  split
  · rename_i z5 z6
    exact Holds.inKlog hs4
  · rename_i z7 z8 z9 z10
    extract_lets +onlyGivenNames seq11 pel12 r13 s14
    have hs14 : Holds w r s14 := Holds.bumpBy (Holds.setReg hs4)
    clear_value s14; revert s14; refine keep ?_; intro s14 hs14
    extract_lets +onlyGivenNames ring15
    exact Holds.inKlog hs14

theorem Holds.log {b0 : State} {b1 b2 b3 : Nat} {b4 : List Nat} (hb0 : Holds w r b0) :
    Holds w r (State.log b0 b1 b2 b3 b4) := by
  unfold State.log
  exact Holds.writeRec hb0

theorem HoldsO.dumpOn {b0 : State} {b1 : For} {b2 : List Nat} (hb0 : Holds w r b0) :
    HoldsO w r (State.dumpOn b0 b1 b2) := by
  induction b2 generalizing b0 b1
  · unfold State.dumpOn
    exact HoldsO.none
  · rename_i hh nn ih
    unfold State.dumpOn
    split
    · rename_i z0 z1 z2
      refine cut (HoldsOP.of_some (w := w) (r := r) z2 (HoldsOP.regionNext hb0)) fun h3 => ?_
      exact HoldsO.some (Holds.enqueue (show HoldsP w r _ from h3))
    · rename_i z4 z5
      apply ih
      exact hb0

theorem Holds.planDump {b0 : State} {b1 : List DUnit} (hb0 : Holds w r b0) : Holds w r (State.planDump b0 b1) := by
  unfold State.planDump
  extract_lets +onlyGivenNames s0 s1 s2
  have hs2 : Holds w r s2 := Holds.upd (x := b0) hb0 rfl rfl rfl rfl rfl rfl rfl
  clear_value s2; revert s2; refine keep ?_; intro s2 hs2
  extract_lets +onlyGivenNames ds3 heads4 s5
  have hs5 : Holds w r s5 := Holds.each hs2 (fun t6 x8 h7 => Holds.getD (HoldsO.dumpOn h7) h7)
  clear_value s5; revert s5; refine keep ?_; intro s5 hs5
  extract_lets +onlyGivenNames s9
  have hs9 : Holds w r s9 := Holds.getD (HoldsO.dumpOn hs5) hs5
  clear_value s9; revert s9; refine keep ?_; intro s9 hs9
  extract_lets +onlyGivenNames s10
  have hs10 : Holds w r s10 := Holds.each hs9 (fun t11 x13 h12 => Holds.getD (HoldsO.dumpOn h12) h12)
  clear_value s10; revert s10; refine keep ?_; intro s10 hs10
  extract_lets +onlyGivenNames groups14
  exact Holds.inZone hs10

theorem Holds.dumpStart {b0 : State} (hb0 : Holds w r b0) : Holds w r (State.dumpStart b0) := by
  unfold State.dumpStart
  extract_lets +onlyGivenNames s0 s1 s2
  have hs2 : Holds w r s2 := Holds.upd (x := b0) hb0 rfl rfl rfl rfl rfl rfl rfl
  refine Holds.ite hs2 ?_
  extract_lets +onlyGivenNames s3
  have hs3 : Holds w r s3 := Holds.abandonFences (Holds.post hs2)
  clear_value s3; revert s3; refine keep ?_; intro s3 hs3
  extract_lets +onlyGivenNames units4 dies5 s6 s7
  have hs7 : Holds w r s7 := Holds.inFlash hs3
  clear_value s7; revert s7; refine keep ?_; intro s7 hs7
  extract_lets +onlyGivenNames s8 s9 s10 s11
  have hs11 : Holds w r s11 := Holds.upd (x := s7) hs7 rfl rfl rfl rfl rfl rfl rfl
  clear_value s11; revert s11; refine keep ?_; intro s11 hs11
  exact Holds.planDump hs11

theorem Holds.graveEnter {b0 : State} (hb0 : Holds w r b0) : Holds w r b0.graveEnter := by
  unfold State.graveEnter
  refine Holds.ite hb0 ?_
  extract_lets p t b u
  have ht : Holds w r t :=
    hb0.trans ⟨rfl, Nat.le_refl _, List.suffix_refl _, fun _ _ h => h, fun h => h, fun h => h, fun _ _ => rfl⟩
  have hu : Holds w r u := Holds.ite (Holds.upd (x := t) ht rfl rfl rfl rfl rfl rfl rfl) ht
  exact Holds.log (Holds.dumpStart hu)

theorem Holds.accept {b0 : State} {b1 : Msg} {b2 b3 : Bool} {b4 : Nat} (hb0 : Holds w r b0) :
    Holds w r (State.accept b0 b1 b2 b3 b4) := by
  unfold State.accept
  extract_lets +onlyGivenNames c0 old1 win2 raised3 cls4 latched5 s6
  have hs6 : Holds w r s6 := Holds.modSrc hb0
  clear_value s6; revert s6; refine keep ?_; intro s6 hs6
  extract_lets +onlyGivenNames s7
  have hs7 : Holds w r s7 := Holds.latch hs6
  clear_value s7; revert s7; refine keep ?_; intro s7 hs7
  extract_lets +onlyGivenNames s8
  have hs8 : Holds w r s8 := Holds.ite (Holds.setReg hs7) hs7
  clear_value s8; revert s8; refine keep ?_; intro s8 hs8
  extract_lets +onlyGivenNames s9 s10
  have hs10 : Holds w r s10 := Holds.inKlog hs8
  clear_value s10; revert s10; refine keep ?_; intro s10 hs10
  extract_lets +onlyGivenNames m11 s12
  have hs12 : Holds w r s12 := Holds.writeRec hs10
  clear_value s12; revert s12; refine keep ?_; intro s12 hs12
  refine Holds.ite (Holds.graveEnter (Holds.ite (Holds.interrupt hs12) hs12)) ?_
  refine Holds.ite (Holds.upd (x := s12) hs12 rfl rfl rfl rfl rfl rfl rfl) ?_
  exact Holds.ite (Holds.upd (x := s12) hs12 rfl rfl rfl rfl rfl rfl rfl) hs12

theorem Holds.fltMsg {b0 : State} {b1 : Msg} {b2 b3 : optParam Bool Bool.false} (hb0 : Holds w r b0) :
    Holds w r (State.fltMsg b0 b1 b2 b3) := by
  unfold State.fltMsg
  exact Holds.ite (Holds.accept hb0) (Holds.modSrc hb0)

theorem Holds.lifeBreak {b0 : State} {b1 : Nat} (hb0 : Holds w r b0) : Holds w r (State.lifeBreak b0 b1) := by
  unfold State.lifeBreak
  exact Holds.ite hb0 (Holds.inMgmt hb0)

theorem Holds.report {b0 : State} {b1 b2 b3 b4 : Nat} (hb0 : Holds w r b0) :
    Holds w r (State.report b0 b1 b2 b3 b4) := by
  unfold State.report
  exact Holds.fltMsg hb0

theorem Holds.reportHost {b0 : State} {b1 b2 b3 b4 : Nat} {b5 : Bool} (hb0 : Holds w r b0) :
    Holds w r (State.reportHost b0 b1 b2 b3 b4 b5) := by
  unfold State.reportHost
  exact Holds.fltMsg hb0

theorem Holds.reportTransient {b0 : State} {b1 b2 b3 : Nat} (hb0 : Holds w r b0) :
    Holds w r (State.reportTransient b0 b1 b2 b3) := by
  unfold State.reportTransient
  exact Holds.fltMsg hb0

theorem Holds.removeEntry {b0 : State} {b1 : Nat} (hb0 : Holds w r b0) : Holds w r (State.removeEntry b0 b1) := by
  unfold State.removeEntry
  refine Holds.ite (Holds.modEnt hb0) ?_
  extract_lets +onlyGivenNames s0
  have hs0 : Holds w r s0 := Holds.modEnt hb0
  clear_value s0; revert s0; refine keep ?_; intro s0 hs0
  exact Holds.inSieve hs0

theorem Holds.endWalk {b0 : State} {b1 : Nat} (hb0 : Holds w r b0) : Holds w r (State.endWalk b0 b1) := by
  unfold State.endWalk
  split
  · rename_i z0 z1 z2 z3
    extract_lets +onlyGivenNames s4 s5
    have hs5 : Holds w r s5 := Holds.inSieve hb0
    clear_value s5; revert s5; refine keep ?_; intro s5 hs5
    exact Holds.each hs5 (fun t6 x8 h7 => Holds.ite (Holds.removeEntry h7) h7)

theorem Holds.renamePos {b0 : State} {b1 b2 : Nat} (hb0 : Holds w r b0) : Holds w r (State.renamePos b0 b1 b2) := by
  unfold State.renamePos
  extract_lets +onlyGivenNames moved0
  exact Holds.upd (x := b0) hb0 rfl rfl rfl rfl rfl rfl rfl

theorem Holds.retirePos {b0 : State} {b1 : Nat} (hb0 : Holds w r b0) : Holds w r (State.retirePos b0 b1) := by
  unfold State.retirePos
  extract_lets +onlyGivenNames e0 h1 before2 s3
  have hs3 : Holds w r s3 := Holds.modEnt hb0
  clear_value s3; revert s3; refine keep ?_; intro s3 hs3
  extract_lets +onlyGivenNames s4 s5
  have hs5 : Holds w r s5 := Holds.inSieve hs3
  clear_value s5; revert s5; refine keep ?_; intro s5 hs5
  extract_lets +onlyGivenNames s6 s7 s8 s9
  have hs9 : Holds w r s9 := Holds.inSieve hs5
  clear_value s9; revert s9; refine keep ?_; intro s9 hs9
  extract_lets +onlyGivenNames s10
  refine cut (P := HoldsF w r s10) ?_ fun hs10 => ?_
  · unfold s10
    refine HoldsF.foldl (fun x11 x12 => ?_) (HoldsF.mk hs9)
    intro x13
    split
    · rename_i z14 z15
      exact x13
    · rename_i z16 z17 z18
      exact HoldsF.mk (Holds.modEnt (show HoldsF w r _ from x13))
  clear_value s10; revert s10; refine keep ?_; intro s10 hs10
  extract_lets +onlyGivenNames s19
  refine cut (P := Holds w r s19) ?_ fun hs19 => ?_
  · unfold s19
    refine Holds.ite hs5 ?_
    refine Holds.ite ?_ (show HoldsF w r _ from hs10)
    split
    · rename_i z20 z21
      exact hs5
    · rename_i z22 z23 z24
      extract_lets +onlyGivenNames s25
      have hs25 : Holds w r s25 := Holds.modEnt hs5
      clear_value s25; revert s25; refine keep ?_; intro s25 hs25
      extract_lets +onlyGivenNames s26 s27
      have hs27 : Holds w r s27 := Holds.inSieve hs25
      clear_value s27; revert s27; refine keep ?_; intro s27 hs27
      exact Holds.renamePos hs27
  clear_value s19; revert s19; refine keep ?_; intro s19 hs19
  exact Holds.ite (Holds.report hs19) hs19

theorem Holds.falseHit {b0 : State} {b1 : FalseHit} (hb0 : Holds w r b0) : Holds w r (State.falseHit b0 b1) := by
  unfold State.falseHit
  split
  · rename_i z0
    exact hb0
  · rename_i z1 z2
    extract_lets +onlyGivenNames s3
    have hs3 : Holds w r s3 := Holds.setReg (Holds.setReg (Holds.setReg hb0))
    clear_value s3; revert s3; refine keep ?_; intro s3 hs3
    exact Holds.reportTransient (Holds.bump hs3)
  · rename_i z4 z5
    extract_lets +onlyGivenNames s6
    have hs6 : Holds w r s6 := Holds.setReg (Holds.setReg (Holds.setReg hb0))
    clear_value s6; revert s6; refine keep ?_; intro s6 hs6
    exact Holds.report (Holds.retirePos hs6)
  · rename_i z7 z8
    exact hb0
  · rename_i z9 z10
    exact Holds.inSieve hb0

theorem HoldsP.insertEntry {b0 : State} {b1 : Ent} {b2 : Holder} {b3 : Bool} (hb0 : Holds w r b0) :
    HoldsP w r (State.insertEntry b0 b1 b2 b3) := by
  unfold State.insertEntry
  split
  · rename_i z0 z1
    exact HoldsP.mk hb0
  · rename_i z2 z3 z4
    extract_lets +onlyGivenNames s5
    have hs5 : Holds w r s5 := Holds.modEnt hb0
    clear_value s5; revert s5; refine keep ?_; intro s5 hs5
    exact HoldsP.mk (Holds.inSieve hs5)

theorem Holds.lookupHit {b0 : State} {b1 : FalseHit} (hb0 : Holds w r b0) : Holds w r (State.lookupHit b0 b1) := by
  unfold State.lookupHit
  extract_lets +onlyGivenNames at0
  have hat0 : ∀ a0, Holds w r (at0 a0) := fun x1 => Holds.ite (Holds.falseHit hb0) hb0
  split
  · rename_i z2
    exact hb0
  · rename_i z3 z4
    exact hat0 _
  · rename_i z5 z6
    exact hat0 _
  · rename_i z7 z8
    exact hat0 _
  · rename_i z9 z10
    exact hat0 _

theorem Holds.removeEntries {b0 : State} {b1 : List Nat} (hb0 : Holds w r b0) :
    Holds w r (State.removeEntries b0 b1) := by
  unfold State.removeEntries
  exact Holds.each hb0 (fun t0 x2 h1 => Holds.removeEntry h1)

theorem Holds.modRow {b0 : State} {b1 : RowRef} {b2 : RowRec → RowRec} (hb0 : Holds w r b0) :
    Holds w r (State.modRow b0 b1 b2) := by
  unfold State.modRow
  exact Holds.inFlash hb0

theorem Holds.trailRec {b0 : State} {b1 : TrailRec} (hb0 : Holds w r b0) : Holds w r (State.trailRec b0 b1) := by
  unfold State.trailRec
  exact Holds.inTrail hb0

theorem Holds.bindRow {b0 : State} {b1 : RowRef} {b2 : Nat} {b3 : Option Nat} (hb0 : Holds w r b0) :
    Holds w r (State.bindRow b0 b1 b2 b3) := by
  unfold State.bindRow
  extract_lets +onlyGivenNames s0
  have hs0 : Holds w r s0 := Holds.modGroup hb0
  clear_value s0; revert s0; refine keep ?_; intro s0 hs0
  extract_lets +onlyGivenNames s1
  have hs1 : Holds w r s1 := Holds.modRow hs0
  clear_value s1; revert s1; refine keep ?_; intro s1 hs1
  split
  · rename_i z2 z3
    exact Holds.trailRec (Holds.modZone hs1)
  · rename_i z4
    exact Holds.modNs hs1

theorem Holds.reservePool {b0 : State} {b1 : RowRef} (hb0 : Holds w r b0) : Holds w r (State.reservePool b0 b1) := by
  unfold State.reservePool
  extract_lets +onlyGivenNames x0
  refine Holds.ite hb0 ?_
  extract_lets +onlyGivenNames ds1
  refine Holds.ite hb0 ?_
  extract_lets +onlyGivenNames t2
  refine cut (P := HoldsP w r t2) ?_ fun ht2 => ?_
  · unfold t2
    refine HoldsP.foldl (fun x3 x4 => ?_) (HoldsP.mk hb0)
    intro x5
    split
    · rename_i z6 z7 z8
      refine cut (HoldsOP.of_some (w := w) (r := r) z8 ?_) fun h9 => HoldsP.mk (show HoldsP w r _ from h9)
      exact HoldsOP.takeBlocks (show HoldsP w r _ from x5)
    · rename_i z10 z11
      exact x5
  clear_value t2; revert t2; refine keep ?_; intro t2 ht2
  exact Holds.modRow (show HoldsP w r _ from ht2)

theorem Holds.fillBlocks {b0 : State} {b1 b2 : Nat} (hb0 : Holds w r b0) : Holds w r (State.fillBlocks b0 b1 b2) := by
  unfold State.fillBlocks
  exact Holds.ite hb0 (Holds.rowBlocks hb0)

theorem Holds.parityCheck {b0 : State} {b1 : RowRef} {b2 : Nat} (hb0 : Holds w r b0) :
    Holds w r (State.parityCheck b0 b1 b2) := by
  unfold State.parityCheck
  extract_lets +onlyGivenNames x0 n1 g2 units3
  refine Holds.ite hb0 ?_
  split
  · rename_i z4 z5
    exact hb0
  · rename_i z6 z7 z8
    extract_lets +onlyGivenNames s9
    have hs9 : Holds w r s9 := Holds.modRow hb0
    clear_value s9; revert s9; refine keep ?_; intro s9 hs9
    exact Holds.enqueue hs9

theorem Holds.scanRow {b0 : State} {b1 : RowRef} (hb0 : Holds w r b0) : Holds w r (State.scanRow b0 b1) := by
  unfold State.scanRow
  exact Holds.each hb0 (fun t0 x2 h1 => Holds.enqueue h1)

theorem Holds.verifyCheck {b0 : State} {b1 : RowRef} (hb0 : Holds w r b0) : Holds w r (State.verifyCheck b0 b1) := by
  unfold State.verifyCheck
  extract_lets +onlyGivenNames x0
  refine Holds.ite hb0 ?_
  extract_lets +onlyGivenNames s1
  have hs1 : Holds w r s1 := Holds.modRow hb0
  clear_value s1; revert s1; refine keep ?_; intro s1 hs1
  extract_lets +onlyGivenNames s2 s3
  have hs3 : Holds w r s3 := Holds.inFlash hs1
  clear_value s3; revert s3; refine keep ?_; intro s3 hs3
  exact Holds.scanRow (Holds.each hs3 (fun t4 x6 h5 => Holds.fillBlocks h5))

theorem Holds.unitDone {b0 : State} {b1 : RowRef} {b2 : Nat} (hb0 : Holds w r b0) :
    Holds w r (State.unitDone b0 b1 b2) := by
  unfold State.unitDone
  extract_lets +onlyGivenNames g0
  refine Holds.ite ?_ ?_
  · extract_lets +onlyGivenNames s1
    have hs1 : Holds w r s1 := Holds.modRow hb0
    clear_value s1; revert s1; refine keep ?_; intro s1 hs1
    extract_lets +onlyGivenNames s2
    have hs2 : Holds w r s2 := Holds.fillBlocks hs1
    clear_value s2; revert s2; refine keep ?_; intro s2 hs2
    extract_lets +onlyGivenNames n3 s4
    have hs4 : Holds w r s4 := Holds.ite hs2 (Holds.parityCheck hs2)
    clear_value s4; revert s4; refine keep ?_; intro s4 hs4
    exact Holds.verifyCheck hs4
  extract_lets +onlyGivenNames s5
  have hs5 : Holds w r s5 := Holds.modRow hb0
  clear_value s5; revert s5; refine keep ?_; intro s5 hs5
  extract_lets +onlyGivenNames s6
  have hs6 : Holds w r s6 := Holds.ite hs5 (Holds.rowBlocks hs5)
  clear_value s6; revert s6; refine keep ?_; intro s6 hs6
  exact Holds.verifyCheck (Holds.parityCheck hs6)

theorem Holds.queueUnit {b0 : State} {b1 : RowRef} {b2 : Nat} {b3 : Bool} (hb0 : Holds w r b0) :
    Holds w r (State.queueUnit b0 b1 b2 b3) := by
  unfold State.queueUnit
  extract_lets +onlyGivenNames g0
  exact Holds.ite (Holds.unitDone hb0) (Holds.enqueue hb0)

theorem Holds.issueTo {b0 : State} {b1 : RowRef} {b2 : Nat} {b3 : Bool} {b4 : Nat} (hb0 : Holds w r b0) :
    Holds w r (State.issueTo b0 b1 b2 b3 b4) := by
  induction b4 generalizing b0 b1 b2 b3
  · unfold State.issueTo
    exact hb0
  · rename_i nn ih
    unfold State.issueTo
    extract_lets +onlyGivenNames x0 g1 u2
    refine Holds.ite hb0 ?_
    extract_lets +onlyGivenNames s3
    have hs3 : Holds w r s3 := Holds.ite (Holds.reservePool hb0) hb0
    clear_value s3; revert s3; refine keep ?_; intro s3 hs3
    refine Holds.ite hs3 ?_
    extract_lets +onlyGivenNames s4
    have hs4 : Holds w r s4 := Holds.ite (Holds.modRow hs3) hs3
    clear_value s4; revert s4; refine keep ?_; intro s4 hs4
    extract_lets +onlyGivenNames s5
    refine cut (P := Holds w r s5) ?_ fun hs5 => ?_
    · unfold s5
      split
      · rename_i z6 z7 z8
        exact Holds.ite (Holds.modZone hs4) hs4
      · rename_i z9 z10
        exact hs4
    clear_value s5; revert s5; refine keep ?_; intro s5 hs5
    apply ih
    exact Holds.queueUnit (Holds.modRow hs5)

theorem Holds.queueTrailers {b0 : State} {b1 : RowRef} {b2 : Bool} (hb0 : Holds w r b0) :
    Holds w r (State.queueTrailers b0 b1 b2) := by
  unfold State.queueTrailers
  extract_lets +onlyGivenNames g0 s1
  have hs1 : Holds w r s1 := Holds.modRow hb0
  clear_value s1; revert s1; refine keep ?_; intro s1 hs1
  exact Holds.each hs1 (fun t2 x4 h3 => Holds.queueUnit h3)

theorem Holds.closeRow {b0 : State} {b1 : RowRef} (hb0 : Holds w r b0) : Holds w r (State.closeRow b0 b1) := by
  unfold State.closeRow
  extract_lets +onlyGivenNames x0 g1
  split
  · rename_i z2 z3
    exact hb0
  · rename_i z4 z5 z6
    refine Holds.ite hb0 ?_
    extract_lets +onlyGivenNames n7 s8
    have hs8 : Holds w r s8 := Holds.issueTo hb0
    clear_value s8; revert s8; refine keep ?_; intro s8 hs8
    extract_lets +onlyGivenNames s9
    have hs9 : Holds w r s9 := Holds.ite hs8 (Holds.reservePool hs8)
    clear_value s9; revert s9; refine keep ?_; intro s9 hs9
    refine Holds.ite hs9 ?_
    extract_lets +onlyGivenNames s10
    refine cut (P := Holds w r s10) ?_ fun hs10 => ?_
    · unfold s10
      split
      · rename_i z11 z12 z13
        exact Holds.modZone hs9
      · rename_i z14 z15
        exact hs9
    clear_value s10; revert s10; refine keep ?_; intro s10 hs10
    exact Holds.queueTrailers hs10

theorem Holds.zoneChanged {b0 : State} {b1 b2 : Nat} (hb0 : Holds w r b0) :
    Holds w r (State.zoneChanged b0 b1 b2) := by
  unfold State.zoneChanged
  refine Holds.each hb0 (fun t0 x2 h1 => ?_)
  extract_lets +onlyGivenNames key3 s4 s5
  have hs5 : Holds w r s5 := Holds.inZone h1
  clear_value s5; revert s5; refine keep ?_; intro s5 hs5
  exact Holds.ite (Holds.event hs5) hs5

theorem Holds.leaveEmpty {b0 : State} {b1 b2 : Nat} (hb0 : Holds w r b0) : Holds w r (State.leaveEmpty b0 b1 b2) := by
  unfold State.leaveEmpty
  split
  · rename_i z0 z1 z2
    exact hb0
  · rename_i z3 z4
    split
    · rename_i z5 z6 z7
      extract_lets +onlyGivenNames s8
      have hs8 : Holds w r s8 := Holds.bindRow (Holds.takeCfg hb0)
      clear_value s8; revert s8; refine keep ?_; intro s8 hs8
      extract_lets +onlyGivenNames lane9
      exact Holds.modZone hs8
    · rename_i z10 z11
      exact hb0

theorem Holds.issueRow {b0 : State} {b1 : RowRef} {b2 : Nat} (hb0 : Holds w r b0) :
    Holds w r (State.issueRow b0 b1 b2) := by
  unfold State.issueRow
  extract_lets +onlyGivenNames g0 x1 to2
  exact Holds.issueTo hb0

theorem Holds.driveRow {b0 : State} {b1 : RowRef} {b2 : Nat} (hb0 : Holds w r b0) :
    Holds w r (State.driveRow b0 b1 b2) := by
  unfold State.driveRow
  exact Holds.closeRow (Holds.issueRow hb0)

theorem Holds.finishZone {b0 : State} {b1 b2 : Nat} {b3 : Bool} (hb0 : Holds w r b0) :
    Holds w r (State.finishZone b0 b1 b2 b3) := by
  unfold State.finishZone
  extract_lets +onlyGivenNames x0 s1
  have hs1 : Holds w r s1 := Holds.leaveEmpty hb0
  clear_value s1; revert s1; refine keep ?_; intro s1 hs1
  extract_lets +onlyGivenNames s2
  have hs2 : Holds w r s2 := Holds.modZone hs1
  clear_value s2; revert s2; refine keep ?_; intro s2 hs2
  extract_lets +onlyGivenNames s3
  have hs3 : Holds w r s3 := Holds.trailRec hs2
  clear_value s3; revert s3; refine keep ?_; intro s3 hs3
  split
  · rename_i z4 z5 z6
    exact Holds.driveRow (Holds.modRow hs3)
  · rename_i z7 z8
    exact hs3

theorem Holds.controllerFinish {b0 : State} {b1 b2 : Nat} (hb0 : Holds w r b0) :
    Holds w r (State.controllerFinish b0 b1 b2) := by
  unfold State.controllerFinish
  exact Holds.zoneChanged (Holds.finishZone hb0)

theorem Holds.readOnlyZone {b0 : State} {b1 b2 : Nat} (hb0 : Holds w r b0) :
    Holds w r (State.readOnlyZone b0 b1 b2) := by
  unfold State.readOnlyZone
  exact Holds.zoneChanged (Holds.trailRec (Holds.modZone hb0))

theorem Holds.declareExhausted {b0 : State} {b1 : Nat} (hb0 : Holds w r b0) :
    Holds w r (State.declareExhausted b0 b1) := by
  unfold State.declareExhausted
  extract_lets +onlyGivenNames s0
  have hs0 : Holds w r s0 := Holds.modDieSet hb0
  clear_value s0; revert s0; refine keep ?_; intro s0 hs0
  extract_lets +onlyGivenNames s1
  have hs1 : Holds w r s1 := Holds.each hs0 (fun t2 x4 h3 => Holds.controllerFinish h3)
  clear_value s1; revert s1; refine keep ?_; intro s1 hs1
  refine Holds.foldl (fun t5 x7 h6 => ?_) hs1
  refine Holds.foldl (fun t8 x10 h9 => ?_) h6
  extract_lets +onlyGivenNames st11
  exact Holds.ite h9 (Holds.readOnlyZone h9)

theorem Holds.releaseRow {b0 : State} {b1 : RowRef} {b2 b3 b4 b5 : Nat} (hb0 : Holds w r b0) :
    Holds w r (State.releaseRow b0 b1 b2 b3 b4 b5) := by
  unfold State.releaseRow
  extract_lets +onlyGivenNames s0
  have hs0 : Holds w r s0 := Holds.modGroup hb0
  clear_value s0; revert s0; refine keep ?_; intro s0 hs0
  extract_lets +onlyGivenNames s1
  have hs1 : Holds w r s1 := Holds.modRow hs0
  clear_value s1; revert s1; refine keep ?_; intro s1 hs1
  exact Holds.inFlash hs1

theorem Holds.withdrawRow {b0 : State} {b1 : RowRef} (hb0 : Holds w r b0) : Holds w r (State.withdrawRow b0 b1) := by
  unfold State.withdrawRow
  extract_lets +onlyGivenNames mine0
  exact Holds.inFlash hb0

theorem Holds.dropKept {b0 : State} {b1 : RowRef} (hb0 : Holds w r b0) : Holds w r (State.dropKept b0 b1) := by
  unfold State.dropKept
  refine Holds.each hb0 (fun t0 x2 h1 => ?_)
  extract_lets +onlyGivenNames rest3
  refine Holds.ite (Holds.releaseRow (Holds.withdrawRow (Holds.modDieSet h1))) ?_
  extract_lets +onlyGivenNames s4
  have hs4 : Holds w r s4 := Holds.modDieSet h1
  clear_value s4; revert s4; refine keep ?_; intro s4 hs4
  exact Holds.ite hs4 (Holds.modRow (Holds.inFlash hs4))

theorem Holds.setRules {b0 : State} {b1 : List Ent} (hb0 : Holds w r b0) : Holds w r (State.setRules b0 b1) := by
  unfold State.setRules
  extract_lets +onlyGivenNames base0 s1 s2
  have hs2 : Holds w r s2 := Holds.inSieve hb0
  clear_value s2; revert s2; refine keep ?_; intro s2 hs2
  change HoldsF w r _
  refine HoldsF.foldl (fun x3 x4 => ?_) (HoldsF.mk hs2)
  intro x5
  split
  · rename_i z6 z7
    exact x5
  · rename_i z8 z9 z10
    exact HoldsF.mk (Holds.modEnt (show HoldsF w r _ from x5))

theorem Holds.ruleReply {b0 : State} {b1 b2 : Nat} (hb0 : Holds w r b0) : Holds w r (State.ruleReply b0 b1 b2) := by
  unfold State.ruleReply
  exact Holds.emit hb0

theorem Holds.startShift {b0 : State} {b1 : Nat} (hb0 : Holds w r b0) : Holds w r (State.startShift b0 b1) := by
  induction b1 generalizing b0
  · unfold State.startShift
    exact hb0
  · rename_i nn ih
    unfold State.startShift
    split
    · rename_i z0 z1
      exact hb0
    · rename_i z2 z3 z4 z5
      split
      · rename_i z6 z7
        exact hb0
      · rename_i z8 z9
        exact Holds.setRules hb0
      · rename_i z10 z11
        extract_lets +onlyGivenNames s12
        have hs12 : Holds w r s12 := Holds.ruleReply (Holds.setRules hb0)
        clear_value s12; revert s12; refine keep ?_; intro s12 hs12
        apply ih
        exact Holds.inSieve hs12

theorem Holds.endShift {b0 : State} (hb0 : Holds w r b0) : Holds w r (State.endShift b0) := by
  unfold State.endShift
  split
  · rename_i z0 z1
    exact hb0
  · rename_i z2 z3 z4 z5
    extract_lets +onlyGivenNames s6
    have hs6 : Holds w r s6 := Holds.ite (Holds.setRules hb0) hb0
    clear_value s6; revert s6; refine keep ?_; intro s6 hs6
    extract_lets +onlyGivenNames s7 s8
    have hs8 : Holds w r s8 := Holds.inSieve hs6
    clear_value s8; revert s8; refine keep ?_; intro s8 hs8
    exact Holds.startShift (Holds.ruleReply hs8)

theorem Holds.finishShifts {b0 : State} (hb0 : Holds w r b0) : Holds w r (State.finishShifts b0) := by
  unfold State.finishShifts
  exact Holds.each hb0 (fun t0 x2 h1 => Holds.endShift h1)

theorem Holds.queueRule {b0 : State} {b1 : RuleChange} (hb0 : Holds w r b0) : Holds w r (State.queueRule b0 b1) := by
  unfold State.queueRule
  extract_lets +onlyGivenNames idle0 s1 s2
  have hs2 : Holds w r s2 := Holds.trailRec (Holds.inSieve hb0)
  clear_value s2; revert s2; refine keep ?_; intro s2 hs2
  exact Holds.ite (Holds.startShift hs2) hs2

theorem HoldsP.dropRules {b0 : State} {b1 : Ent → Bool} (hb0 : Holds w r b0) :
    HoldsP w r (State.dropRules b0 b1) := by
  unfold State.dropRules
  extract_lets +onlyGivenNames s0
  have hs0 : Holds w r s0 := Holds.finishShifts hb0
  clear_value s0; revert s0; refine keep ?_; intro s0 hs0
  extract_lets +onlyGivenNames gone1
  exact HoldsP.mk (Holds.each hs0 (fun t2 x4 h3 => Holds.finishShifts (Holds.queueRule h3)))

theorem Holds.endOrphan {b0 : State} {b1 : RowRef} {b2 : Nat} (hb0 : Holds w r b0) :
    Holds w r (State.endOrphan b0 b1 b2) := by
  unfold State.endOrphan
  exact Holds.ite (Holds.driveRow (Holds.modRow hb0)) hb0

theorem Holds.endWindow {b0 : State} {b1 b2 : Nat} (hb0 : Holds w r b0) : Holds w r (State.endWindow b0 b1 b2) := by
  unfold State.endWindow
  extract_lets +onlyGivenNames x0
  refine Holds.ite hb0 ?_
  extract_lets +onlyGivenNames s1
  have hs1 : Holds w r s1 := Holds.modDieSet hb0
  clear_value s1; revert s1; refine keep ?_; intro s1 hs1
  extract_lets +onlyGivenNames s2
  have hs2 : Holds w r s2 := Holds.each hs1 (fun t3 x5 h4 => Holds.modDie h4)
  clear_value s2; revert s2; refine keep ?_; intro s2 hs2
  exact Holds.ite (Holds.event hs2) hs2

theorem Holds.implicitClose {b0 : State} {b1 : Nat} (hb0 : Holds w r b0) : Holds w r (State.implicitClose b0 b1) := by
  unfold State.implicitClose
  refine Holds.ite hb0 ?_
  split
  · rename_i z0 z1 z2 z3
    exact Holds.trailRec (Holds.modZone hb0)
  · rename_i z4 z5
    exact hb0

theorem Holds.ladder {b0 : State} {b1 : Nat} (hb0 : Holds w r b0) : Holds w r (State.ladder b0 b1) := by
  unfold State.ladder
  extract_lets +onlyGivenNames old0 new1
  refine Holds.ite hb0 ?_
  extract_lets +onlyGivenNames s2
  have hs2 : Holds w r s2 := Holds.endWindow (Holds.modDieSet hb0)
  clear_value s2; revert s2; refine keep ?_; intro s2 hs2
  exact Holds.ite (Holds.declareExhausted hs2) hs2

theorem Holds.releaseBlocks {b0 : State} {b1 : Nat} {b2 : List Nat} (hb0 : Holds w r b0) :
    Holds w r (State.releaseBlocks b0 b1 b2) := by
  unfold State.releaseBlocks
  exact Holds.ite hb0 (Holds.ite (Holds.setBlocks hb0) (Holds.trailRec (Holds.setBlocks hb0)))

theorem Holds.releasePool {b0 : State} {b1 : RowRef} (hb0 : Holds w r b0) : Holds w r (State.releasePool b0 b1) := by
  unfold State.releasePool
  exact Holds.modRow (Holds.each hb0 (fun t0 x2 h1 => Holds.releaseBlocks h1))

theorem Holds.releaseParity {b0 : State} {b1 : RowRef} (hb0 : Holds w r b0) :
    Holds w r (State.releaseParity b0 b1) := by
  unfold State.releaseParity
  exact Holds.modRow (Holds.dropKept (Holds.releasePool hb0))

theorem Holds.leaveParity {b0 : State} {b1 : RowRef} (hb0 : Holds w r b0) : Holds w r (State.leaveParity b0 b1) := by
  unfold State.leaveParity
  exact Holds.ite hb0 (Holds.releaseParity hb0)

theorem Holds.restoreHashes {b0 : State} {b1 : List (Nat × Nat × Nat × Nat)} (hb0 : Holds w r b0) :
    Holds w r (State.restoreHashes b0 b1) := by
  unfold State.restoreHashes
  exact Holds.each hb0 (fun t0 x2 h1 => Holds.modZone h1)

theorem Holds.wordlineCovered {b0 : State} {b1 : RowRef} {b2 : Nat} (hb0 : Holds w r b0) :
    Holds w r (State.wordlineCovered b0 b1 b2) := by
  unfold State.wordlineCovered
  extract_lets +onlyGivenNames p0 s1
  have hs1 : Holds w r s1 := Holds.modRow hb0
  clear_value s1; revert s1; refine keep ?_; intro s1 hs1
  exact Holds.inTrail hs1

theorem Holds.modJob {b0 : State} {b1 : Nat} {b2 : FixJob → FixJob} (hb0 : Holds w r b0) :
    Holds w r (State.modJob b0 b1 b2) := by
  unfold State.modJob
  exact Holds.inFixity hb0

theorem Holds.endJob {b0 : State} {b1 : Nat} (hb0 : Holds w r b0) : Holds w r (State.endJob b0 b1) := by
  unfold State.endJob
  extract_lets +onlyGivenNames x0 s1
  have hs1 : Holds w r s1 := Holds.modJob hb0
  clear_value s1; revert s1; refine keep ?_; intro s1 hs1
  extract_lets +onlyGivenNames s2
  have hs2 : Holds w r s2 := Holds.log hs1
  clear_value s2; revert s2; refine keep ?_; intro s2 hs2
  split
  · rename_i z3 z4 z5
    exact Holds.modTag hs2
  · rename_i z6 z7
    exact Holds.vendorEvent hs2

theorem Holds.admitFixity {b0 : State} {b1 : Nat} (hb0 : Holds w r b0) : Holds w r (State.admitFixity b0 b1) := by
  unfold State.admitFixity
  extract_lets +onlyGivenNames r0 a1
  refine Holds.ite ?_ ?_
  · extract_lets +onlyGivenNames j2 s3
    have hs3 : Holds w r s3 := Holds.ite (Holds.modJob hb0) hb0
    clear_value s3; revert s3; refine keep ?_; intro s3 hs3
    extract_lets +onlyGivenNames s4
    have hs4 : Holds w r s4 := Holds.ite (Holds.endJob hs3) hs3
    clear_value s4; revert s4; refine keep ?_; intro s4 hs4
    exact Holds.modTag hs4
  refine Holds.ite (Holds.modTag hb0) ?_
  split
  · rename_i z5 z6
    exact Holds.modTag hb0
  · rename_i z7 z8 z9
    extract_lets +onlyGivenNames opts10 s11 s12
    have hs12 : Holds w r s12 := Holds.inFixity hb0
    clear_value s12; revert s12; refine keep ?_; intro s12 hs12
    extract_lets +onlyGivenNames s13
    have hs13 : Holds w r s13 := Holds.modJob hs12
    clear_value s13; revert s13; refine keep ?_; intro s13 hs13
    exact Holds.modTag hs13

theorem Holds.withdrawScan {b0 : State} {b1 : RowRef} (hb0 : Holds w r b0) :
    Holds w r (State.withdrawScan b0 b1) := by
  unfold State.withdrawScan
  exact Holds.inFlash hb0

theorem Holds.fixResult {b0 : State} {b1 : Nat} {b2 : FixResult} (hb0 : Holds w r b0) :
    Holds w r (State.fixResult b0 b1 b2) := by
  unfold State.fixResult
  extract_lets +onlyGivenNames s0
  have hs0 : Holds w r s0 := Holds.modJob hb0
  clear_value s0; revert s0; refine keep ?_; intro s0 hs0
  extract_lets +onlyGivenNames s1
  have hs1 : Holds w r s1 := Holds.ite (Holds.log hs0) hs0
  clear_value s1; revert s1; refine keep ?_; intro s1 hs1
  exact Holds.ite (Holds.endJob hs1) hs1

theorem Holds.endVerify {b0 : State} {b1 b2 : Nat} (hb0 : Holds w r b0) : Holds w r (State.endVerify b0 b1 b2) := by
  unfold State.endVerify
  extract_lets +onlyGivenNames under0 s1
  have hs1 : Holds w r s1 := Holds.ite (Holds.withdrawScan hb0) hb0
  clear_value s1; revert s1; refine keep ?_; intro s1 hs1
  exact Holds.each hs1 (fun t2 x4 h3 => Holds.fixResult h3)

theorem Holds.gdResult {b0 : State} {b1 : GDesc} {b2 : Nat} (hb0 : Holds w r b0) :
    Holds w r (State.gdResult b0 b1 b2) := by
  unfold State.gdResult
  exact Holds.emit hb0

theorem Holds.modSlot {b0 : State} {b1 : Nat} {b2 : Slot → Slot} (hb0 : Holds w r b0) :
    Holds w r (State.modSlot b0 b1 b2) := by
  unfold State.modSlot
  exact Holds.inGlaze hb0

theorem Holds.gdEnd {b0 : State} {b1 : GDesc} {b2 : Nat} (hb0 : Holds w r b0) : Holds w r (State.gdEnd b0 b1 b2) := by
  unfold State.gdEnd
  exact Holds.gdResult (Holds.each hb0 (fun t0 x2 h1 => Holds.modSlot h1))

theorem Holds.modLane {b0 : State} {b1 : Nat} {b2 : Lane → Lane} (hb0 : Holds w r b0) :
    Holds w r (State.modLane b0 b1 b2) := by
  unfold State.modLane
  exact Holds.inGlaze hb0

theorem Holds.laneNext {b0 : State} {b1 b2 : Nat} (hb0 : Holds w r b0) : Holds w r (State.laneNext b0 b1 b2) := by
  induction b2 generalizing b0 b1
  · unfold State.laneNext
    exact hb0
  · rename_i nn ih
    unfold State.laneNext
    extract_lets +onlyGivenNames x0
    refine Holds.ite hb0 ?_
    extract_lets +onlyGivenNames resume1
    refine Holds.ite ?_ ?_
    · split
      · rename_i z2 z3
        exact hb0
      · rename_i z4 z5 z6
        extract_lets +onlyGivenNames rest7
        refine Holds.ite (Holds.modLane hb0) ?_
        apply ih
        exact Holds.gdEnd (Holds.modLane hb0)
    split
    · rename_i z8 z9 z10 z11 z12
      extract_lets +onlyGivenNames s13 s14
      have hs14 : Holds w r s14 := Holds.inGlaze hb0
      clear_value s14; revert s14; refine keep ?_; intro s14 hs14
      refine Holds.ite (Holds.modLane hs14) ?_
      apply ih
      exact Holds.gdEnd hs14
    · rename_i z15 z16 z17 z18 z19 z20
      extract_lets +onlyGivenNames s21 s22
      have hs22 : Holds w r s22 := Holds.inGlaze hb0
      clear_value s22; revert s22; refine keep ?_; intro s22 hs22
      refine Holds.ite (Holds.modLane hs22) ?_
      apply ih
      exact Holds.gdEnd hs22
    · rename_i z23 z24 z25 z26
      exact hb0

theorem Holds.gdPlace {b0 : State} {b1 : GDesc} (hb0 : Holds w r b0) : Holds w r (State.gdPlace b0 b1) := by
  unfold State.gdPlace
  refine Holds.ite ?_ ?_
  · split
    · rename_i z0 z1 z2 z3
      exact Holds.modLane hb0
    · rename_i z4 z5
      split
      · rename_i z6 z7 z8
        split
        · rename_i z9 z10 z11
          extract_lets +onlyGivenNames s12
          have hs12 : Holds w r s12 := Holds.modLane hb0
          clear_value s12; revert s12; refine keep ?_; intro s12 hs12
          exact Holds.bump hs12
        · rename_i z13 z14
          exact hb0
      · rename_i z15 z16
        exact Holds.inGlaze hb0
  split
  · rename_i z17 z18 z19
    exact Holds.modLane hb0
  · rename_i z20 z21
    exact Holds.inGlaze hb0

theorem Holds.gdSubmit {b0 : State} {b1 : GDesc} (hb0 : Holds w r b0) : Holds w r (State.gdSubmit b0 b1) := by
  unfold State.gdSubmit
  refine Holds.ite (Holds.gdResult hb0) ?_
  refine Holds.ite (Holds.gdResult hb0) ?_
  refine Holds.ite (Holds.inGlaze hb0) ?_
  exact Holds.ite (Holds.gdResult hb0) (Holds.gdPlace (Holds.each hb0 (fun t0 x2 h1 => Holds.modSlot h1)))

theorem Holds.gdAdmitWaiting {b0 : State} (hb0 : Holds w r b0) : Holds w r (State.gdAdmitWaiting b0) := by
  unfold State.gdAdmitWaiting
  split
  · rename_i z0 z1
    exact hb0
  · rename_i z2 z3 z4
    exact Holds.gdSubmit (Holds.inGlaze hb0)

theorem Holds.discardDescs {b0 : State} {b1 b2 : Nat} (hb0 : Holds w r b0) :
    Holds w r (State.discardDescs b0 b1 b2) := by
  unfold State.discardDescs
  extract_lets +onlyGivenNames mine0 waits1 taken2 lanes3 s4 s5
  have hs5 : Holds w r s5 := Holds.inGlaze hb0
  clear_value s5; revert s5; refine keep ?_; intro s5 hs5
  extract_lets +onlyGivenNames s6
  have hs6 : Holds w r s6 := Holds.each hs5 (fun t7 x9 h8 => Holds.gdResult h8)
  clear_value s6; revert s6; refine keep ?_; intro s6 hs6
  extract_lets +onlyGivenNames s10
  have hs10 : Holds w r s10 := Holds.each hs6 (fun t11 x13 h12 => Holds.gdEnd h12)
  clear_value s10; revert s10; refine keep ?_; intro s10 hs10
  extract_lets +onlyGivenNames s14
  have hs14 : Holds w r s14 := Holds.each hs10 (fun t15 x17 h16 => Holds.laneNext h16)
  clear_value s14; revert s14; refine keep ?_; intro s14 hs14
  exact Holds.each hs14 (fun t18 x20 h19 => Holds.gdAdmitWaiting h19)

theorem Holds.leaveTarget {b0 : State} {b1 : RowRef} {b2 b3 b4 : Nat} {b5 : Bool} (hb0 : Holds w r b0) :
    Holds w r (State.leaveTarget b0 b1 b2 b3 b4 b5) := by
  unfold State.leaveTarget
  extract_lets +onlyGivenNames s0
  have hs0 : Holds w r s0 := Holds.releaseRow (Holds.leaveParity (Holds.withdrawRow hb0))
  clear_value s0; revert s0; refine keep ?_; intro s0 hs0
  exact Holds.inFlash hs0

theorem Holds.abandonRefire {b0 : State} {b1 b2 b3 : Nat} (hb0 : Holds w r b0) :
    Holds w r (State.abandonRefire b0 b1 b2 b3) := by
  unfold State.abandonRefire
  extract_lets +onlyGivenNames d0
  split
  · rename_i z1 z2
    exact Holds.modDieSet hb0
  · rename_i z3 z4 z5
    extract_lets +onlyGivenNames s6
    have hs6 : Holds w r s6 := Holds.modDieSet hb0
    clear_value s6; revert s6; refine keep ?_; intro s6 hs6
    exact Holds.leaveTarget (Holds.removeEntries hs6)

theorem Holds.endRead {b0 : State} {b1 : Nat} (hb0 : Holds w r b0) : Holds w r (State.endRead b0 b1) := by
  unfold State.endRead
  extract_lets +onlyGivenNames r0 s1
  refine cut (P := Holds w r s1) ?_ fun hs1 => ?_
  · unfold s1
    refine Holds.each hb0 (fun t2 x4 h3 => ?_)
    split
    · rename_i z5 z6 z7
      exact Holds.dropClaim h3
    · rename_i z8 z9
      exact h3
  clear_value s1; revert s1; refine keep ?_; intro s1 hs1
  extract_lets +onlyGivenNames s10
  have hs10 : Holds w r s10 := Holds.releaseUnits hs1
  clear_value s10; revert s10; refine keep ?_; intro s10 hs10
  exact Holds.removeEntries (Holds.endWalk hs10)

theorem Holds.dropWaiting {b0 : State} {b1 : Nat} (hb0 : Holds w r b0) : Holds w r (State.dropWaiting b0 b1) := by
  unfold State.dropWaiting
  extract_lets +onlyGivenNames r0 s1
  have hs1 : Holds w r s1 := Holds.each hb0 (fun t2 x4 h3 => Holds.modNs h3)
  clear_value s1; revert s1; refine keep ?_; intro s1 hs1
  extract_lets +onlyGivenNames sets5
  exact Holds.inZone hs1

theorem Holds.modExpo {b0 : State} {b1 : Nat} {b2 : Expo → Expo} (hb0 : Holds w r b0) :
    Holds w r (State.modExpo b0 b1 b2) := by
  unfold State.modExpo
  exact Holds.inTrail hb0

theorem Holds.queueReads {b0 : State} {b1 b2 : Nat} {b3 : List (Nat × Nat × Source)} (hb0 : Holds w r b0) :
    Holds w r (State.queueReads b0 b1 b2 b3) := by
  unfold State.queueReads
  refine Holds.foldl (fun t0 x2 h1 => ?_) hb0
  split
  · rename_i z3 z4 z5
    extract_lets +onlyGivenNames b6
    split
    · rename_i z7 z8
      exact h1
    · rename_i z9 z10 z11
      extract_lets +onlyGivenNames u12
      exact Holds.enqueue h1
  · rename_i z13 z14
    exact h1

theorem Holds.resource {b0 : State} {b1 : Nat} (hb0 : Holds w r b0) : Holds w r (State.resource b0 b1) := by
  unfold State.resource
  refine Holds.each hb0 (fun t0 x2 h1 => ?_)
  refine Holds.foldl (fun t3 x5 h4 => ?_) h1
  split
  · rename_i z6 z7 z8 z9
    refine Holds.ite h4 ?_
    extract_lets +onlyGivenNames lba10 src11 s12
    have hs12 : Holds w r s12 := Holds.dropClaim h4
    clear_value s12; revert s12; refine keep ?_; intro s12 hs12
    extract_lets +onlyGivenNames s13
    refine cut (P := Holds w r s13) ?_ fun hs13 => ?_
    · unfold s13
      try clear_value lba10
      try clear_value src11
      try clear_value s13
      split
      · rename_i z14 z15 z16
        exact Holds.claimUnit hs12
      · rename_i z17 z18
        exact hs12
    clear_value s13; revert s13; refine keep ?_; intro s13 hs13
    extract_lets +onlyGivenNames s19
    have hs19 : Holds w r s19 := Holds.modTag hs13
    clear_value s19; revert s19; refine keep ?_; intro s19 hs19
    exact Holds.queueReads hs19
  · rename_i z20 z21
    exact h4

theorem Holds.dropEntriesOf {b0 : State} {b1 : Nat} (hb0 : Holds w r b0) : Holds w r (State.dropEntriesOf b0 b1) := by
  unfold State.dropEntriesOf
  exact Holds.removeEntries hb0

theorem Holds.dropRange {b0 : State} {b1 : Expo} (hb0 : Holds w r b0) : Holds w r (State.dropRange b0 b1) := by
  unfold State.dropRange
  exact Holds.removeEntries hb0

theorem Holds.sweepExpos {b0 : State} (hb0 : Holds w r b0) : Holds w r (State.sweepExpos b0) := by
  unfold State.sweepExpos
  split
  · rename_i z0 z1 z2 z3
    extract_lets +onlyGivenNames s4 s5
    have hs5 : Holds w r s5 := Holds.inTrail hb0
    clear_value s5; revert s5; refine keep ?_; intro s5 hs5
    exact Holds.each hs5 (fun t6 x8 h7 => Holds.dropRange h7)

theorem Holds.failWrite {b0 : State} {b1 b2 : Nat} (hb0 : Holds w r b0) : Holds w r (State.failWrite b0 b1 b2) := by
  unfold State.failWrite
  split
  · rename_i z0 z1
    exact hb0
  · rename_i z2 z3 z4
    extract_lets +onlyGivenNames z5 hole6 units7 s8
    have hs8 : Holds w r s8 := Holds.modExpo hb0
    clear_value s8; revert s8; refine keep ?_; intro s8 hs8
    extract_lets +onlyGivenNames s9
    have hs9 : Holds w r s9 := Holds.ite (Holds.each hs8 (fun t10 x12 h11 => Holds.modBlk h11)) hs8
    clear_value s9; revert s9; refine keep ?_; intro s9 hs9
    extract_lets +onlyGivenNames s13
    have hs13 : Holds w r s13 := Holds.resource hs9
    clear_value s13; revert s13; refine keep ?_; intro s13 hs13
    extract_lets +onlyGivenNames s14
    have hs14 : Holds w r s14 := Holds.dropEntriesOf (Holds.releaseUnits hs13)
    clear_value s14; revert s14; refine keep ?_; intro s14 hs14
    extract_lets +onlyGivenNames s15
    have hs15 : Holds w r s15 := Holds.modZone hs14
    clear_value s15; revert s15; refine keep ?_; intro s15 hs15
    extract_lets +onlyGivenNames s16
    have hs16 : Holds w r s16 := Holds.ite hs14 (Holds.log (Holds.trailRec hs15))
    clear_value s16; revert s16; refine keep ?_; intro s16 hs16
    extract_lets +onlyGivenNames s17
    refine cut (P := Holds w r s17) ?_ fun hs17 => ?_
    · unfold s17
      split
      · rename_i z18 z19 z20
        exact Holds.driveRow hs16
      · rename_i z21 z22
        exact hs16
    clear_value s17; revert s17; refine keep ?_; intro s17 hs17
    exact Holds.sweepExpos hs17

theorem HoldsP.abortTag {b0 : State} {b1 b2 : Nat} (hb0 : Holds w r b0) : HoldsP w r (State.abortTag b0 b1 b2) := by
  unfold State.abortTag
  extract_lets +onlyGivenNames r0 ends1
  have hends1 : ∀ a0, Holds w r a0 → HoldsP w r (ends1 a0) :=
    fun t2 h3 => HoldsP.mk (Holds.postTag (Holds.discardDescs h3))
  split
  · rename_i z4 z5
    exact HoldsP.mk hb0
  · rename_i z6 z7
    exact HoldsP.mk hb0
  · rename_i z8 z9
    exact hends1 _ hb0
  · rename_i z10 z11
    refine HoldsP.ite (HoldsP.mk hb0) ?_
    split
    · rename_i z12 z13
      exact HoldsP.ite (HoldsP.mk hb0) (hends1 _ (Holds.endRead hb0))
    · rename_i z14 z15
      exact hends1 _ hb0
    · rename_i z16 z17
      exact hends1 _ (Holds.modInst hb0)
    · rename_i z18 z19
      exact HoldsP.ite (HoldsP.mk hb0) (hends1 _ (Holds.dropWaiting hb0))
    · rename_i z20 z21 z22 z23 z24
      exact HoldsP.ite (hends1 _ (Holds.failWrite hb0)) (HoldsP.mk hb0)

theorem Holds.resetZone {b0 : State} {b1 b2 b3 : Nat} (hb0 : Holds w r b0) :
    Holds w r (State.resetZone b0 b1 b2 b3) := by
  unfold State.resetZone
  extract_lets +onlyGivenNames x0 s1
  have hs1 : Holds w r s1 := Holds.endVerify hb0
  clear_value s1; revert s1; refine keep ?_; intro s1 hs1
  extract_lets +onlyGivenNames s2
  have hs2 : Holds w r s2 := Holds.abandonRefire hs1
  clear_value s2; revert s2; refine keep ?_; intro s2 hs2
  extract_lets +onlyGivenNames s3
  refine cut (P := Holds w r s3) ?_ fun hs3 => ?_
  · unfold s3
    split
    · rename_i z4 z5 z6
      exact Holds.leaveParity (Holds.endOrphan (Holds.releaseRow hs2))
    · rename_i z7 z8
      exact hs2
  clear_value s3; revert s3; refine keep ?_; intro s3 hs3
  extract_lets +onlyGivenNames s9
  have hs9 : Holds w r s9 := Holds.modNs hs3
  clear_value s9; revert s9; refine keep ?_; intro s9 hs9
  exact Holds.trailRec (Holds.modZone hs9)

theorem Holds.actOn {b0 : State} {b1 b2 : Nat} {b3 : ZAct} {b4 b5 : Nat} (hb0 : Holds w r b0) :
    Holds w r (State.actOn b0 b1 b2 b3 b4 b5) := by
  unfold State.actOn
  extract_lets +onlyGivenNames x0 d1
  split
  · rename_i z2
    extract_lets +onlyGivenNames s3
    have hs3 : Holds w r s3 := Holds.ite (Holds.implicitClose hb0) hb0
    clear_value s3; revert s3; refine keep ?_; intro s3 hs3
    extract_lets +onlyGivenNames s4
    have hs4 : Holds w r s4 := Holds.ite (Holds.leaveEmpty hs3) hs3
    clear_value s4; revert s4; refine keep ?_; intro s4 hs4
    exact Holds.trailRec (Holds.modZone hs4)
  · rename_i z5
    exact Holds.trailRec (Holds.modZone hb0)
  · rename_i z6
    exact Holds.ite hb0 (Holds.finishZone hb0)
  · rename_i z7
    exact Holds.ite hb0 (Holds.resetZone hb0)
  · rename_i z8
    exact Holds.ite hb0 (Holds.trailRec (Holds.modZone (Holds.abandonRefire (Holds.endVerify hb0))))
  · rename_i z9
    extract_lets +onlyGivenNames s10
    have hs10 : Holds w r s10 := Holds.leaveEmpty hb0
    clear_value s10; revert s10; refine keep ?_; intro s10 hs10
    exact Holds.trailRec (Holds.modZone hs10)

theorem HoldsP.actAll {b0 : State} {b1 : Nat} {b2 : ZAct} {b3 : Nat} {b4 : List Nat} (hb0 : Holds w r b0) :
    HoldsP w r (State.actAll b0 b1 b2 b3 b4) := by
  induction b4 generalizing b0 b1 b2 b3
  · unfold State.actAll
    exact HoldsP.mk hb0
  · rename_i hh nn ih
    unfold State.actAll
    split
    · rename_i z0 z1 z2
      refine HoldsP.ite (HoldsP.mk hb0) ?_
      apply ih
      exact hb0
    · rename_i z3 z4
      apply ih
      exact Holds.actOn hb0

theorem Holds.enterFlight {b0 : State} {b1 : Nat} (hb0 : Holds w r b0) : Holds w r (State.enterFlight b0 b1) := by
  unfold State.enterFlight
  extract_lets +onlyGivenNames r0 c1 seq2 s3 s4
  have hs4 : Holds w r s4 := Holds.ite hb0 (Holds.inIntake hb0)
  clear_value s4; revert s4; refine keep ?_; intro s4 hs4
  extract_lets +onlyGivenNames s5 s6 s7
  have hs7 : Holds w r s7 := Holds.ite (Holds.inIntake hs4) hs4
  clear_value s7; revert s7; refine keep ?_; intro s7 hs7
  extract_lets +onlyGivenNames s8
  have hs8 : Holds w r s8 := Holds.modInst hs7
  clear_value s8; revert s8; refine keep ?_; intro s8 hs8
  extract_lets +onlyGivenNames s9 s10
  have hs10 : Holds w r s10 := Holds.inIntake hs8
  clear_value s10; revert s10; refine keep ?_; intro s10 hs10
  exact Holds.modTag hs10

theorem Holds.insertFor {b0 : State} {b1 : Nat} {b2 : List (Nat × Nat)} {b3 b4 b5 : Nat} (hb0 : Holds w r b0) :
    Holds w r (State.insertFor b0 b1 b2 b3 b4 b5) := by
  unfold State.insertFor
  refine Holds.each hb0 (fun t0 x2 h1 => ?_)
  extract_lets +onlyGivenNames e3
  split
  · rename_i z4 z5 z6 z7
    have h8 := HoldsP.of_eq (w := w) (r := r) z7 (HoldsP.insertEntry h1)
    exact Holds.modTag h8
  · rename_i z9 z10 z11
    have h12 := HoldsP.of_eq (w := w) (r := r) z11 (HoldsP.insertEntry h1)
    exact h12

theorem Holds.admitRead {b0 : State} {b1 b2 : Nat} (hb0 : Holds w r b0) : Holds w r (State.admitRead b0 b1 b2) := by
  unfold State.admitRead
  extract_lets +onlyGivenNames r0 c1
  split
  · rename_i z2 z3 z4 z5
    have h6 := HoldsP.of_eq (w := w) (r := r) z5 (HoldsP.alloc hb0)
    extract_lets +onlyGivenNames hits7 s8 s9
    have hs9 : Holds w r s9 := Holds.ite h6 (Holds.inSieve h6)
    clear_value s9; revert s9; refine keep ?_; intro s9 hs9
    extract_lets +onlyGivenNames srcs10 s11
    have hs11 : Holds w r s11 := Holds.insertFor hs9
    clear_value s11; revert s11; refine keep ?_; intro s11 hs11
    extract_lets +onlyGivenNames s12
    refine cut (P := Holds w r s12) ?_ fun hs12 => ?_
    · unfold s12
      refine Holds.each hs11 (fun t13 x15 h14 => ?_)
      split
      · rename_i z16 z17 z18
        exact Holds.claimUnit h14
      · rename_i z19 z20
        exact h14
    clear_value s12; revert s12; refine keep ?_; intro s12 hs12
    extract_lets +onlyGivenNames s21
    have hs21 : Holds w r s21 := Holds.modTag hs12
    clear_value s21; revert s21; refine keep ?_; intro s21 hs21
    exact Holds.queueReads hs21

theorem Holds.windowCheck {b0 : State} {b1 : Nat} (hb0 : Holds w r b0) : Holds w r (State.windowCheck b0 b1) := by
  unfold State.windowCheck
  exact Holds.ite (Holds.endWindow hb0) hb0

theorem Holds.admitWrite {b0 : State} {b1 b2 : Nat} (hb0 : Holds w r b0) : Holds w r (State.admitWrite b0 b1 b2) := by
  unfold State.admitWrite
  extract_lets +onlyGivenNames r0 c1 n2 zi3 z4 s5
  have hs5 : Holds w r s5 := Holds.ite (Holds.implicitClose hb0) hb0
  clear_value s5; revert s5; refine keep ?_; intro s5 hs5
  extract_lets +onlyGivenNames s6
  have hs6 : Holds w r s6 := Holds.ite (Holds.leaveEmpty hs5) hs5
  clear_value s6; revert s6; refine keep ?_; intro s6 hs6
  extract_lets +onlyGivenNames lba7
  split
  · rename_i z8 z9 z10 z11
    have h12 := HoldsP.of_eq (w := w) (r := r) z11 (HoldsP.alloc hs6)
    extract_lets +onlyGivenNames us13 wz14 s15
    have hs15 : Holds w r s15 := Holds.insertFor h12
    clear_value s15; revert s15; refine keep ?_; intro s15 hs15
    extract_lets +onlyGivenNames row16 ex17 s18 s19
    have hs19 : Holds w r s19 := Holds.windowCheck (Holds.inTrail hs15)
    clear_value s19; revert s19; refine keep ?_; intro s19 hs19
    extract_lets +onlyGivenNames s20
    have hs20 : Holds w r s20 := Holds.ite (Holds.each hs19 (fun t21 x23 h22 => Holds.modUnit h22)) hs19
    clear_value s20; revert s20; refine keep ?_; intro s20 hs20
    extract_lets +onlyGivenNames s24
    have hs24 : Holds w r s24 := Holds.modTag hs20
    clear_value s24; revert s24; refine keep ?_; intro s24 hs24
    extract_lets +onlyGivenNames s25
    have hs25 : Holds w r s25 := Holds.ite hs24 (Holds.startReads hs24)
    clear_value s25; revert s25; refine keep ?_; intro s25 hs25
    extract_lets +onlyGivenNames s26
    have hs26 : Holds w r s26 := Holds.ite (Holds.trailRec hs25) hs25
    clear_value s26; revert s26; refine keep ?_; intro s26 hs26
    refine Holds.ite hs26 ?_
    extract_lets +onlyGivenNames wp'27 s28
    have hs28 : Holds w r s28 := Holds.modZone hs26
    clear_value s28; revert s28; refine keep ?_; intro s28 hs28
    extract_lets +onlyGivenNames s29
    have hs29 : Holds w r s29 := Holds.trailRec hs28
    clear_value s29; revert s29; refine keep ?_; intro s29 hs29
    extract_lets +onlyGivenNames s30
    have hs30 : Holds w r s30 := Holds.ite (Holds.finishZone hs29) hs29
    clear_value s30; revert s30; refine keep ?_; intro s30 hs30
    try clear_value r0
    try clear_value c1
    try clear_value n2
    try clear_value zi3
    try clear_value z4
    try clear_value lba7
    try clear_value us13
    try clear_value wz14
    try clear_value row16
    try clear_value ex17
    try clear_value s18
    try clear_value wp'27
    split
    · rename_i z31 z32
      have h33 := HoldsP.of_eq (w := w) (r := r) z11 (HoldsP.alloc hs6)
      exact Holds.ite (Holds.driveRow hs30) hs30
    · rename_i z34
      have h35 := HoldsP.of_eq (w := w) (r := r) z11 (HoldsP.alloc hs6)
      exact hs30

theorem Holds.admitDsm {b0 : State} {b1 b2 : Nat} (hb0 : Holds w r b0) : Holds w r (State.admitDsm b0 b1 b2) := by
  unfold State.admitDsm
  extract_lets +onlyGivenNames c0 n1 act2 s3
  have hs3 : Holds w r s3 := Holds.insertFor hb0
  clear_value s3; revert s3; refine keep ?_; intro s3 hs3
  extract_lets +onlyGivenNames s4
  refine cut (P := Holds w r s4) ?_ fun hs4 => ?_
  · unfold s4
    refine Holds.ite hs3 ?_
    refine Holds.each hs3 (fun t5 x7 h6 => ?_)
    extract_lets +onlyGivenNames s8 s9
    have hs9 : Holds w r s9 := Holds.inTrail h6
    clear_value s9; revert s9; refine keep ?_; intro s9 hs9
    exact Holds.trailRec hs9
  clear_value s4; revert s4; refine keep ?_; intro s4 hs4
  exact Holds.modTag hs4

theorem Holds.admitZoneSend {b0 : State} {b1 b2 : Nat} (hb0 : Holds w r b0) :
    Holds w r (State.admitZoneSend b0 b1 b2) := by
  unfold State.admitZoneSend
  extract_lets +onlyGivenNames c0 s1
  have hs1 : Holds w r s1 := Holds.insertFor hb0
  clear_value s1; revert s1; refine keep ?_; intro s1 hs1
  split
  · rename_i z2 z3 z4 z5
    have h6 := HoldsP.of_eq (w := w) (r := r) z5 (HoldsP.ite (HoldsP.actAll hs1) (HoldsP.mk (Holds.actOn hs1)))
    exact Holds.modTag h6

theorem HoldsP.resRegister {b0 : State} {b1 b2 : Nat} {b3 : List Nat} (hb0 : Holds w r b0) :
    HoldsP w r (State.resRegister b0 b1 b2 b3) := by
  unfold State.resRegister
  extract_lets +onlyGivenNames n0 h1 act2 ie3 cptpl4 crkey5 nrkey6 mine7 ptpl8
  try clear_value n0
  try clear_value h1
  try clear_value act2
  try clear_value ie3
  try clear_value cptpl4
  try clear_value crkey5
  try clear_value nrkey6
  try clear_value mine7
  try clear_value ptpl8
  split
  · rename_i z9 z10
    exact HoldsP.ite (HoldsP.mk hb0) (HoldsP.mk (Holds.modNs hb0))
  · rename_i z11 z12 z13
    exact HoldsP.ite (HoldsP.mk (Holds.modNs hb0)) (HoldsP.mk hb0)
  · rename_i z14 z15 z16
    exact HoldsP.mk hb0
  · rename_i z17 z18 z19
    exact HoldsP.ite (HoldsP.mk hb0) (HoldsP.mk (Holds.modNs hb0))
  · rename_i z20 z21 z22
    exact HoldsP.ite (HoldsP.mk hb0) (HoldsP.mk (Holds.modNs hb0))
  · rename_i z23 z24 z25 z26 z27 z28
    exact HoldsP.mk hb0

theorem Holds.resRecord {b0 : State} {b1 : Nat} (hb0 : Holds w r b0) : Holds w r (State.resRecord b0 b1) := by
  unfold State.resRecord
  exact Holds.ite (Holds.trailRec hb0) hb0

theorem Holds.resNotify {b0 : State} {b1 : Nat} {b2 : List Nat} {b3 : Nat} (hb0 : Holds w r b0) :
    Holds w r (State.resNotify b0 b1 b2 b3) := by
  unfold State.resNotify
  extract_lets +onlyGivenNames targets0
  exact Holds.each hb0 (fun t1 x3 h2 => Holds.event (Holds.modInst h2))

theorem Holds.resReleased {b0 : State} {b1 b2 : Nat} {b3 : Ns} (hb0 : Holds w r b0) :
    Holds w r (State.resReleased b0 b1 b2 b3) := by
  unfold State.resReleased
  split
  · rename_i z0 z1 z2 z3 z4 z5
    exact Holds.ite (Holds.resNotify hb0) hb0
  · rename_i z6 z7 z8
    exact hb0

theorem HoldsP.resAcquire {b0 : State} {b1 b2 : Nat} {b3 : List Nat} (hb0 : Holds w r b0) :
    HoldsP w r (State.resAcquire b0 b1 b2 b3) := by
  unfold State.resAcquire
  extract_lets +onlyGivenNames n0 h1 ty2
  split
  · rename_i z3 z4
    exact HoldsP.mk hb0
  · rename_i z5 z6 z7
    refine HoldsP.ite (HoldsP.mk hb0) ?_
    refine HoldsP.ite ?_ ?_
    · split
      · rename_i z8 z9
        exact HoldsP.ite (HoldsP.mk hb0) (HoldsP.mk (Holds.modNs hb0))
      · rename_i z10 z11 z12 z13
        exact HoldsP.ite (HoldsP.mk hb0) (HoldsP.mk hb0)
    refine HoldsP.ite (HoldsP.mk hb0) ?_
    extract_lets +onlyGivenNames pk14 shared15 hit16 wide17 takes18
    refine HoldsP.ite (HoldsP.mk hb0) ?_
    refine HoldsP.ite (HoldsP.mk hb0) ?_
    extract_lets +onlyGivenNames out19 s20
    have hs20 : Holds w r s20 := Holds.modNs hb0
    clear_value s20; revert s20; refine keep ?_; intro s20 hs20
    extract_lets +onlyGivenNames s21
    have hs21 : Holds w r s21 := Holds.resNotify hs20
    clear_value s21; revert s21; refine keep ?_; intro s21 hs21
    extract_lets +onlyGivenNames s22
    refine cut (P := Holds w r s22) ?_ fun hs22 => ?_
    · unfold s22
      refine Holds.ite hs21 ?_
      refine Holds.each hs21 (fun t23 x25 h24 => ?_)
      extract_lets +onlyGivenNames x26
      exact Holds.ite (show HoldsP w r _ from HoldsP.abortTag h24) h24
    clear_value s22; revert s22; refine keep ?_; intro s22 hs22
    exact HoldsP.mk hs22

theorem HoldsP.resRelease {b0 : State} {b1 b2 : Nat} {b3 : List Nat} (hb0 : Holds w r b0) :
    HoldsP w r (State.resRelease b0 b1 b2 b3) := by
  unfold State.resRelease
  extract_lets +onlyGivenNames n0 h1
  split
  · rename_i z2 z3
    exact HoldsP.mk hb0
  · rename_i z4 z5 z6
    refine HoldsP.ite (HoldsP.mk hb0) ?_
    refine HoldsP.ite (HoldsP.mk (Holds.resNotify (Holds.modNs hb0))) ?_
    split
    · rename_i z7 z8
      exact HoldsP.mk hb0
    · rename_i z9 z10 z11 z12
      exact HoldsP.ite (HoldsP.mk hb0) (HoldsP.ite (HoldsP.mk hb0) (HoldsP.mk (Holds.modNs hb0)))

theorem Holds.endConvRow {b0 : State} {b1 : RowRef} {b2 : Nat} (hb0 : Holds w r b0) :
    Holds w r (State.endConvRow b0 b1 b2) := by
  unfold State.endConvRow
  exact Holds.driveRow (Holds.modRow hb0)

theorem Holds.setOpen {b0 : State} {b1 b2 : Nat} {b3 : Option OpenRow} (hb0 : Holds w r b0) :
    Holds w r (State.setOpen b0 b1 b2 b3) := by
  unfold State.setOpen
  exact Holds.modNs hb0

theorem Holds.endOpen {b0 : State} {b1 b2 : Nat} (hb0 : Holds w r b0) : Holds w r (State.endOpen b0 b1 b2) := by
  unfold State.endOpen
  split
  · rename_i z0 z1 z2
    exact Holds.endConvRow (Holds.setOpen hb0)
  · rename_i z3 z4
    exact hb0

theorem Holds.endHandle {b0 : State} {b1 b2 : Nat} (hb0 : Holds w r b0) : Holds w r (State.endHandle b0 b1 b2) := by
  unfold State.endHandle
  exact Holds.each hb0 (fun t0 x2 h1 => Holds.endOpen h1)

theorem Holds.admitOther {b0 : State} {b1 : Nat} (hb0 : Holds w r b0) : Holds w r (State.admitOther b0 b1) := by
  unfold State.admitOther
  extract_lets +onlyGivenNames r0 c1
  split
  · rename_i z2 z3 z4 z5
    refine cut (HoldsP.of_eq (w := w) (r := r) z5 ?_) fun h6 => ?_
    · split
      · rename_i z7 z8
        extract_lets +onlyGivenNames x9
        have hx9 : HoldsP w r x9 := HoldsP.resRegister hb0
        clear_value x9; revert x9; refine keep ?_; intro x9 hx9
        exact HoldsP.mk (Holds.resRecord (Holds.resReleased (show HoldsP w r _ from hx9)))
      · rename_i z10 z11
        extract_lets +onlyGivenNames x12
        have hx12 : HoldsP w r x12 := HoldsP.resAcquire hb0
        clear_value x12; revert x12; refine keep ?_; intro x12 hx12
        exact HoldsP.mk (Holds.resRecord (show HoldsP w r _ from hx12))
      · rename_i z13 z14
        extract_lets +onlyGivenNames x15
        have hx15 : HoldsP w r x15 := HoldsP.resRelease hb0
        clear_value x15; revert x15; refine keep ?_; intro x15 hx15
        exact HoldsP.mk (Holds.resRecord (Holds.resReleased (show HoldsP w r _ from hx15)))
      · rename_i z16 z17
        extract_lets +onlyGivenNames n18
        exact HoldsP.mk (Holds.reply hb0)
      · rename_i z19 z20
        exact HoldsP.mk (Holds.reply hb0)
      · rename_i z21 z22
        extract_lets +onlyGivenNames n23
        exact HoldsP.ite (HoldsP.mk hb0) (HoldsP.mk (Holds.each hb0 (fun t24 x26 h25 => Holds.endHandle h25)))
      · rename_i z27 z28
        extract_lets +onlyGivenNames n29
        exact HoldsP.ite (HoldsP.mk hb0) (HoldsP.mk (Holds.reply hb0))
      · rename_i z30 z31 z32 z33 z34 z35 z36 z37
        exact HoldsP.mk hb0
    exact Holds.ite (Holds.admitFixity h6) (Holds.modTag h6)

theorem Holds.admitAt {b0 : State} {b1 : Nat} (hb0 : Holds w r b0) : Holds w r (State.admitAt b0 b1) := by
  unfold State.admitAt
  extract_lets +onlyGivenNames seq0 opc1 s2
  have hs2 : Holds w r s2 := Holds.enterFlight hb0
  clear_value s2; revert s2; refine keep ?_; intro s2 hs2
  try clear_value seq0
  try clear_value opc1
  split
  · rename_i z3
    exact Holds.admitRead hs2
  · rename_i z4
    exact Holds.admitWrite hs2
  · rename_i z5
    exact Holds.admitWrite hs2
  · rename_i z6
    exact Holds.admitWrite hs2
  · rename_i z7
    exact Holds.admitDsm hs2
  · rename_i z8
    exact Holds.admitZoneSend hs2
  · rename_i z9
    exact Holds.modTag hs2
  · rename_i z10 z11 z12 z13 z14 z15 z16 z17
    exact Holds.admitOther hs2

theorem Holds.arrive {b0 : State} {b1 b2 : Nat} (hb0 : Holds w r b0) : Holds w r (State.arrive b0 b1 b2) := by
  unfold State.arrive
  extract_lets +onlyGivenNames r0
  refine Holds.ite hb0 ?_
  extract_lets +onlyGivenNames s1
  refine cut (P := Holds w r s1) ?_ fun hs1 => ?_
  · unfold s1
    split
    · rename_i z2 z3 z4
      exact Holds.modUnit hb0
    · rename_i z5 z6
      exact hb0
  clear_value s1; revert s1; refine keep ?_; intro s1 hs1
  exact Holds.modTag (Holds.answerReads hs1)

theorem Holds.handToWriter {b0 : State} {b1 : Nat} (hb0 : Holds w r b0) : Holds w r (State.handToWriter b0 b1) := by
  unfold State.handToWriter
  split
  · rename_i z0 z1
    exact hb0
  · rename_i z2 z3 z4
    extract_lets +onlyGivenNames g5
    exact Holds.each hb0 (fun t6 x8 h7 => Holds.modUnit h7)

theorem Holds.complete {b0 : State} {b1 : Nat} (hb0 : Holds w r b0) : Holds w r (State.complete b0 b1) := by
  unfold State.complete
  refine Holds.ite hb0 ?_
  extract_lets +onlyGivenNames r0 c1 st2
  split
  · rename_i z3 z4
    extract_lets +onlyGivenNames n5 st6 s7
    have hs7 : Holds w r s7 := Holds.ite (Holds.reply hb0) hb0
    clear_value s7; revert s7; refine keep ?_; intro s7 hs7
    exact Holds.postTag (Holds.endRead hs7)
  · rename_i z8 z9
    exact Holds.postTag hb0
  · rename_i z10 z11
    exact Holds.postTag hb0
  · rename_i z12 z13
    exact Holds.postTag hb0
  · rename_i z14 z15
    exact Holds.postTag hb0
  · rename_i z16 z17 z18 z19 z20 z21
    extract_lets +onlyGivenNames dw022
    refine Holds.ite ?_ ?_
    · extract_lets +onlyGivenNames s23
      have hs23 : Holds w r s23 := Holds.ite (Holds.modExpo (Holds.handToWriter hb0)) hb0
      clear_value s23; revert s23; refine keep ?_; intro s23 hs23
      exact Holds.sweepExpos (Holds.postTag hs23)
    extract_lets +onlyGivenNames s24
    have hs24 : Holds w r s24 := Holds.ite hb0 (Holds.removeEntries hb0)
    clear_value s24; revert s24; refine keep ?_; intro s24 hs24
    extract_lets +onlyGivenNames s25
    have hs25 : Holds w r s25 := Holds.ite (Holds.modExpo hs24) hs24
    clear_value s25; revert s25; refine keep ?_; intro s25 hs25
    exact Holds.postTag hs25

theorem HoldsOP.freshRow {b0 : State} {b1 : Nat} {b2 : Option Nat} (hb0 : Holds w r b0) :
    HoldsOP w r (State.freshRow b0 b1 b2) := by
  unfold State.freshRow
  split
  · rename_i z0 z1
    exact HoldsOP.none
  · rename_i z2 z3 z4
    extract_lets +onlyGivenNames t5
    have ht5 : Holds w r t5 := Holds.reservePool (Holds.modRow hb0)
    clear_value t5; revert t5; refine keep ?_; intro t5 ht5
    exact HoldsOP.ite (HoldsOP.some ht5) HoldsOP.none

theorem Holds.driveOpen {b0 : State} {b1 b2 : Nat} (hb0 : Holds w r b0) : Holds w r (State.driveOpen b0 b1 b2) := by
  unfold State.driveOpen
  split
  · rename_i z0 z1 z2
    exact Holds.issueRow hb0
  · rename_i z3 z4
    exact hb0

theorem Holds.placeConv {b0 : State} {b1 : Nat} (hb0 : Holds w r b0) : Holds w r (State.placeConv b0 b1) := by
  unfold State.placeConv
  split
  · rename_i z0 z1
    exact hb0
  · rename_i z2 z3 z4
    extract_lets +onlyGivenNames k5 fits6 s7
    have hs7 : Holds w r s7 := Holds.endOpen hb0
    clear_value s7; revert s7; refine keep ?_; intro s7 hs7
    extract_lets +onlyGivenNames s8
    refine cut (P := Holds w r s8) ?_ fun hs8 => ?_
    · unfold s8
      refine Holds.ite hb0 ?_
      split
      · rename_i z9 z10 z11
        refine cut (HoldsOP.of_some (w := w) (r := r) z11 (HoldsOP.freshRow hs7)) fun h12 => ?_
        exact Holds.setOpen (show HoldsP w r _ from h12)
      · rename_i z13 z14
        exact hs7
    clear_value s8; revert s8; refine keep ?_; intro s8 hs8
    split
    · rename_i z15 z16
      exact hs8
    · rename_i z17 z18 z19
      extract_lets +onlyGivenNames s20
      have hs20 : Holds w r s20 := Holds.setOpen hs8
      clear_value s20; revert s20; refine keep ?_; intro s20 hs20
      extract_lets +onlyGivenNames s21
      have hs21 : Holds w r s21 := Holds.modExpo hs20
      clear_value s21; revert s21; refine keep ?_; intro s21 hs21
      exact Holds.driveOpen hs21

theorem Holds.dataAllIn {b0 : State} {b1 : Nat} (hb0 : Holds w r b0) : Holds w r (State.dataAllIn b0 b1) := by
  unfold State.dataAllIn
  extract_lets +onlyGivenNames r0 s1
  have hs1 : Holds w r s1 := Holds.each hb0 (fun t2 x4 h3 => Holds.arrive h3)
  clear_value s1; revert s1; refine keep ?_; intro s1 hs1
  extract_lets +onlyGivenNames s5
  have hs5 : Holds w r s5 := Holds.modTag hs1
  clear_value s5; revert s5; refine keep ?_; intro s5 hs5
  extract_lets +onlyGivenNames s6
  have hs6 : Holds w r s6 := Holds.modExpo hs5
  clear_value s6; revert s6; refine keep ?_; intro s6 hs6
  extract_lets +onlyGivenNames n7
  refine Holds.ite ?_ (Holds.placeConv hs6)
  split
  · rename_i z8 z9 z10
    exact Holds.driveRow hs6
  · rename_i z11 z12
    exact hs6

theorem Holds.driveAgain {b0 : State} {b1 : RowRec → Bool} (hb0 : Holds w r b0) :
    Holds w r (State.driveAgain b0 b1) := by
  unfold State.driveAgain
  refine Holds.each hb0 (fun t0 x2 h1 => ?_)
  split
  · rename_i z3 z4 z5
    exact Holds.driveRow h1
  · rename_i z6 z7
    exact h1

theorem Holds.failTag {b0 : State} {b1 b2 : Nat} (hb0 : Holds w r b0) : Holds w r (State.failTag b0 b1 b2) := by
  unfold State.failTag
  extract_lets +onlyGivenNames r0
  refine Holds.ite hb0 ?_
  refine Holds.ite (Holds.postTag (Holds.discardDescs (Holds.failWrite hb0))) ?_
  refine Holds.ite (Holds.postTag (Holds.discardDescs (Holds.endRead hb0))) ?_
  extract_lets +onlyGivenNames a1
  have ha1 : HoldsP w r a1 := HoldsP.abortTag hb0
  clear_value a1; revert a1; refine keep ?_; intro a1 ha1
  exact Holds.ite (show HoldsP w r _ from ha1) (Holds.modTag hb0)

theorem Holds.fdpBadHandle {b0 : State} {b1 : HostCmd} (hb0 : Holds w r b0) :
    Holds w r (State.fdpBadHandle b0 b1) := by
  unfold State.fdpBadHandle
  extract_lets +onlyGivenNames d0
  exact Holds.ite (Holds.modDieSet hb0) hb0

theorem Holds.loseUnit {b0 : State} {b1 : Nat} (hb0 : Holds w r b0) : Holds w r (State.loseUnit b0 b1) := by
  unfold State.loseUnit
  split
  · rename_i z0 z1
    exact hb0
  · rename_i z2 z3 z4
    refine Holds.ite ?_ ?_
    · split
      · rename_i z5 z6 z7
        exact Holds.modTag (Holds.failWrite hb0)
      · rename_i z8 z9
        exact Holds.failWrite hb0
    extract_lets +onlyGivenNames s10
    have hs10 : Holds w r s10 := Holds.modUnit hb0
    clear_value s10; revert s10; refine keep ?_; intro s10 hs10
    extract_lets +onlyGivenNames s11
    have hs11 : Holds w r s11 := Holds.countLost hs10
    clear_value s11; revert s11; refine keep ?_; intro s11 hs11
    exact Holds.log hs11

theorem Holds.setMap {b0 : State} {b1 b2 b3 : Nat} {b4 : Blk} (hb0 : Holds w r b0) :
    Holds w r (State.setMap b0 b1 b2 b3 b4) := by
  unfold State.setMap
  extract_lets +onlyGivenNames young0
  exact Holds.ite hb0 (Holds.modBlk hb0)

theorem Holds.mapUpdate {b0 : State} {b1 : Nat} (hb0 : Holds w r b0) : Holds w r (State.mapUpdate b0 b1) := by
  unfold State.mapUpdate
  refine Holds.foldl (fun t0 x2 h1 => ?_) hb0
  refine Holds.ite ?_ ?_
  · refine Holds.ite h1 ?_
    extract_lets +onlyGivenNames s3
    have hs3 : Holds w r s3 := Holds.each h1 (fun t4 x6 h5 => Holds.setMap h5)
    clear_value s3; revert s3; refine keep ?_; intro s3 hs3
    extract_lets +onlyGivenNames s7
    have hs7 : Holds w r s7 := Holds.releaseUnits hs3
    clear_value s7; revert s7; refine keep ?_; intro s7 hs7
    extract_lets +onlyGivenNames s8 s9
    have hs9 : Holds w r s9 := Holds.inTrail hs7
    clear_value s9; revert s9; refine keep ?_; intro s9 hs9
    exact Holds.sweepExpos hs9
  extract_lets +onlyGivenNames free10 s11
  refine cut (P := Holds w r s11) ?_ fun hs11 => ?_
  · unfold s11
    refine Holds.each h1 (fun t12 x14 h13 => ?_)
    extract_lets +onlyGivenNames u15
    exact Holds.setMap h13
  clear_value s11; revert s11; refine keep ?_; intro s11 hs11
  extract_lets +onlyGivenNames s16
  have hs16 : Holds w r s16 := Holds.ite hs11 (Holds.trailRec hs11)
  clear_value s16; revert s16; refine keep ?_; intro s16 hs16
  extract_lets +onlyGivenNames s17
  have hs17 : Holds w r s17 := Holds.releaseUnits hs16
  clear_value s17; revert s17; refine keep ?_; intro s17 hs17
  exact Holds.sweepExpos (Holds.modExpo hs17)

theorem Holds.refillUnit {b0 : State} {b1 : Nat} (hb0 : Holds w r b0) : Holds w r (State.refillUnit b0 b1) := by
  unfold State.refillUnit
  split
  · rename_i z0 z1
    exact hb0
  · rename_i z2 z3 z4
    extract_lets +onlyGivenNames k5
    split
    · rename_i z6 z7 z8
      extract_lets +onlyGivenNames src9
      exact Holds.queueReads (Holds.modTag hb0)
    · rename_i z10 z11
      exact hb0

theorem Holds.resumeConv {b0 : State} (hb0 : Holds w r b0) : Holds w r (State.resumeConv b0) := by
  unfold State.resumeConv
  exact Holds.each hb0 (fun t0 x2 h1 => Holds.placeConv h1)

theorem Holds.waitAt {b0 : State} {b1 b2 : Nat} (hb0 : Holds w r b0) : Holds w r (State.waitAt b0 b1 b2) := by
  unfold State.waitAt
  extract_lets +onlyGivenNames s0 s1
  have hs1 : Holds w r s1 := Holds.ite (Holds.inPower hb0) hb0
  clear_value s1; revert s1; refine keep ?_; intro s1 hs1
  exact Holds.modTag hs1

theorem HoldsO.sieveStep {b0 : State} {b1 : Nat} (hb0 : Holds w r b0) : HoldsO w r (State.sieveStep b0 b1) := by
  unfold State.sieveStep
  extract_lets +onlyGivenNames r0 need1
  refine HoldsO.ite HoldsO.none ?_
  refine HoldsO.ite (HoldsO.some (Holds.waitAt (Holds.inSieve hb0))) ?_
  refine HoldsO.ite ?_ HoldsO.none
  extract_lets +onlyGivenNames s2
  have hs2 : Holds w r s2 := Holds.ite (Holds.bump hb0) hb0
  clear_value s2; revert s2; refine keep ?_; intro s2 hs2
  extract_lets +onlyGivenNames w3
  exact HoldsO.some (Holds.waitAt (Holds.inIntake hs2))

theorem Holds.tryAdmission {b0 : State} {b1 : Nat} {b2 : FalseHit} (hb0 : Holds w r b0) :
    Holds w r (State.tryAdmission b0 b1 b2) := by
  unfold State.tryAdmission
  extract_lets +onlyGivenNames r0 c1
  refine Holds.ite hb0 ?_
  extract_lets +onlyGivenNames s2
  have hs2 : Holds w r s2 := Holds.lookupHit hb0
  clear_value s2; revert s2; refine keep ?_; intro s2 hs2
  refine Holds.ite hs2 ?_
  split
  · rename_i z3 z4 z5
    exact Holds.postTag (Holds.fdpBadHandle hs2)
  · rename_i z6 z7
    extract_lets +onlyGivenNames s8
    have hs8 : Holds w r s8 := Holds.modTag hs2
    clear_value s8; revert s8; refine keep ?_; intro s8 hs8
    refine Holds.ite (Holds.waitAt hs8) ?_
    refine Holds.ite hs8 ?_
    split
    · rename_i z9 z10 z11
      have h12 := HoldsO.of_eq (w := w) (r := r) z11 (HoldsO.sieveStep hs8)
      exact h12
    · rename_i z13 z14
      extract_lets +onlyGivenNames h15
      refine Holds.ite (Holds.waitAt hs8) ?_
      split
      · rename_i z16 z17 z18
        exact Holds.postTag hs8
      · rename_i z19 z20
        extract_lets +onlyGivenNames hits21
        exact Holds.ite (Holds.waitAt (Holds.inIntake hs8)) (Holds.admitAt hs8)

theorem Holds.takeEntry {b0 : State} {b1 b2 b3 : Nat} {b4 : HostCmd} {b5 : Stage} (hb0 : Holds w r b0) :
    Holds w r (State.takeEntry b0 b1 b2 b3 b4 b5) := by
  unfold State.takeEntry
  extract_lets +onlyGivenNames cq0 s1
  have hs1 : Holds w r s1 := Holds.modInst hb0
  clear_value s1; revert s1; refine keep ?_; intro s1 hs1
  extract_lets +onlyGivenNames s2
  have hs2 : Holds w r s2 := Holds.modTag hs1
  clear_value s2; revert s2; refine keep ?_; intro s2 hs2
  extract_lets +onlyGivenNames s3 s4 s5
  have hs5 : Holds w r s5 := Holds.upd (x := s2) hs2 rfl rfl rfl rfl rfl rfl rfl
  clear_value s5; revert s5; refine keep ?_; intro s5 hs5
  exact Holds.ltrUpdate hs5

theorem HoldsP.stageCmd {b0 : State} {b1 b2 : Nat} {b3 : HostCmd} (hb0 : Holds w r b0) :
    HoldsP w r (State.stageCmd b0 b1 b2 b3) := by
  unfold State.stageCmd
  refine HoldsP.ite (HoldsP.mk hb0) ?_
  split
  · rename_i z0 z1
    exact HoldsP.mk hb0
  · rename_i z2 z3 z4
    exact HoldsP.mk (Holds.takeEntry hb0)

theorem Holds.runIo {b0 : State} {b1 b2 : Nat} {b3 : HostCmd} (hb0 : Holds w r b0) :
    Holds w r (State.runIo b0 b1 b2 b3) := by
  unfold State.runIo
  split
  · rename_i z0 z1 z2
    exact Holds.tryAdmission hb0
  · rename_i z3 z4
    split
    · rename_i z5 z6 z7 z8
      have h9 := HoldsP.of_eq (w := w) (r := r) z8 (HoldsP.stageCmd hb0)
      exact Holds.tryAdmission h9
    · rename_i z10 z11 z12
      have h13 := HoldsP.of_eq (w := w) (r := r) z12 (HoldsP.stageCmd hb0)
      exact hb0

theorem Holds.unitLost {b0 : State} {b1 : Nat} (hb0 : Holds w r b0) : Holds w r (State.unitLost b0 b1) := by
  unfold State.unitLost
  exact Holds.ite (Holds.loseUnit hb0) (Holds.ite (Holds.refillUnit hb0) hb0)

theorem HoldsP.fetchAdmin {b0 : State} {b1 b2 : Nat} {b3 : Opc} (hb0 : Holds w r b0) :
    HoldsP w r (State.fetchAdmin b0 b1 b2 b3) := by
  unfold State.fetchAdmin
  extract_lets +onlyGivenNames t0 s1
  have hs1 : Holds w r s1 := Holds.takeEntry hb0
  clear_value s1; revert s1; refine keep ?_; intro s1 hs1
  refine HoldsP.ite (HoldsP.mk hs1) ?_
  split
  · rename_i z2 z3 z4 z5
    have h6 := HoldsP.of_eq (w := w) (r := r) z5 (HoldsP.alloc hs1)
    exact HoldsP.mk (Holds.modTag h6)

theorem HoldsR.adminAs {b0 : State} {b1 b2 : Nat} {b3 : Opc} {b4 : State → State} (hb0 : Holds w r b0)
    (hb4 : ∀ a0, Holds w r a0 → Holds w r (b4 a0)) :
    HoldsR w r (State.adminAs b0 b1 b2 b3 b4) := by
  unfold State.adminAs
  refine HoldsR.ite (HoldsR.next hb0) ?_
  extract_lets +onlyGivenNames r0
  have hr0 : HoldsP w r r0 := HoldsP.fetchAdmin hb0
  clear_value r0; revert r0; refine keep ?_; intro r0 hr0
  exact HoldsR.next (Holds.ite (Holds.postTag (show HoldsP w r _ from hr0)) (hb4 _ (show HoldsP w r _ from hr0)))

theorem HoldsR.admin {b0 : State} {b1 b2 : Nat} {b3 : State → State} (hb0 : Holds w r b0)
    (hb3 : ∀ a0, Holds w r a0 → Holds w r (b3 a0)) :
    HoldsR w r (State.admin b0 b1 b2 b3) := by
  unfold State.admin
  exact HoldsR.adminAs hb0 (fun t0 h1 => hb3 _ h1)

theorem adminAnswer_holds {b0 b1 : Nat} {b2 : Nat × Nat × State} (hb2 : HoldsQ w r b2) : Holds w r (adminAnswer b0 b1 b2) :=
  Holds.adminCqe hb2

theorem HoldsR.adminDo {b0 : State} {b3 : State → Nat × Nat × State} (hb0 : Holds w r b0)
    (hb3 : ∀ a0, Holds w r a0 → HoldsQ w r (b3 a0)) : HoldsR w r (State.adminDo b0 b1 b2 b3) := by
  unfold State.adminDo
  exact HoldsR.admin hb0 fun t0 h1 => adminAnswer_holds (hb3 _ h1)

theorem HoldsR.adminWaiting {b0 : State} {b1 b2 : Nat} {b3 : List Nat} {b4 : State → State} (hb0 : Holds w r b0)
    (hb4 : ∀ a0, Holds w r a0 → Holds w r (b4 a0)) :
    HoldsR w r (State.adminWaiting b0 b1 b2 b3 b4) := by
  unfold State.adminWaiting
  exact HoldsR.ite (HoldsR.next (hb4 _ hb0)) (HoldsR.admin hb0 (fun t0 h1 => hb4 _ h1))

theorem Holds.keepWaiting {b0 : State} {b1 b2 : Nat} {b3 b4 : List Nat} (hb0 : Holds w r b0) :
    Holds w r (State.keepWaiting b0 b1 b2 b3 b4) := by
  unfold State.keepWaiting
  split
  · rename_i z0 z1 z2
    exact Holds.modTag hb0
  · rename_i z3 z4
    exact hb0

theorem Holds.closeFor {b0 : State} {b1 b2 : Nat} {b3 b4 : List Nat} (hb0 : Holds w r b0) :
    Holds w r (State.closeFor b0 b1 b2 b3 b4) := by
  unfold State.closeFor
  exact Holds.keepWaiting (Holds.each hb0 (fun t0 x2 h1 => Holds.modNs h1))

theorem refusedWith_holds {b0 : Nat} {b1 : State} (hb1 : Holds w r b1) : HoldsQ w r (refusedWith b0 b1) := by
  unfold refusedWith
  exact HoldsQ.mk hb1

theorem succeeded_holds {b0 : State} (hb0 : Holds w r b0) : HoldsQ w r (succeeded b0) := by
  unfold succeeded
  exact HoldsQ.mk hb0

theorem Holds.startPause {b0 : State} {b1 b2 b3 : Nat} (hb0 : Holds w r b0) :
    Holds w r (State.startPause b0 b1 b2 b3) := by
  unfold State.startPause
  exact Holds.modInst hb0

theorem Holds.beginPause {b0 : State} {b1 b2 b3 : Nat} (hb0 : Holds w r b0) :
    Holds w r (State.beginPause b0 b1 b2 b3) := by
  unfold State.beginPause
  exact Holds.ite (Holds.stall hb0) (Holds.startPause (Holds.enterTree hb0))

theorem Holds.joinStop {b0 : State} {b1 b2 : Nat} {b3 : Bool} {b4 : Option (Nat × Nat)} (hb0 : Holds w r b0) :
    Holds w r (State.joinStop b0 b1 b2 b3 b4) := by
  unfold State.joinStop
  exact Holds.modInst hb0

theorem Holds.keepWrite {b0 : State} {b1 : Nat} (hb0 : Holds w r b0) : Holds w r (State.keepWrite b0 b1) := by
  unfold State.keepWrite
  extract_lets +onlyGivenNames r0 s1
  have hs1 : Holds w r s1 := Holds.each hb0 (fun t2 x4 h3 => Holds.modEnt h3)
  clear_value s1; revert s1; refine keep ?_; intro s1 hs1
  extract_lets +onlyGivenNames s5
  have hs5 : Holds w r s5 := Holds.handToWriter hs1
  clear_value s5; revert s5; refine keep ?_; intro s5 hs5
  extract_lets +onlyGivenNames s6
  have hs6 : Holds w r s6 := Holds.each hs5 (fun t7 x9 h8 => Holds.modUnit h8)
  clear_value s6; revert s6; refine keep ?_; intro s6 hs6
  extract_lets +onlyGivenNames s10
  have hs10 : Holds w r s10 := Holds.modExpo hs6
  clear_value s10; revert s10; refine keep ?_; intro s10 hs10
  exact Holds.modTag hs10

theorem Holds.withdrawReads {b0 : State} {b1 : Nat} (hb0 : Holds w r b0) : Holds w r (State.withdrawReads b0 b1) := by
  unfold State.withdrawReads
  exact Holds.inFlash hb0

theorem Holds.quiesceTag {b0 : State} {b1 : Nat} (hb0 : Holds w r b0) : Holds w r (State.quiesceTag b0 b1) := by
  unfold State.quiesceTag
  extract_lets +onlyGivenNames r0 f1 s2
  have hs2 : Holds w r s2 := Holds.discardDescs (Holds.modTag hb0)
  clear_value s2; revert s2; refine keep ?_; intro s2 hs2
  refine Holds.ite (Holds.failWrite hs2) ?_
  refine Holds.ite (Holds.keepWrite hs2) ?_
  refine Holds.ite (Holds.each hs2 (fun t3 x5 h4 => Holds.modEnt h4)) ?_
  exact Holds.ite (Holds.withdrawReads hs2) (Holds.ite (Holds.dropWaiting hs2) hs2)

theorem HoldsP.clearMailbox {b0 : State} {b1 : Nat} (hb0 : Holds w r b0) : HoldsP w r (State.clearMailbox b0 b1) := by
  unfold State.clearMailbox
  extract_lets +onlyGivenNames x0 y1 y2 s3
  have hs3 : Holds w r s3 := Holds.modInst hb0
  clear_value s3; revert s3; refine keep ?_; intro s3 hs3
  exact HoldsP.mk hs3

theorem Holds.startStop {b0 : State} {b1 b2 : Nat} {b3 : Bool} {b4 : Option (Nat × Nat)} (hb0 : Holds w r b0) :
    Holds w r (State.startStop b0 b1 b2 b3 b4) := by
  unfold State.startStop
  extract_lets +onlyGivenNames x0 mine1 entries2 pause3 s4
  have hs4 : Holds w r s4 := Holds.modInst hb0
  clear_value s4; revert s4; refine keep ?_; intro s4 hs4
  extract_lets +onlyGivenNames s5
  have hs5 : Holds w r s5 := Holds.each hs4 (fun t6 x8 h7 => Holds.quiesceTag h7)
  clear_value s5; revert s5; refine keep ?_; intro s5 hs5
  split
  · rename_i z9 z10 z11 z12
    have h13 := HoldsP.of_eq (w := w) (r := r) z12 (HoldsP.clearMailbox hs5)
    exact Holds.modInst h13

theorem Holds.beginStop {b0 : State} {b1 b2 : Nat} {b3 : Bool} {b4 : Option (Nat × Nat)} (hb0 : Holds w r b0) :
    Holds w r (State.beginStop b0 b1 b2 b3 b4) := by
  unfold State.beginStop
  refine Holds.ite (Holds.joinStop hb0) ?_
  exact Holds.ite (Holds.startStop hb0) (Holds.ite (Holds.stall hb0) (Holds.startStop (Holds.enterTree hb0)))

theorem Holds.drainReport {b0 : State} {b1 : DrainReport} (hb0 : Holds w r b0) :
    Holds w r (State.drainReport b0 b1) := by
  unfold State.drainReport
  extract_lets +onlyGivenNames p0 s1
  have hs1 : Holds w r s1 := Holds.inTenant hb0
  clear_value s1; revert s1; refine keep ?_; intro s1 hs1
  extract_lets +onlyGivenNames r2
  refine Holds.ite hs1 ?_
  extract_lets +onlyGivenNames fit3 lost4 lost5
  have hlost5 : Holds w r lost5 := Holds.inTenant hs1
  clear_value lost5; revert lost5; refine keep ?_; intro lost5 hlost5
  refine Holds.ite hlost5 ?_
  extract_lets +onlyGivenNames n6 room7 pad8 free9
  refine Holds.ite hlost5 ?_
  extract_lets +onlyGivenNames n10 at11 len12 r13 s14
  have hs14 : Holds w r s14 := Holds.inTenant hs1
  clear_value s14; revert s14; refine keep ?_; intro s14 hs14
  extract_lets +onlyGivenNames s15
  have hs15 : Holds w r s15 := Holds.ite (Holds.emit hs14) hs14
  clear_value s15; revert s15; refine keep ?_; intro s15 hs15
  extract_lets +onlyGivenNames s16
  have hs16 : Holds w r s16 := Holds.emit hs15
  clear_value s16; revert s16; refine keep ?_; intro s16 hs16
  exact Holds.vendorEvent hs16

theorem HoldsP.endJobs {b0 : State} {b1 : Nat} (hb0 : Holds w r b0) : HoldsP w r (State.endJobs b0 b1) := by
  unfold State.endJobs
  extract_lets +onlyGivenNames mine0 n1
  exact HoldsP.mk (Holds.each hb0 (fun t2 x4 h3 => Holds.inFixity h3))

theorem HoldsP.zeroizeInjected {b0 : State} {b1 : Nat} (hb0 : Holds w r b0) :
    HoldsP w r (State.zeroizeInjected b0 b1) := by
  unfold State.zeroizeInjected
  extract_lets +onlyGivenNames mine0
  exact HoldsP.mk (Holds.each hb0 (fun t1 x3 h2 => Holds.modSlot h2))

theorem Holds.releaseStopped {b0 : State} {b1 : Nat} (hb0 : Holds w r b0) :
    Holds w r (State.releaseStopped b0 b1) := by
  unfold State.releaseStopped
  extract_lets +onlyGivenNames r0 s1
  have hs1 : Holds w r s1 := Holds.ite (Holds.endRead hb0) (Holds.removeEntries hb0)
  clear_value s1; revert s1; refine keep ?_; intro s1 hs1
  exact Holds.freeTagOf hs1

theorem Holds.resetCaptures {b0 : State} (hb0 : Holds w r b0) : Holds w r (State.resetCaptures b0) := by
  unfold State.resetCaptures
  exact Holds.upd (x := b0) hb0 rfl rfl rfl rfl rfl rfl rfl

theorem Holds.resetManagerMailboxes {b0 : State} (hb0 : Holds w r b0) :
    Holds w r (State.resetManagerMailboxes b0) := by
  unfold State.resetManagerMailboxes
  extract_lets +onlyGivenNames insts0
  exact Holds.inTenant hb0

theorem Holds.functionRegs {b0 : State} (hb0 : Holds w r b0) : Holds w r b0.functionRegs := by
  unfold State.functionRegs
  extract_lets t
  have h : Holds w r t := Holds.modFport hb0
  exact h.trans ⟨rfl, Nat.le_refl _, List.suffix_refl _, fun _ _ h => h, fun x => by simp only; exact Tab.wf_keep x,
    fun h => h, fun _ h => h⟩

theorem Holds.resetConfigSpace {b0 : State} {b1 : Nat} (hb0 : Holds w r b0) :
    Holds w r (State.resetConfigSpace b0 b1) := by
  unfold State.resetConfigSpace
  extract_lets +onlyGivenNames funcs0 s1 s2
  have hs2 : Holds w r s2 := Holds.inPcie hb0
  clear_value s2; revert s2; refine keep ?_; intro s2 hs2
  exact Holds.modInst hs2

theorem Holds.endStop {b0 : State} {b1 : Nat} (hb0 : Holds w r b0) : Holds w r (State.endStop b0 b1) := by
  unfold State.endStop
  split
  · rename_i z0 z1 z2 z3
    have h4 := HoldsP.of_eq (w := w) (r := r) z3 (HoldsP.zeroizeInjected hb0)
    extract_lets +onlyGivenNames mine5 s6
    have hs6 : Holds w r s6 := Holds.each h4 (fun t7 x9 h8 => Holds.releaseStopped h8)
    clear_value s6; revert s6; refine keep ?_; intro s6 hs6
    split
    · rename_i z10 z11 z12 z13
      have h14 := HoldsP.of_eq (w := w) (r := r) z13 (HoldsP.endJobs hs6)
      extract_lets +onlyGivenNames q15 s16
      have hs16 : Holds w r s16 := Holds.leaveTree h14
      clear_value s16; revert s16; refine keep ?_; intro s16 hs16
      extract_lets +onlyGivenNames s17
      have hs17 : Holds w r s17 := Holds.modInst hs16
      clear_value s17; revert s17; refine keep ?_; intro s17 hs17
      extract_lets +onlyGivenNames s18
      have hs18 : Holds w r s18 := Holds.ite (Holds.functionRegs hs17) hs17
      clear_value s18; revert s18; refine keep ?_; intro s18 hs18
      extract_lets +onlyGivenNames s19
      have hs19 : Holds w r s19 := Holds.ite (Holds.resetConfigSpace hs18) hs18
      clear_value s19; revert s19; refine keep ?_; intro s19 hs19
      extract_lets +onlyGivenNames s20 s21 s22 s23 s24
      have hs24 : Holds w r s24 := Holds.ite hs19 (Holds.upd (x := s19) hs19 rfl rfl rfl rfl rfl rfl rfl)
      clear_value s24; revert s24; refine keep ?_; intro s24 hs24
      extract_lets +onlyGivenNames seq25 s26
      have hs26 : Holds w r s26 := Holds.drainReport hs24
      clear_value s26; revert s26; refine keep ?_; intro s26 hs26
      exact Holds.each hs26 (fun t27 x29 h28 => Holds.adminCqe h28)

theorem Holds.flr {b0 : State} {b1 b2 : Nat} (hb0 : Holds w r b0) : Holds w r (State.flr b0 b1 b2) := by
  unfold State.flr
  split
  · rename_i z0 z1
    exact hb0
  · rename_i z2 z3
    exact Holds.resetConfigSpace (Holds.modInst hb0)
  · rename_i z4 z5 z6
    exact Holds.beginStop hb0

theorem Holds.resetPort {b0 : State} {b1 b2 : Nat} (hb0 : Holds w r b0) : Holds w r (State.resetPort b0 b1 b2) := by
  unfold State.resetPort
  exact Holds.each hb0 (fun t0 x2 h1 => Holds.flr h1)

theorem Holds.functionReset {b0 : State} {b1 : Nat} (hb0 : Holds w r b0) : Holds w r (State.functionReset b0 b1) := by
  unfold State.functionReset
  exact Holds.ite (Holds.resetPort hb0) (Holds.flr hb0)

theorem HoldsR.managerDo {b0 : State} {b1 b2 : Nat} {b3 : State → Nat × Nat × State} (hb0 : Holds w r b0)
    (hb3 : ∀ a0, Holds w r a0 → HoldsQ w r (b3 a0)) :
    HoldsR w r (State.managerDo b0 b1 b2 b3) := by
  unfold State.managerDo
  exact HoldsR.adminDo hb0 (fun t0 h1 => HoldsQ.ite (refusedWith_holds h1) (hb3 _ h1))

theorem HoldsP.removeInstance {b0 : State} {b1 : Nat} (hb0 : Holds w r b0) :
    HoldsP w r (State.removeInstance b0 b1) := by
  unfold State.removeInstance
  split
  · rename_i z0 z1 z2 z3
    have h4 := HoldsP.of_eq (w := w) (r := r) z3 (HoldsP.dropRules hb0)
    extract_lets +onlyGivenNames s5 s6
    have hs6 : Holds w r s6 := Holds.inGlaze h4
    clear_value s6; revert s6; refine keep ?_; intro s6 hs6
    split
    · rename_i z7 z8 z9 z10
      have h11 := HoldsP.of_eq (w := w) (r := r) z10 (HoldsP.clearMailbox hs6)
      extract_lets +onlyGivenNames d12 s13
      have hs13 : Holds w r s13 := Holds.modInst (Holds.dirtyOff h11)
      clear_value s13; revert s13; refine keep ?_; intro s13 hs13
      extract_lets +onlyGivenNames s14
      have hs14 : Holds w r s14 := Holds.setCfg hs13
      clear_value s14; revert s14; refine keep ?_; intro s14 hs14
      exact HoldsP.mk (Holds.inTenant hs14)

theorem Holds.saveInst {b0 : State} {b1 : Nat} (hb0 : Holds w r b0) : Holds w r (State.saveInst b0 b1) := by
  unfold State.saveInst
  extract_lets +onlyGivenNames x0 s1 s2
  have hs2 : Holds w r s2 := Holds.inTenant hb0
  clear_value s2; revert s2; refine keep ?_; intro s2 hs2
  exact Holds.trailRec hs2

theorem Holds.signalManager {b0 : State} (hb0 : Holds w r b0) : Holds w r (State.signalManager b0) := by
  unfold State.signalManager
  exact Holds.ite (Holds.interrupt hb0) hb0

theorem Holds.signalTenant {b0 : State} {b1 : Nat} (hb0 : Holds w r b0) : Holds w r (State.signalTenant b0 b1) := by
  unfold State.signalTenant
  exact Holds.ite (Holds.interrupt hb0) hb0

/-- OTP bits only gain (R506). -/
theorem Holds.programOtp {b0 : State} {b1 b2 : Nat} (hb0 : Holds w r b0) : Holds w r (b0.programOtp b1 b2) := by
  refine hb0.trans ⟨rfl, Nat.le_refl _, List.suffix_refl _, fun x i h => ?_, fun h => h, fun h => h, fun _ h => h⟩
  show ((b0.boot.otp.upd 0 b1 fun v => v ||| (b2 % 2 ^ 512)).get 0 x).testBit i = true
  change (b0.boot.otp.get 0 x).testBit i = true at h
  by_cases e : x = b1
  · subst e
    have hb : ((b0.boot.otp.get 0 x) ||| (b2 % 2 ^ 512)).testBit i = true := by simp [Nat.testBit_or, h]
    have hne : (b0.boot.otp.get 0 x) ||| (b2 % 2 ^ 512) ≠ 0 := fun z => by rw [z] at hb; simp at hb
    unfold Tab.upd
    rw [Tab.get_set_self_of_ne hne]
    exact hb
  · rw [Tab.get_upd_ne e]
    exact h

theorem Holds.advanceCounter {b0 : State} {b1 b2 : Nat} (hb0 : Holds w r b0) :
    Holds w r (State.advanceCounter b0 b1 b2) := by
  unfold State.advanceCounter
  exact Holds.ite hb0 (Holds.programOtp (Holds.programOtp hb0))

theorem Holds.otpOneBad {b0 : State} (hb0 : Holds w r b0) : Holds w r (State.otpOneBad b0) := by
  unfold State.otpOneBad
  extract_lets +onlyGivenNames one0
  exact Holds.ite hb0 (Holds.report (Holds.upd (x := b0) hb0 rfl rfl rfl rfl rfl rfl rfl))

theorem Holds.modRange {b0 : State} {b1 b2 : Nat} {b3 : LockRange → LockRange} (hb0 : Holds w r b0) :
    Holds w r (State.modRange b0 b1 b2 b3) := by
  unfold State.modRange
  exact Holds.inGlaze hb0

theorem HoldsP.newKey {b0 : State} (hb0 : Holds w r b0) : HoldsP w r (State.newKey b0) := by
  unfold State.newKey
  extract_lets +onlyGivenNames g0 again1 seeds2 calls3
  exact HoldsP.mk (Holds.inGlaze hb0)

theorem Holds.loadSlot {b0 : State} {b1 b2 : Nat} {b3 : Bool} (hb0 : Holds w r b0) :
    Holds w r (State.loadSlot b0 b1 b2 b3) := by
  unfold State.loadSlot
  exact Holds.modSlot hb0

theorem Holds.storeKeys {b0 : State} (hb0 : Holds w r b0) : Holds w r (State.storeKeys b0) := by
  unfold State.storeKeys
  exact Holds.inGlaze hb0

theorem Holds.genMek {b0 : State} {b1 b2 : Nat} (hb0 : Holds w r b0) : Holds w r (State.genMek b0 b1 b2) := by
  unfold State.genMek
  split
  · rename_i z0 z1 z2 z3
    have h4 := HoldsP.of_eq (w := w) (r := r) z3 (HoldsP.newKey hb0)
    extract_lets +onlyGivenNames s5
    have hs5 : Holds w r s5 := Holds.modRange h4
    clear_value s5; revert s5; refine keep ?_; intro s5 hs5
    exact Holds.loadSlot (Holds.storeKeys hs5)

theorem Holds.createRange {b0 : State} {b1 b2 b3 b4 : Nat} {b5 : LockRange} (hb0 : Holds w r b0) :
    Holds w r (State.createRange b0 b1 b2 b3 b4 b5) := by
  unfold State.createRange
  extract_lets +onlyGivenNames s0
  have hs0 : Holds w r s0 := Holds.modSlot hb0
  clear_value s0; revert s0; refine keep ?_; intro s0 hs0
  extract_lets +onlyGivenNames s1
  have hs1 : Holds w r s1 := Holds.modRange hs0
  clear_value s1; revert s1; refine keep ?_; intro s1 hs1
  exact Holds.genMek hs1

theorem Holds.eraseBlocks {b0 : State} {b1 b2 : Nat} (hb0 : Holds w r b0) :
    Holds w r (State.eraseBlocks b0 b1 b2) := by
  unfold State.eraseBlocks
  extract_lets +onlyGivenNames n0
  refine Holds.each hb0 (fun t1 x3 h2 => ?_)
  split
  · rename_i z4 z5 z6
    refine Holds.ite (Holds.modBlk h2) ?_
    split
    · rename_i z7 z8 z9 z10
      have h11 := HoldsP.of_eq (w := w) (r := r) z10 (HoldsP.free h2)
      exact Holds.modBlk h11
  · rename_i z12 z13
    exact h2

theorem Holds.cryptoErase {b0 : State} {b1 b2 : Nat} (hb0 : Holds w r b0) :
    Holds w r (State.cryptoErase b0 b1 b2) := by
  unfold State.cryptoErase
  exact Holds.eraseBlocks (Holds.genMek hb0)

theorem Holds.deriveKeys {b0 : State} (hb0 : Holds w r b0) : Holds w r (State.deriveKeys b0) := by
  unfold State.deriveKeys
  exact Holds.ite hb0 (Holds.loadSlot (Holds.inGlaze hb0))

theorem Holds.drainSlot {b0 : State} {b1 : Nat} {b2 : Option Nat} (hb0 : Holds w r b0) :
    Holds w r (State.drainSlot b0 b1 b2) := by
  unfold State.drainSlot
  exact Holds.ite hb0 (Holds.modSlot hb0)

theorem Holds.emptySlot {b0 : State} {b1 : Nat} (hb0 : Holds w r b0) : Holds w r (State.emptySlot b0 b1) := by
  unfold State.emptySlot
  exact Holds.modSlot hb0

theorem Holds.dropKeys {b0 : State} {b1 : Nat} (hb0 : Holds w r b0) : Holds w r (State.dropKeys b0 b1) := by
  unfold State.dropKeys
  extract_lets +onlyGivenNames slots0 s1
  have hs1 : Holds w r s1 := Holds.each hb0 (fun t2 x4 h3 => Holds.emptySlot h3)
  clear_value s1; revert s1; refine keep ?_; intro s1 hs1
  exact Holds.storeKeys (Holds.inGlaze hs1)

theorem Holds.loadRange {b0 : State} {b1 b2 : Nat} (hb0 : Holds w r b0) : Holds w r (State.loadRange b0 b1 b2) := by
  unfold State.loadRange
  extract_lets +onlyGivenNames x0
  refine Holds.ite hb0 ?_
  split
  · rename_i z1 z2 z3
    exact Holds.loadSlot hb0
  · rename_i z4 z5
    exact hb0

theorem Holds.loadUnguarded {b0 : State} (hb0 : Holds w r b0) : Holds w r (State.loadUnguarded b0) := by
  unfold State.loadUnguarded
  exact Holds.each hb0 (fun t0 x2 h1 => Holds.loadRange h1)

theorem Holds.zeroize {b0 : State} {b1 : Nat} (hb0 : Holds w r b0) : Holds w r (State.zeroize b0 b1) := by
  unfold State.zeroize
  extract_lets +onlyGivenNames descs0 s1 s2 s3
  have hs3 : Holds w r s3 := Holds.upd (x := b0) hb0 rfl rfl rfl rfl rfl rfl rfl
  clear_value s3; revert s3; refine keep ?_; intro s3 hs3
  extract_lets +onlyGivenNames s4 s5
  have hs5 : Holds w r s5 := Holds.inGlaze hs3
  clear_value s5; revert s5; refine keep ?_; intro s5 hs5
  extract_lets +onlyGivenNames s6
  have hs6 : Holds w r s6 := Holds.bump hs5
  clear_value s6; revert s6; refine keep ?_; intro s6 hs6
  extract_lets +onlyGivenNames ide7 ide8 does9 s10 s11
  have hs11 : Holds w r s11 := Holds.inPcie hs6
  clear_value s11; revert s11; refine keep ?_; intro s11 hs11
  refine Holds.each hs11 (fun t12 x14 h13 => ?_)
  extract_lets +onlyGivenNames s15
  have hs15 : Holds w r s15 := Holds.gdResult h13
  clear_value s15; revert s15; refine keep ?_; intro s15 hs15
  exact Holds.ite hs15 (Holds.ite (Holds.failTag hs15) hs15)

theorem Holds.raiseAlarm {b0 : State} {b1 : Nat} (hb0 : Holds w r b0) : Holds w r (State.raiseAlarm b0 b1) := by
  unfold State.raiseAlarm
  exact Holds.zeroize (Holds.ite (Holds.report hb0) (Holds.report hb0))

theorem Holds.readKeyStore {b0 : State} {b1 b2 : List Nat} (hb0 : Holds w r b0) :
    Holds w r (State.readKeyStore b0 b1 b2) := by
  unfold State.readKeyStore
  extract_lets +onlyGivenNames lost0 s1 s2
  have hs2 : Holds w r s2 := Holds.inGlaze hb0
  clear_value s2; revert s2; refine keep ?_; intro s2 hs2
  refine Holds.ite hs2 ?_
  extract_lets +onlyGivenNames ranges3 keks4
  exact Holds.inGlaze hs2

theorem Holds.resumeRows {b0 : State} (hb0 : Holds w r b0) : Holds w r (State.resumeRows b0) := by
  unfold State.resumeRows
  exact Holds.driveAgain hb0

theorem Holds.rewrap {b0 : State} {b1 b2 : Nat} {b3 : LockRange → LockRange} (hb0 : Holds w r b0) :
    Holds w r (State.rewrap b0 b1 b2 b3) := by
  unfold State.rewrap
  extract_lets +onlyGivenNames x0
  exact Holds.modRange hb0

theorem Holds.slotDrained {b0 : State} {b1 : Nat} (hb0 : Holds w r b0) : Holds w r (State.slotDrained b0 b1) := by
  unfold State.slotDrained
  extract_lets +onlyGivenNames x0
  refine Holds.ite hb0 ?_
  split
  · rename_i z1 z2 z3
    exact Holds.modSlot hb0
  · rename_i z4 z5
    exact Holds.modSlot hb0

theorem Holds.closeHalf {b0 : State} {b1 : Nat} (hb0 : Holds w r b0) : Holds w r (State.closeHalf b0 b1) := by
  unfold State.closeHalf
  extract_lets +onlyGivenNames t0 done1
  exact Holds.inTrail hb0

theorem Holds.refreshSpares {b0 : State} {b1 : Nat} (hb0 : Holds w r b0) : Holds w r (State.refreshSpares b0 b1) := by
  unfold State.refreshSpares
  extract_lets +onlyGivenNames x0 left1 m2 s3
  have hs3 : Holds w r s3 := Holds.modGroup hb0
  clear_value s3; revert s3; refine keep ?_; intro s3 hs3
  split
  · rename_i z4 z5 z6
    exact Holds.ladder hs3
  · rename_i z7 z8
    exact hs3

theorem Holds.coverShortfall {b0 : State} {b1 b2 : Nat} (hb0 : Holds w r b0) :
    Holds w r (State.coverShortfall b0 b1 b2) := by
  induction b2 generalizing b0 b1
  · unfold State.coverShortfall
    exact hb0
  · rename_i nn ih
    unfold State.coverShortfall
    refine Holds.ite hb0 ?_
    split
    · rename_i z0 z1
      exact hb0
    · rename_i z2 z3 z4
      extract_lets +onlyGivenNames s5
      have hs5 : Holds w r s5 := Holds.modGroup hb0
      clear_value s5; revert s5; refine keep ?_; intro s5 hs5
      apply ih
      exact Holds.refreshSpares hs5

/-- The place found for a segment. -/
theorem State.trailPlace_holds {b0 t : State} {b1 b2 d : Nat} {x : List Nat × Nat} (e : b0.trailPlace b1 b2 = some (d, x, t))
    (hb0 : Holds w r b0) : Holds w r t := by
  unfold State.trailPlace at e
  obtain ⟨g, -, e⟩ := List.exists_of_findSome?_eq_some e
  obtain ⟨k, -, e⟩ := List.exists_of_findSome?_eq_some e
  obtain ⟨y, hy, e⟩ := Option.map_eq_some_iff.1 e
  simp only [Prod.mk.injEq] at e
  obtain ⟨-, -, rfl⟩ := e
  exact HoldsOP.of_some hy (HoldsOP.regionNext hb0)

theorem Holds.programFlush {b0 : State} {b1 b2 : Nat} (hb0 : Holds w r b0) : Holds w r (b0.programFlush b1 b2) := by
  induction b2 generalizing b0 with
  | zero => exact hb0
  | succ n ih =>
    unfold State.programFlush
    split
    · exact hb0
    · rename_i e
      exact ih (Holds.inTrail (Holds.enqueue (State.trailPlace_holds e hb0)))

theorem Holds.programFlushes {b0 : State} (hb0 : Holds w r b0) : Holds w r (State.programFlushes b0) := by
  unfold State.programFlushes
  exact Holds.each hb0 (fun t0 x2 h1 => Holds.programFlush h1)

theorem HoldsP.takeSeq {b0 : State} {b1 : Nat} (hb0 : Holds w r b0) : HoldsP w r (State.takeSeq b0 b1) := by
  unfold State.takeSeq
  extract_lets +onlyGivenNames w0 s1 s2
  have hs2 : Holds w r s2 := Holds.inTrail hb0
  clear_value s2; revert s2; refine keep ?_; intro s2 hs2
  extract_lets +onlyGivenNames due3
  exact HoldsP.mk (Holds.ite (Holds.trailRec hs2) hs2)

theorem Holds.cutFlush {b0 : State} (hb0 : Holds w r b0) : Holds w r (State.cutFlush b0) := by
  unfold State.cutFlush
  refine Holds.ite hb0 ?_
  extract_lets +onlyGivenNames n0 s1
  have hs1 : Holds w r s1 := Holds.closeHalf hb0
  clear_value s1; revert s1; refine keep ?_; intro s1 hs1
  exact Holds.programFlushes (show HoldsP w r _ from HoldsP.takeSeq hs1)

theorem Holds.driveTarget {b0 : State} {b1 : RowRef} (hb0 : Holds w r b0) : Holds w r (State.driveTarget b0 b1) := by
  unfold State.driveTarget
  extract_lets +onlyGivenNames x0 g1 all2
  split
  · rename_i z3 z4
    exact hb0
  · rename_i z5 z6 z7 z8
    extract_lets +onlyGivenNames ready9
    exact Holds.issueTo hb0
  · rename_i z10 z11
    exact Holds.ite (Holds.issueTo hb0) hb0

theorem Holds.findPlace {b0 : State} {b1 : RowRef} {b2 : Nat} (hb0 : Holds w r b0) :
    Holds w r (State.findPlace b0 b1 b2) := by
  unfold State.findPlace
  extract_lets +onlyGivenNames others0
  split
  · rename_i z1 z2
    exact hb0
  · rename_i z3 z4 z5
    split
    · rename_i z6 z7
      exact hb0
    · rename_i z8 z9 z10
      refine cut (HoldsOP.of_some (w := w) (r := r) z10 (HoldsOP.takeBlocks hb0)) fun h11 => ?_
      extract_lets +onlyGivenNames s12
      have hs12 : Holds w r s12 := Holds.modRow (show HoldsP w r _ from h11)
      clear_value s12; revert s12; refine keep ?_; intro s12 hs12
      exact Holds.each hs12 (fun t13 x15 h14 => Holds.parityCheck h14)

theorem Holds.repool {b0 : State} {b1 : RowRef} (hb0 : Holds w r b0) : Holds w r (State.repool b0 b1) := by
  unfold State.repool
  exact Holds.each hb0 (fun t0 x2 h1 => Holds.findPlace h1)

theorem Holds.driveWaiting {b0 : State} (hb0 : Holds w r b0) : Holds w r (State.driveWaiting b0) := by
  unfold State.driveWaiting
  extract_lets +onlyGivenNames s0
  have hs0 : Holds w r s0 := Holds.resumeConv (Holds.driveAgain hb0)
  clear_value s0; revert s0; refine keep ?_; intro s0 hs0
  extract_lets +onlyGivenNames s1
  have hs1 : Holds w r s1 := Holds.each hs0 (fun t2 x4 h3 => Holds.repool h3)
  clear_value s1; revert s1; refine keep ?_; intro s1 hs1
  exact Holds.each hs1 (fun t5 x7 h6 => Holds.driveTarget h6)

theorem Holds.flushNow {b0 : State} (hb0 : Holds w r b0) : Holds w r (State.flushNow b0) := by
  unfold State.flushNow
  exact Holds.ite hb0 (Holds.cutFlush (Holds.takeCfg hb0))

theorem Holds.giveKept {b0 : State} {b1 : Nat} {b2 : KeptRow} {b3 : RowRef} (hb0 : Holds w r b0) :
    Holds w r (State.giveKept b0 b1 b2 b3) := by
  unfold State.giveKept
  extract_lets +onlyGivenNames p0 s1
  have hs1 : Holds w r s1 := Holds.modDieSet hb0
  clear_value s1; revert s1; refine keep ?_; intro s1 hs1
  extract_lets +onlyGivenNames s2
  have hs2 : Holds w r s2 := Holds.ite (Holds.modRow hs1) hs1
  clear_value s2; revert s2; refine keep ?_; intro s2 hs2
  exact Holds.each hs2 (fun t3 x5 h4 => Holds.queueUnit h4)

theorem Holds.startKeep {b0 : State} {b1 : Nat} {b2 : RowRef} (hb0 : Holds w r b0) :
    Holds w r (State.startKeep b0 b1 b2) := by
  unfold State.startKeep
  extract_lets +onlyGivenNames x0 fits1
  refine Holds.ite hb0 ?_
  split
  · rename_i z2 z3 z4
    exact Holds.giveKept hb0
  · rename_i z5 z6
    split
    · rename_i z7 z8
      exact hb0
    · rename_i z9 z10 z11
      extract_lets +onlyGivenNames k12 s13
      have hs13 : Holds w r s13 := Holds.modRow (Holds.modGroup hb0)
      clear_value s13; revert s13; refine keep ?_; intro s13 hs13
      exact Holds.giveKept (Holds.modDieSet hs13)

theorem Holds.queueRefire {b0 : State} {b1 b2 : Nat} {b3 : Reason} (hb0 : Holds w r b0) :
    Holds w r (State.queueRefire b0 b1 b2 b3) := by
  unfold State.queueRefire
  extract_lets +onlyGivenNames d0 x1 mine2
  refine Holds.ite hb0 ?_
  split
  · rename_i z3 z4 z5
    exact Holds.ite hb0 (Holds.modDieSet hb0)
  · rename_i z6 z7
    exact Holds.modDieSet hb0

theorem Holds.queueReloc {b0 : State} {b1 : Nat} {b2 : RowRef} {b3 : Reason} (hb0 : Holds w r b0) :
    Holds w r (State.queueReloc b0 b1 b2 b3) := by
  unfold State.queueReloc
  extract_lets +onlyGivenNames d0
  exact Holds.ite hb0 (Holds.modDieSet hb0)

theorem Holds.queueRow {b0 : State} {b1 : RowRef} {b2 : Reason} (hb0 : Holds w r b0) :
    Holds w r (State.queueRow b0 b1 b2) := by
  unfold State.queueRow
  extract_lets +onlyGivenNames x0
  split
  · rename_i z1 z2 z3
    exact Holds.queueRefire hb0
  · rename_i z4 z5
    exact Holds.ite (Holds.queueRefire hb0) (Holds.ite hb0 (Holds.queueReloc hb0))

theorem Holds.keptLost {b0 : State} {b1 : KeptRow} {b2 : KeptSlot} {b3 : Bool} {b4 : Reason} (hb0 : Holds w r b0) :
    Holds w r (State.keptLost b0 b1 b2 b3 b4) := by
  unfold State.keptLost
  extract_lets +onlyGivenNames d0 s1
  have hs1 : Holds w r s1 := Holds.modRow (Holds.dropKept hb0)
  clear_value s1; revert s1; refine keep ?_; intro s1 hs1
  extract_lets +onlyGivenNames s2
  have hs2 : Holds w r s2 := Holds.ite (Holds.startKeep hs1) hs1
  clear_value s2; revert s2; refine keep ?_; intro s2 hs2
  exact Holds.ite (Holds.queueRow hs2) hs2

theorem Holds.keptPassed {b0 : State} {b1 : KeptRow} {b2 : KeptSlot} (hb0 : Holds w r b0) :
    Holds w r (State.keptPassed b0 b1 b2) := by
  unfold State.keptPassed
  extract_lets +onlyGivenNames s0
  have hs0 : Holds w r s0 := Holds.modDieSet hb0
  clear_value s0; revert s0; refine keep ?_; intro s0 hs0
  exact Holds.driveWaiting (Holds.modRow (Holds.releasePool hs0))

theorem Holds.losePlace {b0 : State} {b1 : RowRef} {b2 : Nat} (hb0 : Holds w r b0) :
    Holds w r (State.losePlace b0 b1 b2) := by
  unfold State.losePlace
  extract_lets +onlyGivenNames g0 out1
  exact Holds.modRow hb0

theorem Holds.loseUnits {b0 : State} {b1 : RowRef} {b2 : List Nat} (hb0 : Holds w r b0) :
    Holds w r (State.loseUnits b0 b1 b2) := by
  unfold State.loseUnits
  extract_lets +onlyGivenNames x0 g1 rebuilt2 gone3
  refine Holds.ite hb0 ?_
  extract_lets +onlyGivenNames s4
  have hs4 : Holds w r s4 := Holds.each hb0 (fun t5 x7 h6 => Holds.modBlk h6)
  clear_value s4; revert s4; refine keep ?_; intro s4 hs4
  extract_lets +onlyGivenNames s8
  have hs8 : Holds w r s8 := Holds.countLost hs4
  clear_value s8; revert s8; refine keep ?_; intro s8 hs8
  exact Holds.log hs8

theorem Holds.markRetired {b0 : State} {b1 b2 b3 : Nat} (hb0 : Holds w r b0) :
    Holds w r (State.markRetired b0 b1 b2 b3) := by
  unfold State.markRetired
  extract_lets +onlyGivenNames s0
  have hs0 : Holds w r s0 := Holds.bump (Holds.setBlock hb0)
  clear_value s0; revert s0; refine keep ?_; intro s0 hs0
  exact Holds.log (Holds.trailRec hs0)

theorem Holds.mendParity {b0 : State} {b1 : Nat} {b2 : RowRef} {b3 : FlashOp} (hb0 : Holds w r b0) :
    Holds w r (State.mendParity b0 b1 b2 b3) := by
  unfold State.mendParity
  extract_lets +onlyGivenNames q0
  split
  · rename_i z1 z2
    exact Holds.findPlace (Holds.losePlace hb0)
  · rename_i z3 z4 z5
    refine cut (HoldsOP.of_some (w := w) (r := r) z5 (HoldsOP.takeBlocks hb0)) fun h6 => ?_
    extract_lets +onlyGivenNames s7
    have hs7 : Holds w r s7 := Holds.setBlocks (show HoldsP w r _ from h6)
    clear_value s7; revert s7; refine keep ?_; intro s7 hs7
    exact Holds.releaseBlocks (Holds.modRow hs7)

theorem HoldsP.takeSpare {b0 : State} {b1 b2 : Nat} (hb0 : Holds w r b0) : HoldsP w r (State.takeSpare b0 b1 b2) := by
  unfold State.takeSpare
  split
  · rename_i z0 z1 z2
    exact HoldsP.mk hb0
  · rename_i z3 z4
    extract_lets +onlyGivenNames n5
    exact HoldsP.mk (Holds.inFlash hb0)

theorem Holds.substitute {b0 : State} {b1 b2 : Nat} {b3 : RowRef} {b4 : Nat} (hb0 : Holds w r b0) :
    Holds w r (State.substitute b0 b1 b2 b3 b4) := by
  unfold State.substitute
  extract_lets +onlyGivenNames t0
  have ht0 : HoldsP w r t0 := HoldsP.takeSpare hb0
  clear_value t0; revert t0; refine keep ?_; intro t0 ht0
  extract_lets +onlyGivenNames s1
  have hs1 : Holds w r s1 := show HoldsP w r _ from ht0
  clear_value s1; revert s1; refine keep ?_; intro s1 hs1
  extract_lets +onlyGivenNames s2 s3
  have hs3 : Holds w r s3 := Holds.inFlash hs1
  clear_value s3; revert s3; refine keep ?_; intro s3 hs3
  extract_lets +onlyGivenNames s4
  have hs4 : Holds w r s4 := Holds.setBlock hs3
  clear_value s4; revert s4; refine keep ?_; intro s4 hs4
  exact Holds.refreshSpares (Holds.trailRec hs4)

theorem Holds.mendUnit {b0 : State} {b1 : Nat} {b2 : RowRef} {b3 : Nat} (hb0 : Holds w r b0) :
    Holds w r (State.mendUnit b0 b1 b2 b3) := by
  unfold State.mendUnit
  extract_lets +onlyGivenNames old0
  refine Holds.ite hb0 ?_
  extract_lets +onlyGivenNames s1
  have hs1 : Holds w r s1 := Holds.setBlocks hb0
  clear_value s1; revert s1; refine keep ?_; intro s1 hs1
  extract_lets +onlyGivenNames s2
  have hs2 : Holds w r s2 := Holds.each hs1 (fun t3 x5 h4 => Holds.substitute h4)
  clear_value s2; revert s2; refine keep ?_; intro s2 hs2
  exact Holds.trailRec hs2

theorem Holds.mendTorn {b0 : State} (hb0 : Holds w r b0) : Holds w r (State.mendTorn b0) := by
  unfold State.mendTorn
  extract_lets +onlyGivenNames torn0 s1 s2
  have hs2 : Holds w r s2 := Holds.inFlash hb0
  clear_value s2; revert s2; refine keep ?_; intro s2 hs2
  refine Holds.each hs2 (fun t3 x5 h4 => ?_)
  split
  · rename_i z6 z7 z8 z9
    exact Holds.ite h4 (Holds.ite (Holds.mendUnit h4) (Holds.mendParity h4))
  · rename_i z10 z11
    exact h4

theorem Holds.rowOut {b0 : State} {b1 : RowRef} (hb0 : Holds w r b0) : Holds w r (State.rowOut b0 b1) := by
  unfold State.rowOut
  extract_lets +onlyGivenNames s0
  have hs0 : Holds w r s0 := Holds.modGroup hb0
  clear_value s0; revert s0; refine keep ?_; intro s0 hs0
  split
  · rename_i z1 z2 z3
    exact Holds.ladder (Holds.coverShortfall hs0)
  · rename_i z4 z5
    exact hs0

theorem Holds.retireBlock {b0 : State} {b1 b2 : Nat} {b3 : RowRef} {b4 : Bool} (hb0 : Holds w r b0) :
    Holds w r (State.retireBlock b0 b1 b2 b3 b4) := by
  unfold State.retireBlock
  extract_lets +onlyGivenNames b0 old1 s2
  have hs2 : Holds w r s2 := Holds.markRetired hb0
  clear_value s2; revert s2; refine keep ?_; intro s2 hs2
  refine Holds.ite (Holds.rowOut (Holds.refreshSpares hs2)) ?_
  extract_lets +onlyGivenNames copy3
  exact Holds.substitute hs2

theorem Holds.retireRowDie {b0 : State} {b1 : Nat} {b2 : RowRef} {b3 : Bool} (hb0 : Holds w r b0) :
    Holds w r (State.retireRowDie b0 b1 b2 b3) := by
  unfold State.retireRowDie
  extract_lets +onlyGivenNames s0
  have hs0 : Holds w r s0 := Holds.each hb0 (fun t1 x3 h2 => Holds.retireBlock h2)
  clear_value s0; revert s0; refine keep ?_; intro s0 hs0
  exact Holds.ite hs0 (Holds.enqueue hs0)

theorem Holds.recycleRow {b0 : State} {b1 : RowRef} {b2 b3 : Nat} (hb0 : Holds w r b0) :
    Holds w r (State.recycleRow b0 b1 b2 b3) := by
  unfold State.recycleRow
  exact Holds.inFlash hb0

theorem Holds.targetFailed {b0 : State} {b1 : RowRef} (hb0 : Holds w r b0) :
    Holds w r (State.targetFailed b0 b1) := by
  unfold State.targetFailed
  split
  · rename_i z0 z1 z2 z3
    extract_lets +onlyGivenNames s4
    have hs4 : Holds w r s4 := Holds.releaseRow (Holds.releaseParity (Holds.withdrawRow hb0))
    clear_value s4; revert s4; refine keep ?_; intro s4 hs4
    extract_lets +onlyGivenNames s5
    have hs5 : Holds w r s5 := Holds.removeEntries hs4
    clear_value s5; revert s5; refine keep ?_; intro s5 hs5
    extract_lets +onlyGivenNames s6
    have hs6 : Holds w r s6 := Holds.modDieSet hs5
    clear_value s6; revert s6; refine keep ?_; intro s6 hs6
    extract_lets +onlyGivenNames req7
    exact Holds.ite (Holds.report (Holds.modDieSet hs6)) (Holds.report (Holds.modDieSet hs6))
  · rename_i z8 z9
    split
    · rename_i z10 z11 z12 z13
      extract_lets +onlyGivenNames s14
      have hs14 : Holds w r s14 := Holds.recycleRow (Holds.releaseParity (Holds.withdrawRow hb0))
      clear_value s14; revert s14; refine keep ?_; intro s14 hs14
      extract_lets +onlyGivenNames s15
      have hs15 : Holds w r s15 := Holds.ite (Holds.modNs hs14) hs14
      clear_value s15; revert s15; refine keep ?_; intro s15 hs15
      extract_lets +onlyGivenNames lost16 s17
      have hs17 : Holds w r s17 := Holds.modDieSet hs15
      clear_value s17; revert s17; refine keep ?_; intro s17 hs17
      extract_lets +onlyGivenNames s18
      have hs18 : Holds w r s18 := Holds.removeEntries hs17
      clear_value s18; revert s18; refine keep ?_; intro s18 hs18
      refine Holds.each hs18 (fun t19 x21 h20 => ?_)
      exact Holds.ite (Holds.report (Holds.modDieSet h20)) (Holds.report (Holds.modDieSet h20))
    · rename_i z22 z23
      exact hb0

theorem Holds.programFailed {b0 : State} {b1 : Nat} {b2 : RowRef} {b3 : FlashOp} (hb0 : Holds w r b0) :
    Holds w r (State.programFailed b0 b1 b2 b3) := by
  unfold State.programFailed
  extract_lets +onlyGivenNames s0
  have hs0 : Holds w r s0 := Holds.report hb0
  extract_lets +onlyGivenNames data1 s2
  have hs2 : Holds w r s2 := Holds.ite (Holds.rowBlocks hs0) hs0
  extract_lets +onlyGivenNames open3 s4
  have hs4 : Holds w r s4 := Holds.retireRowDie hs2
  refine Holds.ite (Holds.targetFailed hs4) ?_
  refine Holds.ite ?_ (Holds.modDie hs4)
  split
  · rename_i z5 z6 z7 z8
    exact Holds.queueRow (Holds.unitDone hs4)
  · rename_i z9 z10
    exact hs4

theorem Holds.reserveCheck {b0 : State} (hb0 : Holds w r b0) : Holds w r (State.reserveCheck b0) := by
  unfold State.reserveCheck
  exact Holds.ite hb0 (Holds.each hb0 (fun t0 x2 h1 => Holds.declareExhausted h1))

theorem Holds.retireRegion {b0 : State} {b1 b2 b3 : Nat} (hb0 : Holds w r b0) :
    Holds w r (State.retireRegion b0 b1 b2 b3) := by
  unfold State.retireRegion
  extract_lets +onlyGivenNames old0 s1
  have hs1 : Holds w r s1 := Holds.markRetired hb0
  clear_value s1; revert s1; refine keep ?_; intro s1 hs1
  refine Holds.ite (Holds.ite (Holds.reserveCheck hs1) hs1) ?_
  extract_lets +onlyGivenNames t2
  have ht2 : HoldsP w r t2 := HoldsP.takeSpare hs1
  clear_value t2; revert t2; refine keep ?_; intro t2 ht2
  extract_lets +onlyGivenNames s3
  have hs3 : Holds w r s3 := Holds.setBlock (show HoldsP w r _ from ht2)
  clear_value s3; revert s3; refine keep ?_; intro s3 hs3
  exact Holds.refreshSpares (Holds.enqueue hs3)

theorem Holds.setRemainders {b0 : State} {b1 : List Nat} (hb0 : Holds w r b0) :
    Holds w r (State.setRemainders b0 b1) := by
  unfold State.setRemainders
  extract_lets +onlyGivenNames area0 least1
  exact Holds.each hb0 (fun t2 x4 h3 => Holds.refreshSpares (Holds.modGroup h3))

theorem Holds.joinGroup {b0 : State} {b1 b2 : Nat} (hb0 : Holds w r b0) : Holds w r (State.joinGroup b0 b1 b2) := by
  unfold State.joinGroup
  extract_lets +onlyGivenNames s0
  have hs0 : Holds w r s0 := Holds.each hb0 (fun t1 x3 h2 => Holds.each h2 (fun t4 x6 h5 => Holds.losePlace h5))
  clear_value s0; revert s0; refine keep ?_; intro s0 hs0
  extract_lets +onlyGivenNames s7
  have hs7 : Holds w r s7 := Holds.modDie hs0
  clear_value s7; revert s7; refine keep ?_; intro s7 hs7
  extract_lets +onlyGivenNames used8
  exact Holds.each hs7 (fun t9 x11 h10 => Holds.setBlock h10)

theorem Holds.formGroup {b0 : State} {b1 : Nat} {b2 : List Nat} {b3 : Geometry} (hb0 : Holds w r b0) :
    Holds w r (State.formGroup b0 b1 b2 b3) := by
  unfold State.formGroup
  extract_lets +onlyGivenNames rows0 blanket1 trail2 x3 x4 s5
  have hs5 : Holds w r s5 := Holds.modGroup hb0
  clear_value s5; revert s5; refine keep ?_; intro s5 hs5
  extract_lets +onlyGivenNames s6
  have hs6 : Holds w r s6 := Holds.refreshSpares (Holds.each hs5 (fun t7 x9 h8 => Holds.joinGroup h8))
  clear_value s6; revert s6; refine keep ?_; intro s6 hs6
  exact Holds.driveWaiting (Holds.modGroup hs6)

theorem Holds.formGroups {b0 : State} {b1 : Bool} (hb0 : Holds w r b0) : Holds w r (State.formGroups b0 b1) := by
  unfold State.formGroups
  extract_lets +onlyGivenNames chans0 most1
  refine Holds.each hb0 (fun t2 x4 h3 => ?_)
  extract_lets +onlyGivenNames ds5 geo6
  exact Holds.ite h3 (Holds.formGroup h3)

theorem Holds.addHandles {b0 : State} {b1 : Nat} {b2 : List Nat} (hb0 : Holds w r b0) :
    Holds w r (State.addHandles b0 b1 b2) := by
  unfold State.addHandles
  refine Holds.each (Holds.finishShifts hb0) (fun t0 x2 h1 => ?_)
  extract_lets +onlyGivenNames e3
  exact Holds.finishShifts (Holds.queueRule h1)

theorem Holds.addOffTime {b0 : State} {b1 : Nat} (hb0 : Holds w r b0) : Holds w r (State.addOffTime b0 b1) := by
  unfold State.addOffTime
  extract_lets +onlyGivenNames inc0 s1 s2
  have hs2 : Holds w r s2 := Holds.inZone hb0
  clear_value s2; revert s2; refine keep ?_; intro s2 hs2
  exact Holds.inZone hs2

theorem HoldsQ.changedZonePage {b0 : State} {b1 b2 : Nat} (hb0 : Holds w r b0) :
    HoldsQ w r (State.changedZonePage b0 b1 b2) := by
  unfold State.changedZonePage
  refine HoldsQ.ite (HoldsQ.mk hb0) ?_
  extract_lets +onlyGivenNames k0 c1
  exact HoldsQ.mk (Holds.inZone hb0)

theorem Holds.dropExpos {b0 : State} {b1 : Nat} (hb0 : Holds w r b0) : Holds w r (State.dropExpos b0 b1) := by
  unfold State.dropExpos
  extract_lets +onlyGivenNames mine0 s1 s2
  have hs2 : Holds w r s2 := Holds.inTrail hb0
  clear_value s2; revert s2; refine keep ?_; intro s2 hs2
  exact Holds.each hs2 (fun t3 x5 h4 => Holds.dropEntriesOf (Holds.releaseUnits h4))

theorem Holds.dropRelocs {b0 : State} {b1 : Nat} (hb0 : Holds w r b0) : Holds w r (State.dropRelocs b0 b1) := by
  unfold State.dropRelocs
  extract_lets +onlyGivenNames d0 mine1 s2
  have hs2 : Holds w r s2 := Holds.modDieSet hb0
  clear_value s2; revert s2; refine keep ?_; intro s2 hs2
  exact Holds.each hs2 (fun t3 x5 h4 => Holds.releaseRow (Holds.releaseParity h4))

theorem Holds.emptyNs {b0 : State} {b1 : Nat} (hb0 : Holds w r b0) : Holds w r (State.emptyNs b0 b1) := by
  unfold State.emptyNs
  extract_lets +onlyGivenNames seq0 s1
  have hs1 : Holds w r s1 := Holds.dropExpos hb0
  clear_value s1; revert s1; refine keep ?_; intro s1 hs1
  extract_lets +onlyGivenNames s2
  refine cut (P := Holds w r s2) ?_ fun hs2 => ?_
  · unfold s2
    refine Holds.each hs1 (fun t3 x5 h4 => ?_)
    extract_lets +onlyGivenNames st6
    exact Holds.ite h4 (Holds.resetZone h4)
  clear_value s2; revert s2; refine keep ?_; intro s2 hs2
  extract_lets +onlyGivenNames used7 s8
  have hs8 : Holds w r s8 :=
    Holds.each hs2 (fun t9 x11 h10 => Holds.recycleRow (Holds.releaseParity (Holds.withdrawRow h10)))
  clear_value s8; revert s8; refine keep ?_; intro s8 hs8
  exact Holds.modNs hs8

theorem Holds.firstRange {b0 : State} {b1 b2 : Nat} (hb0 : Holds w r b0) : Holds w r (State.firstRange b0 b1 b2) := by
  unfold State.firstRange
  extract_lets +onlyGivenNames x0
  split
  · rename_i z1 z2
    exact Holds.createRange hb0
  · rename_i z3 z4
    exact Holds.createRange hb0
  · rename_i z5 z6 z7
    exact Holds.storeKeys (Holds.modRange hb0)

theorem Holds.formSets {b0 : State} {b1 : Nat} (hb0 : Holds w r b0) : Holds w r (State.formSets b0 b1) := by
  unfold State.formSets
  extract_lets +onlyGivenNames plan0 opens1 actives2 s3 s4
  have hs4 : Holds w r s4 := Holds.inZone hb0
  clear_value s4; revert s4; refine keep ?_; intro s4 hs4
  refine Holds.foldl (fun t5 x7 h6 => ?_) hs4
  extract_lets +onlyGivenNames d8 gs9 s10
  have hs10 : Holds w r s10 := Holds.setRemainders h6
  clear_value s10; revert s10; refine keep ?_; intro s10 hs10
  extract_lets +onlyGivenNames spare11
  exact Holds.modDieSet hs10

theorem Holds.leaveWindow {b0 : State} {b1 : Nat} (hb0 : Holds w r b0) : Holds w r (State.leaveWindow b0 b1) := by
  unfold State.leaveWindow
  extract_lets +onlyGivenNames x0 s1
  refine cut (P := Holds w r s1) ?_ fun hs1 => ?_
  · unfold s1
    split
    · rename_i z2 z3 z4 z5
      exact Holds.adminCqe hb0
    · rename_i z6 z7
      exact hb0
  clear_value s1; revert s1; refine keep ?_; intro s1 hs1
  extract_lets +onlyGivenNames s8
  have hs8 : Holds w r s8 := Holds.modDieSet hs1
  clear_value s8; revert s8; refine keep ?_; intro s8 hs8
  exact Holds.each hs8 (fun t9 x11 h10 => Holds.modDie h10)

theorem Holds.offUnknown {b0 : State} (hb0 : Holds w r b0) : Holds w r (State.offUnknown b0) := by
  unfold State.offUnknown
  extract_lets +onlyGivenNames s0 s1
  have hs1 : Holds w r s1 := Holds.inFlash hb0
  clear_value s1; revert s1; refine keep ?_; intro s1 hs1
  exact Holds.log hs1

theorem Holds.recommendFinish {b0 : State} {b1 b2 : Nat} (hb0 : Holds w r b0) :
    Holds w r (State.recommendFinish b0 b1 b2) := by
  unfold State.recommendFinish
  exact Holds.ite hb0 (Holds.zoneChanged (Holds.modZone hb0))

theorem Holds.removeNs {b0 : State} {b1 : Nat} (hb0 : Holds w r b0) : Holds w r (State.removeNs b0 b1) := by
  unfold State.removeNs
  extract_lets +onlyGivenNames n0 s1
  have hs1 : Holds w r s1 := Holds.emptyNs (Holds.dropRelocs hb0)
  clear_value s1; revert s1; refine keep ?_; intro s1 hs1
  extract_lets +onlyGivenNames rows2 s3
  have hs3 : Holds w r s3 :=
    Holds.each hs1 (fun t4 x6 h5 => Holds.ite (Holds.releaseRow (Holds.releaseParity h5)) h5)
  clear_value s3; revert s3; refine keep ?_; intro s3 hs3
  extract_lets +onlyGivenNames s7
  have hs7 : Holds w r s7 := show HoldsP w r _ from HoldsP.dropRules hs3
  clear_value s7; revert s7; refine keep ?_; intro s7 hs7
  extract_lets +onlyGivenNames s8
  have hs8 : Holds w r s8 := Holds.modNs (Holds.dropKeys hs7)
  clear_value s8; revert s8; refine keep ?_; intro s8 hs8
  extract_lets +onlyGivenNames s9 s10
  have hs10 : Holds w r s10 := Holds.inZone hs8
  clear_value s10; revert s10; refine keep ?_; intro s10 hs10
  exact Holds.trailRec hs10

theorem Holds.setTimestamp {b0 : State} {b1 : Nat} (hb0 : Holds w r b0) : Holds w r (State.setTimestamp b0 b1) := by
  unfold State.setTimestamp
  extract_lets +onlyGivenNames s0 s1
  refine cut (P := Holds w r s1) ?_ fun hs1 => ?_
  · unfold s1
    refine Holds.ite hb0 ?_
    split
    · rename_i z2 z3
      exact Holds.inFlash hb0
    · rename_i z4 z5 z6
      refine Holds.ite (Holds.offUnknown hb0) ?_
      extract_lets +onlyGivenNames s7
      have hs7 : Holds w r s7 := Holds.addOffTime hb0
      clear_value s7; revert s7; refine keep ?_; intro s7 hs7
      exact Holds.inFlash hs7
  clear_value s1; revert s1; refine keep ?_; intro s1 hs1
  extract_lets +onlyGivenNames s8 s9
  have hs9 : Holds w r s9 := Holds.inTrail hs1
  clear_value s9; revert s9; refine keep ?_; intro s9 hs9
  extract_lets +onlyGivenNames rec10 rec11 s12 s13
  have hs13 : Holds w r s13 := Holds.upd (x := s9) hs9 rfl rfl rfl rfl rfl rfl rfl
  clear_value s13; revert s13; refine keep ?_; intro s13 hs13
  exact Holds.trailRec hs13

theorem HoldsO.takeRows {b0 : State} {b1 b2 b3 b4 b5 : Nat} (hb0 : Holds w r b0) :
    HoldsO w r (State.takeRows b0 b1 b2 b3 b4 b5) := by
  induction b5 generalizing b0 b1 b2 b3 b4
  · unfold State.takeRows
    exact HoldsO.ite (HoldsO.some hb0) HoldsO.none
  · rename_i nn ih
    unfold State.takeRows
    refine HoldsO.ite (HoldsO.some hb0) ?_
    split
    · rename_i z0 z1
      exact HoldsO.none
    · rename_i z2 z3 z4
      extract_lets +onlyGivenNames g5
      apply ih
      exact Holds.bindRow hb0

theorem execCapacityManagementSelect_holds {b0 b1 b2 : Nat} {b3 : State} (hb3 : Holds w r b3) :
    HoldsR w r (execCapacityManagementSelect b0 b1 b2 b3) := by
  unfold execCapacityManagementSelect
  refine HoldsR.managerDo hb3 (fun t0 h1 => ?_)
  extract_lets +onlyGivenNames old2
  have hold2 : Holds w r old2 := h1
  clear_value old2; revert old2; refine keep ?_; intro old2 hold2
  extract_lets +onlyGivenNames s3
  have hs3 : Holds w r s3 := Holds.formGroups h1
  clear_value s3; revert s3; refine keep ?_; intro s3 hs3
  extract_lets +onlyGivenNames plan4
  refine HoldsQ.ite (refusedWith_holds hold2) ?_
  exact HoldsQ.ite (refusedWith_holds hold2) (succeeded_holds (Holds.trailRec (Holds.formSets hs3)))

theorem execFormatNvm_holds {b0 b1 b2 b3 : Nat} {b4 : PiFormat} {b5 : Nat} {b6 : State} (hb6 : Holds w r b6) :
    HoldsR w r (execFormatNvm b0 b1 b2 b3 b4 b5 b6) := by
  unfold execFormatNvm
  extract_lets +onlyGivenNames key0
  refine HoldsR.adminWaiting hb6 (fun t1 h2 => ?_)
  extract_lets +onlyGivenNames n3 crypto4
  refine Holds.ite (Holds.adminCqe h2) ?_
  refine Holds.ite (Holds.adminCqe h2) ?_
  refine Holds.ite (Holds.adminCqe h2) ?_
  refine Holds.ite (Holds.adminCqe h2) ?_
  refine Holds.ite (Holds.closeFor h2) ?_
  extract_lets +onlyGivenNames s5
  have hs5 : Holds w r s5 := Holds.emptyNs h2
  clear_value s5; revert s5; refine keep ?_; intro s5 hs5
  extract_lets +onlyGivenNames s6
  have hs6 : Holds w r s6 := Holds.ite (Holds.each hs5 (fun t7 x9 h8 => Holds.cryptoErase h8)) hs5
  clear_value s6; revert s6; refine keep ?_; intro s6 hs6
  extract_lets +onlyGivenNames s10
  have hs10 : Holds w r s10 := Holds.modNs hs6
  clear_value s10; revert s10; refine keep ?_; intro s10 hs10
  exact Holds.adminCqe (Holds.trailRec hs10)

theorem execGetFeatures_holds {b0 b1 b2 b3 : Nat} {b4 : State} (hb4 : Holds w r b4) :
    HoldsR w r (execGetFeatures b0 b1 b2 b3 b4) := by
  unfold execGetFeatures
  refine HoldsR.adminDo hb4 (fun t0 h1 => ?_)
  split
  · rename_i z2 z3
    exact refusedWith_holds h1
  · rename_i z4 z5 z6
    exact HoldsQ.mk h1

theorem execGetLogChangedZoneList_holds {b0 b1 b2 : Nat} {b3 : State} (hb3 : Holds w r b3) :
    HoldsR w r (execGetLogChangedZoneList b0 b1 b2 b3) := by
  unfold execGetLogChangedZoneList
  refine HoldsR.adminDo hb3 (fun t0 h1 => ?_)
  extract_lets +onlyGivenNames r2
  have hr2 : HoldsQ w r r2 := HoldsQ.changedZonePage h1
  clear_value r2; revert r2; refine keep ?_; intro r2 hr2
  refine HoldsQ.ite (refusedWith_holds h1) ?_
  exact succeeded_holds (Holds.unmask (Holds.reply (show HoldsQ w r _ from hr2)))

theorem execIdentify_holds {b0 b1 b2 b3 : Nat} {b4 : State} (hb4 : Holds w r b4) :
    HoldsR w r (execIdentify b0 b1 b2 b3 b4) := by
  unfold execIdentify
  refine HoldsR.adminDo hb4 (fun t0 h1 => ?_)
  split
  · rename_i z2 z3
    exact refusedWith_holds h1
  · rename_i z4 z5 z6
    exact succeeded_holds (Holds.reply h1)

theorem execNamespaceAttachment_holds {b0 b1 b2 : Nat} {b3 : Bool} {b4 : List Nat} {b5 : State} (hb5 : Holds w r b5) :
    HoldsR w r (execNamespaceAttachment b0 b1 b2 b3 b4 b5) := by
  unfold execNamespaceAttachment
  extract_lets +onlyGivenNames key0
  refine HoldsR.adminWaiting hb5 (fun t1 h2 => ?_)
  extract_lets +onlyGivenNames n3
  refine Holds.ite (Holds.adminCqe h2) ?_
  refine Holds.ite (Holds.adminCqe h2) ?_
  refine Holds.ite (Holds.adminCqe h2) ?_
  refine Holds.ite ?_ ?_
  · refine Holds.ite (Holds.adminCqe h2) ?_
    exact Holds.ite (Holds.adminCqe h2) (Holds.adminCqe (Holds.trailRec (Holds.modNs h2)))
  refine Holds.ite (Holds.adminCqe h2) ?_
  refine Holds.ite (Holds.keepWaiting h2) ?_
  extract_lets +onlyGivenNames s4
  have hs4 : Holds w r s4 := Holds.modNs h2
  clear_value s4; revert s4; refine keep ?_; intro s4 hs4
  extract_lets +onlyGivenNames s5 s6
  have hs6 : Holds w r s6 := Holds.inZone hs4
  clear_value s6; revert s6; refine keep ?_; intro s6 hs6
  exact Holds.adminCqe (Holds.trailRec hs6)

theorem execNamespaceManagementCreate_holds {b0 b1 : Nat} {b2 b3 : Bool} {b4 b5 b6 : Nat} {b7 : PiFormat}
    {b8 : List Nat} {b9 : State} (hb9 : Holds w r b9) :
    HoldsR w r (execNamespaceManagementCreate b0 b1 b2 b3 b4 b5 b6 b7 b8 b9) := by
  unfold execNamespaceManagementCreate
  refine HoldsR.managerDo hb9 (fun t0 h1 => ?_)
  extract_lets +onlyGivenNames mode2
  split
  · rename_i z3 z4
    exact refusedWith_holds h1
  · rename_i z5 z6 z7
    extract_lets +onlyGivenNames ruh8
    refine HoldsQ.ite (refusedWith_holds h1) ?_
    split
    · rename_i z9 z10
      exact refusedWith_holds h1
    · rename_i z11 z12 z13
      extract_lets +onlyGivenNames keyed14
      refine HoldsQ.ite (refusedWith_holds h1) ?_
      refine HoldsQ.ite (refusedWith_holds h1) ?_
      refine HoldsQ.ite (refusedWith_holds h1) ?_
      refine HoldsQ.ite (refusedWith_holds h1) ?_
      extract_lets +onlyGivenNames n15 made16
      have hmade16 : Holds w r made16 := Holds.modNs h1
      clear_value made16; revert made16; refine keep ?_; intro made16 hmade16
      split
      · rename_i z17 z18
        exact refusedWith_holds h1
      · rename_i z19 z20 z21
        have h22 := HoldsO.of_eq (w := w) (r := r) z21 (HoldsO.ite (HoldsO.some hmade16) (HoldsO.takeRows hmade16))
        refine HoldsQ.ite (refusedWith_holds h1) ?_
        extract_lets +onlyGivenNames t23 t24
        have ht24 : Holds w r t24 := Holds.inZone h22
        clear_value t24; revert t24; refine keep ?_; intro t24 ht24
        extract_lets +onlyGivenNames s25
        have hs25 : Holds w r s25 := Holds.addHandles (Holds.firstRange ht24)
        clear_value s25; revert s25; refine keep ?_; intro s25 hs25
        exact HoldsQ.mk (Holds.trailRec hs25)

theorem execNamespaceManagementDelete_holds {b0 b1 b2 : Nat} {b3 : State} (hb3 : Holds w r b3) :
    HoldsR w r (execNamespaceManagementDelete b0 b1 b2 b3) := by
  unfold execNamespaceManagementDelete
  extract_lets +onlyGivenNames key0
  refine HoldsR.adminWaiting hb3 (fun t1 h2 => ?_)
  extract_lets +onlyGivenNames all3 mine4
  refine Holds.ite (Holds.adminCqe h2) ?_
  refine Holds.ite (Holds.adminCqe h2) ?_
  exact Holds.ite (Holds.closeFor h2) (Holds.adminCqe (Holds.each h2 (fun t5 x7 h6 => Holds.removeNs h6)))

theorem execSanitizeCryptoErase_holds {b0 b1 : Nat} {b2 : State} (hb2 : Holds w r b2) :
    HoldsR w r (execSanitizeCryptoErase b0 b1 b2) := by
  unfold execSanitizeCryptoErase
  extract_lets +onlyGivenNames key0
  refine HoldsR.adminWaiting hb2 (fun t1 h2 => ?_)
  extract_lets +onlyGivenNames all3
  refine Holds.ite (Holds.adminCqe h2) ?_
  refine Holds.ite (Holds.adminCqe h2) ?_
  refine Holds.ite (Holds.adminCqe h2) ?_
  refine Holds.ite (Holds.closeFor h2) ?_
  extract_lets +onlyGivenNames s4
  refine cut (P := Holds w r s4) ?_ fun hs4 => ?_
  · unfold s4
    refine Holds.each h2 (fun t5 x7 h6 => ?_)
    extract_lets +onlyGivenNames s8
    have hs8 : Holds w r s8 := Holds.ite h6 (Holds.each h6 (fun t9 x11 h10 => Holds.cryptoErase h10))
    clear_value s8; revert s8; refine keep ?_; intro s8 hs8
    exact Holds.modNs hs8
  clear_value s4; revert s4; refine keep ?_; intro s4 hs4
  exact Holds.adminCqe hs4

theorem execSetFeaturesFdp_holds {b0 b1 b2 : Nat} {b3 : Bool} {b4 : State} (hb4 : Holds w r b4) :
    HoldsR w r (execSetFeaturesFdp b0 b1 b2 b3 b4) := by
  unfold execSetFeaturesFdp
  refine HoldsR.managerDo hb4 (fun t0 h1 => ?_)
  refine HoldsQ.ite (refusedWith_holds h1) ?_
  exact HoldsQ.ite (refusedWith_holds h1) (succeeded_holds (Holds.trailRec (Holds.modDieSet h1)))

theorem execSetFeaturesFdpEvents_holds {b0 b1 b2 b3 : Nat} {b4 : State} (hb4 : Holds w r b4) :
    HoldsR w r (execSetFeaturesFdpEvents b0 b1 b2 b3 b4) := by
  unfold execSetFeaturesFdpEvents
  refine HoldsR.adminDo hb4 (fun t0 h1 => ?_)
  extract_lets +onlyGivenNames n2
  exact HoldsQ.ite (refusedWith_holds h1) (HoldsQ.ite (refusedWith_holds h1) (succeeded_holds (Holds.modDieSet h1)))

theorem execSetFeaturesHostIdentifier_holds {b0 b1 b2 : Nat} {b3 : State} (hb3 : Holds w r b3) :
    HoldsR w r (execSetFeaturesHostIdentifier b0 b1 b2 b3) := by
  unfold execSetFeaturesHostIdentifier
  exact HoldsR.adminDo hb3 (fun t0 h1 => succeeded_holds (Holds.modInst h1))

theorem execSetFeaturesPlmConfig_holds {b0 b1 b2 : Nat} {b3 : Bool} {b4 : Nat} {b5 : State} (hb5 : Holds w r b5) :
    HoldsR w r (execSetFeaturesPlmConfig b0 b1 b2 b3 b4 b5) := by
  unfold execSetFeaturesPlmConfig
  refine HoldsR.adminDo hb5 (fun t0 h1 => ?_)
  extract_lets +onlyGivenNames x2
  refine HoldsQ.ite (refusedWith_holds h1) ?_
  extract_lets +onlyGivenNames s3
  have hs3 : Holds w r s3 := Holds.leaveWindow h1
  clear_value s3; revert s3; refine keep ?_; intro s3 hs3
  exact succeeded_holds (Holds.modDieSet hs3)

theorem execSetFeaturesPlmWindow_holds {b0 b1 b2 : Nat} {b3 : Bool} {b4 : State} (hb4 : Holds w r b4) :
    HoldsR w r (execSetFeaturesPlmWindow b0 b1 b2 b3 b4) := by
  unfold execSetFeaturesPlmWindow
  refine HoldsR.admin hb4 (fun t0 h1 => ?_)
  extract_lets +onlyGivenNames p2
  refine Holds.ite (Holds.adminCqe h1) ?_
  refine Holds.ite (Holds.adminCqe h1) ?_
  refine Holds.ite (Holds.adminCqe (Holds.leaveWindow h1)) ?_
  exact Holds.ite (Holds.adminCqe h1) (Holds.ite (Holds.adminCqe h1) (Holds.keepWaiting (Holds.modDieSet h1)))

theorem execSetFeaturesReservation_holds {b0 b1 b2 b3 b4 : Nat} {b5 : State} (hb5 : Holds w r b5) :
    HoldsR w r (execSetFeaturesReservation b0 b1 b2 b3 b4 b5) := by
  unfold execSetFeaturesReservation
  refine HoldsR.adminDo hb5 (fun t0 h1 => ?_)
  refine HoldsQ.ite (refusedWith_holds h1) ?_
  refine HoldsQ.ite (succeeded_holds (Holds.modInst h1)) ?_
  exact HoldsQ.ite (succeeded_holds (Holds.trailRec (Holds.modNs h1))) (refusedWith_holds h1)

theorem execSetFeaturesTimestamp_holds {b0 b1 b2 : Nat} {b3 : State} (hb3 : Holds w r b3) :
    HoldsR w r (execSetFeaturesTimestamp b0 b1 b2 b3) := by
  unfold execSetFeaturesTimestamp
  exact HoldsR.adminDo hb3 (fun t0 h1 => succeeded_holds (Holds.setTimestamp h1))

theorem execZoneFinishAgeReached_holds {b0 b1 : Nat} {b2 : State} (hb2 : Holds w r b2) :
    HoldsR w r (execZoneFinishAgeReached b0 b1 b2) := by
  unfold execZoneFinishAgeReached
  refine HoldsR.ite (HoldsR.next hb2) ?_
  extract_lets +onlyGivenNames s0
  have hs0 : Holds w r s0 := Holds.modZone hb2
  clear_value s0; revert s0; refine keep ?_; intro s0 hs0
  exact HoldsR.next (Holds.controllerFinish hs0)

theorem execZoneFzrAgeReached_holds {b0 b1 : Nat} {b2 : State} (hb2 : Holds w r b2) :
    HoldsR w r (execZoneFzrAgeReached b0 b1 b2) := by
  unfold execZoneFzrAgeReached
  refine HoldsR.ite (HoldsR.next hb2) ?_
  extract_lets +onlyGivenNames s0
  have hs0 : Holds w r s0 := Holds.modZone hb2
  clear_value s0; revert s0; refine keep ?_; intro s0 hs0
  exact HoldsR.next (Holds.recommendFinish hs0)

theorem execZoneRowRelease_holds {b0 b1 : Nat} {b2 : State} (hb2 : Holds w r b2) :
    HoldsR w r (execZoneRowRelease b0 b1 b2) := by
  unfold execZoneRowRelease
  split
  · rename_i z0 z1
    exact HoldsR.next hb2
  · rename_i z2 z3 z4
    refine HoldsR.ite (HoldsR.next hb2) ?_
    extract_lets +onlyGivenNames s5
    have hs5 : Holds w r s5 := Holds.modRow (Holds.releaseParity (Holds.withdrawRow hb2))
    clear_value s5; revert s5; refine keep ?_; intro s5 hs5
    extract_lets +onlyGivenNames s6
    have hs6 : Holds w r s6 := Holds.each hs5 (fun t7 x9 h8 => Holds.rowBlocks h8)
    clear_value s6; revert s6; refine keep ?_; intro s6 hs6
    extract_lets +onlyGivenNames s10
    have hs10 : Holds w r s10 :=
      Holds.each hs6 (fun t11 x13 h12 => Holds.each h12 (fun t14 x16 h15 => Holds.ite (Holds.retireBlock h15) h15))
    clear_value s10; revert s10; refine keep ?_; intro s10 hs10
    extract_lets +onlyGivenNames s17 s18
    have hs18 : Holds w r s18 := Holds.inFlash hs10
    clear_value s18; revert s18; refine keep ?_; intro s18 hs18
    exact HoldsR.next (Holds.trailRec hs18)

theorem Holds.countRefusal {b0 : State} {b1 b2 : Nat} (hb0 : Holds w r b0) :
    Holds w r (State.countRefusal b0 b1 b2) := by
  unfold State.countRefusal
  exact Holds.bump (Holds.setReg (Holds.setReg (Holds.setReg hb0)))

theorem Holds.refuse {b0 : State} {b1 b2 b3 : Nat} {b4 : optParam Bool Bool.false} (hb0 : Holds w r b0) :
    Holds w r (State.refuse b0 b1 b2 b3 b4) := by
  unfold State.refuse
  exact Holds.reportHost (Holds.countRefusal hb0)

theorem Holds.dequeue {b0 : State} {b1 : Nat} {b2 : FlashOp} (hb0 : Holds w r b0) :
    Holds w r (State.dequeue b0 b1 b2) := by
  unfold State.dequeue
  exact Holds.modDie hb0

theorem Holds.issueUnit {b0 : State} {b1 : Nat} {b2 : FlashOp} {b3 : RowRef} {b4 : Nat} (hb0 : Holds w r b0) :
    Holds w r (State.issueUnit b0 b1 b2 b3 b4) := by
  unfold State.issueUnit
  extract_lets +onlyGivenNames s0
  have hs0 : Holds w r s0 := Holds.modDie (Holds.dequeue hb0)
  clear_value s0; revert s0; refine keep ?_; intro s0 hs0
  extract_lets +onlyGivenNames s1
  have hs1 : Holds w r s1 := Holds.askBus hs0
  clear_value s1; revert s1; refine keep ?_; intro s1 hs1
  extract_lets +onlyGivenNames n2
  split
  · rename_i z3 z4 z5 z6
    have h7 := HoldsP.of_eq (w := w) (r := r) z6 (HoldsP.takeSeq hs1)
    extract_lets +onlyGivenNames s8
    have hs8 : Holds w r s8 := Holds.modRow h7
    clear_value s8; revert s8; refine keep ?_; intro s8 hs8
    extract_lets +onlyGivenNames trailer9
    exact Holds.rowBlocks hs8

theorem Holds.issueErase {b0 : State} {b1 : Nat} {b2 : FlashOp} (hb0 : Holds w r b0) :
    Holds w r (State.issueErase b0 b1 b2) := by
  unfold State.issueErase
  extract_lets +onlyGivenNames s0
  have hs0 : Holds w r s0 := Holds.modDie (Holds.dequeue hb0)
  clear_value s0; revert s0; refine keep ?_; intro s0 hs0
  exact Holds.setBlocks hs0

theorem Holds.issueShort {b0 : State} {b1 : Nat} {b2 : FlashOp} (hb0 : Holds w r b0) :
    Holds w r (State.issueShort b0 b1 b2) := by
  unfold State.issueShort
  extract_lets +onlyGivenNames s0
  have hs0 : Holds w r s0 := Holds.modDie (Holds.dequeue hb0)
  clear_value s0; revert s0; refine keep ?_; intro s0 hs0
  exact Holds.ite hs0 (Holds.askBus (Holds.setBlocks hs0))

theorem Holds.issueOp {b0 : State} {b1 : Nat} {b2 : FlashOp} (hb0 : Holds w r b0) :
    Holds w r (State.issueOp b0 b1 b2) := by
  unfold State.issueOp
  split
  · rename_i z0 z1 z2 z3 z4 z5
    exact Holds.issueUnit hb0
  · rename_i z6 z7 z8
    exact Holds.issueErase hb0
  · rename_i z9 z10 z11 z12
    exact Holds.issueShort hb0

theorem Holds.readRefused {b0 : State} {b1 : FlashOp} (hb0 : Holds w r b0) : Holds w r (State.readRefused b0 b1) := by
  unfold State.readRefused
  split
  · rename_i z0 z1 z2 z3 z4
    exact Holds.ite hb0 (Holds.modTag hb0)
  · rename_i z5 z6 z7
    exact Holds.driveWaiting hb0
  · rename_i z8 z9 z10
    exact hb0

theorem Holds.refuseRead {b0 : State} {b1 b2 : Nat} {b3 : FlashOp} (hb0 : Holds w r b0) :
    Holds w r (State.refuseRead b0 b1 b2 b3) := by
  unfold State.refuseRead
  extract_lets +onlyGivenNames s0
  have hs0 : Holds w r s0 := Holds.dequeue hb0
  clear_value s0; revert s0; refine keep ?_; intro s0 hs0
  split
  · rename_i z1 z2 z3 z4
    exact Holds.modDie (Holds.countRefusal hs0)
  · rename_i z5 z6
    exact Holds.readRefused (Holds.refuse hs0)

theorem Holds.moveParity {b0 : State} {b1 : Nat} {b2 : FlashOp} {b3 : RowRef} {b4 : Nat} (hb0 : Holds w r b0) :
    Holds w r (State.moveParity b0 b1 b2 b3 b4) := by
  unfold State.moveParity
  extract_lets +onlyGivenNames q0
  split
  · rename_i z1 z2 z3
    refine cut (HoldsOP.of_some (w := w) (r := r) z3 (HoldsOP.takeBlocks hb0)) fun h4 => ?_
    extract_lets +onlyGivenNames s5
    have hs5 : Holds w r s5 := Holds.setBlocks (show HoldsP w r _ from h4)
    clear_value s5; revert s5; refine keep ?_; intro s5 hs5
    extract_lets +onlyGivenNames s6
    have hs6 : Holds w r s6 := Holds.modRow hs5
    clear_value s6; revert s6; refine keep ?_; intro s6 hs6
    exact Holds.modDie hs6
  · rename_i z7 z8
    exact Holds.findPlace (Holds.losePlace hb0)

theorem Holds.moveRegion {b0 : State} {b1 : Nat} {b2 : FlashOp} {b3 : Nat} (hb0 : Holds w r b0) :
    Holds w r (b0.moveRegion b1 b2 b3) := by
  unfold State.moveRegion
  extract_lets p s
  have hs : Holds w r s := Holds.inFlash hb0
  split
  · rename_i e
    obtain ⟨k, -, e⟩ := List.exists_of_findSome?_eq_some e
    obtain ⟨y, hy, e⟩ := Option.map_eq_some_iff.1 e
    simp only [Prod.mk.injEq] at e
    obtain ⟨-, rfl⟩ := e
    exact Holds.modDie (HoldsOP.of_some hy (HoldsOP.regionNext hs))
  · exact hs

theorem Holds.slcFailed {b0 : State} {b1 : Nat} {b2 : FlashOp} (hb0 : Holds w r b0) :
    Holds w r (State.slcFailed b0 b1 b2) := by
  unfold State.slcFailed
  extract_lets +onlyGivenNames s0
  have hs0 : Holds w r s0 := Holds.each hb0 (fun t1 x3 h2 => Holds.retireRegion h2)
  clear_value s0; revert s0; refine keep ?_; intro s0 hs0
  split
  · rename_i z4 z5 z6 z7 z8 z9
    exact Holds.moveParity hs0
  · rename_i z10 z11 z12
    exact Holds.moveRegion hs0
  · rename_i z13 z14 z15
    exact Holds.moveRegion hs0
  · rename_i z16 z17 z18 z19 z20
    exact hs0

theorem Holds.programRefused {b0 : State} {b1 : Nat} {b2 : FlashOp} (hb0 : Holds w r b0) :
    Holds w r (State.programRefused b0 b1 b2) := by
  unfold State.programRefused
  split
  · rename_i z0 z1 z2 z3 z4 z5
    exact Holds.programFailed (Holds.dequeue hb0)
  · rename_i z6 z7 z8
    exact Holds.slcFailed (Holds.dequeue hb0)

theorem Holds.checkAndIssue {b0 : State} {b1 b2 : Nat} {b3 : FlashOp} (hb0 : Holds w r b0) :
    Holds w r (State.checkAndIssue b0 b1 b2 b3) := by
  unfold State.checkAndIssue
  extract_lets +onlyGivenNames code0
  refine Holds.ite ?_ ?_
  · extract_lets +onlyGivenNames first1 s2
    have hs2 : Holds w r s2 := Holds.ite (Holds.report hb0) (Holds.ite hb0 (Holds.refuse hb0))
    clear_value s2; revert s2; refine keep ?_; intro s2 hs2
    exact Holds.issueOp hs2
  refine Holds.ite (Holds.refuseRead hb0) ?_
  exact Holds.ite (Holds.refuse (Holds.dequeue hb0)) (Holds.programRefused (Holds.refuse hb0))

theorem Holds.countUnits {b0 : State} {b1 b2 : Nat} (hb0 : Holds w r b0) : Holds w r (State.countUnits b0 b1 b2) := by
  unfold State.countUnits
  exact Holds.inFlash hb0

theorem Holds.dumpChunkDone {b0 : State} {b1 : Nat} (hb0 : Holds w r b0) : Holds w r (State.dumpChunkDone b0 b1) := by
  unfold State.dumpChunkDone
  split
  · rename_i z0
    extract_lets +onlyGivenNames hash1
    exact Holds.inTrail hb0
  · rename_i z2
    exact Holds.inTrail hb0
  · rename_i z3 z4
    split
    · rename_i z5 z6
      exact hb0
    · rename_i z7 z8 z9
      exact Holds.inTrail hb0

theorem Holds.eraseSubst {b0 : State} {b1 b2 : Nat} (hb0 : Holds w r b0) : Holds w r (State.eraseSubst b0 b1 b2) := by
  unfold State.eraseSubst
  extract_lets +onlyGivenNames due0
  exact Holds.ite hb0 (Holds.ite (Holds.enqueue hb0) (Holds.each hb0 (fun t1 x3 h2 => Holds.enqueue h2)))

theorem Holds.eraseFailed {b0 : State} {b1 : Nat} {b2 : FlashOp} (hb0 : Holds w r b0) :
    Holds w r (State.eraseFailed b0 b1 b2) := by
  unfold State.eraseFailed
  extract_lets +onlyGivenNames at0 s1
  have hs1 : Holds w r s1 := Holds.report hb0
  clear_value s1; revert s1; refine keep ?_; intro s1 hs1
  refine Holds.ite ?_ ?_
  · refine Holds.each hs1 (fun t2 x4 h3 => ?_)
    extract_lets +onlyGivenNames x5
    refine Holds.ite (Holds.markRetired h3) ?_
    exact Holds.ite (Holds.retireRegion h3) (Holds.eraseSubst (Holds.retireBlock h3))
  extract_lets +onlyGivenNames r6 s7
  have hs7 : Holds w r s7 := Holds.retireRowDie hs1
  clear_value s7; revert s7; refine keep ?_; intro s7 hs7
  exact Holds.ite (Holds.inFlash hs7) hs7

theorem Holds.gateReport {b0 : State} {b1 : Nat} (hb0 : Holds w r b0) : Holds w r (State.gateReport b0 b1) := by
  unfold State.gateReport
  split
  · rename_i z0 z1
    exact hb0
  · rename_i z2 z3 z4
    refine Holds.ite hb0 ?_
    extract_lets +onlyGivenNames held5 s6 s7
    have hs7 : Holds w r s7 := Holds.inFlash hb0
    clear_value s7; revert s7; refine keep ?_; intro s7 hs7
    exact Holds.report hs7

theorem Holds.guardCheck {b0 : State} {b1 : Nat} {b2 : FlashOp} {b3 : Nat} (hb0 : Holds w r b0) :
    Holds w r (State.guardCheck b0 b1 b2 b3) := by
  unfold State.guardCheck
  refine Holds.ite hb0 ?_
  refine Holds.ite (Holds.reportTransient hb0) ?_
  split
  · rename_i z0 z1 z2 z3 z4
    exact Holds.modTag hb0
  · rename_i z5 z6 z7 z8
    exact Holds.ite (Holds.bump hb0) hb0
  · rename_i z9 z10 z11
    exact hb0

theorem Holds.passEnded {b0 : State} {b1 : Nat} {b2 : Bool} {b3 : FlashOp} (hb0 : Holds w r b0) :
    Holds w r (State.passEnded b0 b1 b2 b3) := by
  unfold State.passEnded
  extract_lets +onlyGivenNames s0
  have hs0 : Holds w r s0 := Holds.leaveBus hb0
  clear_value s0; revert s0; refine keep ?_; intro s0 hs0
  extract_lets +onlyGivenNames idle1
  have hidle1 : ∀ a0, Holds w r a0 → Holds w r (idle1 a0) := fun t2 h3 => Holds.modDie h3
  split
  · rename_i z4 z5 z6 z7
    refine Holds.ite (Holds.programFailed (hidle1 _ hs0)) ?_
    exact Holds.ite (Holds.modDie hs0) (Holds.unitDone (Holds.countUnits (hidle1 _ hs0)))
  · rename_i z8 z9
    exact hidle1 _ hs0

theorem Holds.readArrived {b0 : State} {b1 b2 : Nat} {b3 : List Nat} {b4 : Bool} (hb0 : Holds w r b0) :
    Holds w r (State.readArrived b0 b1 b2 b3 b4) := by
  unfold State.readArrived
  exact Holds.ite hb0 (Holds.modTag hb0)

theorem Holds.readLost {b0 : State} {b1 b2 : Nat} {b3 : List Nat} (hb0 : Holds w r b0) :
    Holds w r (State.readLost b0 b1 b2 b3) := by
  unfold State.readLost
  extract_lets +onlyGivenNames c0
  refine Holds.ite hb0 ?_
  extract_lets +onlyGivenNames s1
  have hs1 : Holds w r s1 := Holds.each hb0 (fun t2 x4 h3 => Holds.ite h3 (Holds.countLost (Holds.modBlk h3)))
  clear_value s1; revert s1; refine keep ?_; intro s1 hs1
  exact Holds.log (Holds.readArrived hs1)

theorem Holds.readElsewhere {b0 : State} {b1 : Nat} {b2 : FlashOp} (hb0 : Holds w r b0) :
    Holds w r (State.readElsewhere b0 b1 b2) := by
  unfold State.readElsewhere
  extract_lets +onlyGivenNames r0
  split
  · rename_i z1 z2 z3 z4 z5
    refine Holds.ite ?_ (Holds.readLost hb0)
    split
    · rename_i z6 z7 z8
      exact Holds.enqueue hb0
    · rename_i z9 z10
      exact Holds.readLost hb0
  · rename_i z11 z12
    exact hb0

theorem Holds.warn {b0 : State} {b1 b2 : Nat} (hb0 : Holds w r b0) : Holds w r (State.warn b0 b1 b2) := by
  unfold State.warn
  extract_lets +onlyGivenNames st0
  exact Holds.ite (Holds.inFlash hb0) hb0

theorem Holds.warnRow {b0 : State} {b1 : Nat} {b2 : RowRef} (hb0 : Holds w r b0) :
    Holds w r (State.warnRow b0 b1 b2) := by
  unfold State.warnRow
  exact Holds.ite hb0 (Holds.inFlash hb0)

theorem Holds.readReturned {b0 : State} {b1 : Nat} {b2 : FlashOp} {b3 : ReadReturn} (hb0 : Holds w r b0) :
    Holds w r (State.readReturned b0 b1 b2 b3) := by
  unfold State.readReturned
  extract_lets +onlyGivenNames d0 cbc1 warning2 s3
  have hs3 : Holds w r s3 := Holds.modDie (Holds.leaveBus hb0)
  clear_value s3; revert s3; refine keep ?_; intro s3 hs3
  extract_lets +onlyGivenNames s4
  have hs4 : Holds w r s4 := Holds.emit hs3
  clear_value s4; revert s4; refine keep ?_; intro s4 hs4
  extract_lets +onlyGivenNames s5
  have hs5 : Holds w r s5 := Holds.ite (Holds.bump hs4) hs4
  clear_value s5; revert s5; refine keep ?_; intro s5 hs5
  extract_lets +onlyGivenNames row6 x7 s8
  refine cut (P := Holds w r s8) ?_ fun hs8 => ?_
  · unfold s8
    split
    · rename_i z9 z10 z11
      exact Holds.ite (Holds.warn hs5) hs5
    · rename_i z12 z13
      exact Holds.ite (Holds.warnRow hs5) hs5
  clear_value s8; revert s8; refine keep ?_; intro s8 hs8
  extract_lets +onlyGivenNames s14
  have hs14 : Holds w r s14 := Holds.guardCheck hs8
  clear_value s14; revert s14; refine keep ?_; intro s14 hs14
  split
  · rename_i z15 z16 z17 z18 z19
    exact Holds.ite (Holds.readLost hs14) (Holds.readArrived hs14)
  · rename_i z20 z21 z22
    exact Holds.driveWaiting hs14
  · rename_i z23 z24 z25
    exact hs14

theorem Holds.refuseAbsent {b0 : State} {b1 : Nat} {b2 : FlashOp} (hb0 : Holds w r b0) :
    Holds w r (State.refuseAbsent b0 b1 b2) := by
  unfold State.refuseAbsent
  extract_lets +onlyGivenNames s0
  have hs0 : Holds w r s0 := Holds.dequeue hb0
  clear_value s0; revert s0; refine keep ?_; intro s0 hs0
  refine Holds.ite (Holds.readElsewhere (Holds.refuse hs0)) ?_
  extract_lets +onlyGivenNames s1
  have hs1 : Holds w r s1 := Holds.refuse hs0
  clear_value s1; revert s1; refine keep ?_; intro s1 hs1
  split
  · rename_i z2 z3 z4 z5 z6 z7
    exact Holds.ite (Holds.unitDone hs1) hs1
  · rename_i z8 z9 z10
    exact Holds.readRefused hs1
  · rename_i z11 z12 z13
    exact Holds.readRefused hs1
  · rename_i z14 z15 z16 z17 z18
    exact hs1

theorem Holds.regionErased {b0 : State} (hb0 : Holds w r b0) : Holds w r (State.regionErased b0) := by
  unfold State.regionErased
  exact Holds.programFlushes (Holds.driveWaiting hb0)

theorem Holds.rowErased {b0 : State} {b1 : RowRef} (hb0 : Holds w r b0) : Holds w r (State.rowErased b0 b1) := by
  unfold State.rowErased
  refine Holds.ite ?_ hb0
  extract_lets +onlyGivenNames s0 s1
  have hs1 : Holds w r s1 := Holds.inFlash hb0
  clear_value s1; revert s1; refine keep ?_; intro s1 hs1
  exact Holds.resumeConv (Holds.modGroup hs1)

theorem Holds.slcEnded {b0 : State} {b1 : Nat} {b2 : Bool} {b3 : FlashOp} (hb0 : Holds w r b0) :
    Holds w r (State.slcEnded b0 b1 b2 b3) := by
  unfold State.slcEnded
  extract_lets +onlyGivenNames s0
  have hs0 : Holds w r s0 := Holds.modDie (Holds.leaveBus hb0)
  clear_value s0; revert s0; refine keep ?_; intro s0 hs0
  refine Holds.ite ?_ ?_
  · extract_lets +onlyGivenNames at1
    exact Holds.slcFailed (Holds.report hs0)
  extract_lets +onlyGivenNames n2 s3
  have hs3 : Holds w r s3 := Holds.ite hs0 (show HoldsP w r _ from HoldsP.takeSeq hs0)
  clear_value s3; revert s3; refine keep ?_; intro s3 hs3
  extract_lets +onlyGivenNames s4
  have hs4 : Holds w r s4 := Holds.setBlocks (Holds.countUnits hs3)
  clear_value s4; revert s4; refine keep ?_; intro s4 hs4
  split
  · rename_i z5 z6 z7 z8
    exact Holds.verifyCheck (Holds.wordlineCovered hs4)
  · rename_i z9 z10 z11
    exact Holds.dumpChunkDone hs4
  · rename_i z12 z13 z14
    exact hs4

theorem execBrownOutDetect_holds {b0 b1 : Nat} {b2 : State} (hb2 : Holds w r b2) :
    HoldsR w r (execBrownOutDetect b0 b1 b2) := by
  unfold execBrownOutDetect
  refine HoldsR.ite (HoldsR.next hb2) ?_
  extract_lets +onlyGivenNames s0
  have hs0 : Holds w r s0 := Holds.bump hb2
  clear_value s0; revert s0; refine keep ?_; intro s0 hs0
  extract_lets +onlyGivenNames cut1 s2 s3
  have hs3 : Holds w r s3 := Holds.inFlash hs0
  clear_value s3; revert s3; refine keep ?_; intro s3 hs3
  exact HoldsR.next (Holds.lifeBreak (Holds.gateReport hs3))

theorem execChannelRetrain_holds {b0 b1 : Nat} {b2 : Bool} {b3 : State} (hb3 : Holds w r b3) :
    HoldsR w r (execChannelRetrain b0 b1 b2 b3) := by
  unfold execChannelRetrain
  extract_lets +onlyGivenNames c0 busy1
  refine HoldsR.ite (HoldsR.next hb3) ?_
  extract_lets +onlyGivenNames s2 s3
  have hs3 : Holds w r s3 := Holds.inFlash hb3
  clear_value s3; revert s3; refine keep ?_; intro s3 hs3
  exact HoldsR.ite (HoldsR.next hs3) (HoldsR.next (Holds.report (Holds.inFlash hs3)))

theorem execDecodeLadderStep_holds {b0 b1 : Nat} {b2 : Bool} {b3 : State} (hb3 : Holds w r b3) :
    HoldsR w r (execDecodeLadderStep b0 b1 b2 b3) := by
  unfold execDecodeLadderStep
  extract_lets +onlyGivenNames d0
  split
  · rename_i z1 z2
    exact HoldsR.next hb3
  · rename_i z3 z4 z5
    refine HoldsR.ite (HoldsR.next hb3) ?_
    extract_lets +onlyGivenNames r6 addr7 rebuilt8 s9
    have hs9 : Holds w r s9 := Holds.modDie hb3
    clear_value s9; revert s9; refine keep ?_; intro s9 hs9
    refine HoldsR.next ?_
    split
    · rename_i z10
      exact Holds.ite hs9 (Holds.emit (Holds.bump hs9))
    · rename_i z11
      exact Holds.bump hs9
    · rename_i z12
      refine Holds.ite (Holds.reportTransient (Holds.bump hs9)) ?_
      extract_lets +onlyGivenNames s13
      have hs13 : Holds w r s13 := Holds.report (Holds.bump hs9)
      clear_value s13; revert s13; refine keep ?_; intro s13 hs13
      exact Holds.queueRow (Holds.setBlock hs13)
    · rename_i z14 z15 z16 z17
      exact Holds.ite (Holds.bump hs9) hs9

theorem execDeterministicWindowEntered_holds {b0 : Nat} {b1 : State} (hb1 : Holds w r b1) :
    HoldsR w r (execDeterministicWindowEntered b0 b1) := by
  unfold execDeterministicWindowEntered
  split
  · rename_i z0 z1
    exact HoldsR.next hb1
  · rename_i z2 z3 z4 z5
    extract_lets +onlyGivenNames busy6
    refine HoldsR.ite (HoldsR.next hb1) ?_
    extract_lets +onlyGivenNames s7
    refine cut (P := Holds w r s7) ?_ fun hs7 => ?_
    · unfold s7
      refine Holds.each hb1 (fun t8 x10 h9 => ?_)
      split
      · rename_i z11 z12 z13
        extract_lets +onlyGivenNames s14
        have hs14 : Holds w r s14 := Holds.modDie h9
        clear_value s14; revert s14; refine keep ?_; intro s14 hs14
        exact Holds.setBlocks hs14
      · rename_i z15 z16
        exact h9
    clear_value s7; revert s7; refine keep ?_; intro s7 hs7
    extract_lets +onlyGivenNames s17
    have hs17 : Holds w r s17 := Holds.takeCfg hs7
    clear_value s17; revert s17; refine keep ?_; intro s17 hs17
    extract_lets +onlyGivenNames units18 s19
    have hs19 : Holds w r s19 := Holds.modDieSet hs17
    clear_value s19; revert s19; refine keep ?_; intro s19 hs19
    exact HoldsR.next (Holds.adminCqe hs19)

theorem execDieOperationIssue_holds {b0 b1 : Nat} {b2 : State} (hb2 : Holds w r b2) :
    HoldsR w r (execDieOperationIssue b0 b1 b2) := by
  unfold execDieOperationIssue
  extract_lets +onlyGivenNames d0
  refine HoldsR.next ?_
  refine Holds.ite (Holds.refuse hb2) ?_
  split
  · rename_i z1 z2
    exact hb2
  · rename_i z3 z4 z5
    refine Holds.ite (Holds.refuseAbsent hb2) ?_
    refine Holds.ite ?_ (Holds.checkAndIssue hb2)
    extract_lets +onlyGivenNames s6
    have hs6 : Holds w r s6 := Holds.countRefusal hb2
    clear_value s6; revert s6; refine keep ?_; intro s6 hs6
    split
    · rename_i z7 z8 z9
      exact Holds.checkAndIssue hs6
    · rename_i z10 z11
      exact hs6

theorem execDtwinMaxExpiry_holds {b0 : Nat} {b1 : State} (hb1 : Holds w r b1) :
    HoldsR w r (execDtwinMaxExpiry b0 b1) := by
  unfold execDtwinMaxExpiry
  exact HoldsR.next (Holds.endWindow hb1)

theorem execEraseComplete_holds {b0 : Nat} {b1 : Bool} {b2 : State} (hb2 : Holds w r b2) :
    HoldsR w r (execEraseComplete b0 b1 b2) := by
  unfold execEraseComplete
  extract_lets +onlyGivenNames d0
  split
  · rename_i z1 z2
    exact HoldsR.next hb2
  · rename_i z3 z4 z5
    refine HoldsR.ite (HoldsR.next hb2) ?_
    extract_lets +onlyGivenNames s6
    have hs6 : Holds w r s6 := Holds.modDie hb2
    clear_value s6; revert s6; refine keep ?_; intro s6 hs6
    extract_lets +onlyGivenNames s7
    have hs7 : Holds w r s7 := Holds.setBlocks hs6
    clear_value s7; revert s7; refine keep ?_; intro s7 hs7
    extract_lets +onlyGivenNames s8
    refine cut (P := Holds w r s8) ?_ fun hs8 => ?_
    · unfold s8
      refine Holds.ite ?_ (Holds.eraseFailed hs6)
      exact Holds.ite (Holds.rowErased hs7) (Holds.regionErased (Holds.refreshSpares hs7))
    clear_value s8; revert s8; refine keep ?_; intro s8 hs8
    exact HoldsR.next (Holds.gateReport hs8)

theorem execEraseResume_holds {b0 : Nat} {b1 : Bool} {b2 : State} (hb2 : Holds w r b2) :
    HoldsR w r (execEraseResume b0 b1 b2) := by
  unfold execEraseResume
  extract_lets +onlyGivenNames s0
  have hs0 : Holds w r s0 := Holds.ite (Holds.modDie hb2) hb2
  clear_value s0; revert s0; refine keep ?_; intro s0 hs0
  extract_lets +onlyGivenNames d1
  split
  · rename_i z2 z3
    exact HoldsR.next hs0
  · rename_i z4 z5 z6
    refine HoldsR.ite ?_ ?_
    · extract_lets +onlyGivenNames s7
      have hs7 : Holds w r s7 := Holds.modDie hs0
      clear_value s7; revert s7; refine keep ?_; intro s7 hs7
      exact HoldsR.next (Holds.setBlocks hs7)
    exact HoldsR.ite (HoldsR.next (Holds.modDie hs0)) (HoldsR.next hs0)

theorem execEraseSuspendComplete_holds {b0 : Nat} {b1 : State} (hb1 : Holds w r b1) :
    HoldsR w r (execEraseSuspendComplete b0 b1) := by
  unfold execEraseSuspendComplete
  extract_lets +onlyGivenNames d0
  split
  · rename_i z1 z2
    exact HoldsR.next hb1
  · rename_i z3 z4 z5
    refine HoldsR.ite (HoldsR.next hb1) ?_
    extract_lets +onlyGivenNames s6
    have hs6 : Holds w r s6 := Holds.modDie hb1
    clear_value s6; revert s6; refine keep ?_; intro s6 hs6
    extract_lets +onlyGivenNames s7
    have hs7 : Holds w r s7 := Holds.setBlocks hs6
    clear_value s7; revert s7; refine keep ?_; intro s7 hs7
    exact HoldsR.next (Holds.gateReport hs7)

theorem execEraseSuspendRequest_holds {b0 : Nat} {b1 : State} (hb1 : Holds w r b1) :
    HoldsR w r (execEraseSuspendRequest b0 b1) := by
  unfold execEraseSuspendRequest
  extract_lets +onlyGivenNames d0
  refine HoldsR.ite (HoldsR.next hb1) ?_
  exact HoldsR.ite (HoldsR.next (Holds.modDie hb1)) (HoldsR.ite (HoldsR.next (Holds.modDie hb1)) (HoldsR.next hb1))

theorem execNandReadComplete_holds {b0 : Nat} {b1 : ReadReturn} {b2 : State} (hb2 : Holds w r b2) :
    HoldsR w r (execNandReadComplete b0 b1 b2) := by
  unfold execNandReadComplete
  split
  · rename_i z0 z1
    exact HoldsR.next hb2
  · rename_i z2 z3 z4
    refine HoldsR.ite (HoldsR.next hb2) ?_
    extract_lets +onlyGivenNames s5
    have hs5 : Holds w r s5 := Holds.askBus hb2
    clear_value s5; revert s5; refine keep ?_; intro s5 hs5
    exact HoldsR.next (Holds.ite (Holds.readReturned hs5) hs5)

theorem execOperationAging_holds {b0 b1 : Nat} {b2 : Bool} {b3 : State} (hb3 : Holds w r b3) :
    HoldsR w r (execOperationAging b0 b1 b2 b3) := by
  unfold execOperationAging
  exact HoldsR.next (Holds.modDie hb3)

theorem execPulseGateReopen_holds {b0 : Nat} {b1 : State} (hb1 : Holds w r b1) :
    HoldsR w r (execPulseGateReopen b0 b1) := by
  unfold execPulseGateReopen
  refine HoldsR.ite (HoldsR.next hb1) ?_
  extract_lets +onlyGivenNames anew0
  exact HoldsR.next (Holds.inFlash hb1)

theorem execQlcNextPassStart_holds {b0 : Nat} {b1 : State} (hb1 : Holds w r b1) :
    HoldsR w r (execQlcNextPassStart b0 b1) := by
  unfold execQlcNextPassStart
  extract_lets +onlyGivenNames d0 y1
  exact HoldsR.ite (HoldsR.next (Holds.modDie hb1)) (HoldsR.next hb1)

theorem execQlcPassComplete_holds {b0 : Nat} {b1 : Bool} {b2 : State} (hb2 : Holds w r b2) :
    HoldsR w r (execQlcPassComplete b0 b1 b2) := by
  unfold execQlcPassComplete
  extract_lets +onlyGivenNames d0
  split
  · rename_i z1 z2
    exact HoldsR.next hb2
  · rename_i z3 z4 z5
    exact HoldsR.ite (HoldsR.next hb2) (HoldsR.next (Holds.gateReport (Holds.passEnded hb2)))

theorem execSlcProgramComplete_holds {b0 : Nat} {b1 : Bool} {b2 : State} (hb2 : Holds w r b2) :
    HoldsR w r (execSlcProgramComplete b0 b1 b2) := by
  unfold execSlcProgramComplete
  extract_lets +onlyGivenNames d0
  split
  · rename_i z1 z2
    exact HoldsR.next hb2
  · rename_i z3 z4 z5
    exact HoldsR.ite (HoldsR.next hb2) (HoldsR.next (Holds.gateReport (Holds.slcEnded hb2)))

theorem Holds.flushForFence {b0 : State} (hb0 : Holds w r b0) : Holds w r (State.flushForFence b0) := by
  unfold State.flushForFence
  exact Holds.ite (Holds.flushNow hb0) hb0

theorem Holds.startFence {b0 : State} {b1 b2 : Nat} (hb0 : Holds w r b0) : Holds w r (State.startFence b0 b1 b2) := by
  unfold State.startFence
  extract_lets +onlyGivenNames s'0
  refine cut (P := Holds w r s'0) ?_ fun hs'0 => ?_
  · unfold s'0
    exact Holds.modFence (Holds.enterTree hb0)
  clear_value s'0; revert s'0; refine keep ?_; intro s'0 hs'0
  exact Holds.ite (Holds.flushNow hs'0) hs'0

theorem HoldsP.issueFence {b0 : State} {b1 b2 b3 b4 : Nat} {b5 : Bool} (hb0 : Holds w r b0) :
    HoldsP w r (State.issueFence b0 b1 b2 b3 b4 b5) := by
  unfold State.issueFence
  refine HoldsP.ite (HoldsP.mk (Holds.setReg hb0)) ?_
  extract_lets +onlyGivenNames id0 s1
  have hs1 : Holds w r s1 := Holds.modFport hb0
  clear_value s1; revert s1; refine keep ?_; intro s1 hs1
  extract_lets +onlyGivenNames s2
  have hs2 : Holds w r s2 := Holds.ite (Holds.setReg hs1) hs1
  clear_value s2; revert s2; refine keep ?_; intro s2 hs2
  refine HoldsP.ite (HoldsP.mk (Holds.endFence hs2)) ?_
  exact HoldsP.ite (HoldsP.mk (Holds.stall hs2)) (HoldsP.mk (Holds.startFence hs2))

theorem Holds.mgmtWrite {b0 : State} {b1 : Nat} {b2 : State → State} (hb0 : Holds w r b0)
    (hb2 : ∀ a0, Holds w r a0 → Holds w r (b2 a0)) :
    Holds w r (State.mgmtWrite b0 b1 b2) := by
  unfold State.mgmtWrite
  exact Holds.ite (Holds.setReg hb0) (hb2 _ hb0)

theorem Holds.resume {b0 : State} {b1 : Stalled} (hb0 : Holds w r b0) : Holds w r (State.resume b0 b1) := by
  unfold State.resume
  split
  · rename_i z0 z1 z2
    exact Holds.startFence hb0
  · rename_i z3 z4 z5 z6 z7
    extract_lets +onlyGivenNames st8
    refine Holds.ite (Holds.joinStop hb0) ?_
    exact Holds.ite (Holds.each hb0 (fun t9 x11 h10 => Holds.adminCqe h10)) (Holds.startStop (Holds.enterTree hb0))
  · rename_i z12 z13 z14 z15
    exact Holds.ite (Holds.startPause (Holds.enterTree hb0)) (Holds.adminCqe hb0)

theorem Holds.releaseStall {b0 : State} (hb0 : Holds w r b0) : Holds w r (State.releaseStall b0) := by
  unfold State.releaseStall
  split
  · rename_i z0 z1 z2 z3
    exact Holds.ite hb0 (Holds.resume (Holds.inWmk hb0))
  · rename_i z4 z5
    exact hb0

theorem Holds.bindTarget {b0 : State} {b1 : Nat} {b2 : RefireReq} {b3 : RowRef} (hb0 : Holds w r b0) :
    Holds w r (State.bindTarget b0 b1 b2 b3) := by
  unfold State.bindTarget
  extract_lets +onlyGivenNames s0
  have hs0 : Holds w r s0 := Holds.modGroup hb0
  clear_value s0; revert s0; refine keep ?_; intro s0 hs0
  extract_lets +onlyGivenNames g1
  exact Holds.ite (Holds.modDieSet (Holds.modRow hs0)) (Holds.modRow hs0)

theorem Holds.blkCapture {b0 : State} {b1 b2 b3 : Nat} (hb0 : Holds w r b0) :
    Holds w r (State.blkCapture b0 b1 b2 b3) := by
  unfold State.blkCapture
  refine Holds.ite hb0 ?_
  extract_lets +onlyGivenNames s0
  have hs0 : Holds w r s0 := Holds.setReg (Holds.setReg (Holds.setReg hb0))
  clear_value s0; revert s0; refine keep ?_; intro s0 hs0
  exact Holds.inFlash hs0

theorem HoldsOP.relTarget {b0 : State} {b1 : Nat} (hb0 : Holds w r b0) : HoldsOP w r (State.relTarget b0 b1) := by
  unfold State.relTarget
  extract_lets +onlyGivenNames n0
  split
  · rename_i z1 z2 z3
    exact HoldsOP.ite (HoldsOP.some hb0) HoldsOP.none
  · rename_i z4 z5
    refine HoldsOP.mapOP (HoldsOP.freshRow hb0) (fun x6 h7 => ?_)
    exact HoldsP.mk (Holds.modNs (Holds.modRow (show HoldsP w r _ from h7)))

theorem Holds.endRelRow {b0 : State} {b1 : Nat} (hb0 : Holds w r b0) : Holds w r (State.endRelRow b0 b1) := by
  unfold State.endRelRow
  split
  · rename_i z0 z1
    exact hb0
  · rename_i z2 z3 z4
    extract_lets +onlyGivenNames at5
    exact Holds.driveWaiting (Holds.modRow (Holds.modNs hb0))

theorem Holds.copyUnits {b0 : State} {b1 : Nat} {b2 : RowRef} {b3 b4 : Nat} {b5 : List (Nat × Nat)}
    (hb0 : Holds w r b0) :
    Holds w r (State.copyUnits b0 b1 b2 b3 b4 b5) := by
  induction b4 generalizing b0 b1 b2 b3 b5
  · unfold State.copyUnits
    exact hb0
  · rename_i nn ih
    unfold State.copyUnits
    split
    · rename_i z0 z1
      exact hb0
    · rename_i z2 z3 z4 z5
      have h6 := HoldsOP.of_eq (w := w) (r := r) z5 (HoldsOP.relTarget hb0)
      extract_lets +onlyGivenNames at7 room8 now9 job10 lbas11 ent12
      split
      · rename_i z13 z14 z15 z16
        have h17 := HoldsP.of_eq (w := w) (r := r) z16 (HoldsP.ite (HoldsP.mk h6) (HoldsP.insertEntry h6))
        extract_lets +onlyGivenNames s18 s19
        have hs19 : Holds w r s19 := Holds.inFlash h17
        clear_value s19; revert s19; refine keep ?_; intro s19 hs19
        extract_lets +onlyGivenNames s20
        have hs20 : Holds w r s20 := Holds.modDieSet hs19
        clear_value s20; revert s20; refine keep ?_; intro s20 hs20
        extract_lets +onlyGivenNames s21 s22
        have hs22 : Holds w r s22 := Holds.inSieve hs20
        clear_value s22; revert s22; refine keep ?_; intro s22 hs22
        extract_lets +onlyGivenNames s23
        have hs23 : Holds w r s23 := Holds.modNs hs22
        clear_value s23; revert s23; refine keep ?_; intro s23 hs23
        refine Holds.ite ?_ (Holds.driveTarget hs23)
        apply ih
        exact Holds.endRelRow hs23

theorem Holds.returnOps {b0 : State} {b1 : Nat} (hb0 : Holds w r b0) : Holds w r (State.returnOps b0 b1) := by
  unfold State.returnOps
  extract_lets +onlyGivenNames d0 ops1 s2
  have hs2 : Holds w r s2 := Holds.modDie (Holds.leaveBus hb0)
  clear_value s2; revert s2; refine keep ?_; intro s2 hs2
  refine Holds.each hs2 (fun t3 x5 h4 => ?_)
  split
  · rename_i z6 z7 z8
    exact Holds.readElsewhere h4
  · rename_i z9 z10 z11
    exact Holds.readElsewhere h4
  · rename_i z12 z13 z14 z15 z16 z17
    exact Holds.unitDone h4
  · rename_i z18 z19 z20
    exact Holds.moveRegion h4
  · rename_i z21 z22 z23
    exact Holds.moveRegion h4
  · rename_i z24 z25 z26
    exact Holds.ite (Holds.rowErased h4) h4
  · rename_i z27 z28 z29 z30 z31 z32 z33 z34
    exact h4

theorem Holds.replacePool {b0 : State} {b1 : Nat} (hb0 : Holds w r b0) : Holds w r (State.replacePool b0 b1) := by
  unfold State.replacePool
  refine Holds.each hb0 (fun t0 x2 h1 => ?_)
  extract_lets +onlyGivenNames r3 mine4 s5
  have hs5 : Holds w r s5 := Holds.each h1 (fun t6 x8 h7 => Holds.losePlace h7)
  clear_value s5; revert s5; refine keep ?_; intro s5 hs5
  exact Holds.ite hs5 (Holds.ite (Holds.inFlash hs5) (Holds.each hs5 (fun t9 x11 h10 => Holds.findPlace h10)))

theorem Holds.rekeep {b0 : State} {b1 b2 : Nat} (hb0 : Holds w r b0) : Holds w r (State.rekeep b0 b1 b2) := by
  unfold State.rekeep
  extract_lets +onlyGivenNames g0
  refine Holds.each hb0 (fun t1 x3 h2 => ?_)
  extract_lets +onlyGivenNames s4
  have hs4 : Holds w r s4 := Holds.each h2 (fun t5 x7 h6 => Holds.keptLost h6)
  clear_value s4; revert s4; refine keep ?_; intro s4 hs4
  exact Holds.ite (Holds.queueRow hs4) hs4

theorem Holds.rowAfterFailure {b0 : State} {b1 : RowRef} {b2 : Nat} {b3 : List Nat} (hb0 : Holds w r b0) :
    Holds w r (State.rowAfterFailure b0 b1 b2 b3) := by
  unfold State.rowAfterFailure
  extract_lets +onlyGivenNames x0
  refine Holds.ite (Holds.targetFailed hb0) ?_
  split
  · rename_i z1 z2 z3
    extract_lets +onlyGivenNames st4
    refine Holds.ite hb0 ?_
    refine Holds.ite ?_ ?_
    · exact Holds.queueRefire (Holds.loseUnits (Holds.controllerFinish hb0))
    refine Holds.ite ?_ hb0
    extract_lets +onlyGivenNames s5
    have hs5 : Holds w r s5 := Holds.loseUnits hb0
    clear_value s5; revert s5; refine keep ?_; intro s5 hs5
    extract_lets +onlyGivenNames s6
    have hs6 : Holds w r s6 := Holds.ite (Holds.readOnlyZone hs5) hs5
    clear_value s6; revert s6; refine keep ?_; intro s6 hs6
    exact Holds.queueRefire hs6
  · rename_i z7 z8
    refine Holds.ite hb0 ?_
    extract_lets +onlyGivenNames s9
    have hs9 : Holds w r s9 := Holds.each hb0 (fun t10 x12 h11 => Holds.endOpen h11)
    clear_value s9; revert s9; refine keep ?_; intro s9 hs9
    exact Holds.queueReloc (Holds.loseUnits hs9)

theorem Holds.dieFails {b0 : State} {b1 : Nat} (hb0 : Holds w r b0) : Holds w r (State.dieFails b0 b1) := by
  unfold State.dieFails
  extract_lets +onlyGivenNames d0
  refine Holds.ite hb0 ?_
  extract_lets +onlyGivenNames s1
  have hs1 : Holds w r s1 := Holds.bump (Holds.modDie hb0)
  clear_value s1; revert s1; refine keep ?_; intro s1 hs1
  extract_lets +onlyGivenNames s2
  have hs2 : Holds w r s2 := Holds.report hs1
  clear_value s2; revert s2; refine keep ?_; intro s2 hs2
  extract_lets +onlyGivenNames s3
  have hs3 : Holds w r s3 := Holds.returnOps (Holds.replacePool hs2)
  clear_value s3; revert s3; refine keep ?_; intro s3 hs3
  refine Holds.ite hs3 ?_
  extract_lets +onlyGivenNames others4 s5
  have hs5 : Holds w r s5 := Holds.modGroup hs3
  clear_value s5; revert s5; refine keep ?_; intro s5 hs5
  extract_lets +onlyGivenNames set6 rows7 s8
  have hs8 : Holds w r s8 := Holds.rekeep (Holds.each hs5 (fun t9 x11 h10 => Holds.rowAfterFailure h10))
  clear_value s8; revert s8; refine keep ?_; intro s8 hs8
  exact Holds.driveWaiting (Holds.reserveCheck (Holds.endWindow (Holds.ladder (Holds.coverShortfall hs8))))

theorem Holds.patrol {b0 : State} {b1 : RowRef} (hb0 : Holds w r b0) : Holds w r (State.patrol b0 b1) := by
  unfold State.patrol
  exact Holds.each hb0 (fun t0 x2 h1 => Holds.each h1 (fun t3 x5 h4 => Holds.enqueue h4))

theorem Holds.fiRow {b0 : State} {b1 : RowRef} (hb0 : Holds w r b0) : Holds w r (State.fiRow b0 b1) := by
  unfold State.fiRow
  extract_lets +onlyGivenNames x0 fi1 thr2
  refine Holds.ite hb0 ?_
  extract_lets +onlyGivenNames due3 s4
  have hs4 : Holds w r s4 := Holds.ite (Holds.patrol (Holds.modRow hb0)) hb0
  clear_value s4; revert s4; refine keep ?_; intro s4 hs4
  exact Holds.ite (Holds.queueRow hs4) hs4

theorem Holds.fiZone {b0 : State} {b1 b2 : Nat} {b3 : RowRef} (hb0 : Holds w r b0) :
    Holds w r (State.fiZone b0 b1 b2 b3) := by
  unfold State.fiZone
  extract_lets +onlyGivenNames x0 fi1 thr2
  refine Holds.ite hb0 ?_
  extract_lets +onlyGivenNames due3 s4
  have hs4 : Holds w r s4 := Holds.ite (Holds.patrol (Holds.modZone hb0)) hb0
  clear_value s4; revert s4; refine keep ?_; intro s4 hs4
  exact Holds.ite (Holds.queueRefire hs4) hs4

theorem Holds.modRefire {b0 : State} {b1 b2 : Nat} {b3 : Refire → Refire} (hb0 : Holds w r b0) :
    Holds w r (State.modRefire b0 b1 b2 b3) := by
  unfold State.modRefire
  exact Holds.modDieSet hb0

theorem Holds.readSource {b0 : State} {b1 : RowRef} (hb0 : Holds w r b0) : Holds w r (State.readSource b0 b1) := by
  unfold State.readSource
  exact Holds.ite hb0 (Holds.scanRow hb0)

theorem HoldsOP.refireEntry {b0 : State} {b1 : RefireReq} {b2 : Nat} (hb0 : Holds w r b0) :
    HoldsOP w r (State.refireEntry b0 b1 b2) := by
  unfold State.refireEntry
  refine HoldsOP.ite (HoldsOP.some hb0) ?_
  extract_lets +onlyGivenNames lo0 e1
  split
  · rename_i z2 z3 z4
    have h5 := HoldsP.of_eq (w := w) (r := r) z4 (HoldsP.insertEntry hb0)
    exact HoldsOP.none
  · rename_i z6 z7 z8 z9
    have h10 := HoldsP.of_eq (w := w) (r := r) z9 (HoldsP.insertEntry hb0)
    exact HoldsOP.some h10

theorem HoldsOP.refireTarget {b0 : State} {b1 : Nat} {b2 : RefireReq} (hb0 : Holds w r b0) :
    HoldsOP w r (State.refireTarget b0 b1 b2) := by
  unfold State.refireTarget
  split
  · rename_i z0 z1 z2
    exact HoldsOP.some hb0
  · rename_i z3 z4
    refine HoldsOP.ite HoldsOP.none ?_
    extract_lets +onlyGivenNames gs5
    split
    · rename_i z6 z7 z8
      exact HoldsOP.map (fun x9 => HoldsP.mk hb0)
    · rename_i z10 z11
      refine HoldsOP.ite HoldsOP.none ?_
      split
      · rename_i z12 z13
        exact HoldsOP.none
      · rename_i z14 z15 z16
        exact HoldsOP.some (Holds.modGroup hb0)

theorem Holds.releaseSource {b0 : State} {b1 b2 : Nat} {b3 : RowRef} (hb0 : Holds w r b0) :
    Holds w r (State.releaseSource b0 b1 b2 b3) := by
  unfold State.releaseSource
  extract_lets +onlyGivenNames mine0
  refine Holds.ite hb0 ?_
  extract_lets +onlyGivenNames s1
  have hs1 : Holds w r s1 := Holds.modDieSet hb0
  clear_value s1; revert s1; refine keep ?_; intro s1 hs1
  exact Holds.recycleRow (Holds.releaseParity hs1)

theorem Holds.switchKept {b0 : State} {b1 : Nat} {b2 : Refire} (hb0 : Holds w r b0) :
    Holds w r (State.switchKept b0 b1 b2) := by
  unfold State.switchKept
  exact Holds.releasePool (Holds.modDieSet hb0)

theorem Holds.verifyFailed {b0 : State} {b1 : RowRef} {b2 b3 : Nat} (hb0 : Holds w r b0) :
    Holds w r (State.verifyFailed b0 b1 b2 b3) := by
  unfold State.verifyFailed
  extract_lets +onlyGivenNames b0 s1
  have hs1 : Holds w r s1 := Holds.report hb0
  clear_value s1; revert s1; refine keep ?_; intro s1 hs1
  extract_lets +onlyGivenNames s2
  have hs2 : Holds w r s2 := Holds.setBlock hs1
  clear_value s2; revert s2; refine keep ?_; intro s2 hs2
  extract_lets +onlyGivenNames s3
  have hs3 : Holds w r s3 := Holds.modRow hs2
  clear_value s3; revert s3; refine keep ?_; intro s3 hs3
  refine Holds.ite (Holds.targetFailed hs3) ?_
  split
  · rename_i z4 z5 z6
    split
    · rename_i z7 z8 z9
      exact Holds.keptLost hs3
    · rename_i z10 z11
      exact hs3
  · rename_i z12 z13
    exact Holds.queueRow (Holds.repool hs3)

theorem Holds.verifyPassed {b0 : State} {b1 : RowRef} (hb0 : Holds w r b0) :
    Holds w r (State.verifyPassed b0 b1) := by
  unfold State.verifyPassed
  extract_lets +onlyGivenNames x0 s1
  have hs1 : Holds w r s1 := Holds.each hb0 (fun t2 x4 h3 => Holds.rowBlocks h3)
  clear_value s1; revert s1; refine keep ?_; intro s1 hs1
  extract_lets +onlyGivenNames s5
  have hs5 : Holds w r s5 := Holds.modRow hs1
  clear_value s5; revert s5; refine keep ?_; intro s5 hs5
  split
  · rename_i z6 z7 z8 z9
    exact Holds.modDieSet hs5
  · rename_i z10 z11
    split
    · rename_i z12 z13 z14
      split
      · rename_i z15 z16 z17
        exact Holds.keptPassed hs5
      · rename_i z18 z19
        exact hs5
    · rename_i z20 z21
      extract_lets +onlyGivenNames s22
      refine cut (P := Holds w r s22) ?_ fun hs22 => ?_
      · unfold s22
        split
        · rename_i z23 z24 z25 z26
          exact Holds.modDieSet hs5
        · rename_i z27 z28
          exact hs5
      clear_value s22; revert s22; refine keep ?_; intro s22 hs22
      extract_lets +onlyGivenNames s29
      have hs29 : Holds w r s29 := Holds.modRow hs22
      clear_value s29; revert s29; refine keep ?_; intro s29 hs29
      exact Holds.trailRec hs29

theorem execBlanketRelease_holds {b0 b1 : Nat} {b2 : State} (hb2 : Holds w r b2) :
    HoldsR w r (execBlanketRelease b0 b1 b2) := by
  unfold execBlanketRelease
  extract_lets +onlyGivenNames r0 x1
  exact HoldsR.next (Holds.ite hb2 (Holds.ite (Holds.startKeep hb2) (Holds.driveWaiting (Holds.releaseParity hb2))))

theorem execDieFailure_holds {b0 : Nat} {b1 : State} (hb1 : Holds w r b1) : HoldsR w r (execDieFailure b0 b1) := by
  unfold execDieFailure
  exact HoldsR.next (Holds.dieFails hb1)

theorem execEarlyWarningConfirm_holds {b0 b1 : Nat} {b2 : Bool} {b3 : State} (hb3 : Holds w r b3) :
    HoldsR w r (execEarlyWarningConfirm b0 b1 b2 b3) := by
  unfold execEarlyWarningConfirm
  refine HoldsR.ite (HoldsR.next hb3) ?_
  extract_lets +onlyGivenNames s0 s1
  have hs1 : Holds w r s1 := Holds.inFlash hb3
  refine HoldsR.ite (HoldsR.next (Holds.bump hs1)) ?_
  extract_lets +onlyGivenNames s2
  have hs2 : Holds w r s2 := Holds.bump hs1
  exact HoldsR.next (Holds.ite (Holds.queueRefire hs2) (Holds.queueRow hs2))

theorem execFbeMmBlkCapture_holds {b0 b1 b2 : Nat} {b3 : State} (hb3 : Holds w r b3) :
    HoldsR w r (execFbeMmBlkCapture b0 b1 b2 b3) := by
  unfold execFbeMmBlkCapture
  exact HoldsR.next (Holds.mgmtWrite hb3 (fun t0 h1 => Holds.blkCapture h1))

theorem execFiSummaryTimeout_holds {b0 : Nat} {b1 : State} (hb1 : Holds w r b1) :
    HoldsR w r (execFiSummaryTimeout b0 b1) := by
  unfold execFiSummaryTimeout
  refine HoldsR.ite (HoldsR.next hb1) ?_
  extract_lets +onlyGivenNames ea0 first1 s2 s3
  have hs3 : Holds w r s3 := Holds.inFlash hb1
  clear_value s3; revert s3; refine keep ?_; intro s3 hs3
  extract_lets +onlyGivenNames one4 s5 s6
  have hs6 : Holds w r s6 := Holds.inZone hs3
  clear_value s6; revert s6; refine keep ?_; intro s6 hs6
  exact HoldsR.next (Holds.ite (Holds.report hs6) hs6)

theorem execNandTemperatureSummary_holds {b0 : List (Nat × Nat)} {b1 : State} (hb1 : Holds w r b1) :
    HoldsR w r (execNandTemperatureSummary b0 b1) := by
  unfold execNandTemperatureSummary
  extract_lets +onlyGivenNames s0
  have hs0 : Holds w r s0 := Holds.takeCfg hb1
  clear_value s0; revert s0; refine keep ?_; intro s0 hs0
  extract_lets +onlyGivenNames ea1 s2 s3
  have hs3 : Holds w r s3 := Holds.inFlash hs0
  clear_value s3; revert s3; refine keep ?_; intro s3 hs3
  extract_lets +onlyGivenNames one4 s5 s6
  have hs6 : Holds w r s6 := Holds.inZone hs3
  clear_value s6; revert s6; refine keep ?_; intro s6 hs6
  extract_lets +onlyGivenNames zs7 s8
  have hs8 : Holds w r s8 := Holds.each hs6 (fun t9 x11 h10 => Holds.fiZone h10)
  clear_value s8; revert s8; refine keep ?_; intro s8 hs8
  extract_lets +onlyGivenNames rows12
  exact HoldsR.next (Holds.each hs8 (fun t13 x15 h14 => Holds.fiRow h14))

theorem execRefireOldRowRelease_holds {b0 : Nat} {b1 : State} (hb1 : Holds w r b1) :
    HoldsR w r (execRefireOldRowRelease b0 b1) := by
  unfold execRefireOldRowRelease
  split
  · rename_i z0 z1
    exact HoldsR.next hb1
  · rename_i z2 z3 z4 z5
    extract_lets +onlyGivenNames lo6 w7
    refine HoldsR.ite (HoldsR.next hb1) ?_
    extract_lets +onlyGivenNames s8
    have hs8 : Holds w r s8 := Holds.removeEntries (Holds.releaseRow (Holds.releaseParity hb1))
    clear_value s8; revert s8; refine keep ?_; intro s8 hs8
    extract_lets +onlyGivenNames s9
    have hs9 : Holds w r s9 := Holds.modDieSet hs8
    clear_value s9; revert s9; refine keep ?_; intro s9 hs9
    extract_lets +onlyGivenNames s10 s11 s12
    have hs12 : Holds w r s12 := Holds.upd (x := s9) hs9 rfl rfl rfl rfl rfl rfl rfl
    clear_value s12; revert s12; refine keep ?_; intro s12 hs12
    exact HoldsR.next (Holds.driveWaiting (Holds.log (Holds.bump hs12)))

theorem execRefireRetryTimer_holds {b0 b1 : Nat} {b2 : State} (hb2 : Holds w r b2) :
    HoldsR w r (execRefireRetryTimer b0 b1 b2) := by
  unfold execRefireRetryTimer
  extract_lets +onlyGivenNames d0
  split
  · rename_i z1 z2
    exact HoldsR.next hb2
  · rename_i z3 z4 z5
    exact HoldsR.next (Holds.queueRefire (Holds.modDieSet hb2))

theorem execRefireStart_holds {b0 : Nat} {b1 : State} (hb1 : Holds w r b1) : HoldsR w r (execRefireStart b0 b1) := by
  unfold execRefireStart
  refine HoldsR.next ?_
  split
  · rename_i z0 z1
    exact hb1
  · rename_i z2 z3 z4
    split
    · rename_i z5 z6
      exact hb1
    · rename_i z7 z8 z9 z10
      have h11 := HoldsOP.of_eq (w := w) (r := r) z10 (HoldsOP.refireTarget hb1)
      split
      · rename_i z12 z13
        exact hb1
      · rename_i z14 z15 z16 z17
        have h18 := HoldsOP.of_eq (w := w) (r := r) z17 (HoldsOP.refireEntry h11)
        extract_lets +onlyGivenNames job19 old20 s21
        have hs21 : Holds w r s21 := Holds.ite (Holds.endVerify h18) h18
        clear_value s21; revert s21; refine keep ?_; intro s21 hs21
        extract_lets +onlyGivenNames s22 s23 s24
        have hs24 : Holds w r s24 := Holds.upd (x := s21) hs21 rfl rfl rfl rfl rfl rfl rfl
        clear_value s24; revert s24; refine keep ?_; intro s24 hs24
        extract_lets +onlyGivenNames mine25 fails26 s27
        have hs27 : Holds w r s27 := Holds.modDieSet hs24
        clear_value s27; revert s27; refine keep ?_; intro s27 hs27
        exact Holds.driveWaiting (Holds.ite (Holds.bindTarget hs27) (Holds.scanRow (Holds.bindTarget hs27)))

theorem execRefireSwitch_holds {b0 : Nat} {b1 : State} (hb1 : Holds w r b1) :
    HoldsR w r (execRefireSwitch b0 b1) := by
  unfold execRefireSwitch
  split
  · rename_i z0 z1
    exact HoldsR.next hb1
  · rename_i z2 z3 z4 z5
    refine HoldsR.ite (HoldsR.next hb1) ?_
    refine HoldsR.ite (HoldsR.next (Holds.modRefire (Holds.switchKept hb1))) ?_
    extract_lets +onlyGivenNames t6 s7
    have hs7 : Holds w r s7 := Holds.modNs hb1
    clear_value s7; revert s7; refine keep ?_; intro s7 hs7
    extract_lets +onlyGivenNames s8
    have hs8 : Holds w r s8 := Holds.modZone hs7
    clear_value s8; revert s8; refine keep ?_; intro s8 hs8
    extract_lets +onlyGivenNames s9
    have hs9 : Holds w r s9 := Holds.trailRec (Holds.modRow hs8)
    clear_value s9; revert s9; refine keep ?_; intro s9 hs9
    extract_lets +onlyGivenNames s10
    have hs10 : Holds w r s10 := Holds.trailRec hs9
    clear_value s10; revert s10; refine keep ?_; intro s10 hs10
    exact HoldsR.next (Holds.modRefire hs10)

theorem execRefireTargetProgrammed_holds {b0 : Nat} {b1 : Option (List Nat)} {b2 : List Nat} {b3 : State}
    (hb3 : Holds w r b3) :
    HoldsR w r (execRefireTargetProgrammed b0 b1 b2 b3) := by
  unfold execRefireTargetProgrammed
  split
  · rename_i z0 z1
    exact HoldsR.next hb3
  · rename_i z2 z3 z4 z5
    extract_lets +onlyGivenNames t6
    refine HoldsR.ite (HoldsR.next hb3) ?_
    extract_lets +onlyGivenNames base7 new8 s9
    have hs9 : Holds w r s9 := Holds.each hb3 (fun t10 x12 h11 => Holds.modBlk h11)
    clear_value s9; revert s9; refine keep ?_; intro s9 hs9
    extract_lets +onlyGivenNames s13
    have hs13 : Holds w r s13 := Holds.ite hs9 (Holds.log (Holds.countLost hs9))
    clear_value s13; revert s13; refine keep ?_; intro s13 hs13
    extract_lets +onlyGivenNames s14
    refine cut (P := Holds w r s14) ?_ fun hs14 => ?_
    · unfold s14
      split
      · rename_i z15 z16
        exact Holds.log (Holds.countMismatch hs13)
      · rename_i z17
        exact hs13
    clear_value s14; revert s14; refine keep ?_; intro s14 hs14
    extract_lets +onlyGivenNames s18
    have hs18 : Holds w r s18 := Holds.modRow (Holds.queueTrailers hs14)
    clear_value s18; revert s18; refine keep ?_; intro s18 hs18
    exact HoldsR.next (Holds.modRefire hs18)

theorem execRelocationRetryTimer_holds {b0 b1 b2 : Nat} {b3 : State} (hb3 : Holds w r b3) :
    HoldsR w r (execRelocationRetryTimer b0 b1 b2 b3) := by
  unfold execRelocationRetryTimer
  extract_lets +onlyGivenNames d0 r1
  exact HoldsR.ite (HoldsR.next (Holds.queueReloc (Holds.modDieSet hb3))) (HoldsR.next hb3)

theorem execRelocationStart_holds {b0 : Nat} {b1 : State} (hb1 : Holds w r b1) :
    HoldsR w r (execRelocationStart b0 b1) := by
  unfold execRelocationStart
  extract_lets +onlyGivenNames d0 mine1
  refine HoldsR.ite (HoldsR.next hb1) ?_
  split
  · rename_i z2 z3 z4
    refine HoldsR.ite (HoldsR.next hb1) ?_
    extract_lets +onlyGivenNames fails5 s6
    have hs6 : Holds w r s6 := Holds.modDieSet hb1
    clear_value s6; revert s6; refine keep ?_; intro s6 hs6
    exact HoldsR.next (Holds.endRelRow (Holds.copyUnits (Holds.readSource hs6)))
  · rename_i z7 z8
    refine HoldsR.ite (HoldsR.next hb1) ?_
    split
    · rename_i z9 z10
      exact HoldsR.next hb1
    · rename_i z11 z12 z13
      exact HoldsR.ite (HoldsR.next hb1) (HoldsR.next (Holds.copyUnits (Holds.readSource hb1)))

theorem execRelocationSwitch_holds {b0 : Nat} {b1 : State} (hb1 : Holds w r b1) :
    HoldsR w r (execRelocationSwitch b0 b1) := by
  unfold execRelocationSwitch
  split
  · rename_i z0 z1
    exact HoldsR.next hb1
  · rename_i z2 z3 z4
    split
    · rename_i z5 z6
      exact HoldsR.next hb1
    · rename_i z7 z8 z9
      extract_lets +onlyGivenNames live10 s11
      have hs11 : Holds w r s11 := Holds.each hb1 (fun t12 x14 h13 => Holds.trailRec (Holds.modBlk h13))
      clear_value s11; revert s11; refine keep ?_; intro s11 hs11
      extract_lets +onlyGivenNames s15
      have hs15 : Holds w r s15 := Holds.removeEntries hs11
      clear_value s15; revert s15; refine keep ?_; intro s15 hs15
      extract_lets +onlyGivenNames s16
      have hs16 : Holds w r s16 := Holds.modDieSet hs15
      clear_value s16; revert s16; refine keep ?_; intro s16 hs16
      extract_lets +onlyGivenNames s17 s18
      have hs18 : Holds w r s18 := Holds.inSieve hs16
      clear_value s18; revert s18; refine keep ?_; intro s18 hs18
      exact HoldsR.next (Holds.releaseSource hs18)

theorem execTimestampWaitExpiry_holds {b0 : State} (hb0 : Holds w r b0) :
    HoldsR w r (execTimestampWaitExpiry b0) := by
  unfold execTimestampWaitExpiry
  exact HoldsR.next (Holds.ite hb0 (Holds.offUnknown hb0))

theorem execVerifyComplete_holds {b0 b1 : Nat} {b2 : VerifyReads} {b3 b4 : Nat} {b5 : State} (hb5 : Holds w r b5) :
    HoldsR w r (execVerifyComplete b0 b1 b2 b3 b4 b5) := by
  unfold execVerifyComplete
  extract_lets +onlyGivenNames r0
  refine HoldsR.ite (HoldsR.next hb5) ?_
  extract_lets +onlyGivenNames s1 s2
  have hs2 : Holds w r s2 := Holds.inFlash hb5
  clear_value s2; revert s2; refine keep ?_; intro s2 hs2
  refine HoldsR.next ?_
  refine Holds.ite (Holds.verifyPassed hs2) ?_
  exact Holds.ite (Holds.verifyPassed (Holds.reportTransient hs2)) (Holds.verifyFailed hs2)

/-- A restart keeps the Grave state where it is no cold power-on. -/
theorem Holds.restartOf {b0 : State} {b1 : Bool} (hw : b1 = true → ¬ w) (hb0 : Holds w r b0) :
    Holds w r (b0.restart b1) := by
  unfold State.restart
  extract_lets t
  refine cut (P := Holds w r t) ?_ fun ht => ?_
  · unfold t
    exact Holds.ite hb0 (Holds.abandonFences hb0)
  · refine ht.trans ⟨rfl, Nat.le_refl _, List.suffix_refl _, fun _ _ h => h, fun x => ?_, fun h => h, fun hc h => ?_⟩
    · show Tab.wf none (State.restartRegs t b1) = true
      unfold State.restartRegs
      split <;> exact Tab.wf_keep x
    · show (State.restartFault t b1).grave = true
      unfold State.restartFault
      split
      · exact absurd hc (hw ‹_›)
      · exact h

theorem Holds.restart {b0 : State} {b1 : Bool} (hb0 : Holds False r b0) : Holds False r (b0.restart b1) :=
  Holds.restartOf (fun _ h => h) hb0

/-- A controller reset keeps the Grave state (R453). -/
theorem Holds.controllerReset {b0 : State} (hb0 : Holds w r b0) : Holds w r b0.controllerReset :=
  Holds.restartOf (by simp) (Holds.restoreHashes hb0)

theorem Holds.beginDeviceReset {b0 : State} {b1 : Bool} (hb0 : Holds w r b0) :
    Holds w r (State.beginDeviceReset b0 b1) := by
  unfold State.beginDeviceReset
  refine Holds.ite hb0 ?_
  extract_lets +onlyGivenNames s0 s1 s2
  have hs2 : Holds w r s2 := Holds.upd (x := b0) hb0 rfl rfl rfl rfl rfl rfl rfl
  clear_value s2; revert s2; refine keep ?_; intro s2 hs2
  refine Holds.each (Holds.enterTree hs2) (fun t3 x5 h4 => ?_)
  extract_lets +onlyGivenNames kind6
  exact Holds.ite (Holds.joinStop h4) (Holds.startStop h4)

theorem Holds.ckptBegin {b0 : State} (hb0 : Holds w r b0) : Holds w r (State.ckptBegin b0) := by
  unfold State.ckptBegin
  extract_lets +onlyGivenNames seq0 s1
  have hs1 : Holds w r s1 := Holds.trailRec hb0
  clear_value s1; revert s1; refine keep ?_; intro s1 hs1
  extract_lets +onlyGivenNames s2
  have hs2 : Holds w r s2 := Holds.each hs1 (fun t3 x5 h4 => Holds.trailRec h4)
  clear_value s2; revert s2; refine keep ?_; intro s2 hs2
  extract_lets +onlyGivenNames s6 s7
  have hs7 : Holds w r s7 := Holds.trailRec hs2
  clear_value s7; revert s7; refine keep ?_; intro s7 hs7
  extract_lets +onlyGivenNames s8 s9
  refine cut (P := Holds w r s9) ?_ fun hs9 => ?_
  · unfold s9
    split
    · rename_i z10 z11 z12
      exact Holds.inTrail hs7
    · rename_i z13 z14
      exact hs2
  clear_value s9; revert s9; refine keep ?_; intro s9 hs9
  extract_lets +onlyGivenNames s15
  have hs15 : Holds w r s15 := Holds.trailRec hs9
  clear_value s15; revert s15; refine keep ?_; intro s15 hs15
  exact Holds.upd (x := s15) hs15 rfl rfl rfl rfl rfl rfl rfl

theorem Holds.releaseTrail {b0 : State} (hb0 : Holds w r b0) : Holds w r (State.releaseTrail b0) := by
  unfold State.releaseTrail
  extract_lets +onlyGivenNames old0 s1 s2
  have hs2 : Holds w r s2 := Holds.inFlash hb0
  clear_value s2; revert s2; refine keep ?_; intro s2 hs2
  exact Holds.each hs2 (fun t3 x5 h4 => Holds.releaseBlocks h4)

theorem Holds.ckptEnd {b0 : State} (hb0 : Holds w r b0) : Holds w r (State.ckptEnd b0) := by
  unfold State.ckptEnd
  extract_lets +onlyGivenNames s0
  have hs0 : Holds w r s0 := Holds.bump (Holds.releaseTrail hb0)
  clear_value s0; revert s0; refine keep ?_; intro s0 hs0
  exact Holds.upd (x := s0) hs0 rfl rfl rfl rfl rfl rfl rfl

theorem Holds.writePark {b0 : State} {b1 : List DUnit} (hb0 : Holds w r b0) : Holds w r (b0.writePark b1) := by
  unfold State.writePark
  extract_lets p s ds
  refine Holds.each (Holds.inFlash hb0) fun t c ht => ?_
  split
  · exact ht
  · rename_i e
    obtain ⟨k, -, e⟩ := List.exists_of_findSome?_eq_some e
    obtain ⟨y, hy, e⟩ := Option.map_eq_some_iff.1 e
    simp only [Prod.mk.injEq] at e
    obtain ⟨-, rfl⟩ := e
    have hy : Holds w r y.2 := HoldsOP.of_some hy (HoldsOP.regionNext ht)
    extract_lets u v
    have hu : Holds w r u := Holds.setBlocks hy
    exact Holds.inTrail (Holds.ite (Holds.modGroup hu) hu)

theorem Holds.park {b0 : State} (hb0 : Holds w r b0) : Holds w r (State.park b0) := by
  unfold State.park
  refine Holds.ite hb0 ?_
  extract_lets +onlyGivenNames seq0 s1
  have hs1 : Holds w r s1 := Holds.writePark hb0
  clear_value s1; revert s1; refine keep ?_; intro s1 hs1
  exact Holds.inTrail hs1

theorem Holds.mapAll {b0 : State} (hb0 : Holds w r b0) : Holds w r (State.mapAll b0) := by
  unfold State.mapAll
  exact Holds.each hb0 (fun t0 x2 h1 => Holds.mapUpdate h1)

theorem Holds.finishTrail {b0 : State} (hb0 : Holds w r b0) : Holds w r (State.finishTrail b0) := by
  unfold State.finishTrail
  extract_lets +onlyGivenNames mine0 ops1 s2
  have hs2 : Holds w r s2 := Holds.each hb0 (fun t3 x5 h4 => Holds.setBlocks h4)
  clear_value s2; revert s2; refine keep ?_; intro s2 hs2
  exact Holds.inFlash hs2

theorem Holds.releaseDump {b0 : State} {b1 : List Nat} (hb0 : Holds w r b0) :
    Holds w r (State.releaseDump b0 b1) := by
  unfold State.releaseDump
  refine Holds.each hb0 (fun t0 x2 h1 => ?_)
  extract_lets +onlyGivenNames now3 used4 s5
  have hs5 : Holds w r s5 := Holds.setBlocks h1
  clear_value s5; revert s5; refine keep ?_; intro s5 hs5
  exact Holds.each hs5 (fun t6 x8 h7 => Holds.enqueue h7)

theorem Holds.recDurable {b0 : State} {b1 : TrailRec} (hb0 : Holds w r b0) : Holds w r (State.recDurable b0 b1) := by
  unfold State.recDurable
  split
  · rename_i z0 z1 z2 z3 z4
    extract_lets +onlyGivenNames units5 s6
    have hs6 : Holds w r s6 := Holds.modExpo hb0
    clear_value s6; revert s6; refine keep ?_; intro s6 hs6
    exact Holds.releaseUnits hs6
  · rename_i z7 z8 z9 z10
    extract_lets +onlyGivenNames row11
    try clear_value row11
    split
    · rename_i z12 z13
      exact Holds.modRow hb0
    · rename_i z14
      exact hb0
  · rename_i z15 z16 z17 z18
    exact Holds.each hb0 (fun t19 x21 h20 => Holds.enqueue h20)
  · rename_i z22 z23 z24
    exact Holds.ite hb0 (Holds.enqueue hb0)
  · rename_i z25 z26
    exact Holds.inSieve hb0
  · rename_i z27 z28
    exact Holds.inTrail hb0
  · rename_i z29 z30
    extract_lets +onlyGivenNames s31
    have hs31 : Holds w r s31 := Holds.releaseDump (Holds.modGroup hb0)
    clear_value s31; revert s31; refine keep ?_; intro s31 hs31
    refine Holds.ite hs31 ?_
    extract_lets +onlyGivenNames s32
    have hs32 : Holds w r s32 := Holds.releaseDump hs31
    clear_value s32; revert s32; refine keep ?_; intro s32 hs32
    exact Holds.inTrail hs32
  · rename_i z33 z34 z35 z36 z37 z38 z39 z40
    exact hb0

theorem Holds.flushDurable {b0 : State} {b1 : Flush} (hb0 : Holds w r b0) : Holds w r (State.flushDurable b0 b1) := by
  unfold State.flushDurable
  extract_lets +onlyGivenNames s0
  have hs0 : Holds w r s0 := Holds.each hb0 (fun t1 x3 h2 => Holds.recDurable h2)
  clear_value s0; revert s0; refine keep ?_; intro s0 hs0
  exact Holds.inTrail hs0

theorem Holds.flushAll {b0 : State} (hb0 : Holds w r b0) : Holds w r (State.flushAll b0) := by
  unfold State.flushAll
  extract_lets +onlyGivenNames s0
  have hs0 : Holds w r s0 := Holds.finishTrail (Holds.cutFlush hb0)
  clear_value s0; revert s0; refine keep ?_; intro s0 hs0
  exact Holds.each hs0 (fun t1 x3 h2 => Holds.flushDurable h2)

theorem Holds.drainEnd {b0 : State} (hb0 : Holds w r b0) : Holds w r (State.drainEnd b0) := by
  unfold State.drainEnd
  extract_lets +onlyGivenNames s0
  have hs0 : Holds w r s0 := Holds.park (Holds.mapAll (Holds.flushAll hb0))
  clear_value s0; revert s0; refine keep ?_; intro s0 hs0
  extract_lets +onlyGivenNames s1
  have hs1 : Holds w r s1 := Holds.restoreHashes hs0
  clear_value s1; revert s1; refine keep ?_; intro s1 hs1
  extract_lets +onlyGivenNames s2
  have hs2 : Holds w r s2 := Holds.mapAll (Holds.flushAll (Holds.ckptBegin hs1))
  clear_value s2; revert s2; refine keep ?_; intro s2 hs2
  extract_lets +onlyGivenNames s3
  have hs3 : Holds w r s3 := Holds.ckptEnd (Holds.flushAll hs2)
  clear_value s3; revert s3; refine keep ?_; intro s3 hs3
  exact Holds.inTrail hs3

theorem Holds.tailDurable {b0 : State} (hb0 : Holds w r b0) : Holds w r (State.tailDurable b0) := by
  unfold State.tailDurable
  extract_lets +onlyGivenNames s0
  have hs0 : Holds w r s0 := Holds.ite hb0 (Holds.closeHalf hb0)
  clear_value s0; revert s0; refine keep ?_; intro s0 hs0
  exact Holds.each hs0 (fun t1 x3 h2 => Holds.flushDurable h2)

theorem Holds.avsRead {b0 : State} {b1 : AvsAnswer} {b2 : Bool} (hb0 : Holds w r b0) :
    Holds w r (State.avsRead b0 b1 b2) := by
  unfold State.avsRead
  extract_lets +onlyGivenNames s0
  refine cut (P := Holds w r s0) ?_ fun hs0 => ?_
  · unfold s0
    split
    · rename_i z1 z2
      exact Holds.emit hb0
    · rename_i z3 z4
      exact hb0
  clear_value s0; revert s0; refine keep ?_; intro s0 hs0
  exact Holds.ite hs0 (Holds.emit hs0)

theorem Holds.avsWrite {b0 : State} {b1 : Nat} {b2 : Bool} (hb0 : Holds w r b0) :
    Holds w r (State.avsWrite b0 b1 b2) := by
  unfold State.avsWrite
  exact Holds.emit (Holds.inPower hb0)

theorem Holds.avsSend {b0 : State} {b1 : Nat} (hb0 : Holds w r b0) : Holds w r (State.avsSend b0 b1) := by
  unfold State.avsSend
  exact Holds.avsWrite hb0

theorem Holds.coneStep {b0 : State} {b1 : Nat} (hb0 : Holds w r b0) : Holds w r (State.coneStep b0 b1) := by
  unfold State.coneStep
  exact Holds.ite hb0 (Holds.avsSend (Holds.inCone hb0))

theorem Holds.setDomains {b0 : State} {b1 : Nat} (hb0 : Holds w r b0) : Holds w r (State.setDomains b0 b1) := by
  unfold State.setDomains
  extract_lets +onlyGivenNames st930 ds1
  exact Holds.inPower hb0

theorem Holds.endEntry {b0 : State} (hb0 : Holds w r b0) : Holds w r (State.endEntry b0) := by
  unfold State.endEntry
  exact Holds.bump (Holds.setDomains (Holds.inPower hb0))

theorem Holds.noMaint {b0 : State} (hb0 : Holds w r b0) : Holds w r (State.noMaint b0) := by
  unfold State.noMaint
  exact Holds.inPower hb0

theorem Holds.setG {b0 : State} {b1 : Nat} (hb0 : Holds w r b0) : Holds w r (State.setG b0 b1) := by
  unfold State.setG
  exact Holds.inPower hb0

theorem Holds.endMaint {b0 : State} (hb0 : Holds w r b0) : Holds w r (State.endMaint b0) := by
  unfold State.endMaint
  exact Holds.noMaint (Holds.setG hb0)

theorem Holds.sendThrottle {b0 : State} (hb0 : Holds w r b0) : Holds w r (State.sendThrottle b0) := by
  unfold State.sendThrottle
  extract_lets +onlyGivenNames depth0
  exact Holds.post (Holds.inIntake hb0)

theorem Holds.enterOperational {b0 : State} {b1 : Nat} (hb0 : Holds w r b0) :
    Holds w r (State.enterOperational b0 b1) := by
  unfold State.enterOperational
  extract_lets +onlyGivenNames s0 s1
  have hs1 : Holds w r s1 := Holds.inPower hb0
  clear_value s1; revert s1; refine keep ?_; intro s1 hs1
  extract_lets +onlyGivenNames s2
  have hs2 : Holds w r s2 := Holds.ite (Holds.takeCfg hs1) hs1
  clear_value s2; revert s2; refine keep ?_; intro s2 hs2
  exact Holds.sendThrottle (Holds.setG hs2)

theorem Holds.noBackoff {b0 : State} (hb0 : Holds w r b0) : Holds w r (State.noBackoff b0) := by
  unfold State.noBackoff
  exact Holds.inPower hb0

theorem Holds.voteRefused {b0 : State} {b1 b2 b3 : Nat} (hb0 : Holds w r b0) :
    Holds w r (State.voteRefused b0 b1 b2 b3) := by
  unfold State.voteRefused
  extract_lets +onlyGivenNames s0
  have hs0 : Holds w r s0 := Holds.setReg (Holds.setReg (Holds.setReg (Holds.setReg hb0)))
  clear_value s0; revert s0; refine keep ?_; intro s0 hs0
  extract_lets +onlyGivenNames s1
  have hs1 : Holds w r s1 := Holds.log (Holds.bump hs0)
  clear_value s1; revert s1; refine keep ?_; intro s1 hs1
  extract_lets +onlyGivenNames n2
  exact Holds.ite (Holds.report (Holds.inPower hs1)) (Holds.inPower hs1)

theorem Holds.stopVoted {b0 : State} (hb0 : Holds w r b0) : Holds w r (State.stopVoted b0) := by
  unfold State.stopVoted
  exact Holds.ite (Holds.setDomains hb0) (Holds.inPower hb0)

theorem Holds.entryStart {b0 : State} {b1 : Nat} {b2 : Option (Nat × Nat)} (hb0 : Holds w r b0) :
    Holds w r (State.entryStart b0 b1 b2) := by
  unfold State.entryStart
  refine Holds.ite hb0 ?_
  extract_lets +onlyGivenNames s0
  have hs0 : Holds w r s0 := Holds.takeCfg (Holds.takeCfg hb0)
  clear_value s0; revert s0; refine keep ?_; intro s0 hs0
  extract_lets +onlyGivenNames s1
  have hs1 : Holds w r s1 := Holds.park (Holds.mapAll (Holds.flushAll hs0))
  clear_value s1; revert s1; refine keep ?_; intro s1 hs1
  extract_lets +onlyGivenNames s2
  have hs2 : Holds w r s2 := Holds.postBack (Holds.post (Holds.flushAll (Holds.noBackoff (Holds.trailRec hs1))))
  clear_value s2; revert s2; refine keep ?_; intro s2 hs2
  split
  · rename_i z3 z4 z5 z6
    exact Holds.voteRefused hs2
  · rename_i z7 z8
    split
    · rename_i z9 z10 z11 z12
      have h13 := HoldsP.of_eq (w := w) (r := r) z12 (HoldsP.issueFence hs2)
      extract_lets +onlyGivenNames s14
      have hs14 : Holds w r s14 := Holds.endFence h13
      clear_value s14; revert s14; refine keep ?_; intro s14 hs14
      exact Holds.stopVoted (Holds.inPower hs14)

theorem Holds.exitStart {b0 : State} {b1 : Nat} (hb0 : Holds w r b0) : Holds w r (State.exitStart b0 b1) := by
  unfold State.exitStart
  extract_lets +onlyGivenNames s0
  have hs0 : Holds w r s0 := Holds.ite hb0 (Holds.setReg hb0)
  clear_value s0; revert s0; refine keep ?_; intro s0 hs0
  exact Holds.avsSend (Holds.inPower hs0)

theorem Holds.wake {b0 : State} {b1 : Nat} (hb0 : Holds w r b0) : Holds w r (State.wake b0 b1) := by
  unfold State.wake
  split
  · rename_i z0 z1 z2
    exact Holds.endEntry hb0
  · rename_i z3 z4
    refine Holds.ite hb0 ?_
    split
    · rename_i z5 z6 z7 z8
      extract_lets +onlyGivenNames s9
      have hs9 : Holds w r s9 := Holds.ite hb0 (Holds.setReg hb0)
      clear_value s9; revert s9; refine keep ?_; intro s9 hs9
      exact Holds.inPower hs9
    · rename_i z10 z11 z12 z13 z14
      exact hb0
    · rename_i z15 z16 z17 z18 z19
      extract_lets +onlyGivenNames s20
      have hs20 : Holds w r s20 := Holds.endMaint hb0
      clear_value s20; revert s20; refine keep ?_; intro s20 hs20
      exact Holds.ltrUpdate (Holds.inPower hs20)
    · rename_i z21 z22 z23 z24
      exact Holds.exitStart hb0

theorem Holds.hostAccess {b0 : State} (hb0 : Holds w r b0) : Holds w r (State.hostAccess b0) := by
  unfold State.hostAccess
  exact Holds.ite hb0 (Holds.wake hb0)

theorem Holds.startInterior {b0 : State} (hb0 : Holds w r b0) : Holds w r (State.startInterior b0) := by
  unfold State.startInterior
  extract_lets +onlyGivenNames s0
  have hs0 : Holds w r s0 := Holds.post (Holds.setDomains hb0)
  clear_value s0; revert s0; refine keep ?_; intro s0 hs0
  extract_lets +onlyGivenNames heat1 groups2
  exact Holds.upd (x := s0) hs0 rfl rfl rfl rfl rfl rfl rfl

theorem Holds.stopInterior {b0 : State} {b1 : Nat} {b2 : Bool} (hb0 : Holds w r b0) :
    Holds w r (State.stopInterior b0 b1 b2) := by
  unfold State.stopInterior
  extract_lets +onlyGivenNames s0
  have hs0 : Holds w r s0 := Holds.emit (Holds.emit hb0)
  clear_value s0; revert s0; refine keep ?_; intro s0 hs0
  extract_lets +onlyGivenNames s1 s2
  have hs2 : Holds w r s2 := Holds.ite (Holds.inPower hs0) (Holds.report (Holds.bump (Holds.inPower hs0)))
  clear_value s2; revert s2; refine keep ?_; intro s2 hs2
  exact Holds.setDomains hs2

theorem Holds.updateG {b0 : State} (hb0 : Holds w r b0) : Holds w r (State.updateG b0) := by
  unfold State.updateG
  extract_lets +onlyGivenNames c0 p1 s2
  have hs2 : Holds w r s2 := Holds.ite hb0 (Holds.ite (Holds.setG hb0) (Holds.ite (Holds.setG hb0) hb0))
  clear_value s2; revert s2; refine keep ?_; intro s2 hs2
  exact Holds.inPower hs2

theorem Holds.wakePort {b0 : State} {b1 : Nat} (hb0 : Holds w r b0) : Holds w r (State.wakePort b0 b1) := by
  unfold State.wakePort
  split
  · rename_i z0 z1 z2
    exact Holds.endEntry hb0
  · rename_i z3 z4
    refine Holds.ite hb0 ?_
    extract_lets +onlyGivenNames s5
    have hs5 : Holds w r s5 := Holds.setReg hb0
    clear_value s5; revert s5; refine keep ?_; intro s5 hs5
    extract_lets +onlyGivenNames d6
    exact Holds.ite hs5 (Holds.upd (x := s5) hs5 rfl rfl rfl rfl rfl rfl rfl)

theorem Holds.closeOpenZones {b0 : State} (hb0 : Holds w r b0) : Holds w r (State.closeOpenZones b0) := by
  unfold State.closeOpenZones
  extract_lets +onlyGivenNames zs0
  exact Holds.each hb0 (fun t1 x3 h2 => Holds.trailRec (Holds.modZone h2))

theorem Holds.cutZone {b0 : State} {b1 b2 b3 : Nat} (hb0 : Holds w r b0) : Holds w r (State.cutZone b0 b1 b2 b3) := by
  unfold State.cutZone
  extract_lets +onlyGivenNames x0
  refine Holds.ite hb0 ?_
  extract_lets +onlyGivenNames full1 s2
  have hs2 : Holds w r s2 := Holds.modNs hb0
  clear_value s2; revert s2; refine keep ?_; intro s2 hs2
  extract_lets +onlyGivenNames s3
  have hs3 : Holds w r s3 := Holds.modZone hs2
  clear_value s3; revert s3; refine keep ?_; intro s3 hs3
  split
  · rename_i z4 z5
    exact hs3
  · rename_i z6 z7 z8
    extract_lets +onlyGivenNames u9
    exact Holds.modRow hs3

theorem Holds.eraseRegions {b0 : State} (hb0 : Holds w r b0) : Holds w r (State.eraseRegions b0) := by
  unfold State.eraseRegions
  exact Holds.each hb0 (fun t0 x2 h1 => Holds.enqueue h1)

theorem Holds.holdRestored {b0 : State} {b1 : Expo} (hb0 : Holds w r b0) : Holds w r (State.holdRestored b0 b1) := by
  unfold State.holdRestored
  exact show HoldsP w r _ from HoldsP.insertEntry hb0

theorem Holds.loseBlocks {b0 : State} {b1 : Expo} {b2 : List XBlk} (hb0 : Holds w r b0) :
    Holds w r (State.loseBlocks b0 b1 b2) := by
  unfold State.loseBlocks
  refine Holds.ite hb0 ?_
  extract_lets +onlyGivenNames s0
  have hs0 : Holds w r s0 := Holds.each hb0 (fun t1 x3 h2 => Holds.setMap h2)
  clear_value s0; revert s0; refine keep ?_; intro s0 hs0
  extract_lets +onlyGivenNames s4
  have hs4 : Holds w r s4 := Holds.log (Holds.countLost hs0)
  clear_value s4; revert s4; refine keep ?_; intro s4 hs4
  exact Holds.inMgmt hs4

theorem Holds.mapFound {b0 : State} {b1 : Expo} {b2 : List DUnit} {b3 : XBlk} (hb0 : Holds w r b0) :
    Holds w r (State.mapFound b0 b1 b2 b3) := by
  unfold State.mapFound
  split
  · rename_i z0 z1 z2
    exact Holds.setMap hb0
  · rename_i z3 z4
    exact hb0

theorem Holds.revertZone {b0 : State} {b1 b2 : Nat} (hb0 : Holds w r b0) : Holds w r (State.revertZone b0 b1 b2) := by
  unfold State.revertZone
  extract_lets +onlyGivenNames old0 now1
  refine Holds.ite hb0 ?_
  extract_lets +onlyGivenNames s2
  refine cut (P := Holds w r s2) ?_ fun hs2 => ?_
  · unfold s2
    split
    · rename_i z3 z4 z5
      exact Holds.releaseRow hb0
    · rename_i z6 z7
      exact hb0
  clear_value s2; revert s2; refine keep ?_; intro s2 hs2
  extract_lets +onlyGivenNames s8
  refine cut (P := Holds w r s8) ?_ fun hs8 => ?_
  · unfold s8
    split
    · rename_i z9 z10 z11
      extract_lets +onlyGivenNames s12
      have hs12 : Holds w r s12 := Holds.modRow (Holds.modGroup hs2)
      clear_value s12; revert s12; refine keep ?_; intro s12 hs12
      exact Holds.inFlash hs12
    · rename_i z13 z14
      exact hs2
  clear_value s8; revert s8; refine keep ?_; intro s8 hs8
  extract_lets +onlyGivenNames entries15 s16
  have hs16 : Holds w r s16 := Holds.modNs hs8
  clear_value s16; revert s16; refine keep ?_; intro s16 hs16
  extract_lets +onlyGivenNames s17
  have hs17 : Holds w r s17 := Holds.each hs16 (fun t18 x20 h19 => Holds.modBlk h19)
  clear_value s17; revert s17; refine keep ?_; intro s17 hs17
  exact Holds.modZone hs17

theorem Holds.revertZones {b0 : State} (hb0 : Holds w r b0) : Holds w r (State.revertZones b0) := by
  unfold State.revertZones
  extract_lets +onlyGivenNames zs0
  refine Holds.each hb0 (fun t1 x3 h2 => ?_)
  extract_lets +onlyGivenNames s4
  have hs4 : Holds w r s4 := Holds.revertZone h2
  clear_value s4; revert s4; refine keep ?_; intro s4 hs4
  extract_lets +onlyGivenNames z5
  split
  · rename_i z6 z7 z8
    extract_lets +onlyGivenNames u9
    exact Holds.ite hs4 (Holds.cutZone hs4)
  · rename_i z10 z11
    exact hs4

theorem HoldsP.restoreBlock {b0 : State} {b1 : Expo} {b2 : List DUnit} {b3 : XBlk} (hb0 : Holds w r b0) :
    HoldsP w r (State.restoreBlock b0 b1 b2 b3) := by
  unfold State.restoreBlock
  extract_lets +onlyGivenNames g0
  split
  · rename_i z1 z2 z3 z4 z5
    have h6 := HoldsP.of_eq (w := w) (r := r) z5 (HoldsP.alloc hb0)
    extract_lets +onlyGivenNames u7
    exact HoldsP.mk (Holds.modUnit h6)
  · rename_i z8 z9 z10 z11 z12
    have h13 := HoldsP.of_eq (w := w) (r := r) z12 (HoldsP.alloc hb0)
    exact HoldsP.mk h13

theorem HoldsP.restoreBlocks {b0 : State} {b1 : Expo} {b2 : List DUnit} {b3 : List XBlk} (hb0 : Holds w r b0) :
    HoldsP w r (State.restoreBlocks b0 b1 b2 b3) := by
  induction b3 generalizing b0 b1 b2
  · unfold State.restoreBlocks
    exact HoldsP.mk hb0
  · rename_i hh nn ih
    unfold State.restoreBlocks
    extract_lets +onlyGivenNames r0
    have hr0 : HoldsP w r r0 := HoldsP.restoreBlock hb0
    clear_value r0; revert r0; refine keep ?_; intro r0 hr0
    extract_lets +onlyGivenNames q1
    refine cut (P := HoldsP w r q1) ?_ fun hq1 => ?_
    · unfold q1
      apply ih
      exact show HoldsP w r _ from hr0
    clear_value q1; revert q1; refine keep ?_; intro q1 hq1
    exact HoldsP.mk (show HoldsP w r _ from hq1)

theorem Holds.rebuildExpo {b0 : State} {b1 : List DUnit} {b2 : Bool} {b3 : Expo} (hb0 : Holds w r b0) :
    Holds w r (State.rebuildExpo b0 b1 b2 b3) := by
  unfold State.rebuildExpo
  refine Holds.ite hb0 ?_
  refine Holds.ite ?_ ?_
  · exact Holds.ite (Holds.each hb0 (fun t0 x2 h1 => Holds.setMap h1)) hb0
  extract_lets +onlyGivenNames posted3 z4 below5 keep6 lost7 s8
  have hs8 : Holds w r s8 := Holds.loseBlocks hb0
  clear_value s8; revert s8; refine keep ?_; intro s8 hs8
  refine Holds.ite ?_ (Holds.each hs8 (fun t17 x19 h18 => Holds.mapFound h18))
  extract_lets +onlyGivenNames s9
  have hs9 : Holds w r s9 := Holds.each hs8 (fun t10 x12 h11 => Holds.mapFound h11)
  clear_value s9; revert s9; refine keep ?_; intro s9 hs9
  extract_lets +onlyGivenNames l13
  have hl13 : HoldsP w r l13 := HoldsP.restoreBlocks hs9
  clear_value l13; revert l13; refine keep ?_; intro l13 hl13
  extract_lets +onlyGivenNames p14
  have hp14 : HoldsP w r p14 := HoldsP.restoreBlocks (show HoldsP w r _ from hl13)
  clear_value p14; revert p14; refine keep ?_; intro p14 hp14
  extract_lets +onlyGivenNames s15
  have hs15 : Holds w r s15 := show HoldsP w r _ from hp14
  clear_value s15; revert s15; refine keep ?_; intro s15 hs15
  extract_lets +onlyGivenNames y16
  exact Holds.ite hs15 (Holds.holdRestored (Holds.inTrail hs15))

theorem Holds.rebuildReports {b0 : State} {b1 : Nat} {b2 : Bool} {b3 : BootInfo} (hb0 : Holds w r b0) :
    Holds w r (State.rebuildReports b0 b1 b2 b3) := by
  unfold State.rebuildReports
  extract_lets +onlyGivenNames y0 s1
  have hs1 : Holds w r s1 := Holds.setReg hb0
  clear_value s1; revert s1; refine keep ?_; intro s1 hs1
  extract_lets +onlyGivenNames s2
  have hs2 : Holds w r s2 := Holds.setReg hs1
  clear_value s2; revert s2; refine keep ?_; intro s2 hs2
  extract_lets +onlyGivenNames s3
  have hs3 : Holds w r s3 := Holds.setReg hs2
  clear_value s3; revert s3; refine keep ?_; intro s3 hs3
  extract_lets +onlyGivenNames s4
  have hs4 : Holds w r s4 := Holds.ite (Holds.log hs3) hs3
  clear_value s4; revert s4; refine keep ?_; intro s4 hs4
  exact Holds.ite (Holds.report (Holds.inMgmt hs4)) hs4

theorem Holds.rebuild {b0 : State} {b1 : BootInfo} (hb0 : Holds w r b0) : Holds w r (State.rebuild b0 b1) := by
  unfold State.rebuild
  extract_lets +onlyGivenNames path0 known1 units2 next3 before4 unknown5 y6 told7 s8
  have hs8 : Holds w r s8 := Holds.ite (Holds.each hb0 (fun t9 x11 h10 => Holds.recDurable h10)) hb0
  clear_value s8; revert s8; refine keep ?_; intro s8 hs8
  extract_lets +onlyGivenNames tail12 s13
  have hs13 : Holds w r s13 := Holds.ite (Holds.restoreHashes hs8) hs8
  clear_value s13; revert s13; refine keep ?_; intro s13 hs13
  extract_lets +onlyGivenNames s14 s15
  have hs15 : Holds w r s15 := Holds.inTrail hs13
  clear_value s15; revert s15; refine keep ?_; intro s15 hs15
  extract_lets +onlyGivenNames s16
  have hs16 : Holds w r s16 := Holds.ite hs15 (Holds.revertZones hs15)
  clear_value s16; revert s16; refine keep ?_; intro s16 hs16
  extract_lets +onlyGivenNames zs17 cuts18 s19
  have hs19 : Holds w r s19 := Holds.each hs16 (fun t20 x22 h21 => Holds.cutZone h21)
  clear_value s19; revert s19; refine keep ?_; intro s19 hs19
  extract_lets +onlyGivenNames expos23 s24 s25 s26
  have hs26 : Holds w r s26 := Holds.upd (x := s19) hs19 rfl rfl rfl rfl rfl rfl rfl
  clear_value s26; revert s26; refine keep ?_; intro s26 hs26
  extract_lets +onlyGivenNames s27
  have hs27 : Holds w r s27 := Holds.each hs26 (fun t28 x30 h29 => Holds.rebuildExpo h29)
  clear_value s27; revert s27; refine keep ?_; intro s27 hs27
  extract_lets +onlyGivenNames lost31 s32
  have hs32 : Holds w r s32 := Holds.rebuildReports hs27
  clear_value s32; revert s32; refine keep ?_; intro s32 hs32
  extract_lets +onlyGivenNames wseq33 s34 s35 s36
  have hs36 : Holds w r s36 := Holds.upd (x := s32) hs32 rfl rfl rfl rfl rfl rfl rfl
  clear_value s36; revert s36; refine keep ?_; intro s36 hs36
  extract_lets +onlyGivenNames held37 groups38 s39 s40
  have hs40 : Holds w r s40 := Holds.inZone hs36
  clear_value s40; revert s40; refine keep ?_; intro s40 hs40
  extract_lets +onlyGivenNames s41
  have hs41 : Holds w r s41 := Holds.ite hs40 (Holds.releaseDump hs40)
  clear_value s41; revert s41; refine keep ?_; intro s41 hs41
  extract_lets +onlyGivenNames s42
  have hs42 : Holds w r s42 := Holds.ite (Holds.trailRec hs41) hs41
  clear_value s42; revert s42; refine keep ?_; intro s42 hs42
  exact Holds.closeOpenZones hs42

theorem Holds.reissueRow {b0 : State} {b1 : RowRef} (hb0 : Holds w r b0) : Holds w r (State.reissueRow b0 b1) := by
  unfold State.reissueRow
  extract_lets +onlyGivenNames x0 w1 units2 y3 s4
  have hs4 : Holds w r s4 := Holds.modRow hb0
  clear_value s4; revert s4; refine keep ?_; intro s4 hs4
  extract_lets +onlyGivenNames s5
  have hs5 : Holds w r s5 := Holds.each hs4 (fun t6 x8 h7 => Holds.eraseSubst h7)
  clear_value s5; revert s5; refine keep ?_; intro s5 hs5
  extract_lets +onlyGivenNames s9
  have hs9 : Holds w r s9 := Holds.each hs5 (fun t10 x12 h11 => Holds.queueUnit h11)
  clear_value s9; revert s9; refine keep ?_; intro s9 hs9
  extract_lets +onlyGivenNames s13
  have hs13 : Holds w r s13 := Holds.each hs9 (fun t14 x16 h15 => Holds.queueUnit h15)
  clear_value s13; revert s13; refine keep ?_; intro s13 hs13
  extract_lets +onlyGivenNames s17
  have hs17 : Holds w r s17 := Holds.each hs13 (fun t18 x20 h19 => Holds.parityCheck h19)
  clear_value s17; revert s17; refine keep ?_; intro s17 hs17
  extract_lets +onlyGivenNames copy21 s22
  have hs22 : Holds w r s22 := Holds.each hs17 (fun t23 x25 h24 => Holds.queueUnit h24)
  clear_value s22; revert s22; refine keep ?_; intro s22 hs22
  exact Holds.ite (Holds.scanRow hs22) (Holds.verifyCheck hs22)

theorem Holds.resumePrograms {b0 : State} (hb0 : Holds w r b0) : Holds w r (State.resumePrograms b0) := by
  unfold State.resumePrograms
  extract_lets +onlyGivenNames s0
  have hs0 : Holds w r s0 := Holds.eraseRegions (Holds.mendTorn hb0)
  clear_value s0; revert s0; refine keep ?_; intro s0 hs0
  extract_lets +onlyGivenNames out1 rows2 s3
  have hs3 : Holds w r s3 := Holds.each hs0 (fun t4 x6 h5 => Holds.reissueRow h5)
  clear_value s3; revert s3; refine keep ?_; intro s3 hs3
  extract_lets +onlyGivenNames s7
  refine cut (P := Holds w r s7) ?_ fun hs7 => ?_
  · unfold s7
    refine Holds.each hs3 (fun t8 x10 h9 => ?_)
    split
    · rename_i z11 z12 z13
      exact Holds.driveRow h9
    · rename_i z14 z15
      exact h9
  clear_value s7; revert s7; refine keep ?_; intro s7 hs7
  extract_lets +onlyGivenNames s16
  have hs16 : Holds w r s16 := Holds.each hs7 (fun t17 x19 h18 => Holds.trailRec h18)
  clear_value s16; revert s16; refine keep ?_; intro s16 hs16
  exact Holds.driveWaiting hs16

theorem Holds.computeArchive {b0 : State} (hb0 : Holds w r b0) : Holds w r (State.computeArchive b0) := by
  unfold State.computeArchive
  extract_lets +onlyGivenNames pages0
  exact Holds.inMgmt hb0

theorem Holds.countBins {b0 : State} (hb0 : Holds w r b0) : Holds w r (State.countBins b0) := by
  unfold State.countBins
  extract_lets +onlyGivenNames four0 since1 all2
  exact Holds.inMgmt hb0

theorem HoldsO.setThreshold {b0 : State} {b1 : Nat} {b2 : Bool} {b3 : Nat} (hb0 : Holds w r b0) :
    HoldsO w r (State.setThreshold b0 b1 b2 b3) := by
  unfold State.setThreshold
  extract_lets +onlyGivenNames sel0
  refine HoldsO.ite HoldsO.none ?_
  extract_lets +onlyGivenNames put1
  exact HoldsO.some (Holds.modInst hb0)

theorem Holds.afterLive {b0 : State} {b1 b2 : Nat} (hb0 : Holds w r b0) : Holds w r (State.afterLive b0 b1 b2) := by
  unfold State.afterLive
  refine Holds.ite ?_ (Holds.ite (Holds.settlePool (Holds.settlePool hb0)) hb0)
  extract_lets +onlyGivenNames ds0
  exact Holds.inPower hb0

theorem Holds.beforeLive {b0 : State} {b1 : Nat} (hb0 : Holds w r b0) : Holds w r (State.beforeLive b0 b1) := by
  unfold State.beforeLive
  exact Holds.ite (Holds.inPower hb0) hb0

theorem Holds.putField {b0 : State} {b1 b2 b3 : Nat} (hb0 : Holds w r b0) :
    Holds w r (State.putField b0 b1 b2 b3) := by
  unfold State.putField
  split
  · rename_i z0 z1
    exact hb0
  · rename_i z2 z3 z4
    split
    · rename_i z5 z6
      exact hb0
    · rename_i z7 z8
      exact Holds.afterLive (Holds.setCfg (Holds.beforeLive hb0))
    · rename_i z9 z10
      exact Holds.setCfg hb0
    · rename_i z11 z12 z13 z14
      exact Holds.upd (x := b0) hb0 rfl rfl rfl rfl rfl rfl rfl

theorem Holds.imageInForce {b0 : State} {b1 : List CfgRec} (hb0 : Holds w r b0) :
    Holds w r (State.imageInForce b0 b1) := by
  unfold State.imageInForce
  extract_lets +onlyGivenNames s0
  have hs0 : Holds w r s0 := Holds.post hb0
  clear_value s0; revert s0; refine keep ?_; intro s0 hs0
  extract_lets +onlyGivenNames left1 s2
  have hs2 : Holds w r s2 := Holds.upd (x := s0) hs0 rfl rfl rfl rfl rfl rfl rfl
  clear_value s2; revert s2; refine keep ?_; intro s2 hs2
  extract_lets +onlyGivenNames s3
  have hs3 : Holds w r s3 := Holds.each hs2 (fun t4 x6 h5 => Holds.putField h5)
  clear_value s3; revert s3; refine keep ?_; intro s3 hs3
  exact Holds.each hs3 (fun t7 x9 h8 => Holds.putField h8)

theorem HoldsQ.writeFields {b0 : State} {b1 : List CfgRec} (hb0 : Holds w r b0) :
    HoldsQ w r (State.writeFields b0 b1) := by
  unfold State.writeFields
  extract_lets +onlyGivenNames st0
  refine HoldsQ.ite (HoldsQ.mk hb0) ?_
  extract_lets +onlyGivenNames skipped1 s2
  have hs2 : Holds w r s2 := Holds.each hb0 (fun t3 x5 h4 => Holds.putField h4)
  clear_value s2; revert s2; refine keep ?_; intro s2 hs2
  extract_lets +onlyGivenNames s6
  have hs6 : Holds w r s6 := Holds.each hs2 (fun t7 x9 h8 => Holds.report h8)
  clear_value s6; revert s6; refine keep ?_; intro s6 hs6
  exact HoldsQ.mk hs6

theorem HoldsQ.cfgRequest {b0 : State} {b1 b2 : Nat} {b3 : CfgHeader} {b4 b5 b6 : Nat} {b7 : List CfgRec}
    {b8 : Chain} (hb0 : Holds w r b0) :
    HoldsQ w r (State.cfgRequest b0 b1 b2 b3 b4 b5 b6 b7 b8) := by
  unfold State.cfgRequest
  extract_lets +onlyGivenNames close0
  have hclose0 : ∀ a0, Holds w r a0 → Holds w r (close0 a0) := fun t1 h2 => Holds.inMgmt h2
  extract_lets +onlyGivenNames mine3 room4
  split
  · rename_i z5
    refine HoldsQ.ite (HoldsQ.mk hb0) ?_
    refine HoldsQ.ite (HoldsQ.mk hb0) ?_
    refine HoldsQ.ite (HoldsQ.mk hb0) ?_
    extract_lets +onlyGivenNames x6 slots7
    exact HoldsQ.mk (Holds.inMgmt hb0)
  · rename_i z8
    try clear_value close0
    try clear_value mine3
    try clear_value room4
    split
    · rename_i z9
      exact HoldsQ.mk hb0
    · rename_i z10 z11
      refine HoldsQ.ite (HoldsQ.mk hb0) ?_
      refine HoldsQ.ite (HoldsQ.mk hb0) ?_
      extract_lets +onlyGivenNames y12
      exact HoldsQ.mk (Holds.inMgmt hb0)
  · rename_i z13
    try clear_value close0
    try clear_value mine3
    try clear_value room4
    split
    · rename_i z14
      exact HoldsQ.mk hb0
    · rename_i z15 z16
      refine HoldsQ.ite (HoldsQ.mk (hclose0 _ hb0)) ?_
      refine HoldsQ.ite (HoldsQ.mk (hclose0 _ hb0)) ?_
      extract_lets +onlyGivenNames st17
      refine HoldsQ.ite (HoldsQ.mk (hclose0 _ hb0)) ?_
      extract_lets +onlyGivenNames k18 waiting19 slots20
      refine HoldsQ.ite (HoldsQ.mk (Holds.inMgmt hb0)) ?_
      extract_lets +onlyGivenNames s21 s22
      have hs22 : Holds w r s22 := Holds.inMgmt hb0
      clear_value s22; revert s22; refine keep ?_; intro s22 hs22
      exact HoldsQ.mk (Holds.imageInForce hs22)
  · rename_i z23
    try clear_value close0
    try clear_value mine3
    try clear_value room4
    split
    · rename_i z24
      exact HoldsQ.mk hb0
    · rename_i z25 z26
      exact HoldsQ.mk (hclose0 _ hb0)
  · rename_i z27
    exact HoldsQ.ite (HoldsQ.mk hb0) (HoldsQ.ite (HoldsQ.mk hb0) (HoldsQ.mk hb0))
  · rename_i z28
    refine HoldsQ.ite (HoldsQ.mk hb0) ?_
    extract_lets +onlyGivenNames r29
    have hr29 : HoldsQ w r r29 := HoldsQ.writeFields hb0
    clear_value r29; revert r29; refine keep ?_; intro r29 hr29
    exact HoldsQ.mk (show HoldsQ w r _ from hr29)
  · rename_i z30
    split
    · rename_i z31
      exact HoldsQ.mk (Holds.inZone hb0)
    · rename_i z32
      exact HoldsQ.mk (Holds.inZone hb0)
    · rename_i z33
      exact HoldsQ.mk (Holds.inZone hb0)
    · rename_i z34
      exact HoldsQ.mk (Holds.inZone hb0)
    · rename_i z35 z36 z37 z38 z39
      exact HoldsQ.mk hb0
  · rename_i z40 z41 z42 z43 z44 z45 z46 z47
    exact HoldsQ.mk hb0

theorem Holds.mbxAnswer {b0 : State} {b1 b2 : Nat} {b3 : List Nat} (hb0 : Holds w r b0) :
    Holds w r (State.mbxAnswer b0 b1 b2 b3) := by
  unfold State.mbxAnswer
  refine Holds.ite ?_ (Holds.emit hb0)
  extract_lets +onlyGivenNames at0 s1
  have hs1 : Holds w r s1 := Holds.ite hb0 (Holds.emit hb0)
  clear_value s1; revert s1; refine keep ?_; intro s1 hs1
  extract_lets +onlyGivenNames s2
  have hs2 : Holds w r s2 := Holds.setReg (Holds.setReg (Holds.setReg (Holds.setReg (Holds.setReg hs1))))
  clear_value s2; revert s2; refine keep ?_; intro s2 hs2
  exact Holds.ite (Holds.interrupt hs2) hs2

theorem HoldsR.mbxDo {b0 : State} {b1 : Nat} {b2 : State → Nat × List Nat × State} (hb0 : Holds w r b0)
    (hb2 : ∀ a0, Holds w r a0 → HoldsQ w r (b2 a0)) :
    HoldsR w r (State.mbxDo b0 b1 b2) := by
  unfold State.mbxDo
  refine HoldsR.ite (HoldsR.next hb0) ?_
  extract_lets +onlyGivenNames r0
  have hr0 : HoldsQ w r r0 := hb2 _ hb0
  clear_value r0; revert r0; refine keep ?_; intro r0 hr0
  exact HoldsR.next (Holds.mbxAnswer (show HoldsQ w r _ from hr0))

theorem Holds.setStaging {b0 : State} {b1 : Option Staging} (hb0 : Holds w r b0) :
    Holds w r (State.setStaging b0 b1) := by
  unfold State.setStaging
  exact Holds.upd (x := b0) hb0 rfl rfl rfl rfl rfl rfl rfl

theorem Holds.markSlot {b0 : State} {b1 b2 : Nat} (hb0 : Holds w r b0) : Holds w r (State.markSlot b0 b1 b2) := by
  unfold State.markSlot
  extract_lets +onlyGivenNames n0 slots1
  exact Holds.upd (x := b0) hb0 rfl rfl rfl rfl rfl rfl rfl

theorem Holds.setAttempts {b0 : State} {b1 : Nat} (hb0 : Holds w r b0) : Holds w r (State.setAttempts b0 b1) := by
  unfold State.setAttempts
  exact Holds.upd (x := b0) hb0 rfl rfl rfl rfl rfl rfl rfl

theorem Holds.makeTrial {b0 : State} {b1 : Nat} (hb0 : Holds w r b0) : Holds w r (State.makeTrial b0 b1) := by
  unfold State.makeTrial
  extract_lets +onlyGivenNames s0
  have hs0 : Holds w r s0 := Holds.ite (Holds.markSlot hb0) hb0
  clear_value s0; revert s0; refine keep ?_; intro s0 hs0
  exact Holds.setAttempts (Holds.markSlot hs0)

theorem Holds.writeSlot {b0 : State} {b1 : Nat} {b2 : FwHeader} {b3 : Chain} {b4 : Bool} (hb0 : Holds w r b0) :
    Holds w r (State.writeSlot b0 b1 b2 b3 b4) := by
  unfold State.writeSlot
  extract_lets +onlyGivenNames s0
  have hs0 : Holds w r s0 := Holds.postBack (Holds.post (Holds.markSlot hb0))
  clear_value s0; revert s0; refine keep ?_; intro s0 hs0
  extract_lets +onlyGivenNames slots1 s2 s3
  have hs3 : Holds w r s3 := Holds.upd (x := s0) hs0 rfl rfl rfl rfl rfl rfl rfl
  clear_value s3; revert s3; refine keep ?_; intro s3 hs3
  exact Holds.ite (Holds.makeTrial hs3) (Holds.markSlot hs3)

theorem HoldsP.commitStaged {b0 : State} {b1 b2 : Nat} {b3 : Bool} {b4 : Chain} (hb0 : Holds w r b0) :
    HoldsP w r (State.commitStaged b0 b1 b2 b3 b4) := by
  unfold State.commitStaged
  split
  · rename_i z0 z1
    exact HoldsP.mk hb0
  · rename_i z2 z3 z4
    refine HoldsP.ite (HoldsP.mk (Holds.setStaging hb0)) ?_
    refine HoldsP.ite (HoldsP.mk (Holds.setStaging hb0)) ?_
    exact HoldsP.ite (HoldsP.mk (Holds.setStaging hb0)) (HoldsP.mk (Holds.writeSlot (Holds.setStaging hb0)))

theorem HoldsP.download {b0 : State} {b1 b2 : Nat} {b3 : FwHeader} (hb0 : Holds w r b0) :
    HoldsP w r (State.download b0 b1 b2 b3) := by
  unfold State.download
  extract_lets +onlyGivenNames refuse0
  have hrefuse0 : HoldsP w r refuse0 := HoldsP.mk (Holds.setStaging hb0)
  clear_value refuse0; revert refuse0; refine keep ?_; intro refuse0 hrefuse0
  extract_lets +onlyGivenNames odd1 mine2
  refine HoldsP.ite (HoldsP.mk hb0) ?_
  refine HoldsP.ite ?_ ?_
  · refine HoldsP.ite hrefuse0 ?_
    refine HoldsP.ite (HoldsP.mk hb0) ?_
    extract_lets +onlyGivenNames x3
    exact HoldsP.mk (Holds.setStaging hb0)
  try clear_value odd1
  try clear_value mine2
  split
  · rename_i z4
    exact hrefuse0
  · rename_i z5 z6
    refine HoldsP.ite hrefuse0 ?_
    refine HoldsP.ite (HoldsP.mk hb0) ?_
    refine HoldsP.ite (HoldsP.mk hb0) ?_
    extract_lets +onlyGivenNames y7
    exact HoldsP.mk (Holds.setStaging hb0)

theorem HoldsM.fwCommit {b0 : State} {b1 b2 : Nat} {b3 : Chain} (hb0 : Holds w r b0) :
    HoldsM w r (State.fwCommit b0 b1 b2 b3) := by
  unfold State.fwCommit
  extract_lets +onlyGivenNames running0 k1 staged2
  refine HoldsM.ite (HoldsM.mk hb0) ?_
  refine HoldsM.ite (HoldsM.mk hb0) ?_
  refine HoldsM.ite ?_ ?_
  · refine HoldsM.ite (HoldsM.mk hb0) ?_
    extract_lets +onlyGivenNames r3
    have hr3 : HoldsP w r r3 := HoldsP.commitStaged hb0
    clear_value r3; revert r3; refine keep ?_; intro r3 hr3
    exact HoldsM.mk (show HoldsP w r _ from hr3)
  refine HoldsM.ite ?_ ?_
  · extract_lets +onlyGivenNames o4 s5
    have hs5 : Holds w r s5 := Holds.ite (Holds.markSlot hb0) hb0
    clear_value s5; revert s5; refine keep ?_; intro s5 hs5
    exact HoldsM.mk hs5
  exact HoldsM.ite (HoldsM.mk hb0) (HoldsM.mk (Holds.makeTrial hb0))

theorem Holds.portHeard {b0 : State} (hb0 : Holds w r b0) : Holds w r (State.portHeard b0) := by
  unfold State.portHeard
  exact Holds.upd (x := b0) hb0 rfl rfl rfl rfl rfl rfl rfl

theorem Holds.smiliAnswer {b0 : State} {b1 b2 : Nat} {b3 : List Nat} (hb0 : Holds w r b0) :
    Holds w r (State.smiliAnswer b0 b1 b2 b3) := by
  unfold State.smiliAnswer
  extract_lets +onlyGivenNames l0
  exact Holds.emit (Holds.upd (x := b0) hb0 rfl rfl rfl rfl rfl rfl rfl)

theorem Holds.smiliNew {b0 : State} {b1 : Nat} {b2 : SmiliOn} {b3 : State → Nat × List Nat × State}
    (hb0 : Holds w r b0) (hb3 : ∀ a0, Holds w r a0 → HoldsQ w r (b3 a0)) :
    Holds w r (State.smiliNew b0 b1 b2 b3) := by
  unfold State.smiliNew
  extract_lets +onlyGivenNames r0
  have hr0 : HoldsQ w r r0 := HoldsQ.ite (hb3 _ hb0) (HoldsQ.mk hb0)
  clear_value r0; revert r0; refine keep ?_; intro r0 hr0
  extract_lets +onlyGivenNames t1
  have ht1 : Holds w r t1 := show HoldsQ w r _ from hr0
  clear_value t1; revert t1; refine keep ?_; intro t1 ht1
  exact Holds.smiliAnswer ht1

theorem Holds.smili {b0 : State} {b1 : Nat} {b2 : SmiliOn} {b3 : State → Nat × List Nat × State}
    (hb0 : Holds w r b0) (hb3 : ∀ a0, Holds w r a0 → HoldsQ w r (b3 a0)) :
    Holds w r (State.smili b0 b1 b2 b3) := by
  unfold State.smili
  refine Holds.ite hb0 ?_
  split
  · rename_i z0 z1 z2 z3
    refine Holds.ite (Holds.emit (Holds.portHeard hb0)) ?_
    exact Holds.smiliNew (Holds.portHeard hb0) (fun t4 h5 => hb3 _ h5)
  · rename_i z6 z7
    exact Holds.smiliNew (Holds.portHeard hb0) (fun t8 h9 => hb3 _ h9)

theorem HoldsO.useToken {b0 : State} {b1 : Nat} {b2 : SigBlock} (hb0 : Holds w r b0) :
    HoldsO w r (State.useToken b0 b1 b2) := by
  unfold State.useToken
  exact HoldsO.ite (HoldsO.some (Holds.upd (x := b0) hb0 rfl rfl rfl rfl rfl rfl rfl)) HoldsO.none

theorem Holds.sieveCapture {b0 : State} {b1 b2 : Nat} (hb0 : Holds w r b0) :
    Holds w r (State.sieveCapture b0 b1 b2) := by
  unfold State.sieveCapture
  extract_lets +onlyGivenNames p0
  split
  · rename_i z1 z2 z3 z4
    have h5 := HoldsP.of_eq (w := w) (r := r) z4 (HoldsP.ite (HoldsP.free hb0) (HoldsP.mk hb0))
    extract_lets +onlyGivenNames w6 s7 s8
    have hs8 : Holds w r s8 := Holds.inSieve h5
    clear_value s8; revert s8; refine keep ?_; intro s8 hs8
    refine Holds.setReg ?_
    exact Holds.setReg (Holds.setReg (Holds.setReg (Holds.setReg (Holds.setReg (Holds.setReg (Holds.setReg hs8))))))

theorem Holds.sieveFault {b0 : State} {b1 b2 : Nat} (hb0 : Holds w r b0) : Holds w r (State.sieveFault b0 b1 b2) := by
  unfold State.sieveFault
  exact Holds.setReg (Holds.setReg (Holds.setReg hb0))

theorem execSieveDiagCapture_holds {b0 b1 : Nat} {b2 : State} (hb2 : Holds w r b2) :
    HoldsR w r (execSieveDiagCapture b0 b1 b2) := by
  unfold execSieveDiagCapture
  exact HoldsR.next (Holds.mgmtWrite hb2 (fun t0 h1 => Holds.sieveCapture h1))

theorem execSieveRuleInsert_holds {b0 b1 b2 b3 b4 b5 : Nat} {b6 b7 : Bool} {b8 : State} (hb8 : Holds w r b8) :
    HoldsR w r (execSieveRuleInsert b0 b1 b2 b3 b4 b5 b6 b7 b8) := by
  unfold execSieveRuleInsert
  extract_lets +onlyGivenNames e0
  refine HoldsR.ite ?_ ?_
  · exact HoldsR.next (Holds.ite (Holds.ruleReply hb8) (Holds.report (Holds.ruleReply hb8)))
  refine HoldsR.ite (HoldsR.next hb8) ?_
  refine HoldsR.ite ?_ ?_
  · exact HoldsR.ite (HoldsR.next (Holds.ruleReply hb8)) (HoldsR.next (Holds.queueRule hb8))
  exact HoldsR.ite (HoldsR.next (Holds.ruleReply hb8)) (HoldsR.next (Holds.queueRule hb8))

theorem execSieveRuleRemove_holds {b0 : Nat} {b1 : State} (hb1 : Holds w r b1) :
    HoldsR w r (execSieveRuleRemove b0 b1) := by
  unfold execSieveRuleRemove
  refine HoldsR.ite (HoldsR.next hb1) ?_
  exact HoldsR.ite (HoldsR.next (Holds.ruleReply hb1)) (HoldsR.next (Holds.queueRule hb1))

theorem execSieveScrubStep_holds {b0 : Nat} {b1 : State} (hb1 : Holds w r b1) :
    HoldsR w r (execSieveScrubStep b0 b1) := by
  unfold execSieveScrubStep
  extract_lets +onlyGivenNames p0 s1 s2
  have hs2 : Holds w r s2 := Holds.inSieve hb1
  clear_value s2; revert s2; refine keep ?_; intro s2 hs2
  refine HoldsR.ite (HoldsR.next hs2) ?_
  extract_lets +onlyGivenNames s3
  have hs3 : Holds w r s3 := Holds.report (Holds.bump hs2)
  clear_value s3; revert s3; refine keep ?_; intro s3 hs3
  refine HoldsR.ite (HoldsR.next (Holds.sieveFault hs3)) ?_
  exact HoldsR.next (Holds.report (Holds.retirePos (Holds.sieveFault hs3)))

theorem execSieveShadowRewriteDone_holds {b0 : Nat} {b1 : State} (hb1 : Holds w r b1) :
    HoldsR w r (execSieveShadowRewriteDone b0 b1) := by
  unfold execSieveShadowRewriteDone
  extract_lets +onlyGivenNames s0 s1
  have hs1 : Holds w r s1 := Holds.inSieve hb1
  clear_value s1; revert s1; refine keep ?_; intro s1 hs1
  exact HoldsR.next (Holds.report (Holds.sieveFault hs1))

theorem execSieveShiftComplete_holds {b0 : State} (hb0 : Holds w r b0) : HoldsR w r (execSieveShiftComplete b0) := by
  unfold execSieveShiftComplete
  exact HoldsR.next (Holds.endShift hb0)

theorem Holds.modMacro {b0 : State} {b1 : Nat} {b2 : MacroGroup → MacroGroup} (hb0 : Holds w r b0) :
    Holds w r (State.modMacro b0 b1 b2) := by
  unfold State.modMacro
  exact Holds.inFixity hb0

theorem Holds.shrinkPool {b0 : State} {b1 b2 : Nat} (hb0 : Holds w r b0) : Holds w r (State.shrinkPool b0 b1 b2) := by
  unfold State.shrinkPool
  extract_lets +onlyGivenNames x0 y1
  exact Holds.settlePool (Holds.modPool hb0)

theorem Holds.shrinkNear {b0 : State} {b1 : Nat} (hb0 : Holds w r b0) : Holds w r (State.shrinkNear b0 b1) := by
  unfold State.shrinkNear
  extract_lets +onlyGivenNames p0 known1 s2
  have hs2 : Holds w r s2 := Holds.modMacro hb0
  clear_value s2; revert s2; refine keep ?_; intro s2 hs2
  exact Holds.ite hs2 (Holds.ite (Holds.report hs2) (Holds.shrinkPool hs2))

theorem Holds.subchannelOut {b0 : State} {b1 : Nat} (hb0 : Holds w r b0) : Holds w r (State.subchannelOut b0 b1) := by
  unfold State.subchannelOut
  extract_lets +onlyGivenNames before0 s1 s2
  have hs2 : Holds w r s2 := Holds.inFixity hb0
  clear_value s2; revert s2; refine keep ?_; intro s2 hs2
  exact Holds.ite hs2 (Holds.reserveCheck (Holds.shrinkPool hs2))

theorem Holds.checkerFailed {b0 : State} {b1 b2 : Nat} (hb0 : Holds w r b0) :
    Holds w r (State.checkerFailed b0 b1 b2) := by
  unfold State.checkerFailed
  extract_lets +onlyGivenNames src0 s1
  have hs1 : Holds w r s1 := Holds.report hb0
  clear_value s1; revert s1; refine keep ?_; intro s1 hs1
  extract_lets +onlyGivenNames x2
  split
  · rename_i z3
    exact Holds.inFixity hs1
  · rename_i z4
    exact Holds.shrinkNear hs1
  · rename_i z5
    exact Holds.each hs1 (fun t6 x8 h7 => Holds.retirePos h7)
  · rename_i z9
    exact Holds.inFixity hs1
  · rename_i z10
    exact Holds.subchannelOut hs1
  · rename_i z11 z12 z13 z14 z15 z16
    exact Holds.inFixity hs1

theorem Holds.remapWord {b0 : State} {b1 b2 : Nat} (hb0 : Holds w r b0) : Holds w r (State.remapWord b0 b1 b2) := by
  unfold State.remapWord
  exact Holds.ite (Holds.log (Holds.modMacro hb0)) (Holds.report (Holds.modMacro hb0))

theorem Holds.verifyReads {b0 : State} {b1 : RowRef} {b2 : Bool} (hb0 : Holds w r b0) :
    Holds w r (State.verifyReads b0 b1 b2) := by
  unfold State.verifyReads
  exact Holds.ite hb0 (Holds.ite (Holds.scanRow hb0) (Holds.each hb0 (fun t0 x2 h1 => Holds.enqueue h1)))

theorem execEccSelftestDone_holds {b0 : Nat} {b1 : List (Nat × Nat)} {b2 : State} (hb2 : Holds w r b2) :
    HoldsR w r (execEccSelftestDone b0 b1 b2) := by
  unfold execEccSelftestDone
  refine HoldsR.ite (HoldsR.next hb2) ?_
  extract_lets +onlyGivenNames s0 s1
  have hs1 : Holds w r s1 := Holds.inFixity hb2
  clear_value s1; revert s1; refine keep ?_; intro s1 hs1
  extract_lets +onlyGivenNames s2
  have hs2 : Holds w r s2 := Holds.setReg (Holds.setReg hs1)
  clear_value s2; revert s2; refine keep ?_; intro s2 hs2
  exact HoldsR.next (Holds.each hs2 (fun t3 x5 h4 => Holds.checkerFailed h4))

theorem execEccSelftestRun_holds {b0 : State} (hb0 : Holds w r b0) : HoldsR w r (execEccSelftestRun b0) := by
  unfold execEccSelftestRun
  exact HoldsR.next (Holds.inFixity hb0)

theorem execFixityCancel_holds {b0 b1 : Nat} {b2 : HostCmd} {b3 : State} (hb3 : Holds w r b3) :
    HoldsR w r (execFixityCancel b0 b1 b2 b3) := by
  unfold execFixityCancel
  exact HoldsR.next (Holds.runIo hb3)

theorem execFixityVerify_holds {b0 b1 : Nat} {b2 : HostCmd} {b3 : State} (hb3 : Holds w r b3) :
    HoldsR w r (execFixityVerify b0 b1 b2 b3) := by
  unfold execFixityVerify
  exact HoldsR.next (Holds.runIo hb3)

theorem execFixityZoneDone_holds {b0 b1 : Nat} {b2 : List Nat} {b3 : Bool} {b4 : State} (hb4 : Holds w r b4) :
    HoldsR w r (execFixityZoneDone b0 b1 b2 b3 b4) := by
  unfold execFixityZoneDone
  extract_lets +onlyGivenNames x0
  refine HoldsR.ite (HoldsR.next hb4) ?_
  refine HoldsR.ite (HoldsR.next (Holds.fixResult hb4)) ?_
  split
  · rename_i z1 z2
    exact HoldsR.next (Holds.fixResult hb4)
  · rename_i z3 z4 z5
    refine HoldsR.ite (HoldsR.next (Holds.fixResult hb4)) ?_
    extract_lets +onlyGivenNames r6
    exact HoldsR.next (Holds.fixResult (Holds.ite (Holds.countMismatch hb4) hb4))

theorem execFixityZoneStart_holds {b0 : Nat} {b1 : State} (hb1 : Holds w r b1) :
    HoldsR w r (execFixityZoneStart b0 b1) := by
  unfold execFixityZoneStart
  extract_lets +onlyGivenNames x0 z1
  refine HoldsR.ite (HoldsR.next hb1) ?_
  refine HoldsR.ite (HoldsR.next hb1) ?_
  extract_lets +onlyGivenNames s2
  have hs2 : Holds w r s2 := Holds.modJob hb1
  clear_value s2; revert s2; refine keep ?_; intro s2 hs2
  extract_lets +onlyGivenNames st3
  refine HoldsR.ite (HoldsR.next (Holds.fixResult hs2)) ?_
  refine HoldsR.ite (HoldsR.next (Holds.fixResult hs2)) ?_
  refine HoldsR.ite (HoldsR.next (Holds.fixResult hs2)) ?_
  extract_lets +onlyGivenNames s4
  have hs4 : Holds w r s4 := Holds.modJob hs2
  clear_value s4; revert s4; refine keep ?_; intro s4 hs4
  refine HoldsR.next ?_
  split
  · rename_i z5 z6 z7
    exact Holds.verifyReads hs4
  · rename_i z8 z9
    exact hs4

theorem execGetLogFixityJobResult_holds {b0 b1 b2 : Nat} {b3 : State} (hb3 : Holds w r b3) :
    HoldsR w r (execGetLogFixityJobResult b0 b1 b2 b3) := by
  unfold execGetLogFixityJobResult
  exact HoldsR.adminDo hb3 (fun t0 h1 => succeeded_holds (Holds.unmask (Holds.reply h1)))

theorem execSramCheckRead_holds {b0 b1 : Nat} {b2 : Bool} {b3 : State} (hb3 : Holds w r b3) :
    HoldsR w r (execSramCheckRead b0 b1 b2 b3) := by
  unfold execSramCheckRead
  extract_lets +onlyGivenNames s0
  have hs0 : Holds w r s0 := Holds.bump hb3
  clear_value s0; revert s0; refine keep ?_; intro s0 hs0
  exact HoldsR.ite (HoldsR.next (Holds.reportTransient hs0)) (HoldsR.next (Holds.remapWord (Holds.report hs0)))

theorem execSramUncorrectableReread_holds {b0 : Nat} {b1 : SramWord} {b2 : Bool} {b3 : State} (hb3 : Holds w r b3) :
    HoldsR w r (execSramUncorrectableReread b0 b1 b2 b3) := by
  unfold execSramUncorrectableReread
  refine HoldsR.ite (HoldsR.next (Holds.reportTransient hb3)) ?_
  extract_lets +onlyGivenNames s0 s1
  have hs1 : Holds w r s1 := Holds.inFixity hb3
  clear_value s1; revert s1; refine keep ?_; intro s1 hs1
  extract_lets +onlyGivenNames s2
  have hs2 : Holds w r s2 := Holds.report (Holds.bump hs1)
  clear_value s2; revert s2; refine keep ?_; intro s2 hs2
  refine HoldsR.next ?_
  split
  · rename_i z3 z4 z5
    exact Holds.unitLost hs2
  · rename_i z6 z7
    exact hs2

theorem Holds.clearFirst {b0 : State} (hb0 : Holds w r b0) : Holds w r (State.clearFirst b0) := by
  unfold State.clearFirst
  exact Holds.setReg (Holds.setReg (Holds.setReg hb0))

theorem Holds.deliverHeld {b0 : State} (hb0 : Holds w r b0) : Holds w r (State.deliverHeld b0) := by
  unfold State.deliverHeld
  refine Holds.each hb0 (fun t0 x2 h1 => ?_)
  extract_lets +onlyGivenNames x3
  split
  · rename_i z4 z5 z6
    exact Holds.ite h1 (Holds.accept (Holds.modSrc h1))
  · rename_i z7 z8
    exact h1

theorem Holds.handlerActions {b0 : State} {b1 : Nat} (hb0 : Holds w r b0) :
    Holds w r (State.handlerActions b0 b1) := by
  unfold State.handlerActions
  extract_lets +onlyGivenNames s0
  have hs0 : Holds w r s0 := Holds.post hb0
  clear_value s0; revert s0; refine keep ?_; intro s0 hs0
  extract_lets +onlyGivenNames s1
  have hs1 : Holds w r s1 := Holds.ite (Holds.interrupt hs0) hs0
  clear_value s1; revert s1; refine keep ?_; intro s1 hs1
  refine Holds.ite (Holds.upd (x := s1) hs1 rfl rfl rfl rfl rfl rfl rfl) ?_
  refine Holds.ite ?_ hs1
  extract_lets +onlyGivenNames s2 s3
  have hs3 : Holds w r s3 := Holds.inMgmt hs1
  clear_value s3; revert s3; refine keep ?_; intro s3 hs3
  extract_lets +onlyGivenNames s4
  have hs4 : Holds w r s4 := Holds.event hs3
  clear_value s4; revert s4; refine keep ?_; intro s4 hs4
  refine Holds.ite hs4 ?_
  extract_lets +onlyGivenNames s5 s6
  have hs6 : Holds w r s6 := Holds.inKlog hs4
  clear_value s6; revert s6; refine keep ?_; intro s6 hs6
  exact Holds.ite (Holds.event hs6) hs6

theorem Holds.holdDomains {b0 : State} (hb0 : Holds w r b0) : Holds w r (State.holdDomains b0) := by
  unfold State.holdDomains
  extract_lets +onlyGivenNames ds0
  exact Holds.inPower hb0

theorem Holds.inject {b0 : State} {b1 : Nat} (hb0 : Holds w r b0) : Holds w r (State.inject b0 b1) := by
  unfold State.inject
  extract_lets +onlyGivenNames m0
  exact Holds.ite hb0 (Holds.fltMsg hb0)

theorem Holds.klogCapture {b0 : State} {b1 : Nat} (hb0 : Holds w r b0) : Holds w r (State.klogCapture b0 b1) := by
  unfold State.klogCapture
  extract_lets +onlyGivenNames r0 s1
  have hs1 : Holds w r s1 := Holds.setReg (Holds.setReg (Holds.setReg hb0))
  clear_value s1; revert s1; refine keep ?_; intro s1 hs1
  exact Holds.inKlog hs1

theorem Holds.klogPersist {b0 : State} (hb0 : Holds w r b0) : Holds w r (State.klogPersist b0) := by
  unfold State.klogPersist
  extract_lets +onlyGivenNames out0
  split
  · rename_i z1 z2
    exact Holds.inKlog hb0
  · rename_i z3 z4 z5
    extract_lets +onlyGivenNames s6
    have hs6 : Holds w r s6 := Holds.takeCfg hb0
    clear_value s6; revert s6; refine keep ?_; intro s6 hs6
    extract_lets +onlyGivenNames full7 keep8 old9 grave10 n11 seg12 kept13 ring14 s15
    have hs15 : Holds w r s15 := Holds.setReg hs6
    clear_value s15; revert s15; refine keep ?_; intro s15 hs15
    exact Holds.inKlog hs15

theorem Holds.persistAll {b0 : State} {b1 : Nat} (hb0 : Holds w r b0) : Holds w r (State.persistAll b0 b1) := by
  induction b1 generalizing b0
  · unfold State.persistAll
    exact hb0
  · rename_i nn ih
    unfold State.persistAll
    refine Holds.ite hb0 ?_
    apply ih
    exact Holds.klogPersist hb0

theorem Holds.persistNow {b0 : State} (hb0 : Holds w r b0) : Holds w r (State.persistNow b0) := by
  unfold State.persistNow
  exact Holds.ite (Holds.klogPersist hb0) (Holds.inKlog hb0)

theorem execFaultHandler_holds {b0 : State} (hb0 : Holds w r b0) : HoldsR w r (execFaultHandler b0) := by
  unfold execFaultHandler
  split
  · rename_i z0 z1
    exact HoldsR.next hb0
  · rename_i z2 z3 z4
    extract_lets +onlyGivenNames s5
    have hs5 : Holds w r s5 := Holds.ite hb0 (Holds.handlerActions hb0)
    clear_value s5; revert s5; refine keep ?_; intro s5 hs5
    extract_lets +onlyGivenNames q6
    exact HoldsR.next (Holds.deliverHeld (Holds.upd (x := s5) hs5 rfl rfl rfl rfl rfl rfl rfl))

theorem execFaultInject_holds {b0 : Nat} {b1 : State} (hb1 : Holds w r b1) : HoldsR w r (execFaultInject b0 b1) := by
  unfold execFaultInject
  exact HoldsR.next (Holds.inject hb1)

theorem execFaultMessage_holds {b0 : Nat} {b1 : State} (hb1 : Holds w r b1) :
    HoldsR w r (execFaultMessage b0 b1) := by
  unfold execFaultMessage
  extract_lets +onlyGivenNames m0 s1
  have hs1 : Holds w r s1 := Holds.fltMsg hb1
  clear_value s1; revert s1; refine keep ?_; intro s1 hs1
  exact HoldsR.next (Holds.ite (Holds.zeroize hs1) hs1)

theorem execFirstSourceClear_holds {b0 : State} (hb0 : Holds w r b0) : HoldsR w r (execFirstSourceClear b0) := by
  unfold execFirstSourceClear
  exact HoldsR.next (Holds.clearFirst hb0)

theorem execGraveStopIsolate_holds {b0 : State} (hb0 : Holds w r b0) : HoldsR w r (execGraveStopIsolate b0) := by
  unfold execGraveStopIsolate
  refine HoldsR.ite (HoldsR.next hb0) ?_
  extract_lets +onlyGivenNames s0
  have hs0 : Holds w r s0 := Holds.ite (Holds.persistAll hb0) hb0
  clear_value s0; revert s0; refine keep ?_; intro s0 hs0
  extract_lets +onlyGivenNames lines1 lines2 s3 s4
  have hs4 : Holds w r s4 := Holds.upd (x := s0) hs0 rfl rfl rfl rfl rfl rfl rfl
  clear_value s4; revert s4; refine keep ?_; intro s4 hs4
  extract_lets +onlyGivenNames s5 s6 s7
  have hs7 : Holds w r s7 := Holds.upd (x := s4) hs4 rfl rfl rfl rfl rfl rfl rfl
  clear_value s7; revert s7; refine keep ?_; intro s7 hs7
  exact HoldsR.next (Holds.holdDomains hs7)

theorem execKlogPersistSegment_holds {b0 : State} (hb0 : Holds w r b0) : HoldsR w r (execKlogPersistSegment b0) := by
  unfold execKlogPersistSegment
  exact HoldsR.next (Holds.ite (Holds.klogPersist hb0) hb0)

theorem execKlogRecordCapture_holds {b0 : Nat} {b1 : State} (hb1 : Holds w r b1) :
    HoldsR w r (execKlogRecordCapture b0 b1) := by
  unfold execKlogRecordCapture
  exact HoldsR.next (Holds.klogCapture hb1)

theorem execKlogTokenRefill_holds {b0 : State} (hb0 : Holds w r b0) : HoldsR w r (execKlogTokenRefill b0) := by
  unfold execKlogTokenRefill
  extract_lets +onlyGivenNames spent0
  exact HoldsR.next (Holds.inKlog hb0)

theorem execPersistNow_holds {b0 : State} (hb0 : Holds w r b0) : HoldsR w r (execPersistNow b0) := by
  unfold execPersistNow
  exact HoldsR.next (Holds.persistNow hb0)

theorem Holds.bootDram {b0 : State} {b1 : List Nat} (hb0 : Holds w r b0) : Holds w r (State.bootDram b0 b1) := by
  unfold State.bootDram
  exact Holds.inDram hb0

theorem Holds.bootFault {b0 : State} {b1 b2 : Nat} (hb0 : Holds w r b0) : Holds w r (State.bootFault b0 b1 b2) := by
  unfold State.bootFault
  exact Holds.report hb0

theorem Holds.bootFinish {b0 : State} {b1 : Bool} (hb0 : Holds w r b0) : Holds w r (State.bootFinish b0 b1) := by
  unfold State.bootFinish
  extract_lets +onlyGivenNames s0
  have hs0 : Holds w r s0 :=
    Holds.post (Holds.post (Holds.resumePrograms (Holds.loadUnguarded (Holds.setRules hb0))))
  clear_value s0; revert s0; refine keep ?_; intro s0 hs0
  extract_lets +onlyGivenNames s1
  have hs1 : Holds w r s1 := Holds.ite hs0 (Holds.setAttempts hs0)
  clear_value s1; revert s1; refine keep ?_; intro s1 hs1
  extract_lets +onlyGivenNames s2 s3 s4
  have hs4 : Holds w r s4 := Holds.upd (x := s1) hs1 rfl rfl rfl rfl rfl rfl rfl
  clear_value s4; revert s4; refine keep ?_; intro s4 hs4
  exact Holds.ite (Holds.report hs4) hs4

theorem Holds.enterHold {b0 : State} (hb0 : Holds w r b0) : Holds w r (State.enterHold b0) := by
  unfold State.enterHold
  extract_lets +onlyGivenNames lines0 lines1 s2 s3 s4
  have hs4 : Holds w r s4 := Holds.upd (x := b0) hb0 rfl rfl rfl rfl rfl rfl rfl
  clear_value s4; revert s4; refine keep ?_; intro s4 hs4
  exact Holds.holdDomains hs4

theorem Holds.bootRecord {b0 : State} {b1 b2 : Nat} {b3 : BootInfo} (hb0 : Holds w r b0) :
    Holds w r (State.bootRecord b0 b1 b2 b3) := by
  unfold State.bootRecord
  extract_lets +onlyGivenNames copies0 cfg1 r2
  exact Holds.log (Holds.upd (x := b0) hb0 rfl rfl rfl rfl rfl rfl rfl)

theorem Holds.mendMirror {b0 : State} {b1 : Nat} (hb0 : Holds w r b0) : Holds w r (State.mendMirror b0 b1) := by
  unfold State.mendMirror
  exact Holds.ite (Holds.programOtp hb0) hb0

theorem Holds.refillRing {b0 : State} (hb0 : Holds w r b0) : Holds w r (State.refillRing b0) := by
  unfold State.refillRing
  extract_lets +onlyGivenNames old0
  split
  · rename_i z1 z2
    exact hb0
  · rename_i z3 z4 z5
    extract_lets +onlyGivenNames next6 new7 s8 s9
    have hs9 : Holds w r s9 := Holds.inKlog hb0
    clear_value s9; revert s9; refine keep ?_; intro s9 hs9
    exact Holds.setReg (Holds.setReg hs9)

theorem Holds.enterBisque {b0 : State} {b1 : Nat} {b2 : BootInfo} (hb0 : Holds w r b0) :
    Holds w r (State.enterBisque b0 b1 b2) := by
  unfold State.enterBisque
  extract_lets +onlyGivenNames s0 s1 s2
  have hs2 : Holds w r s2 := Holds.upd (x := b0) hb0 rfl rfl rfl rfl rfl rfl rfl
  clear_value s2; revert s2; refine keep ?_; intro s2 hs2
  exact Holds.bootRecord (Holds.bootFault hs2)

theorem Holds.bootStop {b0 : State} {b1 : Nat} {b2 : BootInfo} (hb0 : Holds w r b0) :
    Holds w r (State.bootStop b0 b1 b2) := by
  unfold State.bootStop
  extract_lets +onlyGivenNames s0
  have hs0 : Holds w r s0 := Holds.bootRecord (Holds.bootFault hb0)
  clear_value s0; revert s0; refine keep ?_; intro s0 hs0
  exact Holds.upd (x := s0) hs0 rfl rfl rfl rfl rfl rfl rfl

theorem Holds.dropWriting {b0 : State} (hb0 : Holds w r b0) : Holds w r (State.dropWriting b0) := by
  unfold State.dropWriting
  extract_lets +onlyGivenNames slots0
  exact Holds.upd (x := b0) hb0 rfl rfl rfl rfl rfl rfl rfl

theorem HoldsP.chooseSlot {b0 : State} {b1 b2 : List Nat} (hb0 : Holds w r b0) :
    HoldsP w r (State.chooseSlot b0 b1 b2) := by
  induction b2 generalizing b0 b1
  · unfold State.chooseSlot
    exact HoldsP.mk hb0
  · rename_i hh nn ih
    unfold State.chooseSlot
    extract_lets +onlyGivenNames trial0
    refine HoldsP.ite ?_ ?_
    · apply ih
      exact Holds.bootFault (Holds.markSlot hb0)
    extract_lets +onlyGivenNames s1
    have hs1 : Holds w r s1 := Holds.ite (Holds.setAttempts hb0) hb0
    clear_value s1; revert s1; refine keep ?_; intro s1 hs1
    refine HoldsP.ite ?_ ?_
    · apply ih
      exact Holds.bootFault (Holds.markSlot hs1)
    refine HoldsP.ite ?_ (HoldsP.mk hs1)
    apply ih
    exact Holds.bootFault (Holds.markSlot hs1)

theorem HoldsP.chooseCfg {b0 : State} {b1 : List Nat} {b2 : List (Nat × CfgSlot)} (hb0 : Holds w r b0) :
    HoldsP w r (State.chooseCfg b0 b1 b2) := by
  induction b2 generalizing b0 b1
  · unfold State.chooseCfg
    exact HoldsP.mk hb0
  · rename_i hh nn ih
    unfold State.chooseCfg
    refine HoldsP.ite ?_ ?_
    · apply ih
      exact Holds.bootFault hb0
    refine HoldsP.ite ?_ (HoldsP.mk hb0)
    apply ih
    exact Holds.bootFault hb0

theorem Holds.restoreTenants {b0 : State} (hb0 : Holds w r b0) : Holds w r (State.restoreTenants b0) := by
  unfold State.restoreTenants
  extract_lets +onlyGivenNames second0 s1 s2
  have hs2 : Holds w r s2 := Holds.inTenant hb0
  clear_value s2; revert s2; refine keep ?_; intro s2 hs2
  refine Holds.each hs2 (fun t3 x5 h4 => ?_)
  extract_lets +onlyGivenNames x6 y7
  exact Holds.ite h4 (Holds.modInst (Holds.setCfg h4))

theorem Holds.loadImage {b0 : State} {b1 : Nat} {b2 : CfgSlot} (hb0 : Holds w r b0) :
    Holds w r (b0.loadImage b1 b2) := by
  unfold State.loadImage
  extract_lets kept
  refine Holds.each ?_ fun t x ht => Holds.setCfg ht
  refine hb0.trans ⟨rfl, Nat.le_refl _, List.suffix_refl _, fun _ _ h => h, fun h => h, fun x => ?_, fun _ h => h⟩
  show Tab.wf none kept = true
  unfold kept
  split
  · exact Tab.wf_filter x
  · rfl

theorem Holds.sizePools {b0 : State} (hb0 : Holds w r b0) : Holds w r (State.sizePools b0) := by
  unfold State.sizePools
  extract_lets +onlyGivenNames ni0 fi1 out2 pools3
  exact Holds.inHamper hb0

theorem Holds.bootLoad {b0 : State} {b1 : Nat} {b2 : CfgSlot} (hb0 : Holds w r b0) :
    Holds w r (State.bootLoad b0 b1 b2) := by
  unfold State.bootLoad
  extract_lets +onlyGivenNames s0
  have hs0 : Holds w r s0 := Holds.restoreTenants (Holds.loadImage hb0)
  clear_value s0; revert s0; refine keep ?_; intro s0 hs0
  exact Holds.sizePools (Holds.ite hs0 (Holds.deriveKeys hs0))

theorem Holds.missingDies {b0 : State} (hb0 : Holds w r b0) : Holds w r (State.missingDies b0) := by
  unfold State.missingDies
  exact Holds.each hb0 (fun t0 x2 h1 => Holds.dieFails h1)

theorem Holds.dieFound {b0 : State} {b1 : Bool} {b2 : DieSpec} (hb0 : Holds w r b0) :
    Holds w r (State.dieFound b0 b1 b2) := by
  unfold State.dieFound
  refine Holds.ite hb0 ?_
  refine Holds.ite (Holds.modDie hb0) ?_
  extract_lets +onlyGivenNames geo0
  exact Holds.modDie hb0

theorem Holds.channelFound {b0 : State} {b1 : BootInfo} {b2 : Nat} (hb0 : Holds w r b0) :
    Holds w r (State.channelFound b0 b1 b2) := by
  unfold State.channelFound
  refine Holds.ite (Holds.inPower hb0) ?_
  extract_lets +onlyGivenNames xs0
  exact Holds.modChan hb0

theorem Holds.discover {b0 : State} {b1 : BootInfo} (hb0 : Holds w r b0) : Holds w r (State.discover b0 b1) := by
  unfold State.discover
  extract_lets +onlyGivenNames first0 dies1 s2 s3
  have hs3 : Holds w r s3 := Holds.inFlash hb0
  clear_value s3; revert s3; refine keep ?_; intro s3 hs3
  extract_lets +onlyGivenNames s4
  have hs4 : Holds w r s4 := Holds.each hs3 (fun t5 x7 h6 => Holds.dieFound h6)
  clear_value s4; revert s4; refine keep ?_; intro s4 hs4
  extract_lets +onlyGivenNames boot8 s9 s10
  have hs10 : Holds w r s10 := Holds.inFlash hs4
  clear_value s10; revert s10; refine keep ?_; intro s10 hs10
  extract_lets +onlyGivenNames s11
  have hs11 : Holds w r s11 := Holds.formGroups (Holds.each hs10 (fun t12 x14 h13 => Holds.channelFound h13))
  clear_value s11; revert s11; refine keep ?_; intro s11 hs11
  extract_lets +onlyGivenNames plan15
  exact Holds.ite hs11 (Holds.formSets hs11)

theorem Holds.selfTests {b0 : State} {b1 : BootInfo} {b2 : Bool} (hb0 : Holds w r b0) :
    Holds w r (State.selfTests b0 b1 b2) := by
  unfold State.selfTests
  extract_lets +onlyGivenNames s0
  have hs0 : Holds w r s0 := Holds.each hb0 (fun t1 x3 h2 => Holds.checkerFailed h2)
  clear_value s0; revert s0; refine keep ?_; intro s0 hs0
  exact Holds.ite (Holds.each hs0 (fun t4 x6 h5 => Holds.retirePos h5)) hs0

theorem Holds.bootRun {b0 : State} {b1 : BootInfo} {b2 b3 : Nat} {b4 : CfgSlot} (hb0 : Holds w r b0) :
    Holds w r (State.bootRun b0 b1 b2 b3 b4) := by
  unfold State.bootRun
  extract_lets +onlyGivenNames path0 cold1 s2 s3
  have hs3 : Holds w r s3 := Holds.upd (x := b0) hb0 rfl rfl rfl rfl rfl rfl rfl
  clear_value s3; revert s3; refine keep ?_; intro s3 hs3
  refine Holds.ite (Holds.bootStop hs3) ?_
  refine Holds.ite ?_ ?_
  · exact Holds.enterHold (Holds.bootRecord (Holds.report (Holds.bootLoad hs3)))
  refine Holds.bootRecord ?_
  refine Holds.bootFinish ?_
  refine Holds.reserveCheck ?_
  refine Holds.missingDies ?_
  exact Holds.rebuild (Holds.readKeyStore (Holds.discover (Holds.bootDram (Holds.selfTests (Holds.bootLoad hs3)))))

theorem Holds.bootFrom3 {b0 : State} {b1 : BootInfo} (hb0 : Holds w r b0) : Holds w r (State.bootFrom3 b0 b1) := by
  unfold State.bootFrom3
  extract_lets +onlyGivenNames s0 s1
  have hs1 : Holds w r s1 := Holds.upd (x := b0) hb0 rfl rfl rfl rfl rfl rfl rfl
  clear_value s1; revert s1; refine keep ?_; intro s1 hs1
  extract_lets +onlyGivenNames dead2
  refine Holds.ite (Holds.bootStop hs1) ?_
  extract_lets +onlyGivenNames s3
  have hs3 : Holds w r s3 := Holds.ite hs1 (Holds.bootFault hs1)
  clear_value s3; revert s3; refine keep ?_; intro s3 hs3
  extract_lets +onlyGivenNames s4
  have hs4 : Holds w r s4 := Holds.dropWriting hs3
  clear_value s4; revert s4; refine keep ?_; intro s4 hs4
  extract_lets +onlyGivenNames f5
  have hf5 : HoldsP w r f5 := HoldsP.chooseSlot hs4
  clear_value f5; revert f5; refine keep ?_; intro f5 hf5
  extract_lets +onlyGivenNames c6
  have hc6 : HoldsP w r c6 := HoldsP.chooseCfg (show HoldsP w r _ from hf5)
  clear_value c6; revert c6; refine keep ?_; intro c6 hc6
  extract_lets +onlyGivenNames t7
  have ht7 : Holds w r t7 := show HoldsP w r _ from hc6
  clear_value t7; revert t7; refine keep ?_; intro t7 ht7
  split
  · rename_i z8 z9 z10 z11 z12 z13
    exact Holds.bootRun ht7
  · rename_i z14 z15 z16
    exact Holds.enterBisque ht7

theorem Holds.bootFrom1 {b0 : State} {b1 : Bool} {b2 : BootInfo} (hb0 : Holds w r b0) :
    Holds w r (State.bootFrom1 b0 b1 b2) := by
  unfold State.bootFrom1
  split
  · rename_i z0 z1 z2
    extract_lets +onlyGivenNames s3 s4
    have hs4 : Holds w r s4 := Holds.upd (x := b0) hb0 rfl rfl rfl rfl rfl rfl rfl
    clear_value s4; revert s4; refine keep ?_; intro s4 hs4
    exact Holds.enterHold (Holds.bootRecord (Holds.report hs4))
  · rename_i z5 z6
    extract_lets +onlyGivenNames s7
    have hs7 : Holds w r s7 := Holds.otpOneBad (Holds.mendMirror (Holds.mendMirror hb0))
    clear_value s7; revert s7; refine keep ?_; intro s7 hs7
    refine Holds.ite ?_ ?_
    · extract_lets +onlyGivenNames s8
      have hs8 : Holds w r s8 := Holds.bootRecord (Holds.report hs7)
      clear_value s8; revert s8; refine keep ?_; intro s8 hs8
      exact Holds.upd (x := s8) hs8 rfl rfl rfl rfl rfl rfl rfl
    refine Holds.ite (Holds.enterHold hs7) ?_
    extract_lets +onlyGivenNames s9
    have hs9 : Holds w r s9 := Holds.ite (Holds.refillRing hs7) hs7
    clear_value s9; revert s9; refine keep ?_; intro s9 hs9
    refine Holds.ite (Holds.enterBisque hs9) ?_
    exact Holds.ite (Holds.upd (x := s9) hs9 rfl rfl rfl rfl rfl rfl rfl) (Holds.bootFrom3 hs9)

theorem Holds.sampleStraps {b0 : State} {b1 : BootInfo} (hb0 : Holds w r b0) :
    Holds w r (State.sampleStraps b0 b1) := by
  unfold State.sampleStraps
  exact Holds.upd (x := b0) hb0 rfl rfl rfl rfl rfl rfl rfl

theorem execBootSequence_holds {b0 : BootInfo} {b1 : State} (hb1 : Holds False r b1) :
    HoldsR False r (execBootSequence b0 b1) := by
  unfold execBootSequence
  refine HoldsR.next ?_
  refine Holds.ite ?_ ?_
  · exact Holds.ite (Holds.ite (Holds.enterHold hb1) (Holds.bootFrom3 hb1)) (Holds.bootFrom1 hb1)
  extract_lets +onlyGivenNames s0
  have hs0 : Holds False r s0 := Holds.ite hb1 (Holds.restart hb1)
  clear_value s0; revert s0; refine keep ?_; intro s0 hs0
  extract_lets +onlyGivenNames s1
  have hs1 : Holds False r s1 := Holds.sampleStraps hs0
  clear_value s1; revert s1; refine keep ?_; intro s1 hs1
  exact Holds.ite hs1 (Holds.bootFrom1 hs1)

theorem Holds.throttle {b0 : State} (hb0 : Holds w r b0) : Holds w r (State.throttle b0) := by
  unfold State.throttle
  extract_lets +onlyGivenNames k0 floor1 fj2 fn3 f4
  exact Holds.inCone hb0

theorem Holds.thermalTrip {b0 : State} {b1 : Nat} (hb0 : Holds w r b0) : Holds w r (State.thermalTrip b0 b1) := by
  unfold State.thermalTrip
  extract_lets +onlyGivenNames earlier0 s1
  have hs1 : Holds w r s1 := Holds.ite (Holds.lifeBreak hb0) hb0
  clear_value s1; revert s1; refine keep ?_; intro s1 hs1
  extract_lets +onlyGivenNames s2 s3
  have hs3 : Holds w r s3 := Holds.emit (Holds.inCone hs1)
  clear_value s3; revert s3; refine keep ?_; intro s3 hs3
  exact Holds.report hs3

theorem Holds.acceptRound {b0 : State} {b1 : AdcRound} (hb0 : Holds w r b0) :
    Holds w r (State.acceptRound b0 b1) := by
  unfold State.acceptRound
  extract_lets +onlyGivenNames s0 s1
  have hs1 : Holds w r s1 := Holds.inCone hb0
  clear_value s1; revert s1; refine keep ?_; intro s1 hs1
  extract_lets +onlyGivenNames s2 s3 s4
  have hs4 : Holds w r s4 := Holds.ite (Holds.inCone hs1) (Holds.inCone hs1)
  clear_value s4; revert s4; refine keep ?_; intro s4 hs4
  extract_lets +onlyGivenNames h5 out6 again7 s8 s9
  have hs9 : Holds w r s9 := Holds.inCone hs4
  clear_value s9; revert s9; refine keep ?_; intro s9 hs9
  extract_lets +onlyGivenNames s10
  have hs10 : Holds w r s10 := Holds.ite (Holds.lifeBreak hs9) hs9
  clear_value s10; revert s10; refine keep ?_; intro s10 hs10
  extract_lets +onlyGivenNames s11
  have hs11 : Holds w r s11 := Holds.throttle hs10
  clear_value s11; revert s11; refine keep ?_; intro s11 hs11
  extract_lets +onlyGivenNames node12
  try clear_value s0
  try clear_value s2
  try clear_value s3
  try clear_value h5
  try clear_value out6
  try clear_value again7
  try clear_value s8
  try clear_value node12
  split
  · rename_i z13 z14
    exact Holds.ite hs11 (Holds.thermalTrip hs11)
  · rename_i z15
    exact hs11

theorem Holds.moveNodes {b0 : State} {b1 : ℤ} (hb0 : Holds w r b0) : Holds w r (State.moveNodes b0 b1) := by
  unfold State.moveNodes
  extract_lets +onlyGivenNames nodes0
  exact Holds.inCone hb0

theorem Holds.anchor {b0 : State} {b1 b2 : ℤ} (hb0 : Holds w r b0) : Holds w r (State.anchor b0 b1 b2) := by
  unfold State.anchor
  refine Holds.ite ?_ ?_
  · refine Holds.ite ?_ (Holds.moveNodes hb0)
    extract_lets +onlyGivenNames s0 s1
    have hs1 : Holds w r s1 := Holds.inCone hb0
    clear_value s1; revert s1; refine keep ?_; intro s1 hs1
    exact Holds.coneStep hs1
  refine Holds.ite (Holds.moveNodes hb0) ?_
  extract_lets +onlyGivenNames r2 s3 s4
  have hs4 : Holds w r s4 := Holds.inCone hb0
  clear_value s4; revert s4; refine keep ?_; intro s4 hs4
  extract_lets +onlyGivenNames s5
  have hs5 : Holds w r s5 := Holds.moveNodes hs4
  clear_value s5; revert s5; refine keep ?_; intro s5 hs5
  exact Holds.ite (Holds.report hs5) hs5

theorem Holds.applyAges {b0 : State} (hb0 : Holds w r b0) : Holds w r (State.applyAges b0) := by
  unfold State.applyAges
  refine Holds.each hb0 (fun t0 x2 h1 => ?_)
  exact Holds.ite (Holds.controllerFinish h1) (Holds.ite (Holds.recommendFinish h1) h1)

theorem Holds.coneVoltage {b0 : State} (hb0 : Holds w r b0) : Holds w r (State.coneVoltage b0) := by
  unfold State.coneVoltage
  extract_lets +onlyGivenNames step0 limit1 cool2 s3 s4
  have hs4 : Holds w r s4 := Holds.inCone hb0
  extract_lets +onlyGivenNames cur5 ask6
  refine cut (P := ∀ a0, Holds w r (ask6 a0)) (fun x7 => ?_) fun hask6 => ?_
  · unfold ask6
    extract_lets +onlyGivenNames s'8
    refine cut (P := Holds w r s'8) ?_ fun hs'8 => Holds.ite hs4 (Holds.inCone hs'8)
    unfold s'8
    exact Holds.coneStep hs4
  exact Holds.ite hs4 (Holds.ite (hask6 _) (Holds.ite (hask6 _) (Holds.ite (hask6 _) hs4)))

theorem Holds.countSecond {b0 : State} (hb0 : Holds w r b0) : Holds w r (State.countSecond b0) := by
  unfold State.countSecond
  extract_lets +onlyGivenNames t0 hist1 cone2 cone3 cone4 cone5
  exact Holds.inCone hb0

theorem Holds.countSpares {b0 : State} {b1 : Nat} (hb0 : Holds w r b0) : Holds w r (State.countSpares b0 b1) := by
  unfold State.countSpares
  extract_lets +onlyGivenNames n0 before1 lost2 seen3
  exact Holds.inMgmt hb0

theorem Holds.dieMeans {b0 : State} (hb0 : Holds w r b0) : Holds w r (State.dieMeans b0) := by
  unfold State.dieMeans
  extract_lets +onlyGivenNames dies0 s1 s2
  have hs2 : Holds w r s2 := Holds.inFlash hb0
  clear_value s2; revert s2; refine keep ?_; intro s2 hs2
  exact Holds.inCone hs2

theorem Holds.diodeCheck {b0 : State} {b1 : Nat} {b2 : ℤ} (hb0 : Holds w r b0) :
    Holds w r (State.diodeCheck b0 b1 b2) := by
  unfold State.diodeCheck
  exact Holds.ite (Holds.report (Holds.inCone hb0)) hb0

theorem Holds.discardRound {b0 : State} (hb0 : Holds w r b0) : Holds w r (State.discardRound b0) := by
  unfold State.discardRound
  extract_lets +onlyGivenNames n0 s1 s2
  have hs2 : Holds w r s2 := Holds.inCone hb0
  clear_value s2; revert s2; refine keep ?_; intro s2 hs2
  extract_lets +onlyGivenNames s3
  have hs3 : Holds w r s3 := Holds.report hs2
  clear_value s3; revert s3; refine keep ?_; intro s3 hs3
  exact Holds.ite (Holds.report hs3) hs3

theorem Holds.lifeWarning {b0 : State} (hb0 : Holds w r b0) : Holds w r (State.lifeWarning b0) := by
  unfold State.lifeWarning
  extract_lets +onlyGivenNames s0
  have hs0 : Holds w r s0 := Holds.lifeBreak hb0
  clear_value s0; revert s0; refine keep ?_; intro s0 hs0
  refine Holds.ite hs0 ?_
  extract_lets +onlyGivenNames cone1 cone2 s3
  have hs3 : Holds w r s3 := Holds.inCone hs0
  clear_value s3; revert s3; refine keep ?_; intro s3 hs3
  exact Holds.log hs3

theorem Holds.noteStress {b0 : State} {b1 : List Nat} (hb0 : Holds w r b0) : Holds w r (State.noteStress b0 b1) := by
  unfold State.noteStress
  exact Holds.ite (Holds.inCone hb0) hb0

theorem Holds.wearRefire {b0 : State} {b1 : Nat} (hb0 : Holds w r b0) : Holds w r (State.wearRefire b0 b1) := by
  unfold State.wearRefire
  extract_lets +onlyGivenNames x0
  refine Holds.ite hb0 ?_
  extract_lets +onlyGivenNames top1 full2
  split
  · rename_i z3 z4 z5
    exact Holds.ite (Holds.queueRefire hb0) hb0
  · rename_i z6 z7
    exact hb0

theorem Holds.roundFigures {b0 : State} (hb0 : Holds w r b0) : Holds w r (State.roundFigures b0) := by
  unfold State.roundFigures
  extract_lets +onlyGivenNames s0
  have hs0 : Holds w r s0 := Holds.takeCfg hb0
  clear_value s0; revert s0; refine keep ?_; intro s0 hs0
  extract_lets +onlyGivenNames n1 more2 nss3 sets4 s5 s6 s7 s8 s9
  have hs9 : Holds w r s9 := Holds.upd (x := s0) hs0 rfl rfl rfl rfl rfl rfl rfl
  clear_value s9; revert s9; refine keep ?_; intro s9 hs9
  extract_lets +onlyGivenNames s10
  have hs10 : Holds w r s10 := Holds.applyAges hs9
  clear_value s10; revert s10; refine keep ?_; intro s10 hs10
  extract_lets +onlyGivenNames ds11 s12
  have hs12 : Holds w r s12 :=
    Holds.countBins (Holds.each hs10 (fun t13 x15 h14 => Holds.countSpares (Holds.wearRefire (Holds.ladder h14))))
  clear_value s12; revert s12; refine keep ?_; intro s12 hs12
  exact Holds.inFlash hs12

theorem Holds.roundReadback {b0 : State} {b1 : Nat} (hb0 : Holds w r b0) : Holds w r (State.roundReadback b0 b1) := by
  unfold State.roundReadback
  refine Holds.ite hb0 ?_
  refine Holds.ite ?_ (Holds.avsWrite (Holds.avsRead hb0))
  extract_lets +onlyGivenNames src0
  have hsrc0 : Holds w r src0 := Holds.avsRead hb0
  exact Holds.inPower hsrc0

theorem Holds.temperatureFigures {b0 : State} (hb0 : Holds w r b0) : Holds w r (State.temperatureFigures b0) := by
  unfold State.temperatureFigures
  extract_lets +onlyGivenNames w0 c1 s2 s3
  have hs3 : Holds w r s3 := Holds.inMgmt hb0
  clear_value s3; revert s3; refine keep ?_; intro s3 hs3
  exact Holds.each hs3 (fun t4 x6 h5 => Holds.ite (Holds.event h5) h5)

theorem execDieTemperatureReadings_holds {b0 : List (Nat × ℤ)} {b1 : State} (hb1 : Holds w r b1) :
    HoldsR w r (execDieTemperatureReadings b0 b1) := by
  unfold execDieTemperatureReadings
  extract_lets +onlyGivenNames all0
  split
  · rename_i z1 z2
    exact HoldsR.next hb1
  · rename_i z3 z4 z5 z6
    extract_lets +onlyGivenNames s7
    have hs7 : Holds w r s7 := Holds.postBack hb1
    clear_value s7; revert s7; refine keep ?_; intro s7 hs7
    exact HoldsR.next (Holds.inCone hs7)

theorem execDiodeAnchor_holds {b0 b1 : ℤ} {b2 : State} (hb2 : Holds w r b2) :
    HoldsR w r (execDiodeAnchor b0 b1 b2) := by
  unfold execDiodeAnchor
  extract_lets +onlyGivenNames s0
  have hs0 : Holds w r s0 := Holds.diodeCheck (Holds.diodeCheck hb2)
  clear_value s0; revert s0; refine keep ?_; intro s0 hs0
  extract_lets +onlyGivenNames s1 s2
  have hs2 : Holds w r s2 := Holds.inCone hs0
  clear_value s2; revert s2; refine keep ?_; intro s2 hs2
  exact HoldsR.next (Holds.post (Holds.anchor (Holds.dieMeans hs2)))

theorem execHousekeepingRound_holds {b0 : AdcRound} {b1 : State} (hb1 : Holds w r b1) :
    HoldsR w r (execHousekeepingRound b0 b1) := by
  unfold execHousekeepingRound
  refine HoldsR.ite (HoldsR.next hb1) ?_
  extract_lets +onlyGivenNames s0 s1
  have hs1 : Holds w r s1 := Holds.roundFigures (Holds.noteStress (Holds.inCone hb1))
  clear_value s1; revert s1; refine keep ?_; intro s1 hs1
  extract_lets +onlyGivenNames s2
  have hs2 : Holds w r s2 := Holds.ite (Holds.acceptRound hs1) (Holds.discardRound hs1)
  clear_value s2; revert s2; refine keep ?_; intro s2 hs2
  extract_lets +onlyGivenNames s3
  have hs3 : Holds w r s3 := Holds.computeArchive (Holds.temperatureFigures hs2)
  clear_value s3; revert s3; refine keep ?_; intro s3 hs3
  refine HoldsR.ite (HoldsR.next hs3) ?_
  extract_lets +onlyGivenNames s4
  have hs4 : Holds w r s4 := Holds.ite (Holds.coneVoltage (Holds.roundReadback hs3)) hs3
  clear_value s4; revert s4; refine keep ?_; intro s4 hs4
  exact HoldsR.next (Holds.sendThrottle (Holds.updateG hs4))

theorem execTemperatureHistoryTick_holds {b0 : State} (hb0 : Holds w r b0) :
    HoldsR w r (execTemperatureHistoryTick b0) := by
  unfold execTemperatureHistoryTick
  extract_lets +onlyGivenNames s0
  have hs0 : Holds w r s0 := Holds.countSecond hb0
  clear_value s0; revert s0; refine keep ?_; intro s0 hs0
  extract_lets +onlyGivenNames s1
  have hs1 : Holds w r s1 := Holds.ite (Holds.post hs0) hs0
  clear_value s1; revert s1; refine keep ?_; intro s1 hs1
  extract_lets +onlyGivenNames s2
  have hs2 : Holds w r s2 := Holds.ite (Holds.lifeBreak hs1) hs1
  clear_value s2; revert s2; refine keep ?_; intro s2 hs2
  exact HoldsR.next (Holds.ite hs2 (Holds.lifeWarning hs2))

theorem execThermalTrip_holds {b0 : Nat} {b1 : State} (hb1 : Holds w r b1) : HoldsR w r (execThermalTrip b0 b1) := by
  unfold execThermalTrip
  exact HoldsR.next (Holds.ite hb1 (Holds.thermalTrip hb1))

theorem Holds.dramAnswer {b0 : State} {b1 : Nat} {b2 : Burst} (hb0 : Holds w r b0) :
    Holds w r (State.dramAnswer b0 b1 b2) := by
  unfold State.dramAnswer
  exact Holds.emit hb0

theorem Holds.modDchan {b0 : State} {b1 : Nat} {b2 : DChannel → DChannel} (hb0 : Holds w r b0) :
    Holds w r (State.modDchan b0 b1 b2) := by
  unfold State.modDchan
  exact Holds.inDram hb0

theorem Holds.dramArrive {b0 : State} {b1 b2 : Nat} {b3 : DramReq} (hb0 : Holds w r b0) :
    Holds w r (State.dramArrive b0 b1 b2 b3) := by
  unfold State.dramArrive
  extract_lets +onlyGivenNames x0 e1
  split
  · rename_i z2 z3 z4
    exact Holds.ite (Holds.dramAnswer hb0) (Holds.ite hb0 (Holds.modDchan hb0))
  · rename_i z5 z6
    exact Holds.ite (Holds.modDchan hb0) (Holds.modDchan hb0)

theorem Holds.dramRemap {b0 : State} {b1 b2 b3 : Nat} (hb0 : Holds w r b0) :
    Holds w r (State.dramRemap b0 b1 b2 b3) := by
  unfold State.dramRemap
  extract_lets +onlyGivenNames a0 x1
  exact Holds.ite hb0 (Holds.ite (Holds.report (Holds.modDchan hb0)) (Holds.log (Holds.modDchan hb0)))

theorem Holds.dramCorrected {b0 : State} {b1 b2 b3 b4 : Nat} (hb0 : Holds w r b0) :
    Holds w r (State.dramCorrected b0 b1 b2 b3 b4) := by
  unfold State.dramCorrected
  extract_lets +onlyGivenNames s0
  have hs0 : Holds w r s0 := Holds.bump hb0
  clear_value s0; revert s0; refine keep ?_; intro s0 hs0
  exact Holds.ite (Holds.reportTransient hs0) (Holds.dramRemap (Holds.report hs0))

theorem Holds.dramError {b0 : State} {b1 : Nat} (hb0 : Holds w r b0) : Holds w r (State.dramError b0 b1) := by
  unfold State.dramError
  exact Holds.emit hb0

theorem Holds.modSub {b0 : State} {b1 b2 : Nat} {b3 : Subchannel → Subchannel} (hb0 : Holds w r b0) :
    Holds w r (State.modSub b0 b1 b2 b3) := by
  unfold State.modSub
  exact Holds.modDchan hb0

theorem Holds.dramFinish {b0 : State} {b1 b2 : Nat} {b3 : DEntry} {b4 : Burst} (hb0 : Holds w r b0) :
    Holds w r (State.dramFinish b0 b1 b2 b3 b4) := by
  unfold State.dramFinish
  exact Holds.ite (Holds.modSub hb0) (Holds.dramAnswer hb0)

theorem Holds.dramPoisoned {b0 : State} {b1 b2 : Nat} {b3 : DEntry} {b4 : Burst} {b5 : Bool} (hb0 : Holds w r b0) :
    Holds w r (State.dramPoisoned b0 b1 b2 b3 b4 b5) := by
  unfold State.dramPoisoned
  refine Holds.ite (Holds.dramFinish hb0) ?_
  split
  · rename_i z0 z1 z2
    exact Holds.ite (Holds.dramAnswer (Holds.modSub hb0)) (Holds.dramFinish (Holds.report hb0))
  · rename_i z3 z4
    extract_lets +onlyGivenNames s5
    have hs5 : Holds w r s5 := Holds.dramFinish hb0
    clear_value s5; revert s5; refine keep ?_; intro s5 hs5
    split
    · rename_i z6 z7 z8
      exact Holds.unitLost hs5
    · rename_i z9 z10
      exact hs5

theorem Holds.dramRoom {b0 : State} {b1 : Nat} (hb0 : Holds w r b0) : Holds w r (State.dramRoom b0 b1) := by
  unfold State.dramRoom
  split
  · rename_i z0 z1 z2 z3
    exact Holds.ite hb0 (Holds.dramArrive (Holds.modDchan hb0))
  · rename_i z4 z5
    exact hb0

theorem Holds.flushAbandoned {b0 : State} (hb0 : Holds w r b0) : Holds w r (State.flushAbandoned b0) := by
  unfold State.flushAbandoned
  split
  · rename_i z0 z1
    exact hb0
  · rename_i z2 z3 z4 z5
    extract_lets +onlyGivenNames s6 s7
    have hs7 : Holds w r s7 := Holds.inTrail hb0
    clear_value s7; revert s7; refine keep ?_; intro s7 hs7
    exact Holds.ite hs7 (Holds.ckptBegin hs7)

theorem Holds.refreshIdx {b0 : State} {b1 b2 b3 : Nat} (hb0 : Holds w r b0) :
    Holds w r (State.refreshIdx b0 b1 b2 b3) := by
  unfold State.refreshIdx
  exact Holds.modSub hb0

theorem Holds.retrain {b0 : State} {b1 b2 : Nat} {b3 : Bool} {b4 b5 : Nat} (hb0 : Holds w r b0) :
    Holds w r (State.retrain b0 b1 b2 b3 b4 b5) := by
  unfold State.retrain
  exact Holds.ite hb0 (Holds.inDram hb0)

theorem execCaParityAlert_holds {b0 b1 b2 b3 : Nat} {b4 : State} (hb4 : Holds w r b4) :
    HoldsR w r (execCaParityAlert b0 b1 b2 b3 b4) := by
  unfold execCaParityAlert
  refine HoldsR.ite (HoldsR.next hb4) ?_
  extract_lets +onlyGivenNames at0
  refine HoldsR.ite ?_ ?_
  · exact HoldsR.next (Holds.reportTransient (Holds.bump (Holds.modSub hb4)))
  extract_lets +onlyGivenNames s1
  have hs1 : Holds w r s1 := Holds.bump (Holds.modSub hb4)
  clear_value s1; revert s1; refine keep ?_; intro s1 hs1
  refine HoldsR.ite (HoldsR.next (Holds.retrain (Holds.report hs1))) ?_
  refine HoldsR.ite ?_ (HoldsR.next (Holds.report (Holds.modDchan hs1)))
  exact HoldsR.next (Holds.retrain (Holds.report (Holds.inDram hs1)))

theorem execDqsOscillatorCheck_holds {b0 b1 : Nat} {b2 : Bool} {b3 : State} (hb3 : Holds w r b3) :
    HoldsR w r (execDqsOscillatorCheck b0 b1 b2 b3) := by
  unfold execDqsOscillatorCheck
  exact HoldsR.next (Holds.ite (Holds.retrain (Holds.inDram hb3)) hb3)

theorem execDramReadReturn_holds {b0 b1 b2 b3 b4 : Nat} {b5 : State} (hb5 : Holds w r b5) :
    HoldsR w r (execDramReadReturn b0 b1 b2 b3 b4 b5) := by
  unfold execDramReadReturn
  split
  · rename_i z0 z1
    exact HoldsR.next hb5
  · rename_i z2 z3 z4
    extract_lets +onlyGivenNames a5 b6 s7
    have hs7 : Holds w r s7 := Holds.modSub hb5
    clear_value s7; revert s7; refine keep ?_; intro s7 hs7
    refine HoldsR.ite ?_ ?_
    · exact HoldsR.next (Holds.ite (Holds.dramFinish hs7) (Holds.dramPoisoned hs7))
    refine HoldsR.ite (HoldsR.next (Holds.dramFinish hs7)) ?_
    refine HoldsR.ite (HoldsR.next (Holds.dramFinish (Holds.dramCorrected hs7))) ?_
    refine HoldsR.ite ?_ ?_
    · extract_lets +onlyGivenNames s8
      have hs8 : Holds w r s8 := Holds.log (Holds.bump hs7)
      clear_value s8; revert s8; refine keep ?_; intro s8 hs8
      extract_lets +onlyGivenNames s9
      have hs9 : Holds w r s9 := Holds.ite (Holds.flushAbandoned hs8) hs8
      clear_value s9; revert s9; refine keep ?_; intro s9 hs9
      exact HoldsR.next (Holds.ite (Holds.dramFinish hs9) (Holds.dramError hs9))
    refine HoldsR.ite (HoldsR.next (Holds.dramFinish (Holds.reportTransient hs7))) ?_
    extract_lets +onlyGivenNames s10
    have hs10 : Holds w r s10 := Holds.report (Holds.bump hs7)
    clear_value s10; revert s10; refine keep ?_; intro s10 hs10
    exact HoldsR.next (Holds.dramPoisoned hs10)

theorem execDramRequestArrival_holds {b0 b1 : Nat} {b2 : DramReq} {b3 : State} (hb3 : Holds w r b3) :
    HoldsR w r (execDramRequestArrival b0 b1 b2 b3) := by
  unfold execDramRequestArrival
  refine HoldsR.next ?_
  exact Holds.ite (Holds.dramArrive hb3) (Holds.ite (Holds.ite (Holds.dramError hb3) (Holds.dramAnswer hb3)) hb3)

theorem execDramRequestIssue_holds {b0 b1 b2 : Nat} {b3 : State} (hb3 : Holds w r b3) :
    HoldsR w r (execDramRequestIssue b0 b1 b2 b3) := by
  unfold execDramRequestIssue
  refine HoldsR.ite (HoldsR.next hb3) ?_
  refine HoldsR.ite (HoldsR.next (Holds.refreshIdx hb3)) ?_
  split
  · rename_i z0 z1
    exact HoldsR.next hb3
  · rename_i z2 z3 z4
    extract_lets +onlyGivenNames mode5 r6 s7
    have hs7 : Holds w r s7 := Holds.modDchan hb3
    clear_value s7; revert s7; refine keep ?_; intro s7 hs7
    extract_lets +onlyGivenNames s8 s9
    have hs9 : Holds w r s9 := Holds.modSub hs7
    clear_value s9; revert s9; refine keep ?_; intro s9 hs9
    exact HoldsR.next (Holds.dramRoom hs9)

theorem execDramRowIdleClose_holds {b0 b1 b2 : Nat} {b3 : State} (hb3 : Holds w r b3) :
    HoldsR w r (execDramRowIdleClose b0 b1 b2 b3) := by
  unfold execDramRowIdleClose
  exact HoldsR.next (Holds.ite (Holds.modSub hb3) hb3)

theorem execDramScrubStep_holds {b0 b1 b2 b3 : Nat} {b4 : State} (hb4 : Holds w r b4) :
    HoldsR w r (execDramScrubStep b0 b1 b2 b3 b4) := by
  unfold execDramScrubStep
  refine HoldsR.ite (HoldsR.next hb4) ?_
  extract_lets +onlyGivenNames b0 s1 s2
  have hs2 : Holds w r s2 := Holds.inDram hb4
  clear_value s2; revert s2; refine keep ?_; intro s2 hs2
  refine HoldsR.ite (HoldsR.next hs2) ?_
  refine HoldsR.ite (HoldsR.next (Holds.dramCorrected hs2)) ?_
  refine HoldsR.ite (HoldsR.next (Holds.dramCorrected hs2)) ?_
  extract_lets +onlyGivenNames s3
  have hs3 : Holds w r s3 := Holds.log (Holds.bump hs2)
  clear_value s3; revert s3; refine keep ?_; intro s3 hs3
  exact HoldsR.next (Holds.modSub hs3)

theorem execRefreshDue_holds {b0 b1 b2 : Nat} {b3 : State} (hb3 : Holds w r b3) :
    HoldsR w r (execRefreshDue b0 b1 b2 b3) := by
  unfold execRefreshDue
  refine HoldsR.ite (HoldsR.next hb3) ?_
  extract_lets +onlyGivenNames x0 y1 busy2 s3
  have hs3 : Holds w r s3 := Holds.modSub hb3
  clear_value s3; revert s3; refine keep ?_; intro s3 hs3
  refine HoldsR.ite (HoldsR.next (Holds.refreshIdx hs3)) ?_
  extract_lets +onlyGivenNames p4
  exact HoldsR.ite (HoldsR.next (Holds.modDchan (Holds.modSub hs3))) (HoldsR.next (Holds.modSub hs3))

theorem execZqCalibrationTimer_holds {b0 : State} (hb0 : Holds w r b0) : HoldsR w r (execZqCalibrationTimer b0) := by
  unfold execZqCalibrationTimer
  exact HoldsR.next (Holds.ite hb0 (Holds.inDram hb0))

theorem Holds.allShut {b0 : State} (hb0 : Holds w r b0) : Holds w r (State.allShut b0) := by
  unfold State.allShut
  extract_lets +onlyGivenNames insts0
  exact Holds.inTenant hb0

/-- The AON power-on reset keeps the Grave state (R453, R512). -/
theorem execAonReset_holds {b0 : State} (hb0 : Holds w r b0) : HoldsR w r (execAonReset b0) := by
  refine HoldsR.next ?_
  have h1 : Holds False b0 (b0.restart true) := Holds.restart (Holds.refl b0)
  have h2 : Holds False b0 (firstFields.foldl (fun (t : State) k => t.setReg k (b0.reg k)) (b0.restart true)) :=
    Holds.foldl (fun t x ht => Holds.setReg ht) h1
  exact hb0.trans ⟨h2.queue, h2.used, h2.sent, h2.otp, h2.regs, h2.cfg, fun _ h => h⟩

theorem execIo33Restored_holds {b0 : State} (hb0 : Holds w r b0) : HoldsR w r (execIo33Restored b0) := by
  unfold execIo33Restored
  exact HoldsR.next (Holds.upd (x := b0) hb0 rfl rfl rfl rfl rfl rfl rfl)

theorem execPwrdisAssert_holds {b0 : State} (hb0 : Holds w r b0) : HoldsR w r (execPwrdisAssert b0) := by
  unfold execPwrdisAssert
  refine HoldsR.next ?_
  extract_lets +onlyGivenNames s0 s1
  have hs1 : Holds w r s1 := Holds.upd (x := b0) hb0 rfl rfl rfl rfl rfl rfl rfl
  clear_value s1; revert s1; refine keep ?_; intro s1 hs1
  refine Holds.ite hs1 ?_
  extract_lets +onlyGivenNames stop2
  have hstop2 : ∀ a0, Holds w r a0 → Holds w r (stop2 a0) := fun t3 h4 => Holds.inIntake h4
  split
  · rename_i z5 z6 z7
    exact hs1
  · rename_i z8 z9 z10 z11
    exact Holds.upd (x := s1) hs1 rfl rfl rfl rfl rfl rfl rfl
  · rename_i z12 z13
    refine Holds.ite (Holds.allShut (hstop2 _ hs1)) ?_
    extract_lets +onlyGivenNames src14
    have hsrc14 : Holds w r src14 := hstop2 _ hs1
    exact Holds.upd (x := src14) hsrc14 rfl rfl rfl rfl rfl rfl rfl

theorem execPwrdisRelease_holds {b0 : State} (hb0 : Holds w r b0) : HoldsR w r (execPwrdisRelease b0) := by
  unfold execPwrdisRelease
  refine HoldsR.next ?_
  extract_lets +onlyGivenNames was0 s1 s2
  have hs2 : Holds w r s2 := Holds.upd (x := b0) hb0 rfl rfl rfl rfl rfl rfl rfl
  clear_value s2; revert s2; refine keep ?_; intro s2 hs2
  refine Holds.ite hs2 ?_
  split
  · rename_i z3 z4 z5 z6 z7
    exact Holds.upd (x := s2) hs2 rfl rfl rfl rfl rfl rfl rfl
  · rename_i z8 z9 z10 z11 z12
    exact Holds.ite hs2 (Holds.controllerReset hs2)
  · rename_i z13 z14 z15 z16 z17 z18
    exact Holds.ite hs2 (Holds.bootFrom3 hs2)
  · rename_i z19 z20 z21 z22 z23 z24
    exact hs2

theorem execPwrfailHighBeforeStart_holds {b0 : State} (hb0 : Holds w r b0) :
    HoldsR w r (execPwrfailHighBeforeStart b0) := by
  unfold execPwrfailHighBeforeStart
  refine HoldsR.next ?_
  split
  · rename_i z0 z1 z2 z3 z4
    extract_lets +onlyGivenNames s5 s6
    have hs6 : Holds w r s6 := Holds.upd (x := b0) hb0 rfl rfl rfl rfl rfl rfl rfl
    clear_value s6; revert s6; refine keep ?_; intro s6 hs6
    exact Holds.ite hs6 (Holds.bootFrom3 hs6)
  · rename_i z7 z8 z9
    exact hb0

theorem execRailLow_holds {b0 : Nat} {b1 : State} (hb1 : Holds w r b1) : HoldsR w r (execRailLow b0 b1) := by
  unfold execRailLow
  refine HoldsR.next ?_
  refine Holds.ite ?_ ?_
  · exact Holds.lifeBreak (Holds.report (Holds.upd (x := b1) hb1 rfl rfl rfl rfl rfl rfl rfl))
  refine Holds.ite hb1 ?_
  extract_lets +onlyGivenNames s0 s1
  have hs1 : Holds w r s1 := Holds.upd (x := b1) hb1 rfl rfl rfl rfl rfl rfl rfl
  clear_value s1; revert s1; refine keep ?_; intro s1 hs1
  extract_lets +onlyGivenNames s2 s3
  have hs3 : Holds w r s3 := Holds.ite hs1 (Holds.dumpStart (Holds.upd (x := s1) hs1 rfl rfl rfl rfl rfl rfl rfl))
  clear_value s3; revert s3; refine keep ?_; intro s3 hs3
  exact Holds.lifeBreak (Holds.report hs3)

theorem Holds.discardWord {b0 : State} {b1 : WordAt} (hb0 : Holds w r b0) : Holds w r (State.discardWord b0 b1) := by
  unfold State.discardWord
  exact Holds.ite hb0 (Holds.inFabric hb0)

theorem Holds.portOut {b0 : State} {b1 : WordAt} {b2 : List Nat} (hb0 : Holds w r b0) :
    Holds w r (State.portOut b0 b1 b2) := by
  unfold State.portOut
  extract_lets +onlyGivenNames s0 s1
  refine cut (P := Holds w r s1) ?_ fun hs1 => ?_
  · unfold s1
    split
    · rename_i z2 z3 z4 z5
      exact Holds.reportHost (Holds.inFabric hb0)
    · rename_i z6 z7 z8
      exact Holds.reportHost (Holds.inFabric hb0)
  clear_value s1; revert s1; refine keep ?_; intro s1 hs1
  exact Holds.each hs1 (fun t9 x11 h10 => Holds.failTag h10)

theorem Holds.segmentOut {b0 : State} {b1 : WordAt} (hb0 : Holds w r b0) : Holds w r (State.segmentOut b0 b1) := by
  unfold State.segmentOut
  split
  · rename_i z0 z1 z2 z3
    extract_lets +onlyGivenNames s4 s5
    have hs5 : Holds w r s5 := Holds.inFabric hb0
    clear_value s5; revert s5; refine keep ?_; intro s5 hs5
    exact Holds.report hs5
  · rename_i z6 z7 z8
    exact Holds.report hb0

theorem execHandshakeWatchdogExpiry_holds {b0 : WordAt} {b1 : State} (hb1 : Holds w r b1) :
    HoldsR w r (execHandshakeWatchdogExpiry b0 b1) := by
  unfold execHandshakeWatchdogExpiry
  exact HoldsR.next (Holds.discardWord hb1)

theorem execIslandClockRestart_holds {b0 : Nat} {b1 : State} (hb1 : Holds w r b1) :
    HoldsR w r (execIslandClockRestart b0 b1) := by
  unfold execIslandClockRestart
  exact HoldsR.ite (HoldsR.next hb1) (HoldsR.next (Holds.serveBridge (Holds.gateWake (Holds.modBridge hb1))))

theorem execIslandClockStop_holds {b0 b1 b2 : Nat} {b3 : State} (hb3 : Holds w r b3) :
    HoldsR w r (execIslandClockStop b0 b1 b2 b3) := by
  unfold execIslandClockStop
  refine HoldsR.ite (HoldsR.next hb3) ?_
  extract_lets +onlyGivenNames s0
  have hs0 : Holds w r s0 := Holds.modBridge hb3
  clear_value s0; revert s0; refine keep ?_; intro s0 hs0
  exact HoldsR.next (Holds.settleStop (Holds.inFabric hs0))

theorem execSwitchRetransmitResult_holds {b0 : WordAt} {b1 b2 : Bool} {b3 : List Nat} {b4 : State}
    (hb4 : Holds w r b4) :
    HoldsR w r (execSwitchRetransmitResult b0 b1 b2 b3 b4) := by
  unfold execSwitchRetransmitResult
  refine HoldsR.ite (HoldsR.next hb4) ?_
  extract_lets +onlyGivenNames s0 s1
  have hs1 : Holds w r s1 := Holds.inFabric hb4
  clear_value s1; revert s1; refine keep ?_; intro s1 hs1
  extract_lets +onlyGivenNames kind2
  refine HoldsR.ite (HoldsR.next (Holds.reportTransient hs1)) ?_
  extract_lets +onlyGivenNames s3
  have hs3 : Holds w r s3 := Holds.segmentOut hs1
  clear_value s3; revert s3; refine keep ?_; intro s3 hs3
  exact HoldsR.ite (HoldsR.next hs3) (HoldsR.next (Holds.portOut hs3))

theorem execSwitchWordDiscard_holds {b0 : WordAt} {b1 : State} (hb1 : Holds w r b1) :
    HoldsR w r (execSwitchWordDiscard b0 b1) := by
  unfold execSwitchWordDiscard
  exact HoldsR.next (Holds.discardWord hb1)

theorem Holds.bootBlockFailed {b0 : State} {b1 : Nat} (hb0 : Holds w r b0) :
    Holds w r (State.bootBlockFailed b0 b1) := by
  unfold State.bootBlockFailed
  refine Holds.ite hb0 ?_
  refine Holds.ite ?_ (Holds.upd (x := b0) hb0 rfl rfl rfl rfl rfl rfl rfl)
  exact Holds.report (Holds.upd (x := b0) hb0 rfl rfl rfl rfl rfl rfl rfl)

theorem execBootAreaRefresh_holds {b0 b1 : List Nat} {b2 : State} (hb2 : Holds w r b2) :
    HoldsR w r (execBootAreaRefresh b0 b1 b2) := by
  unfold execBootAreaRefresh
  exact HoldsR.next (Holds.ite hb2 (Holds.each hb2 (fun t0 x2 h1 => Holds.bootBlockFailed h1)))

theorem execConfigRollbackAdvance_holds {b0 : State} (hb0 : Holds w r b0) :
    HoldsR w r (execConfigRollbackAdvance b0) := by
  unfold execConfigRollbackAdvance
  refine HoldsR.next ?_
  split
  · rename_i z0 z1 z2
    exact Holds.advanceCounter hb0
  · rename_i z3 z4
    exact hb0

theorem execFirmwareCommit_holds {b0 b1 b2 b3 : Nat} {b4 : Chain} {b5 : State} (hb5 : Holds w r b5) :
    HoldsR w r (execFirmwareCommit b0 b1 b2 b3 b4 b5) := by
  unfold execFirmwareCommit
  refine HoldsR.admin hb5 (fun t0 h1 => ?_)
  refine Holds.ite (Holds.adminCqe h1) ?_
  extract_lets +onlyGivenNames r2
  have hr2 : HoldsM w r r2 := HoldsM.fwCommit h1
  clear_value r2; revert r2; refine keep ?_; intro r2 hr2
  extract_lets +onlyGivenNames t3
  have ht3 : Holds w r t3 := show HoldsM w r _ from hr2
  clear_value t3; revert t3; refine keep ?_; intro t3 ht3
  refine Holds.ite ?_ (Holds.adminCqe ht3)
  extract_lets +onlyGivenNames t4
  have ht4 : Holds w r t4 := Holds.ite (Holds.event ht3) ht3
  clear_value t4; revert t4; refine keep ?_; intro t4 ht4
  exact Holds.beginDeviceReset (Holds.adminCqe ht4)

theorem execFirmwareImageDownload_holds {b0 b1 b2 b3 : Nat} {b4 : FwHeader} {b5 : State} (hb5 : Holds w r b5) :
    HoldsR w r (execFirmwareImageDownload b0 b1 b2 b3 b4 b5) := by
  unfold execFirmwareImageDownload
  refine HoldsR.adminDo hb5 (fun t0 h1 => ?_)
  refine HoldsQ.ite (refusedWith_holds h1) ?_
  extract_lets +onlyGivenNames r2
  have hr2 : HoldsP w r r2 := HoldsP.download h1
  clear_value r2; revert r2; refine keep ?_; intro r2 hr2
  exact HoldsQ.mk (show HoldsP w r _ from hr2)

theorem execStagingTimeout_holds {b0 : State} (hb0 : Holds w r b0) : HoldsR w r (execStagingTimeout b0) := by
  unfold execStagingTimeout
  exact HoldsR.next (Holds.setStaging hb0)

theorem execTrialSlotConfirm_holds {b0 : State} (hb0 : Holds w r b0) : HoldsR w r (execTrialSlotConfirm b0) := by
  unfold execTrialSlotConfirm
  refine HoldsR.next ?_
  extract_lets +onlyGivenNames k0 o1
  refine Holds.ite hb0 ?_
  extract_lets +onlyGivenNames s2
  have hs2 : Holds w r s2 := Holds.markSlot hb0
  clear_value s2; revert s2; refine keep ?_; intro s2 hs2
  extract_lets +onlyGivenNames s3
  have hs3 : Holds w r s3 := Holds.ite (Holds.markSlot hs2) hs2
  clear_value s3; revert s3; refine keep ?_; intro s3 hs3
  exact Holds.advanceCounter hs3

theorem Holds.applyLock {b0 : State} {b1 b2 : Nat} (hb0 : Holds w r b0) : Holds w r (State.applyLock b0 b1 b2) := by
  unfold State.applyLock
  extract_lets +onlyGivenNames x0
  exact Holds.ite (Holds.drainSlot hb0) (Holds.ite (Holds.loadRange hb0) hb0)

theorem Holds.authFailed {b0 : State} {b1 : GDesc} {b2 : Nat} (hb0 : Holds w r b0) :
    Holds w r (State.authFailed b0 b1 b2) := by
  unfold State.authFailed
  extract_lets +onlyGivenNames s0
  have hs0 : Holds w r s0 := Holds.reportHost (Holds.bump hb0)
  clear_value s0; revert s0; refine keep ?_; intro s0 hs0
  extract_lets +onlyGivenNames s1
  have hs1 : Holds w r s1 := Holds.log hs0
  clear_value s1; revert s1; refine keep ?_; intro s1 hs1
  exact Holds.ite hs1 (Holds.modTag hs1)

theorem Holds.loadGuarded {b0 : State} {b1 : Nat} (hb0 : Holds w r b0) : Holds w r (State.loadGuarded b0 b1) := by
  unfold State.loadGuarded
  refine Holds.each hb0 (fun t0 x2 h1 => ?_)
  extract_lets +onlyGivenNames x3
  exact Holds.ite h1 (Holds.loadRange h1)

theorem Holds.tcg {b0 : State} {b1 : Nat} (hb0 : Holds w r b0) : Holds w r (State.tcg b0 b1) := by
  unfold State.tcg
  exact Holds.emit hb0

theorem execAlarmRecovery_holds {b0 : Bool} {b1 : State} (hb1 : Holds w r b1) :
    HoldsR w r (execAlarmRecovery b0 b1) := by
  unfold execAlarmRecovery
  refine HoldsR.ite (HoldsR.next hb1) ?_
  refine HoldsR.ite (HoldsR.next (Holds.raiseAlarm hb1)) ?_
  extract_lets +onlyGivenNames s0
  have hs0 : Holds w r s0 := Holds.loadUnguarded (Holds.deriveKeys hb1)
  clear_value s0; revert s0; refine keep ?_; intro s0 hs0
  extract_lets +onlyGivenNames s1 s2 s3 s4
  have hs4 : Holds w r s4 := Holds.upd (x := s0) hs0 rfl rfl rfl rfl rfl rfl rfl
  clear_value s4; revert s4; refine keep ?_; intro s4 hs4
  exact HoldsR.next (Holds.resumeRows hs4)

theorem execEntropyHealthFail_holds {b0 : State} (hb0 : Holds w r b0) : HoldsR w r (execEntropyHealthFail b0) := by
  unfold execEntropyHealthFail
  exact HoldsR.next (Holds.report (Holds.inGlaze hb0))

theorem execEntropyHealthTestPass_holds {b0 : State} (hb0 : Holds w r b0) :
    HoldsR w r (execEntropyHealthTestPass b0) := by
  unfold execEntropyHealthTestPass
  exact HoldsR.next (Holds.inGlaze hb0)

theorem execGlazeAlarm_holds {b0 : Nat} {b1 : State} (hb1 : Holds w r b1) : HoldsR w r (execGlazeAlarm b0 b1) := by
  unfold execGlazeAlarm
  exact HoldsR.ite (HoldsR.next hb1) (HoldsR.next (Holds.raiseAlarm hb1))

theorem execGlazeContextAgedResume_holds {b0 : Nat} {b1 : State} (hb1 : Holds w r b1) :
    HoldsR w r (execGlazeContextAgedResume b0 b1) := by
  unfold execGlazeContextAgedResume
  extract_lets +onlyGivenNames x0
  refine HoldsR.ite (HoldsR.next hb1) ?_
  extract_lets +onlyGivenNames s1
  have hs1 : Holds w r s1 := Holds.modLane hb1
  clear_value s1; revert s1; refine keep ?_; intro s1 hs1
  exact HoldsR.next (Holds.ite hs1 (Holds.laneNext hs1))

theorem execGlazeDescriptorComplete_holds {b0 : Nat} {b1 b2 b3 : Bool} {b4 : Nat} {b5 : State} (hb5 : Holds w r b5) :
    HoldsR w r (execGlazeDescriptorComplete b0 b1 b2 b3 b4 b5) := by
  unfold execGlazeDescriptorComplete
  split
  · rename_i z0 z1
    exact HoldsR.next hb5
  · rename_i z2 z3 z4
    extract_lets +onlyGivenNames opens5 s6
    have hs6 : Holds w r s6 := Holds.modLane hb5
    clear_value s6; revert s6; refine keep ?_; intro s6 hs6
    extract_lets +onlyGivenNames bad7 s8
    have hs8 : Holds w r s8 :=
      Holds.ite hs6 (Holds.ite (Holds.reportTransient hs6) (Holds.ite (Holds.bump hs6) (Holds.authFailed hs6)))
    clear_value s8; revert s8; refine keep ?_; intro s8 hs8
    extract_lets +onlyGivenNames s9
    have hs9 : Holds w r s9 := Holds.laneNext (Holds.gdEnd hs8)
    clear_value s9; revert s9; refine keep ?_; intro s9 hs9
    exact HoldsR.next (Holds.gdAdmitWaiting hs9)

theorem execGlazeDescriptorSubmit_holds {b0 : GDesc} {b1 : State} (hb1 : Holds w r b1) :
    HoldsR w r (execGlazeDescriptorSubmit b0 b1) := by
  unfold execGlazeDescriptorSubmit
  exact HoldsR.next (Holds.gdSubmit hb1)

theorem execKeyPerIoKekSet_holds {b0 b1 : Nat} {b2 : State} (hb2 : Holds w r b2) :
    HoldsR w r (execKeyPerIoKekSet b0 b1 b2) := by
  unfold execKeyPerIoKekSet
  refine HoldsR.ite (HoldsR.next (Holds.tcg hb2)) ?_
  extract_lets +onlyGivenNames w0 s1 s2
  have hs2 : Holds w r s2 := Holds.inGlaze hb2
  clear_value s2; revert s2; refine keep ?_; intro s2 hs2
  exact HoldsR.next (Holds.tcg (Holds.storeKeys hs2))

theorem execKeySlotDrained_holds {b0 : Nat} {b1 : State} (hb1 : Holds w r b1) :
    HoldsR w r (execKeySlotDrained b0 b1) := by
  unfold execKeySlotDrained
  exact HoldsR.next (Holds.slotDrained hb1)

theorem execKeySlotUnload_holds {b0 b1 : Nat} {b2 : State} (hb2 : Holds w r b2) :
    HoldsR w r (execKeySlotUnload b0 b1 b2) := by
  unfold execKeySlotUnload
  exact HoldsR.ite (HoldsR.next hb2) (HoldsR.next (Holds.drainSlot hb2))

theorem execKeyTagClear_holds {b0 b1 : Nat} {b2 : State} (hb2 : Holds w r b2) :
    HoldsR w r (execKeyTagClear b0 b1 b2) := by
  unfold execKeyTagClear
  split
  · rename_i z0 z1
    exact HoldsR.next (Holds.tcg hb2)
  · rename_i z2 z3 z4
    extract_lets +onlyGivenNames s5 s6
    have hs6 : Holds w r s6 := Holds.inGlaze hb2
    clear_value s6; revert s6; refine keep ?_; intro s6 hs6
    exact HoldsR.next (Holds.tcg (Holds.ite (Holds.drainSlot hs6) (Holds.emptySlot hs6)))

theorem execKeyTagInject_holds {b0 b1 b2 b3 b4 : Nat} {b5 : Bool} {b6 : State} (hb6 : Holds w r b6) :
    HoldsR w r (execKeyTagInject b0 b1 b2 b3 b4 b5 b6) := by
  unfold execKeyTagInject
  refine HoldsR.ite (HoldsR.next (Holds.tcg hb6)) ?_
  refine HoldsR.ite (HoldsR.next (Holds.tcg hb6)) ?_
  split
  · rename_i z0 z1 z2
    exact HoldsR.next (Holds.tcg (Holds.loadSlot hb6))
  · rename_i z3 z4
    refine HoldsR.ite (HoldsR.next (Holds.tcg hb6)) ?_
    split
    · rename_i z5 z6
      exact HoldsR.next (Holds.tcg hb6)
    · rename_i z7 z8 z9
      extract_lets +onlyGivenNames s10
      have hs10 : Holds w r s10 := Holds.modSlot hb6
      clear_value s10; revert s10; refine keep ?_; intro s10 hs10
      extract_lets +onlyGivenNames s11 s12
      have hs12 : Holds w r s12 := Holds.inGlaze hs10
      clear_value s12; revert s12; refine keep ?_; intro s12 hs12
      exact HoldsR.next (Holds.tcg (Holds.loadSlot hs12))

theorem execKeyUnwrapLoad_holds {b0 b1 : Nat} {b2 : Bool} {b3 : State} (hb3 : Holds w r b3) :
    HoldsR w r (execKeyUnwrapLoad b0 b1 b2 b3) := by
  unfold execKeyUnwrapLoad
  extract_lets +onlyGivenNames x0 gcm1
  refine HoldsR.ite (HoldsR.next (Holds.emit hb3)) ?_
  split
  · rename_i z2 z3
    exact HoldsR.next (Holds.emit hb3)
  · rename_i z4 z5 z6
    refine HoldsR.ite (HoldsR.next (Holds.emit hb3)) ?_
    exact HoldsR.next (Holds.resumeRows (Holds.emit (Holds.loadSlot hb3)))

theorem execOpalAuthenticate_holds {b0 b1 : Nat} {b2 : State} (hb2 : Holds w r b2) :
    HoldsR w r (execOpalAuthenticate b0 b1 b2) := by
  unfold execOpalAuthenticate
  refine HoldsR.ite (HoldsR.next (Holds.tcg hb2)) ?_
  extract_lets +onlyGivenNames s0 s1
  have hs1 : Holds w r s1 := Holds.inGlaze hb2
  clear_value s1; revert s1; refine keep ?_; intro s1 hs1
  exact HoldsR.next (Holds.tcg (Holds.resumeRows (Holds.loadGuarded hs1)))

theorem execOpalGenkey_holds {b0 b1 : Nat} {b2 : Bool} {b3 : State} (hb3 : Holds w r b3) :
    HoldsR w r (execOpalGenkey b0 b1 b2 b3) := by
  unfold execOpalGenkey
  extract_lets +onlyGivenNames m0
  refine HoldsR.ite (HoldsR.next (Holds.tcg hb3)) ?_
  refine HoldsR.ite (HoldsR.next (Holds.tcg hb3)) ?_
  refine HoldsR.ite (HoldsR.next (Holds.tcg (Holds.cryptoErase hb3))) ?_
  extract_lets +onlyGivenNames s1
  have hs1 : Holds w r s1 := Holds.each hb3 (fun t2 x4 h3 => Holds.cryptoErase (Holds.modRange h3))
  clear_value s1; revert s1; refine keep ?_; intro s1 hs1
  extract_lets +onlyGivenNames s5
  have hs5 : Holds w r s5 := Holds.each hs1 (fun t6 x8 h7 => Holds.modRange (Holds.emptySlot h7))
  clear_value s5; revert s5; refine keep ?_; intro s5 hs5
  extract_lets +onlyGivenNames s9 s10
  have hs10 : Holds w r s10 := Holds.inGlaze hs5
  clear_value s10; revert s10; refine keep ?_; intro s10 hs10
  exact HoldsR.next (Holds.tcg (Holds.storeKeys hs10))

theorem execOpalSetCredential_holds {b0 b1 : Nat} {b2 : State} (hb2 : Holds w r b2) :
    HoldsR w r (execOpalSetCredential b0 b1 b2) := by
  unfold execOpalSetCredential
  refine HoldsR.ite (HoldsR.next (Holds.tcg hb2)) ?_
  refine HoldsR.ite (HoldsR.next (Holds.tcg hb2)) ?_
  extract_lets +onlyGivenNames s0
  have hs0 : Holds w r s0 := show HoldsP w r _ from HoldsP.newKey hb2
  clear_value s0; revert s0; refine keep ?_; intro s0 hs0
  extract_lets +onlyGivenNames s1 s2
  have hs2 : Holds w r s2 := Holds.inGlaze hs0
  clear_value s2; revert s2; refine keep ?_; intro s2 hs2
  extract_lets +onlyGivenNames mine3 s4
  have hs4 : Holds w r s4 := Holds.each hs2 (fun t5 x7 h6 => Holds.rewrap h6)
  clear_value s4; revert s4; refine keep ?_; intro s4 hs4
  exact HoldsR.next (Holds.tcg (Holds.storeKeys hs4))

theorem execOpalSetLocking_holds {b0 b1 : Nat} {b2 : LockSet} {b3 : State} (hb3 : Holds w r b3) :
    HoldsR w r (execOpalSetLocking b0 b1 b2 b3) := by
  unfold execOpalSetLocking
  extract_lets +onlyGivenNames r0
  refine HoldsR.ite (HoldsR.next (Holds.tcg hb3)) ?_
  refine HoldsR.ite (HoldsR.next (Holds.tcg hb3)) ?_
  refine HoldsR.ite ?_ ?_
  · extract_lets +onlyGivenNames s1
    have hs1 : Holds w r s1 := Holds.rewrap hb3
    clear_value s1; revert s1; refine keep ?_; intro s1 hs1
    exact HoldsR.next (Holds.tcg (Holds.resumeRows (Holds.applyLock (Holds.storeKeys hs1))))
  refine HoldsR.ite ?_ ?_
  · exact HoldsR.next (Holds.tcg (Holds.storeKeys (Holds.modRange hb3)))
  refine HoldsR.ite (HoldsR.next (Holds.tcg hb3)) ?_
  split
  · rename_i z2 z3
    exact HoldsR.next (Holds.tcg hb3)
  · rename_i z4 z5 z6
    exact HoldsR.next (Holds.tcg (Holds.applyLock (Holds.createRange hb3)))

theorem execOtpIntegrityRecheck_holds {b0 : Bool} {b1 : State} (hb1 : Holds w r b1) :
    HoldsR w r (execOtpIntegrityRecheck b0 b1) := by
  unfold execOtpIntegrityRecheck
  exact HoldsR.ite (HoldsR.next (Holds.raiseAlarm hb1)) (HoldsR.next (Holds.otpOneBad hb1))

theorem execSealedWaitWarning_holds {b0 : Nat} {b1 : State} (hb1 : Holds w r b1) :
    HoldsR w r (execSealedWaitWarning b0 b1) := by
  unfold execSealedWaitWarning
  refine HoldsR.ite (HoldsR.next hb1) ?_
  extract_lets +onlyGivenNames s0 s1
  have hs1 : Holds w r s1 := Holds.inGlaze hb1
  clear_value s1; revert s1; refine keep ?_; intro s1 hs1
  exact HoldsR.next (Holds.log hs1)

theorem Holds.refuseOwnership {b0 : State} {b1 : Nat} {b2 : Requester} {b3 : Nat} (hb0 : Holds w r b0) :
    Holds w r (State.refuseOwnership b0 b1 b2 b3) := by
  unfold State.refuseOwnership
  extract_lets +onlyGivenNames s0
  have hs0 : Holds w r s0 := Holds.bump hb0
  clear_value s0; revert s0; refine keep ?_; intro s0 hs0
  extract_lets +onlyGivenNames s1
  have hs1 : Holds w r s1 := Holds.setReg (Holds.setReg (Holds.setReg (Holds.setReg (Holds.setReg hs0))))
  clear_value s1; revert s1; refine keep ?_; intro s1 hs1
  exact Holds.report hs1

theorem Holds.checked {b0 : State} {b1 : Nat} {b2 : Requester} {b3 : Nat} {b4 : Bool} {b5 : State → State}
    (hb0 : Holds w r b0) (hb5 : ∀ a0, Holds w r a0 → Holds w r (b5 a0)) :
    Holds w r (State.checked b0 b1 b2 b3 b4 b5) := by
  unfold State.checked
  exact Holds.ite (Holds.refuseOwnership hb0) (hb5 _ (Holds.ite (Holds.reportTransient hb0) hb0))

theorem execFreeListRebuild_holds {b0 b1 : Nat} {b2 : State} (hb2 : Holds w r b2) :
    HoldsR w r (execFreeListRebuild b0 b1 b2) := by
  unfold execFreeListRebuild
  refine HoldsR.ite (HoldsR.next hb2) ?_
  extract_lets +onlyGivenNames s0
  have hs0 : Holds w r s0 := Holds.modPool hb2
  clear_value s0; revert s0; refine keep ?_; intro s0 hs0
  exact HoldsR.next (Holds.report hs0)

theorem execFreeListRebuildDone_holds {b0 : Nat} {b1 : State} (hb1 : Holds w r b1) :
    HoldsR w r (execFreeListRebuildDone b0 b1) := by
  unfold execFreeListRebuildDone
  refine HoldsR.ite (HoldsR.next hb1) ?_
  extract_lets +onlyGivenNames s0
  have hs0 : Holds w r s0 := Holds.modPool hb1
  clear_value s0; revert s0; refine keep ?_; intro s0 hs0
  exact HoldsR.next (Holds.servePool hs0)

theorem execHamperAllocate_holds {b0 b1 b2 b3 : Nat} {b4 : State} (hb4 : Holds w r b4) :
    HoldsR w r (execHamperAllocate b0 b1 b2 b3 b4) := by
  unfold execHamperAllocate
  refine HoldsR.ite (HoldsR.next hb4) ?_
  extract_lets +onlyGivenNames r0 s1
  have hs1 : Holds w r s1 := Holds.modPool hb4
  clear_value s1; revert s1; refine keep ?_; intro s1 hs1
  exact HoldsR.next (Holds.servePool hs1)

theorem execHamperClaim_holds {b0 : Nat} {b1 : State} (hb1 : Holds w r b1) : HoldsR w r (execHamperClaim b0 b1) := by
  unfold execHamperClaim
  refine HoldsR.ite (HoldsR.next (Holds.emit (Holds.claimUnit hb1))) ?_
  exact HoldsR.ite (HoldsR.next (Holds.modUnit hb1)) (HoldsR.next (Holds.emit hb1))

theorem execHamperDrop_holds {b0 : Nat} {b1 : Requester} {b2 : State} (hb2 : Holds w r b2) :
    HoldsR w r (execHamperDrop b0 b1 b2) := by
  unfold execHamperDrop
  exact HoldsR.next (Holds.checked hb2 (fun t0 h1 => Holds.dropClaim h1))

theorem execHamperHand_holds {b0 : Nat} {b1 : Requester} {b2 b3 b4 : Nat} {b5 : State} (hb5 : Holds w r b5) :
    HoldsR w r (execHamperHand b0 b1 b2 b3 b4 b5) := by
  unfold execHamperHand
  exact HoldsR.next (Holds.checked hb5 (fun t0 h1 => Holds.modUnit h1))

theorem execHamperRelease_holds {b0 : Nat} {b1 : Requester} {b2 : Nat} {b3 : State} (hb3 : Holds w r b3) :
    HoldsR w r (execHamperRelease b0 b1 b2 b3) := by
  unfold execHamperRelease
  exact HoldsR.next (Holds.checked hb3 (fun t0 h1 => Holds.releaseUnit h1))

theorem execPoolWaitNotice_holds {b0 : Nat} {b1 : State} (hb1 : Holds w r b1) :
    HoldsR w r (execPoolWaitNotice b0 b1) := by
  unfold execPoolWaitNotice
  exact HoldsR.ite (HoldsR.next hb1) (HoldsR.next (Holds.report hb1))

theorem Holds.failCommand {b0 : State} {b1 b2 : Nat} (hb0 : Holds w r b0) :
    Holds w r (State.failCommand b0 b1 b2) := by
  unfold State.failCommand
  extract_lets +onlyGivenNames r0
  exact Holds.postTag (Holds.failWrite hb0)

theorem Holds.setFactors {b0 : State} {b3 : Bool} (hb0 : Holds w r b0) : Holds w r (b0.setFactors b1 b2 b3) := by
  unfold State.setFactors
  exact Holds.inIntake hb0

theorem execAbort_holds {b0 b1 b2 b3 b4 : Nat} {b5 : State} (hb5 : Holds w r b5) :
    HoldsR w r (execAbort b0 b1 b2 b3 b4 b5) := by
  unfold execAbort
  refine HoldsR.adminAs hb5 (fun t0 h1 => ?_)
  refine Holds.ite (Holds.adminCqe h1) ?_
  extract_lets +onlyGivenNames r2
  refine cut (P := HoldsP w r r2) ?_ fun hr2 => ?_
  · unfold r2
    split
    · rename_i z3 z4
      exact HoldsP.mk h1
    · rename_i z5 z6 z7
      exact HoldsP.abortTag (Holds.ite (Holds.complete h1) h1)
  clear_value r2; revert r2; refine keep ?_; intro r2 hr2
  split
  · rename_i z8 z9 z10
    exact Holds.modTag (show HoldsP w r _ from hr2)
  · rename_i z11 z12
    exact show HoldsP w r _ from hr2

theorem execAsynchronousEventRequest_holds {b0 b1 : Nat} {b2 : State} (hb2 : Holds w r b2) :
    HoldsR w r (execAsynchronousEventRequest b0 b1 b2) := by
  unfold execAsynchronousEventRequest
  refine HoldsR.adminAs hb2 (fun t0 h1 => ?_)
  exact Holds.ite (Holds.adminCqe h1) (Holds.idleBegins (Holds.deliverEvent (Holds.modInst h1)))

theorem execCompletionPost_holds {b0 : Nat} {b1 : State} (hb1 : Holds w r b1) :
    HoldsR w r (execCompletionPost b0 b1) := by
  unfold execCompletionPost
  extract_lets +onlyGivenNames r0 s1
  have hs1 : Holds w r s1 := Holds.complete hb1
  clear_value s1; revert s1; refine keep ?_; intro s1 hs1
  refine HoldsR.ite (HoldsR.next hs1) ?_
  extract_lets +onlyGivenNames held2
  exact HoldsR.next (Holds.each hs1 (fun t3 x5 h4 => Holds.each h4 (fun t6 x8 h7 => Holds.complete h7)))

theorem execCqDoorbellWrite_holds {b0 b1 b2 : Nat} {b3 : State} (hb3 : Holds w r b3) :
    HoldsR w r (execCqDoorbellWrite b0 b1 b2 b3) := by
  unfold execCqDoorbellWrite
  extract_lets +onlyGivenNames q0
  refine HoldsR.ite (HoldsR.next hb3) ?_
  refine HoldsR.ite (HoldsR.next (Holds.event hb3)) ?_
  exact HoldsR.ite (HoldsR.next (Holds.event hb3)) (HoldsR.next (Holds.modInst hb3))

theorem execCreateIoCompletionQueue_holds {b0 b1 b2 : Nat} {b3 : QMem} {b4 : Nat} {b5 : Bool} {b6 : State}
    (hb6 : Holds w r b6) :
    HoldsR w r (execCreateIoCompletionQueue b0 b1 b2 b3 b4 b5 b6) := by
  unfold execCreateIoCompletionQueue
  refine HoldsR.adminDo hb6 (fun t0 h1 => ?_)
  extract_lets +onlyGivenNames x2
  exact HoldsQ.ite (refusedWith_holds h1) (HoldsQ.ite (refusedWith_holds h1) (succeeded_holds (Holds.modInst h1)))

theorem execCreateIoSubmissionQueue_holds {b0 b1 b2 b3 : Nat} {b4 : QMem} {b5 : Nat} {b6 : State}
    (hb6 : Holds w r b6) :
    HoldsR w r (execCreateIoSubmissionQueue b0 b1 b2 b3 b4 b5 b6) := by
  unfold execCreateIoSubmissionQueue
  refine HoldsR.adminDo hb6 (fun t0 h1 => ?_)
  extract_lets +onlyGivenNames x2
  refine HoldsQ.ite (refusedWith_holds h1) ?_
  exact HoldsQ.ite (refusedWith_holds h1) (HoldsQ.ite (refusedWith_holds h1) (succeeded_holds (Holds.modInst h1)))

theorem execDeleteIoCompletionQueue_holds {b0 b1 b2 : Nat} {b3 : State} (hb3 : Holds w r b3) :
    HoldsR w r (execDeleteIoCompletionQueue b0 b1 b2 b3) := by
  unfold execDeleteIoCompletionQueue
  refine HoldsR.adminDo hb3 (fun t0 h1 => ?_)
  extract_lets +onlyGivenNames x2
  exact HoldsQ.ite (refusedWith_holds h1) (HoldsQ.ite (refusedWith_holds h1) (succeeded_holds (Holds.modInst h1)))

theorem execDeleteIoSubmissionQueue_holds {b0 b1 b2 : Nat} {b3 : State} (hb3 : Holds w r b3) :
    HoldsR w r (execDeleteIoSubmissionQueue b0 b1 b2 b3) := by
  unfold execDeleteIoSubmissionQueue
  refine HoldsR.adminDo hb3 (fun t0 h1 => ?_)
  extract_lets +onlyGivenNames q2
  refine HoldsQ.ite (refusedWith_holds h1) ?_
  extract_lets +onlyGivenNames mine3 s4
  have hs4 : Holds w r s4 := Holds.each h1 (fun t5 x7 h6 => show HoldsP w r _ from HoldsP.abortTag h6)
  clear_value s4; revert s4; refine keep ?_; intro s4 hs4
  extract_lets +onlyGivenNames s8 s9
  have hs9 : Holds w r s9 := Holds.inIntake hs4
  clear_value s9; revert s9; refine keep ?_; intro s9 hs9
  exact succeeded_holds (Holds.modInst hs9)

theorem execDrrRoundStart_holds {b0 : State} (hb0 : Holds w r b0) : HoldsR w r (execDrrRoundStart b0) := by
  unfold execDrrRoundStart
  refine HoldsR.ite (HoldsR.next hb0) ?_
  extract_lets +onlyGivenNames q0 s1
  have hs1 : Holds w r s1 := Holds.each hb0 (fun t2 x4 h3 => Holds.modInst h3)
  clear_value s1; revert s1; refine keep ?_; intro s1 hs1
  exact HoldsR.next (Holds.inIntake hs1)

theorem execHostDataUnitArrival_holds {b0 b1 b2 : Nat} {b3 : State} (hb3 : Holds w r b3) :
    HoldsR w r (execHostDataUnitArrival b0 b1 b2 b3) := by
  unfold execHostDataUnitArrival
  extract_lets +onlyGivenNames r0
  refine HoldsR.ite (HoldsR.next hb3) ?_
  extract_lets +onlyGivenNames st1
  refine HoldsR.ite (HoldsR.next (Holds.failCommand hb3)) ?_
  extract_lets +onlyGivenNames s2
  have hs2 : Holds w r s2 := Holds.arrive hb3
  clear_value s2; revert s2; refine keep ?_; intro s2 hs2
  extract_lets +onlyGivenNames r3 s4
  have hs4 : Holds w r s4 := Holds.modExpo hs2
  clear_value s4; revert s4; refine keep ?_; intro s4 hs4
  split
  · rename_i z5 z6 z7
    exact HoldsR.next (Holds.driveRow hs4)
  · rename_i z8 z9
    exact HoldsR.next hs4

theorem execInterruptCoalescingExpiry_holds {b0 b1 : Nat} {b2 : State} (hb2 : Holds w r b2) :
    HoldsR w r (execInterruptCoalescingExpiry b0 b1 b2) := by
  unfold execInterruptCoalescingExpiry
  extract_lets +onlyGivenNames q0
  exact HoldsR.ite (HoldsR.next hb2) (HoldsR.next (Holds.interrupt (Holds.modInst hb2)))

theorem execMapUpdate_holds {b0 : Nat} {b1 : FalseHit} {b2 : State} (hb2 : Holds w r b2) :
    HoldsR w r (execMapUpdate b0 b1 b2) := by
  unfold execMapUpdate
  extract_lets +onlyGivenNames s0
  have hs0 : Holds w r s0 := Holds.lookupHit hb2
  clear_value s0; revert s0; refine keep ?_; intro s0 hs0
  exact HoldsR.next (Holds.ite hs0 (Holds.mapUpdate hs0))

theorem execSetFeaturesArbitration_holds {b0 b1 b2 : Nat} {b3 : State} (hb3 : Holds w r b3) :
    HoldsR w r (execSetFeaturesArbitration b0 b1 b2 b3) := by
  unfold execSetFeaturesArbitration
  exact HoldsR.adminDo hb3 (fun t0 h1 => succeeded_holds (Holds.modInst h1))

theorem execSetFeaturesAsyncEventConfig_holds {b0 b1 b2 : Nat} {b3 : State} (hb3 : Holds w r b3) :
    HoldsR w r (execSetFeaturesAsyncEventConfig b0 b1 b2 b3) := by
  unfold execSetFeaturesAsyncEventConfig
  exact HoldsR.adminDo hb3 (fun t0 h1 => succeeded_holds (Holds.modInst h1))

theorem execSetFeaturesInterruptCoalescing_holds {b0 b1 b2 : Nat} {b3 : State} (hb3 : Holds w r b3) :
    HoldsR w r (execSetFeaturesInterruptCoalescing b0 b1 b2 b3) := by
  unfold execSetFeaturesInterruptCoalescing
  exact HoldsR.adminDo hb3 (fun t0 h1 => succeeded_holds (Holds.modInst h1))

theorem execSqDoorbellWrite_holds {b0 b1 b2 : Nat} {b3 : State} (hb3 : Holds w r b3) :
    HoldsR w r (execSqDoorbellWrite b0 b1 b2 b3) := by
  unfold execSqDoorbellWrite
  extract_lets +onlyGivenNames q0
  refine HoldsR.ite (HoldsR.next hb3) ?_
  refine HoldsR.ite (HoldsR.next (Holds.event hb3)) ?_
  refine HoldsR.ite (HoldsR.next (Holds.event hb3)) ?_
  extract_lets +onlyGivenNames s1
  have hs1 : Holds w r s1 := Holds.modInst hb3
  clear_value s1; revert s1; refine keep ?_; intro s1 hs1
  extract_lets +onlyGivenNames n2
  exact HoldsR.next (Holds.wake (Holds.inIntake hs1))

theorem execThrottleMessage_holds {b0 b1 : Nat} {b2 : State} (hb2 : Holds w r b2) :
    HoldsR w r (execThrottleMessage b0 b1 b2) := by
  unfold execThrottleMessage
  exact HoldsR.ite (HoldsR.next hb2) (HoldsR.next (Holds.setFactors hb2))

theorem execThrottleTimeout_holds {b0 : State} (hb0 : Holds w r b0) : HoldsR w r (execThrottleTimeout b0) := by
  unfold execThrottleTimeout
  exact HoldsR.ite (HoldsR.next hb0) (HoldsR.next (Holds.report (Holds.setFactors hb0)))

theorem execWalkSlotFreed_holds {b0 : State} (hb0 : Holds w r b0) : HoldsR w r (execWalkSlotFreed b0) := by
  unfold execWalkSlotFreed
  extract_lets +onlyGivenNames s0
  refine cut (P := Holds w r s0) ?_ fun hs0 => ?_
  · unfold s0
    split
    · rename_i z1 z2
      exact hb0
    · rename_i z3 z4 z5 z6
      exact Holds.endWalk hb0
  clear_value s0; revert s0; refine keep ?_; intro s0 hs0
  refine HoldsR.next ?_
  split
  · rename_i z7 z8 z9
    exact Holds.ite hs0 (Holds.tryAdmission hs0)
  · rename_i z10 z11
    exact hs0

theorem execWriteDataInFarHamper_holds {b0 b1 : Nat} {b2 : State} (hb2 : Holds w r b2) :
    HoldsR w r (execWriteDataInFarHamper b0 b1 b2) := by
  unfold execWriteDataInFarHamper
  extract_lets +onlyGivenNames r0
  refine HoldsR.ite (HoldsR.next hb2) ?_
  extract_lets +onlyGivenNames st1
  exact HoldsR.next (Holds.ite (Holds.failCommand hb2) (Holds.dataAllIn hb2))

theorem execAdmission_holds {b0 : Nat} {b1 : FalseHit} {b2 : State} (hb2 : Holds w r b2) :
    HoldsR w r (execAdmission b0 b1 b2) := by
  unfold execAdmission
  exact HoldsR.next (Holds.tryAdmission hb2)

theorem execCommandFetch_holds {b0 b1 : Nat} {b2 : HostCmd} {b3 : State} (hb3 : Holds w r b3) :
    HoldsR w r (execCommandFetch b0 b1 b2 b3) := by
  unfold execCommandFetch
  exact HoldsR.next (show HoldsP w r _ from HoldsP.stageCmd hb3)

theorem execDatasetManagement_holds {b0 b1 : Nat} {b2 : HostCmd} {b3 : State} (hb3 : Holds w r b3) :
    HoldsR w r (execDatasetManagement b0 b1 b2 b3) := by
  unfold execDatasetManagement
  exact HoldsR.next (Holds.runIo hb3)

theorem execFlush_holds {b0 b1 : Nat} {b2 : HostCmd} {b3 : State} (hb3 : Holds w r b3) :
    HoldsR w r (execFlush b0 b1 b2 b3) := by
  unfold execFlush
  exact HoldsR.next (Holds.runIo hb3)

theorem execIoManagementReceive_holds {b0 b1 : Nat} {b2 : HostCmd} {b3 : State} (hb3 : Holds w r b3) :
    HoldsR w r (execIoManagementReceive b0 b1 b2 b3) := by
  unfold execIoManagementReceive
  exact HoldsR.next (Holds.runIo hb3)

theorem execIoManagementSend_holds {b0 b1 : Nat} {b2 : HostCmd} {b3 : State} (hb3 : Holds w r b3) :
    HoldsR w r (execIoManagementSend b0 b1 b2 b3) := by
  unfold execIoManagementSend
  exact HoldsR.next (Holds.runIo hb3)

theorem execRead_holds {b0 b1 : Nat} {b2 : HostCmd} {b3 : State} (hb3 : Holds w r b3) :
    HoldsR w r (execRead b0 b1 b2 b3) := by
  unfold execRead
  exact HoldsR.next (Holds.runIo hb3)

theorem execReservationAcquire_holds {b0 b1 : Nat} {b2 : HostCmd} {b3 : State} (hb3 : Holds w r b3) :
    HoldsR w r (execReservationAcquire b0 b1 b2 b3) := by
  unfold execReservationAcquire
  exact HoldsR.next (Holds.runIo hb3)

theorem execReservationRegister_holds {b0 b1 : Nat} {b2 : HostCmd} {b3 : State} (hb3 : Holds w r b3) :
    HoldsR w r (execReservationRegister b0 b1 b2 b3) := by
  unfold execReservationRegister
  exact HoldsR.next (Holds.runIo hb3)

theorem execReservationRelease_holds {b0 b1 : Nat} {b2 : HostCmd} {b3 : State} (hb3 : Holds w r b3) :
    HoldsR w r (execReservationRelease b0 b1 b2 b3) := by
  unfold execReservationRelease
  exact HoldsR.next (Holds.runIo hb3)

theorem execReservationReport_holds {b0 b1 : Nat} {b2 : HostCmd} {b3 : State} (hb3 : Holds w r b3) :
    HoldsR w r (execReservationReport b0 b1 b2 b3) := by
  unfold execReservationReport
  exact HoldsR.next (Holds.runIo hb3)

theorem execSetZoneDescriptorExtension_holds {b0 b1 : Nat} {b2 : HostCmd} {b3 : State} (hb3 : Holds w r b3) :
    HoldsR w r (execSetZoneDescriptorExtension b0 b1 b2 b3) := by
  unfold execSetZoneDescriptorExtension
  exact HoldsR.next (Holds.runIo hb3)

theorem execWrite_holds {b0 b1 : Nat} {b2 : HostCmd} {b3 : State} (hb3 : Holds w r b3) :
    HoldsR w r (execWrite b0 b1 b2 b3) := by
  unfold execWrite
  exact HoldsR.next (Holds.runIo hb3)

theorem execWriteZeroes_holds {b0 b1 : Nat} {b2 : HostCmd} {b3 : State} (hb3 : Holds w r b3) :
    HoldsR w r (execWriteZeroes b0 b1 b2 b3) := by
  unfold execWriteZeroes
  exact HoldsR.next (Holds.runIo hb3)

theorem execZoneAppend_holds {b0 b1 : Nat} {b2 : HostCmd} {b3 : State} (hb3 : Holds w r b3) :
    HoldsR w r (execZoneAppend b0 b1 b2 b3) := by
  unfold execZoneAppend
  exact HoldsR.next (Holds.runIo hb3)

theorem execZoneClose_holds {b0 b1 : Nat} {b2 : HostCmd} {b3 : State} (hb3 : Holds w r b3) :
    HoldsR w r (execZoneClose b0 b1 b2 b3) := by
  unfold execZoneClose
  exact HoldsR.next (Holds.runIo hb3)

theorem execZoneFinish_holds {b0 b1 : Nat} {b2 : HostCmd} {b3 : State} (hb3 : Holds w r b3) :
    HoldsR w r (execZoneFinish b0 b1 b2 b3) := by
  unfold execZoneFinish
  exact HoldsR.next (Holds.runIo hb3)

theorem execZoneManagementReceive_holds {b0 b1 : Nat} {b2 : HostCmd} {b3 : State} (hb3 : Holds w r b3) :
    HoldsR w r (execZoneManagementReceive b0 b1 b2 b3) := by
  unfold execZoneManagementReceive
  exact HoldsR.next (Holds.runIo hb3)

theorem execZoneOffline_holds {b0 b1 : Nat} {b2 : HostCmd} {b3 : State} (hb3 : Holds w r b3) :
    HoldsR w r (execZoneOffline b0 b1 b2 b3) := by
  unfold execZoneOffline
  exact HoldsR.next (Holds.runIo hb3)

theorem execZoneOpen_holds {b0 b1 : Nat} {b2 : HostCmd} {b3 : State} (hb3 : Holds w r b3) :
    HoldsR w r (execZoneOpen b0 b1 b2 b3) := by
  unfold execZoneOpen
  exact HoldsR.next (Holds.runIo hb3)

theorem execZoneReset_holds {b0 b1 : Nat} {b2 : HostCmd} {b3 : State} (hb3 : Holds w r b3) :
    HoldsR w r (execZoneReset b0 b1 b2 b3) := by
  unfold execZoneReset
  exact HoldsR.next (Holds.runIo hb3)

theorem Holds.afterLog {b0 : State} {b1 b2 b3 : Nat} (hb0 : Holds w r b0) :
    Holds w r (State.afterLog b0 b1 b2 b3) := by
  unfold State.afterLog
  split
  · rename_i z0
    exact Holds.modDieSet hb0
  · rename_i z1
    exact Holds.modInst hb0
  · rename_i z2 z3 z4
    exact hb0

theorem HoldsQ.pelAct {b0 : State} {b1 b2 : Nat} (hb0 : Holds w r b0) : HoldsQ w r (State.pelAct b0 b1 b2) := by
  unfold State.pelAct
  extract_lets +onlyGivenNames put0 put1
  have hput1 : ∀ a0, Holds w r (put1 a0) := fun x2 => Holds.inKlog hb0
  split
  · rename_i z3 z4 z5 z6
    exact HoldsQ.mk hb0
  · rename_i z7 z8 z9
    exact HoldsQ.mk (hput1 _)
  · rename_i z10 z11 z12 z13
    exact HoldsQ.mk (hput1 _)
  · rename_i z14 z15 z16
    exact HoldsQ.mk hb0
  · rename_i z17 z18 z19 z20
    exact HoldsQ.mk hb0
  · rename_i z21 z22 z23
    exact HoldsQ.mk hb0
  · rename_i z24 z25 z26 z27 z28 z29 z30 z31 z32
    exact HoldsQ.mk hb0

theorem Holds.teleTaken {b0 : State} (hb0 : Holds w r b0) : Holds w r (State.teleTaken b0) := by
  unfold State.teleTaken
  exact Holds.inKlog hb0

theorem execGetLogArchive_holds {b0 b1 b2 : Nat} {b3 : State} (hb3 : Holds w r b3) :
    HoldsR w r (execGetLogArchive b0 b1 b2 b3) := by
  unfold execGetLogArchive
  exact HoldsR.adminDo hb3 (fun t0 h1 => HoldsQ.ite (succeeded_holds (Holds.reply h1)) (refusedWith_holds h1))

theorem execGetLogPage_holds {b0 b1 b2 b3 : Nat} {b4 : State} (hb4 : Holds w r b4) :
    HoldsR w r (execGetLogPage b0 b1 b2 b3 b4) := by
  unfold execGetLogPage
  refine HoldsR.ite (HoldsR.next hb4) ?_
  refine HoldsR.adminDo hb4 (fun t0 h1 => ?_)
  split
  · rename_i z2 z3
    exact refusedWith_holds h1
  · rename_i z4 z5 z6
    extract_lets +onlyGivenNames s7
    have hs7 : Holds w r s7 := Holds.reply (Holds.afterLog h1)
    clear_value s7; revert s7; refine keep ?_; intro s7 hs7
    refine succeeded_holds ?_
    split
    · rename_i z8 z9 z10
      exact Holds.unmask hs7
    · rename_i z11 z12
      exact hs7

theorem execGetLogPersistentEvent_holds {b0 b1 b2 : Nat} {b3 : State} (hb3 : Holds w r b3) :
    HoldsR w r (execGetLogPersistentEvent b0 b1 b2 b3) := by
  unfold execGetLogPersistentEvent
  refine HoldsR.adminDo hb3 (fun t0 h1 => ?_)
  extract_lets +onlyGivenNames r2
  have hr2 : HoldsQ w r r2 := HoldsQ.pelAct h1
  clear_value r2; revert r2; refine keep ?_; intro r2 hr2
  refine HoldsQ.ite (refusedWith_holds h1) ?_
  exact succeeded_holds (Holds.ite (show HoldsQ w r _ from hr2) (Holds.reply (show HoldsQ w r _ from hr2)))

theorem execGetLogSmartHealth_holds {b0 b1 : Nat} {b2 : State} (hb2 : Holds w r b2) :
    HoldsR w r (execGetLogSmartHealth b0 b1 b2) := by
  unfold execGetLogSmartHealth
  exact HoldsR.adminDo hb2 (fun t0 h1 => succeeded_holds (Holds.unmask (Holds.reply h1)))

theorem execGetLogTelemetryController_holds {b0 b1 : Nat} {b2 : State} (hb2 : Holds w r b2) :
    HoldsR w r (execGetLogTelemetryController b0 b1 b2) := by
  unfold execGetLogTelemetryController
  exact HoldsR.adminDo hb2 (fun t0 h1 => succeeded_holds (Holds.unmask (Holds.teleTaken (Holds.reply h1))))

theorem execGetLogTelemetryHost_holds {b0 b1 : Nat} {b2 : Bool} {b3 : State} (hb3 : Holds w r b3) :
    HoldsR w r (execGetLogTelemetryHost b0 b1 b2 b3) := by
  unfold execGetLogTelemetryHost
  refine HoldsR.adminDo hb3 (fun t0 h1 => ?_)
  extract_lets +onlyGivenNames s2 s3
  have hs3 : Holds w r s3 := Holds.ite (Holds.inKlog h1) h1
  clear_value s3; revert s3; refine keep ?_; intro s3 hs3
  exact succeeded_holds (Holds.reply hs3)

theorem Holds.miFrame {b0 : State} {b1 : Nat} (hb0 : Holds w r b0) : Holds w r (State.miFrame b0 b1) := by
  unfold State.miFrame
  refine Holds.ite ?_ (Holds.hostAccess hb0)
  extract_lets +onlyGivenNames s0
  have hs0 : Holds w r s0 := Holds.wakePort hb0
  clear_value s0; revert s0; refine keep ?_; intro s0 hs0
  exact Holds.inMgmt hs0

theorem Holds.miReply {b0 : State} {b1 : Nat} {b2 : List Nat} (hb0 : Holds w r b0) :
    Holds w r (State.miReply b0 b1 b2) := by
  unfold State.miReply
  extract_lets +onlyGivenNames last0
  exact Holds.emit (Holds.inMgmt hb0)

theorem HoldsR.mi {b0 : State} {b1 : Nat} {b2 : Bool} {b3 : State → State} (hb0 : Holds w r b0)
    (hb3 : ∀ a0, Holds w r a0 → Holds w r (b3 a0)) :
    HoldsR w r (State.mi b0 b1 b2 b3) := by
  unfold State.mi
  refine HoldsR.ite (HoldsR.next hb0) ?_
  refine HoldsR.ite (HoldsR.next (Holds.miFrame hb0)) ?_
  extract_lets +onlyGivenNames s0
  have hs0 : Holds w r s0 := Holds.miFrame hb0
  clear_value s0; revert s0; refine keep ?_; intro s0 hs0
  refine HoldsR.ite (HoldsR.next (Holds.miReply hs0)) ?_
  exact HoldsR.ite (HoldsR.next (Holds.miReply hs0)) (HoldsR.next (hb3 _ hs0))

theorem HoldsQ.tunnelledPage {b0 : State} {b1 b2 : Nat} (hb0 : Holds w r b0) :
    HoldsQ w r (State.tunnelledPage b0 b1 b2) := by
  unfold State.tunnelledPage
  split
  · rename_i z0
    exact HoldsQ.mk hb0
  · rename_i z1
    exact HoldsQ.mk hb0
  · rename_i z2
    exact HoldsQ.mk (Holds.teleTaken hb0)
  · rename_i z3
    exact HoldsQ.pelAct hb0
  · rename_i z4
    exact HoldsQ.changedZonePage hb0
  · rename_i z5
    exact HoldsQ.ite (HoldsQ.mk hb0) (HoldsQ.mk hb0)
  · rename_i z6
    exact HoldsQ.mk hb0
  · rename_i z7 z8 z9 z10 z11 z12 z13 z14
    split
    · rename_i z15 z16 z17
      exact HoldsQ.mk (Holds.afterLog hb0)
    · rename_i z18 z19
      exact HoldsQ.mk hb0

theorem HoldsQ.tunnelled {b0 : State} {b1 : Nat} {b2 : List Nat} (hb0 : Holds w r b0) :
    HoldsQ w r (State.tunnelled b0 b1 b2) := by
  unfold State.tunnelled
  extract_lets +onlyGivenNames a0 b1
  refine HoldsQ.ite (HoldsQ.mk hb0) ?_
  split
  · rename_i z2
    split
    · rename_i z3 z4 z5
      exact HoldsQ.mk hb0
    · rename_i z6 z7
      exact HoldsQ.mk hb0
  · rename_i z8
    exact HoldsQ.tunnelledPage hb0
  · rename_i z9
    split
    · rename_i z10 z11 z12
      exact HoldsQ.mk hb0
    · rename_i z13 z14
      exact HoldsQ.mk hb0
  · rename_i z15
    refine HoldsQ.ite ?_ ?_
    · split
      · rename_i z16 z17 z18
        have h19 := HoldsO.of_eq (w := w) (r := r) z18 (HoldsO.setThreshold hb0)
        exact HoldsQ.mk h19
      · rename_i z20 z21
        exact HoldsQ.mk hb0
    exact HoldsQ.ite (HoldsQ.mk (Holds.setTimestamp hb0)) (HoldsQ.mk hb0)
  · rename_i z22
    extract_lets +onlyGivenNames r23
    have hr23 : HoldsP w r r23 := HoldsP.download hb0
    clear_value r23; revert r23; refine keep ?_; intro r23 hr23
    exact HoldsQ.mk (show HoldsP w r _ from hr23)
  · rename_i z24
    extract_lets +onlyGivenNames r25
    have hr25 : HoldsM w r r25 := HoldsM.fwCommit hb0
    clear_value r25; revert r25; refine keep ?_; intro r25 hr25
    exact HoldsQ.mk (Holds.ite (Holds.beginDeviceReset (show HoldsM w r _ from hr25)) (show HoldsM w r _ from hr25))
  · rename_i z26 z27 z28 z29 z30 z31 z32
    exact HoldsQ.mk hb0

theorem execCfgMbxBadDoorbell_holds {b0 : Nat} {b1 : State} (hb1 : Holds w r b1) :
    HoldsR w r (execCfgMbxBadDoorbell b0 b1) := by
  unfold execCfgMbxBadDoorbell
  refine HoldsR.ite (HoldsR.next hb1) ?_
  exact HoldsR.ite (HoldsR.next (Holds.setReg hb1)) (HoldsR.next (Holds.mbxAnswer hb1))

theorem execFieldRead_holds {b0 : Nat} {b1 : List CfgRec} {b2 : State} (hb2 : Holds w r b2) :
    HoldsR w r (execFieldRead b0 b1 b2) := by
  unfold execFieldRead
  exact HoldsR.mbxDo hb2 (fun t0 h1 => HoldsQ.cfgRequest h1)

theorem execFieldWrite_holds {b0 : Nat} {b1 : List CfgRec} {b2 : State} (hb2 : Holds w r b2) :
    HoldsR w r (execFieldWrite b0 b1 b2) := by
  unfold execFieldWrite
  exact HoldsR.mbxDo hb2 (fun t0 h1 => HoldsQ.cfgRequest h1)

theorem execImageAbort_holds {b0 : Nat} {b1 : State} (hb1 : Holds w r b1) : HoldsR w r (execImageAbort b0 b1) := by
  unfold execImageAbort
  exact HoldsR.mbxDo hb1 (fun t0 h1 => HoldsQ.cfgRequest h1)

theorem execImageBegin_holds {b0 : Nat} {b1 : CfgHeader} {b2 : Nat} {b3 : State} (hb3 : Holds w r b3) :
    HoldsR w r (execImageBegin b0 b1 b2 b3) := by
  unfold execImageBegin
  exact HoldsR.mbxDo hb3 (fun t0 h1 => HoldsQ.cfgRequest h1)

theorem execImageChunk_holds {b0 b1 b2 : Nat} {b3 : List CfgRec} {b4 : State} (hb4 : Holds w r b4) :
    HoldsR w r (execImageChunk b0 b1 b2 b3 b4) := by
  unfold execImageChunk
  exact HoldsR.mbxDo hb4 (fun t0 h1 => HoldsQ.cfgRequest h1)

theorem execImageCommit_holds {b0 : Nat} {b1 : Chain} {b2 : State} (hb2 : Holds w r b2) :
    HoldsR w r (execImageCommit b0 b1 b2) := by
  unfold execImageCommit
  exact HoldsR.mbxDo hb2 (fun t0 h1 => HoldsQ.cfgRequest h1)

theorem execImageSessionTimeout_holds {b0 : State} (hb0 : Holds w r b0) :
    HoldsR w r (execImageSessionTimeout b0) := by
  unfold execImageSessionTimeout
  extract_lets +onlyGivenNames live0
  exact HoldsR.next (Holds.inMgmt hb0)

theorem execMiBasicManagementCommand_holds {b0 : State} (hb0 : Holds w r b0) :
    HoldsR w r (execMiBasicManagementCommand b0) := by
  unfold execMiBasicManagementCommand
  refine HoldsR.ite (HoldsR.next hb0) ?_
  extract_lets +onlyGivenNames s0
  have hs0 : Holds w r s0 := Holds.miFrame hb0
  clear_value s0; revert s0; refine keep ?_; intro s0 hs0
  exact HoldsR.next (Holds.emit hs0)

theorem execMiConfigurationGet_holds {b0 b1 b2 : Nat} {b3 : State} (hb3 : Holds w r b3) :
    HoldsR w r (execMiConfigurationGet b0 b1 b2 b3) := by
  unfold execMiConfigurationGet
  exact HoldsR.mi hb3 (fun t0 h1 => Holds.ite (Holds.miReply h1) (Holds.miReply h1))

theorem execMiConfigurationSet_holds {b0 b1 b2 b3 : Nat} {b4 : State} (hb4 : Holds w r b4) :
    HoldsR w r (execMiConfigurationSet b0 b1 b2 b3 b4) := by
  unfold execMiConfigurationSet
  refine HoldsR.mi hb4 (fun t0 h1 => ?_)
  refine Holds.ite (Holds.miReply h1) ?_
  refine Holds.ite (Holds.miReply (Holds.inMgmt h1)) ?_
  extract_lets +onlyGivenNames t2
  exact Holds.miReply (Holds.inMgmt h1)

theorem execMiControlPrimitive_holds {b0 b1 b2 : Nat} {b3 : State} (hb3 : Holds w r b3) :
    HoldsR w r (execMiControlPrimitive b0 b1 b2 b3) := by
  unfold execMiControlPrimitive
  refine HoldsR.ite (HoldsR.next hb3) ?_
  extract_lets +onlyGivenNames s0
  have hs0 : Holds w r s0 := Holds.miFrame hb3
  clear_value s0; revert s0; refine keep ?_; intro s0 hs0
  extract_lets +onlyGivenNames paused1 paused2
  have hpaused2 : ∀ a0, Holds w r (paused2 a0) := fun x3 => Holds.inMgmt hs0
  split
  · rename_i z4
    exact HoldsR.next (Holds.emit (hpaused2 _))
  · rename_i z5
    exact HoldsR.next (Holds.emit (hpaused2 _))
  · rename_i z6
    exact HoldsR.next (Holds.emit hs0)
  · rename_i z7
    exact HoldsR.next (Holds.emit hs0)
  · rename_i z8
    exact HoldsR.next (Holds.emit hs0)
  · rename_i z9 z10 z11 z12 z13 z14
    exact HoldsR.next hs0

theorem execMiHealthStatusPoll_holds {b0 : Nat} {b1 b2 : Bool} {b3 : State} (hb3 : Holds w r b3) :
    HoldsR w r (execMiHealthStatusPoll b0 b1 b2 b3) := by
  unfold execMiHealthStatusPoll
  refine HoldsR.mi hb3 (fun t0 h1 => ?_)
  extract_lets +onlyGivenNames w2 now3 changed4 s5 s6
  have hs6 : Holds w r s6 := Holds.ite (Holds.inMgmt h1) h1
  clear_value s6; revert s6; refine keep ?_; intro s6 hs6
  exact Holds.miReply hs6

theorem execMiKilnLogRead_holds {b0 b1 b2 : Nat} {b3 : State} (hb3 : Holds w r b3) :
    HoldsR w r (execMiKilnLogRead b0 b1 b2 b3) := by
  unfold execMiKilnLogRead
  exact HoldsR.mi hb3 (fun t0 h1 => Holds.miReply h1)

theorem execMiReadDataStructure_holds {b0 b1 : Nat} {b2 : State} (hb2 : Holds w r b2) :
    HoldsR w r (execMiReadDataStructure b0 b1 b2) := by
  unfold execMiReadDataStructure
  refine HoldsR.mi hb2 (fun t0 h1 => ?_)
  split
  · rename_i z2
    exact Holds.miReply h1
  · rename_i z3
    exact Holds.miReply h1
  · rename_i z4
    exact Holds.miReply h1
  · rename_i z5
    exact Holds.miReply h1
  · rename_i z6
    exact Holds.miReply h1
  · rename_i z7 z8 z9 z10 z11 z12
    exact Holds.miReply h1

theorem execMiReset_holds {b0 : Nat} {b1 : State} (hb1 : Holds w r b1) : HoldsR w r (execMiReset b0 b1) := by
  unfold execMiReset
  exact HoldsR.mi hb1 (fun t0 h1 => Holds.beginDeviceReset (Holds.miReply h1))

theorem execMiTunnelledAdmin_holds {b0 b1 : Nat} {b2 : List Nat} {b3 : State} (hb3 : Holds w r b3) :
    HoldsR w r (execMiTunnelledAdmin b0 b1 b2 b3) := by
  unfold execMiTunnelledAdmin
  refine HoldsR.mi hb3 (fun t0 h1 => ?_)
  refine Holds.ite h1 ?_
  extract_lets +onlyGivenNames r2
  have hr2 : HoldsQ w r r2 := HoldsQ.tunnelled h1
  clear_value r2; revert r2; refine keep ?_; intro r2 hr2
  exact Holds.miReply (show HoldsQ w r _ from hr2)

theorem execMiVpdRead_holds {b0 b1 b2 : Nat} {b3 : State} (hb3 : Holds w r b3) :
    HoldsR w r (execMiVpdRead b0 b1 b2 b3) := by
  unfold execMiVpdRead
  exact HoldsR.mi hb3 (fun t0 h1 => Holds.ite (Holds.miReply h1) (Holds.miReply h1))

theorem execMiVpdWrite_holds {b0 b1 : Nat} {b2 : List Nat} {b3 : State} (hb3 : Holds w r b3) :
    HoldsR w r (execMiVpdWrite b0 b1 b2 b3) := by
  unfold execMiVpdWrite
  refine HoldsR.mi hb3 (fun t0 h1 => ?_)
  refine Holds.ite (Holds.miReply h1) ?_
  extract_lets +onlyGivenNames t2
  exact Holds.miReply (Holds.inMgmt h1)

theorem execNsModeSet_holds {b0 b1 : Nat} {b2 : State} (hb2 : Holds w r b2) :
    HoldsR w r (execNsModeSet b0 b1 b2) := by
  unfold execNsModeSet
  exact HoldsR.mbxDo hb2 (fun t0 h1 => HoldsQ.cfgRequest h1)

theorem execStewardMailboxTimeout_holds {b0 : State} (hb0 : Holds w r b0) :
    HoldsR w r (execStewardMailboxTimeout b0) := by
  unfold execStewardMailboxTimeout
  exact HoldsR.next (Holds.report hb0)

theorem Holds.modFunc {b0 : State} {b1 : Nat} {b2 : PFunc → PFunc} (hb0 : Holds w r b0) :
    Holds w r (State.modFunc b0 b1 b2) := by
  unfold State.modFunc
  exact Holds.inPcie hb0

theorem Holds.configWrite {b0 : State} {b1 : Nat} {b2 : PField} {b3 : Nat} (hb0 : Holds w r b0) :
    Holds w r (State.configWrite b0 b1 b2 b3) := by
  unfold State.configWrite
  split
  · rename_i z0 z1 z2
    exact Holds.modInst hb0
  · rename_i z3 z4 z5
    exact Holds.modInst hb0
  · rename_i z6 z7
    exact Holds.modFunc hb0
  · rename_i z8 z9 z10
    exact Holds.modFunc hb0
  · rename_i z11 z12
    exact Holds.ite (Holds.modFunc hb0) hb0
  · rename_i z13 z14
    exact Holds.modFunc hb0
  · rename_i z15 z16
    exact Holds.modFunc hb0
  · rename_i z17 z18
    exact Holds.modFunc hb0
  · rename_i z19 z20 z21 z22
    exact Holds.modFunc hb0
  · rename_i z23 z24
    exact Holds.modFunc hb0
  · rename_i z25 z26
    exact Holds.modFunc hb0
  · rename_i z27 z28 z29
    refine Holds.ite hb0 ?_
    extract_lets +onlyGivenNames ide30 ide31
    exact Holds.ideRelease (Holds.inPcie hb0)
  · rename_i z32 z33 z34
    exact Holds.ite (Holds.modInst hb0) hb0
  · rename_i z35 z36 z37
    exact Holds.modInst hb0
  · rename_i z38
    exact hb0
  · rename_i z39
    exact hb0
  · rename_i z40
    exact hb0
  · rename_i z41
    exact hb0
  · rename_i z42
    exact Holds.functionReset hb0
  · rename_i z43 z44
    exact Holds.modFunc hb0

theorem Holds.configRequest {b0 : State} {b1 : Nat} {b2 : PField} {b3 : Bool} {b4 : Nat} (hb0 : Holds w r b0) :
    Holds w r (State.configRequest b0 b1 b2 b3 b4) := by
  unfold State.configRequest
  exact Holds.ite (Holds.emit (Holds.configWrite hb0)) (Holds.emit hb0)

theorem Holds.modDoe {b0 : State} {b1 : Nat} {b2 : DoeBox → DoeBox} (hb0 : Holds w r b0) :
    Holds w r (State.modDoe b0 b1 b2) := by
  unfold State.modDoe
  exact Holds.inPcie hb0

theorem Holds.doeReply {b0 : State} {b1 : Nat} {b2 : List Nat} (hb0 : Holds w r b0) :
    Holds w r (State.doeReply b0 b1 b2) := by
  unfold State.doeReply
  exact Holds.emit (Holds.modDoe hb0)

theorem Holds.dropHeld {b0 : State} (hb0 : Holds w r b0) : Holds w r (State.dropHeld b0) := by
  unfold State.dropHeld
  exact Holds.inPcie hb0

theorem Holds.ideInsecure {b0 : State} (hb0 : Holds w r b0) : Holds w r (State.ideInsecure b0) := by
  unfold State.ideInsecure
  extract_lets +onlyGivenNames ide0 ide1
  exact Holds.inPcie hb0

theorem Holds.settleClkreq {b0 : State} (hb0 : Holds w r b0) : Holds w r (State.settleClkreq b0) := by
  unfold State.settleClkreq
  extract_lets +onlyGivenNames low0
  exact Holds.inPcie hb0

theorem Holds.modPort {b0 : State} {b1 : Nat} {b2 : PPort → PPort} (hb0 : Holds w r b0) :
    Holds w r (State.modPort b0 b1 b2) := by
  unfold State.modPort
  exact Holds.modPortAt hb0

theorem Holds.linkL0 {b0 : State} {b1 : Nat} (hb0 : Holds w r b0) : Holds w r (State.linkL0 b0 b1) := by
  unfold State.linkL0
  extract_lets +onlyGivenNames s0
  have hs0 : Holds w r s0 := Holds.settleClkreq (Holds.modPort hb0)
  clear_value s0; revert s0; refine keep ?_; intro s0 hs0
  exact Holds.inPcie hs0

theorem Holds.spdmError {b0 : State} {b1 b2 : Nat} (hb0 : Holds w r b0) : Holds w r (State.spdmError b0 b1 b2) := by
  unfold State.spdmError
  exact Holds.doeReply hb0

theorem execAspmL1Entry_holds {b0 b1 : Nat} {b2 : State} (hb2 : Holds w r b2) :
    HoldsR w r (execAspmL1Entry b0 b1 b2) := by
  unfold execAspmL1Entry
  extract_lets +onlyGivenNames f0
  refine HoldsR.ite (HoldsR.next hb2) ?_
  extract_lets +onlyGivenNames l1
  exact HoldsR.next (Holds.settleClkreq (Holds.modPort hb2))

theorem execAspmL1Exit_holds {b0 : Nat} {b1 : State} (hb1 : Holds w r b1) : HoldsR w r (execAspmL1Exit b0 b1) := by
  unfold execAspmL1Exit
  exact HoldsR.ite (HoldsR.next hb1) (HoldsR.next (Holds.linkL0 hb1))

theorem execConfigurationRequest_holds {b0 : Nat} {b1 : PField} {b2 : Bool} {b3 : Nat} {b4 : State}
    (hb4 : Holds w r b4) :
    HoldsR w r (execConfigurationRequest b0 b1 b2 b3 b4) := by
  unfold execConfigurationRequest
  refine HoldsR.ite (HoldsR.next hb4) ?_
  refine HoldsR.ite (HoldsR.next (Holds.emit hb4)) ?_
  extract_lets +onlyGivenNames s0
  have hs0 : Holds w r s0 := Holds.hostAccess hb4
  clear_value s0; revert s0; refine keep ?_; intro s0 hs0
  exact HoldsR.next (Holds.ite (Holds.configRequest hs0) (Holds.inPower hs0))

theorem execControllerReset_holds {b0 : State} (hb0 : Holds w r b0) : HoldsR w r (execControllerReset b0) := by
  unfold execControllerReset
  exact HoldsR.next (Holds.ite (Holds.controllerReset hb0) hb0)

theorem execDoeAbort_holds {b0 : Nat} {b1 : State} (hb1 : Holds w r b1) : HoldsR w r (execDoeAbort b0 b1) := by
  unfold execDoeAbort
  exact HoldsR.ite (HoldsR.next hb1) (HoldsR.next (Holds.modDoe hb1))

theorem execDoeObject_holds {b0 : Nat} {b1 : List Nat} {b2 : State} (hb2 : Holds w r b2) :
    HoldsR w r (execDoeObject b0 b1 b2) := by
  unfold execDoeObject
  extract_lets +onlyGivenNames h0 type1
  refine HoldsR.ite (HoldsR.next hb2) ?_
  extract_lets +onlyGivenNames s2
  have hs2 : Holds w r s2 := Holds.modDoe hb2
  clear_value s2; revert s2; refine keep ?_; intro s2 hs2
  refine HoldsR.ite ?_ (HoldsR.next hs2)
  extract_lets +onlyGivenNames k3
  exact HoldsR.next (Holds.doeReply hs2)

theorem execIdeIntegrityCheckFailure_holds {b0 : State} (hb0 : Holds w r b0) :
    HoldsR w r (execIdeIntegrityCheckFailure b0) := by
  unfold execIdeIntegrityCheckFailure
  exact HoldsR.ite (HoldsR.next hb0) (HoldsR.next (Holds.report (Holds.modPort (Holds.ideInsecure hb0))))

theorem execIdeKmRequest_holds {b0 b1 b2 b3 b4 b5 : Nat} {b6 : State} (hb6 : Holds w r b6) :
    HoldsR w r (execIdeKmRequest b0 b1 b2 b3 b4 b5 b6) := by
  unfold execIdeKmRequest
  extract_lets +onlyGivenNames x0 set1 set2
  have hset2 : ∀ a0, Holds w r (set2 a0) := fun x3 => Holds.ideRelease (Holds.inPcie hb6)
  extract_lets +onlyGivenNames ok4
  refine HoldsR.ite (HoldsR.next hb6) ?_
  split
  · rename_i z5
    exact HoldsR.next (Holds.doeReply hb6)
  · rename_i z6
    exact HoldsR.ite (HoldsR.next (Holds.doeReply (hset2 _))) (HoldsR.next (Holds.doeReply hb6))
  · rename_i z7
    exact HoldsR.ite (HoldsR.next (Holds.doeReply (hset2 _))) (HoldsR.next (Holds.doeReply hb6))
  · rename_i z8
    refine HoldsR.ite ?_ (HoldsR.next (Holds.doeReply hb6))
    extract_lets +onlyGivenNames inUse9
    exact HoldsR.next (Holds.doeReply (hset2 _))
  · rename_i z10 z11 z12 z13 z14
    exact HoldsR.next hb6

theorem execL0pNarrow_holds {b0 : Nat} {b1 : State} (hb1 : Holds w r b1) : HoldsR w r (execL0pNarrow b0 b1) := by
  unfold execL0pNarrow
  extract_lets +onlyGivenNames p0
  exact HoldsR.ite (HoldsR.next hb1) (HoldsR.next (Holds.modPort hb1))

theorem execL0pWiden_holds {b0 : Nat} {b1 : State} (hb1 : Holds w r b1) : HoldsR w r (execL0pWiden b0 b1) := by
  unfold execL0pWiden
  extract_lets +onlyGivenNames p0
  exact HoldsR.ite (HoldsR.next hb1) (HoldsR.next (Holds.modPort hb1))

theorem execLinkDown_holds {b0 : Nat} {b1 : State} (hb1 : Holds w r b1) : HoldsR w r (execLinkDown b0 b1) := by
  unfold execLinkDown
  refine HoldsR.ite (HoldsR.next hb1) ?_
  extract_lets +onlyGivenNames s0
  have hs0 : Holds w r s0 := Holds.settleClkreq (Holds.modPort hb1)
  clear_value s0; revert s0; refine keep ?_; intro s0 hs0
  exact HoldsR.next (Holds.ite (Holds.dropHeld (Holds.ideInsecure hs0)) hs0)

theorem execLinkUp_holds {b0 b1 b2 : Nat} {b3 : State} (hb3 : Holds w r b3) :
    HoldsR w r (execLinkUp b0 b1 b2 b3) := by
  unfold execLinkUp
  extract_lets +onlyGivenNames widths0
  exact HoldsR.ite (HoldsR.next hb3) (HoldsR.next (Holds.linkL0 (Holds.modPort hb3)))

theorem execMsixVectorUnmask_holds {b0 b1 : Nat} {b2 : State} (hb2 : Holds w r b2) :
    HoldsR w r (execMsixVectorUnmask b0 b1 b2) := by
  unfold execMsixVectorUnmask
  extract_lets +onlyGivenNames x0 s1
  have hs1 : Holds w r s1 := Holds.modInst hb2
  clear_value s1; revert s1; refine keep ?_; intro s1 hs1
  exact HoldsR.next (Holds.ite (Holds.emit hs1) hs1)

theorem execNvmSubsystemReset_holds {b0 : State} (hb0 : Holds w r b0) : HoldsR w r (execNvmSubsystemReset b0) := by
  unfold execNvmSubsystemReset
  exact HoldsR.next (Holds.beginDeviceReset hb0)

theorem execPcieReadError_holds {b0 b1 : Nat} {b2 : State} (hb2 : Holds w r b2) :
    HoldsR w r (execPcieReadError b0 b1 b2) := by
  unfold execPcieReadError
  extract_lets +onlyGivenNames r0 p1
  exact HoldsR.ite (HoldsR.next hb2) (HoldsR.next (Holds.reportHost (Holds.modPort (Holds.failTag hb2))))

theorem execPerstAssert_holds {b0 b1 : Nat} {b2 : State} (hb2 : Holds w r b2) :
    HoldsR w r (execPerstAssert b0 b1 b2) := by
  unfold execPerstAssert
  refine HoldsR.ite (HoldsR.next hb2) ?_
  extract_lets +onlyGivenNames s0
  have hs0 : Holds w r s0 := Holds.modPort hb2
  clear_value s0; revert s0; refine keep ?_; intro s0 hs0
  extract_lets +onlyGivenNames s1
  have hs1 : Holds w r s1 := Holds.ite (Holds.dropHeld (Holds.ideInsecure hs0)) hs0
  clear_value s1; revert s1; refine keep ?_; intro s1 hs1
  extract_lets +onlyGivenNames s2
  have hs2 : Holds w r s2 := Holds.ite hs1 (Holds.wake hs1)
  clear_value s2; revert s2; refine keep ?_; intro s2 hs2
  exact HoldsR.next (Holds.ite (Holds.resetPort hs2) (Holds.beginDeviceReset hs2))

theorem execPerstRelease_holds {b0 : Nat} {b1 : State} (hb1 : Holds w r b1) :
    HoldsR w r (execPerstRelease b0 b1) := by
  unfold execPerstRelease
  exact HoldsR.ite (HoldsR.next hb1) (HoldsR.next (Holds.modPort hb1))

theorem execSpdmGetMeasurements_holds {b0 b1 : Nat} {b2 : State} (hb2 : Holds w r b2) :
    HoldsR w r (execSpdmGetMeasurements b0 b1 b2) := by
  unfold execSpdmGetMeasurements
  refine HoldsR.ite (HoldsR.next hb2) ?_
  split
  · rename_i z0 z1
    exact HoldsR.next (Holds.spdmError hb2)
  · rename_i z2 z3 z4
    extract_lets +onlyGivenNames m5
    exact HoldsR.next (Holds.doeReply hb2)

theorem execSpdmRequest_holds {b0 b1 b2 : Nat} {b3 : List Nat} {b4 : State} (hb4 : Holds w r b4) :
    HoldsR w r (execSpdmRequest b0 b1 b2 b3 b4) := by
  unfold execSpdmRequest
  extract_lets +onlyGivenNames b0 key1 answer2
  have hanswer2 : ∀ a0, Holds w r a0 → Holds w r (answer2 a0) := fun t3 h4 => Holds.doeReply h4
  refine HoldsR.ite (HoldsR.next hb4) ?_
  split
  · rename_i z5
    exact HoldsR.next (Holds.doeReply hb4)
  · rename_i z6
    exact HoldsR.next (hanswer2 _ hb4)
  · rename_i z7
    exact HoldsR.next (hanswer2 _ hb4)
  · rename_i z8
    exact HoldsR.ite (HoldsR.next (Holds.spdmError hb4)) (HoldsR.next (hanswer2 _ hb4))
  · rename_i z9
    exact HoldsR.ite (HoldsR.next (Holds.spdmError hb4)) (HoldsR.next (hanswer2 _ hb4))
  · rename_i z10
    exact HoldsR.ite (HoldsR.next (Holds.spdmError hb4)) (HoldsR.next (hanswer2 _ hb4))
  · rename_i z11
    refine HoldsR.ite (HoldsR.next (Holds.spdmError hb4)) ?_
    refine HoldsR.ite (HoldsR.next (Holds.spdmError hb4)) ?_
    extract_lets +onlyGivenNames id12 s13
    have hs13 : Holds w r s13 := Holds.modDoe hb4
    clear_value s13; revert s13; refine keep ?_; intro s13 hs13
    exact HoldsR.next (Holds.doeReply hs13)
  · rename_i z14
    exact HoldsR.ite (HoldsR.next (hanswer2 _ hb4)) (HoldsR.next (Holds.spdmError hb4))
  · rename_i z15
    exact HoldsR.ite (HoldsR.next (hanswer2 _ hb4)) (HoldsR.next (Holds.spdmError hb4))
  · rename_i z16
    exact HoldsR.ite (HoldsR.next (hanswer2 _ hb4)) (HoldsR.next (Holds.spdmError hb4))
  · rename_i z17
    exact HoldsR.ite (HoldsR.next (Holds.doeReply (Holds.modDoe hb4))) (HoldsR.next (Holds.spdmError hb4))
  · rename_i z18 z19 z20 z21 z22 z23 z24 z25 z26 z27 z28 z29
    exact HoldsR.next (Holds.spdmError hb4)

theorem execWakeNAssert_holds {b0 : Nat} {b1 : State} (hb1 : Holds w r b1) : HoldsR w r (execWakeNAssert b0 b1) := by
  unfold execWakeNAssert
  extract_lets +onlyGivenNames x0 mine1
  exact HoldsR.ite (HoldsR.next (Holds.emit (Holds.inPcie hb1))) (HoldsR.next hb1)

theorem Holds.avsConfirmed {b0 : State} {b1 : Nat} (hb0 : Holds w r b0) : Holds w r (State.avsConfirmed b0 b1) := by
  unfold State.avsConfirmed
  exact Holds.inPower hb0

theorem Holds.avsFailed {b0 : State} {b1 : Nat} (hb0 : Holds w r b0) : Holds w r (State.avsFailed b0 b1) := by
  unfold State.avsFailed
  exact Holds.report (Holds.bump (Holds.inPower hb0))

theorem Holds.serveHeld {b0 : State} {b1 : Nat × Option (PField × Bool × Nat)} (hb0 : Holds w r b0) :
    Holds w r (State.serveHeld b0 b1) := by
  unfold State.serveHeld
  split
  · rename_i z0 z1
    exact Holds.functionReset hb0
  · rename_i z2 z3 z4 z5 z6
    exact Holds.configRequest hb0

theorem Holds.resumeAll {b0 : State} (hb0 : Holds w r b0) : Holds w r (State.resumeAll b0) := by
  unfold State.resumeAll
  extract_lets +onlyGivenNames held0 s1 s2
  have hs2 : Holds w r s2 := Holds.inPower hb0
  clear_value s2; revert s2; refine keep ?_; intro s2 hs2
  exact Holds.ltrUpdate (Holds.each hs2 (fun t3 x5 h4 => Holds.serveHeld h4))

theorem execAonDiodeRead_holds {b0 b1 : ℤ} {b2 : State} (hb2 : Holds w r b2) :
    HoldsR w r (execAonDiodeRead b0 b1 b2) := by
  unfold execAonDiodeRead
  refine HoldsR.next ?_
  refine Holds.ite hb2 ?_
  extract_lets +onlyGivenNames h0
  exact Holds.upd (x := b2) hb2 rfl rfl rfl rfl rfl rfl rfl

theorem execApstIdleExpiry_holds {b0 : Option (Nat × Nat)} {b1 : State} (hb1 : Holds w r b1) :
    HoldsR w r (execApstIdleExpiry b0 b1) := by
  unfold execApstIdleExpiry
  refine HoldsR.next ?_
  split
  · rename_i z0 z1 z2
    exact Holds.ite (Holds.entryStart (Holds.inPower hb1)) hb1
  · rename_i z3 z4
    exact hb1

theorem execAvsExitRetry_holds {b0 : AvsAnswer} {b1 : State} (hb1 : Holds w r b1) :
    HoldsR w r (execAvsExitRetry b0 b1) := by
  unfold execAvsExitRetry
  refine HoldsR.next ?_
  refine Holds.ite hb1 ?_
  extract_lets +onlyGivenNames mv0 ok1 s2
  have hs2 : Holds w r s2 := Holds.avsRead (Holds.emit hb1)
  clear_value s2; revert s2; refine keep ?_; intro s2 hs2
  exact Holds.ite (Holds.avsConfirmed hs2) (Holds.avsFailed hs2)

theorem execAvsStepRequest_holds {b0 : Nat} {b1 : State} (hb1 : Holds w r b1) :
    HoldsR w r (execAvsStepRequest b0 b1) := by
  unfold execAvsStepRequest
  exact HoldsR.next (Holds.coneStep hb1)

theorem execAvsStepResult_holds {b0 : AvsAnswer} {b1 : State} (hb1 : Holds w r b1) :
    HoldsR w r (execAvsStepResult b0 b1) := by
  unfold execAvsStepResult
  split
  · rename_i z0 z1
    exact HoldsR.next hb1
  · rename_i z2 z3 z4
    refine HoldsR.ite (HoldsR.next hb1) ?_
    extract_lets +onlyGivenNames ok5 s6
    have hs6 : Holds w r s6 := Holds.avsRead hb1
    clear_value s6; revert s6; refine keep ?_; intro s6 hs6
    refine HoldsR.next ?_
    refine Holds.ite ?_ (Holds.ite (Holds.avsFailed hs6) (Holds.avsWrite hs6))
    extract_lets +onlyGivenNames s7
    have hs7 : Holds w r s7 := Holds.avsConfirmed hs6
    clear_value s7; revert s7; refine keep ?_; intro s7 hs7
    exact Holds.ite (Holds.reportTransient (Holds.bump hs7)) hs7

theorem execDomainIdleGate_holds {b0 : Nat} {b1 : State} (hb1 : Holds w r b1) :
    HoldsR w r (execDomainIdleGate b0 b1) := by
  unfold execDomainIdleGate
  refine HoldsR.next ?_
  extract_lets +onlyGivenNames ok0
  exact Holds.ite (Holds.inPower hb1) hb1

theorem execEntryBackoffRetry_holds {b0 : Option (Nat × Nat)} {b1 : State} (hb1 : Holds w r b1) :
    HoldsR w r (execEntryBackoffRetry b0 b1) := by
  unfold execEntryBackoffRetry
  refine HoldsR.next ?_
  split
  · rename_i z0 z1 z2 z3 z4 z5
    exact Holds.ite hb1 (Holds.ite (Holds.entryStart hb1) (Holds.inPower hb1))
  · rename_i z6 z7 z8
    exact hb1

theorem execExitComplete_holds {b0 : State} (hb0 : Holds w r b0) : HoldsR w r (execExitComplete b0) := by
  unfold execExitComplete
  split
  · rename_i z0 z1
    exact HoldsR.next hb0
  · rename_i z2 z3 z4 z5
    refine HoldsR.ite (HoldsR.next hb0) ?_
    extract_lets +onlyGivenNames s6
    have hs6 : Holds w r s6 := Holds.startInterior hb0
    clear_value s6; revert s6; refine keep ?_; intro s6 hs6
    extract_lets +onlyGivenNames s7 s8
    have hs8 : Holds w r s8 := Holds.upd (x := s6) hs6 rfl rfl rfl rfl rfl rfl rfl
    clear_value s8; revert s8; refine keep ?_; intro s8 hs8
    extract_lets +onlyGivenNames s9
    have hs9 : Holds w r s9 := Holds.setReg hs8
    clear_value s9; revert s9; refine keep ?_; intro s9 hs9
    refine HoldsR.ite ?_ (HoldsR.next (Holds.resumeAll hs9))
    extract_lets +onlyGivenNames s10 s11
    have hs11 : Holds w r s11 := Holds.inPower hs9
    clear_value s11; revert s11; refine keep ?_; intro s11 hs11
    exact HoldsR.next (Holds.setG hs11)

theorem execIsolationGateWake_holds {b0 : Nat} {b1 : State} (hb1 : Holds w r b1) :
    HoldsR w r (execIsolationGateWake b0 b1) := by
  unfold execIsolationGateWake
  exact HoldsR.next (Holds.gateWake hb1)

theorem execMaintenanceReentry_holds {b0 : Option (Nat × Nat)} {b1 : State} (hb1 : Holds w r b1) :
    HoldsR w r (execMaintenanceReentry b0 b1) := by
  unfold execMaintenanceReentry
  split
  · rename_i z0 z1
    exact HoldsR.next hb1
  · rename_i z2 z3 z4
    refine HoldsR.ite (HoldsR.next hb1) ?_
    extract_lets +onlyGivenNames s5
    have hs5 : Holds w r s5 := Holds.flushAll (Holds.trailRec (Holds.park (Holds.mapAll (Holds.flushAll hb1))))
    clear_value s5; revert s5; refine keep ?_; intro s5 hs5
    split
    · rename_i z6 z7 z8 z9
      exact HoldsR.next (Holds.voteRefused hs5)
    · rename_i z10 z11
      extract_lets +onlyGivenNames s12
      have hs12 : Holds w r s12 := Holds.endMaint (Holds.stopInterior hs5)
      clear_value s12; revert s12; refine keep ?_; intro s12 hs12
      exact HoldsR.next (Holds.inPower hs12)

theorem execMaintenanceWake_holds {b0 : State} (hb0 : Holds w r b0) : HoldsR w r (execMaintenanceWake b0) := by
  unfold execMaintenanceWake
  exact HoldsR.next (Holds.ite hb0 (Holds.exitStart hb0))

theorem execNonopEntryStart_holds {b0 : Nat} {b1 : Option (Nat × Nat)} {b2 : State} (hb2 : Holds w r b2) :
    HoldsR w r (execNonopEntryStart b0 b1 b2) := by
  unfold execNonopEntryStart
  exact HoldsR.next (Holds.ite (Holds.entryStart hb2) hb2)

theorem execNonopStateReached_holds {b0 : Bool} {b1 : State} (hb1 : Holds w r b1) :
    HoldsR w r (execNonopStateReached b0 b1) := by
  unfold execNonopStateReached
  split
  · rename_i z0 z1
    exact HoldsR.next hb1
  · rename_i z2 z3 z4
    refine HoldsR.ite (HoldsR.next hb1) ?_
    refine HoldsR.ite (HoldsR.next (Holds.endEntry hb1)) ?_
    split
    · rename_i z5 z6 z7
      exact HoldsR.next (Holds.voteRefused (Holds.setDomains hb1))
    · rename_i z8 z9
      extract_lets +onlyGivenNames s10
      have hs10 : Holds w r s10 := Holds.stopInterior hb1
      clear_value s10; revert s10; refine keep ?_; intro s10 hs10
      extract_lets +onlyGivenNames s11 s12
      have hs12 : Holds w r s12 := Holds.inPower hs10
      clear_value s12; revert s12; refine keep ?_; intro s12 hs12
      exact HoldsR.next (Holds.ltrUpdate hs12)

theorem execOffDomainRead_holds {b0 : Nat} {b1 : State} (hb1 : Holds w r b1) :
    HoldsR w r (execOffDomainRead b0 b1) := by
  unfold execOffDomainRead
  exact HoldsR.next (Holds.ite (Holds.emit (Holds.setReg hb1)) (Holds.emit hb1))

theorem execPs3Ps4Change_holds {b0 : State} (hb0 : Holds w r b0) : HoldsR w r (execPs3Ps4Change b0) := by
  unfold execPs3Ps4Change
  refine HoldsR.next ?_
  refine Holds.ite hb0 ?_
  extract_lets +onlyGivenNames t0 s1
  have hs1 : Holds w r s1 := Holds.setDomains hb0
  clear_value s1; revert s1; refine keep ?_; intro s1 hs1
  extract_lets +onlyGivenNames s2 s3
  have hs3 : Holds w r s3 := Holds.inCone hs1
  clear_value s3; revert s3; refine keep ?_; intro s3 hs3
  exact Holds.ltrUpdate (Holds.inPower hs3)

theorem execSetFeaturesApst_holds {b0 b1 : Nat} {b2 : Bool} {b3 : List (Nat × Nat)} {b4 : State}
    (hb4 : Holds w r b4) :
    HoldsR w r (execSetFeaturesApst b0 b1 b2 b3 b4) := by
  unfold execSetFeaturesApst
  exact HoldsR.adminDo hb4 (fun t0 h1 => HoldsQ.ite (refusedWith_holds h1) (succeeded_holds (Holds.modInst h1)))

theorem execSetFeaturesPowerManagement_holds {b0 b1 b2 : Nat} {b3 : State} (hb3 : Holds w r b3) :
    HoldsR w r (execSetFeaturesPowerManagement b0 b1 b2 b3) := by
  unfold execSetFeaturesPowerManagement
  refine HoldsR.adminDo hb3 (fun t0 h1 => ?_)
  refine HoldsQ.ite (refusedWith_holds h1) ?_
  extract_lets +onlyGivenNames s2
  have hs2 : Holds w r s2 := Holds.modInst h1
  clear_value s2; revert s2; refine keep ?_; intro s2 hs2
  refine HoldsQ.ite (succeeded_holds hs2) ?_
  exact HoldsQ.ite (succeeded_holds (Holds.enterOperational hs2)) (succeeded_holds (Holds.inPower hs2))

theorem execSetFeaturesTemperatureThreshold_holds {b0 b1 : Nat} {b2 : Bool} {b3 : Nat} {b4 : State}
    (hb4 : Holds w r b4) :
    HoldsR w r (execSetFeaturesTemperatureThreshold b0 b1 b2 b3 b4) := by
  unfold execSetFeaturesTemperatureThreshold
  refine HoldsR.adminDo hb4 (fun t0 h1 => ?_)
  split
  · rename_i z2 z3
    exact refusedWith_holds h1
  · rename_i z4 z5 z6
    have h7 := HoldsO.of_eq (w := w) (r := r) z6 (HoldsO.setThreshold h1)
    exact succeeded_holds h7

theorem execWakeDomainIdleReturn_holds {b0 : State} (hb0 : Holds w r b0) :
    HoldsR w r (execWakeDomainIdleReturn b0) := by
  unfold execWakeDomainIdleReturn
  refine HoldsR.next ?_
  split
  · rename_i z0 z1 z2
    exact Holds.ite hb0 (Holds.inPower hb0)
  · rename_i z3 z4
    exact hb0

theorem execWakeSource_holds {b0 : Nat} {b1 : State} (hb1 : Holds w r b1) : HoldsR w r (execWakeSource b0 b1) := by
  unfold execWakeSource
  exact HoldsR.next (Holds.ite hb1 (Holds.ite (Holds.wakePort hb1) (Holds.wake hb1)))

theorem Holds.dropRegistrants {b0 : State} (hb0 : Holds w r b0) : Holds w r (State.dropRegistrants b0) := by
  unfold State.dropRegistrants
  extract_lets +onlyGivenNames nss0
  exact Holds.inZone hb0

theorem Holds.tenantShut {b0 : State} {b1 b2 : Nat} (hb0 : Holds w r b0) : Holds w r (State.tenantShut b0 b1 b2) := by
  unfold State.tenantShut
  exact Holds.ite hb0 (Holds.shutdownDone (Holds.modInst hb0))

theorem execAbruptShutdown_holds {b0 : Nat} {b1 : State} (hb1 : Holds w r b1) :
    HoldsR w r (execAbruptShutdown b0 b1) := by
  unfold execAbruptShutdown
  refine HoldsR.next ?_
  refine Holds.ite (Holds.tenantShut hb1) ?_
  refine Holds.ite hb1 ?_
  extract_lets +onlyGivenNames s0
  have hs0 : Holds w r s0 := Holds.modInst hb1
  clear_value s0; revert s0; refine keep ?_; intro s0 hs0
  exact Holds.dumpStart (Holds.upd (x := s0) hs0 rfl rfl rfl rfl rfl rfl rfl)

theorem execCheckpointEnd_holds {b0 : State} (hb0 : Holds w r b0) : HoldsR w r (execCheckpointEnd b0) := by
  unfold execCheckpointEnd
  exact HoldsR.next (Holds.ite (Holds.ckptEnd hb0) hb0)

theorem execCheckpointStart_holds {b0 : State} (hb0 : Holds w r b0) : HoldsR w r (execCheckpointStart b0) := by
  unfold execCheckpointStart
  exact HoldsR.next (Holds.ite hb0 (Holds.ckptBegin (Holds.takeCfg hb0)))

theorem execDumpComplete_holds {b0 : State} (hb0 : Holds w r b0) : HoldsR w r (execDumpComplete b0) := by
  unfold execDumpComplete
  refine HoldsR.ite (HoldsR.next hb0) ?_
  extract_lets +onlyGivenNames s0
  have hs0 : Holds w r s0 := Holds.tailDurable hb0
  clear_value s0; revert s0; refine keep ?_; intro s0 hs0
  extract_lets +onlyGivenNames s1
  have hs1 : Holds w r s1 := show HoldsP w r _ from HoldsP.takeSeq hs0
  clear_value s1; revert s1; refine keep ?_; intro s1 hs1
  extract_lets +onlyGivenNames dump2 s3 s4 s5
  have hs5 : Holds w r s5 := Holds.upd (x := s1) hs1 rfl rfl rfl rfl rfl rfl rfl
  clear_value s5; revert s5; refine keep ?_; intro s5 hs5
  extract_lets +onlyGivenNames s6
  have hs6 : Holds w r s6 := Holds.setReg (Holds.setReg hs5)
  clear_value s6; revert s6; refine keep ?_; intro s6 hs6
  extract_lets +onlyGivenNames s7
  have hs7 : Holds w r s7 := Holds.abandonFences hs6
  clear_value s7; revert s7; refine keep ?_; intro s7 hs7
  extract_lets +onlyGivenNames insts8
  exact HoldsR.next (Holds.inTenant hs7)

theorem execDumpRowRelease_holds {b0 : Nat} {b1 : State} (hb1 : Holds w r b1) :
    HoldsR w r (execDumpRowRelease b0 b1) := by
  unfold execDumpRowRelease
  exact HoldsR.next (Holds.ite (Holds.trailRec hb1) hb1)

theorem execNormalShutdown_holds {b0 : Nat} {b1 : State} (hb1 : Holds w r b1) :
    HoldsR w r (execNormalShutdown b0 b1) := by
  unfold execNormalShutdown
  refine HoldsR.next ?_
  refine Holds.ite (Holds.tenantShut hb1) ?_
  refine Holds.ite hb1 ?_
  extract_lets +onlyGivenNames s0
  have hs0 : Holds w r s0 := Holds.hostAccess (Holds.modInst hb1)
  clear_value s0; revert s0; refine keep ?_; intro s0 hs0
  exact Holds.upd (x := s0) hs0 rfl rfl rfl rfl rfl rfl rfl

theorem execPwrfailAssert_holds {b0 : Nat} {b1 : State} (hb1 : Holds w r b1) :
    HoldsR w r (execPwrfailAssert b0 b1) := by
  unfold execPwrfailAssert
  refine HoldsR.next ?_
  refine Holds.ite (Holds.report (Holds.bump hb1)) ?_
  extract_lets +onlyGivenNames s0 s1
  have hs1 : Holds w r s1 := Holds.upd (x := b1) hb1 rfl rfl rfl rfl rfl rfl rfl
  clear_value s1; revert s1; refine keep ?_; intro s1 hs1
  exact Holds.ite hs1 (Holds.dumpStart (Holds.upd (x := s1) hs1 rfl rfl rfl rfl rfl rfl rfl))

theorem execPwrfailReleaseTimeout_holds {b0 : State} (hb0 : Holds w r b0) :
    HoldsR w r (execPwrfailReleaseTimeout b0) := by
  unfold execPwrfailReleaseTimeout
  refine HoldsR.next ?_
  extract_lets +onlyGivenNames s'0 s'1
  refine cut (P := Holds w r s'1) ?_ fun hs'1 => ?_
  · unfold s'1
    exact Holds.upd (x := b0) hb0 rfl rfl rfl rfl rfl rfl rfl
  clear_value s'1; revert s'1; refine keep ?_; intro s'1 hs'1
  exact Holds.ite hb0 (Holds.ite hs'1 (Holds.ite (Holds.controllerReset hs'1) (Holds.ite hs'1 hb0)))

theorem execShutdownComplete_holds {b0 : State} (hb0 : Holds w r b0) : HoldsR w r (execShutdownComplete b0) := by
  unfold execShutdownComplete
  split
  · rename_i z0 z1
    exact HoldsR.next hb0
  · rename_i z2 z3 z4
    extract_lets +onlyGivenNames y5
    refine HoldsR.ite (HoldsR.next hb0) ?_
    split
    · rename_i z6 z7
      extract_lets +onlyGivenNames s8
      have hs8 : Holds w r s8 :=
        Holds.controllerReset (Holds.drainEnd (Holds.each hb0 (fun t9 x11 h10 => Holds.endStop h10)))
      clear_value s8; revert s8; refine keep ?_; intro s8 hs8
      exact HoldsR.next (Holds.ite (Holds.dropRegistrants hs8) hs8)
    · rename_i z12
      refine HoldsR.ite (HoldsR.next hb0) ?_
      refine HoldsR.next ?_
      extract_lets +onlyGivenNames s13
      have hs13 : Holds w r s13 := Holds.modInst (Holds.drainEnd hb0)
      clear_value s13; revert s13; refine keep ?_; intro s13 hs13
      exact Holds.upd (x := s13) hs13 rfl rfl rfl rfl rfl rfl rfl
    · rename_i z14
      refine HoldsR.ite (HoldsR.next hb0) ?_
      refine HoldsR.next ?_
      extract_lets +onlyGivenNames s15
      have hs15 : Holds w r s15 := Holds.drainEnd hb0
      clear_value s15; revert s15; refine keep ?_; intro s15 hs15
      extract_lets +onlyGivenNames insts16 s17 s18
      have hs18 : Holds w r s18 := Holds.inTenant hs15
      clear_value s18; revert s18; refine keep ?_; intro s18 hs18
      exact Holds.ite (Holds.controllerReset hs18) (Holds.upd (x := s18) hs18 rfl rfl rfl rfl rfl rfl rfl)

theorem execTrailFlushDurable_holds {b0 : State} (hb0 : Holds w r b0) : HoldsR w r (execTrailFlushDurable b0) := by
  unfold execTrailFlushDurable
  refine HoldsR.next ?_
  split
  · rename_i z0 z1 z2 z3
    exact Holds.ite hb0 (Holds.flushForFence (Holds.flushDurable hb0))
  · rename_i z4 z5
    exact hb0

theorem execTrailFlushStart_holds {b0 : State} (hb0 : Holds w r b0) : HoldsR w r (execTrailFlushStart b0) := by
  unfold execTrailFlushStart
  exact HoldsR.next (Holds.flushNow hb0)

theorem Holds.harvest {b0 : State} {b1 : Nat} (hb0 : Holds w r b0) : Holds w r (State.harvest b0 b1) := by
  unfold State.harvest
  extract_lets +onlyGivenNames d0
  refine Holds.ite hb0 ?_
  extract_lets +onlyGivenNames r1
  have hr1 : HoldsP w r r1 := HoldsP.issueFence (Holds.writeCache hb0)
  clear_value r1; revert r1; refine keep ?_; intro r1 hr1
  exact Holds.modInst (show HoldsP w r _ from hr1)

theorem Holds.writeView {b0 : State} {b1 : Nat} (hb0 : Holds w r b0) : Holds w r (State.writeView b0 b1) := by
  unfold State.writeView
  exact Holds.ite hb0 (Holds.setReg hb0)

theorem execFenceComplete_holds {b0 b1 : Nat} {b2 : State} (hb2 : Holds w r b2) :
    HoldsR w r (execFenceComplete b0 b1 b2) := by
  unfold execFenceComplete
  refine HoldsR.next ?_
  split
  · rename_i z0 z1 z2
    exact Holds.ite (Holds.endFence hb2) hb2
  · rename_i z3 z4
    exact hb2

theorem execFenceIssue_holds {b0 b1 b2 b3 : Nat} {b4 : Bool} {b5 : State} (hb5 : Holds w r b5) :
    HoldsR w r (execFenceIssue b0 b1 b2 b3 b4 b5) := by
  unfold execFenceIssue
  exact HoldsR.next (Holds.ite hb5 (show HoldsP w r _ from HoldsP.issueFence hb5))

theorem execGlobalOpStallRelease_holds {b0 : State} (hb0 : Holds w r b0) :
    HoldsR w r (execGlobalOpStallRelease b0) := by
  unfold execGlobalOpStallRelease
  exact HoldsR.next (Holds.releaseStall hb0)

theorem execHarvest_holds {b0 : Nat} {b1 : State} (hb1 : Holds w r b1) : HoldsR w r (execHarvest b0 b1) := by
  unfold execHarvest
  exact HoldsR.next (Holds.mgmtWrite hb1 (fun t0 h1 => Holds.harvest h1))

theorem execHarvestComplete_holds {b0 : Nat} {b1 : State} (hb1 : Holds w r b1) :
    HoldsR w r (execHarvestComplete b0 b1) := by
  unfold execHarvestComplete
  refine HoldsR.next ?_
  extract_lets +onlyGivenNames d0
  refine Holds.ite hb1 ?_
  extract_lets +onlyGivenNames held1 s2
  refine cut (P := Holds w r s2) ?_ fun hs2 => ?_
  · unfold s2
    split
    · rename_i z3 z4 z5
      exact Holds.ite (Holds.endFence hb1) hb1
    · rename_i z6 z7
      exact hb1
  clear_value s2; revert s2; refine keep ?_; intro s2 hs2
  exact Holds.ite hs2 (Holds.modInst hs2)

theorem execSnapshotView_holds {b0 : Bool} {b1 : State} (hb1 : Holds w r b1) :
    HoldsR w r (execSnapshotView b0 b1) := by
  unfold execSnapshotView
  exact HoldsR.next (Holds.writeView hb1)

theorem Holds.applyRes {b0 : State} {b1 : Nat} {b2 : ResRec} (hb0 : Holds w r b0) :
    Holds w r (State.applyRes b0 b1 b2) := by
  unfold State.applyRes
  extract_lets +onlyGivenNames s0
  have hs0 : Holds w r s0 := Holds.ite (Holds.setCfg hb0) hb0
  clear_value s0; revert s0; refine keep ?_; intro s0 hs0
  extract_lets +onlyGivenNames s1
  have hs1 : Holds w r s1 := Holds.modInst hs0
  clear_value s1; revert s1; refine keep ?_; intro s1 hs1
  exact Holds.saveInst hs1

theorem Holds.dirtyDisable {b0 : State} (hb0 : Holds w r b0) : Holds w r (State.dirtyDisable b0) := by
  unfold State.dirtyDisable
  extract_lets +onlyGivenNames i0
  exact Holds.ite hb0 (Holds.dirtyOff hb0)

theorem Holds.dirtyEnable {b0 : State} (hb0 : Holds w r b0) : Holds w r (State.dirtyEnable b0) := by
  unfold State.dirtyEnable
  extract_lets +onlyGivenNames i0
  exact Holds.ite hb0 (Holds.ite (Holds.modInst hb0) (Holds.modInst hb0))

theorem Holds.managerAck {b0 : State} {b1 b2 : Nat} (hb0 : Holds w r b0) : Holds w r (State.managerAck b0 b1 b2) := by
  unfold State.managerAck
  extract_lets +onlyGivenNames i0
  exact Holds.ite hb0 (Holds.signalTenant (Holds.modInst hb0))

theorem Holds.managerSend {b0 : State} (hb0 : Holds w r b0) : Holds w r (State.managerSend b0) := by
  unfold State.managerSend
  extract_lets +onlyGivenNames i0 x1
  exact Holds.ite hb0 (Holds.ite (Holds.modInst hb0) (Holds.signalTenant (Holds.modInst hb0)))

theorem Holds.restoreAer {b0 : State} {b1 b2 : Nat} (hb0 : Holds w r b0) : Holds w r (State.restoreAer b0 b1 b2) := by
  unfold State.restoreAer
  split
  · rename_i z0 z1
    exact hb0
  · rename_i z2 z3 z4
    extract_lets +onlyGivenNames s5
    have hs5 : Holds w r s5 := Holds.modTag hb0
    clear_value s5; revert s5; refine keep ?_; intro s5 hs5
    exact Holds.modInst hs5

theorem Holds.ringSize {b0 : State} {b1 : Nat} (hb0 : Holds w r b0) : Holds w r (State.ringSize b0 b1) := by
  unfold State.ringSize
  exact Holds.ite hb0 (Holds.inTenant hb0)

theorem Holds.tenantAck {b0 : State} {b1 b2 b3 : Nat} (hb0 : Holds w r b0) :
    Holds w r (State.tenantAck b0 b1 b2 b3) := by
  unfold State.tenantAck
  exact Holds.ite hb0 (Holds.signalManager (Holds.modInst hb0))

theorem Holds.tenantSend {b0 : State} {b1 : Nat} (hb0 : Holds w r b0) : Holds w r (State.tenantSend b0 b1) := by
  unfold State.tenantSend
  extract_lets +onlyGivenNames x0
  exact Holds.ite hb0 (Holds.ite (Holds.modInst hb0) (Holds.signalManager (Holds.modInst hb0)))

theorem execControllerDisable_holds {b0 : Nat} {b1 : State} (hb1 : Holds w r b1) :
    HoldsR w r (execControllerDisable b0 b1) := by
  unfold execControllerDisable
  extract_lets +onlyGivenNames x0
  exact HoldsR.ite (HoldsR.next (Holds.beginStop hb1)) (HoldsR.next hb1)

theorem execControllerEnable_holds {b0 : Nat} {b1 b2 : QMem} {b3 : Bool} {b4 : State} (hb4 : Holds w r b4) :
    HoldsR w r (execControllerEnable b0 b1 b2 b3 b4) := by
  unfold execControllerEnable
  extract_lets +onlyGivenNames x0
  refine HoldsR.ite (HoldsR.next hb4) ?_
  split
  · rename_i z1 z2
    exact HoldsR.next hb4
  · rename_i z3 z4
    exact HoldsR.next hb4
  · rename_i z5 z6
    exact HoldsR.next hb4
  · rename_i z7 z8 z9 z10
    extract_lets +onlyGivenNames again11 s12 s13
    have hs13 : Holds w r s13 := Holds.ite (Holds.inIntake hb4) hb4
    clear_value s13; revert s13; refine keep ?_; intro s13 hs13
    exact HoldsR.next (Holds.modInst hs13)

theorem execDirtyLogDisable_holds {b0 : State} (hb0 : Holds w r b0) : HoldsR w r (execDirtyLogDisable b0) := by
  unfold execDirtyLogDisable
  exact HoldsR.next (Holds.mgmtWrite hb0 (fun t0 h1 => Holds.dirtyDisable h1))

theorem execDirtyLogEnable_holds {b0 : State} (hb0 : Holds w r b0) : HoldsR w r (execDirtyLogEnable b0) := by
  unfold execDirtyLogEnable
  exact HoldsR.next (Holds.mgmtWrite hb0 (fun t0 h1 => Holds.dirtyEnable h1))

theorem execFunctionLevelReset_holds {b0 : Nat} {b1 : State} (hb1 : Holds w r b1) :
    HoldsR w r (execFunctionLevelReset b0 b1) := by
  unfold execFunctionLevelReset
  extract_lets +onlyGivenNames s0
  have hs0 : Holds w r s0 := Holds.hostAccess hb1
  clear_value s0; revert s0; refine keep ?_; intro s0 hs0
  exact HoldsR.next (Holds.ite (Holds.functionReset hs0) (Holds.inPower hs0))

theorem execInstanceQuiescePause_holds {b0 b1 b2 b3 : Nat} {b4 : Bool} {b5 : State} (hb5 : Holds w r b5) :
    HoldsR w r (execInstanceQuiescePause b0 b1 b2 b3 b4 b5) := by
  unfold execInstanceQuiescePause
  refine HoldsR.admin hb5 (fun t0 h1 => ?_)
  extract_lets +onlyGivenNames x2
  refine Holds.ite (Holds.adminCqe h1) ?_
  refine Holds.ite (Holds.adminCqe h1) ?_
  exact Holds.ite (Holds.adminCqe h1) (Holds.ite (Holds.adminCqe h1) (Holds.keepWaiting (Holds.beginPause h1)))

theorem execInstanceQuiesceResume_holds {b0 b1 b2 : Nat} {b3 : Bool} {b4 : State} (hb4 : Holds w r b4) :
    HoldsR w r (execInstanceQuiesceResume b0 b1 b2 b3 b4) := by
  unfold execInstanceQuiesceResume
  refine HoldsR.adminDo hb4 (fun t0 h1 => ?_)
  refine HoldsQ.ite (refusedWith_holds h1) ?_
  refine HoldsQ.ite (refusedWith_holds h1) ?_
  refine HoldsQ.ite (refusedWith_holds h1) ?_
  split
  · rename_i z2 z3
    exact succeeded_holds (Holds.modInst h1)
  · rename_i z4 z5
    exact succeeded_holds (Holds.modInst h1)
  · rename_i z6 z7 z8
    exact refusedWith_holds h1

theorem execInstanceQuiesceStop_holds {b0 b1 b2 : Nat} {b3 : Bool} {b4 : State} (hb4 : Holds w r b4) :
    HoldsR w r (execInstanceQuiesceStop b0 b1 b2 b3 b4) := by
  unfold execInstanceQuiesceStop
  refine HoldsR.admin hb4 (fun t0 h1 => ?_)
  extract_lets +onlyGivenNames x2
  refine Holds.ite (Holds.adminCqe h1) ?_
  refine Holds.ite (Holds.adminCqe h1) ?_
  refine Holds.ite (Holds.adminCqe h1) ?_
  split
  · rename_i z3 z4
    exact Holds.adminCqe h1
  · rename_i z5 z6
    exact Holds.adminCqe h1
  · rename_i z7 z8
    exact Holds.adminCqe h1
  · rename_i z9 z10 z11 z12
    exact Holds.keepWaiting (Holds.beginStop h1)

theorem execInstanceResourcesGet_holds {b0 b1 b2 : Nat} {b3 : State} (hb3 : Holds w r b3) :
    HoldsR w r (execInstanceResourcesGet b0 b1 b2 b3) := by
  unfold execInstanceResourcesGet
  refine HoldsR.adminDo hb3 (fun t0 h1 => ?_)
  exact HoldsQ.ite (refusedWith_holds h1) (HoldsQ.ite (refusedWith_holds h1) (succeeded_holds (Holds.reply h1)))

theorem execInstanceResourcesSet_holds {b0 b1 b2 : Nat} {b3 : ResRec} {b4 : Bool} {b5 : State} (hb5 : Holds w r b5) :
    HoldsR w r (execInstanceResourcesSet b0 b1 b2 b3 b4 b5) := by
  unfold execInstanceResourcesSet
  refine HoldsR.adminDo hb5 (fun t0 h1 => ?_)
  refine HoldsQ.ite (refusedWith_holds h1) ?_
  refine HoldsQ.ite (refusedWith_holds h1) ?_
  exact HoldsQ.ite (refusedWith_holds h1) (HoldsQ.ite (refusedWith_holds h1) (succeeded_holds (Holds.applyRes h1)))

theorem execInstanceStateRestore_holds {b0 b1 b2 : Nat} {b3 : InstRec} {b4 : State} (hb4 : Holds w r b4) :
    HoldsR w r (execInstanceStateRestore b0 b1 b2 b3 b4) := by
  unfold execInstanceStateRestore
  refine HoldsR.adminDo hb4 (fun t0 h1 => ?_)
  extract_lets +onlyGivenNames x2
  refine HoldsQ.ite (refusedWith_holds h1) ?_
  refine HoldsQ.ite (refusedWith_holds h1) ?_
  refine HoldsQ.ite (refusedWith_holds h1) ?_
  refine HoldsQ.ite (refusedWith_holds h1) ?_
  extract_lets +onlyGivenNames s3
  have hs3 : Holds w r s3 := Holds.modInst h1
  clear_value s3; revert s3; refine keep ?_; intro s3 hs3
  extract_lets +onlyGivenNames s4
  have hs4 : Holds w r s4 := Holds.each hs3 (fun t5 x7 h6 => Holds.modDieSet h6)
  clear_value s4; revert s4; refine keep ?_; intro s4 hs4
  extract_lets +onlyGivenNames s8
  have hs8 : Holds w r s8 := Holds.each hs4 (fun t9 x11 h10 => Holds.modNs h10)
  clear_value s8; revert s8; refine keep ?_; intro s8 hs8
  exact succeeded_holds (Holds.each hs8 (fun t12 x14 h13 => Holds.restoreAer h13))

theorem execInstanceStateSave_holds {b0 b1 b2 b3 : Nat} {b4 : State} (hb4 : Holds w r b4) :
    HoldsR w r (execInstanceStateSave b0 b1 b2 b3 b4) := by
  unfold execInstanceStateSave
  refine HoldsR.adminDo hb4 (fun t0 h1 => ?_)
  refine HoldsQ.ite (refusedWith_holds h1) ?_
  refine HoldsQ.ite (refusedWith_holds h1) ?_
  refine HoldsQ.ite (refusedWith_holds h1) ?_
  extract_lets +onlyGivenNames r2
  exact HoldsQ.ite (HoldsQ.mk h1) (HoldsQ.mk (Holds.reply h1))

theorem execMbxInstAck_holds {b0 b1 : Nat} {b2 : State} (hb2 : Holds w r b2) :
    HoldsR w r (execMbxInstAck b0 b1 b2) := by
  unfold execMbxInstAck
  exact HoldsR.next (Holds.mgmtWrite hb2 (fun t0 h1 => Holds.managerAck h1))

theorem execMbxInstDoorbell_holds {b0 : State} (hb0 : Holds w r b0) : HoldsR w r (execMbxInstDoorbell b0) := by
  unfold execMbxInstDoorbell
  exact HoldsR.next (Holds.mgmtWrite hb0 (fun t0 h1 => Holds.managerSend h1))

theorem execMbxTAck_holds {b0 b1 b2 : Nat} {b3 : State} (hb3 : Holds w r b3) :
    HoldsR w r (execMbxTAck b0 b1 b2 b3) := by
  unfold execMbxTAck
  exact HoldsR.next (Holds.tenantAck hb3)

theorem execMbxTDoorbell_holds {b0 : Nat} {b1 : State} (hb1 : Holds w r b1) :
    HoldsR w r (execMbxTDoorbell b0 b1) := by
  unfold execMbxTDoorbell
  exact HoldsR.next (Holds.tenantSend hb1)

theorem execPauseDrainComplete_holds {b0 : Nat} {b1 : State} (hb1 : Holds w r b1) :
    HoldsR w r (execPauseDrainComplete b0 b1) := by
  unfold execPauseDrainComplete
  extract_lets +onlyGivenNames x0
  refine HoldsR.ite (HoldsR.next hb1) ?_
  extract_lets +onlyGivenNames s1
  have hs1 : Holds w r s1 := Holds.leaveTree (Holds.modInst hb1)
  clear_value s1; revert s1; refine keep ?_; intro s1 hs1
  exact HoldsR.next (Holds.each hs1 (fun t2 x4 h3 => Holds.adminCqe h3))

theorem execPauseLimitExpiry_holds {b0 : Nat} {b1 : State} (hb1 : Holds w r b1) :
    HoldsR w r (execPauseLimitExpiry b0 b1) := by
  unfold execPauseLimitExpiry
  extract_lets +onlyGivenNames x0
  exact HoldsR.ite (HoldsR.next hb1) (HoldsR.next (Holds.beginStop hb1))

theorem execReportRingSizeWrite_holds {b0 : Nat} {b1 : State} (hb1 : Holds w r b1) :
    HoldsR w r (execReportRingSizeWrite b0 b1) := by
  unfold execReportRingSizeWrite
  exact HoldsR.next (Holds.mgmtWrite hb1 (fun t0 h1 => Holds.ringSize h1))

theorem execStopDrainComplete_holds {b0 : Nat} {b1 : State} (hb1 : Holds w r b1) :
    HoldsR w r (execStopDrainComplete b0 b1) := by
  unfold execStopDrainComplete
  exact HoldsR.ite (HoldsR.next hb1) (HoldsR.next (Holds.endStop hb1))

theorem execTenantShutdown_holds {b0 : Nat} {b1 : State} (hb1 : Holds w r b1) :
    HoldsR w r (execTenantShutdown b0 b1) := by
  unfold execTenantShutdown
  exact HoldsR.ite (HoldsR.next hb1) (HoldsR.next (Holds.shutdownDone (Holds.modInst hb1)))

theorem execVirtMgmtAssign_holds {b0 b1 b2 b3 b4 : Nat} {b5 : State} (hb5 : Holds w r b5) :
    HoldsR w r (execVirtMgmtAssign b0 b1 b2 b3 b4 b5) := by
  unfold execVirtMgmtAssign
  refine HoldsR.managerDo hb5 (fun t0 h1 => ?_)
  extract_lets +onlyGivenNames x2 port3 mgr4 pairs5
  refine HoldsQ.ite (refusedWith_holds h1) ?_
  refine HoldsQ.ite (refusedWith_holds h1) ?_
  refine HoldsQ.ite (refusedWith_holds h1) ?_
  refine HoldsQ.ite (refusedWith_holds h1) ?_
  refine HoldsQ.ite (refusedWith_holds h1) ?_
  extract_lets +onlyGivenNames s6
  have hs6 : Holds w r s6 := Holds.modInst h1
  clear_value s6; revert s6; refine keep ?_; intro s6 hs6
  exact HoldsQ.mk (Holds.saveInst hs6)

theorem execVirtMgmtOffline_holds {b0 b1 b2 : Nat} {b3 : State} (hb3 : Holds w r b3) :
    HoldsR w r (execVirtMgmtOffline b0 b1 b2 b3) := by
  unfold execVirtMgmtOffline
  refine HoldsR.managerDo hb3 (fun t0 h1 => ?_)
  extract_lets +onlyGivenNames x2
  refine HoldsQ.ite (refusedWith_holds h1) ?_
  refine HoldsQ.ite (refusedWith_holds h1) ?_
  extract_lets +onlyGivenNames r3
  have hr3 : HoldsP w r r3 := HoldsP.removeInstance h1
  clear_value r3; revert r3; refine keep ?_; intro r3 hr3
  exact HoldsQ.mk (show HoldsP w r _ from hr3)

theorem execVirtMgmtOnline_holds {b0 b1 b2 : Nat} {b3 : State} (hb3 : Holds w r b3) :
    HoldsR w r (execVirtMgmtOnline b0 b1 b2 b3) := by
  unfold execVirtMgmtOnline
  refine HoldsR.managerDo hb3 (fun t0 h1 => ?_)
  extract_lets +onlyGivenNames x2
  refine HoldsQ.ite (refusedWith_holds h1) ?_
  exact HoldsQ.ite (refusedWith_holds h1) (HoldsQ.ite (refusedWith_holds h1) (succeeded_holds (Holds.modInst h1)))

theorem Holds.actRegister {b0 : State} {b1 b2 : Nat} (hb0 : Holds w r b0) :
    Holds w r (State.actRegister b0 b1 b2) := by
  unfold State.actRegister
  split
  · rename_i z0
    exact Holds.ite (Holds.managerSend hb0) hb0
  · rename_i z1
    exact Holds.managerAck hb0
  · rename_i z2
    exact show HoldsP w r _ from HoldsP.issueFence hb0
  · rename_i z3
    exact Holds.upd (x := b0) hb0 rfl rfl rfl rfl rfl rfl rfl
  · rename_i z4
    exact Holds.inject hb0
  · rename_i z5
    exact Holds.ite (Holds.inFixity hb0) hb0
  · rename_i z6
    exact Holds.ite (Holds.persistNow hb0) hb0
  · rename_i z7
    exact Holds.ite (Holds.harvest hb0) hb0
  · rename_i z8 z9 z10 z11 z12 z13 z14 z15 z16
    exact hb0

theorem Holds.writeMbxM {b0 : State} {b1 : Mailbox → Mailbox} (hb0 : Holds w r b0) :
    Holds w r (State.writeMbxM b0 b1) := by
  unfold State.writeMbxM
  extract_lets +onlyGivenNames i0
  exact Holds.ite hb0 (Holds.modInst hb0)

theorem Holds.writeMig {b0 : State} {b1 : DirtyLog → DirtyLog} (hb0 : Holds w r b0) :
    Holds w r (State.writeMig b0 b1) := by
  unfold State.writeMig
  extract_lets +onlyGivenNames i0
  exact Holds.ite hb0 (Holds.modInst hb0)

theorem Holds.clearField {b0 : State} {b1 : Nat} (hb0 : Holds w r b0) : Holds w r (State.clearField b0 b1) := by
  unfold State.clearField
  refine Holds.ite (Holds.writeMbxM hb0) ?_
  refine Holds.ite (Holds.writeMbxM hb0) ?_
  refine Holds.ite (Holds.writeMig hb0) ?_
  exact Holds.ite (Holds.writeMig hb0) (Holds.ite (Holds.clearFirst hb0) (Holds.setReg hb0))

theorem Holds.putAliased {b0 : State} {b1 : List CfgRec} (hb0 : Holds w r b0) :
    Holds w r (State.putAliased b0 b1) := by
  unfold State.putAliased
  extract_lets +onlyGivenNames good0
  refine Holds.ite (Holds.each hb0 (fun t1 x3 h2 => Holds.putField h2)) ?_
  exact Holds.each hb0 (fun t4 x6 h5 => Holds.ite (Holds.putField h5) h5)

theorem Holds.writeHamperQuota {b0 : State} {b1 : Bool} {b2 : Nat} (hb0 : Holds w r b0) :
    Holds w r (State.writeHamperQuota b0 b1 b2) := by
  unfold State.writeHamperQuota
  extract_lets +onlyGivenNames i0 near1
  exact Holds.saveInst (Holds.modInst hb0)

theorem Holds.writeReport {b0 : State} {b1 : TenantPart → TenantPart} (hb0 : Holds w r b0) :
    Holds w r (State.writeReport b0 b1) := by
  unfold State.writeReport
  exact Holds.inTenant hb0

theorem Holds.storeField {b0 : State} {b1 b2 : Nat} (hb0 : Holds w r b0) : Holds w r (State.storeField b0 b1 b2) := by
  unfold State.storeField
  refine Holds.ite (Holds.saveInst (Holds.modInst hb0)) ?_
  refine Holds.ite (Holds.writeHamperQuota hb0) ?_
  refine Holds.ite (Holds.writeHamperQuota hb0) ?_
  refine Holds.ite (Holds.ite (Holds.dirtyEnable hb0) (Holds.dirtyDisable hb0)) ?_
  refine Holds.ite (Holds.writeMig hb0) ?_
  refine Holds.ite (Holds.writeMig hb0) ?_
  refine Holds.ite (Holds.writeMig hb0) ?_
  refine Holds.ite (Holds.writeMig hb0) ?_
  refine Holds.ite (Holds.writeMig hb0) ?_
  refine Holds.ite (Holds.writeMig hb0) ?_
  refine Holds.ite (Holds.writeMig hb0) ?_
  refine Holds.ite (Holds.writeReport hb0) ?_
  refine Holds.ite (Holds.writeReport hb0) ?_
  refine Holds.ite (Holds.writeReport hb0) ?_
  exact Holds.ite (Holds.setReg hb0) (Holds.ite (Holds.writeView hb0) (Holds.setReg hb0))

theorem Holds.writeField {b0 : State} {b1 : FieldInfo} {b2 : Nat} (hb0 : Holds w r b0) :
    Holds w r (State.writeField b0 b1 b2) := by
  unfold State.writeField
  extract_lets +onlyGivenNames v0
  split
  · rename_i z1 z2
    exact hb0
  · rename_i z3 z4
    exact Holds.ite (Holds.clearField hb0) hb0
  · rename_i z5 z6
    exact hb0
  · rename_i z7 z8
    exact Holds.ite (Holds.ite hb0 (Holds.report hb0)) (Holds.ite hb0 (Holds.storeField hb0))

theorem Holds.writeFieldsAt {b0 : State} {b1 b2 : Nat} (hb0 : Holds w r b0) :
    Holds w r (State.writeFieldsAt b0 b1 b2) := by
  unfold State.writeFieldsAt
  extract_lets +onlyGivenNames fs0 recs1
  exact Holds.putAliased (Holds.each hb0 (fun t2 x4 h3 => Holds.writeField h3))

theorem Holds.writeManager {b0 : State} {b1 b2 : Nat} (hb0 : Holds w r b0) :
    Holds w r (State.writeManager b0 b1 b2) := by
  unfold State.writeManager
  split
  · rename_i z0
    exact Holds.klogCapture hb0
  · rename_i z1
    exact Holds.sieveCapture hb0
  · rename_i z2
    exact Holds.blkCapture hb0
  · rename_i z3
    exact Holds.ringSize hb0
  · rename_i z4 z5 z6 z7 z8
    exact Holds.actRegister (Holds.writeFieldsAt hb0)

theorem Holds.writeTenantReg {b0 : State} {b1 b2 b3 : Nat} (hb0 : Holds w r b0) :
    Holds w r (State.writeTenantReg b0 b1 b2 b3) := by
  unfold State.writeTenantReg
  refine Holds.ite (Holds.modInst hb0) ?_
  split
  · rename_i z0
    exact Holds.ite (Holds.tenantSend hb0) hb0
  · rename_i z1
    exact Holds.tenantAck hb0
  · rename_i z2
    exact Holds.ite (Holds.modInst hb0) hb0
  · rename_i z3
    exact Holds.modInst hb0
  · rename_i z4 z5 z6 z7 z8
    exact hb0

theorem Holds.writeWindow {b0 : State} {b1 b2 : Nat} (hb0 : Holds w r b0) :
    Holds w r (State.writeWindow b0 b1 b2) := by
  unfold State.writeWindow
  extract_lets +onlyGivenNames i0
  exact Holds.ite hb0 (Holds.modInst hb0)

theorem execRegisterWrite_holds {b0 b1 b2 : Nat} {b3 : State} (hb3 : Holds w r b3) :
    HoldsR w r (execRegisterWrite b0 b1 b2 b3) := by
  unfold execRegisterWrite
  extract_lets +onlyGivenNames v0
  refine HoldsR.next ?_
  refine Holds.ite hb3 ?_
  refine Holds.ite (Holds.writeTenantReg hb3) ?_
  exact Holds.mgmtWrite hb3 (fun t1 h2 => Holds.ite (Holds.writeWindow h2) (Holds.writeManager h2))

theorem execBootTimes_holds {b0 : Nat} {b1 : State} (hb1 : Holds w r b1) : HoldsR w r (execBootTimes b0 b1) := by
  unfold execBootTimes
  exact HoldsR.next (Holds.smili hb1 (fun t0 h1 => HoldsQ.mk h1))

theorem execCertWrite_holds {b0 b1 b2 : Nat} {b3 : State} (hb3 : Holds w r b3) :
    HoldsR w r (execCertWrite b0 b1 b2 b3) := by
  unfold execCertWrite
  refine HoldsR.next ?_
  refine Holds.smili hb3 (fun t0 h1 => ?_)
  exact HoldsQ.ite (HoldsQ.mk h1) (HoldsQ.mk (Holds.upd (x := t0) h1 rfl rfl rfl rfl rfl rfl rfl))

theorem execCfgMsg_holds {b0 b1 : Nat} {b2 : CfgHeader} {b3 b4 : Nat} {b5 : List CfgRec} {b6 : Chain} {b7 : State}
    (hb7 : Holds w r b7) :
    HoldsR w r (execCfgMsg b0 b1 b2 b3 b4 b5 b6 b7) := by
  unfold execCfgMsg
  exact HoldsR.next (Holds.smili hb7 (fun t0 h1 => HoldsQ.ite (HoldsQ.mk h1) (HoldsQ.cfgRequest h1)))

theorem execDebugChallenge_holds {b0 : Nat} {b1 : State} (hb1 : Holds w r b1) :
    HoldsR w r (execDebugChallenge b0 b1) := by
  unfold execDebugChallenge
  refine HoldsR.next ?_
  refine Holds.smili hb1 (fun t0 h1 => ?_)
  refine HoldsQ.ite (HoldsQ.mk h1) ?_
  split
  · rename_i z2 z3 z4 z5
    have h6 := HoldsP.of_eq (w := w) (r := r) z5 (HoldsP.newKey h1)
    extract_lets +onlyGivenNames n7
    exact HoldsQ.mk (Holds.upd (x := z4) h6 rfl rfl rfl rfl rfl rfl rfl)

theorem execDebugUnlock_holds {b0 : Nat} {b1 : SigBlock} {b2 : State} (hb2 : Holds w r b2) :
    HoldsR w r (execDebugUnlock b0 b1 b2) := by
  unfold execDebugUnlock
  refine HoldsR.next ?_
  refine Holds.smili hb2 (fun t0 h1 => ?_)
  extract_lets +onlyGivenNames open2
  have hopen2 : ∀ a0, Holds w r a0 → Holds w r (open2 a0) :=
    fun t3 h4 => Holds.upd (x := t3) h4 rfl rfl rfl rfl rfl rfl rfl
  refine HoldsQ.ite (HoldsQ.mk (hopen2 _ h1)) ?_
  split
  · rename_i z5 z6 z7
    have h8 := HoldsO.of_eq (w := w) (r := r) z7 (HoldsO.useToken h1)
    exact HoldsQ.mk (Holds.zeroize (hopen2 _ h8))
  · rename_i z9 z10
    exact HoldsQ.mk h1

theorem execFwAbort_holds {b0 : Nat} {b1 : State} (hb1 : Holds w r b1) : HoldsR w r (execFwAbort b0 b1) := by
  unfold execFwAbort
  refine HoldsR.next ?_
  refine Holds.smili hb1 (fun t0 h1 => ?_)
  split
  · rename_i z2 z3
    exact HoldsQ.mk h1
  · rename_i z4 z5 z6
    exact HoldsQ.mk (Holds.setStaging h1)

theorem execFwBegin_holds {b0 : Nat} {b1 : FwHeader} {b2 : Nat} {b3 : State} (hb3 : Holds w r b3) :
    HoldsR w r (execFwBegin b0 b1 b2 b3) := by
  unfold execFwBegin
  refine HoldsR.next ?_
  refine Holds.smili hb3 (fun t0 h1 => ?_)
  refine HoldsQ.ite (HoldsQ.mk h1) ?_
  refine HoldsQ.ite (HoldsQ.mk h1) ?_
  refine HoldsQ.ite (HoldsQ.mk h1) ?_
  extract_lets +onlyGivenNames x2 t3
  have ht3 : Holds w r t3 := Holds.setStaging h1
  clear_value t3; revert t3; refine keep ?_; intro t3 ht3
  refine HoldsQ.ite (HoldsQ.mk ht3) ?_
  extract_lets +onlyGivenNames k4 t5
  have ht5 : Holds w r t5 := Holds.markSlot ht3
  clear_value t5; revert t5; refine keep ?_; intro t5 ht5
  extract_lets +onlyGivenNames slots6
  exact HoldsQ.mk (Holds.upd (x := t5) ht5 rfl rfl rfl rfl rfl rfl rfl)

theorem execFwChunk_holds {b0 b1 b2 : Nat} {b3 : State} (hb3 : Holds w r b3) :
    HoldsR w r (execFwChunk b0 b1 b2 b3) := by
  unfold execFwChunk
  refine HoldsR.next ?_
  refine Holds.smili hb3 (fun t0 h1 => ?_)
  split
  · rename_i z2 z3
    exact HoldsQ.mk h1
  · rename_i z4 z5 z6
    refine HoldsQ.ite (HoldsQ.mk h1) ?_
    refine HoldsQ.ite (HoldsQ.mk h1) ?_
    extract_lets +onlyGivenNames y7
    exact HoldsQ.mk (Holds.setStaging h1)

theorem execFwCommit_holds {b0 b1 b2 : Nat} {b3 : Chain} {b4 : State} (hb4 : Holds w r b4) :
    HoldsR w r (execFwCommit b0 b1 b2 b3 b4) := by
  unfold execFwCommit
  refine HoldsR.next ?_
  refine Holds.smili hb4 (fun t0 h1 => ?_)
  split
  · rename_i z2 z3
    exact HoldsQ.mk h1
  · rename_i z4 z5 z6
    refine HoldsQ.ite ?_ ?_
    · refine HoldsQ.ite (HoldsQ.mk (Holds.setStaging h1)) ?_
      refine HoldsQ.ite ?_ (HoldsQ.mk (Holds.markSlot (Holds.setStaging h1)))
      extract_lets +onlyGivenNames slots7
      exact HoldsQ.mk (Holds.makeTrial (Holds.setStaging (Holds.upd (x := t0) h1 rfl rfl rfl rfl rfl rfl rfl)))
    extract_lets +onlyGivenNames k8
    refine HoldsQ.ite (HoldsQ.mk h1) ?_
    refine HoldsQ.ite (HoldsQ.mk (Holds.setStaging h1)) ?_
    extract_lets +onlyGivenNames r9
    have hr9 : HoldsP w r r9 := HoldsP.commitStaged h1
    clear_value r9; revert r9; refine keep ?_; intro r9 hr9
    exact HoldsQ.mk (show HoldsP w r _ from hr9)

theorem execIdentifySmili_holds {b0 : Nat} {b1 : State} (hb1 : Holds w r b1) :
    HoldsR w r (execIdentifySmili b0 b1) := by
  unfold execIdentifySmili
  exact HoldsR.next (Holds.smili hb1 (fun t0 h1 => HoldsQ.mk h1))

theorem execLifecycleAdvance_holds {b0 b1 : Nat} {b2 : SigBlock} {b3 : State} (hb3 : Holds w r b3) :
    HoldsR w r (execLifecycleAdvance b0 b1 b2 b3) := by
  unfold execLifecycleAdvance
  refine HoldsR.next ?_
  refine Holds.smili hb3 (fun t0 h1 => ?_)
  refine HoldsQ.ite (HoldsQ.mk h1) ?_
  refine HoldsQ.ite (HoldsQ.mk h1) ?_
  refine HoldsQ.ite (HoldsQ.mk h1) ?_
  refine HoldsQ.ite ?_ ?_
  · exact HoldsQ.ite (HoldsQ.mk h1) (HoldsQ.mk (Holds.programOtp (Holds.programOtp h1)))
  split
  · rename_i z2 z3 z4
    have h5 := HoldsO.of_eq (w := w) (r := r) z4 (HoldsO.useToken h1)
    exact HoldsQ.mk (Holds.programOtp h5)
  · rename_i z6 z7
    exact HoldsQ.mk h1

theorem execLogAreaRead_holds {b0 b1 b2 : Nat} {b3 : State} (hb3 : Holds w r b3) :
    HoldsR w r (execLogAreaRead b0 b1 b2 b3) := by
  unfold execLogAreaRead
  refine HoldsR.next ?_
  refine Holds.smili hb3 (fun t0 h1 => ?_)
  refine HoldsQ.ite (HoldsQ.mk h1) ?_
  extract_lets +onlyGivenNames k2
  exact HoldsQ.mk h1

theorem execLogRead_holds {b0 b1 b2 : Nat} {b3 : State} (hb3 : Holds w r b3) :
    HoldsR w r (execLogRead b0 b1 b2 b3) := by
  unfold execLogRead
  exact HoldsR.next (Holds.smili hb3 (fun t0 h1 => HoldsQ.mk h1))

theorem execOtpProgram_holds {b0 b1 b2 b3 : Nat} {b4 : State} (hb4 : Holds w r b4) :
    HoldsR w r (execOtpProgram b0 b1 b2 b3 b4) := by
  unfold execOtpProgram
  refine HoldsR.next ?_
  refine Holds.smili hb4 (fun t0 h1 => ?_)
  extract_lets +onlyGivenNames may2 m3
  refine HoldsQ.ite (HoldsQ.mk h1) ?_
  refine HoldsQ.ite (HoldsQ.mk h1) ?_
  exact HoldsQ.ite (HoldsQ.mk (Holds.programOtp h1)) (HoldsQ.mk (Holds.report (Holds.programOtp h1)))

theorem execOtpRead_holds {b0 b1 : Nat} {b2 : State} (hb2 : Holds w r b2) : HoldsR w r (execOtpRead b0 b1 b2) := by
  unfold execOtpRead
  exact HoldsR.next (Holds.smili hb2 (fun t0 h1 => HoldsQ.ite (HoldsQ.mk h1) (HoldsQ.mk h1)))

theorem execProvisionKeys_holds {b0 : Nat} {b1 : State} (hb1 : Holds w r b1) :
    HoldsR w r (execProvisionKeys b0 b1) := by
  unfold execProvisionKeys
  refine HoldsR.next ?_
  refine Holds.smili hb1 (fun t0 h1 => ?_)
  refine HoldsQ.ite (HoldsQ.mk h1) ?_
  refine HoldsQ.ite (HoldsQ.mk h1) ?_
  refine HoldsQ.ite (HoldsQ.mk h1) ?_
  refine HoldsQ.ite (HoldsQ.mk h1) ?_
  split
  · rename_i z2 z3 z4 z5
    have h6 := HoldsP.of_eq (w := w) (r := r) z5 (HoldsP.newKey h1)
    split
    · rename_i z7 z8 z9 z10
      have h11 := HoldsP.of_eq (w := w) (r := r) z10 (HoldsP.newKey h6)
      extract_lets +onlyGivenNames s12
      have hs12 : Holds w r s12 := Holds.programOtp (Holds.programOtp (Holds.programOtp h11))
      clear_value s12; revert s12; refine keep ?_; intro s12 hs12
      extract_lets +onlyGivenNames s13
      have hs13 : Holds w r s13 := Holds.programOtp (Holds.programOtp hs12)
      clear_value s13; revert s13; refine keep ?_; intro s13 hs13
      exact HoldsQ.mk hs13

theorem execServicePortAutobaud_holds {b0 : Nat} {b1 : State} (hb1 : Holds w r b1) :
    HoldsR w r (execServicePortAutobaud b0 b1) := by
  unfold execServicePortAutobaud
  refine HoldsR.next ?_
  split
  · rename_i z0 z1 z2
    exact Holds.ite (Holds.emit (Holds.upd (x := b1) hb1 rfl rfl rfl rfl rfl rfl rfl)) hb1
  · rename_i z3 z4
    exact hb1

theorem execServicePortRateTimeout_holds {b0 : State} (hb0 : Holds w r b0) :
    HoldsR w r (execServicePortRateTimeout b0) := by
  unfold execServicePortRateTimeout
  exact HoldsR.next (Holds.ite (Holds.upd (x := b0) hb0 rfl rfl rfl rfl rfl rfl rfl) hb0)

theorem execServiceReset_holds {b0 b1 : Nat} {b2 : State} (hb2 : Holds w r b2) :
    HoldsR w r (execServiceReset b0 b1 b2) := by
  unfold execServiceReset
  refine HoldsR.next ?_
  extract_lets +onlyGivenNames on0 fresh1 from12 t3
  have ht3 : Holds w r t3 := Holds.smili hb2 (fun t4 h5 => HoldsQ.mk h5)
  clear_value t3; revert t3; refine keep ?_; intro t3 ht3
  refine Holds.ite ht3 ?_
  extract_lets +onlyGivenNames r6
  have hr6 : Holds w r r6 := Holds.controllerReset ht3
  clear_value r6; revert r6; refine keep ?_; intro r6 hr6
  exact Holds.ite (Holds.upd (x := r6) hr6 rfl rfl rfl rfl rfl rfl rfl) hr6

theorem execSmiliBadFrame_holds {b0 b1 : Nat} {b2 : State} (hb2 : Holds w r b2) :
    HoldsR w r (execSmiliBadFrame b0 b1 b2) := by
  unfold execSmiliBadFrame
  exact HoldsR.next (Holds.ite (Holds.emit hb2) hb2)

theorem execTrace_holds {b0 : Nat} {b1 : SigBlock} {b2 : Bool} {b3 : State} (hb3 : Holds w r b3) :
    HoldsR w r (execTrace b0 b1 b2 b3) := by
  unfold execTrace
  refine HoldsR.next ?_
  refine Holds.smili hb3 (fun t0 h1 => ?_)
  extract_lets +onlyGivenNames set2
  have hset2 : ∀ a0, Holds w r a0 → Holds w r (set2 a0) :=
    fun t3 h4 => Holds.upd (x := t3) h4 rfl rfl rfl rfl rfl rfl rfl
  refine HoldsQ.ite (HoldsQ.mk (hset2 _ h1)) ?_
  split
  · rename_i z5 z6 z7
    have h8 := HoldsO.of_eq (w := w) (r := r) z7 (HoldsO.useToken h1)
    exact HoldsQ.mk (hset2 _ h8)
  · rename_i z9 z10
    exact HoldsQ.mk h1

end Sys2Proof.Machine
end

