-- ==== Sys2Proof/Laws/State.lean ====
section
/-!
SUPPORT. The frame of every update of one table or register: each other part of the state is what it was.
-/

namespace Sys2Proof.Machine

variable (s : State)

/-! ### An update of one field of the register file -/

@[simp] theorem State.setReg_pending (k v : Nat) : (s.setReg k v).pending = s.pending := rfl
@[simp] theorem State.setReg_now (k v : Nat) : (s.setReg k v).now = s.now := rfl
@[simp] theorem State.setReg_freeCtr (k v : Nat) : (s.setReg k v).freeCtr = s.freeCtr := rfl
@[simp] theorem State.setReg_out (k v : Nat) : (s.setReg k v).out = s.out := rfl
@[simp] theorem State.setReg_cfg (k v : Nat) : (s.setReg k v).cfg = s.cfg := rfl
@[simp] theorem State.setReg_cfgStaged (k v : Nat) : (s.setReg k v).cfgStaged = s.cfgStaged := rfl
@[simp] theorem State.setReg_fault (k v : Nat) : (s.setReg k v).fault = s.fault := rfl
@[simp] theorem State.setReg_klog (k v : Nat) : (s.setReg k v).klog = s.klog := rfl
@[simp] theorem State.setReg_intake (k v : Nat) : (s.setReg k v).intake = s.intake := rfl
@[simp] theorem State.setReg_sieve (k v : Nat) : (s.setReg k v).sieve = s.sieve := rfl
@[simp] theorem State.setReg_hamper (k v : Nat) : (s.setReg k v).hamper = s.hamper := rfl
@[simp] theorem State.setReg_zone (k v : Nat) : (s.setReg k v).zone = s.zone := rfl
@[simp] theorem State.setReg_flash (k v : Nat) : (s.setReg k v).flash = s.flash := rfl
@[simp] theorem State.setReg_trail (k v : Nat) : (s.setReg k v).trail = s.trail := rfl
@[simp] theorem State.setReg_tenant (k v : Nat) : (s.setReg k v).tenant = s.tenant := rfl
@[simp] theorem State.setReg_boot (k v : Nat) : (s.setReg k v).boot = s.boot := rfl
@[simp] theorem State.setReg_glaze (k v : Nat) : (s.setReg k v).glaze = s.glaze := rfl
@[simp] theorem State.setReg_power (k v : Nat) : (s.setReg k v).power = s.power := rfl
@[simp] theorem State.setReg_fabric (k v : Nat) : (s.setReg k v).fabric = s.fabric := rfl
@[simp] theorem State.setReg_fixity (k v : Nat) : (s.setReg k v).fixity = s.fixity := rfl
@[simp] theorem State.setReg_dram (k v : Nat) : (s.setReg k v).dram = s.dram := rfl
@[simp] theorem State.setReg_pcie (k v : Nat) : (s.setReg k v).pcie = s.pcie := rfl
@[simp] theorem State.setReg_wmk (k v : Nat) : (s.setReg k v).wmk = s.wmk := rfl
@[simp] theorem State.setReg_cone (k v : Nat) : (s.setReg k v).cone = s.cone := rfl
@[simp] theorem State.setReg_mgmt (k v : Nat) : (s.setReg k v).mgmt = s.mgmt := rfl

/-! ### An update of one configuration field in force -/

@[simp] theorem State.setCfg_pending (id idx v : Nat) : (s.setCfg id idx v).pending = s.pending := rfl
@[simp] theorem State.setCfg_now (id idx v : Nat) : (s.setCfg id idx v).now = s.now := rfl
@[simp] theorem State.setCfg_freeCtr (id idx v : Nat) : (s.setCfg id idx v).freeCtr = s.freeCtr := rfl
@[simp] theorem State.setCfg_out (id idx v : Nat) : (s.setCfg id idx v).out = s.out := rfl
@[simp] theorem State.setCfg_regs (id idx v : Nat) : (s.setCfg id idx v).regs = s.regs := rfl
@[simp] theorem State.setCfg_cfgStaged (id idx v : Nat) : (s.setCfg id idx v).cfgStaged = s.cfgStaged := rfl
@[simp] theorem State.setCfg_fault (id idx v : Nat) : (s.setCfg id idx v).fault = s.fault := rfl
@[simp] theorem State.setCfg_klog (id idx v : Nat) : (s.setCfg id idx v).klog = s.klog := rfl
@[simp] theorem State.setCfg_intake (id idx v : Nat) : (s.setCfg id idx v).intake = s.intake := rfl
@[simp] theorem State.setCfg_sieve (id idx v : Nat) : (s.setCfg id idx v).sieve = s.sieve := rfl
@[simp] theorem State.setCfg_hamper (id idx v : Nat) : (s.setCfg id idx v).hamper = s.hamper := rfl
@[simp] theorem State.setCfg_zone (id idx v : Nat) : (s.setCfg id idx v).zone = s.zone := rfl
@[simp] theorem State.setCfg_flash (id idx v : Nat) : (s.setCfg id idx v).flash = s.flash := rfl
@[simp] theorem State.setCfg_trail (id idx v : Nat) : (s.setCfg id idx v).trail = s.trail := rfl
@[simp] theorem State.setCfg_tenant (id idx v : Nat) : (s.setCfg id idx v).tenant = s.tenant := rfl
@[simp] theorem State.setCfg_boot (id idx v : Nat) : (s.setCfg id idx v).boot = s.boot := rfl
@[simp] theorem State.setCfg_glaze (id idx v : Nat) : (s.setCfg id idx v).glaze = s.glaze := rfl
@[simp] theorem State.setCfg_power (id idx v : Nat) : (s.setCfg id idx v).power = s.power := rfl
@[simp] theorem State.setCfg_fabric (id idx v : Nat) : (s.setCfg id idx v).fabric = s.fabric := rfl
@[simp] theorem State.setCfg_fixity (id idx v : Nat) : (s.setCfg id idx v).fixity = s.fixity := rfl
@[simp] theorem State.setCfg_dram (id idx v : Nat) : (s.setCfg id idx v).dram = s.dram := rfl
@[simp] theorem State.setCfg_pcie (id idx v : Nat) : (s.setCfg id idx v).pcie = s.pcie := rfl
@[simp] theorem State.setCfg_wmk (id idx v : Nat) : (s.setCfg id idx v).wmk = s.wmk := rfl
@[simp] theorem State.setCfg_cone (id idx v : Nat) : (s.setCfg id idx v).cone = s.cone := rfl
@[simp] theorem State.setCfg_mgmt (id idx v : Nat) : (s.setCfg id idx v).mgmt = s.mgmt := rfl

/-! ### An update of one instance -/

@[simp] theorem State.modInst_pending (i : Nat) (f : Inst → Inst) : (s.modInst i f).pending = s.pending := rfl
@[simp] theorem State.modInst_now (i : Nat) (f : Inst → Inst) : (s.modInst i f).now = s.now := rfl
@[simp] theorem State.modInst_freeCtr (i : Nat) (f : Inst → Inst) : (s.modInst i f).freeCtr = s.freeCtr := rfl
@[simp] theorem State.modInst_out (i : Nat) (f : Inst → Inst) : (s.modInst i f).out = s.out := rfl
@[simp] theorem State.modInst_regs (i : Nat) (f : Inst → Inst) : (s.modInst i f).regs = s.regs := rfl
@[simp] theorem State.modInst_cfg (i : Nat) (f : Inst → Inst) : (s.modInst i f).cfg = s.cfg := rfl
@[simp] theorem State.modInst_cfgStaged (i : Nat) (f : Inst → Inst) : (s.modInst i f).cfgStaged = s.cfgStaged := rfl
@[simp] theorem State.modInst_fault (i : Nat) (f : Inst → Inst) : (s.modInst i f).fault = s.fault := rfl
@[simp] theorem State.modInst_klog (i : Nat) (f : Inst → Inst) : (s.modInst i f).klog = s.klog := rfl
@[simp] theorem State.modInst_intake (i : Nat) (f : Inst → Inst) : (s.modInst i f).intake = s.intake := rfl
@[simp] theorem State.modInst_sieve (i : Nat) (f : Inst → Inst) : (s.modInst i f).sieve = s.sieve := rfl
@[simp] theorem State.modInst_hamper (i : Nat) (f : Inst → Inst) : (s.modInst i f).hamper = s.hamper := rfl
@[simp] theorem State.modInst_zone (i : Nat) (f : Inst → Inst) : (s.modInst i f).zone = s.zone := rfl
@[simp] theorem State.modInst_flash (i : Nat) (f : Inst → Inst) : (s.modInst i f).flash = s.flash := rfl
@[simp] theorem State.modInst_trail (i : Nat) (f : Inst → Inst) : (s.modInst i f).trail = s.trail := rfl
@[simp] theorem State.modInst_boot (i : Nat) (f : Inst → Inst) : (s.modInst i f).boot = s.boot := rfl
@[simp] theorem State.modInst_glaze (i : Nat) (f : Inst → Inst) : (s.modInst i f).glaze = s.glaze := rfl
@[simp] theorem State.modInst_power (i : Nat) (f : Inst → Inst) : (s.modInst i f).power = s.power := rfl
@[simp] theorem State.modInst_fabric (i : Nat) (f : Inst → Inst) : (s.modInst i f).fabric = s.fabric := rfl
@[simp] theorem State.modInst_fixity (i : Nat) (f : Inst → Inst) : (s.modInst i f).fixity = s.fixity := rfl
@[simp] theorem State.modInst_dram (i : Nat) (f : Inst → Inst) : (s.modInst i f).dram = s.dram := rfl
@[simp] theorem State.modInst_pcie (i : Nat) (f : Inst → Inst) : (s.modInst i f).pcie = s.pcie := rfl
@[simp] theorem State.modInst_wmk (i : Nat) (f : Inst → Inst) : (s.modInst i f).wmk = s.wmk := rfl
@[simp] theorem State.modInst_cone (i : Nat) (f : Inst → Inst) : (s.modInst i f).cone = s.cone := rfl
@[simp] theorem State.modInst_mgmt (i : Nat) (f : Inst → Inst) : (s.modInst i f).mgmt = s.mgmt := rfl

/-! ### An update of one namespace -/

@[simp] theorem State.modNs_pending (n : Nat) (f : Ns → Ns) : (s.modNs n f).pending = s.pending := rfl
@[simp] theorem State.modNs_now (n : Nat) (f : Ns → Ns) : (s.modNs n f).now = s.now := rfl
@[simp] theorem State.modNs_freeCtr (n : Nat) (f : Ns → Ns) : (s.modNs n f).freeCtr = s.freeCtr := rfl
@[simp] theorem State.modNs_out (n : Nat) (f : Ns → Ns) : (s.modNs n f).out = s.out := rfl
@[simp] theorem State.modNs_regs (n : Nat) (f : Ns → Ns) : (s.modNs n f).regs = s.regs := rfl
@[simp] theorem State.modNs_cfg (n : Nat) (f : Ns → Ns) : (s.modNs n f).cfg = s.cfg := rfl
@[simp] theorem State.modNs_cfgStaged (n : Nat) (f : Ns → Ns) : (s.modNs n f).cfgStaged = s.cfgStaged := rfl
@[simp] theorem State.modNs_fault (n : Nat) (f : Ns → Ns) : (s.modNs n f).fault = s.fault := rfl
@[simp] theorem State.modNs_klog (n : Nat) (f : Ns → Ns) : (s.modNs n f).klog = s.klog := rfl
@[simp] theorem State.modNs_intake (n : Nat) (f : Ns → Ns) : (s.modNs n f).intake = s.intake := rfl
@[simp] theorem State.modNs_sieve (n : Nat) (f : Ns → Ns) : (s.modNs n f).sieve = s.sieve := rfl
@[simp] theorem State.modNs_hamper (n : Nat) (f : Ns → Ns) : (s.modNs n f).hamper = s.hamper := rfl
@[simp] theorem State.modNs_flash (n : Nat) (f : Ns → Ns) : (s.modNs n f).flash = s.flash := rfl
@[simp] theorem State.modNs_trail (n : Nat) (f : Ns → Ns) : (s.modNs n f).trail = s.trail := rfl
@[simp] theorem State.modNs_tenant (n : Nat) (f : Ns → Ns) : (s.modNs n f).tenant = s.tenant := rfl
@[simp] theorem State.modNs_boot (n : Nat) (f : Ns → Ns) : (s.modNs n f).boot = s.boot := rfl
@[simp] theorem State.modNs_glaze (n : Nat) (f : Ns → Ns) : (s.modNs n f).glaze = s.glaze := rfl
@[simp] theorem State.modNs_power (n : Nat) (f : Ns → Ns) : (s.modNs n f).power = s.power := rfl
@[simp] theorem State.modNs_fabric (n : Nat) (f : Ns → Ns) : (s.modNs n f).fabric = s.fabric := rfl
@[simp] theorem State.modNs_fixity (n : Nat) (f : Ns → Ns) : (s.modNs n f).fixity = s.fixity := rfl
@[simp] theorem State.modNs_dram (n : Nat) (f : Ns → Ns) : (s.modNs n f).dram = s.dram := rfl
@[simp] theorem State.modNs_pcie (n : Nat) (f : Ns → Ns) : (s.modNs n f).pcie = s.pcie := rfl
@[simp] theorem State.modNs_wmk (n : Nat) (f : Ns → Ns) : (s.modNs n f).wmk = s.wmk := rfl
@[simp] theorem State.modNs_cone (n : Nat) (f : Ns → Ns) : (s.modNs n f).cone = s.cone := rfl
@[simp] theorem State.modNs_mgmt (n : Nat) (f : Ns → Ns) : (s.modNs n f).mgmt = s.mgmt := rfl

/-! ### An update of one zone -/

@[simp] theorem State.modZone_pending (n z : Nat) (f : Zone → Zone) : (s.modZone n z f).pending = s.pending := rfl
@[simp] theorem State.modZone_now (n z : Nat) (f : Zone → Zone) : (s.modZone n z f).now = s.now := rfl
@[simp] theorem State.modZone_freeCtr (n z : Nat) (f : Zone → Zone) : (s.modZone n z f).freeCtr = s.freeCtr := rfl
@[simp] theorem State.modZone_out (n z : Nat) (f : Zone → Zone) : (s.modZone n z f).out = s.out := rfl
@[simp] theorem State.modZone_regs (n z : Nat) (f : Zone → Zone) : (s.modZone n z f).regs = s.regs := rfl
@[simp] theorem State.modZone_cfg (n z : Nat) (f : Zone → Zone) : (s.modZone n z f).cfg = s.cfg := rfl
@[simp] theorem State.modZone_cfgStaged (n z : Nat) (f : Zone → Zone) : (s.modZone n z f).cfgStaged = s.cfgStaged := rfl
@[simp] theorem State.modZone_fault (n z : Nat) (f : Zone → Zone) : (s.modZone n z f).fault = s.fault := rfl
@[simp] theorem State.modZone_klog (n z : Nat) (f : Zone → Zone) : (s.modZone n z f).klog = s.klog := rfl
@[simp] theorem State.modZone_intake (n z : Nat) (f : Zone → Zone) : (s.modZone n z f).intake = s.intake := rfl
@[simp] theorem State.modZone_sieve (n z : Nat) (f : Zone → Zone) : (s.modZone n z f).sieve = s.sieve := rfl
@[simp] theorem State.modZone_hamper (n z : Nat) (f : Zone → Zone) : (s.modZone n z f).hamper = s.hamper := rfl
@[simp] theorem State.modZone_flash (n z : Nat) (f : Zone → Zone) : (s.modZone n z f).flash = s.flash := rfl
@[simp] theorem State.modZone_trail (n z : Nat) (f : Zone → Zone) : (s.modZone n z f).trail = s.trail := rfl
@[simp] theorem State.modZone_tenant (n z : Nat) (f : Zone → Zone) : (s.modZone n z f).tenant = s.tenant := rfl
@[simp] theorem State.modZone_boot (n z : Nat) (f : Zone → Zone) : (s.modZone n z f).boot = s.boot := rfl
@[simp] theorem State.modZone_glaze (n z : Nat) (f : Zone → Zone) : (s.modZone n z f).glaze = s.glaze := rfl
@[simp] theorem State.modZone_power (n z : Nat) (f : Zone → Zone) : (s.modZone n z f).power = s.power := rfl
@[simp] theorem State.modZone_fabric (n z : Nat) (f : Zone → Zone) : (s.modZone n z f).fabric = s.fabric := rfl
@[simp] theorem State.modZone_fixity (n z : Nat) (f : Zone → Zone) : (s.modZone n z f).fixity = s.fixity := rfl
@[simp] theorem State.modZone_dram (n z : Nat) (f : Zone → Zone) : (s.modZone n z f).dram = s.dram := rfl
@[simp] theorem State.modZone_pcie (n z : Nat) (f : Zone → Zone) : (s.modZone n z f).pcie = s.pcie := rfl
@[simp] theorem State.modZone_wmk (n z : Nat) (f : Zone → Zone) : (s.modZone n z f).wmk = s.wmk := rfl
@[simp] theorem State.modZone_cone (n z : Nat) (f : Zone → Zone) : (s.modZone n z f).cone = s.cone := rfl
@[simp] theorem State.modZone_mgmt (n z : Nat) (f : Zone → Zone) : (s.modZone n z f).mgmt = s.mgmt := rfl

/-! ### An update of one logical block -/

@[simp] theorem State.modBlk_pending (n a : Nat) (f : Blk → Blk) : (s.modBlk n a f).pending = s.pending := rfl
@[simp] theorem State.modBlk_now (n a : Nat) (f : Blk → Blk) : (s.modBlk n a f).now = s.now := rfl
@[simp] theorem State.modBlk_freeCtr (n a : Nat) (f : Blk → Blk) : (s.modBlk n a f).freeCtr = s.freeCtr := rfl
@[simp] theorem State.modBlk_out (n a : Nat) (f : Blk → Blk) : (s.modBlk n a f).out = s.out := rfl
@[simp] theorem State.modBlk_regs (n a : Nat) (f : Blk → Blk) : (s.modBlk n a f).regs = s.regs := rfl
@[simp] theorem State.modBlk_cfg (n a : Nat) (f : Blk → Blk) : (s.modBlk n a f).cfg = s.cfg := rfl
@[simp] theorem State.modBlk_cfgStaged (n a : Nat) (f : Blk → Blk) : (s.modBlk n a f).cfgStaged = s.cfgStaged := rfl
@[simp] theorem State.modBlk_fault (n a : Nat) (f : Blk → Blk) : (s.modBlk n a f).fault = s.fault := rfl
@[simp] theorem State.modBlk_klog (n a : Nat) (f : Blk → Blk) : (s.modBlk n a f).klog = s.klog := rfl
@[simp] theorem State.modBlk_intake (n a : Nat) (f : Blk → Blk) : (s.modBlk n a f).intake = s.intake := rfl
@[simp] theorem State.modBlk_sieve (n a : Nat) (f : Blk → Blk) : (s.modBlk n a f).sieve = s.sieve := rfl
@[simp] theorem State.modBlk_hamper (n a : Nat) (f : Blk → Blk) : (s.modBlk n a f).hamper = s.hamper := rfl
@[simp] theorem State.modBlk_flash (n a : Nat) (f : Blk → Blk) : (s.modBlk n a f).flash = s.flash := rfl
@[simp] theorem State.modBlk_trail (n a : Nat) (f : Blk → Blk) : (s.modBlk n a f).trail = s.trail := rfl
@[simp] theorem State.modBlk_tenant (n a : Nat) (f : Blk → Blk) : (s.modBlk n a f).tenant = s.tenant := rfl
@[simp] theorem State.modBlk_boot (n a : Nat) (f : Blk → Blk) : (s.modBlk n a f).boot = s.boot := rfl
@[simp] theorem State.modBlk_glaze (n a : Nat) (f : Blk → Blk) : (s.modBlk n a f).glaze = s.glaze := rfl
@[simp] theorem State.modBlk_power (n a : Nat) (f : Blk → Blk) : (s.modBlk n a f).power = s.power := rfl
@[simp] theorem State.modBlk_fabric (n a : Nat) (f : Blk → Blk) : (s.modBlk n a f).fabric = s.fabric := rfl
@[simp] theorem State.modBlk_fixity (n a : Nat) (f : Blk → Blk) : (s.modBlk n a f).fixity = s.fixity := rfl
@[simp] theorem State.modBlk_dram (n a : Nat) (f : Blk → Blk) : (s.modBlk n a f).dram = s.dram := rfl
@[simp] theorem State.modBlk_pcie (n a : Nat) (f : Blk → Blk) : (s.modBlk n a f).pcie = s.pcie := rfl
@[simp] theorem State.modBlk_wmk (n a : Nat) (f : Blk → Blk) : (s.modBlk n a f).wmk = s.wmk := rfl
@[simp] theorem State.modBlk_cone (n a : Nat) (f : Blk → Blk) : (s.modBlk n a f).cone = s.cone := rfl
@[simp] theorem State.modBlk_mgmt (n a : Nat) (f : Blk → Blk) : (s.modBlk n a f).mgmt = s.mgmt := rfl

/-! ### An update of one die set -/

@[simp] theorem State.modDieSet_pending (d : Nat) (f : DieSet → DieSet) : (s.modDieSet d f).pending = s.pending := rfl
@[simp] theorem State.modDieSet_now (d : Nat) (f : DieSet → DieSet) : (s.modDieSet d f).now = s.now := rfl
@[simp] theorem State.modDieSet_freeCtr (d : Nat) (f : DieSet → DieSet) : (s.modDieSet d f).freeCtr = s.freeCtr := rfl
@[simp] theorem State.modDieSet_out (d : Nat) (f : DieSet → DieSet) : (s.modDieSet d f).out = s.out := rfl
@[simp] theorem State.modDieSet_regs (d : Nat) (f : DieSet → DieSet) : (s.modDieSet d f).regs = s.regs := rfl
@[simp] theorem State.modDieSet_cfg (d : Nat) (f : DieSet → DieSet) : (s.modDieSet d f).cfg = s.cfg := rfl
@[simp] theorem State.modDieSet_cfgStaged (d : Nat) (f : DieSet → DieSet) : (s.modDieSet d f).cfgStaged = s.cfgStaged := rfl
@[simp] theorem State.modDieSet_fault (d : Nat) (f : DieSet → DieSet) : (s.modDieSet d f).fault = s.fault := rfl
@[simp] theorem State.modDieSet_klog (d : Nat) (f : DieSet → DieSet) : (s.modDieSet d f).klog = s.klog := rfl
@[simp] theorem State.modDieSet_intake (d : Nat) (f : DieSet → DieSet) : (s.modDieSet d f).intake = s.intake := rfl
@[simp] theorem State.modDieSet_sieve (d : Nat) (f : DieSet → DieSet) : (s.modDieSet d f).sieve = s.sieve := rfl
@[simp] theorem State.modDieSet_hamper (d : Nat) (f : DieSet → DieSet) : (s.modDieSet d f).hamper = s.hamper := rfl
@[simp] theorem State.modDieSet_flash (d : Nat) (f : DieSet → DieSet) : (s.modDieSet d f).flash = s.flash := rfl
@[simp] theorem State.modDieSet_trail (d : Nat) (f : DieSet → DieSet) : (s.modDieSet d f).trail = s.trail := rfl
@[simp] theorem State.modDieSet_tenant (d : Nat) (f : DieSet → DieSet) : (s.modDieSet d f).tenant = s.tenant := rfl
@[simp] theorem State.modDieSet_boot (d : Nat) (f : DieSet → DieSet) : (s.modDieSet d f).boot = s.boot := rfl
@[simp] theorem State.modDieSet_glaze (d : Nat) (f : DieSet → DieSet) : (s.modDieSet d f).glaze = s.glaze := rfl
@[simp] theorem State.modDieSet_power (d : Nat) (f : DieSet → DieSet) : (s.modDieSet d f).power = s.power := rfl
@[simp] theorem State.modDieSet_fabric (d : Nat) (f : DieSet → DieSet) : (s.modDieSet d f).fabric = s.fabric := rfl
@[simp] theorem State.modDieSet_fixity (d : Nat) (f : DieSet → DieSet) : (s.modDieSet d f).fixity = s.fixity := rfl
@[simp] theorem State.modDieSet_dram (d : Nat) (f : DieSet → DieSet) : (s.modDieSet d f).dram = s.dram := rfl
@[simp] theorem State.modDieSet_pcie (d : Nat) (f : DieSet → DieSet) : (s.modDieSet d f).pcie = s.pcie := rfl
@[simp] theorem State.modDieSet_wmk (d : Nat) (f : DieSet → DieSet) : (s.modDieSet d f).wmk = s.wmk := rfl
@[simp] theorem State.modDieSet_cone (d : Nat) (f : DieSet → DieSet) : (s.modDieSet d f).cone = s.cone := rfl
@[simp] theorem State.modDieSet_mgmt (d : Nat) (f : DieSet → DieSet) : (s.modDieSet d f).mgmt = s.mgmt := rfl

/-! ### An update of one group -/

@[simp] theorem State.modGroup_pending (g : Nat) (f : Group → Group) : (s.modGroup g f).pending = s.pending := rfl
@[simp] theorem State.modGroup_now (g : Nat) (f : Group → Group) : (s.modGroup g f).now = s.now := rfl
@[simp] theorem State.modGroup_freeCtr (g : Nat) (f : Group → Group) : (s.modGroup g f).freeCtr = s.freeCtr := rfl
@[simp] theorem State.modGroup_out (g : Nat) (f : Group → Group) : (s.modGroup g f).out = s.out := rfl
@[simp] theorem State.modGroup_regs (g : Nat) (f : Group → Group) : (s.modGroup g f).regs = s.regs := rfl
@[simp] theorem State.modGroup_cfg (g : Nat) (f : Group → Group) : (s.modGroup g f).cfg = s.cfg := rfl
@[simp] theorem State.modGroup_cfgStaged (g : Nat) (f : Group → Group) : (s.modGroup g f).cfgStaged = s.cfgStaged := rfl
@[simp] theorem State.modGroup_fault (g : Nat) (f : Group → Group) : (s.modGroup g f).fault = s.fault := rfl
@[simp] theorem State.modGroup_klog (g : Nat) (f : Group → Group) : (s.modGroup g f).klog = s.klog := rfl
@[simp] theorem State.modGroup_intake (g : Nat) (f : Group → Group) : (s.modGroup g f).intake = s.intake := rfl
@[simp] theorem State.modGroup_sieve (g : Nat) (f : Group → Group) : (s.modGroup g f).sieve = s.sieve := rfl
@[simp] theorem State.modGroup_hamper (g : Nat) (f : Group → Group) : (s.modGroup g f).hamper = s.hamper := rfl
@[simp] theorem State.modGroup_flash (g : Nat) (f : Group → Group) : (s.modGroup g f).flash = s.flash := rfl
@[simp] theorem State.modGroup_trail (g : Nat) (f : Group → Group) : (s.modGroup g f).trail = s.trail := rfl
@[simp] theorem State.modGroup_tenant (g : Nat) (f : Group → Group) : (s.modGroup g f).tenant = s.tenant := rfl
@[simp] theorem State.modGroup_boot (g : Nat) (f : Group → Group) : (s.modGroup g f).boot = s.boot := rfl
@[simp] theorem State.modGroup_glaze (g : Nat) (f : Group → Group) : (s.modGroup g f).glaze = s.glaze := rfl
@[simp] theorem State.modGroup_power (g : Nat) (f : Group → Group) : (s.modGroup g f).power = s.power := rfl
@[simp] theorem State.modGroup_fabric (g : Nat) (f : Group → Group) : (s.modGroup g f).fabric = s.fabric := rfl
@[simp] theorem State.modGroup_fixity (g : Nat) (f : Group → Group) : (s.modGroup g f).fixity = s.fixity := rfl
@[simp] theorem State.modGroup_dram (g : Nat) (f : Group → Group) : (s.modGroup g f).dram = s.dram := rfl
@[simp] theorem State.modGroup_pcie (g : Nat) (f : Group → Group) : (s.modGroup g f).pcie = s.pcie := rfl
@[simp] theorem State.modGroup_wmk (g : Nat) (f : Group → Group) : (s.modGroup g f).wmk = s.wmk := rfl
@[simp] theorem State.modGroup_cone (g : Nat) (f : Group → Group) : (s.modGroup g f).cone = s.cone := rfl
@[simp] theorem State.modGroup_mgmt (g : Nat) (f : Group → Group) : (s.modGroup g f).mgmt = s.mgmt := rfl

/-! ### An update of one command tag -/

@[simp] theorem State.modTag_pending (t : Nat) (f : TagRec → TagRec) : (s.modTag t f).pending = s.pending := rfl
@[simp] theorem State.modTag_now (t : Nat) (f : TagRec → TagRec) : (s.modTag t f).now = s.now := rfl
@[simp] theorem State.modTag_freeCtr (t : Nat) (f : TagRec → TagRec) : (s.modTag t f).freeCtr = s.freeCtr := rfl
@[simp] theorem State.modTag_out (t : Nat) (f : TagRec → TagRec) : (s.modTag t f).out = s.out := rfl
@[simp] theorem State.modTag_regs (t : Nat) (f : TagRec → TagRec) : (s.modTag t f).regs = s.regs := rfl
@[simp] theorem State.modTag_cfg (t : Nat) (f : TagRec → TagRec) : (s.modTag t f).cfg = s.cfg := rfl
@[simp] theorem State.modTag_cfgStaged (t : Nat) (f : TagRec → TagRec) : (s.modTag t f).cfgStaged = s.cfgStaged := rfl
@[simp] theorem State.modTag_fault (t : Nat) (f : TagRec → TagRec) : (s.modTag t f).fault = s.fault := rfl
@[simp] theorem State.modTag_klog (t : Nat) (f : TagRec → TagRec) : (s.modTag t f).klog = s.klog := rfl
@[simp] theorem State.modTag_sieve (t : Nat) (f : TagRec → TagRec) : (s.modTag t f).sieve = s.sieve := rfl
@[simp] theorem State.modTag_hamper (t : Nat) (f : TagRec → TagRec) : (s.modTag t f).hamper = s.hamper := rfl
@[simp] theorem State.modTag_zone (t : Nat) (f : TagRec → TagRec) : (s.modTag t f).zone = s.zone := rfl
@[simp] theorem State.modTag_flash (t : Nat) (f : TagRec → TagRec) : (s.modTag t f).flash = s.flash := rfl
@[simp] theorem State.modTag_trail (t : Nat) (f : TagRec → TagRec) : (s.modTag t f).trail = s.trail := rfl
@[simp] theorem State.modTag_tenant (t : Nat) (f : TagRec → TagRec) : (s.modTag t f).tenant = s.tenant := rfl
@[simp] theorem State.modTag_boot (t : Nat) (f : TagRec → TagRec) : (s.modTag t f).boot = s.boot := rfl
@[simp] theorem State.modTag_glaze (t : Nat) (f : TagRec → TagRec) : (s.modTag t f).glaze = s.glaze := rfl
@[simp] theorem State.modTag_power (t : Nat) (f : TagRec → TagRec) : (s.modTag t f).power = s.power := rfl
@[simp] theorem State.modTag_fabric (t : Nat) (f : TagRec → TagRec) : (s.modTag t f).fabric = s.fabric := rfl
@[simp] theorem State.modTag_fixity (t : Nat) (f : TagRec → TagRec) : (s.modTag t f).fixity = s.fixity := rfl
@[simp] theorem State.modTag_dram (t : Nat) (f : TagRec → TagRec) : (s.modTag t f).dram = s.dram := rfl
@[simp] theorem State.modTag_pcie (t : Nat) (f : TagRec → TagRec) : (s.modTag t f).pcie = s.pcie := rfl
@[simp] theorem State.modTag_wmk (t : Nat) (f : TagRec → TagRec) : (s.modTag t f).wmk = s.wmk := rfl
@[simp] theorem State.modTag_cone (t : Nat) (f : TagRec → TagRec) : (s.modTag t f).cone = s.cone := rfl
@[simp] theorem State.modTag_mgmt (t : Nat) (f : TagRec → TagRec) : (s.modTag t f).mgmt = s.mgmt := rfl

/-! ### An update of one die -/

@[simp] theorem State.modDie_pending (d : Nat) (f : Die → Die) : (s.modDie d f).pending = s.pending := rfl
@[simp] theorem State.modDie_now (d : Nat) (f : Die → Die) : (s.modDie d f).now = s.now := rfl
@[simp] theorem State.modDie_freeCtr (d : Nat) (f : Die → Die) : (s.modDie d f).freeCtr = s.freeCtr := rfl
@[simp] theorem State.modDie_out (d : Nat) (f : Die → Die) : (s.modDie d f).out = s.out := rfl
@[simp] theorem State.modDie_regs (d : Nat) (f : Die → Die) : (s.modDie d f).regs = s.regs := rfl
@[simp] theorem State.modDie_cfg (d : Nat) (f : Die → Die) : (s.modDie d f).cfg = s.cfg := rfl
@[simp] theorem State.modDie_cfgStaged (d : Nat) (f : Die → Die) : (s.modDie d f).cfgStaged = s.cfgStaged := rfl
@[simp] theorem State.modDie_fault (d : Nat) (f : Die → Die) : (s.modDie d f).fault = s.fault := rfl
@[simp] theorem State.modDie_klog (d : Nat) (f : Die → Die) : (s.modDie d f).klog = s.klog := rfl
@[simp] theorem State.modDie_intake (d : Nat) (f : Die → Die) : (s.modDie d f).intake = s.intake := rfl
@[simp] theorem State.modDie_sieve (d : Nat) (f : Die → Die) : (s.modDie d f).sieve = s.sieve := rfl
@[simp] theorem State.modDie_hamper (d : Nat) (f : Die → Die) : (s.modDie d f).hamper = s.hamper := rfl
@[simp] theorem State.modDie_zone (d : Nat) (f : Die → Die) : (s.modDie d f).zone = s.zone := rfl
@[simp] theorem State.modDie_trail (d : Nat) (f : Die → Die) : (s.modDie d f).trail = s.trail := rfl
@[simp] theorem State.modDie_tenant (d : Nat) (f : Die → Die) : (s.modDie d f).tenant = s.tenant := rfl
@[simp] theorem State.modDie_boot (d : Nat) (f : Die → Die) : (s.modDie d f).boot = s.boot := rfl
@[simp] theorem State.modDie_glaze (d : Nat) (f : Die → Die) : (s.modDie d f).glaze = s.glaze := rfl
@[simp] theorem State.modDie_power (d : Nat) (f : Die → Die) : (s.modDie d f).power = s.power := rfl
@[simp] theorem State.modDie_fabric (d : Nat) (f : Die → Die) : (s.modDie d f).fabric = s.fabric := rfl
@[simp] theorem State.modDie_fixity (d : Nat) (f : Die → Die) : (s.modDie d f).fixity = s.fixity := rfl
@[simp] theorem State.modDie_dram (d : Nat) (f : Die → Die) : (s.modDie d f).dram = s.dram := rfl
@[simp] theorem State.modDie_pcie (d : Nat) (f : Die → Die) : (s.modDie d f).pcie = s.pcie := rfl
@[simp] theorem State.modDie_wmk (d : Nat) (f : Die → Die) : (s.modDie d f).wmk = s.wmk := rfl
@[simp] theorem State.modDie_cone (d : Nat) (f : Die → Die) : (s.modDie d f).cone = s.cone := rfl
@[simp] theorem State.modDie_mgmt (d : Nat) (f : Die → Die) : (s.modDie d f).mgmt = s.mgmt := rfl

/-! ### An update of one flash block -/

@[simp] theorem State.modBlock_pending (k : Nat) (f : Block → Block) : (s.modBlock k f).pending = s.pending := rfl
@[simp] theorem State.modBlock_now (k : Nat) (f : Block → Block) : (s.modBlock k f).now = s.now := rfl
@[simp] theorem State.modBlock_freeCtr (k : Nat) (f : Block → Block) : (s.modBlock k f).freeCtr = s.freeCtr := rfl
@[simp] theorem State.modBlock_out (k : Nat) (f : Block → Block) : (s.modBlock k f).out = s.out := rfl
@[simp] theorem State.modBlock_regs (k : Nat) (f : Block → Block) : (s.modBlock k f).regs = s.regs := rfl
@[simp] theorem State.modBlock_cfg (k : Nat) (f : Block → Block) : (s.modBlock k f).cfg = s.cfg := rfl
@[simp] theorem State.modBlock_cfgStaged (k : Nat) (f : Block → Block) : (s.modBlock k f).cfgStaged = s.cfgStaged := rfl
@[simp] theorem State.modBlock_fault (k : Nat) (f : Block → Block) : (s.modBlock k f).fault = s.fault := rfl
@[simp] theorem State.modBlock_klog (k : Nat) (f : Block → Block) : (s.modBlock k f).klog = s.klog := rfl
@[simp] theorem State.modBlock_intake (k : Nat) (f : Block → Block) : (s.modBlock k f).intake = s.intake := rfl
@[simp] theorem State.modBlock_sieve (k : Nat) (f : Block → Block) : (s.modBlock k f).sieve = s.sieve := rfl
@[simp] theorem State.modBlock_hamper (k : Nat) (f : Block → Block) : (s.modBlock k f).hamper = s.hamper := rfl
@[simp] theorem State.modBlock_zone (k : Nat) (f : Block → Block) : (s.modBlock k f).zone = s.zone := rfl
@[simp] theorem State.modBlock_trail (k : Nat) (f : Block → Block) : (s.modBlock k f).trail = s.trail := rfl
@[simp] theorem State.modBlock_tenant (k : Nat) (f : Block → Block) : (s.modBlock k f).tenant = s.tenant := rfl
@[simp] theorem State.modBlock_boot (k : Nat) (f : Block → Block) : (s.modBlock k f).boot = s.boot := rfl
@[simp] theorem State.modBlock_glaze (k : Nat) (f : Block → Block) : (s.modBlock k f).glaze = s.glaze := rfl
@[simp] theorem State.modBlock_power (k : Nat) (f : Block → Block) : (s.modBlock k f).power = s.power := rfl
@[simp] theorem State.modBlock_fabric (k : Nat) (f : Block → Block) : (s.modBlock k f).fabric = s.fabric := rfl
@[simp] theorem State.modBlock_fixity (k : Nat) (f : Block → Block) : (s.modBlock k f).fixity = s.fixity := rfl
@[simp] theorem State.modBlock_dram (k : Nat) (f : Block → Block) : (s.modBlock k f).dram = s.dram := rfl
@[simp] theorem State.modBlock_pcie (k : Nat) (f : Block → Block) : (s.modBlock k f).pcie = s.pcie := rfl
@[simp] theorem State.modBlock_wmk (k : Nat) (f : Block → Block) : (s.modBlock k f).wmk = s.wmk := rfl
@[simp] theorem State.modBlock_cone (k : Nat) (f : Block → Block) : (s.modBlock k f).cone = s.cone := rfl
@[simp] theorem State.modBlock_mgmt (k : Nat) (f : Block → Block) : (s.modBlock k f).mgmt = s.mgmt := rfl

/-! ### An update of one row -/

@[simp] theorem State.modRow_pending (r : RowRef) (f : RowRec → RowRec) : (s.modRow r f).pending = s.pending := rfl
@[simp] theorem State.modRow_now (r : RowRef) (f : RowRec → RowRec) : (s.modRow r f).now = s.now := rfl
@[simp] theorem State.modRow_freeCtr (r : RowRef) (f : RowRec → RowRec) : (s.modRow r f).freeCtr = s.freeCtr := rfl
@[simp] theorem State.modRow_out (r : RowRef) (f : RowRec → RowRec) : (s.modRow r f).out = s.out := rfl
@[simp] theorem State.modRow_regs (r : RowRef) (f : RowRec → RowRec) : (s.modRow r f).regs = s.regs := rfl
@[simp] theorem State.modRow_cfg (r : RowRef) (f : RowRec → RowRec) : (s.modRow r f).cfg = s.cfg := rfl
@[simp] theorem State.modRow_cfgStaged (r : RowRef) (f : RowRec → RowRec) : (s.modRow r f).cfgStaged = s.cfgStaged := rfl
@[simp] theorem State.modRow_fault (r : RowRef) (f : RowRec → RowRec) : (s.modRow r f).fault = s.fault := rfl
@[simp] theorem State.modRow_klog (r : RowRef) (f : RowRec → RowRec) : (s.modRow r f).klog = s.klog := rfl
@[simp] theorem State.modRow_intake (r : RowRef) (f : RowRec → RowRec) : (s.modRow r f).intake = s.intake := rfl
@[simp] theorem State.modRow_sieve (r : RowRef) (f : RowRec → RowRec) : (s.modRow r f).sieve = s.sieve := rfl
@[simp] theorem State.modRow_hamper (r : RowRef) (f : RowRec → RowRec) : (s.modRow r f).hamper = s.hamper := rfl
@[simp] theorem State.modRow_zone (r : RowRef) (f : RowRec → RowRec) : (s.modRow r f).zone = s.zone := rfl
@[simp] theorem State.modRow_trail (r : RowRef) (f : RowRec → RowRec) : (s.modRow r f).trail = s.trail := rfl
@[simp] theorem State.modRow_tenant (r : RowRef) (f : RowRec → RowRec) : (s.modRow r f).tenant = s.tenant := rfl
@[simp] theorem State.modRow_boot (r : RowRef) (f : RowRec → RowRec) : (s.modRow r f).boot = s.boot := rfl
@[simp] theorem State.modRow_glaze (r : RowRef) (f : RowRec → RowRec) : (s.modRow r f).glaze = s.glaze := rfl
@[simp] theorem State.modRow_power (r : RowRef) (f : RowRec → RowRec) : (s.modRow r f).power = s.power := rfl
@[simp] theorem State.modRow_fabric (r : RowRef) (f : RowRec → RowRec) : (s.modRow r f).fabric = s.fabric := rfl
@[simp] theorem State.modRow_fixity (r : RowRef) (f : RowRec → RowRec) : (s.modRow r f).fixity = s.fixity := rfl
@[simp] theorem State.modRow_dram (r : RowRef) (f : RowRec → RowRec) : (s.modRow r f).dram = s.dram := rfl
@[simp] theorem State.modRow_pcie (r : RowRef) (f : RowRec → RowRec) : (s.modRow r f).pcie = s.pcie := rfl
@[simp] theorem State.modRow_wmk (r : RowRef) (f : RowRec → RowRec) : (s.modRow r f).wmk = s.wmk := rfl
@[simp] theorem State.modRow_cone (r : RowRef) (f : RowRec → RowRec) : (s.modRow r f).cone = s.cone := rfl
@[simp] theorem State.modRow_mgmt (r : RowRef) (f : RowRec → RowRec) : (s.modRow r f).mgmt = s.mgmt := rfl

/-! ### An update of one Hamper pool -/

@[simp] theorem State.modPool_pending (p : Nat) (f : Pool → Pool) : (s.modPool p f).pending = s.pending := rfl
@[simp] theorem State.modPool_now (p : Nat) (f : Pool → Pool) : (s.modPool p f).now = s.now := rfl
@[simp] theorem State.modPool_freeCtr (p : Nat) (f : Pool → Pool) : (s.modPool p f).freeCtr = s.freeCtr := rfl
@[simp] theorem State.modPool_out (p : Nat) (f : Pool → Pool) : (s.modPool p f).out = s.out := rfl
@[simp] theorem State.modPool_regs (p : Nat) (f : Pool → Pool) : (s.modPool p f).regs = s.regs := rfl
@[simp] theorem State.modPool_cfg (p : Nat) (f : Pool → Pool) : (s.modPool p f).cfg = s.cfg := rfl
@[simp] theorem State.modPool_cfgStaged (p : Nat) (f : Pool → Pool) : (s.modPool p f).cfgStaged = s.cfgStaged := rfl
@[simp] theorem State.modPool_fault (p : Nat) (f : Pool → Pool) : (s.modPool p f).fault = s.fault := rfl
@[simp] theorem State.modPool_klog (p : Nat) (f : Pool → Pool) : (s.modPool p f).klog = s.klog := rfl
@[simp] theorem State.modPool_intake (p : Nat) (f : Pool → Pool) : (s.modPool p f).intake = s.intake := rfl
@[simp] theorem State.modPool_sieve (p : Nat) (f : Pool → Pool) : (s.modPool p f).sieve = s.sieve := rfl
@[simp] theorem State.modPool_zone (p : Nat) (f : Pool → Pool) : (s.modPool p f).zone = s.zone := rfl
@[simp] theorem State.modPool_flash (p : Nat) (f : Pool → Pool) : (s.modPool p f).flash = s.flash := rfl
@[simp] theorem State.modPool_trail (p : Nat) (f : Pool → Pool) : (s.modPool p f).trail = s.trail := rfl
@[simp] theorem State.modPool_tenant (p : Nat) (f : Pool → Pool) : (s.modPool p f).tenant = s.tenant := rfl
@[simp] theorem State.modPool_boot (p : Nat) (f : Pool → Pool) : (s.modPool p f).boot = s.boot := rfl
@[simp] theorem State.modPool_glaze (p : Nat) (f : Pool → Pool) : (s.modPool p f).glaze = s.glaze := rfl
@[simp] theorem State.modPool_power (p : Nat) (f : Pool → Pool) : (s.modPool p f).power = s.power := rfl
@[simp] theorem State.modPool_fabric (p : Nat) (f : Pool → Pool) : (s.modPool p f).fabric = s.fabric := rfl
@[simp] theorem State.modPool_fixity (p : Nat) (f : Pool → Pool) : (s.modPool p f).fixity = s.fixity := rfl
@[simp] theorem State.modPool_dram (p : Nat) (f : Pool → Pool) : (s.modPool p f).dram = s.dram := rfl
@[simp] theorem State.modPool_pcie (p : Nat) (f : Pool → Pool) : (s.modPool p f).pcie = s.pcie := rfl
@[simp] theorem State.modPool_wmk (p : Nat) (f : Pool → Pool) : (s.modPool p f).wmk = s.wmk := rfl
@[simp] theorem State.modPool_cone (p : Nat) (f : Pool → Pool) : (s.modPool p f).cone = s.cone := rfl
@[simp] theorem State.modPool_mgmt (p : Nat) (f : Pool → Pool) : (s.modPool p f).mgmt = s.mgmt := rfl

/-! ### An update of one Hamper unit -/

@[simp] theorem State.modUnit_pending (u : Nat) (f : HUnit → HUnit) : (s.modUnit u f).pending = s.pending := rfl
@[simp] theorem State.modUnit_now (u : Nat) (f : HUnit → HUnit) : (s.modUnit u f).now = s.now := rfl
@[simp] theorem State.modUnit_freeCtr (u : Nat) (f : HUnit → HUnit) : (s.modUnit u f).freeCtr = s.freeCtr := rfl
@[simp] theorem State.modUnit_out (u : Nat) (f : HUnit → HUnit) : (s.modUnit u f).out = s.out := rfl
@[simp] theorem State.modUnit_regs (u : Nat) (f : HUnit → HUnit) : (s.modUnit u f).regs = s.regs := rfl
@[simp] theorem State.modUnit_cfg (u : Nat) (f : HUnit → HUnit) : (s.modUnit u f).cfg = s.cfg := rfl
@[simp] theorem State.modUnit_cfgStaged (u : Nat) (f : HUnit → HUnit) : (s.modUnit u f).cfgStaged = s.cfgStaged := rfl
@[simp] theorem State.modUnit_fault (u : Nat) (f : HUnit → HUnit) : (s.modUnit u f).fault = s.fault := rfl
@[simp] theorem State.modUnit_klog (u : Nat) (f : HUnit → HUnit) : (s.modUnit u f).klog = s.klog := rfl
@[simp] theorem State.modUnit_intake (u : Nat) (f : HUnit → HUnit) : (s.modUnit u f).intake = s.intake := rfl
@[simp] theorem State.modUnit_sieve (u : Nat) (f : HUnit → HUnit) : (s.modUnit u f).sieve = s.sieve := rfl
@[simp] theorem State.modUnit_zone (u : Nat) (f : HUnit → HUnit) : (s.modUnit u f).zone = s.zone := rfl
@[simp] theorem State.modUnit_flash (u : Nat) (f : HUnit → HUnit) : (s.modUnit u f).flash = s.flash := rfl
@[simp] theorem State.modUnit_trail (u : Nat) (f : HUnit → HUnit) : (s.modUnit u f).trail = s.trail := rfl
@[simp] theorem State.modUnit_tenant (u : Nat) (f : HUnit → HUnit) : (s.modUnit u f).tenant = s.tenant := rfl
@[simp] theorem State.modUnit_boot (u : Nat) (f : HUnit → HUnit) : (s.modUnit u f).boot = s.boot := rfl
@[simp] theorem State.modUnit_glaze (u : Nat) (f : HUnit → HUnit) : (s.modUnit u f).glaze = s.glaze := rfl
@[simp] theorem State.modUnit_power (u : Nat) (f : HUnit → HUnit) : (s.modUnit u f).power = s.power := rfl
@[simp] theorem State.modUnit_fabric (u : Nat) (f : HUnit → HUnit) : (s.modUnit u f).fabric = s.fabric := rfl
@[simp] theorem State.modUnit_fixity (u : Nat) (f : HUnit → HUnit) : (s.modUnit u f).fixity = s.fixity := rfl
@[simp] theorem State.modUnit_dram (u : Nat) (f : HUnit → HUnit) : (s.modUnit u f).dram = s.dram := rfl
@[simp] theorem State.modUnit_pcie (u : Nat) (f : HUnit → HUnit) : (s.modUnit u f).pcie = s.pcie := rfl
@[simp] theorem State.modUnit_wmk (u : Nat) (f : HUnit → HUnit) : (s.modUnit u f).wmk = s.wmk := rfl
@[simp] theorem State.modUnit_cone (u : Nat) (f : HUnit → HUnit) : (s.modUnit u f).cone = s.cone := rfl
@[simp] theorem State.modUnit_mgmt (u : Nat) (f : HUnit → HUnit) : (s.modUnit u f).mgmt = s.mgmt := rfl

/-! ### An update of one Sieve position -/

@[simp] theorem State.modEnt_pending (p : Nat) (f : Ent → Ent) : (s.modEnt p f).pending = s.pending := rfl
@[simp] theorem State.modEnt_now (p : Nat) (f : Ent → Ent) : (s.modEnt p f).now = s.now := rfl
@[simp] theorem State.modEnt_freeCtr (p : Nat) (f : Ent → Ent) : (s.modEnt p f).freeCtr = s.freeCtr := rfl
@[simp] theorem State.modEnt_out (p : Nat) (f : Ent → Ent) : (s.modEnt p f).out = s.out := rfl
@[simp] theorem State.modEnt_regs (p : Nat) (f : Ent → Ent) : (s.modEnt p f).regs = s.regs := rfl
@[simp] theorem State.modEnt_cfg (p : Nat) (f : Ent → Ent) : (s.modEnt p f).cfg = s.cfg := rfl
@[simp] theorem State.modEnt_cfgStaged (p : Nat) (f : Ent → Ent) : (s.modEnt p f).cfgStaged = s.cfgStaged := rfl
@[simp] theorem State.modEnt_fault (p : Nat) (f : Ent → Ent) : (s.modEnt p f).fault = s.fault := rfl
@[simp] theorem State.modEnt_klog (p : Nat) (f : Ent → Ent) : (s.modEnt p f).klog = s.klog := rfl
@[simp] theorem State.modEnt_intake (p : Nat) (f : Ent → Ent) : (s.modEnt p f).intake = s.intake := rfl
@[simp] theorem State.modEnt_hamper (p : Nat) (f : Ent → Ent) : (s.modEnt p f).hamper = s.hamper := rfl
@[simp] theorem State.modEnt_zone (p : Nat) (f : Ent → Ent) : (s.modEnt p f).zone = s.zone := rfl
@[simp] theorem State.modEnt_flash (p : Nat) (f : Ent → Ent) : (s.modEnt p f).flash = s.flash := rfl
@[simp] theorem State.modEnt_trail (p : Nat) (f : Ent → Ent) : (s.modEnt p f).trail = s.trail := rfl
@[simp] theorem State.modEnt_tenant (p : Nat) (f : Ent → Ent) : (s.modEnt p f).tenant = s.tenant := rfl
@[simp] theorem State.modEnt_boot (p : Nat) (f : Ent → Ent) : (s.modEnt p f).boot = s.boot := rfl
@[simp] theorem State.modEnt_glaze (p : Nat) (f : Ent → Ent) : (s.modEnt p f).glaze = s.glaze := rfl
@[simp] theorem State.modEnt_power (p : Nat) (f : Ent → Ent) : (s.modEnt p f).power = s.power := rfl
@[simp] theorem State.modEnt_fabric (p : Nat) (f : Ent → Ent) : (s.modEnt p f).fabric = s.fabric := rfl
@[simp] theorem State.modEnt_fixity (p : Nat) (f : Ent → Ent) : (s.modEnt p f).fixity = s.fixity := rfl
@[simp] theorem State.modEnt_dram (p : Nat) (f : Ent → Ent) : (s.modEnt p f).dram = s.dram := rfl
@[simp] theorem State.modEnt_pcie (p : Nat) (f : Ent → Ent) : (s.modEnt p f).pcie = s.pcie := rfl
@[simp] theorem State.modEnt_wmk (p : Nat) (f : Ent → Ent) : (s.modEnt p f).wmk = s.wmk := rfl
@[simp] theorem State.modEnt_cone (p : Nat) (f : Ent → Ent) : (s.modEnt p f).cone = s.cone := rfl
@[simp] theorem State.modEnt_mgmt (p : Nat) (f : Ent → Ent) : (s.modEnt p f).mgmt = s.mgmt := rfl

/-! ### An update of one fault source -/

@[simp] theorem State.modSrc_pending (c : Nat) (f : Src → Src) : (s.modSrc c f).pending = s.pending := rfl
@[simp] theorem State.modSrc_now (c : Nat) (f : Src → Src) : (s.modSrc c f).now = s.now := rfl
@[simp] theorem State.modSrc_freeCtr (c : Nat) (f : Src → Src) : (s.modSrc c f).freeCtr = s.freeCtr := rfl
@[simp] theorem State.modSrc_out (c : Nat) (f : Src → Src) : (s.modSrc c f).out = s.out := rfl
@[simp] theorem State.modSrc_regs (c : Nat) (f : Src → Src) : (s.modSrc c f).regs = s.regs := rfl
@[simp] theorem State.modSrc_cfg (c : Nat) (f : Src → Src) : (s.modSrc c f).cfg = s.cfg := rfl
@[simp] theorem State.modSrc_cfgStaged (c : Nat) (f : Src → Src) : (s.modSrc c f).cfgStaged = s.cfgStaged := rfl
@[simp] theorem State.modSrc_klog (c : Nat) (f : Src → Src) : (s.modSrc c f).klog = s.klog := rfl
@[simp] theorem State.modSrc_intake (c : Nat) (f : Src → Src) : (s.modSrc c f).intake = s.intake := rfl
@[simp] theorem State.modSrc_sieve (c : Nat) (f : Src → Src) : (s.modSrc c f).sieve = s.sieve := rfl
@[simp] theorem State.modSrc_hamper (c : Nat) (f : Src → Src) : (s.modSrc c f).hamper = s.hamper := rfl
@[simp] theorem State.modSrc_zone (c : Nat) (f : Src → Src) : (s.modSrc c f).zone = s.zone := rfl
@[simp] theorem State.modSrc_flash (c : Nat) (f : Src → Src) : (s.modSrc c f).flash = s.flash := rfl
@[simp] theorem State.modSrc_trail (c : Nat) (f : Src → Src) : (s.modSrc c f).trail = s.trail := rfl
@[simp] theorem State.modSrc_tenant (c : Nat) (f : Src → Src) : (s.modSrc c f).tenant = s.tenant := rfl
@[simp] theorem State.modSrc_boot (c : Nat) (f : Src → Src) : (s.modSrc c f).boot = s.boot := rfl
@[simp] theorem State.modSrc_glaze (c : Nat) (f : Src → Src) : (s.modSrc c f).glaze = s.glaze := rfl
@[simp] theorem State.modSrc_power (c : Nat) (f : Src → Src) : (s.modSrc c f).power = s.power := rfl
@[simp] theorem State.modSrc_fabric (c : Nat) (f : Src → Src) : (s.modSrc c f).fabric = s.fabric := rfl
@[simp] theorem State.modSrc_fixity (c : Nat) (f : Src → Src) : (s.modSrc c f).fixity = s.fixity := rfl
@[simp] theorem State.modSrc_dram (c : Nat) (f : Src → Src) : (s.modSrc c f).dram = s.dram := rfl
@[simp] theorem State.modSrc_pcie (c : Nat) (f : Src → Src) : (s.modSrc c f).pcie = s.pcie := rfl
@[simp] theorem State.modSrc_wmk (c : Nat) (f : Src → Src) : (s.modSrc c f).wmk = s.wmk := rfl
@[simp] theorem State.modSrc_cone (c : Nat) (f : Src → Src) : (s.modSrc c f).cone = s.cone := rfl
@[simp] theorem State.modSrc_mgmt (c : Nat) (f : Src → Src) : (s.modSrc c f).mgmt = s.mgmt := rfl

/-! ### An update of one fence port -/

@[simp] theorem State.modFport_pending (p : Nat) (f : FPort → FPort) : (s.modFport p f).pending = s.pending := rfl
@[simp] theorem State.modFport_now (p : Nat) (f : FPort → FPort) : (s.modFport p f).now = s.now := rfl
@[simp] theorem State.modFport_freeCtr (p : Nat) (f : FPort → FPort) : (s.modFport p f).freeCtr = s.freeCtr := rfl
@[simp] theorem State.modFport_out (p : Nat) (f : FPort → FPort) : (s.modFport p f).out = s.out := rfl
@[simp] theorem State.modFport_regs (p : Nat) (f : FPort → FPort) : (s.modFport p f).regs = s.regs := rfl
@[simp] theorem State.modFport_cfg (p : Nat) (f : FPort → FPort) : (s.modFport p f).cfg = s.cfg := rfl
@[simp] theorem State.modFport_cfgStaged (p : Nat) (f : FPort → FPort) : (s.modFport p f).cfgStaged = s.cfgStaged := rfl
@[simp] theorem State.modFport_fault (p : Nat) (f : FPort → FPort) : (s.modFport p f).fault = s.fault := rfl
@[simp] theorem State.modFport_klog (p : Nat) (f : FPort → FPort) : (s.modFport p f).klog = s.klog := rfl
@[simp] theorem State.modFport_intake (p : Nat) (f : FPort → FPort) : (s.modFport p f).intake = s.intake := rfl
@[simp] theorem State.modFport_sieve (p : Nat) (f : FPort → FPort) : (s.modFport p f).sieve = s.sieve := rfl
@[simp] theorem State.modFport_hamper (p : Nat) (f : FPort → FPort) : (s.modFport p f).hamper = s.hamper := rfl
@[simp] theorem State.modFport_zone (p : Nat) (f : FPort → FPort) : (s.modFport p f).zone = s.zone := rfl
@[simp] theorem State.modFport_flash (p : Nat) (f : FPort → FPort) : (s.modFport p f).flash = s.flash := rfl
@[simp] theorem State.modFport_trail (p : Nat) (f : FPort → FPort) : (s.modFport p f).trail = s.trail := rfl
@[simp] theorem State.modFport_tenant (p : Nat) (f : FPort → FPort) : (s.modFport p f).tenant = s.tenant := rfl
@[simp] theorem State.modFport_boot (p : Nat) (f : FPort → FPort) : (s.modFport p f).boot = s.boot := rfl
@[simp] theorem State.modFport_glaze (p : Nat) (f : FPort → FPort) : (s.modFport p f).glaze = s.glaze := rfl
@[simp] theorem State.modFport_power (p : Nat) (f : FPort → FPort) : (s.modFport p f).power = s.power := rfl
@[simp] theorem State.modFport_fabric (p : Nat) (f : FPort → FPort) : (s.modFport p f).fabric = s.fabric := rfl
@[simp] theorem State.modFport_fixity (p : Nat) (f : FPort → FPort) : (s.modFport p f).fixity = s.fixity := rfl
@[simp] theorem State.modFport_dram (p : Nat) (f : FPort → FPort) : (s.modFport p f).dram = s.dram := rfl
@[simp] theorem State.modFport_pcie (p : Nat) (f : FPort → FPort) : (s.modFport p f).pcie = s.pcie := rfl
@[simp] theorem State.modFport_cone (p : Nat) (f : FPort → FPort) : (s.modFport p f).cone = s.cone := rfl
@[simp] theorem State.modFport_mgmt (p : Nat) (f : FPort → FPort) : (s.modFport p f).mgmt = s.mgmt := rfl

/-! ### An update of one exposed write -/

@[simp] theorem State.modExpo_pending (q : Nat) (f : Expo → Expo) : (s.modExpo q f).pending = s.pending := rfl
@[simp] theorem State.modExpo_now (q : Nat) (f : Expo → Expo) : (s.modExpo q f).now = s.now := rfl
@[simp] theorem State.modExpo_freeCtr (q : Nat) (f : Expo → Expo) : (s.modExpo q f).freeCtr = s.freeCtr := rfl
@[simp] theorem State.modExpo_out (q : Nat) (f : Expo → Expo) : (s.modExpo q f).out = s.out := rfl
@[simp] theorem State.modExpo_regs (q : Nat) (f : Expo → Expo) : (s.modExpo q f).regs = s.regs := rfl
@[simp] theorem State.modExpo_cfg (q : Nat) (f : Expo → Expo) : (s.modExpo q f).cfg = s.cfg := rfl
@[simp] theorem State.modExpo_cfgStaged (q : Nat) (f : Expo → Expo) : (s.modExpo q f).cfgStaged = s.cfgStaged := rfl
@[simp] theorem State.modExpo_fault (q : Nat) (f : Expo → Expo) : (s.modExpo q f).fault = s.fault := rfl
@[simp] theorem State.modExpo_klog (q : Nat) (f : Expo → Expo) : (s.modExpo q f).klog = s.klog := rfl
@[simp] theorem State.modExpo_intake (q : Nat) (f : Expo → Expo) : (s.modExpo q f).intake = s.intake := rfl
@[simp] theorem State.modExpo_sieve (q : Nat) (f : Expo → Expo) : (s.modExpo q f).sieve = s.sieve := rfl
@[simp] theorem State.modExpo_hamper (q : Nat) (f : Expo → Expo) : (s.modExpo q f).hamper = s.hamper := rfl
@[simp] theorem State.modExpo_zone (q : Nat) (f : Expo → Expo) : (s.modExpo q f).zone = s.zone := rfl
@[simp] theorem State.modExpo_flash (q : Nat) (f : Expo → Expo) : (s.modExpo q f).flash = s.flash := rfl
@[simp] theorem State.modExpo_tenant (q : Nat) (f : Expo → Expo) : (s.modExpo q f).tenant = s.tenant := rfl
@[simp] theorem State.modExpo_boot (q : Nat) (f : Expo → Expo) : (s.modExpo q f).boot = s.boot := rfl
@[simp] theorem State.modExpo_glaze (q : Nat) (f : Expo → Expo) : (s.modExpo q f).glaze = s.glaze := rfl
@[simp] theorem State.modExpo_power (q : Nat) (f : Expo → Expo) : (s.modExpo q f).power = s.power := rfl
@[simp] theorem State.modExpo_fabric (q : Nat) (f : Expo → Expo) : (s.modExpo q f).fabric = s.fabric := rfl
@[simp] theorem State.modExpo_fixity (q : Nat) (f : Expo → Expo) : (s.modExpo q f).fixity = s.fixity := rfl
@[simp] theorem State.modExpo_dram (q : Nat) (f : Expo → Expo) : (s.modExpo q f).dram = s.dram := rfl
@[simp] theorem State.modExpo_pcie (q : Nat) (f : Expo → Expo) : (s.modExpo q f).pcie = s.pcie := rfl
@[simp] theorem State.modExpo_wmk (q : Nat) (f : Expo → Expo) : (s.modExpo q f).wmk = s.wmk := rfl
@[simp] theorem State.modExpo_cone (q : Nat) (f : Expo → Expo) : (s.modExpo q f).cone = s.cone := rfl
@[simp] theorem State.modExpo_mgmt (q : Nat) (f : Expo → Expo) : (s.modExpo q f).mgmt = s.mgmt := rfl

/-! ### An update of one key slot -/

@[simp] theorem State.modSlot_pending (k : Nat) (f : Slot → Slot) : (s.modSlot k f).pending = s.pending := rfl
@[simp] theorem State.modSlot_now (k : Nat) (f : Slot → Slot) : (s.modSlot k f).now = s.now := rfl
@[simp] theorem State.modSlot_freeCtr (k : Nat) (f : Slot → Slot) : (s.modSlot k f).freeCtr = s.freeCtr := rfl
@[simp] theorem State.modSlot_out (k : Nat) (f : Slot → Slot) : (s.modSlot k f).out = s.out := rfl
@[simp] theorem State.modSlot_regs (k : Nat) (f : Slot → Slot) : (s.modSlot k f).regs = s.regs := rfl
@[simp] theorem State.modSlot_cfg (k : Nat) (f : Slot → Slot) : (s.modSlot k f).cfg = s.cfg := rfl
@[simp] theorem State.modSlot_cfgStaged (k : Nat) (f : Slot → Slot) : (s.modSlot k f).cfgStaged = s.cfgStaged := rfl
@[simp] theorem State.modSlot_fault (k : Nat) (f : Slot → Slot) : (s.modSlot k f).fault = s.fault := rfl
@[simp] theorem State.modSlot_klog (k : Nat) (f : Slot → Slot) : (s.modSlot k f).klog = s.klog := rfl
@[simp] theorem State.modSlot_intake (k : Nat) (f : Slot → Slot) : (s.modSlot k f).intake = s.intake := rfl
@[simp] theorem State.modSlot_sieve (k : Nat) (f : Slot → Slot) : (s.modSlot k f).sieve = s.sieve := rfl
@[simp] theorem State.modSlot_hamper (k : Nat) (f : Slot → Slot) : (s.modSlot k f).hamper = s.hamper := rfl
@[simp] theorem State.modSlot_zone (k : Nat) (f : Slot → Slot) : (s.modSlot k f).zone = s.zone := rfl
@[simp] theorem State.modSlot_flash (k : Nat) (f : Slot → Slot) : (s.modSlot k f).flash = s.flash := rfl
@[simp] theorem State.modSlot_trail (k : Nat) (f : Slot → Slot) : (s.modSlot k f).trail = s.trail := rfl
@[simp] theorem State.modSlot_tenant (k : Nat) (f : Slot → Slot) : (s.modSlot k f).tenant = s.tenant := rfl
@[simp] theorem State.modSlot_boot (k : Nat) (f : Slot → Slot) : (s.modSlot k f).boot = s.boot := rfl
@[simp] theorem State.modSlot_power (k : Nat) (f : Slot → Slot) : (s.modSlot k f).power = s.power := rfl
@[simp] theorem State.modSlot_fabric (k : Nat) (f : Slot → Slot) : (s.modSlot k f).fabric = s.fabric := rfl
@[simp] theorem State.modSlot_fixity (k : Nat) (f : Slot → Slot) : (s.modSlot k f).fixity = s.fixity := rfl
@[simp] theorem State.modSlot_dram (k : Nat) (f : Slot → Slot) : (s.modSlot k f).dram = s.dram := rfl
@[simp] theorem State.modSlot_pcie (k : Nat) (f : Slot → Slot) : (s.modSlot k f).pcie = s.pcie := rfl
@[simp] theorem State.modSlot_wmk (k : Nat) (f : Slot → Slot) : (s.modSlot k f).wmk = s.wmk := rfl
@[simp] theorem State.modSlot_cone (k : Nat) (f : Slot → Slot) : (s.modSlot k f).cone = s.cone := rfl
@[simp] theorem State.modSlot_mgmt (k : Nat) (f : Slot → Slot) : (s.modSlot k f).mgmt = s.mgmt := rfl

/-! ### An update of one locking range -/

@[simp] theorem State.modRange_pending (n k : Nat) (f : LockRange → LockRange) : (s.modRange n k f).pending = s.pending := rfl
@[simp] theorem State.modRange_now (n k : Nat) (f : LockRange → LockRange) : (s.modRange n k f).now = s.now := rfl
@[simp] theorem State.modRange_freeCtr (n k : Nat) (f : LockRange → LockRange) : (s.modRange n k f).freeCtr = s.freeCtr := rfl
@[simp] theorem State.modRange_out (n k : Nat) (f : LockRange → LockRange) : (s.modRange n k f).out = s.out := rfl
@[simp] theorem State.modRange_regs (n k : Nat) (f : LockRange → LockRange) : (s.modRange n k f).regs = s.regs := rfl
@[simp] theorem State.modRange_cfg (n k : Nat) (f : LockRange → LockRange) : (s.modRange n k f).cfg = s.cfg := rfl
@[simp] theorem State.modRange_cfgStaged (n k : Nat) (f : LockRange → LockRange) : (s.modRange n k f).cfgStaged = s.cfgStaged := rfl
@[simp] theorem State.modRange_fault (n k : Nat) (f : LockRange → LockRange) : (s.modRange n k f).fault = s.fault := rfl
@[simp] theorem State.modRange_klog (n k : Nat) (f : LockRange → LockRange) : (s.modRange n k f).klog = s.klog := rfl
@[simp] theorem State.modRange_intake (n k : Nat) (f : LockRange → LockRange) : (s.modRange n k f).intake = s.intake := rfl
@[simp] theorem State.modRange_sieve (n k : Nat) (f : LockRange → LockRange) : (s.modRange n k f).sieve = s.sieve := rfl
@[simp] theorem State.modRange_hamper (n k : Nat) (f : LockRange → LockRange) : (s.modRange n k f).hamper = s.hamper := rfl
@[simp] theorem State.modRange_zone (n k : Nat) (f : LockRange → LockRange) : (s.modRange n k f).zone = s.zone := rfl
@[simp] theorem State.modRange_flash (n k : Nat) (f : LockRange → LockRange) : (s.modRange n k f).flash = s.flash := rfl
@[simp] theorem State.modRange_trail (n k : Nat) (f : LockRange → LockRange) : (s.modRange n k f).trail = s.trail := rfl
@[simp] theorem State.modRange_tenant (n k : Nat) (f : LockRange → LockRange) : (s.modRange n k f).tenant = s.tenant := rfl
@[simp] theorem State.modRange_boot (n k : Nat) (f : LockRange → LockRange) : (s.modRange n k f).boot = s.boot := rfl
@[simp] theorem State.modRange_power (n k : Nat) (f : LockRange → LockRange) : (s.modRange n k f).power = s.power := rfl
@[simp] theorem State.modRange_fabric (n k : Nat) (f : LockRange → LockRange) : (s.modRange n k f).fabric = s.fabric := rfl
@[simp] theorem State.modRange_fixity (n k : Nat) (f : LockRange → LockRange) : (s.modRange n k f).fixity = s.fixity := rfl
@[simp] theorem State.modRange_dram (n k : Nat) (f : LockRange → LockRange) : (s.modRange n k f).dram = s.dram := rfl
@[simp] theorem State.modRange_pcie (n k : Nat) (f : LockRange → LockRange) : (s.modRange n k f).pcie = s.pcie := rfl
@[simp] theorem State.modRange_wmk (n k : Nat) (f : LockRange → LockRange) : (s.modRange n k f).wmk = s.wmk := rfl
@[simp] theorem State.modRange_cone (n k : Nat) (f : LockRange → LockRange) : (s.modRange n k f).cone = s.cone := rfl
@[simp] theorem State.modRange_mgmt (n k : Nat) (f : LockRange → LockRange) : (s.modRange n k f).mgmt = s.mgmt := rfl

/-! ### An update of one cipher lane -/

@[simp] theorem State.modLane_pending (l : Nat) (f : Lane → Lane) : (s.modLane l f).pending = s.pending := rfl
@[simp] theorem State.modLane_now (l : Nat) (f : Lane → Lane) : (s.modLane l f).now = s.now := rfl
@[simp] theorem State.modLane_freeCtr (l : Nat) (f : Lane → Lane) : (s.modLane l f).freeCtr = s.freeCtr := rfl
@[simp] theorem State.modLane_out (l : Nat) (f : Lane → Lane) : (s.modLane l f).out = s.out := rfl
@[simp] theorem State.modLane_regs (l : Nat) (f : Lane → Lane) : (s.modLane l f).regs = s.regs := rfl
@[simp] theorem State.modLane_cfg (l : Nat) (f : Lane → Lane) : (s.modLane l f).cfg = s.cfg := rfl
@[simp] theorem State.modLane_cfgStaged (l : Nat) (f : Lane → Lane) : (s.modLane l f).cfgStaged = s.cfgStaged := rfl
@[simp] theorem State.modLane_fault (l : Nat) (f : Lane → Lane) : (s.modLane l f).fault = s.fault := rfl
@[simp] theorem State.modLane_klog (l : Nat) (f : Lane → Lane) : (s.modLane l f).klog = s.klog := rfl
@[simp] theorem State.modLane_intake (l : Nat) (f : Lane → Lane) : (s.modLane l f).intake = s.intake := rfl
@[simp] theorem State.modLane_sieve (l : Nat) (f : Lane → Lane) : (s.modLane l f).sieve = s.sieve := rfl
@[simp] theorem State.modLane_hamper (l : Nat) (f : Lane → Lane) : (s.modLane l f).hamper = s.hamper := rfl
@[simp] theorem State.modLane_zone (l : Nat) (f : Lane → Lane) : (s.modLane l f).zone = s.zone := rfl
@[simp] theorem State.modLane_flash (l : Nat) (f : Lane → Lane) : (s.modLane l f).flash = s.flash := rfl
@[simp] theorem State.modLane_trail (l : Nat) (f : Lane → Lane) : (s.modLane l f).trail = s.trail := rfl
@[simp] theorem State.modLane_tenant (l : Nat) (f : Lane → Lane) : (s.modLane l f).tenant = s.tenant := rfl
@[simp] theorem State.modLane_boot (l : Nat) (f : Lane → Lane) : (s.modLane l f).boot = s.boot := rfl
@[simp] theorem State.modLane_power (l : Nat) (f : Lane → Lane) : (s.modLane l f).power = s.power := rfl
@[simp] theorem State.modLane_fabric (l : Nat) (f : Lane → Lane) : (s.modLane l f).fabric = s.fabric := rfl
@[simp] theorem State.modLane_fixity (l : Nat) (f : Lane → Lane) : (s.modLane l f).fixity = s.fixity := rfl
@[simp] theorem State.modLane_dram (l : Nat) (f : Lane → Lane) : (s.modLane l f).dram = s.dram := rfl
@[simp] theorem State.modLane_pcie (l : Nat) (f : Lane → Lane) : (s.modLane l f).pcie = s.pcie := rfl
@[simp] theorem State.modLane_wmk (l : Nat) (f : Lane → Lane) : (s.modLane l f).wmk = s.wmk := rfl
@[simp] theorem State.modLane_cone (l : Nat) (f : Lane → Lane) : (s.modLane l f).cone = s.cone := rfl
@[simp] theorem State.modLane_mgmt (l : Nat) (f : Lane → Lane) : (s.modLane l f).mgmt = s.mgmt := rfl

/-! ### An update of one fixity job -/

@[simp] theorem State.modJob_pending (j : Nat) (f : FixJob → FixJob) : (s.modJob j f).pending = s.pending := rfl
@[simp] theorem State.modJob_now (j : Nat) (f : FixJob → FixJob) : (s.modJob j f).now = s.now := rfl
@[simp] theorem State.modJob_freeCtr (j : Nat) (f : FixJob → FixJob) : (s.modJob j f).freeCtr = s.freeCtr := rfl
@[simp] theorem State.modJob_out (j : Nat) (f : FixJob → FixJob) : (s.modJob j f).out = s.out := rfl
@[simp] theorem State.modJob_regs (j : Nat) (f : FixJob → FixJob) : (s.modJob j f).regs = s.regs := rfl
@[simp] theorem State.modJob_cfg (j : Nat) (f : FixJob → FixJob) : (s.modJob j f).cfg = s.cfg := rfl
@[simp] theorem State.modJob_cfgStaged (j : Nat) (f : FixJob → FixJob) : (s.modJob j f).cfgStaged = s.cfgStaged := rfl
@[simp] theorem State.modJob_fault (j : Nat) (f : FixJob → FixJob) : (s.modJob j f).fault = s.fault := rfl
@[simp] theorem State.modJob_klog (j : Nat) (f : FixJob → FixJob) : (s.modJob j f).klog = s.klog := rfl
@[simp] theorem State.modJob_intake (j : Nat) (f : FixJob → FixJob) : (s.modJob j f).intake = s.intake := rfl
@[simp] theorem State.modJob_sieve (j : Nat) (f : FixJob → FixJob) : (s.modJob j f).sieve = s.sieve := rfl
@[simp] theorem State.modJob_hamper (j : Nat) (f : FixJob → FixJob) : (s.modJob j f).hamper = s.hamper := rfl
@[simp] theorem State.modJob_zone (j : Nat) (f : FixJob → FixJob) : (s.modJob j f).zone = s.zone := rfl
@[simp] theorem State.modJob_flash (j : Nat) (f : FixJob → FixJob) : (s.modJob j f).flash = s.flash := rfl
@[simp] theorem State.modJob_trail (j : Nat) (f : FixJob → FixJob) : (s.modJob j f).trail = s.trail := rfl
@[simp] theorem State.modJob_tenant (j : Nat) (f : FixJob → FixJob) : (s.modJob j f).tenant = s.tenant := rfl
@[simp] theorem State.modJob_boot (j : Nat) (f : FixJob → FixJob) : (s.modJob j f).boot = s.boot := rfl
@[simp] theorem State.modJob_glaze (j : Nat) (f : FixJob → FixJob) : (s.modJob j f).glaze = s.glaze := rfl
@[simp] theorem State.modJob_power (j : Nat) (f : FixJob → FixJob) : (s.modJob j f).power = s.power := rfl
@[simp] theorem State.modJob_fabric (j : Nat) (f : FixJob → FixJob) : (s.modJob j f).fabric = s.fabric := rfl
@[simp] theorem State.modJob_dram (j : Nat) (f : FixJob → FixJob) : (s.modJob j f).dram = s.dram := rfl
@[simp] theorem State.modJob_pcie (j : Nat) (f : FixJob → FixJob) : (s.modJob j f).pcie = s.pcie := rfl
@[simp] theorem State.modJob_wmk (j : Nat) (f : FixJob → FixJob) : (s.modJob j f).wmk = s.wmk := rfl
@[simp] theorem State.modJob_cone (j : Nat) (f : FixJob → FixJob) : (s.modJob j f).cone = s.cone := rfl
@[simp] theorem State.modJob_mgmt (j : Nat) (f : FixJob → FixJob) : (s.modJob j f).mgmt = s.mgmt := rfl

/-! ### An update of one SRAM group -/

@[simp] theorem State.modMacro_pending (g : Nat) (f : MacroGroup → MacroGroup) : (s.modMacro g f).pending = s.pending := rfl
@[simp] theorem State.modMacro_now (g : Nat) (f : MacroGroup → MacroGroup) : (s.modMacro g f).now = s.now := rfl
@[simp] theorem State.modMacro_freeCtr (g : Nat) (f : MacroGroup → MacroGroup) : (s.modMacro g f).freeCtr = s.freeCtr := rfl
@[simp] theorem State.modMacro_out (g : Nat) (f : MacroGroup → MacroGroup) : (s.modMacro g f).out = s.out := rfl
@[simp] theorem State.modMacro_regs (g : Nat) (f : MacroGroup → MacroGroup) : (s.modMacro g f).regs = s.regs := rfl
@[simp] theorem State.modMacro_cfg (g : Nat) (f : MacroGroup → MacroGroup) : (s.modMacro g f).cfg = s.cfg := rfl
@[simp] theorem State.modMacro_cfgStaged (g : Nat) (f : MacroGroup → MacroGroup) : (s.modMacro g f).cfgStaged = s.cfgStaged := rfl
@[simp] theorem State.modMacro_fault (g : Nat) (f : MacroGroup → MacroGroup) : (s.modMacro g f).fault = s.fault := rfl
@[simp] theorem State.modMacro_klog (g : Nat) (f : MacroGroup → MacroGroup) : (s.modMacro g f).klog = s.klog := rfl
@[simp] theorem State.modMacro_intake (g : Nat) (f : MacroGroup → MacroGroup) : (s.modMacro g f).intake = s.intake := rfl
@[simp] theorem State.modMacro_sieve (g : Nat) (f : MacroGroup → MacroGroup) : (s.modMacro g f).sieve = s.sieve := rfl
@[simp] theorem State.modMacro_hamper (g : Nat) (f : MacroGroup → MacroGroup) : (s.modMacro g f).hamper = s.hamper := rfl
@[simp] theorem State.modMacro_zone (g : Nat) (f : MacroGroup → MacroGroup) : (s.modMacro g f).zone = s.zone := rfl
@[simp] theorem State.modMacro_flash (g : Nat) (f : MacroGroup → MacroGroup) : (s.modMacro g f).flash = s.flash := rfl
@[simp] theorem State.modMacro_trail (g : Nat) (f : MacroGroup → MacroGroup) : (s.modMacro g f).trail = s.trail := rfl
@[simp] theorem State.modMacro_tenant (g : Nat) (f : MacroGroup → MacroGroup) : (s.modMacro g f).tenant = s.tenant := rfl
@[simp] theorem State.modMacro_boot (g : Nat) (f : MacroGroup → MacroGroup) : (s.modMacro g f).boot = s.boot := rfl
@[simp] theorem State.modMacro_glaze (g : Nat) (f : MacroGroup → MacroGroup) : (s.modMacro g f).glaze = s.glaze := rfl
@[simp] theorem State.modMacro_power (g : Nat) (f : MacroGroup → MacroGroup) : (s.modMacro g f).power = s.power := rfl
@[simp] theorem State.modMacro_fabric (g : Nat) (f : MacroGroup → MacroGroup) : (s.modMacro g f).fabric = s.fabric := rfl
@[simp] theorem State.modMacro_dram (g : Nat) (f : MacroGroup → MacroGroup) : (s.modMacro g f).dram = s.dram := rfl
@[simp] theorem State.modMacro_pcie (g : Nat) (f : MacroGroup → MacroGroup) : (s.modMacro g f).pcie = s.pcie := rfl
@[simp] theorem State.modMacro_wmk (g : Nat) (f : MacroGroup → MacroGroup) : (s.modMacro g f).wmk = s.wmk := rfl
@[simp] theorem State.modMacro_cone (g : Nat) (f : MacroGroup → MacroGroup) : (s.modMacro g f).cone = s.cone := rfl
@[simp] theorem State.modMacro_mgmt (g : Nat) (f : MacroGroup → MacroGroup) : (s.modMacro g f).mgmt = s.mgmt := rfl

/-! ### An update of one DRAM channel -/

@[simp] theorem State.modDchan_pending (c : Nat) (f : DChannel → DChannel) : (s.modDchan c f).pending = s.pending := rfl
@[simp] theorem State.modDchan_now (c : Nat) (f : DChannel → DChannel) : (s.modDchan c f).now = s.now := rfl
@[simp] theorem State.modDchan_freeCtr (c : Nat) (f : DChannel → DChannel) : (s.modDchan c f).freeCtr = s.freeCtr := rfl
@[simp] theorem State.modDchan_out (c : Nat) (f : DChannel → DChannel) : (s.modDchan c f).out = s.out := rfl
@[simp] theorem State.modDchan_regs (c : Nat) (f : DChannel → DChannel) : (s.modDchan c f).regs = s.regs := rfl
@[simp] theorem State.modDchan_cfg (c : Nat) (f : DChannel → DChannel) : (s.modDchan c f).cfg = s.cfg := rfl
@[simp] theorem State.modDchan_cfgStaged (c : Nat) (f : DChannel → DChannel) : (s.modDchan c f).cfgStaged = s.cfgStaged := rfl
@[simp] theorem State.modDchan_fault (c : Nat) (f : DChannel → DChannel) : (s.modDchan c f).fault = s.fault := rfl
@[simp] theorem State.modDchan_klog (c : Nat) (f : DChannel → DChannel) : (s.modDchan c f).klog = s.klog := rfl
@[simp] theorem State.modDchan_intake (c : Nat) (f : DChannel → DChannel) : (s.modDchan c f).intake = s.intake := rfl
@[simp] theorem State.modDchan_sieve (c : Nat) (f : DChannel → DChannel) : (s.modDchan c f).sieve = s.sieve := rfl
@[simp] theorem State.modDchan_hamper (c : Nat) (f : DChannel → DChannel) : (s.modDchan c f).hamper = s.hamper := rfl
@[simp] theorem State.modDchan_zone (c : Nat) (f : DChannel → DChannel) : (s.modDchan c f).zone = s.zone := rfl
@[simp] theorem State.modDchan_flash (c : Nat) (f : DChannel → DChannel) : (s.modDchan c f).flash = s.flash := rfl
@[simp] theorem State.modDchan_trail (c : Nat) (f : DChannel → DChannel) : (s.modDchan c f).trail = s.trail := rfl
@[simp] theorem State.modDchan_tenant (c : Nat) (f : DChannel → DChannel) : (s.modDchan c f).tenant = s.tenant := rfl
@[simp] theorem State.modDchan_boot (c : Nat) (f : DChannel → DChannel) : (s.modDchan c f).boot = s.boot := rfl
@[simp] theorem State.modDchan_glaze (c : Nat) (f : DChannel → DChannel) : (s.modDchan c f).glaze = s.glaze := rfl
@[simp] theorem State.modDchan_power (c : Nat) (f : DChannel → DChannel) : (s.modDchan c f).power = s.power := rfl
@[simp] theorem State.modDchan_fabric (c : Nat) (f : DChannel → DChannel) : (s.modDchan c f).fabric = s.fabric := rfl
@[simp] theorem State.modDchan_fixity (c : Nat) (f : DChannel → DChannel) : (s.modDchan c f).fixity = s.fixity := rfl
@[simp] theorem State.modDchan_pcie (c : Nat) (f : DChannel → DChannel) : (s.modDchan c f).pcie = s.pcie := rfl
@[simp] theorem State.modDchan_wmk (c : Nat) (f : DChannel → DChannel) : (s.modDchan c f).wmk = s.wmk := rfl
@[simp] theorem State.modDchan_cone (c : Nat) (f : DChannel → DChannel) : (s.modDchan c f).cone = s.cone := rfl
@[simp] theorem State.modDchan_mgmt (c : Nat) (f : DChannel → DChannel) : (s.modDchan c f).mgmt = s.mgmt := rfl

/-! ### An update of one PCIe port -/

@[simp] theorem State.modPort_pending (p : Nat) (f : PPort → PPort) : (s.modPort p f).pending = s.pending := rfl
@[simp] theorem State.modPort_now (p : Nat) (f : PPort → PPort) : (s.modPort p f).now = s.now := rfl
@[simp] theorem State.modPort_freeCtr (p : Nat) (f : PPort → PPort) : (s.modPort p f).freeCtr = s.freeCtr := rfl
@[simp] theorem State.modPort_out (p : Nat) (f : PPort → PPort) : (s.modPort p f).out = s.out := rfl
@[simp] theorem State.modPort_regs (p : Nat) (f : PPort → PPort) : (s.modPort p f).regs = s.regs := rfl
@[simp] theorem State.modPort_cfg (p : Nat) (f : PPort → PPort) : (s.modPort p f).cfg = s.cfg := rfl
@[simp] theorem State.modPort_cfgStaged (p : Nat) (f : PPort → PPort) : (s.modPort p f).cfgStaged = s.cfgStaged := rfl
@[simp] theorem State.modPort_fault (p : Nat) (f : PPort → PPort) : (s.modPort p f).fault = s.fault := rfl
@[simp] theorem State.modPort_klog (p : Nat) (f : PPort → PPort) : (s.modPort p f).klog = s.klog := rfl
@[simp] theorem State.modPort_intake (p : Nat) (f : PPort → PPort) : (s.modPort p f).intake = s.intake := rfl
@[simp] theorem State.modPort_sieve (p : Nat) (f : PPort → PPort) : (s.modPort p f).sieve = s.sieve := rfl
@[simp] theorem State.modPort_hamper (p : Nat) (f : PPort → PPort) : (s.modPort p f).hamper = s.hamper := rfl
@[simp] theorem State.modPort_zone (p : Nat) (f : PPort → PPort) : (s.modPort p f).zone = s.zone := rfl
@[simp] theorem State.modPort_flash (p : Nat) (f : PPort → PPort) : (s.modPort p f).flash = s.flash := rfl
@[simp] theorem State.modPort_trail (p : Nat) (f : PPort → PPort) : (s.modPort p f).trail = s.trail := rfl
@[simp] theorem State.modPort_tenant (p : Nat) (f : PPort → PPort) : (s.modPort p f).tenant = s.tenant := rfl
@[simp] theorem State.modPort_boot (p : Nat) (f : PPort → PPort) : (s.modPort p f).boot = s.boot := rfl
@[simp] theorem State.modPort_glaze (p : Nat) (f : PPort → PPort) : (s.modPort p f).glaze = s.glaze := rfl
@[simp] theorem State.modPort_power (p : Nat) (f : PPort → PPort) : (s.modPort p f).power = s.power := rfl
@[simp] theorem State.modPort_fabric (p : Nat) (f : PPort → PPort) : (s.modPort p f).fabric = s.fabric := rfl
@[simp] theorem State.modPort_fixity (p : Nat) (f : PPort → PPort) : (s.modPort p f).fixity = s.fixity := rfl
@[simp] theorem State.modPort_dram (p : Nat) (f : PPort → PPort) : (s.modPort p f).dram = s.dram := rfl
@[simp] theorem State.modPort_wmk (p : Nat) (f : PPort → PPort) : (s.modPort p f).wmk = s.wmk := rfl
@[simp] theorem State.modPort_cone (p : Nat) (f : PPort → PPort) : (s.modPort p f).cone = s.cone := rfl
@[simp] theorem State.modPort_mgmt (p : Nat) (f : PPort → PPort) : (s.modPort p f).mgmt = s.mgmt := rfl

/-! ### An update of one PCIe function -/

@[simp] theorem State.modFunc_pending (i : Nat) (f : PFunc → PFunc) : (s.modFunc i f).pending = s.pending := rfl
@[simp] theorem State.modFunc_now (i : Nat) (f : PFunc → PFunc) : (s.modFunc i f).now = s.now := rfl
@[simp] theorem State.modFunc_freeCtr (i : Nat) (f : PFunc → PFunc) : (s.modFunc i f).freeCtr = s.freeCtr := rfl
@[simp] theorem State.modFunc_out (i : Nat) (f : PFunc → PFunc) : (s.modFunc i f).out = s.out := rfl
@[simp] theorem State.modFunc_regs (i : Nat) (f : PFunc → PFunc) : (s.modFunc i f).regs = s.regs := rfl
@[simp] theorem State.modFunc_cfg (i : Nat) (f : PFunc → PFunc) : (s.modFunc i f).cfg = s.cfg := rfl
@[simp] theorem State.modFunc_cfgStaged (i : Nat) (f : PFunc → PFunc) : (s.modFunc i f).cfgStaged = s.cfgStaged := rfl
@[simp] theorem State.modFunc_fault (i : Nat) (f : PFunc → PFunc) : (s.modFunc i f).fault = s.fault := rfl
@[simp] theorem State.modFunc_klog (i : Nat) (f : PFunc → PFunc) : (s.modFunc i f).klog = s.klog := rfl
@[simp] theorem State.modFunc_intake (i : Nat) (f : PFunc → PFunc) : (s.modFunc i f).intake = s.intake := rfl
@[simp] theorem State.modFunc_sieve (i : Nat) (f : PFunc → PFunc) : (s.modFunc i f).sieve = s.sieve := rfl
@[simp] theorem State.modFunc_hamper (i : Nat) (f : PFunc → PFunc) : (s.modFunc i f).hamper = s.hamper := rfl
@[simp] theorem State.modFunc_zone (i : Nat) (f : PFunc → PFunc) : (s.modFunc i f).zone = s.zone := rfl
@[simp] theorem State.modFunc_flash (i : Nat) (f : PFunc → PFunc) : (s.modFunc i f).flash = s.flash := rfl
@[simp] theorem State.modFunc_trail (i : Nat) (f : PFunc → PFunc) : (s.modFunc i f).trail = s.trail := rfl
@[simp] theorem State.modFunc_tenant (i : Nat) (f : PFunc → PFunc) : (s.modFunc i f).tenant = s.tenant := rfl
@[simp] theorem State.modFunc_boot (i : Nat) (f : PFunc → PFunc) : (s.modFunc i f).boot = s.boot := rfl
@[simp] theorem State.modFunc_glaze (i : Nat) (f : PFunc → PFunc) : (s.modFunc i f).glaze = s.glaze := rfl
@[simp] theorem State.modFunc_power (i : Nat) (f : PFunc → PFunc) : (s.modFunc i f).power = s.power := rfl
@[simp] theorem State.modFunc_fabric (i : Nat) (f : PFunc → PFunc) : (s.modFunc i f).fabric = s.fabric := rfl
@[simp] theorem State.modFunc_fixity (i : Nat) (f : PFunc → PFunc) : (s.modFunc i f).fixity = s.fixity := rfl
@[simp] theorem State.modFunc_dram (i : Nat) (f : PFunc → PFunc) : (s.modFunc i f).dram = s.dram := rfl
@[simp] theorem State.modFunc_wmk (i : Nat) (f : PFunc → PFunc) : (s.modFunc i f).wmk = s.wmk := rfl
@[simp] theorem State.modFunc_cone (i : Nat) (f : PFunc → PFunc) : (s.modFunc i f).cone = s.cone := rfl
@[simp] theorem State.modFunc_mgmt (i : Nat) (f : PFunc → PFunc) : (s.modFunc i f).mgmt = s.mgmt := rfl

/-! ### An update of one DOE mailbox -/

@[simp] theorem State.modDoe_pending (i : Nat) (f : DoeBox → DoeBox) : (s.modDoe i f).pending = s.pending := rfl
@[simp] theorem State.modDoe_now (i : Nat) (f : DoeBox → DoeBox) : (s.modDoe i f).now = s.now := rfl
@[simp] theorem State.modDoe_freeCtr (i : Nat) (f : DoeBox → DoeBox) : (s.modDoe i f).freeCtr = s.freeCtr := rfl
@[simp] theorem State.modDoe_out (i : Nat) (f : DoeBox → DoeBox) : (s.modDoe i f).out = s.out := rfl
@[simp] theorem State.modDoe_regs (i : Nat) (f : DoeBox → DoeBox) : (s.modDoe i f).regs = s.regs := rfl
@[simp] theorem State.modDoe_cfg (i : Nat) (f : DoeBox → DoeBox) : (s.modDoe i f).cfg = s.cfg := rfl
@[simp] theorem State.modDoe_cfgStaged (i : Nat) (f : DoeBox → DoeBox) : (s.modDoe i f).cfgStaged = s.cfgStaged := rfl
@[simp] theorem State.modDoe_fault (i : Nat) (f : DoeBox → DoeBox) : (s.modDoe i f).fault = s.fault := rfl
@[simp] theorem State.modDoe_klog (i : Nat) (f : DoeBox → DoeBox) : (s.modDoe i f).klog = s.klog := rfl
@[simp] theorem State.modDoe_intake (i : Nat) (f : DoeBox → DoeBox) : (s.modDoe i f).intake = s.intake := rfl
@[simp] theorem State.modDoe_sieve (i : Nat) (f : DoeBox → DoeBox) : (s.modDoe i f).sieve = s.sieve := rfl
@[simp] theorem State.modDoe_hamper (i : Nat) (f : DoeBox → DoeBox) : (s.modDoe i f).hamper = s.hamper := rfl
@[simp] theorem State.modDoe_zone (i : Nat) (f : DoeBox → DoeBox) : (s.modDoe i f).zone = s.zone := rfl
@[simp] theorem State.modDoe_flash (i : Nat) (f : DoeBox → DoeBox) : (s.modDoe i f).flash = s.flash := rfl
@[simp] theorem State.modDoe_trail (i : Nat) (f : DoeBox → DoeBox) : (s.modDoe i f).trail = s.trail := rfl
@[simp] theorem State.modDoe_tenant (i : Nat) (f : DoeBox → DoeBox) : (s.modDoe i f).tenant = s.tenant := rfl
@[simp] theorem State.modDoe_boot (i : Nat) (f : DoeBox → DoeBox) : (s.modDoe i f).boot = s.boot := rfl
@[simp] theorem State.modDoe_glaze (i : Nat) (f : DoeBox → DoeBox) : (s.modDoe i f).glaze = s.glaze := rfl
@[simp] theorem State.modDoe_power (i : Nat) (f : DoeBox → DoeBox) : (s.modDoe i f).power = s.power := rfl
@[simp] theorem State.modDoe_fabric (i : Nat) (f : DoeBox → DoeBox) : (s.modDoe i f).fabric = s.fabric := rfl
@[simp] theorem State.modDoe_fixity (i : Nat) (f : DoeBox → DoeBox) : (s.modDoe i f).fixity = s.fixity := rfl
@[simp] theorem State.modDoe_dram (i : Nat) (f : DoeBox → DoeBox) : (s.modDoe i f).dram = s.dram := rfl
@[simp] theorem State.modDoe_wmk (i : Nat) (f : DoeBox → DoeBox) : (s.modDoe i f).wmk = s.wmk := rfl
@[simp] theorem State.modDoe_cone (i : Nat) (f : DoeBox → DoeBox) : (s.modDoe i f).cone = s.cone := rfl
@[simp] theorem State.modDoe_mgmt (i : Nat) (f : DoeBox → DoeBox) : (s.modDoe i f).mgmt = s.mgmt := rfl

/-! ### What a read gives after an update: of another key, what it gave; of the same key, the new value, where the table is
canonical or the new value is not the unlisted one -/

variable {s}

theorem State.inst_modInst_ne {i j : Nat} {f : Inst → Inst} (h : j ≠ i) : (s.modInst i f).inst j = s.inst j := Tab.get_upd_ne h
theorem State.inst_modInst_wf {i : Nat} {f : Inst → Inst} (h : Tab.wf {} s.tenant.insts = true) : (s.modInst i f).inst i = f (s.inst i) :=
  Tab.get_upd_self h
theorem State.inst_modInst_self {i : Nat} {f : Inst → Inst} (h : f (s.inst i) ≠ {}) : (s.modInst i f).inst i = f (s.inst i) :=
  Tab.get_set_self_of_ne h
theorem State.modInst_congr {i : Nat} {f g : Inst → Inst} (h : f (s.inst i) = g (s.inst i)) : s.modInst i f = s.modInst i g := by
  simp only [State.modInst, Tab.upd]
  exact congrArg (fun x => ({ s with tenant := { s.tenant with insts := Tab.set {} s.tenant.insts i x } } : State)) h
theorem State.modInst_again {i : Nat} {f g : Inst → Inst} (h : f (s.inst i) ≠ {}) : (s.modInst i f).modInst i g = s.modInst i fun x => g (f x) := by
  have e : (s.modInst i f).inst i = f (s.inst i) := Tab.get_set_self_of_ne h
  have e2 : (s.modInst i f).modInst i g = { s with tenant := { s.tenant with insts := Tab.set {} ((s.modInst i f).tenant.insts) i (g ((s.modInst i f).inst i)) } } := rfl
  rw [e2, e]
  exact congrArg (fun x => ({ s with tenant := { s.tenant with insts := x } } : State)) (Tab.set_set_of_ne h)
theorem State.ns_modNs_ne {i j : Nat} {f : Ns → Ns} (h : j ≠ i) : (s.modNs i f).ns j = s.ns j := Tab.get_upd_ne h
theorem State.ns_modNs_wf {i : Nat} {f : Ns → Ns} (h : Tab.wf {} s.zone.nss = true) : (s.modNs i f).ns i = f (s.ns i) :=
  Tab.get_upd_self h
theorem State.ns_modNs_self {i : Nat} {f : Ns → Ns} (h : f (s.ns i) ≠ {}) : (s.modNs i f).ns i = f (s.ns i) :=
  Tab.get_set_self_of_ne h
theorem State.modNs_congr {i : Nat} {f g : Ns → Ns} (h : f (s.ns i) = g (s.ns i)) : s.modNs i f = s.modNs i g := by
  simp only [State.modNs, Tab.upd]
  exact congrArg (fun x => ({ s with zone := { s.zone with nss := Tab.set {} s.zone.nss i x } } : State)) h
theorem State.modNs_again {i : Nat} {f g : Ns → Ns} (h : f (s.ns i) ≠ {}) : (s.modNs i f).modNs i g = s.modNs i fun x => g (f x) := by
  have e : (s.modNs i f).ns i = f (s.ns i) := Tab.get_set_self_of_ne h
  have e2 : (s.modNs i f).modNs i g = { s with zone := { s.zone with nss := Tab.set {} ((s.modNs i f).zone.nss) i (g ((s.modNs i f).ns i)) } } := rfl
  rw [e2, e]
  exact congrArg (fun x => ({ s with zone := { s.zone with nss := x } } : State)) (Tab.set_set_of_ne h)
theorem State.dieSet_modDieSet_ne {i j : Nat} {f : DieSet → DieSet} (h : j ≠ i) : (s.modDieSet i f).dieSet j = s.dieSet j := Tab.get_upd_ne h
theorem State.dieSet_modDieSet_wf {i : Nat} {f : DieSet → DieSet} (h : Tab.wf {} s.zone.dieSets = true) : (s.modDieSet i f).dieSet i = f (s.dieSet i) :=
  Tab.get_upd_self h
theorem State.dieSet_modDieSet_self {i : Nat} {f : DieSet → DieSet} (h : f (s.dieSet i) ≠ {}) : (s.modDieSet i f).dieSet i = f (s.dieSet i) :=
  Tab.get_set_self_of_ne h
theorem State.modDieSet_congr {i : Nat} {f g : DieSet → DieSet} (h : f (s.dieSet i) = g (s.dieSet i)) : s.modDieSet i f = s.modDieSet i g := by
  simp only [State.modDieSet, Tab.upd]
  exact congrArg (fun x => ({ s with zone := { s.zone with dieSets := Tab.set {} s.zone.dieSets i x } } : State)) h
theorem State.modDieSet_again {i : Nat} {f g : DieSet → DieSet} (h : f (s.dieSet i) ≠ {}) : (s.modDieSet i f).modDieSet i g = s.modDieSet i fun x => g (f x) := by
  have e : (s.modDieSet i f).dieSet i = f (s.dieSet i) := Tab.get_set_self_of_ne h
  have e2 : (s.modDieSet i f).modDieSet i g = { s with zone := { s.zone with dieSets := Tab.set {} ((s.modDieSet i f).zone.dieSets) i (g ((s.modDieSet i f).dieSet i)) } } := rfl
  rw [e2, e]
  exact congrArg (fun x => ({ s with zone := { s.zone with dieSets := x } } : State)) (Tab.set_set_of_ne h)
theorem State.group_modGroup_ne {i j : Nat} {f : Group → Group} (h : j ≠ i) : (s.modGroup i f).group j = s.group j := Tab.get_upd_ne h
theorem State.group_modGroup_wf {i : Nat} {f : Group → Group} (h : Tab.wf {} s.zone.groups = true) : (s.modGroup i f).group i = f (s.group i) :=
  Tab.get_upd_self h
theorem State.group_modGroup_self {i : Nat} {f : Group → Group} (h : f (s.group i) ≠ {}) : (s.modGroup i f).group i = f (s.group i) :=
  Tab.get_set_self_of_ne h
theorem State.modGroup_congr {i : Nat} {f g : Group → Group} (h : f (s.group i) = g (s.group i)) : s.modGroup i f = s.modGroup i g := by
  simp only [State.modGroup, Tab.upd]
  exact congrArg (fun x => ({ s with zone := { s.zone with groups := Tab.set {} s.zone.groups i x } } : State)) h
theorem State.modGroup_again {i : Nat} {f g : Group → Group} (h : f (s.group i) ≠ {}) : (s.modGroup i f).modGroup i g = s.modGroup i fun x => g (f x) := by
  have e : (s.modGroup i f).group i = f (s.group i) := Tab.get_set_self_of_ne h
  have e2 : (s.modGroup i f).modGroup i g = { s with zone := { s.zone with groups := Tab.set {} ((s.modGroup i f).zone.groups) i (g ((s.modGroup i f).group i)) } } := rfl
  rw [e2, e]
  exact congrArg (fun x => ({ s with zone := { s.zone with groups := x } } : State)) (Tab.set_set_of_ne h)
theorem State.tag_modTag_ne {i j : Nat} {f : TagRec → TagRec} (h : j ≠ i) : (s.modTag i f).tag j = s.tag j := Tab.get_upd_ne h
theorem State.tag_modTag_wf {i : Nat} {f : TagRec → TagRec} (h : Tab.wf {} s.intake.tags = true) : (s.modTag i f).tag i = f (s.tag i) :=
  Tab.get_upd_self h
theorem State.tag_modTag_self {i : Nat} {f : TagRec → TagRec} (h : f (s.tag i) ≠ {}) : (s.modTag i f).tag i = f (s.tag i) :=
  Tab.get_set_self_of_ne h
theorem State.modTag_congr {i : Nat} {f g : TagRec → TagRec} (h : f (s.tag i) = g (s.tag i)) : s.modTag i f = s.modTag i g := by
  simp only [State.modTag, Tab.upd]
  exact congrArg (fun x => ({ s with intake := { s.intake with tags := Tab.set {} s.intake.tags i x } } : State)) h
theorem State.modTag_again {i : Nat} {f g : TagRec → TagRec} (h : f (s.tag i) ≠ {}) : (s.modTag i f).modTag i g = s.modTag i fun x => g (f x) := by
  have e : (s.modTag i f).tag i = f (s.tag i) := Tab.get_set_self_of_ne h
  have e2 : (s.modTag i f).modTag i g = { s with intake := { s.intake with tags := Tab.set {} ((s.modTag i f).intake.tags) i (g ((s.modTag i f).tag i)) } } := rfl
  rw [e2, e]
  exact congrArg (fun x => ({ s with intake := { s.intake with tags := x } } : State)) (Tab.set_set_of_ne h)
theorem State.die_modDie_ne {i j : Nat} {f : Die → Die} (h : j ≠ i) : (s.modDie i f).die j = s.die j := Tab.get_upd_ne h
theorem State.die_modDie_wf {i : Nat} {f : Die → Die} (h : Tab.wf {} s.flash.dies = true) : (s.modDie i f).die i = f (s.die i) :=
  Tab.get_upd_self h
theorem State.die_modDie_self {i : Nat} {f : Die → Die} (h : f (s.die i) ≠ {}) : (s.modDie i f).die i = f (s.die i) :=
  Tab.get_set_self_of_ne h
theorem State.modDie_congr {i : Nat} {f g : Die → Die} (h : f (s.die i) = g (s.die i)) : s.modDie i f = s.modDie i g := by
  simp only [State.modDie, Tab.upd]
  exact congrArg (fun x => ({ s with flash := { s.flash with dies := Tab.set {} s.flash.dies i x } } : State)) h
theorem State.modDie_again {i : Nat} {f g : Die → Die} (h : f (s.die i) ≠ {}) : (s.modDie i f).modDie i g = s.modDie i fun x => g (f x) := by
  have e : (s.modDie i f).die i = f (s.die i) := Tab.get_set_self_of_ne h
  have e2 : (s.modDie i f).modDie i g = { s with flash := { s.flash with dies := Tab.set {} ((s.modDie i f).flash.dies) i (g ((s.modDie i f).die i)) } } := rfl
  rw [e2, e]
  exact congrArg (fun x => ({ s with flash := { s.flash with dies := x } } : State)) (Tab.set_set_of_ne h)
theorem State.block_modBlock_ne {i j : Nat} {f : Block → Block} (h : j ≠ i) : (s.modBlock i f).block j = s.block j := Tab.get_upd_ne h
theorem State.block_modBlock_wf {i : Nat} {f : Block → Block} (h : Tab.wf {} s.flash.blocks = true) : (s.modBlock i f).block i = f (s.block i) :=
  Tab.get_upd_self h
theorem State.block_modBlock_self {i : Nat} {f : Block → Block} (h : f (s.block i) ≠ {}) : (s.modBlock i f).block i = f (s.block i) :=
  Tab.get_set_self_of_ne h
theorem State.modBlock_congr {i : Nat} {f g : Block → Block} (h : f (s.block i) = g (s.block i)) : s.modBlock i f = s.modBlock i g := by
  simp only [State.modBlock, Tab.upd]
  exact congrArg (fun x => ({ s with flash := { s.flash with blocks := Tab.set {} s.flash.blocks i x } } : State)) h
theorem State.modBlock_again {i : Nat} {f g : Block → Block} (h : f (s.block i) ≠ {}) : (s.modBlock i f).modBlock i g = s.modBlock i fun x => g (f x) := by
  have e : (s.modBlock i f).block i = f (s.block i) := Tab.get_set_self_of_ne h
  have e2 : (s.modBlock i f).modBlock i g = { s with flash := { s.flash with blocks := Tab.set {} ((s.modBlock i f).flash.blocks) i (g ((s.modBlock i f).block i)) } } := rfl
  rw [e2, e]
  exact congrArg (fun x => ({ s with flash := { s.flash with blocks := x } } : State)) (Tab.set_set_of_ne h)
theorem State.pool_modPool_ne {i j : Nat} {f : Pool → Pool} (h : j ≠ i) : (s.modPool i f).pool j = s.pool j := Tab.get_upd_ne h
theorem State.pool_modPool_wf {i : Nat} {f : Pool → Pool} (h : Tab.wf {} s.hamper.pools = true) : (s.modPool i f).pool i = f (s.pool i) :=
  Tab.get_upd_self h
theorem State.pool_modPool_self {i : Nat} {f : Pool → Pool} (h : f (s.pool i) ≠ {}) : (s.modPool i f).pool i = f (s.pool i) :=
  Tab.get_set_self_of_ne h
theorem State.modPool_congr {i : Nat} {f g : Pool → Pool} (h : f (s.pool i) = g (s.pool i)) : s.modPool i f = s.modPool i g := by
  simp only [State.modPool, Tab.upd]
  exact congrArg (fun x => ({ s with hamper := { s.hamper with pools := Tab.set {} s.hamper.pools i x } } : State)) h
theorem State.modPool_again {i : Nat} {f g : Pool → Pool} (h : f (s.pool i) ≠ {}) : (s.modPool i f).modPool i g = s.modPool i fun x => g (f x) := by
  have e : (s.modPool i f).pool i = f (s.pool i) := Tab.get_set_self_of_ne h
  have e2 : (s.modPool i f).modPool i g = { s with hamper := { s.hamper with pools := Tab.set {} ((s.modPool i f).hamper.pools) i (g ((s.modPool i f).pool i)) } } := rfl
  rw [e2, e]
  exact congrArg (fun x => ({ s with hamper := { s.hamper with pools := x } } : State)) (Tab.set_set_of_ne h)
theorem State.hunit_modUnit_ne {i j : Nat} {f : HUnit → HUnit} (h : j ≠ i) : (s.modUnit i f).hunit j = s.hunit j := Tab.get_upd_ne h
theorem State.hunit_modUnit_wf {i : Nat} {f : HUnit → HUnit} (h : Tab.wf {} s.hamper.units = true) : (s.modUnit i f).hunit i = f (s.hunit i) :=
  Tab.get_upd_self h
theorem State.hunit_modUnit_self {i : Nat} {f : HUnit → HUnit} (h : f (s.hunit i) ≠ {}) : (s.modUnit i f).hunit i = f (s.hunit i) :=
  Tab.get_set_self_of_ne h
theorem State.modUnit_congr {i : Nat} {f g : HUnit → HUnit} (h : f (s.hunit i) = g (s.hunit i)) : s.modUnit i f = s.modUnit i g := by
  simp only [State.modUnit, Tab.upd]
  exact congrArg (fun x => ({ s with hamper := { s.hamper with units := Tab.set {} s.hamper.units i x } } : State)) h
theorem State.modUnit_again {i : Nat} {f g : HUnit → HUnit} (h : f (s.hunit i) ≠ {}) : (s.modUnit i f).modUnit i g = s.modUnit i fun x => g (f x) := by
  have e : (s.modUnit i f).hunit i = f (s.hunit i) := Tab.get_set_self_of_ne h
  have e2 : (s.modUnit i f).modUnit i g = { s with hamper := { s.hamper with units := Tab.set {} ((s.modUnit i f).hamper.units) i (g ((s.modUnit i f).hunit i)) } } := rfl
  rw [e2, e]
  exact congrArg (fun x => ({ s with hamper := { s.hamper with units := x } } : State)) (Tab.set_set_of_ne h)
theorem State.ent_modEnt_ne {i j : Nat} {f : Ent → Ent} (h : j ≠ i) : (s.modEnt i f).ent j = s.ent j := Tab.get_upd_ne h
theorem State.ent_modEnt_wf {i : Nat} {f : Ent → Ent} (h : Tab.wf {} s.sieve.ents = true) : (s.modEnt i f).ent i = f (s.ent i) :=
  Tab.get_upd_self h
theorem State.ent_modEnt_self {i : Nat} {f : Ent → Ent} (h : f (s.ent i) ≠ {}) : (s.modEnt i f).ent i = f (s.ent i) :=
  Tab.get_set_self_of_ne h
theorem State.modEnt_congr {i : Nat} {f g : Ent → Ent} (h : f (s.ent i) = g (s.ent i)) : s.modEnt i f = s.modEnt i g := by
  simp only [State.modEnt, Tab.upd]
  exact congrArg (fun x => ({ s with sieve := { s.sieve with ents := Tab.set {} s.sieve.ents i x } } : State)) h
theorem State.modEnt_again {i : Nat} {f g : Ent → Ent} (h : f (s.ent i) ≠ {}) : (s.modEnt i f).modEnt i g = s.modEnt i fun x => g (f x) := by
  have e : (s.modEnt i f).ent i = f (s.ent i) := Tab.get_set_self_of_ne h
  have e2 : (s.modEnt i f).modEnt i g = { s with sieve := { s.sieve with ents := Tab.set {} ((s.modEnt i f).sieve.ents) i (g ((s.modEnt i f).ent i)) } } := rfl
  rw [e2, e]
  exact congrArg (fun x => ({ s with sieve := { s.sieve with ents := x } } : State)) (Tab.set_set_of_ne h)
theorem State.src_modSrc_ne {i j : Nat} {f : Src → Src} (h : j ≠ i) : (s.modSrc i f).src j = s.src j := Tab.get_upd_ne h
theorem State.src_modSrc_wf {i : Nat} {f : Src → Src} (h : Tab.wf {} s.fault.srcs = true) : (s.modSrc i f).src i = f (s.src i) :=
  Tab.get_upd_self h
theorem State.src_modSrc_self {i : Nat} {f : Src → Src} (h : f (s.src i) ≠ {}) : (s.modSrc i f).src i = f (s.src i) :=
  Tab.get_set_self_of_ne h
theorem State.modSrc_congr {i : Nat} {f g : Src → Src} (h : f (s.src i) = g (s.src i)) : s.modSrc i f = s.modSrc i g := by
  simp only [State.modSrc, Tab.upd]
  exact congrArg (fun x => ({ s with fault := { s.fault with srcs := Tab.set {} s.fault.srcs i x } } : State)) h
theorem State.modSrc_again {i : Nat} {f g : Src → Src} (h : f (s.src i) ≠ {}) : (s.modSrc i f).modSrc i g = s.modSrc i fun x => g (f x) := by
  have e : (s.modSrc i f).src i = f (s.src i) := Tab.get_set_self_of_ne h
  have e2 : (s.modSrc i f).modSrc i g = { s with fault := { s.fault with srcs := Tab.set {} ((s.modSrc i f).fault.srcs) i (g ((s.modSrc i f).src i)) } } := rfl
  rw [e2, e]
  exact congrArg (fun x => ({ s with fault := { s.fault with srcs := x } } : State)) (Tab.set_set_of_ne h)
theorem State.fport_modFport_ne {i j : Nat} {f : FPort → FPort} (h : j ≠ i) : (s.modFport i f).fport j = s.fport j := Tab.get_upd_ne h
theorem State.fport_modFport_wf {i : Nat} {f : FPort → FPort} (h : Tab.wf {} s.wmk.ports = true) : (s.modFport i f).fport i = f (s.fport i) :=
  Tab.get_upd_self h
theorem State.fport_modFport_self {i : Nat} {f : FPort → FPort} (h : f (s.fport i) ≠ {}) : (s.modFport i f).fport i = f (s.fport i) :=
  Tab.get_set_self_of_ne h
theorem State.modFport_congr {i : Nat} {f g : FPort → FPort} (h : f (s.fport i) = g (s.fport i)) : s.modFport i f = s.modFport i g := by
  simp only [State.modFport, Tab.upd]
  exact congrArg (fun x => ({ s with wmk := { s.wmk with ports := Tab.set {} s.wmk.ports i x } } : State)) h
theorem State.modFport_again {i : Nat} {f g : FPort → FPort} (h : f (s.fport i) ≠ {}) : (s.modFport i f).modFport i g = s.modFport i fun x => g (f x) := by
  have e : (s.modFport i f).fport i = f (s.fport i) := Tab.get_set_self_of_ne h
  have e2 : (s.modFport i f).modFport i g = { s with wmk := { s.wmk with ports := Tab.set {} ((s.modFport i f).wmk.ports) i (g ((s.modFport i f).fport i)) } } := rfl
  rw [e2, e]
  exact congrArg (fun x => ({ s with wmk := { s.wmk with ports := x } } : State)) (Tab.set_set_of_ne h)
theorem State.slotAt_modSlot_ne {i j : Nat} {f : Slot → Slot} (h : j ≠ i) : (s.modSlot i f).slotAt j = s.slotAt j := Tab.get_upd_ne h
theorem State.slotAt_modSlot_wf {i : Nat} {f : Slot → Slot} (h : Tab.wf {} s.glaze.slots = true) : (s.modSlot i f).slotAt i = f (s.slotAt i) :=
  Tab.get_upd_self h
theorem State.slotAt_modSlot_self {i : Nat} {f : Slot → Slot} (h : f (s.slotAt i) ≠ {}) : (s.modSlot i f).slotAt i = f (s.slotAt i) :=
  Tab.get_set_self_of_ne h
theorem State.modSlot_congr {i : Nat} {f g : Slot → Slot} (h : f (s.slotAt i) = g (s.slotAt i)) : s.modSlot i f = s.modSlot i g := by
  simp only [State.modSlot, Tab.upd]
  exact congrArg (fun x => ({ s with glaze := { s.glaze with slots := Tab.set {} s.glaze.slots i x } } : State)) h
theorem State.modSlot_again {i : Nat} {f g : Slot → Slot} (h : f (s.slotAt i) ≠ {}) : (s.modSlot i f).modSlot i g = s.modSlot i fun x => g (f x) := by
  have e : (s.modSlot i f).slotAt i = f (s.slotAt i) := Tab.get_set_self_of_ne h
  have e2 : (s.modSlot i f).modSlot i g = { s with glaze := { s.glaze with slots := Tab.set {} ((s.modSlot i f).glaze.slots) i (g ((s.modSlot i f).slotAt i)) } } := rfl
  rw [e2, e]
  exact congrArg (fun x => ({ s with glaze := { s.glaze with slots := x } } : State)) (Tab.set_set_of_ne h)
theorem State.lane_modLane_ne {i j : Nat} {f : Lane → Lane} (h : j ≠ i) : (s.modLane i f).lane j = s.lane j := Tab.get_upd_ne h
theorem State.lane_modLane_wf {i : Nat} {f : Lane → Lane} (h : Tab.wf {} s.glaze.lanes = true) : (s.modLane i f).lane i = f (s.lane i) :=
  Tab.get_upd_self h
theorem State.lane_modLane_self {i : Nat} {f : Lane → Lane} (h : f (s.lane i) ≠ {}) : (s.modLane i f).lane i = f (s.lane i) :=
  Tab.get_set_self_of_ne h
theorem State.modLane_congr {i : Nat} {f g : Lane → Lane} (h : f (s.lane i) = g (s.lane i)) : s.modLane i f = s.modLane i g := by
  simp only [State.modLane, Tab.upd]
  exact congrArg (fun x => ({ s with glaze := { s.glaze with lanes := Tab.set {} s.glaze.lanes i x } } : State)) h
theorem State.modLane_again {i : Nat} {f g : Lane → Lane} (h : f (s.lane i) ≠ {}) : (s.modLane i f).modLane i g = s.modLane i fun x => g (f x) := by
  have e : (s.modLane i f).lane i = f (s.lane i) := Tab.get_set_self_of_ne h
  have e2 : (s.modLane i f).modLane i g = { s with glaze := { s.glaze with lanes := Tab.set {} ((s.modLane i f).glaze.lanes) i (g ((s.modLane i f).lane i)) } } := rfl
  rw [e2, e]
  exact congrArg (fun x => ({ s with glaze := { s.glaze with lanes := x } } : State)) (Tab.set_set_of_ne h)
theorem State.job_modJob_ne {i j : Nat} {f : FixJob → FixJob} (h : j ≠ i) : (s.modJob i f).job j = s.job j := Tab.get_upd_ne h
theorem State.job_modJob_wf {i : Nat} {f : FixJob → FixJob} (h : Tab.wf {} s.fixity.jobs = true) : (s.modJob i f).job i = f (s.job i) :=
  Tab.get_upd_self h
theorem State.job_modJob_self {i : Nat} {f : FixJob → FixJob} (h : f (s.job i) ≠ {}) : (s.modJob i f).job i = f (s.job i) :=
  Tab.get_set_self_of_ne h
theorem State.modJob_congr {i : Nat} {f g : FixJob → FixJob} (h : f (s.job i) = g (s.job i)) : s.modJob i f = s.modJob i g := by
  simp only [State.modJob, Tab.upd]
  exact congrArg (fun x => ({ s with fixity := { s.fixity with jobs := Tab.set {} s.fixity.jobs i x } } : State)) h
theorem State.modJob_again {i : Nat} {f g : FixJob → FixJob} (h : f (s.job i) ≠ {}) : (s.modJob i f).modJob i g = s.modJob i fun x => g (f x) := by
  have e : (s.modJob i f).job i = f (s.job i) := Tab.get_set_self_of_ne h
  have e2 : (s.modJob i f).modJob i g = { s with fixity := { s.fixity with jobs := Tab.set {} ((s.modJob i f).fixity.jobs) i (g ((s.modJob i f).job i)) } } := rfl
  rw [e2, e]
  exact congrArg (fun x => ({ s with fixity := { s.fixity with jobs := x } } : State)) (Tab.set_set_of_ne h)
theorem State.dchan_modDchan_ne {i j : Nat} {f : DChannel → DChannel} (h : j ≠ i) : (s.modDchan i f).dchan j = s.dchan j := Tab.get_upd_ne h
theorem State.dchan_modDchan_wf {i : Nat} {f : DChannel → DChannel} (h : Tab.wf {} s.dram.chans = true) : (s.modDchan i f).dchan i = f (s.dchan i) :=
  Tab.get_upd_self h
theorem State.dchan_modDchan_self {i : Nat} {f : DChannel → DChannel} (h : f (s.dchan i) ≠ {}) : (s.modDchan i f).dchan i = f (s.dchan i) :=
  Tab.get_set_self_of_ne h
theorem State.modDchan_congr {i : Nat} {f g : DChannel → DChannel} (h : f (s.dchan i) = g (s.dchan i)) : s.modDchan i f = s.modDchan i g := by
  simp only [State.modDchan, Tab.upd]
  exact congrArg (fun x => ({ s with dram := { s.dram with chans := Tab.set {} s.dram.chans i x } } : State)) h
theorem State.modDchan_again {i : Nat} {f g : DChannel → DChannel} (h : f (s.dchan i) ≠ {}) : (s.modDchan i f).modDchan i g = s.modDchan i fun x => g (f x) := by
  have e : (s.modDchan i f).dchan i = f (s.dchan i) := Tab.get_set_self_of_ne h
  have e2 : (s.modDchan i f).modDchan i g = { s with dram := { s.dram with chans := Tab.set {} ((s.modDchan i f).dram.chans) i (g ((s.modDchan i f).dchan i)) } } := rfl
  rw [e2, e]
  exact congrArg (fun x => ({ s with dram := { s.dram with chans := x } } : State)) (Tab.set_set_of_ne h)
theorem State.port_modPort_ne {i j : Nat} {f : PPort → PPort} (h : j ≠ i) : (s.modPort i f).port j = s.port j := Tab.get_upd_ne h
theorem State.port_modPort_wf {i : Nat} {f : PPort → PPort} (h : Tab.wf {} s.pcie.ports = true) : (s.modPort i f).port i = f (s.port i) :=
  Tab.get_upd_self h
theorem State.port_modPort_self {i : Nat} {f : PPort → PPort} (h : f (s.port i) ≠ {}) : (s.modPort i f).port i = f (s.port i) :=
  Tab.get_set_self_of_ne h
theorem State.modPort_congr {i : Nat} {f g : PPort → PPort} (h : f (s.port i) = g (s.port i)) : s.modPort i f = s.modPort i g := by
  simp only [State.modPort]
  exact congrArg (fun x => ({ s with pcie := { s.pcie with ports := Tab.set {} s.pcie.ports i x } } : State)) h
theorem State.func_modFunc_ne {i j : Nat} {f : PFunc → PFunc} (h : j ≠ i) : (s.modFunc i f).func j = s.func j := Tab.get_upd_ne h
theorem State.func_modFunc_wf {i : Nat} {f : PFunc → PFunc} (h : Tab.wf {} s.pcie.funcs = true) : (s.modFunc i f).func i = f (s.func i) :=
  Tab.get_upd_self h
theorem State.func_modFunc_self {i : Nat} {f : PFunc → PFunc} (h : f (s.func i) ≠ {}) : (s.modFunc i f).func i = f (s.func i) :=
  Tab.get_set_self_of_ne h
theorem State.modFunc_congr {i : Nat} {f g : PFunc → PFunc} (h : f (s.func i) = g (s.func i)) : s.modFunc i f = s.modFunc i g := by
  simp only [State.modFunc, Tab.upd]
  exact congrArg (fun x => ({ s with pcie := { s.pcie with funcs := Tab.set {} s.pcie.funcs i x } } : State)) h
theorem State.modFunc_again {i : Nat} {f g : PFunc → PFunc} (h : f (s.func i) ≠ {}) : (s.modFunc i f).modFunc i g = s.modFunc i fun x => g (f x) := by
  have e : (s.modFunc i f).func i = f (s.func i) := Tab.get_set_self_of_ne h
  have e2 : (s.modFunc i f).modFunc i g = { s with pcie := { s.pcie with funcs := Tab.set {} ((s.modFunc i f).pcie.funcs) i (g ((s.modFunc i f).func i)) } } := rfl
  rw [e2, e]
  exact congrArg (fun x => ({ s with pcie := { s.pcie with funcs := x } } : State)) (Tab.set_set_of_ne h)
theorem State.doe_modDoe_ne {i j : Nat} {f : DoeBox → DoeBox} (h : j ≠ i) : (s.modDoe i f).doe j = s.doe j := Tab.get_upd_ne h
theorem State.doe_modDoe_wf {i : Nat} {f : DoeBox → DoeBox} (h : Tab.wf {} s.pcie.does = true) : (s.modDoe i f).doe i = f (s.doe i) :=
  Tab.get_upd_self h
theorem State.doe_modDoe_self {i : Nat} {f : DoeBox → DoeBox} (h : f (s.doe i) ≠ {}) : (s.modDoe i f).doe i = f (s.doe i) :=
  Tab.get_set_self_of_ne h
theorem State.modDoe_congr {i : Nat} {f g : DoeBox → DoeBox} (h : f (s.doe i) = g (s.doe i)) : s.modDoe i f = s.modDoe i g := by
  simp only [State.modDoe, Tab.upd]
  exact congrArg (fun x => ({ s with pcie := { s.pcie with does := Tab.set {} s.pcie.does i x } } : State)) h
theorem State.modDoe_again {i : Nat} {f g : DoeBox → DoeBox} (h : f (s.doe i) ≠ {}) : (s.modDoe i f).modDoe i g = s.modDoe i fun x => g (f x) := by
  have e : (s.modDoe i f).doe i = f (s.doe i) := Tab.get_set_self_of_ne h
  have e2 : (s.modDoe i f).modDoe i g = { s with pcie := { s.pcie with does := Tab.set {} ((s.modDoe i f).pcie.does) i (g ((s.modDoe i f).doe i)) } } := rfl
  rw [e2, e]
  exact congrArg (fun x => ({ s with pcie := { s.pcie with does := x } } : State)) (Tab.set_set_of_ne h)
theorem State.reg_setReg_ne {j k v : Nat} (h : j ≠ k) : (s.setReg k v).reg j = s.reg j := by
  simp only [State.reg, State.setReg, Tab.get_set_ne h]
theorem State.reg_setReg {k v : Nat} (h : Tab.wf none s.regs = true) : (s.setReg k v).reg k = v := by
  simp only [State.reg, State.setReg, Tab.get_set_self h]
  by_cases e : v = fieldCold k
  · simp [e]
  · simp [e]
theorem State.reg_setReg_of_ne {k v : Nat} (h : v ≠ fieldCold k) : (s.setReg k v).reg k = v := by
  simp only [State.reg, State.setReg, if_neg h, Tab.get_set_self_of_ne (Option.some_ne_none v)]

/-! ### A change applied over a list -/

/-- What no single change touches, the whole does not touch. -/
theorem State.each_keeps {α β : Type} (g : State → β) {l : List α} {f : State → α → State}
    (h : ∀ t x, g (f t x) = g t) : g (s.each l f) = g s := by
  unfold State.each
  induction l generalizing s with
  | nil => rfl
  | cons x l ih => rw [List.foldl_cons, ih, h]

end Sys2Proof.Machine
end

