-- ==== Sys2Proof/Laws/Ops.lean ====
section
/-!
SUPPORT. What the shared operations do: the parts each leaves as they were, what a guard lets through, what a command
whose guards hold answers.
-/

namespace Sys2Proof.Machine

variable {s t u : State}

/-! ### Operations that only send, that post completions, and that only record -/

/-- Nothing but the outputs, the instances, the PCIe attachment and the count of free values differs. -/
def Sends (s t : State) : Prop :=
  t = { s with freeCtr := t.freeCtr, out := t.out, tenant := t.tenant, pcie := t.pcie }
/-- Nothing but what the end of a command touches differs: beside `Sends`, the tags, the Hamper, the fields that come into
force when intake falls idle, and the count of media errors. -/
def Posts (s t : State) : Prop :=
  t = { s with freeCtr := t.freeCtr, out := t.out, cfg := t.cfg, cfgStaged := t.cfgStaged, intake := t.intake
               hamper := t.hamper, tenant := t.tenant, pcie := t.pcie, mgmt := t.mgmt }
/-- Nothing but the registers, the Kiln Log and the Fault Collector differs. -/
def Records (s t : State) : Prop := t = { s with regs := t.regs, klog := t.klog, fault := t.fault }

theorem Sends.refl (s : State) : Sends s s := rfl
theorem Sends.trans (h : Sends s t) (k : Sends t u) : Sends s u := by
  unfold Sends at *; rw [h] at k; exact k
theorem Sends.ite {p : Prop} [Decidable p] (h : Sends s t) (k : Sends s u) : Sends s (if p then t else u) := by
  split <;> assumption
theorem Sends.each {α : Type} {l : List α} {f : State → α → State} (h : Sends s t)
    (hf : ∀ t x, Sends s t → Sends s (f t x)) : Sends s (t.each l f) := by
  unfold State.each
  induction l generalizing t with
  | nil => exact h
  | cons x l ih => exact ih (hf t x h)
theorem Sends.modInst {i : Nat} {f : Inst → Inst} (h : Sends s t) : Sends s (t.modInst i f) := h.trans rfl
theorem Sends.emit {o : Out} (h : Sends s t) : Sends s (t.emit o) := by
  unfold State.emit
  exact Sends.ite (h.trans rfl) (Sends.ite (h.trans rfl) h)
theorem Sends.interrupt {i v : Nat} (h : Sends s t) : Sends s (t.interrupt i v) := by
  unfold State.interrupt
  exact Sends.ite h.modInst h.emit
theorem Sends.signalCq {i q : Nat} (h : Sends s t) : Sends s (t.signalCq i q) := by
  unfold State.signalCq
  exact Sends.ite h (Sends.ite h h.modInst.interrupt)
theorem Sends.readLine {i l : Nat} (h : Sends s t) : Sends s (t.readLine i l).2 := by
  unfold State.readLine; dsimp only; split
  · exact h
  · split
    · exact h
    · exact h.trans rfl
theorem Sends.markPage {i p : Nat} (h : Sends s t) : Sends s (t.markPage i p) := by
  unfold State.markPage
  refine Sends.ite h (Sends.ite h.modInst (Sends.modInst ?_))
  split
  · exact (Sends.modInst h.readLine).emit
  · exact h.readLine
theorem Sends.dirtyPages {i : Nat} {l : List Nat} (h : Sends s t) : Sends s (t.dirtyPages i l) :=
  h.each fun _ _ k => k.markPage
theorem Sends.postCqe {i sq cq c st d : Nat} (h : Sends s t) : Sends s (t.postCqe i sq cq c st d) :=
  h.dirtyPages.emit.modInst.signalCq
theorem Sends.reply {i q c : Nat} {l : List Nat} (h : Sends s t) : Sends s (t.reply i q c l) := h.dirtyPages.emit

theorem Posts.refl (s : State) : Posts s s := rfl
theorem Posts.trans (h : Posts s t) (k : Posts t u) : Posts s u := by
  unfold Posts at *; rw [h] at k; exact k
theorem Posts.ite {p : Prop} [Decidable p] (h : Posts s t) (k : Posts s u) : Posts s (if p then t else u) := by
  split <;> assumption
theorem Posts.foldl {α : Type} {l : List α} {f : State → α → State} (h : Posts s t)
    (hf : ∀ t x, Posts s t → Posts s (f t x)) : Posts s (l.foldl f t) := by
  induction l generalizing t with
  | nil => exact h
  | cons x l ih => exact ih (hf t x h)
theorem Posts.each {α : Type} {l : List α} {f : State → α → State} (h : Posts s t)
    (hf : ∀ t x, Posts s t → Posts s (f t x)) : Posts s (t.each l f) := h.foldl hf
theorem Sends.posts (h : Sends s t) : Posts s t := by
  unfold Sends at h; rw [h]; rfl
theorem Posts.send (h : Posts s t) (k : Sends t u) : Posts s u := h.trans k.posts
theorem Posts.inIntake {x : IntakePart} (h : Posts s t) : Posts s { t with intake := x } := h.trans rfl
theorem Posts.inMgmt {x : MgmtPart} (h : Posts s t) : Posts s { t with mgmt := x } := h.trans rfl
theorem Posts.modInst {i : Nat} {f : Inst → Inst} (h : Posts s t) : Posts s (t.modInst i f) := h.trans rfl
theorem Posts.modTag {i : Nat} {f : TagRec → TagRec} (h : Posts s t) : Posts s (t.modTag i f) := h.trans rfl
theorem Posts.modPool {i : Nat} {f : Pool → Pool} (h : Posts s t) : Posts s (t.modPool i f) := h.trans rfl
theorem Posts.modUnit {i : Nat} {f : HUnit → HUnit} (h : Posts s t) : Posts s (t.modUnit i f) := h.trans rfl
theorem Posts.modPortAt {i : Nat} {f : PPort → PPort} (h : Posts s t) : Posts s (t.modPortAt i f) := h.trans rfl
theorem Posts.emit {o : Out} (h : Posts s t) : Posts s (t.emit o) := h.send (Sends.refl t).emit
theorem Posts.settlePool {p : Nat} (h : Posts s t) : Posts s (t.settlePool p) := by
  unfold State.settlePool
  exact Posts.ite h.modPool h
theorem Posts.alloc {p n i : Nat} {o : OwnerKind} {q : Nat} (h : Posts s t) : Posts s (t.alloc p n i o q).2 := by
  unfold State.alloc; dsimp only; split
  · exact h
  · exact Posts.settlePool (Posts.each h.modPool fun _ _ k => k.modUnit)
theorem Posts.servePool {p n : Nat} (h : Posts s t) : Posts s (t.servePool p n) := by
  induction n generalizing t with
  | zero => exact h
  | succ n ih =>
    unfold State.servePool; split
    · exact h
    · split
      · exact h
      · rename_i e
        exact ih (Posts.modPool (by have k := e ▸ h.alloc; exact k))
theorem Posts.freeUnit {k : Nat} (h : Posts s t) : Posts s (t.freeUnit k) := h.modUnit.modPool.settlePool
theorem Posts.refuseClaims {k : Nat} (h : Posts s t) : Posts s (t.refuseClaims k) :=
  Posts.modUnit (Posts.each h fun _ _ j => j.trans rfl)
theorem Posts.releaseUnit {k : Nat} (h : Posts s t) : Posts s (t.releaseUnit k) := by
  unfold State.releaseUnit
  exact Posts.ite h (Posts.ite h.freeUnit.servePool h.refuseClaims.modUnit)
theorem Posts.releaseUnits {l : List Nat} (h : Posts s t) : Posts s (t.releaseUnits l) := h.each fun _ _ k => k.releaseUnit
theorem Posts.takeCfg {k : CfgKind} {p : Nat → Bool} (h : Posts s t) : Posts s (t.takeCfg k p) :=
  Posts.foldl (h.trans rfl) fun _ _ k => k.trans rfl
theorem Posts.ltrUpdate {n : Nat} (h : Posts s t) : Posts s (t.ltrUpdate n) := by
  unfold State.ltrUpdate
  exact Posts.ite h (Posts.ite h.inIntake.emit.emit h.inIntake.emit)
theorem Posts.idleBegins (h : Posts s t) : Posts s t.idleBegins := by
  unfold State.idleBegins
  exact Posts.ite h.takeCfg.takeCfg.inIntake h
theorem Posts.issueReads {p : Nat} (h : Posts s t) : Posts s (t.issueReads p) := by
  unfold State.issueReads
  exact Posts.ite h h.modPortAt
theorem Posts.answerReads {k n : Nat} (h : Posts s t) : Posts s (t.answerReads k n) := by
  unfold State.answerReads
  exact Posts.ite h.modPortAt.issueReads h
theorem Posts.shutdownDone {i : Nat} (h : Posts s t) : Posts s (t.shutdownDone i) := by
  unfold State.shutdownDone
  exact Posts.ite h.modInst h
theorem Posts.freeTagOf {k : Nat} (h : Posts s t) : Posts s (t.freeTagOf k) := by
  have e : Posts s (t.answerReads k (t.tag k).cmd.nlb) := h.answerReads
  unfold State.freeTagOf; dsimp only
  generalize t.tag k = r at e ⊢
  have e : Posts s (if r.cls = .u then (t.answerReads k r.cmd.nlb).releaseUnits r.units else t.answerReads k r.cmd.nlb) :=
    Posts.ite e.releaseUnits e
  refine Posts.ltrUpdate (Posts.ite (Posts.idleBegins ?_) ?_) <;>
    exact Posts.inIntake (Posts.shutdownDone (Posts.modTag (Posts.modInst e)))
theorem Posts.postTag {k st d : Nat} (h : Posts s t) : Posts s (t.postTag k st d) := by
  unfold State.postTag
  exact (Posts.send (Posts.inMgmt h) (Sends.refl _).postCqe).freeTagOf
theorem Posts.adminCqe {i c st d : Nat} (h : Posts s t) : Posts s (t.adminCqe i c st d) := by
  unfold State.adminCqe; split
  · exact Posts.ite h (Posts.ite h.modTag h.postTag)
  · exact h
theorem Posts.deliverEvent {i : Nat} (h : Posts s t) : Posts s (t.deliverEvent i) := by
  unfold State.deliverEvent; dsimp only
  refine Posts.ite h ?_
  split
  · exact h.modInst.adminCqe
  · exact h
theorem Posts.event {i k n l : Nat} (h : Posts s t) : Posts s (t.event i k n l) := h.modInst.deliverEvent
theorem Posts.unmask {i k : Nat} (h : Posts s t) : Posts s (t.unmask i k) := h.modInst.deliverEvent
theorem Posts.vendorEvent {i n l : Nat} (h : Posts s t) : Posts s (t.vendorEvent i n l) := by
  unfold State.vendorEvent
  exact Posts.ite h.event h

theorem Records.refl (s : State) : Records s s := rfl
theorem Records.trans (h : Records s t) (k : Records t u) : Records s u := by
  unfold Records at *; rw [h] at k; exact k
theorem Records.inFault {x : FaultPart} (h : Records s t) : Records s { t with fault := x } := h.trans rfl
theorem Records.inKlog {x : KlogPart} (h : Records s t) : Records s { t with klog := x } := h.trans rfl
theorem Records.ite {p : Prop} [Decidable p] (h : Records s t) (k : Records s u) : Records s (if p then t else u) := by
  split
  · exact h
  · exact k
theorem Records.setReg {k v : Nat} (h : Records s t) : Records s (t.setReg k v) := h.trans rfl
theorem Records.modSrc {c : Nat} {f : Src → Src} (h : Records s t) : Records s (t.modSrc c f) := h.trans rfl
theorem Records.latch {m : Msg} {c : Nat} (h : Records s t) : Records s (t.latch m c) := by
  unfold State.latch; split
  · exact h
  · split
    · exact h.setReg.setReg.setReg.setReg.setReg
    · dsimp only; split
      · exact h.setReg.setReg.setReg
      · exact h.setReg.setReg
theorem Records.writeRec {r : Rec} (h : Records s t) : Records s (t.writeRec r) := by
  unfold State.writeRec; dsimp only
  split
  · exact h.trans rfl
  · split <;> split <;> exact h.trans rfl
theorem Records.log {c v o : Nat} {b : List Nat} (h : Records s t) : Records s (t.log c v o b) := h.writeRec
theorem Records.accept {m : Msg} {a b : Bool} {n : Nat} (h : Records s t) (hm : m.cls < 3) : Records s (t.accept m a b n) := by
  unfold State.accept
  dsimp only
  rw [if_neg (by split <;> omega)]
  refine Records.ite (Records.inFault ?_) (Records.ite (Records.inFault ?_) ?_) <;>
    exact Records.writeRec (Records.inKlog (Records.ite h.modSrc.latch.setReg h.modSrc.latch))
theorem Records.fltMsg {m : Msg} {a b : Bool} (h : Records s t) (hm : m.cls < 3) : Records s (t.fltMsg m a b) := by
  unfold State.fltMsg; split
  · exact h.accept hm
  · exact h.modSrc
theorem Records.report {c k a l : Nat} (h : Records s t) (hl : l < 3) : Records s (t.report c k a l) := h.fltMsg hl
theorem Records.reportTransient {c k a : Nat} (h : Records s t) : Records s (t.reportTransient c k a) :=
  h.fltMsg (Nat.zero_lt_succ _)

theorem Sends.pending (h : Sends s t) : t.pending = s.pending := by
  have e := congrArg State.pending h
  exact e
theorem Sends.now (h : Sends s t) : t.now = s.now := by
  have e := congrArg State.now h
  exact e
theorem Sends.regs (h : Sends s t) : t.regs = s.regs := by
  have e := congrArg State.regs h
  exact e
theorem Sends.cfg (h : Sends s t) : t.cfg = s.cfg := by
  have e := congrArg State.cfg h
  exact e
theorem Sends.cfgStaged (h : Sends s t) : t.cfgStaged = s.cfgStaged := by
  have e := congrArg State.cfgStaged h
  exact e
theorem Sends.fault (h : Sends s t) : t.fault = s.fault := by
  have e := congrArg State.fault h
  exact e
theorem Sends.klog (h : Sends s t) : t.klog = s.klog := by
  have e := congrArg State.klog h
  exact e
theorem Sends.intake (h : Sends s t) : t.intake = s.intake := by
  have e := congrArg State.intake h
  exact e
theorem Sends.sieve (h : Sends s t) : t.sieve = s.sieve := by
  have e := congrArg State.sieve h
  exact e
theorem Sends.hamper (h : Sends s t) : t.hamper = s.hamper := by
  have e := congrArg State.hamper h
  exact e
theorem Sends.zone (h : Sends s t) : t.zone = s.zone := by
  have e := congrArg State.zone h
  exact e
theorem Sends.flash (h : Sends s t) : t.flash = s.flash := by
  have e := congrArg State.flash h
  exact e
theorem Sends.trail (h : Sends s t) : t.trail = s.trail := by
  have e := congrArg State.trail h
  exact e
theorem Sends.boot (h : Sends s t) : t.boot = s.boot := by
  have e := congrArg State.boot h
  exact e
theorem Sends.glaze (h : Sends s t) : t.glaze = s.glaze := by
  have e := congrArg State.glaze h
  exact e
theorem Sends.power (h : Sends s t) : t.power = s.power := by
  have e := congrArg State.power h
  exact e
theorem Sends.fabric (h : Sends s t) : t.fabric = s.fabric := by
  have e := congrArg State.fabric h
  exact e
theorem Sends.fixity (h : Sends s t) : t.fixity = s.fixity := by
  have e := congrArg State.fixity h
  exact e
theorem Sends.dram (h : Sends s t) : t.dram = s.dram := by
  have e := congrArg State.dram h
  exact e
theorem Sends.wmk (h : Sends s t) : t.wmk = s.wmk := by
  have e := congrArg State.wmk h
  exact e
theorem Sends.cone (h : Sends s t) : t.cone = s.cone := by
  have e := congrArg State.cone h
  exact e
theorem Sends.mgmt (h : Sends s t) : t.mgmt = s.mgmt := by
  have e := congrArg State.mgmt h
  exact e

theorem Posts.pending (h : Posts s t) : t.pending = s.pending := by
  have e := congrArg State.pending h
  exact e
theorem Posts.now (h : Posts s t) : t.now = s.now := by
  have e := congrArg State.now h
  exact e
theorem Posts.regs (h : Posts s t) : t.regs = s.regs := by
  have e := congrArg State.regs h
  exact e
theorem Posts.fault (h : Posts s t) : t.fault = s.fault := by
  have e := congrArg State.fault h
  exact e
theorem Posts.klog (h : Posts s t) : t.klog = s.klog := by
  have e := congrArg State.klog h
  exact e
theorem Posts.sieve (h : Posts s t) : t.sieve = s.sieve := by
  have e := congrArg State.sieve h
  exact e
theorem Posts.zone (h : Posts s t) : t.zone = s.zone := by
  have e := congrArg State.zone h
  exact e
theorem Posts.flash (h : Posts s t) : t.flash = s.flash := by
  have e := congrArg State.flash h
  exact e
theorem Posts.trail (h : Posts s t) : t.trail = s.trail := by
  have e := congrArg State.trail h
  exact e
theorem Posts.boot (h : Posts s t) : t.boot = s.boot := by
  have e := congrArg State.boot h
  exact e
theorem Posts.glaze (h : Posts s t) : t.glaze = s.glaze := by
  have e := congrArg State.glaze h
  exact e
theorem Posts.power (h : Posts s t) : t.power = s.power := by
  have e := congrArg State.power h
  exact e
theorem Posts.fabric (h : Posts s t) : t.fabric = s.fabric := by
  have e := congrArg State.fabric h
  exact e
theorem Posts.fixity (h : Posts s t) : t.fixity = s.fixity := by
  have e := congrArg State.fixity h
  exact e
theorem Posts.dram (h : Posts s t) : t.dram = s.dram := by
  have e := congrArg State.dram h
  exact e
theorem Posts.wmk (h : Posts s t) : t.wmk = s.wmk := by
  have e := congrArg State.wmk h
  exact e
theorem Posts.cone (h : Posts s t) : t.cone = s.cone := by
  have e := congrArg State.cone h
  exact e

theorem Records.pending (h : Records s t) : t.pending = s.pending := by
  have e := congrArg State.pending h
  exact e
theorem Records.now (h : Records s t) : t.now = s.now := by
  have e := congrArg State.now h
  exact e
theorem Records.freeCtr (h : Records s t) : t.freeCtr = s.freeCtr := by
  have e := congrArg State.freeCtr h
  exact e
theorem Records.out (h : Records s t) : t.out = s.out := by
  have e := congrArg State.out h
  exact e
theorem Records.cfg (h : Records s t) : t.cfg = s.cfg := by
  have e := congrArg State.cfg h
  exact e
theorem Records.cfgStaged (h : Records s t) : t.cfgStaged = s.cfgStaged := by
  have e := congrArg State.cfgStaged h
  exact e
theorem Records.intake (h : Records s t) : t.intake = s.intake := by
  have e := congrArg State.intake h
  exact e
theorem Records.sieve (h : Records s t) : t.sieve = s.sieve := by
  have e := congrArg State.sieve h
  exact e
theorem Records.hamper (h : Records s t) : t.hamper = s.hamper := by
  have e := congrArg State.hamper h
  exact e
theorem Records.zone (h : Records s t) : t.zone = s.zone := by
  have e := congrArg State.zone h
  exact e
theorem Records.flash (h : Records s t) : t.flash = s.flash := by
  have e := congrArg State.flash h
  exact e
theorem Records.trail (h : Records s t) : t.trail = s.trail := by
  have e := congrArg State.trail h
  exact e
theorem Records.tenant (h : Records s t) : t.tenant = s.tenant := by
  have e := congrArg State.tenant h
  exact e
theorem Records.boot (h : Records s t) : t.boot = s.boot := by
  have e := congrArg State.boot h
  exact e
theorem Records.glaze (h : Records s t) : t.glaze = s.glaze := by
  have e := congrArg State.glaze h
  exact e
theorem Records.power (h : Records s t) : t.power = s.power := by
  have e := congrArg State.power h
  exact e
theorem Records.fabric (h : Records s t) : t.fabric = s.fabric := by
  have e := congrArg State.fabric h
  exact e
theorem Records.fixity (h : Records s t) : t.fixity = s.fixity := by
  have e := congrArg State.fixity h
  exact e
theorem Records.dram (h : Records s t) : t.dram = s.dram := by
  have e := congrArg State.dram h
  exact e
theorem Records.pcie (h : Records s t) : t.pcie = s.pcie := by
  have e := congrArg State.pcie h
  exact e
theorem Records.wmk (h : Records s t) : t.wmk = s.wmk := by
  have e := congrArg State.wmk h
  exact e
theorem Records.cone (h : Records s t) : t.cone = s.cone := by
  have e := congrArg State.cone h
  exact e
theorem Records.mgmt (h : Records s t) : t.mgmt = s.mgmt := by
  have e := congrArg State.mgmt h
  exact e

@[simp] theorem State.emit_pending (o : Out) : (s.emit o).pending = s.pending :=
  ((Sends.refl s).emit).pending
@[simp] theorem State.emit_now (o : Out) : (s.emit o).now = s.now :=
  ((Sends.refl s).emit).now
@[simp] theorem State.emit_regs (o : Out) : (s.emit o).regs = s.regs :=
  ((Sends.refl s).emit).regs
@[simp] theorem State.emit_cfg (o : Out) : (s.emit o).cfg = s.cfg :=
  ((Sends.refl s).emit).cfg
@[simp] theorem State.emit_cfgStaged (o : Out) : (s.emit o).cfgStaged = s.cfgStaged :=
  ((Sends.refl s).emit).cfgStaged
@[simp] theorem State.emit_fault (o : Out) : (s.emit o).fault = s.fault :=
  ((Sends.refl s).emit).fault
@[simp] theorem State.emit_klog (o : Out) : (s.emit o).klog = s.klog :=
  ((Sends.refl s).emit).klog
@[simp] theorem State.emit_intake (o : Out) : (s.emit o).intake = s.intake :=
  ((Sends.refl s).emit).intake
@[simp] theorem State.emit_sieve (o : Out) : (s.emit o).sieve = s.sieve :=
  ((Sends.refl s).emit).sieve
@[simp] theorem State.emit_hamper (o : Out) : (s.emit o).hamper = s.hamper :=
  ((Sends.refl s).emit).hamper
@[simp] theorem State.emit_zone (o : Out) : (s.emit o).zone = s.zone :=
  ((Sends.refl s).emit).zone
@[simp] theorem State.emit_flash (o : Out) : (s.emit o).flash = s.flash :=
  ((Sends.refl s).emit).flash
@[simp] theorem State.emit_trail (o : Out) : (s.emit o).trail = s.trail :=
  ((Sends.refl s).emit).trail
@[simp] theorem State.emit_boot (o : Out) : (s.emit o).boot = s.boot :=
  ((Sends.refl s).emit).boot
@[simp] theorem State.emit_glaze (o : Out) : (s.emit o).glaze = s.glaze :=
  ((Sends.refl s).emit).glaze
@[simp] theorem State.emit_power (o : Out) : (s.emit o).power = s.power :=
  ((Sends.refl s).emit).power
@[simp] theorem State.emit_fabric (o : Out) : (s.emit o).fabric = s.fabric :=
  ((Sends.refl s).emit).fabric
@[simp] theorem State.emit_fixity (o : Out) : (s.emit o).fixity = s.fixity :=
  ((Sends.refl s).emit).fixity
@[simp] theorem State.emit_dram (o : Out) : (s.emit o).dram = s.dram :=
  ((Sends.refl s).emit).dram
@[simp] theorem State.emit_wmk (o : Out) : (s.emit o).wmk = s.wmk :=
  ((Sends.refl s).emit).wmk
@[simp] theorem State.emit_cone (o : Out) : (s.emit o).cone = s.cone :=
  ((Sends.refl s).emit).cone
@[simp] theorem State.emit_mgmt (o : Out) : (s.emit o).mgmt = s.mgmt :=
  ((Sends.refl s).emit).mgmt

@[simp] theorem State.interrupt_pending (i v : Nat) : (s.interrupt i v).pending = s.pending :=
  ((Sends.refl s).interrupt).pending
@[simp] theorem State.interrupt_now (i v : Nat) : (s.interrupt i v).now = s.now :=
  ((Sends.refl s).interrupt).now
@[simp] theorem State.interrupt_regs (i v : Nat) : (s.interrupt i v).regs = s.regs :=
  ((Sends.refl s).interrupt).regs
@[simp] theorem State.interrupt_cfg (i v : Nat) : (s.interrupt i v).cfg = s.cfg :=
  ((Sends.refl s).interrupt).cfg
@[simp] theorem State.interrupt_cfgStaged (i v : Nat) : (s.interrupt i v).cfgStaged = s.cfgStaged :=
  ((Sends.refl s).interrupt).cfgStaged
@[simp] theorem State.interrupt_fault (i v : Nat) : (s.interrupt i v).fault = s.fault :=
  ((Sends.refl s).interrupt).fault
@[simp] theorem State.interrupt_klog (i v : Nat) : (s.interrupt i v).klog = s.klog :=
  ((Sends.refl s).interrupt).klog
@[simp] theorem State.interrupt_intake (i v : Nat) : (s.interrupt i v).intake = s.intake :=
  ((Sends.refl s).interrupt).intake
@[simp] theorem State.interrupt_sieve (i v : Nat) : (s.interrupt i v).sieve = s.sieve :=
  ((Sends.refl s).interrupt).sieve
@[simp] theorem State.interrupt_hamper (i v : Nat) : (s.interrupt i v).hamper = s.hamper :=
  ((Sends.refl s).interrupt).hamper
@[simp] theorem State.interrupt_zone (i v : Nat) : (s.interrupt i v).zone = s.zone :=
  ((Sends.refl s).interrupt).zone
@[simp] theorem State.interrupt_flash (i v : Nat) : (s.interrupt i v).flash = s.flash :=
  ((Sends.refl s).interrupt).flash
@[simp] theorem State.interrupt_trail (i v : Nat) : (s.interrupt i v).trail = s.trail :=
  ((Sends.refl s).interrupt).trail
@[simp] theorem State.interrupt_boot (i v : Nat) : (s.interrupt i v).boot = s.boot :=
  ((Sends.refl s).interrupt).boot
@[simp] theorem State.interrupt_glaze (i v : Nat) : (s.interrupt i v).glaze = s.glaze :=
  ((Sends.refl s).interrupt).glaze
@[simp] theorem State.interrupt_power (i v : Nat) : (s.interrupt i v).power = s.power :=
  ((Sends.refl s).interrupt).power
@[simp] theorem State.interrupt_fabric (i v : Nat) : (s.interrupt i v).fabric = s.fabric :=
  ((Sends.refl s).interrupt).fabric
@[simp] theorem State.interrupt_fixity (i v : Nat) : (s.interrupt i v).fixity = s.fixity :=
  ((Sends.refl s).interrupt).fixity
@[simp] theorem State.interrupt_dram (i v : Nat) : (s.interrupt i v).dram = s.dram :=
  ((Sends.refl s).interrupt).dram
@[simp] theorem State.interrupt_wmk (i v : Nat) : (s.interrupt i v).wmk = s.wmk :=
  ((Sends.refl s).interrupt).wmk
@[simp] theorem State.interrupt_cone (i v : Nat) : (s.interrupt i v).cone = s.cone :=
  ((Sends.refl s).interrupt).cone
@[simp] theorem State.interrupt_mgmt (i v : Nat) : (s.interrupt i v).mgmt = s.mgmt :=
  ((Sends.refl s).interrupt).mgmt

@[simp] theorem State.signalCq_pending (i q : Nat) : (s.signalCq i q).pending = s.pending :=
  ((Sends.refl s).signalCq).pending
@[simp] theorem State.signalCq_now (i q : Nat) : (s.signalCq i q).now = s.now :=
  ((Sends.refl s).signalCq).now
@[simp] theorem State.signalCq_regs (i q : Nat) : (s.signalCq i q).regs = s.regs :=
  ((Sends.refl s).signalCq).regs
@[simp] theorem State.signalCq_cfg (i q : Nat) : (s.signalCq i q).cfg = s.cfg :=
  ((Sends.refl s).signalCq).cfg
@[simp] theorem State.signalCq_cfgStaged (i q : Nat) : (s.signalCq i q).cfgStaged = s.cfgStaged :=
  ((Sends.refl s).signalCq).cfgStaged
@[simp] theorem State.signalCq_fault (i q : Nat) : (s.signalCq i q).fault = s.fault :=
  ((Sends.refl s).signalCq).fault
@[simp] theorem State.signalCq_klog (i q : Nat) : (s.signalCq i q).klog = s.klog :=
  ((Sends.refl s).signalCq).klog
@[simp] theorem State.signalCq_intake (i q : Nat) : (s.signalCq i q).intake = s.intake :=
  ((Sends.refl s).signalCq).intake
@[simp] theorem State.signalCq_sieve (i q : Nat) : (s.signalCq i q).sieve = s.sieve :=
  ((Sends.refl s).signalCq).sieve
@[simp] theorem State.signalCq_hamper (i q : Nat) : (s.signalCq i q).hamper = s.hamper :=
  ((Sends.refl s).signalCq).hamper
@[simp] theorem State.signalCq_zone (i q : Nat) : (s.signalCq i q).zone = s.zone :=
  ((Sends.refl s).signalCq).zone
@[simp] theorem State.signalCq_flash (i q : Nat) : (s.signalCq i q).flash = s.flash :=
  ((Sends.refl s).signalCq).flash
@[simp] theorem State.signalCq_trail (i q : Nat) : (s.signalCq i q).trail = s.trail :=
  ((Sends.refl s).signalCq).trail
@[simp] theorem State.signalCq_boot (i q : Nat) : (s.signalCq i q).boot = s.boot :=
  ((Sends.refl s).signalCq).boot
@[simp] theorem State.signalCq_glaze (i q : Nat) : (s.signalCq i q).glaze = s.glaze :=
  ((Sends.refl s).signalCq).glaze
@[simp] theorem State.signalCq_power (i q : Nat) : (s.signalCq i q).power = s.power :=
  ((Sends.refl s).signalCq).power
@[simp] theorem State.signalCq_fabric (i q : Nat) : (s.signalCq i q).fabric = s.fabric :=
  ((Sends.refl s).signalCq).fabric
@[simp] theorem State.signalCq_fixity (i q : Nat) : (s.signalCq i q).fixity = s.fixity :=
  ((Sends.refl s).signalCq).fixity
@[simp] theorem State.signalCq_dram (i q : Nat) : (s.signalCq i q).dram = s.dram :=
  ((Sends.refl s).signalCq).dram
@[simp] theorem State.signalCq_wmk (i q : Nat) : (s.signalCq i q).wmk = s.wmk :=
  ((Sends.refl s).signalCq).wmk
@[simp] theorem State.signalCq_cone (i q : Nat) : (s.signalCq i q).cone = s.cone :=
  ((Sends.refl s).signalCq).cone
@[simp] theorem State.signalCq_mgmt (i q : Nat) : (s.signalCq i q).mgmt = s.mgmt :=
  ((Sends.refl s).signalCq).mgmt

@[simp] theorem State.dirtyPages_pending (i : Nat) (l : List Nat) : (s.dirtyPages i l).pending = s.pending :=
  ((Sends.refl s).dirtyPages).pending
@[simp] theorem State.dirtyPages_now (i : Nat) (l : List Nat) : (s.dirtyPages i l).now = s.now :=
  ((Sends.refl s).dirtyPages).now
@[simp] theorem State.dirtyPages_regs (i : Nat) (l : List Nat) : (s.dirtyPages i l).regs = s.regs :=
  ((Sends.refl s).dirtyPages).regs
@[simp] theorem State.dirtyPages_cfg (i : Nat) (l : List Nat) : (s.dirtyPages i l).cfg = s.cfg :=
  ((Sends.refl s).dirtyPages).cfg
@[simp] theorem State.dirtyPages_cfgStaged (i : Nat) (l : List Nat) : (s.dirtyPages i l).cfgStaged = s.cfgStaged :=
  ((Sends.refl s).dirtyPages).cfgStaged
@[simp] theorem State.dirtyPages_fault (i : Nat) (l : List Nat) : (s.dirtyPages i l).fault = s.fault :=
  ((Sends.refl s).dirtyPages).fault
@[simp] theorem State.dirtyPages_klog (i : Nat) (l : List Nat) : (s.dirtyPages i l).klog = s.klog :=
  ((Sends.refl s).dirtyPages).klog
@[simp] theorem State.dirtyPages_intake (i : Nat) (l : List Nat) : (s.dirtyPages i l).intake = s.intake :=
  ((Sends.refl s).dirtyPages).intake
@[simp] theorem State.dirtyPages_sieve (i : Nat) (l : List Nat) : (s.dirtyPages i l).sieve = s.sieve :=
  ((Sends.refl s).dirtyPages).sieve
@[simp] theorem State.dirtyPages_hamper (i : Nat) (l : List Nat) : (s.dirtyPages i l).hamper = s.hamper :=
  ((Sends.refl s).dirtyPages).hamper
@[simp] theorem State.dirtyPages_zone (i : Nat) (l : List Nat) : (s.dirtyPages i l).zone = s.zone :=
  ((Sends.refl s).dirtyPages).zone
@[simp] theorem State.dirtyPages_flash (i : Nat) (l : List Nat) : (s.dirtyPages i l).flash = s.flash :=
  ((Sends.refl s).dirtyPages).flash
@[simp] theorem State.dirtyPages_trail (i : Nat) (l : List Nat) : (s.dirtyPages i l).trail = s.trail :=
  ((Sends.refl s).dirtyPages).trail
@[simp] theorem State.dirtyPages_boot (i : Nat) (l : List Nat) : (s.dirtyPages i l).boot = s.boot :=
  ((Sends.refl s).dirtyPages).boot
@[simp] theorem State.dirtyPages_glaze (i : Nat) (l : List Nat) : (s.dirtyPages i l).glaze = s.glaze :=
  ((Sends.refl s).dirtyPages).glaze
@[simp] theorem State.dirtyPages_power (i : Nat) (l : List Nat) : (s.dirtyPages i l).power = s.power :=
  ((Sends.refl s).dirtyPages).power
@[simp] theorem State.dirtyPages_fabric (i : Nat) (l : List Nat) : (s.dirtyPages i l).fabric = s.fabric :=
  ((Sends.refl s).dirtyPages).fabric
@[simp] theorem State.dirtyPages_fixity (i : Nat) (l : List Nat) : (s.dirtyPages i l).fixity = s.fixity :=
  ((Sends.refl s).dirtyPages).fixity
@[simp] theorem State.dirtyPages_dram (i : Nat) (l : List Nat) : (s.dirtyPages i l).dram = s.dram :=
  ((Sends.refl s).dirtyPages).dram
@[simp] theorem State.dirtyPages_wmk (i : Nat) (l : List Nat) : (s.dirtyPages i l).wmk = s.wmk :=
  ((Sends.refl s).dirtyPages).wmk
@[simp] theorem State.dirtyPages_cone (i : Nat) (l : List Nat) : (s.dirtyPages i l).cone = s.cone :=
  ((Sends.refl s).dirtyPages).cone
@[simp] theorem State.dirtyPages_mgmt (i : Nat) (l : List Nat) : (s.dirtyPages i l).mgmt = s.mgmt :=
  ((Sends.refl s).dirtyPages).mgmt

@[simp] theorem State.postCqe_pending (i sq cq c st d : Nat) : (s.postCqe i sq cq c st d).pending = s.pending :=
  ((Sends.refl s).postCqe).pending
@[simp] theorem State.postCqe_now (i sq cq c st d : Nat) : (s.postCqe i sq cq c st d).now = s.now :=
  ((Sends.refl s).postCqe).now
@[simp] theorem State.postCqe_regs (i sq cq c st d : Nat) : (s.postCqe i sq cq c st d).regs = s.regs :=
  ((Sends.refl s).postCqe).regs
@[simp] theorem State.postCqe_cfg (i sq cq c st d : Nat) : (s.postCqe i sq cq c st d).cfg = s.cfg :=
  ((Sends.refl s).postCqe).cfg
@[simp] theorem State.postCqe_cfgStaged (i sq cq c st d : Nat) : (s.postCqe i sq cq c st d).cfgStaged = s.cfgStaged :=
  ((Sends.refl s).postCqe).cfgStaged
@[simp] theorem State.postCqe_fault (i sq cq c st d : Nat) : (s.postCqe i sq cq c st d).fault = s.fault :=
  ((Sends.refl s).postCqe).fault
@[simp] theorem State.postCqe_klog (i sq cq c st d : Nat) : (s.postCqe i sq cq c st d).klog = s.klog :=
  ((Sends.refl s).postCqe).klog
@[simp] theorem State.postCqe_intake (i sq cq c st d : Nat) : (s.postCqe i sq cq c st d).intake = s.intake :=
  ((Sends.refl s).postCqe).intake
@[simp] theorem State.postCqe_sieve (i sq cq c st d : Nat) : (s.postCqe i sq cq c st d).sieve = s.sieve :=
  ((Sends.refl s).postCqe).sieve
@[simp] theorem State.postCqe_hamper (i sq cq c st d : Nat) : (s.postCqe i sq cq c st d).hamper = s.hamper :=
  ((Sends.refl s).postCqe).hamper
@[simp] theorem State.postCqe_zone (i sq cq c st d : Nat) : (s.postCqe i sq cq c st d).zone = s.zone :=
  ((Sends.refl s).postCqe).zone
@[simp] theorem State.postCqe_flash (i sq cq c st d : Nat) : (s.postCqe i sq cq c st d).flash = s.flash :=
  ((Sends.refl s).postCqe).flash
@[simp] theorem State.postCqe_trail (i sq cq c st d : Nat) : (s.postCqe i sq cq c st d).trail = s.trail :=
  ((Sends.refl s).postCqe).trail
@[simp] theorem State.postCqe_boot (i sq cq c st d : Nat) : (s.postCqe i sq cq c st d).boot = s.boot :=
  ((Sends.refl s).postCqe).boot
@[simp] theorem State.postCqe_glaze (i sq cq c st d : Nat) : (s.postCqe i sq cq c st d).glaze = s.glaze :=
  ((Sends.refl s).postCqe).glaze
@[simp] theorem State.postCqe_power (i sq cq c st d : Nat) : (s.postCqe i sq cq c st d).power = s.power :=
  ((Sends.refl s).postCqe).power
@[simp] theorem State.postCqe_fabric (i sq cq c st d : Nat) : (s.postCqe i sq cq c st d).fabric = s.fabric :=
  ((Sends.refl s).postCqe).fabric
@[simp] theorem State.postCqe_fixity (i sq cq c st d : Nat) : (s.postCqe i sq cq c st d).fixity = s.fixity :=
  ((Sends.refl s).postCqe).fixity
@[simp] theorem State.postCqe_dram (i sq cq c st d : Nat) : (s.postCqe i sq cq c st d).dram = s.dram :=
  ((Sends.refl s).postCqe).dram
@[simp] theorem State.postCqe_wmk (i sq cq c st d : Nat) : (s.postCqe i sq cq c st d).wmk = s.wmk :=
  ((Sends.refl s).postCqe).wmk
@[simp] theorem State.postCqe_cone (i sq cq c st d : Nat) : (s.postCqe i sq cq c st d).cone = s.cone :=
  ((Sends.refl s).postCqe).cone
@[simp] theorem State.postCqe_mgmt (i sq cq c st d : Nat) : (s.postCqe i sq cq c st d).mgmt = s.mgmt :=
  ((Sends.refl s).postCqe).mgmt

@[simp] theorem State.reply_pending (i q c : Nat) (l : List Nat) : (s.reply i q c l).pending = s.pending :=
  ((Sends.refl s).reply).pending
@[simp] theorem State.reply_now (i q c : Nat) (l : List Nat) : (s.reply i q c l).now = s.now :=
  ((Sends.refl s).reply).now
@[simp] theorem State.reply_regs (i q c : Nat) (l : List Nat) : (s.reply i q c l).regs = s.regs :=
  ((Sends.refl s).reply).regs
@[simp] theorem State.reply_cfg (i q c : Nat) (l : List Nat) : (s.reply i q c l).cfg = s.cfg :=
  ((Sends.refl s).reply).cfg
@[simp] theorem State.reply_cfgStaged (i q c : Nat) (l : List Nat) : (s.reply i q c l).cfgStaged = s.cfgStaged :=
  ((Sends.refl s).reply).cfgStaged
@[simp] theorem State.reply_fault (i q c : Nat) (l : List Nat) : (s.reply i q c l).fault = s.fault :=
  ((Sends.refl s).reply).fault
@[simp] theorem State.reply_klog (i q c : Nat) (l : List Nat) : (s.reply i q c l).klog = s.klog :=
  ((Sends.refl s).reply).klog
@[simp] theorem State.reply_intake (i q c : Nat) (l : List Nat) : (s.reply i q c l).intake = s.intake :=
  ((Sends.refl s).reply).intake
@[simp] theorem State.reply_sieve (i q c : Nat) (l : List Nat) : (s.reply i q c l).sieve = s.sieve :=
  ((Sends.refl s).reply).sieve
@[simp] theorem State.reply_hamper (i q c : Nat) (l : List Nat) : (s.reply i q c l).hamper = s.hamper :=
  ((Sends.refl s).reply).hamper
@[simp] theorem State.reply_zone (i q c : Nat) (l : List Nat) : (s.reply i q c l).zone = s.zone :=
  ((Sends.refl s).reply).zone
@[simp] theorem State.reply_flash (i q c : Nat) (l : List Nat) : (s.reply i q c l).flash = s.flash :=
  ((Sends.refl s).reply).flash
@[simp] theorem State.reply_trail (i q c : Nat) (l : List Nat) : (s.reply i q c l).trail = s.trail :=
  ((Sends.refl s).reply).trail
@[simp] theorem State.reply_boot (i q c : Nat) (l : List Nat) : (s.reply i q c l).boot = s.boot :=
  ((Sends.refl s).reply).boot
@[simp] theorem State.reply_glaze (i q c : Nat) (l : List Nat) : (s.reply i q c l).glaze = s.glaze :=
  ((Sends.refl s).reply).glaze
@[simp] theorem State.reply_power (i q c : Nat) (l : List Nat) : (s.reply i q c l).power = s.power :=
  ((Sends.refl s).reply).power
@[simp] theorem State.reply_fabric (i q c : Nat) (l : List Nat) : (s.reply i q c l).fabric = s.fabric :=
  ((Sends.refl s).reply).fabric
@[simp] theorem State.reply_fixity (i q c : Nat) (l : List Nat) : (s.reply i q c l).fixity = s.fixity :=
  ((Sends.refl s).reply).fixity
@[simp] theorem State.reply_dram (i q c : Nat) (l : List Nat) : (s.reply i q c l).dram = s.dram :=
  ((Sends.refl s).reply).dram
@[simp] theorem State.reply_wmk (i q c : Nat) (l : List Nat) : (s.reply i q c l).wmk = s.wmk :=
  ((Sends.refl s).reply).wmk
@[simp] theorem State.reply_cone (i q c : Nat) (l : List Nat) : (s.reply i q c l).cone = s.cone :=
  ((Sends.refl s).reply).cone
@[simp] theorem State.reply_mgmt (i q c : Nat) (l : List Nat) : (s.reply i q c l).mgmt = s.mgmt :=
  ((Sends.refl s).reply).mgmt

@[simp] theorem State.postTag_pending (t st d : Nat) : (s.postTag t st d).pending = s.pending :=
  ((Posts.refl s).postTag).pending
@[simp] theorem State.postTag_now (t st d : Nat) : (s.postTag t st d).now = s.now :=
  ((Posts.refl s).postTag).now
@[simp] theorem State.postTag_regs (t st d : Nat) : (s.postTag t st d).regs = s.regs :=
  ((Posts.refl s).postTag).regs
@[simp] theorem State.postTag_fault (t st d : Nat) : (s.postTag t st d).fault = s.fault :=
  ((Posts.refl s).postTag).fault
@[simp] theorem State.postTag_klog (t st d : Nat) : (s.postTag t st d).klog = s.klog :=
  ((Posts.refl s).postTag).klog
@[simp] theorem State.postTag_sieve (t st d : Nat) : (s.postTag t st d).sieve = s.sieve :=
  ((Posts.refl s).postTag).sieve
@[simp] theorem State.postTag_zone (t st d : Nat) : (s.postTag t st d).zone = s.zone :=
  ((Posts.refl s).postTag).zone
@[simp] theorem State.postTag_flash (t st d : Nat) : (s.postTag t st d).flash = s.flash :=
  ((Posts.refl s).postTag).flash
@[simp] theorem State.postTag_trail (t st d : Nat) : (s.postTag t st d).trail = s.trail :=
  ((Posts.refl s).postTag).trail
@[simp] theorem State.postTag_boot (t st d : Nat) : (s.postTag t st d).boot = s.boot :=
  ((Posts.refl s).postTag).boot
@[simp] theorem State.postTag_glaze (t st d : Nat) : (s.postTag t st d).glaze = s.glaze :=
  ((Posts.refl s).postTag).glaze
@[simp] theorem State.postTag_power (t st d : Nat) : (s.postTag t st d).power = s.power :=
  ((Posts.refl s).postTag).power
@[simp] theorem State.postTag_fabric (t st d : Nat) : (s.postTag t st d).fabric = s.fabric :=
  ((Posts.refl s).postTag).fabric
@[simp] theorem State.postTag_fixity (t st d : Nat) : (s.postTag t st d).fixity = s.fixity :=
  ((Posts.refl s).postTag).fixity
@[simp] theorem State.postTag_dram (t st d : Nat) : (s.postTag t st d).dram = s.dram :=
  ((Posts.refl s).postTag).dram
@[simp] theorem State.postTag_wmk (t st d : Nat) : (s.postTag t st d).wmk = s.wmk :=
  ((Posts.refl s).postTag).wmk
@[simp] theorem State.postTag_cone (t st d : Nat) : (s.postTag t st d).cone = s.cone :=
  ((Posts.refl s).postTag).cone

@[simp] theorem State.adminCqe_pending (i c st d : Nat) : (s.adminCqe i c st d).pending = s.pending :=
  ((Posts.refl s).adminCqe).pending
@[simp] theorem State.adminCqe_now (i c st d : Nat) : (s.adminCqe i c st d).now = s.now :=
  ((Posts.refl s).adminCqe).now
@[simp] theorem State.adminCqe_regs (i c st d : Nat) : (s.adminCqe i c st d).regs = s.regs :=
  ((Posts.refl s).adminCqe).regs
@[simp] theorem State.adminCqe_fault (i c st d : Nat) : (s.adminCqe i c st d).fault = s.fault :=
  ((Posts.refl s).adminCqe).fault
@[simp] theorem State.adminCqe_klog (i c st d : Nat) : (s.adminCqe i c st d).klog = s.klog :=
  ((Posts.refl s).adminCqe).klog
@[simp] theorem State.adminCqe_sieve (i c st d : Nat) : (s.adminCqe i c st d).sieve = s.sieve :=
  ((Posts.refl s).adminCqe).sieve
@[simp] theorem State.adminCqe_zone (i c st d : Nat) : (s.adminCqe i c st d).zone = s.zone :=
  ((Posts.refl s).adminCqe).zone
@[simp] theorem State.adminCqe_flash (i c st d : Nat) : (s.adminCqe i c st d).flash = s.flash :=
  ((Posts.refl s).adminCqe).flash
@[simp] theorem State.adminCqe_trail (i c st d : Nat) : (s.adminCqe i c st d).trail = s.trail :=
  ((Posts.refl s).adminCqe).trail
@[simp] theorem State.adminCqe_boot (i c st d : Nat) : (s.adminCqe i c st d).boot = s.boot :=
  ((Posts.refl s).adminCqe).boot
@[simp] theorem State.adminCqe_glaze (i c st d : Nat) : (s.adminCqe i c st d).glaze = s.glaze :=
  ((Posts.refl s).adminCqe).glaze
@[simp] theorem State.adminCqe_power (i c st d : Nat) : (s.adminCqe i c st d).power = s.power :=
  ((Posts.refl s).adminCqe).power
@[simp] theorem State.adminCqe_fabric (i c st d : Nat) : (s.adminCqe i c st d).fabric = s.fabric :=
  ((Posts.refl s).adminCqe).fabric
@[simp] theorem State.adminCqe_fixity (i c st d : Nat) : (s.adminCqe i c st d).fixity = s.fixity :=
  ((Posts.refl s).adminCqe).fixity
@[simp] theorem State.adminCqe_dram (i c st d : Nat) : (s.adminCqe i c st d).dram = s.dram :=
  ((Posts.refl s).adminCqe).dram
@[simp] theorem State.adminCqe_wmk (i c st d : Nat) : (s.adminCqe i c st d).wmk = s.wmk :=
  ((Posts.refl s).adminCqe).wmk
@[simp] theorem State.adminCqe_cone (i c st d : Nat) : (s.adminCqe i c st d).cone = s.cone :=
  ((Posts.refl s).adminCqe).cone

@[simp] theorem State.deliverEvent_pending (i : Nat) : (s.deliverEvent i).pending = s.pending :=
  ((Posts.refl s).deliverEvent).pending
@[simp] theorem State.deliverEvent_now (i : Nat) : (s.deliverEvent i).now = s.now :=
  ((Posts.refl s).deliverEvent).now
@[simp] theorem State.deliverEvent_regs (i : Nat) : (s.deliverEvent i).regs = s.regs :=
  ((Posts.refl s).deliverEvent).regs
@[simp] theorem State.deliverEvent_fault (i : Nat) : (s.deliverEvent i).fault = s.fault :=
  ((Posts.refl s).deliverEvent).fault
@[simp] theorem State.deliverEvent_klog (i : Nat) : (s.deliverEvent i).klog = s.klog :=
  ((Posts.refl s).deliverEvent).klog
@[simp] theorem State.deliverEvent_sieve (i : Nat) : (s.deliverEvent i).sieve = s.sieve :=
  ((Posts.refl s).deliverEvent).sieve
@[simp] theorem State.deliverEvent_zone (i : Nat) : (s.deliverEvent i).zone = s.zone :=
  ((Posts.refl s).deliverEvent).zone
@[simp] theorem State.deliverEvent_flash (i : Nat) : (s.deliverEvent i).flash = s.flash :=
  ((Posts.refl s).deliverEvent).flash
@[simp] theorem State.deliverEvent_trail (i : Nat) : (s.deliverEvent i).trail = s.trail :=
  ((Posts.refl s).deliverEvent).trail
@[simp] theorem State.deliverEvent_boot (i : Nat) : (s.deliverEvent i).boot = s.boot :=
  ((Posts.refl s).deliverEvent).boot
@[simp] theorem State.deliverEvent_glaze (i : Nat) : (s.deliverEvent i).glaze = s.glaze :=
  ((Posts.refl s).deliverEvent).glaze
@[simp] theorem State.deliverEvent_power (i : Nat) : (s.deliverEvent i).power = s.power :=
  ((Posts.refl s).deliverEvent).power
@[simp] theorem State.deliverEvent_fabric (i : Nat) : (s.deliverEvent i).fabric = s.fabric :=
  ((Posts.refl s).deliverEvent).fabric
@[simp] theorem State.deliverEvent_fixity (i : Nat) : (s.deliverEvent i).fixity = s.fixity :=
  ((Posts.refl s).deliverEvent).fixity
@[simp] theorem State.deliverEvent_dram (i : Nat) : (s.deliverEvent i).dram = s.dram :=
  ((Posts.refl s).deliverEvent).dram
@[simp] theorem State.deliverEvent_wmk (i : Nat) : (s.deliverEvent i).wmk = s.wmk :=
  ((Posts.refl s).deliverEvent).wmk
@[simp] theorem State.deliverEvent_cone (i : Nat) : (s.deliverEvent i).cone = s.cone :=
  ((Posts.refl s).deliverEvent).cone

@[simp] theorem State.event_pending (i t n l : Nat) : (s.event i t n l).pending = s.pending :=
  ((Posts.refl s).event).pending
@[simp] theorem State.event_now (i t n l : Nat) : (s.event i t n l).now = s.now :=
  ((Posts.refl s).event).now
@[simp] theorem State.event_regs (i t n l : Nat) : (s.event i t n l).regs = s.regs :=
  ((Posts.refl s).event).regs
@[simp] theorem State.event_fault (i t n l : Nat) : (s.event i t n l).fault = s.fault :=
  ((Posts.refl s).event).fault
@[simp] theorem State.event_klog (i t n l : Nat) : (s.event i t n l).klog = s.klog :=
  ((Posts.refl s).event).klog
@[simp] theorem State.event_sieve (i t n l : Nat) : (s.event i t n l).sieve = s.sieve :=
  ((Posts.refl s).event).sieve
@[simp] theorem State.event_zone (i t n l : Nat) : (s.event i t n l).zone = s.zone :=
  ((Posts.refl s).event).zone
@[simp] theorem State.event_flash (i t n l : Nat) : (s.event i t n l).flash = s.flash :=
  ((Posts.refl s).event).flash
@[simp] theorem State.event_trail (i t n l : Nat) : (s.event i t n l).trail = s.trail :=
  ((Posts.refl s).event).trail
@[simp] theorem State.event_boot (i t n l : Nat) : (s.event i t n l).boot = s.boot :=
  ((Posts.refl s).event).boot
@[simp] theorem State.event_glaze (i t n l : Nat) : (s.event i t n l).glaze = s.glaze :=
  ((Posts.refl s).event).glaze
@[simp] theorem State.event_power (i t n l : Nat) : (s.event i t n l).power = s.power :=
  ((Posts.refl s).event).power
@[simp] theorem State.event_fabric (i t n l : Nat) : (s.event i t n l).fabric = s.fabric :=
  ((Posts.refl s).event).fabric
@[simp] theorem State.event_fixity (i t n l : Nat) : (s.event i t n l).fixity = s.fixity :=
  ((Posts.refl s).event).fixity
@[simp] theorem State.event_dram (i t n l : Nat) : (s.event i t n l).dram = s.dram :=
  ((Posts.refl s).event).dram
@[simp] theorem State.event_wmk (i t n l : Nat) : (s.event i t n l).wmk = s.wmk :=
  ((Posts.refl s).event).wmk
@[simp] theorem State.event_cone (i t n l : Nat) : (s.event i t n l).cone = s.cone :=
  ((Posts.refl s).event).cone

@[simp] theorem State.unmask_pending (i t : Nat) : (s.unmask i t).pending = s.pending :=
  ((Posts.refl s).unmask).pending
@[simp] theorem State.unmask_now (i t : Nat) : (s.unmask i t).now = s.now :=
  ((Posts.refl s).unmask).now
@[simp] theorem State.unmask_regs (i t : Nat) : (s.unmask i t).regs = s.regs :=
  ((Posts.refl s).unmask).regs
@[simp] theorem State.unmask_fault (i t : Nat) : (s.unmask i t).fault = s.fault :=
  ((Posts.refl s).unmask).fault
@[simp] theorem State.unmask_klog (i t : Nat) : (s.unmask i t).klog = s.klog :=
  ((Posts.refl s).unmask).klog
@[simp] theorem State.unmask_sieve (i t : Nat) : (s.unmask i t).sieve = s.sieve :=
  ((Posts.refl s).unmask).sieve
@[simp] theorem State.unmask_zone (i t : Nat) : (s.unmask i t).zone = s.zone :=
  ((Posts.refl s).unmask).zone
@[simp] theorem State.unmask_flash (i t : Nat) : (s.unmask i t).flash = s.flash :=
  ((Posts.refl s).unmask).flash
@[simp] theorem State.unmask_trail (i t : Nat) : (s.unmask i t).trail = s.trail :=
  ((Posts.refl s).unmask).trail
@[simp] theorem State.unmask_boot (i t : Nat) : (s.unmask i t).boot = s.boot :=
  ((Posts.refl s).unmask).boot
@[simp] theorem State.unmask_glaze (i t : Nat) : (s.unmask i t).glaze = s.glaze :=
  ((Posts.refl s).unmask).glaze
@[simp] theorem State.unmask_power (i t : Nat) : (s.unmask i t).power = s.power :=
  ((Posts.refl s).unmask).power
@[simp] theorem State.unmask_fabric (i t : Nat) : (s.unmask i t).fabric = s.fabric :=
  ((Posts.refl s).unmask).fabric
@[simp] theorem State.unmask_fixity (i t : Nat) : (s.unmask i t).fixity = s.fixity :=
  ((Posts.refl s).unmask).fixity
@[simp] theorem State.unmask_dram (i t : Nat) : (s.unmask i t).dram = s.dram :=
  ((Posts.refl s).unmask).dram
@[simp] theorem State.unmask_wmk (i t : Nat) : (s.unmask i t).wmk = s.wmk :=
  ((Posts.refl s).unmask).wmk
@[simp] theorem State.unmask_cone (i t : Nat) : (s.unmask i t).cone = s.cone :=
  ((Posts.refl s).unmask).cone

@[simp] theorem State.vendorEvent_pending (i n l : Nat) : (s.vendorEvent i n l).pending = s.pending :=
  ((Posts.refl s).vendorEvent).pending
@[simp] theorem State.vendorEvent_now (i n l : Nat) : (s.vendorEvent i n l).now = s.now :=
  ((Posts.refl s).vendorEvent).now
@[simp] theorem State.vendorEvent_regs (i n l : Nat) : (s.vendorEvent i n l).regs = s.regs :=
  ((Posts.refl s).vendorEvent).regs
@[simp] theorem State.vendorEvent_fault (i n l : Nat) : (s.vendorEvent i n l).fault = s.fault :=
  ((Posts.refl s).vendorEvent).fault
@[simp] theorem State.vendorEvent_klog (i n l : Nat) : (s.vendorEvent i n l).klog = s.klog :=
  ((Posts.refl s).vendorEvent).klog
@[simp] theorem State.vendorEvent_sieve (i n l : Nat) : (s.vendorEvent i n l).sieve = s.sieve :=
  ((Posts.refl s).vendorEvent).sieve
@[simp] theorem State.vendorEvent_zone (i n l : Nat) : (s.vendorEvent i n l).zone = s.zone :=
  ((Posts.refl s).vendorEvent).zone
@[simp] theorem State.vendorEvent_flash (i n l : Nat) : (s.vendorEvent i n l).flash = s.flash :=
  ((Posts.refl s).vendorEvent).flash
@[simp] theorem State.vendorEvent_trail (i n l : Nat) : (s.vendorEvent i n l).trail = s.trail :=
  ((Posts.refl s).vendorEvent).trail
@[simp] theorem State.vendorEvent_boot (i n l : Nat) : (s.vendorEvent i n l).boot = s.boot :=
  ((Posts.refl s).vendorEvent).boot
@[simp] theorem State.vendorEvent_glaze (i n l : Nat) : (s.vendorEvent i n l).glaze = s.glaze :=
  ((Posts.refl s).vendorEvent).glaze
@[simp] theorem State.vendorEvent_power (i n l : Nat) : (s.vendorEvent i n l).power = s.power :=
  ((Posts.refl s).vendorEvent).power
@[simp] theorem State.vendorEvent_fabric (i n l : Nat) : (s.vendorEvent i n l).fabric = s.fabric :=
  ((Posts.refl s).vendorEvent).fabric
@[simp] theorem State.vendorEvent_fixity (i n l : Nat) : (s.vendorEvent i n l).fixity = s.fixity :=
  ((Posts.refl s).vendorEvent).fixity
@[simp] theorem State.vendorEvent_dram (i n l : Nat) : (s.vendorEvent i n l).dram = s.dram :=
  ((Posts.refl s).vendorEvent).dram
@[simp] theorem State.vendorEvent_wmk (i n l : Nat) : (s.vendorEvent i n l).wmk = s.wmk :=
  ((Posts.refl s).vendorEvent).wmk
@[simp] theorem State.vendorEvent_cone (i n l : Nat) : (s.vendorEvent i n l).cone = s.cone :=
  ((Posts.refl s).vendorEvent).cone

@[simp] theorem State.latch_pending (m : Msg) (c : Nat) : (s.latch m c).pending = s.pending :=
  ((Records.refl s).latch).pending
@[simp] theorem State.latch_now (m : Msg) (c : Nat) : (s.latch m c).now = s.now :=
  ((Records.refl s).latch).now
@[simp] theorem State.latch_freeCtr (m : Msg) (c : Nat) : (s.latch m c).freeCtr = s.freeCtr :=
  ((Records.refl s).latch).freeCtr
@[simp] theorem State.latch_out (m : Msg) (c : Nat) : (s.latch m c).out = s.out :=
  ((Records.refl s).latch).out
@[simp] theorem State.latch_cfg (m : Msg) (c : Nat) : (s.latch m c).cfg = s.cfg :=
  ((Records.refl s).latch).cfg
@[simp] theorem State.latch_cfgStaged (m : Msg) (c : Nat) : (s.latch m c).cfgStaged = s.cfgStaged :=
  ((Records.refl s).latch).cfgStaged
@[simp] theorem State.latch_intake (m : Msg) (c : Nat) : (s.latch m c).intake = s.intake :=
  ((Records.refl s).latch).intake
@[simp] theorem State.latch_sieve (m : Msg) (c : Nat) : (s.latch m c).sieve = s.sieve :=
  ((Records.refl s).latch).sieve
@[simp] theorem State.latch_hamper (m : Msg) (c : Nat) : (s.latch m c).hamper = s.hamper :=
  ((Records.refl s).latch).hamper
@[simp] theorem State.latch_zone (m : Msg) (c : Nat) : (s.latch m c).zone = s.zone :=
  ((Records.refl s).latch).zone
@[simp] theorem State.latch_flash (m : Msg) (c : Nat) : (s.latch m c).flash = s.flash :=
  ((Records.refl s).latch).flash
@[simp] theorem State.latch_trail (m : Msg) (c : Nat) : (s.latch m c).trail = s.trail :=
  ((Records.refl s).latch).trail
@[simp] theorem State.latch_tenant (m : Msg) (c : Nat) : (s.latch m c).tenant = s.tenant :=
  ((Records.refl s).latch).tenant
@[simp] theorem State.latch_boot (m : Msg) (c : Nat) : (s.latch m c).boot = s.boot :=
  ((Records.refl s).latch).boot
@[simp] theorem State.latch_glaze (m : Msg) (c : Nat) : (s.latch m c).glaze = s.glaze :=
  ((Records.refl s).latch).glaze
@[simp] theorem State.latch_power (m : Msg) (c : Nat) : (s.latch m c).power = s.power :=
  ((Records.refl s).latch).power
@[simp] theorem State.latch_fabric (m : Msg) (c : Nat) : (s.latch m c).fabric = s.fabric :=
  ((Records.refl s).latch).fabric
@[simp] theorem State.latch_fixity (m : Msg) (c : Nat) : (s.latch m c).fixity = s.fixity :=
  ((Records.refl s).latch).fixity
@[simp] theorem State.latch_dram (m : Msg) (c : Nat) : (s.latch m c).dram = s.dram :=
  ((Records.refl s).latch).dram
@[simp] theorem State.latch_pcie (m : Msg) (c : Nat) : (s.latch m c).pcie = s.pcie :=
  ((Records.refl s).latch).pcie
@[simp] theorem State.latch_wmk (m : Msg) (c : Nat) : (s.latch m c).wmk = s.wmk :=
  ((Records.refl s).latch).wmk
@[simp] theorem State.latch_cone (m : Msg) (c : Nat) : (s.latch m c).cone = s.cone :=
  ((Records.refl s).latch).cone
@[simp] theorem State.latch_mgmt (m : Msg) (c : Nat) : (s.latch m c).mgmt = s.mgmt :=
  ((Records.refl s).latch).mgmt

@[simp] theorem State.writeRec_pending (r : Rec) : (s.writeRec r).pending = s.pending :=
  ((Records.refl s).writeRec).pending
@[simp] theorem State.writeRec_now (r : Rec) : (s.writeRec r).now = s.now :=
  ((Records.refl s).writeRec).now
@[simp] theorem State.writeRec_freeCtr (r : Rec) : (s.writeRec r).freeCtr = s.freeCtr :=
  ((Records.refl s).writeRec).freeCtr
@[simp] theorem State.writeRec_out (r : Rec) : (s.writeRec r).out = s.out :=
  ((Records.refl s).writeRec).out
@[simp] theorem State.writeRec_cfg (r : Rec) : (s.writeRec r).cfg = s.cfg :=
  ((Records.refl s).writeRec).cfg
@[simp] theorem State.writeRec_cfgStaged (r : Rec) : (s.writeRec r).cfgStaged = s.cfgStaged :=
  ((Records.refl s).writeRec).cfgStaged
@[simp] theorem State.writeRec_intake (r : Rec) : (s.writeRec r).intake = s.intake :=
  ((Records.refl s).writeRec).intake
@[simp] theorem State.writeRec_sieve (r : Rec) : (s.writeRec r).sieve = s.sieve :=
  ((Records.refl s).writeRec).sieve
@[simp] theorem State.writeRec_hamper (r : Rec) : (s.writeRec r).hamper = s.hamper :=
  ((Records.refl s).writeRec).hamper
@[simp] theorem State.writeRec_zone (r : Rec) : (s.writeRec r).zone = s.zone :=
  ((Records.refl s).writeRec).zone
@[simp] theorem State.writeRec_flash (r : Rec) : (s.writeRec r).flash = s.flash :=
  ((Records.refl s).writeRec).flash
@[simp] theorem State.writeRec_trail (r : Rec) : (s.writeRec r).trail = s.trail :=
  ((Records.refl s).writeRec).trail
@[simp] theorem State.writeRec_tenant (r : Rec) : (s.writeRec r).tenant = s.tenant :=
  ((Records.refl s).writeRec).tenant
@[simp] theorem State.writeRec_boot (r : Rec) : (s.writeRec r).boot = s.boot :=
  ((Records.refl s).writeRec).boot
@[simp] theorem State.writeRec_glaze (r : Rec) : (s.writeRec r).glaze = s.glaze :=
  ((Records.refl s).writeRec).glaze
@[simp] theorem State.writeRec_power (r : Rec) : (s.writeRec r).power = s.power :=
  ((Records.refl s).writeRec).power
@[simp] theorem State.writeRec_fabric (r : Rec) : (s.writeRec r).fabric = s.fabric :=
  ((Records.refl s).writeRec).fabric
@[simp] theorem State.writeRec_fixity (r : Rec) : (s.writeRec r).fixity = s.fixity :=
  ((Records.refl s).writeRec).fixity
@[simp] theorem State.writeRec_dram (r : Rec) : (s.writeRec r).dram = s.dram :=
  ((Records.refl s).writeRec).dram
@[simp] theorem State.writeRec_pcie (r : Rec) : (s.writeRec r).pcie = s.pcie :=
  ((Records.refl s).writeRec).pcie
@[simp] theorem State.writeRec_wmk (r : Rec) : (s.writeRec r).wmk = s.wmk :=
  ((Records.refl s).writeRec).wmk
@[simp] theorem State.writeRec_cone (r : Rec) : (s.writeRec r).cone = s.cone :=
  ((Records.refl s).writeRec).cone
@[simp] theorem State.writeRec_mgmt (r : Rec) : (s.writeRec r).mgmt = s.mgmt :=
  ((Records.refl s).writeRec).mgmt

@[simp] theorem State.log_pending (c v o : Nat) (b : List Nat) : (s.log c v o b).pending = s.pending :=
  ((Records.refl s).log).pending
@[simp] theorem State.log_now (c v o : Nat) (b : List Nat) : (s.log c v o b).now = s.now :=
  ((Records.refl s).log).now
@[simp] theorem State.log_freeCtr (c v o : Nat) (b : List Nat) : (s.log c v o b).freeCtr = s.freeCtr :=
  ((Records.refl s).log).freeCtr
@[simp] theorem State.log_out (c v o : Nat) (b : List Nat) : (s.log c v o b).out = s.out :=
  ((Records.refl s).log).out
@[simp] theorem State.log_cfg (c v o : Nat) (b : List Nat) : (s.log c v o b).cfg = s.cfg :=
  ((Records.refl s).log).cfg
@[simp] theorem State.log_cfgStaged (c v o : Nat) (b : List Nat) : (s.log c v o b).cfgStaged = s.cfgStaged :=
  ((Records.refl s).log).cfgStaged
@[simp] theorem State.log_intake (c v o : Nat) (b : List Nat) : (s.log c v o b).intake = s.intake :=
  ((Records.refl s).log).intake
@[simp] theorem State.log_sieve (c v o : Nat) (b : List Nat) : (s.log c v o b).sieve = s.sieve :=
  ((Records.refl s).log).sieve
@[simp] theorem State.log_hamper (c v o : Nat) (b : List Nat) : (s.log c v o b).hamper = s.hamper :=
  ((Records.refl s).log).hamper
@[simp] theorem State.log_zone (c v o : Nat) (b : List Nat) : (s.log c v o b).zone = s.zone :=
  ((Records.refl s).log).zone
@[simp] theorem State.log_flash (c v o : Nat) (b : List Nat) : (s.log c v o b).flash = s.flash :=
  ((Records.refl s).log).flash
@[simp] theorem State.log_trail (c v o : Nat) (b : List Nat) : (s.log c v o b).trail = s.trail :=
  ((Records.refl s).log).trail
@[simp] theorem State.log_tenant (c v o : Nat) (b : List Nat) : (s.log c v o b).tenant = s.tenant :=
  ((Records.refl s).log).tenant
@[simp] theorem State.log_boot (c v o : Nat) (b : List Nat) : (s.log c v o b).boot = s.boot :=
  ((Records.refl s).log).boot
@[simp] theorem State.log_glaze (c v o : Nat) (b : List Nat) : (s.log c v o b).glaze = s.glaze :=
  ((Records.refl s).log).glaze
@[simp] theorem State.log_power (c v o : Nat) (b : List Nat) : (s.log c v o b).power = s.power :=
  ((Records.refl s).log).power
@[simp] theorem State.log_fabric (c v o : Nat) (b : List Nat) : (s.log c v o b).fabric = s.fabric :=
  ((Records.refl s).log).fabric
@[simp] theorem State.log_fixity (c v o : Nat) (b : List Nat) : (s.log c v o b).fixity = s.fixity :=
  ((Records.refl s).log).fixity
@[simp] theorem State.log_dram (c v o : Nat) (b : List Nat) : (s.log c v o b).dram = s.dram :=
  ((Records.refl s).log).dram
@[simp] theorem State.log_pcie (c v o : Nat) (b : List Nat) : (s.log c v o b).pcie = s.pcie :=
  ((Records.refl s).log).pcie
@[simp] theorem State.log_wmk (c v o : Nat) (b : List Nat) : (s.log c v o b).wmk = s.wmk :=
  ((Records.refl s).log).wmk
@[simp] theorem State.log_cone (c v o : Nat) (b : List Nat) : (s.log c v o b).cone = s.cone :=
  ((Records.refl s).log).cone
@[simp] theorem State.log_mgmt (c v o : Nat) (b : List Nat) : (s.log c v o b).mgmt = s.mgmt :=
  ((Records.refl s).log).mgmt

@[simp] theorem State.accept_pending (m : Msg) (a b : Bool) (n : Nat) (h : m.cls < 3) : (s.accept m a b n).pending = s.pending :=
  ((Records.refl s).accept h).pending
@[simp] theorem State.accept_now (m : Msg) (a b : Bool) (n : Nat) (h : m.cls < 3) : (s.accept m a b n).now = s.now :=
  ((Records.refl s).accept h).now
@[simp] theorem State.accept_freeCtr (m : Msg) (a b : Bool) (n : Nat) (h : m.cls < 3) : (s.accept m a b n).freeCtr = s.freeCtr :=
  ((Records.refl s).accept h).freeCtr
@[simp] theorem State.accept_out (m : Msg) (a b : Bool) (n : Nat) (h : m.cls < 3) : (s.accept m a b n).out = s.out :=
  ((Records.refl s).accept h).out
@[simp] theorem State.accept_cfg (m : Msg) (a b : Bool) (n : Nat) (h : m.cls < 3) : (s.accept m a b n).cfg = s.cfg :=
  ((Records.refl s).accept h).cfg
@[simp] theorem State.accept_cfgStaged (m : Msg) (a b : Bool) (n : Nat) (h : m.cls < 3) : (s.accept m a b n).cfgStaged = s.cfgStaged :=
  ((Records.refl s).accept h).cfgStaged
@[simp] theorem State.accept_intake (m : Msg) (a b : Bool) (n : Nat) (h : m.cls < 3) : (s.accept m a b n).intake = s.intake :=
  ((Records.refl s).accept h).intake
@[simp] theorem State.accept_sieve (m : Msg) (a b : Bool) (n : Nat) (h : m.cls < 3) : (s.accept m a b n).sieve = s.sieve :=
  ((Records.refl s).accept h).sieve
@[simp] theorem State.accept_hamper (m : Msg) (a b : Bool) (n : Nat) (h : m.cls < 3) : (s.accept m a b n).hamper = s.hamper :=
  ((Records.refl s).accept h).hamper
@[simp] theorem State.accept_zone (m : Msg) (a b : Bool) (n : Nat) (h : m.cls < 3) : (s.accept m a b n).zone = s.zone :=
  ((Records.refl s).accept h).zone
@[simp] theorem State.accept_flash (m : Msg) (a b : Bool) (n : Nat) (h : m.cls < 3) : (s.accept m a b n).flash = s.flash :=
  ((Records.refl s).accept h).flash
@[simp] theorem State.accept_trail (m : Msg) (a b : Bool) (n : Nat) (h : m.cls < 3) : (s.accept m a b n).trail = s.trail :=
  ((Records.refl s).accept h).trail
@[simp] theorem State.accept_tenant (m : Msg) (a b : Bool) (n : Nat) (h : m.cls < 3) : (s.accept m a b n).tenant = s.tenant :=
  ((Records.refl s).accept h).tenant
@[simp] theorem State.accept_boot (m : Msg) (a b : Bool) (n : Nat) (h : m.cls < 3) : (s.accept m a b n).boot = s.boot :=
  ((Records.refl s).accept h).boot
@[simp] theorem State.accept_glaze (m : Msg) (a b : Bool) (n : Nat) (h : m.cls < 3) : (s.accept m a b n).glaze = s.glaze :=
  ((Records.refl s).accept h).glaze
@[simp] theorem State.accept_power (m : Msg) (a b : Bool) (n : Nat) (h : m.cls < 3) : (s.accept m a b n).power = s.power :=
  ((Records.refl s).accept h).power
@[simp] theorem State.accept_fabric (m : Msg) (a b : Bool) (n : Nat) (h : m.cls < 3) : (s.accept m a b n).fabric = s.fabric :=
  ((Records.refl s).accept h).fabric
@[simp] theorem State.accept_fixity (m : Msg) (a b : Bool) (n : Nat) (h : m.cls < 3) : (s.accept m a b n).fixity = s.fixity :=
  ((Records.refl s).accept h).fixity
@[simp] theorem State.accept_dram (m : Msg) (a b : Bool) (n : Nat) (h : m.cls < 3) : (s.accept m a b n).dram = s.dram :=
  ((Records.refl s).accept h).dram
@[simp] theorem State.accept_pcie (m : Msg) (a b : Bool) (n : Nat) (h : m.cls < 3) : (s.accept m a b n).pcie = s.pcie :=
  ((Records.refl s).accept h).pcie
@[simp] theorem State.accept_wmk (m : Msg) (a b : Bool) (n : Nat) (h : m.cls < 3) : (s.accept m a b n).wmk = s.wmk :=
  ((Records.refl s).accept h).wmk
@[simp] theorem State.accept_cone (m : Msg) (a b : Bool) (n : Nat) (h : m.cls < 3) : (s.accept m a b n).cone = s.cone :=
  ((Records.refl s).accept h).cone
@[simp] theorem State.accept_mgmt (m : Msg) (a b : Bool) (n : Nat) (h : m.cls < 3) : (s.accept m a b n).mgmt = s.mgmt :=
  ((Records.refl s).accept h).mgmt

@[simp] theorem State.fltMsg_pending (m : Msg) (a b : Bool) (h : m.cls < 3) : (s.fltMsg m a b).pending = s.pending :=
  ((Records.refl s).fltMsg h).pending
@[simp] theorem State.fltMsg_now (m : Msg) (a b : Bool) (h : m.cls < 3) : (s.fltMsg m a b).now = s.now :=
  ((Records.refl s).fltMsg h).now
@[simp] theorem State.fltMsg_freeCtr (m : Msg) (a b : Bool) (h : m.cls < 3) : (s.fltMsg m a b).freeCtr = s.freeCtr :=
  ((Records.refl s).fltMsg h).freeCtr
@[simp] theorem State.fltMsg_out (m : Msg) (a b : Bool) (h : m.cls < 3) : (s.fltMsg m a b).out = s.out :=
  ((Records.refl s).fltMsg h).out
@[simp] theorem State.fltMsg_cfg (m : Msg) (a b : Bool) (h : m.cls < 3) : (s.fltMsg m a b).cfg = s.cfg :=
  ((Records.refl s).fltMsg h).cfg
@[simp] theorem State.fltMsg_cfgStaged (m : Msg) (a b : Bool) (h : m.cls < 3) : (s.fltMsg m a b).cfgStaged = s.cfgStaged :=
  ((Records.refl s).fltMsg h).cfgStaged
@[simp] theorem State.fltMsg_intake (m : Msg) (a b : Bool) (h : m.cls < 3) : (s.fltMsg m a b).intake = s.intake :=
  ((Records.refl s).fltMsg h).intake
@[simp] theorem State.fltMsg_sieve (m : Msg) (a b : Bool) (h : m.cls < 3) : (s.fltMsg m a b).sieve = s.sieve :=
  ((Records.refl s).fltMsg h).sieve
@[simp] theorem State.fltMsg_hamper (m : Msg) (a b : Bool) (h : m.cls < 3) : (s.fltMsg m a b).hamper = s.hamper :=
  ((Records.refl s).fltMsg h).hamper
@[simp] theorem State.fltMsg_zone (m : Msg) (a b : Bool) (h : m.cls < 3) : (s.fltMsg m a b).zone = s.zone :=
  ((Records.refl s).fltMsg h).zone
@[simp] theorem State.fltMsg_flash (m : Msg) (a b : Bool) (h : m.cls < 3) : (s.fltMsg m a b).flash = s.flash :=
  ((Records.refl s).fltMsg h).flash
@[simp] theorem State.fltMsg_trail (m : Msg) (a b : Bool) (h : m.cls < 3) : (s.fltMsg m a b).trail = s.trail :=
  ((Records.refl s).fltMsg h).trail
@[simp] theorem State.fltMsg_tenant (m : Msg) (a b : Bool) (h : m.cls < 3) : (s.fltMsg m a b).tenant = s.tenant :=
  ((Records.refl s).fltMsg h).tenant
@[simp] theorem State.fltMsg_boot (m : Msg) (a b : Bool) (h : m.cls < 3) : (s.fltMsg m a b).boot = s.boot :=
  ((Records.refl s).fltMsg h).boot
@[simp] theorem State.fltMsg_glaze (m : Msg) (a b : Bool) (h : m.cls < 3) : (s.fltMsg m a b).glaze = s.glaze :=
  ((Records.refl s).fltMsg h).glaze
@[simp] theorem State.fltMsg_power (m : Msg) (a b : Bool) (h : m.cls < 3) : (s.fltMsg m a b).power = s.power :=
  ((Records.refl s).fltMsg h).power
@[simp] theorem State.fltMsg_fabric (m : Msg) (a b : Bool) (h : m.cls < 3) : (s.fltMsg m a b).fabric = s.fabric :=
  ((Records.refl s).fltMsg h).fabric
@[simp] theorem State.fltMsg_fixity (m : Msg) (a b : Bool) (h : m.cls < 3) : (s.fltMsg m a b).fixity = s.fixity :=
  ((Records.refl s).fltMsg h).fixity
@[simp] theorem State.fltMsg_dram (m : Msg) (a b : Bool) (h : m.cls < 3) : (s.fltMsg m a b).dram = s.dram :=
  ((Records.refl s).fltMsg h).dram
@[simp] theorem State.fltMsg_pcie (m : Msg) (a b : Bool) (h : m.cls < 3) : (s.fltMsg m a b).pcie = s.pcie :=
  ((Records.refl s).fltMsg h).pcie
@[simp] theorem State.fltMsg_wmk (m : Msg) (a b : Bool) (h : m.cls < 3) : (s.fltMsg m a b).wmk = s.wmk :=
  ((Records.refl s).fltMsg h).wmk
@[simp] theorem State.fltMsg_cone (m : Msg) (a b : Bool) (h : m.cls < 3) : (s.fltMsg m a b).cone = s.cone :=
  ((Records.refl s).fltMsg h).cone
@[simp] theorem State.fltMsg_mgmt (m : Msg) (a b : Bool) (h : m.cls < 3) : (s.fltMsg m a b).mgmt = s.mgmt :=
  ((Records.refl s).fltMsg h).mgmt

@[simp] theorem State.report_pending (c k a l : Nat) (h : l < 3) : (s.report c k a l).pending = s.pending :=
  ((Records.refl s).report h).pending
@[simp] theorem State.report_now (c k a l : Nat) (h : l < 3) : (s.report c k a l).now = s.now :=
  ((Records.refl s).report h).now
@[simp] theorem State.report_freeCtr (c k a l : Nat) (h : l < 3) : (s.report c k a l).freeCtr = s.freeCtr :=
  ((Records.refl s).report h).freeCtr
@[simp] theorem State.report_out (c k a l : Nat) (h : l < 3) : (s.report c k a l).out = s.out :=
  ((Records.refl s).report h).out
@[simp] theorem State.report_cfg (c k a l : Nat) (h : l < 3) : (s.report c k a l).cfg = s.cfg :=
  ((Records.refl s).report h).cfg
@[simp] theorem State.report_cfgStaged (c k a l : Nat) (h : l < 3) : (s.report c k a l).cfgStaged = s.cfgStaged :=
  ((Records.refl s).report h).cfgStaged
@[simp] theorem State.report_intake (c k a l : Nat) (h : l < 3) : (s.report c k a l).intake = s.intake :=
  ((Records.refl s).report h).intake
@[simp] theorem State.report_sieve (c k a l : Nat) (h : l < 3) : (s.report c k a l).sieve = s.sieve :=
  ((Records.refl s).report h).sieve
@[simp] theorem State.report_hamper (c k a l : Nat) (h : l < 3) : (s.report c k a l).hamper = s.hamper :=
  ((Records.refl s).report h).hamper
@[simp] theorem State.report_zone (c k a l : Nat) (h : l < 3) : (s.report c k a l).zone = s.zone :=
  ((Records.refl s).report h).zone
@[simp] theorem State.report_flash (c k a l : Nat) (h : l < 3) : (s.report c k a l).flash = s.flash :=
  ((Records.refl s).report h).flash
@[simp] theorem State.report_trail (c k a l : Nat) (h : l < 3) : (s.report c k a l).trail = s.trail :=
  ((Records.refl s).report h).trail
@[simp] theorem State.report_tenant (c k a l : Nat) (h : l < 3) : (s.report c k a l).tenant = s.tenant :=
  ((Records.refl s).report h).tenant
@[simp] theorem State.report_boot (c k a l : Nat) (h : l < 3) : (s.report c k a l).boot = s.boot :=
  ((Records.refl s).report h).boot
@[simp] theorem State.report_glaze (c k a l : Nat) (h : l < 3) : (s.report c k a l).glaze = s.glaze :=
  ((Records.refl s).report h).glaze
@[simp] theorem State.report_power (c k a l : Nat) (h : l < 3) : (s.report c k a l).power = s.power :=
  ((Records.refl s).report h).power
@[simp] theorem State.report_fabric (c k a l : Nat) (h : l < 3) : (s.report c k a l).fabric = s.fabric :=
  ((Records.refl s).report h).fabric
@[simp] theorem State.report_fixity (c k a l : Nat) (h : l < 3) : (s.report c k a l).fixity = s.fixity :=
  ((Records.refl s).report h).fixity
@[simp] theorem State.report_dram (c k a l : Nat) (h : l < 3) : (s.report c k a l).dram = s.dram :=
  ((Records.refl s).report h).dram
@[simp] theorem State.report_pcie (c k a l : Nat) (h : l < 3) : (s.report c k a l).pcie = s.pcie :=
  ((Records.refl s).report h).pcie
@[simp] theorem State.report_wmk (c k a l : Nat) (h : l < 3) : (s.report c k a l).wmk = s.wmk :=
  ((Records.refl s).report h).wmk
@[simp] theorem State.report_cone (c k a l : Nat) (h : l < 3) : (s.report c k a l).cone = s.cone :=
  ((Records.refl s).report h).cone
@[simp] theorem State.report_mgmt (c k a l : Nat) (h : l < 3) : (s.report c k a l).mgmt = s.mgmt :=
  ((Records.refl s).report h).mgmt

@[simp] theorem State.reportTransient_pending (c k a : Nat) : (s.reportTransient c k a).pending = s.pending :=
  ((Records.refl s).reportTransient).pending
@[simp] theorem State.reportTransient_now (c k a : Nat) : (s.reportTransient c k a).now = s.now :=
  ((Records.refl s).reportTransient).now
@[simp] theorem State.reportTransient_freeCtr (c k a : Nat) : (s.reportTransient c k a).freeCtr = s.freeCtr :=
  ((Records.refl s).reportTransient).freeCtr
@[simp] theorem State.reportTransient_out (c k a : Nat) : (s.reportTransient c k a).out = s.out :=
  ((Records.refl s).reportTransient).out
@[simp] theorem State.reportTransient_cfg (c k a : Nat) : (s.reportTransient c k a).cfg = s.cfg :=
  ((Records.refl s).reportTransient).cfg
@[simp] theorem State.reportTransient_cfgStaged (c k a : Nat) : (s.reportTransient c k a).cfgStaged = s.cfgStaged :=
  ((Records.refl s).reportTransient).cfgStaged
@[simp] theorem State.reportTransient_intake (c k a : Nat) : (s.reportTransient c k a).intake = s.intake :=
  ((Records.refl s).reportTransient).intake
@[simp] theorem State.reportTransient_sieve (c k a : Nat) : (s.reportTransient c k a).sieve = s.sieve :=
  ((Records.refl s).reportTransient).sieve
@[simp] theorem State.reportTransient_hamper (c k a : Nat) : (s.reportTransient c k a).hamper = s.hamper :=
  ((Records.refl s).reportTransient).hamper
@[simp] theorem State.reportTransient_zone (c k a : Nat) : (s.reportTransient c k a).zone = s.zone :=
  ((Records.refl s).reportTransient).zone
@[simp] theorem State.reportTransient_flash (c k a : Nat) : (s.reportTransient c k a).flash = s.flash :=
  ((Records.refl s).reportTransient).flash
@[simp] theorem State.reportTransient_trail (c k a : Nat) : (s.reportTransient c k a).trail = s.trail :=
  ((Records.refl s).reportTransient).trail
@[simp] theorem State.reportTransient_tenant (c k a : Nat) : (s.reportTransient c k a).tenant = s.tenant :=
  ((Records.refl s).reportTransient).tenant
@[simp] theorem State.reportTransient_boot (c k a : Nat) : (s.reportTransient c k a).boot = s.boot :=
  ((Records.refl s).reportTransient).boot
@[simp] theorem State.reportTransient_glaze (c k a : Nat) : (s.reportTransient c k a).glaze = s.glaze :=
  ((Records.refl s).reportTransient).glaze
@[simp] theorem State.reportTransient_power (c k a : Nat) : (s.reportTransient c k a).power = s.power :=
  ((Records.refl s).reportTransient).power
@[simp] theorem State.reportTransient_fabric (c k a : Nat) : (s.reportTransient c k a).fabric = s.fabric :=
  ((Records.refl s).reportTransient).fabric
@[simp] theorem State.reportTransient_fixity (c k a : Nat) : (s.reportTransient c k a).fixity = s.fixity :=
  ((Records.refl s).reportTransient).fixity
@[simp] theorem State.reportTransient_dram (c k a : Nat) : (s.reportTransient c k a).dram = s.dram :=
  ((Records.refl s).reportTransient).dram
@[simp] theorem State.reportTransient_pcie (c k a : Nat) : (s.reportTransient c k a).pcie = s.pcie :=
  ((Records.refl s).reportTransient).pcie
@[simp] theorem State.reportTransient_wmk (c k a : Nat) : (s.reportTransient c k a).wmk = s.wmk :=
  ((Records.refl s).reportTransient).wmk
@[simp] theorem State.reportTransient_cone (c k a : Nat) : (s.reportTransient c k a).cone = s.cone :=
  ((Records.refl s).reportTransient).cone
@[simp] theorem State.reportTransient_mgmt (c k a : Nat) : (s.reportTransient c k a).mgmt = s.mgmt :=
  ((Records.refl s).reportTransient).mgmt

@[simp] theorem State.emit_tenant (o : Out) : (s.emit o).tenant = s.tenant := by
  unfold State.emit; split
  · rfl
  · split <;> rfl

@[simp] theorem State.bumpBy_pending (k n : Nat) : (s.bumpBy k n).pending = s.pending := rfl
@[simp] theorem State.bumpBy_now (k n : Nat) : (s.bumpBy k n).now = s.now := rfl
@[simp] theorem State.bumpBy_freeCtr (k n : Nat) : (s.bumpBy k n).freeCtr = s.freeCtr := rfl
@[simp] theorem State.bumpBy_out (k n : Nat) : (s.bumpBy k n).out = s.out := rfl
@[simp] theorem State.bumpBy_cfg (k n : Nat) : (s.bumpBy k n).cfg = s.cfg := rfl
@[simp] theorem State.bumpBy_cfgStaged (k n : Nat) : (s.bumpBy k n).cfgStaged = s.cfgStaged := rfl
@[simp] theorem State.bumpBy_fault (k n : Nat) : (s.bumpBy k n).fault = s.fault := rfl
@[simp] theorem State.bumpBy_klog (k n : Nat) : (s.bumpBy k n).klog = s.klog := rfl
@[simp] theorem State.bumpBy_intake (k n : Nat) : (s.bumpBy k n).intake = s.intake := rfl
@[simp] theorem State.bumpBy_sieve (k n : Nat) : (s.bumpBy k n).sieve = s.sieve := rfl
@[simp] theorem State.bumpBy_hamper (k n : Nat) : (s.bumpBy k n).hamper = s.hamper := rfl
@[simp] theorem State.bumpBy_zone (k n : Nat) : (s.bumpBy k n).zone = s.zone := rfl
@[simp] theorem State.bumpBy_flash (k n : Nat) : (s.bumpBy k n).flash = s.flash := rfl
@[simp] theorem State.bumpBy_trail (k n : Nat) : (s.bumpBy k n).trail = s.trail := rfl
@[simp] theorem State.bumpBy_tenant (k n : Nat) : (s.bumpBy k n).tenant = s.tenant := rfl
@[simp] theorem State.bumpBy_boot (k n : Nat) : (s.bumpBy k n).boot = s.boot := rfl
@[simp] theorem State.bumpBy_glaze (k n : Nat) : (s.bumpBy k n).glaze = s.glaze := rfl
@[simp] theorem State.bumpBy_power (k n : Nat) : (s.bumpBy k n).power = s.power := rfl
@[simp] theorem State.bumpBy_fabric (k n : Nat) : (s.bumpBy k n).fabric = s.fabric := rfl
@[simp] theorem State.bumpBy_fixity (k n : Nat) : (s.bumpBy k n).fixity = s.fixity := rfl
@[simp] theorem State.bumpBy_dram (k n : Nat) : (s.bumpBy k n).dram = s.dram := rfl
@[simp] theorem State.bumpBy_pcie (k n : Nat) : (s.bumpBy k n).pcie = s.pcie := rfl
@[simp] theorem State.bumpBy_wmk (k n : Nat) : (s.bumpBy k n).wmk = s.wmk := rfl
@[simp] theorem State.bumpBy_cone (k n : Nat) : (s.bumpBy k n).cone = s.cone := rfl
@[simp] theorem State.bumpBy_mgmt (k n : Nat) : (s.bumpBy k n).mgmt = s.mgmt := rfl

@[simp] theorem State.bump_pending (k : Nat) : (s.bump k).pending = s.pending := rfl
@[simp] theorem State.bump_now (k : Nat) : (s.bump k).now = s.now := rfl
@[simp] theorem State.bump_freeCtr (k : Nat) : (s.bump k).freeCtr = s.freeCtr := rfl
@[simp] theorem State.bump_out (k : Nat) : (s.bump k).out = s.out := rfl
@[simp] theorem State.bump_cfg (k : Nat) : (s.bump k).cfg = s.cfg := rfl
@[simp] theorem State.bump_cfgStaged (k : Nat) : (s.bump k).cfgStaged = s.cfgStaged := rfl
@[simp] theorem State.bump_fault (k : Nat) : (s.bump k).fault = s.fault := rfl
@[simp] theorem State.bump_klog (k : Nat) : (s.bump k).klog = s.klog := rfl
@[simp] theorem State.bump_intake (k : Nat) : (s.bump k).intake = s.intake := rfl
@[simp] theorem State.bump_sieve (k : Nat) : (s.bump k).sieve = s.sieve := rfl
@[simp] theorem State.bump_hamper (k : Nat) : (s.bump k).hamper = s.hamper := rfl
@[simp] theorem State.bump_zone (k : Nat) : (s.bump k).zone = s.zone := rfl
@[simp] theorem State.bump_flash (k : Nat) : (s.bump k).flash = s.flash := rfl
@[simp] theorem State.bump_trail (k : Nat) : (s.bump k).trail = s.trail := rfl
@[simp] theorem State.bump_tenant (k : Nat) : (s.bump k).tenant = s.tenant := rfl
@[simp] theorem State.bump_boot (k : Nat) : (s.bump k).boot = s.boot := rfl
@[simp] theorem State.bump_glaze (k : Nat) : (s.bump k).glaze = s.glaze := rfl
@[simp] theorem State.bump_power (k : Nat) : (s.bump k).power = s.power := rfl
@[simp] theorem State.bump_fabric (k : Nat) : (s.bump k).fabric = s.fabric := rfl
@[simp] theorem State.bump_fixity (k : Nat) : (s.bump k).fixity = s.fixity := rfl
@[simp] theorem State.bump_dram (k : Nat) : (s.bump k).dram = s.dram := rfl
@[simp] theorem State.bump_pcie (k : Nat) : (s.bump k).pcie = s.pcie := rfl
@[simp] theorem State.bump_wmk (k : Nat) : (s.bump k).wmk = s.wmk := rfl
@[simp] theorem State.bump_cone (k : Nat) : (s.bump k).cone = s.cone := rfl
@[simp] theorem State.bump_mgmt (k : Nat) : (s.bump k).mgmt = s.mgmt := rfl

@[simp] theorem State.trailRec_pending (r : TrailRec) : (s.trailRec r).pending = s.pending := rfl
@[simp] theorem State.trailRec_now (r : TrailRec) : (s.trailRec r).now = s.now := rfl
@[simp] theorem State.trailRec_freeCtr (r : TrailRec) : (s.trailRec r).freeCtr = s.freeCtr := rfl
@[simp] theorem State.trailRec_out (r : TrailRec) : (s.trailRec r).out = s.out := rfl
@[simp] theorem State.trailRec_regs (r : TrailRec) : (s.trailRec r).regs = s.regs := rfl
@[simp] theorem State.trailRec_cfg (r : TrailRec) : (s.trailRec r).cfg = s.cfg := rfl
@[simp] theorem State.trailRec_cfgStaged (r : TrailRec) : (s.trailRec r).cfgStaged = s.cfgStaged := rfl
@[simp] theorem State.trailRec_fault (r : TrailRec) : (s.trailRec r).fault = s.fault := rfl
@[simp] theorem State.trailRec_klog (r : TrailRec) : (s.trailRec r).klog = s.klog := rfl
@[simp] theorem State.trailRec_intake (r : TrailRec) : (s.trailRec r).intake = s.intake := rfl
@[simp] theorem State.trailRec_sieve (r : TrailRec) : (s.trailRec r).sieve = s.sieve := rfl
@[simp] theorem State.trailRec_hamper (r : TrailRec) : (s.trailRec r).hamper = s.hamper := rfl
@[simp] theorem State.trailRec_zone (r : TrailRec) : (s.trailRec r).zone = s.zone := rfl
@[simp] theorem State.trailRec_flash (r : TrailRec) : (s.trailRec r).flash = s.flash := rfl
@[simp] theorem State.trailRec_tenant (r : TrailRec) : (s.trailRec r).tenant = s.tenant := rfl
@[simp] theorem State.trailRec_boot (r : TrailRec) : (s.trailRec r).boot = s.boot := rfl
@[simp] theorem State.trailRec_glaze (r : TrailRec) : (s.trailRec r).glaze = s.glaze := rfl
@[simp] theorem State.trailRec_power (r : TrailRec) : (s.trailRec r).power = s.power := rfl
@[simp] theorem State.trailRec_fabric (r : TrailRec) : (s.trailRec r).fabric = s.fabric := rfl
@[simp] theorem State.trailRec_fixity (r : TrailRec) : (s.trailRec r).fixity = s.fixity := rfl
@[simp] theorem State.trailRec_dram (r : TrailRec) : (s.trailRec r).dram = s.dram := rfl
@[simp] theorem State.trailRec_pcie (r : TrailRec) : (s.trailRec r).pcie = s.pcie := rfl
@[simp] theorem State.trailRec_wmk (r : TrailRec) : (s.trailRec r).wmk = s.wmk := rfl
@[simp] theorem State.trailRec_cone (r : TrailRec) : (s.trailRec r).cone = s.cone := rfl
@[simp] theorem State.trailRec_mgmt (r : TrailRec) : (s.trailRec r).mgmt = s.mgmt := rfl

/-- A reply is no write to the host's memory: it always goes out. -/
theorem State.emit_reply (p : Nat) (w : List Nat) : s.emit (.reply p w) = { s with out := .reply p w :: s.out } := by
  simp [State.emit, Out.writer, State.reaches]

/-! ### Rows that an instance, the manager or the mailbox gives, where they are served -/

theorem adminAs_on {i cid : Nat} {o : Opc} {f} {s : State} (h : s.takes i cid = true) :
    s.adminAs i cid o f = .next (f (s.taken i cid o)) := by
  simp only [State.takes, Bool.and_eq_true, Bool.not_eq_true'] at h
  simp [State.adminAs, h, State.taken]
theorem admin_on {i cid : Nat} {f} {s : State} (h : s.takes i cid = true) : s.admin i cid f = .next (f (s.taken i cid)) :=
  adminAs_on h
theorem adminDo_on {i cid : Nat} {f} {s : State} (h : s.takes i cid = true) :
    s.adminDo i cid f = .next (adminAnswer i cid (f (s.taken i cid))) :=
  admin_on h
theorem adminWaiting_on {i cid : Nat} {key : List Nat} {f} {s : State} (h : s.takes i cid = true) :
    s.adminWaiting i cid key f = .next (f (s.taken i cid)) := by
  have hc : s.cidInFlight i 0 cid = false := by simp [State.takes] at h; exact h.2
  have hf : s.findTag i 0 cid = none := by
    unfold State.findTag
    unfold State.cidInFlight at hc
    rw [List.find?_eq_none.2 (fun x hx => ?_)]
    · rfl
    · rw [List.any_eq_false] at hc
      exact hc x hx
  have hw : s.adminWaits i cid key = false := by simp [State.adminWaits, hf]
  rw [State.adminWaiting, hw, ← admin_on h]
  rfl
theorem adminWaiting_again {i cid : Nat} {key : List Nat} {f} {s : State} (h : s.adminWaits i cid key = true) :
    s.adminWaiting i cid key f = .next (f s) := by
  simp [State.adminWaiting, h]
theorem managerDo_on {cid : Nat} {f} {s : State} (h : s.takes 0 cid = true) :
    s.managerDo 0 cid f = .next (adminAnswer 0 cid (f (s.taken 0 cid))) := by
  rw [State.managerDo, adminDo_on h]; simp
@[simp] theorem adminAnswer_refused {i cid st : Nat} : adminAnswer i cid (refusedWith st s) = s.adminCqe i cid st 0 := rfl
@[simp] theorem adminAnswer_succeeded {i cid : Nat} : adminAnswer i cid (succeeded s) = s.adminCqe i cid Status.success 0 := rfl
@[simp] theorem adminAnswer_mk {i cid st d : Nat} : adminAnswer i cid (st, d, s) = s.adminCqe i cid st d := rfl
@[simp] theorem adminAnswer_ite {i cid : Nat} {p : Prop} [Decidable p] {a b : Nat × Nat × State} :
    adminAnswer i cid (if p then a else b) = if p then adminAnswer i cid a else adminAnswer i cid b := apply_ite _ _ _ _
theorem mbx_on {p : Nat} {f} {s : State} (h : s.mbxOn p = true) : s.mbxDo p f = .next ((f s).2.2.mbxAnswer p (f s).1 (f s).2.1) := by
  simp [State.mbxDo, h]

/-! ### Admission of a command that meets every condition -/

theorem tryReady {s : State} {t : Nat} (h : s.AdmitReady t) : s.tryAdmission t .none_ = (s.passed t).admitAt t := by
  obtain ⟨h1, h2, h3, hf, hl, h4, h5, h6, h7, h8, h9, h10⟩ := h
  have hd : ¬((s.inst (s.tag t).inst).deficit ≤ 0 ∧ (s.tag t).cls = .b) := by
    rcases h6 with h | h
    · intro x; omega
    · intro x; exact h x.2
  have hw : ∀ b : Bool, ¬((s.tag t).cmd.opc = .read ∧ b = true ∧ 64 ≤ s.sieve.walks.length) := by
    rcases h10 with h | h
    · intro b x; exact h x.1
    · intro b x; omega
  have hn : (((s.passed t).ns (s.tag t).cmd.nsid).closing = true) = False := by
    simpa [State.passed, State.ns] using h5
  have hi : ((s.passed t).inst (s.tag t).inst).deficit = (s.inst (s.tag t).inst).deficit := rfl
  have hs : (s.passed t).sieve = s.sieve := rfl
  change (if _ then _ else if s.lookupWaits _ _ = true then _ else match s.commandCheck t with
    | some st => _
    | none => if ((s.passed t).ns _).closing = true then _ else if ((s.passed t).inst _).deficit ≤ 0 ∧ _ then _ else
      match (s.passed t).sieveStep t with
      | some s' => _
      | none => if (s.passed t).heldAt t ≠ 0 then _ else match (s.passed t).pointCheck _ with
        | some st => _
        | none => if _ ∧ _ ∧ 64 ≤ (s.passed t).sieve.walks.length then _ else (s.passed t).admitAt t) = _
  simp only [h1, h2, h3, hf, hl, h4, hn, hi, h7, h8, h9, hs]
  rw [if_neg (by simp), if_neg (by simp), if_neg (by simp), if_neg hd]
  rw [if_neg (fun x => x rfl)]
  refine if_neg ?_
  rintro ⟨a, -, c⟩
  exact hw true ⟨a, rfl, c⟩
theorem runReady {i q t : Nat} {c : HostCmd} {s : State} (h : s.stagedTag i q c.cid = some t) (e : c.hit = .none_)
    (r : s.AdmitReady t) : s.runIo i q c = (s.passed t).admitAt t := by
  simp [State.runIo, h, e, tryReady r]

/-! ### The Service Port -/

theorem smili_new {q : Nat} {on : SmiliOn} {f} {s : State} (h : s.portUp = true) (hq : ∀ x, s.boot.lastReq = some x → x.1 ≠ q) :
    s.smili q on f = s.portHeard.smiliNew q on f := by
  simp only [State.smili, h]
  cases hl : s.boot.lastReq with
  | none => rfl
  | some x => obtain ⟨n, l⟩ := x; simpa using fun e => absurd e (hq _ hl)
theorem smili_on {q : Nat} {on : SmiliOn} {f} {s : State} (h : s.portUp = true) (hq : ∀ x, s.boot.lastReq = some x → x.1 ≠ q)
    (ho : s.smiliOk on = true) : s.smili q on f = (f s.portHeard).2.2.smiliAnswer q (f s.portHeard).1 (f s.portHeard).2.1 := by
  rw [smili_new h hq, State.smiliNew, show s.portHeard.smiliOk on = true from ho, if_pos rfl]
theorem smili_off {q : Nat} {on : SmiliOn} {f} {s : State} (h : s.portUp = true) (hq : ∀ x, s.boot.lastReq = some x → x.1 ≠ q)
    (ho : s.smiliOk on = false) : s.smili q on f = s.portHeard.smiliAnswer q 0x000A [] := by
  rw [smili_new h hq, State.smiliNew, show s.portHeard.smiliOk on = false from ho]; rfl
theorem smili_again {q : Nat} {on : SmiliOn} {f} {s : State} {l : List Nat} (h : s.portUp = true)
    (hq : s.boot.lastReq = some (q, l)) : s.smili q on f = s.portHeard.emit (.reply Port.service l) := by
  simp [State.smili, h, hq]

end Sys2Proof.Machine
end

