-- ==== Sys2Proof/Tests/Slice0.lean ====
section
/-! SUPPORT. Tests: for each statement the states and operands that meet its hypotheses, clause by clause; for each check of
an operand a command it refuses; worked examples of the spec. -/

open Sys2Proof Sys2Proof.Machine

namespace Sys2Proof.Tests

/-! ### States the tests start from -/

/-- Queues 0 and 1 of sixteen entries; the admin queue holds one. -/
def queue (cq : Nat) : Sq := { exists_ := true, size := 16, cq := cq, tail := 1 - cq }
def cqueue : Cq := { exists_ := true, size := 16 }
/-- An enabled instance with an admin pair and one I/O pair. -/
def host : Inst :=
  { st := .online, ccEn := true, rdy := true, deficit := 1, sqs := [(0, queue 0), (1, queue 1)], cqs := [(0, cqueue), (1, cqueue)] }
/-- A tenant that is enabled, with an admin pair. -/
def tenant : Inst := { st := .online, ccEn := true, rdy := true, sqs := [(0, queue 0)], cqs := [(0, cqueue)] }
/-- A ready block whose instance 0 is enabled. -/
def up : State := { boot := { phase := .ready, running := 1 }, tenant := { insts := [(0, host)] } }
/-- The same with a tenant in a given state beside it. -/
def withTenant (x : Inst) : State := { up with tenant := { insts := [(0, host), (1, x)] } }

/-! ### Every statement's hypotheses are met -/

theorem test_meets_StepKeeps : step State.reset = .next State.reset.idle ∧ State.reset.tablesCanonical = true ∧
    (({ boot := { otp := [(13, 255)] } } : State).otpRow 13).testBit 7 = true ∧
    ({ fault := { grave := true } } : State).fault.grave = true := by
  refine ⟨rfl, ?_⟩; decide

theorem test_meets_IdleStepCounts : up.pending = [] ∧ step { up with pending := [.dumpComplete] } = exec .dumpComplete up := ⟨rfl, rfl⟩
theorem test_meets_IdleStepCounts_parts :
    (let s : State := { up with dram := { training := some { until_ := 1 } } }
     s.dram.training = some { until_ := 1 } ∧ 1 ≤ s.now + 1) ∧
    ({ up with dram := { training := some { until_ := 2 } } } : State).dram.training.all (fun x => decide (up.now + 1 < x.until_)) = true ∧
    (let s : State := { up with fabric := { bridges := [(147, { inFifo := 16, outFifo := 1 })] } }
     s.fabric.bridges = [(147, s.bridge 147)] ∧ 147 ∉ s.fabric.stopped ∧ (s.bridge 147).held = 0) := by decide

theorem test_meets_FabricRows :
    (∀ w ∈ [WordAt.segment 63 0 1, .bridge 147 1], wordOk w = true ∧ w ∉ State.reset.fabric.discarded ∧
      w ∈ ({ fabric := { discarded := [w] } } : State).fabric.discarded) ∧
    (147 < 148 ∧ 16 ≤ 16 ∧ 0 ≤ 16 ∧ 147 ∉ up.fabric.stopped) ∧
    (let s (i o h : Nat) : State := { up with fabric := { stopWaits := [147], bridges := [(147, { inFifo := i, outFifo := o, held := h })] } }
     147 ∈ (s 0 0 0).fabric.stopWaits ∧ ((s 0 0 0).bridge 147).inFifo = 0 ∧ ((s 0 0 0).bridge 147).outFifo = 0 ∧
      ((s 16 0 0).bridge 147).inFifo ≠ 0 ∧ ((s 0 1 0).bridge 147).outFifo ≠ 0 ∧
      ((s 15 0 1).bridge 147).held ≠ 0 ∧ ((s 15 0 1).bridge 147).inFifo < 16 ∧ (s 15 0 1).islandPowered 147 = true ∧
      16 ≤ ((s 16 0 1).bridge 147).inFifo ∧
      ({ s 0 0 1 with power := { domains := [(93, { st := 1 })] } } : State).islandPowered 147 = false) := by decide

/-- Port 2 with two fences in flight, of classes 2 and 1. -/
def fenced : State := { wmk := { ports := [(2, { nextId := 2, out := [{ id := 0, cls := 2, started := true }, { id := 1, cls := 1, started := true }] })] } }
theorem test_meets_FenceRows :
    (7 ≤ 7 ∧ 3 ≤ 3 ∧ fenced.wmk.tree.length < 64 ∧ fenced.wmk.stalled = []) ∧
    (let s : State := { wmk := { ports := [(0, { out := List.replicate 16 {} })] } }
     16 ≤ ((s.fport 0).out.filter fun f => !f.dropped).length) ∧
    (let s : State := { wmk := { tree := List.replicate 64 (.fence 1 0, false) } }
     64 ≤ s.wmk.tree.length) ∧
    ((fenced.fport 2).out.find? fun f => decide (f.id = 0)) = some { id := 0, cls := 2, started := true } ∧ 0 ≤ fenced.trail.doneSeq ∧
    (let s : State := { wmk := { ports := [(2, { out := [{ id := 0, cls := 3, started := true, held := [9] }] }), (3, { out := [{ id := 0, cls := 0, started := true, mark := 5 }] })] }, now := 5 }
     ((s.fport 2).out.find? fun f => decide (f.id = 0)) = some { id := 0, cls := 3, started := true, held := [9] } ∧ (s.src 9).held = none ∧
      ((s.fport 3).out.find? fun f => decide (f.id = 0)) = some { id := 0, cls := 0, started := true, mark := 5 } ∧ 5 ≤ s.now) ∧
    (let s : State := { fenced with wmk := { fenced.wmk with stalled := [.fence 2 0] } }
     s.wmk.stalled = [.fence 2 0] ∧ s.wmk.tree.length < 64) ∧
    Tab.wf {} fenced.wmk.ports = true ∧
    (fenced.fport 2).out = { id := 0, cls := 2, started := true } :: [{ id := 1, cls := 1, started := true }] ∧
    fenced.fenceReady { id := 1, cls := 1, started := true } = true ∧
    (([{ id := 1, cls := 1, started := true }] : List Fence).find? fun f => decide (f.id = 1)) = some { id := 1, cls := 1, started := true } := by
  decide

theorem test_meets_QueueRows_doorbells : up.ideBlocked = false ∧
    ((up.inst 0).sqs.get {} 2).exists_ = false ∧ ((up.inst 0).cqs.get {} 2).exists_ = false ∧
    (let q := (up.inst 0).sqs.get {} 1
     q.exists_ = true ∧ q.size ≤ 16 ∧ ¬(q.size ≤ 15 ∨ q.size ≤ (q.tail + q.size - q.head) % q.size + (15 + q.size - q.tail) % q.size)) ∧
    (let q : Sq := { queue 1 with head := 14, tail := 2 }
     q.size ≤ (q.tail + q.size - q.head) % q.size + (1 + q.size - q.tail) % q.size) ∧
    ((up.inst 0).cqs.get {} 1).size ≤ 16 ∧ ¬((up.inst 0).cqs.get {} 1).size ≤ 15 := by decide

theorem test_meets_RoundsAndThrottle : up.intakeOn = true ∧ (∀ x ∈ up.tenant.insts, 0 < x.2.deficit → up.admissible x.1 = false) ∧
    up.power.ps < 3 ∧ up.intake.throttleLost = false ∧ 0 < 1 ∧ 100 ≤ 100 := by decide

theorem test_meets_QueueRows : up.takes 0 7 = true ∧ (let u := up.taken 0 7
    2 ≤ u.ioPairs 0 ∧ ((u.inst 0).sqs.get {} 1).exists_ = true ∧ ((u.inst 0).sqs.get {} 2).exists_ = false ∧
    ((u.inst 0).cqs.get {} 1).exists_ = true ∧ ((u.inst 0).cqs.get {} 2).exists_ = false ∧ ¬((2 : Nat) < 2 ∨ 16384 < 2) ∧
    (16384 : Nat) < 16385 ∧ (∃ q ∈ (u.inst 0).sqs, q.2.exists_ = true ∧ q.2.cq = 1) ∧
    (∀ t ∈ u.intake.tags, t.2.stage ≠ .free → t.2.inst = 0 → t.2.sq ≠ 1)) := by decide
/-- The admin command with identifier 7 is held by a tag that a Stop may have taken. -/
def adminTag (fate : Nat) : State := { up with intake := { tags := [(3, { stage := .inFlight, fate := fate, cmd := { cid := 7, opc := .admin } })] } }
theorem test_meets_AdminCompletion :
    (∀ f ∈ [0, 1], (adminTag f).findTag 0 0 7 = some 3 ∧ ((adminTag f).tag 3).fate = f ∧ (adminTag f).adminOn 0 = true ∧
      (adminTag f).cidInFlight 0 0 7 = true ∧ (adminTag f).ideBlocked = false) ∧
    ({ adminTag 0 with pcie := { ide := { enabled := true } } } : State).ideBlocked = true ∧ State.reset.adminOn 0 = false := by
  decide

/-- Tag 5 holds a staged Flush of queue 1, tag 6 one whose completion is being posted. -/
def flush : HostCmd := { cid := 7, opc := .flush }
def staged (c : HostCmd) : State :=
  { up with
    tenant := { insts := [(0, { host with sqs := [(0, queue 0), (1, { queue 1 with staged := some 5 })], aers := [9] })] }
    intake := { tags := [(5, { stage := .staged, inst := 0, sq := 1, cq := 1, cls := .b, cmd := c }),
      (6, { stage := .posting, inst := 0, sq := 1, cq := 1, cls := .b, cmd := { c with cid := 8 } })] }
    zone := { nss := [(1, { exists_ := true, mode := .clear, zoned := false, size := 1048576, attached := [0] })] } }
/-- The same with no admin command waiting, so that Class U holds nothing back. -/
def ready (c : HostCmd) : State :=
  let s := staged c
  { s with tenant := { insts := [(0, { s.inst 0 with sqs := [(0, { queue 0 with tail := 0 }), (1, { queue 1 with staged := some 5 })] })] } }
/-- Sixteen Aborts are in flight. -/
def aborts : State := { up with intake := { tags := (List.range' 10 16).map fun t => (t, { stage := .inFlight, cmd := { cid := t, opc := .abort } }) } }
theorem test_meets_IntakeFeatureRows : let s := staged flush
    s.takes 0 3 = true ∧ (let u := s.taken 0 3 .abort
      u.abortsOf 0 ≤ 16 ∧ u.findTag 0 1 4 = none ∧ u.findTag 0 1 7 = some 5 ∧ (u.tag 5).stage = .staged ∧ u.findTag 0 1 8 = some 6 ∧
      (u.tag 6).stage = .posting) ∧
    (let s : State := { up with intake := { tags := (List.range' 10 16).map fun t => (t, { stage := .inFlight, cmd := { cid := t, opc := .abort } }) } }
     s.takes 0 3 = true ∧ 16 < (s.taken 0 3 .abort).abortsOf 0) ∧
    16 ≤ ({ host with aers := List.range 16 } : Inst).aers.length ∧
    (let q := (({ up with tenant := { insts := [(0, { host with cqs := [(1, { cqueue with unsignalled := 1 })] })] } } : State).inst 0).cqs.get {} 1
     q.exists_ = true ∧ q.ien = true ∧ 0 < q.unsignalled) := by decide

theorem admitReady_flush : (ready flush).AdmitReady 5 where
  staged := by decide
  intake := by decide
  instance_ := by decide
  first := by decide
  lookups := by decide
  checks := by decide
  open_ := by decide
  deficit := by decide
  sieve := by decide
  room := by decide
  point := by decide
  walk := by decide
/-- The same, a read's walk about to give its slot up. -/
def walked : State := { ready flush with intake := { (ready flush).intake with walkWait := some 5 }, sieve := { walks := [{ tag := 9 }] } }
theorem test_meets_IoRowsAdmitted : (ready flush).stagedTag 0 1 7 = some 5 ∧ flush.hit = .none_ ∧ (ready flush).AdmitReady 5 ∧
    (walked.endWalk 9).AdmitReady 5 ∧ (walked.endWalk 9).intake.walkWait = some 5 ∧ (walked.endWalk 9).sieve.walks.length < 64 := by
  refine ⟨by decide, by decide, admitReady_flush, ⟨?_, ?_, ?_, ?_, ?_, ?_, ?_, ?_, ?_, ?_, ?_, ?_⟩, by decide⟩ <;> decide

theorem test_meets_FailedCheckCompletes :
    (let s := ready { flush with nsid := 2 }
     (s.tag 5).stage = .staged ∧ s.intakeOn = true ∧ s.admits 0 = true ∧ s.higherWaits .b = false ∧ (s.tag 5).cls = .b ∧
     s.lookupWaits (s.tag 5).cmd (s.tag 5).checked = false ∧ s.commandCheck 5 = some Status.invalidNamespace ∧
     s.placementOk (s.tag 5).cmd = true) ∧
    (let s := ready { cid := 7, opc := .dsm, dealloc := true, ranges := [(1048576, 1)] }
     s.commandCheck 5 = none ∧ s.lookupWaits (s.tag 5).cmd (s.tag 5).checked = false ∧ (s.ns 1).closing = false ∧ 0 < (s.inst 0).deficit ∧
     (s.passed 5).sieveStep 5 = none ∧ (s.passed 5).heldAt 5 = 0 ∧
     (s.passed 5).pointCheck (s.tag 5).cmd = some Status.lbaOutOfRange) := by decide

theorem test_meets_FetchStagesCommand :
    let s : State := { up with tenant := { insts := [(0, { host with sqs := [(1, { queue 1 with tail := 15, head := 14 })] })] } }
    s.canFetch 0 1 = true ∧ s.freeTag (classOf 0 1) = some 0 := by decide

def reserve (o : Opc) (args : List Nat) : HostCmd := { cid := 7, opc := o, args := args }
def held (c : HostCmd) (rs : List Registrant) (h : Option (Nat × Nat)) : State :=
  { ready c with zone := { nss := [(1, { exists_ := true, mode := .clear, zoned := false, size := 1048576, attached := [0], registrants := rs, holder := h })] } }
theorem admitReady_reserve {o : Opc} {a : List Nat} {rs h}
    (x : (o, a, rs, h) ∈ [(Opc.resRegister, [0, 0, 0, 0, 3], [], none),
      (.resRegister, [0, 0, 0, 0, 3], (List.range' 1 64).map fun k => ⟨k, 3⟩, none), (.resAcquire, [0, 0, 6, 3], [⟨0, 3⟩], none),
      (.resRelease, [0, 0, 6, 3], [⟨0, 3⟩], some (0, 6))]) : (held (reserve o a) rs h).AdmitReady 5 := by
  simp only [List.mem_cons, List.not_mem_nil, or_false, Prod.mk.injEq] at x
  rcases x with ⟨rfl, rfl, rfl, rfl⟩ | ⟨rfl, rfl, rfl, rfl⟩ | ⟨rfl, rfl, rfl, rfl⟩ | ⟨rfl, rfl, rfl, rfl⟩ <;> constructor <;> decide
theorem test_meets_ReservationEffects :
    (held (reserve .resRegister [0, 0, 0, 0, 3]) [] none).AdmitReady 5 ∧
    (held (reserve .resRegister [0, 0, 0, 0, 3]) ((List.range' 1 64).map fun k => ⟨k, 3⟩) none).AdmitReady 5 ∧
    (held (reserve .resAcquire [0, 0, 6, 3]) [⟨0, 3⟩] none).AdmitReady 5 ∧
    (held (reserve .resRelease [0, 0, 6, 3]) [⟨0, 3⟩] (some (0, 6))).AdmitReady 5 ∧
    (held (reserve .resAcquire [0, 0, 6, 3]) [⟨0, 3⟩] none).stagedTag 0 1 7 = some 5 ∧
    ((held (reserve .resAcquire [0, 0, 6, 3]) [⟨0, 3⟩] none).inst 0).hostId = 0 := by
  refine ⟨admitReady_reserve ?_, admitReady_reserve ?_, admitReady_reserve ?_, admitReady_reserve ?_, ?_, ?_⟩ <;> decide

/-- A write of one block in flight, its row known, beside a Flush and a read that may post. -/
def flight (r : TagRec) (e : Expo) : State :=
  { staged flush with intake := { tags := [(5, { r with stage := .inFlight, inst := 0, sq := 1, cq := 1 })] }, trail := { expos := [e] } }
theorem test_meets_DataAndCompletion :
    (let s := flight { cmd := { cid := 7, opc := .write }, seq := 4, units := [0] } { seq := 4, nsid := 1, nlb := 1, row := some {} }
     (s.tag 5).waitsData = true ∧ s.mayTransfer 5 = true ∧ 0 < (s.tag 5).cmd.nlb ∧ s.arrivalStatus (s.tag 5).cmd 0 [0] = 0 ∧
     (let a := s.arrive 5 0
      let b := a.modExpo (a.tag 5).seq fun e => { e with pieces := piecesIn (a.tag 5).arrived e.nlb (e.nlb / 64) }
      ((b.trail.expos.find? fun e => decide (e.seq = (a.tag 5).seq)).bind (·.row)) = some {})) ∧
    (let s := flight { cmd := flush } {}
     s.mayPost 5 = true ∧ s.ideBlocked = false ∧ (s.tag 5).cmd.opc = .flush) ∧
    (let s := flight { cmd := { cid := 7 }, done := some 0 } {}
     s.mayPost 5 = true ∧ (s.tag 5).cmd.opc = .read) ∧
    (let s := flight { cmd := { cid := 7, opc := .write }, done := some 0, seq := 4 } { seq := 4, nsid := 1, nlb := 1 }
     s.mayPost 5 = true ∧ (s.tag 5).cmd.opc = .write ∧ (s.tag 5).cmd.fwNeed ≠ 0 ∧ (s.tag 5).done = some 0) ∧
    (let e : Expo := { seq := 4, nsid := 1, nlb := 1, zeros := true, zerosDurable := true }
     let s := flight { cmd := flush } e
     (s.trail.expos.filter fun e => decide (e.seq = 4) && !e.failed) = [e] ∧ (∀ k < e.nlb, s.readHolds e.nsid (e.slba + k) 4 = false) ∧
      s.mapWalkWaits 4 = false) := by
  decide

/-- One stripe group in die set 1, with ten rows free, and namespaces 1 (zoned) and 2 (Key Per I/O). -/
def sets : State :=
  { up with
    tenant := { insts := [(0, { host with dieSets := [1] })] }
    zone := {
      nss := [(1, { exists_ := true, mode := .clear, size := 2 * zoneBlocks, attached := [0], zones := [(0, { st := .zsio }), (1, {})] }),
        (2, { exists_ := true, mode := .keyPerIo, size := zoneBlocks })]
      dieSets := [(1, { groups := [0] })]
      groups := [(0, { formed := true, dies := [0], zoneRows := 10, spareRows := 5 })]
      nextMode := some .clear }
    flash := { dies := [(0, { present := true, listed := true, inGroup := true, plmOk := true })] } }

/-- `sets`, its group of sixteen dies, and rows to take. -/
def roomy (kind : EncMode) : State :=
  { sets with zone := { sets.zone with groups := [(0, { formed := true, dies := List.range 16, zoneRows := 10, spareRows := 5 })], nextMode := some kind } }
theorem test_meets_NamespaceRows_create :
    sets.takes 0 7 = true ∧ (let u := sets.taken 0 7
      u.namedSet 0 = some 1 ∧ formatOk 3 { kind := 1, guard64 := true } = true ∧ 0 < 1 ∧ u.tooLarge 1 = false ∧ u.createMode false = .clear ∧ u.freeNsid = some 3 ∧
      u.zonesMade 1 + 7 ≤ u.zonesOffered 1 ∧ u.rulesAfter ≤ u.ruleRoom ∧ ([] : List Nat).length ≤ u.cfgOf Cfg.FDP_RUH_COUNT) ∧
    ((sets.taken 0 7).zone.nextMode.map kpioAllowed ≠ some false ∨ (sets.taken 0 7).createMode true ≠ .keyPerIo) ∧
    (∀ m ∈ [EncMode.clear, .xts], (roomy m).takes 0 7 = true ∧ (let u := (roomy m).taken 0 7
      u.createMode false = m ∧ u.convBytes + 1 * 4096 ≤ 2000000000000 ∧ u.glaze.drbgFail = false ∧ u.freeSlot ≠ none ∧
      ((u.modNs 3 fun _ => { exists_ := true, zoned := false, dieSet := 1, size := 1, mode := m }).takeRows 3 1 1 0 2).any
        (fun t => decide (t.zonesMade 1 ≤ t.zonesOffered 1)) = true)) := by decide

/-- No namespace but one of Key Per I/O, so that a crypto erase may run. -/
def sealed : State := { sets with zone := { sets.zone with nss := [(2, { exists_ := true, mode := .keyPerIo })] } }
theorem test_meets_NamespaceRows :
    (let u := sets.taken 0 7
     (u.ns 1).exists_ = true ∧ u.nsBusy 1 = false ∧ formatOk 0 {} = true ∧ 1 ≤ 1) ∧
    (let s : State := { sets with intake := { tags := [(0, { stage := .inFlight, inst := 0, sq := 1, cmd := { nsid := 1 } })] } }
     s.takes 0 7 = true ∧ (s.taken 0 7).nsBusy 1 = true) ∧
    (let s : State := { sets with zone := { sets.zone with nss := [(1, { exists_ := true, mode := .xts })] } }
     s.takes 0 7 = true ∧ (let u := s.taken 0 7; (u.ns 1).mode ≠ .clear ∧ (u.ns 1).mode ≠ .keyPerIo ∧ u.glaze.drbgFail = false ∧ u.nsBusy 1 = false)) ∧
    (∃ n ∈ ((sets.taken 0 7).zone.nss.filter fun n => n.2.exists_).map (·.1), ((sets.taken 0 7).ns n).mode = .clear) ∧
    (let u := sealed.taken 0 7
     sealed.takes 0 7 = true ∧ ((u.zone.nss.filter fun n => n.2.exists_).map (·.1)) = [2] ∧ (u.ns 2).mode ≠ .clear ∧ u.nsBusy 2 = false ∧
      u.glaze.drbgFail = false) ∧
    (let s : State := { sets with intake := { tags := [(0, { stage := .inFlight, inst := 0, sq := 0, cmd := { cid := 7, nsid := 0, opc := .admin, args := [0x0D, 1] } })] } }
     s.adminWaits 0 7 [0x0D, 1] = true ∧ (s.ns 1).exists_ = true ∧ s.nsBusy 1 = false) := by decide
theorem test_meets_NamespaceRows_select : let f := (sets.taken 0 7).formGroups true
    0 < 16 ∧ f.planOf 0 ≠ [] ∧ ∀ n ∈ f.zone.nss, n.2.exists_ = true → (n.2.dieSet, (f.dieSet n.2.dieSet).groups) ∈ f.planOf 0 := by
  decide +kernel

theorem test_meets_AttachmentRows :
    (let u := sets.taken 0 7
     (u.ns 1).exists_ = true ∧ (∀ i ∈ [0], i ∈ (u.ns 1).attached ∧ (u.ns 1).dieSet ∈ (u.inst i).dieSets) ∧
      (∀ x ∈ u.intake.tags, x.2.stage = .inFlight → x.2.cmd.nsid = 1 → x.2.inst ∉ [0])) ∧
    (let s : State := { sets with tenant := { insts := [(0, { host with dieSets := [1] }), (1, { dieSets := [2] }), (511, { dieSets := [1] })] } }
     s.takes 0 7 = true ∧ (let u := s.taken 0 7
      (∃ i ∈ [1], (u.ns 1).dieSet ∉ (u.inst i).dieSets) ∧ 511 ∉ (u.ns 1).attached ∧ (u.ns 1).dieSet ∈ (u.inst 511).dieSets ∧ 511 ≤ 511)) := by decide

theorem test_meets_ZoneAgesAndRows :
    ((sets.zoneAt 1 0).st.isActive = true ∧ (sets.zoneAt 1 0).fzr = false ∧ (sets.zoneAt 1 1).st.isActive = false) ∧
    (let w : RelWait := { row := { group := 0, row := 3 }, nsid := 1, lo := 0, hi := 9, seq := 2 }
     let s : State := { sets with flash := { sets.flash with relWaits := [w] } }
     (s.flash.relWaits.find? fun w => decide (w.row = { group := 0, row := 3 })) = some w ∧ s.readsBefore w = false ∧
      s.programsBefore w.row = false ∧ s.scanning w.row = false ∧ s.sieve.walks.length < 64) ∧
    sets.takes 0 7 = true ∧ ((sets.taken 0 7).ns 1).exists_ = true ∧ 0 ∈ ((sets.taken 0 7).ns 1).attached := by decide

theorem test_meets_NamespaceFeatures :
    let fdp : State := { sets with zone := { sets.zone with dieSets := [(1, { groups := [0], fdp := true, plm := { enabled := true, ndRounds := 4294967295 } })] }
                                   flash := { sets.flash with offDone := true } }
    (sets.takes 0 7 = true ∧ (let u := sets.taken 0 7
      (u.identifyData 0 0 1).isSome = true ∧ (u.featureOf 0 1 0).isSome = true ∧ (u.dieSet 1).groups ≠ [] ∧ u.controlsSet 0 1 = true ∧
      (∀ k ∈ (u.dieSet 1).groups.flatMap fun g => (u.group g).dies, (u.die k).plmOk = true))) ∧
    fdp.takes 0 7 = true ∧ (let u := fdp.taken 0 7
      (u.dieSet 1).plm.enabled = true ∧ (u.dieSet 1).plm.deterministic = false ∧ (u.dieSet 1).plm.entering = none ∧
      u.ndMinimum 1 ≤ (u.dieSet 1).plm.ndRounds * 10 ∧ (u.dieSet (u.ns 1).dieSet).fdp = true ∧ u.controlsSet 0 1 = true ∧
      0 ∈ (u.ns 1).attached ∧ u.flash.offDone = true) := by decide

theorem test_meets_VirtualizationRows :
    up.takes 0 7 = true ∧ 1 ≤ 511 ∧ ((up.taken 0 7).inst 1).st = .offline ∧
    (∀ st ∈ [InstState.online, .held], (withTenant { st := st }).takes 0 7 = true ∧ (((withTenant { st := st }).taken 0 7).inst 1).st = st) := by
  decide

theorem test_meets_QuiesceRows :
    (∀ st ∈ [InstState.online, .pausing, .paused, .stopping, .held, .offline], let s := withTenant { st := st, rdy := true, mbxIen := true }
      s.takes 0 7 = true ∧ (s.taken 0 7).isTenant 1 = true ∧ ((s.taken 0 7).inst 1).st = st ∧ ((s.taken 0 7).inst 1).rdy = true ∧
      (s.taken 0 7).treeFull = false ∧ s.hasCommands 1 = false ∧ s.atNand 1 = false) ∧
    (let s : State := { withTenant { st := .online, rdy := true } with wmk := { tree := List.replicate 64 (.fence 1 0, false) } }
     s.takes 0 7 = true ∧ (s.taken 0 7).treeFull = true) ∧
    ({ withTenant { st := .pausing } with intake := { tags := [(0, { stage := .staged, inst := 1 })] } } : State).hasCommands 1 = true ∧
    (let s (n : Nat) : State := { withTenant { st := .pausing, quiesce := { limit := 100, tZero := 5 } } with now := n }
     5 + 100 * 100000 ≤ (s 10000005).now ∧ (s 10000004).now < 5 + 100 * 100000 ∧ ((s 0).inst 1).quiesce.limit = 100) ∧
    10000 ≤ 10000 ∧ 10000 < 10001 := by decide

theorem test_meets_InstanceControlRows :
    (∀ n ∈ [0, 2], let s := withTenant { st := .online, shst := n }
     2 ≤ 2 ∧ 4096 ≤ 4096 ∧ (s.inst 1).ccEn = false ∧ (s.inst 1).st = .online ∧ (s.inst 1).shst = n ∧ s.boot.shut = none ∧
      s.boot.phase = .ready ∧ s.trail.dumpMode = false ∧ s.boot.pwrdis = false) ∧
    (let s := withTenant { st := .online, ccEn := true }
     (s.inst 1).ccEn = true ∧ (s.inst 1).st = .online ∧ (s.inst 1).shst ≠ 2) ∧
    (up.power.ps < 3 ∧ up.isPf 1 = false ∧ (up.inst 1).st = .offline ∧ ((withTenant { st := .held }).inst 1).st = .held ∧
      ((withTenant { st := .online }).inst 1).st = .online) ∧
    (let s : State := { up with power := { ps := 4 } }
     3 ≤ s.power.ps ∧ 3 ≤ (s.wake 1).power.ps) := by decide
theorem test_meets_InstanceControlRows_records :
    (let u := up.taken 0 7
     u.resOk 511 { valid := 1, instNo := 511, weight := 255 } = true ∧ u.dieSetHeld 511 { valid := 1, instNo := 511, weight := 255 } = false ∧
      u.resOk 511 { valid := 1, instNo := 511, weight := 256 } = false) ∧
    (let s : State := { up with
       tenant := { insts := [(0, host), (1, { dieSets := [1] })] }
       zone := { nss := [(1, { exists_ := true, attached := [1], dieSet := 1 })], dieSets := [(1, { groups := [0] })] } }
     s.takes 0 7 = true ∧ (s.taken 0 7).resOk 1 { valid := 256, instNo := 1 } = true ∧ (s.taken 0 7).dieSetHeld 1 { valid := 256, instNo := 1 } = true) ∧
    (∀ st ∈ [InstState.paused, .held, .online], let s := withTenant { st := st }
     s.takes 0 7 = true ∧ (s.taken 0 7).isTenant 1 = true ∧ ((s.taken 0 7).inst 1).st = st) := by decide
/-- A record whose CRC-32C is right. -/
def savedRec : InstRec := { ({} : InstRec) with crc := crc32c ({} : InstRec).body }
theorem test_meets_InstanceControlRows_fits : ((withTenant { st := .held }).taken 0 7).recordFits 1 savedRec = true ∧
    ((withTenant { st := .held }).taken 0 7).recordFits 1 { savedRec with part := 0 } = false := by
  have q : savedRec.queues = [] := rfl
  have n : savedRec.nsids = [] := rfl
  constructor
  · have c : savedRec.crc = crc32c savedRec.body := rfl
    simp only [State.recordFits, c, q, n]; decide
  · simp [State.recordFits]

theorem test_meets_MailboxRows :
    let s (m : Mailbox) : State := { withTenant { st := .online, mbxT := m, mbxM := m } with regs := [(Reg.MBX_INST_SEL_INST, some 1)] }
    (∀ m ∈ [({ outBusy := true } : Mailbox), { inFull := true }, {}], ((s m).inst 1).st = .online ∧ (s m).reg Reg.MBX_MGR_CTRL_IEN = 0 ∧
      (s m).domainOff 81 = false ∧ (s m).reg Reg.MBX_INST_SEL_INST = 1 ∧ ((s m).inst 1).mbxIen = false) ∧
    ((s { outBusy := true }).inst 1).mbxT.refused = true ∧ ((s { out := [(0, 5), (1, 240)] }).inst 1).mbxT.refused = false ∧
    ((s { outBusy := true }).inst 1).mbxM.refused = true ∧ ((s { out := [(0, 5), (1, 240)] }).inst 1).mbxM.refused = false ∧
    ((s {}).inst 1).mbxM.inFull = false ∧ ((s { inFull := true }).inst 1).mbxT.inFull = true ∧
    ((s { inFull := true }).inst 1).mbxM.inFull = true ∧ up.reg Reg.MBX_INST_SEL_INST = 0 := by decide

theorem test_meets_MigrationRows :
    let s (d : DirtyLog) : State := { withTenant { st := .online, dirty := d } with regs := [(Reg.MIG_SEL_INST, some 1)] }
    (s {}).domainOff 81 = false ∧ (s {}).reg Reg.MIG_SEL_INST = 1 ∧ ((s {}).inst 1).dirty.enabled = false ∧
    ((s { enabled := true }).inst 1).dirty.enabled = true ∧ ((s { enabled := true }).inst 1).dirty.harvestBusy = false ∧
    ((s { enabled := true, harvestBusy := true }).inst 1).dirty.harvestBusy = true ∧
    (∀ f ∈ ((s { enabled := true, harvestBusy := true }).fport 1).out,
      f.id ≠ ((s { enabled := true, harvestBusy := true }).inst 1).dirty.harvestFence) ∧
    (let f : Fence := { id := 0, cls := 2, started := true, mark := 9 }
     let t : State := { s { enabled := true, harvestBusy := true, harvestFence := 0 } with wmk := { ports := [(1, { out := [f] })] } }
     (t.fport 1).out.find? (fun f => decide (f.id = (t.inst 1).dirty.harvestFence)) = some f ∧ t.fenceReady f = false) := by decide

theorem test_meets_FirstMatchRank :
    let l : List (Nat × Ent) := [(3, { prio := 0x20 }), (7, { prio := 0x10 }), (9, { prio := 0x10 })]
    l.Pairwise (fun a b => a.1 < b.1) ∧ bestMatch l = some (7, { prio := 0x10 }) ∧ 511 < 512 := by decide

theorem test_meets_LogPageRows :
    up.takes 0 7 = true ∧ (let u := up.taken 0 7
      3 ∉ pagesWithRows ∧ (u.logPage 0 3 0).isSome = true ∧ u.archiveOk 0 0 = true ∧ u.archiveOk 0 1 = false ∧
      u.klog.pelContexts.get none 0 = none) ∧
    (let s : State := { up with klog := { pelContexts := [(0, some [{}])], teleHost := some {}, teleCtrl := some {} } }
     s.takes 0 7 = true ∧ (let u := s.taken 0 7
      u.klog.pelContexts.get none 0 = some [{}] ∧ u.klog.teleHost = some {} ∧ u.klog.teleCtrl = some {})) := by decide

theorem test_meets_SieveRules :
    (let l : List (Nat × Ent) := [(3, { prio := 5, valid := true }), (8, { prio := 4, valid := true }), (9, { prio := 4, valid := true })]
     l.Pairwise (fun a b => a.1 < b.1) ∧ bestMatch l = some (8, { prio := 4, valid := true })) ∧
    511 < 512 := by decide

def ruleEnt (lo hi : Nat) : Ent := { lo := lo, hi := hi, scope := scopeNs 1, prio := 0x10, payload := 0, valid := true }
/-- Changes queued before one that comes. -/
def shifting (n : Nat) (o : RuleOp) : State := { up with sieve := { shifts := List.replicate n { op := o, ent := ruleEnt 8 9 } } }
theorem test_meets_SieveChangeRows :
    up.entryRefused (ruleEnt 9 8) true = true ∧ up.entryRefused (ruleEnt 8 9) true = false ∧ up.sieve.shifts.length < 32 ∧
    up.rulesAfter < up.ruleRoom ∧ up.rulesAfter ≤ 0 ∧
    ((shifting 31 .insert).sieve.shifts.length < 32 ∧ 30 < (shifting 31 .insert).rulesAfter ∧ (shifting 31 .insert).sieve.shifts ≠ []) ∧
    32 ≤ (shifting 32 .insert).sieve.shifts.length ∧ (shifting 1 .remove).sieve.shifts = { op := .remove, ent := ruleEnt 8 9 } :: [] ∧
    up.domainOff 85 = false ∧ up.tablesCanonical = true := by decide +kernel
theorem test_meets_SieveChangeRows_held :
    (let s : State := { up with sieve := { ents := [(0, ruleEnt 8 9)] } }
     s.sieve.shifts = [] ∧ 0 < s.rulesAfter ∧ s.entryRefused (ruleEnt 8 9) true = false) ∧
    (let s : State := { up with regs := [(Reg.SIEVE_CFG_RULE_SEGS, some 1)], sieve := { retired := List.range 1024 } }
     s.entryRefused (ruleEnt 8 9) true = false ∧ s.sieve.shifts.length < 32 ∧ s.ruleRoom ≤ s.rulesAfter) := by decide +kernel

/-- `sets` with die 0 as given. -/
def withDie (d : Die) : State := { sets with flash := { sets.flash with dies := [(0, { d with present := true, inGroup := true })] } }
def readOp : FlashOp := { kind := .hostRead, owner := .read 5 0 [0] }
/-- Block 0 of die 0 holds two written wordlines, block 1 is erased. -/
def withBlocks (d : Die) : State :=
  { withDie d with flash := { (withDie d).flash with
      blocks := (List.range 4).map (fun p => (blockKey 0 p 0, ({ st := .open_, next := 2 } : Block))) ++
        (List.range 4).map fun p => (blockKey 0 p 1, ({ st := .erased } : Block)) } }

theorem test_meets_DieScheduler :
    dieNameOk 16384 = false ∧ dieNameOk 0 = true ∧ (sets.nextOp 0 fun _ => true) = none ∧
    (let s : State := { sets with flash := { dies := [(0, { present := true, shortQ := [{ readOp with kind := .rebuildRead }] })] } }
     (s.nextOp 0 fun _ => true) = some { readOp with kind := .rebuildRead } ∧ (s.die 0).retired = false ∧ (s.die 0).present = true ∧
      s.gateClosed 0 = false ∧ s.refusalOf 0 { readOp with kind := .rebuildRead } = 0 ∧ readOp.again = false) ∧
    (let s : State := { sets with flash := { dies := [(0, { present := true, shortQ := [readOp] })], blocks := [(blockKey 0 3 0, { st := .erased })] } }
     (s.nextOp 0 fun _ => true) = some readOp ∧ s.gateClosed 0 = false ∧ readOp.kind.isRead = true ∧ s.refusalOf 0 readOp ≠ 0) ∧
    (let o : FlashOp := { readOp with again := true }
     let s : State := { sets with flash := { dies := [(0, { present := true, shortQ := [o] })], blocks := [(blockKey 0 3 0, { st := .erased })] } }
     (s.nextOp 0 fun _ => true) = some o ∧ s.refusalOf 0 o ≠ 0 ∧ o.again = true) ∧
    (∀ k ∈ [OpKind.erase, .qlcUnit], let o : FlashOp := { kind := k, owner := .job 0 }
     let s : State := { sets with flash := { dies := [(0, { present := true, longQ := [o] })], blocks := [(blockKey 0 0 0, { st := .eraseSuspended, role := 4 })] } }
     (s.nextOp 0 fun _ => true) = some o ∧ s.gateClosed 0 = false ∧ o.kind.isRead = false ∧ s.refusalOf 0 o ≠ 0) ∧
    (let s : State := { sets with flash := { dies := [(0, { present := true, retired := true, shortQ := [readOp] })] } }
     (s.nextOp 0 fun _ => true) = some readOp ∧ (s.die 0).retired = true) ∧
    (let e : FlashOp := { kind := .erase, owner := .job 0 }
     let s : State := { sets with flash := { dies := [(0, { present := true, longQ := [e] })], closed := [0] } }
     (s.nextOp 0 fun _ => true) = some e ∧ s.gateClosed 0 = true ∧ e.kind.isRead = false ∧
      ((s.countRefusal 0 7).nextOp 0 fun x => x.kind.isRead) = none) := by decide

/-- Channel 0 with the bus at die 0. -/
def withBus (d : Die) : State := { withDie d with flash := { (withDie d).flash with chans := [(0, { rate := 3600, dies := 1 })] } }
/-- Another transfer has the bus of channel 0, that of die 0 waits for it or not. -/
def busy (d : Die) (w : List Xfer) : State :=
  { withDie d with flash := { (withDie d).flash with chans := [(0, { rate := 3600, dies := 2, bus := some { die := 4 }, waits := w })] } }
theorem test_meets_ReadRows :
    (let d : Die := { short := some readOp, st := .reading }
     (((withBus d).die 0).short = some readOp ∧ ((withBus d).die 0).st = .reading) ∧
      (((withBus d).askBus 0 true ((withBus d).moves 0 readOp)).chan (channelOf 0)).has 0 = true ∧
      (((busy d []).askBus 0 true ((busy d []).moves 0 readOp)).chan (channelOf 0)).has 0 = false ∧
      readOp.owner = .read 5 0 [0] ∧ 0 ≤ (withBus d).reg Reg.FBE_CBC_WARN_THRESH ∧ readOp.stage ≤ 1) ∧
    ((withDie {}).die 0).short = none ∧
    (∀ n ∈ [1, 2, 3, 4], let s := withDie { short := some { readOp with stage := n }, st := .reading }
      (s.die 0).short = some { readOp with stage := n } ∧ (s.die 0).st = .reading) ∧ readOp.retrySteps ≠ 0 ∧
    ({ readOp with retrySteps := 0 } : FlashOp).retrySteps = 0 := by decide

def unitOp (n : Nat) : FlashOp := { kind := .qlcUnit, passes := n, owner := .row {} 0 }
theorem test_meets_ProgramEraseRows :
    (∀ n ∈ [0, 2, 3], let d : Die := { long := some (unitOp n), st := .pass }
      ((withDie d).die 0).long = some (unitOp n) ∧ ((withDie d).die 0).st = .pass ∧ (unitOp n).owner = .row {} 0 ∧
      ((withDie d).chan (channelOf 0)).waitsFor 0 = false ∧ ((busy d [{ die := 0 }]).chan (channelOf 0)).waitsFor 0 = true) ∧ (2 < 3 ∧ 3 ≤ 3) ∧
    (let s := withDie { long := some (unitOp 1), st := .gap }
     (s.die 0).st = .gap ∧ s.gateClosed 0 = false ∧ s.inWindow 0 = false ∧ (∀ x ∈ (s.die 0).shortQ, x.kind.isRead = false) ∧
      ({ s with flash := { s.flash with closed := [0] } } : State).gateClosed 0 = true) ∧
    (let o : FlashOp := { kind := .parityProgram, owner := .row {} 0 }
     let s := withDie { short := some o, st := .slcProgramming }
     (s.die 0).short = some o ∧ (s.die 0).st = .slcProgramming ∧ (s.chan (channelOf 0)).waitsFor 0 = false ∧
      ((busy { short := some o, st := .slcProgramming } [{ die := 0 }]).chan (channelOf 0)).waitsFor 0 = true) := by decide
theorem test_meets_ProgramEraseRows_erase :
    (let b : Block := { st := .erasing, role := 4 }
     b.st ≠ .retired ∧ b.role ≠ 0 ∧ b.slc = false ∧ b.subst = false) ∧
    (let o : FlashOp := { kind := .erase }
     o.phys = [] ∧
     (∀ st ∈ [DieState.erasing, .suspending, .suspended, .resuming], ∀ q ∈ [[], [readOp]], let s := withDie { long := some o, st := st, shortQ := q }
       (s.die 0).long = some o ∧ (s.die 0).st = st ∧ s.mustSuspend 0 = false ∧ (s.die 0).shortQ = q ∧ (s.die 0).holdPassed = false) ∧
     (let s := withDie { long := some o, st := .erasing }
      ({ s with flash := { s.flash with closed := [0] } } : State).mustSuspend 0 = true)) := by decide

theorem test_meets_ChannelsAndGates :
    (let s : State := { sets with flash := { sets.flash with chans := [(63, { rate := 4800 })] } }
     (s.chan 63).rate = 4800 ∧ ∀ d ∈ s.flash.dies, d.1 / 4 % 512 = 63 * 8 + 7 → d.2.st.atNand = false) ∧
    (sets.dieSet 1).plm.entering = none ∧
    (let s : State := { sets with zone := { sets.zone with dieSets := [(1, { groups := [0], plm := { entering := some (0, 7) } })] } }
     (s.dieSet 1).plm.entering = some (0, 7) ∧ s.diesOf 1 = [0] ∧ ∀ k ∈ s.diesOf 1, (s.die k).st = .idle ∧ (s.die k).long = none) ∧
    7 < 8 ∧ 7 ∉ sets.flash.closed ∧ 7 ∈ ({ sets with flash := { closed := [7] } } : State).flash.closed ∧
    sets.armedRails 1 ≠ 0 ∧ sets.armedRails 0 = 0 ∧ ({ sets with power := { confirmed := 550 } } : State).armedRails 1 = 0 := by decide

def full : RowRec := { nsid := 1, zone := some 0, endAt := some 0, pool := [(4, [0])], verified := true }
/-- `sets` with row 0 of group 0 as given, waiting for verify. -/
def withRow (r : RowRec) : State :=
  { sets with flash := { sets.flash with rows := [(0, r)], verifyQ := [{}] } }
theorem test_meets_VerifyAndRelease :
    (({} : RowRef) ∉ sets.flash.verifyQ ∧ sets.scanning {} = false) ∧
    (let s := withRow full
     ({} : RowRef) ∈ s.flash.verifyQ ∧ s.scanning {} = false ∧ s.refireTo {} = none ∧ s.relocTo {} = none ∧
      (s.zone.dieSets.all fun d => d.2.keptRows.isEmpty) = true ∧
      s.verifyPasses { cbc := s.cfgOf Cfg.MEDIA_VFY_CBC } = true ∧ s.verifyPasses { cbc := s.cfgOf Cfg.MEDIA_VFY_CBC + 1 } = false ∧
      (s.rowRec {}).verified = true ∧ (s.rowRec {}).pool ≠ [] ∧ (s.dieSet (s.ns (s.rowRec {}).nsid).dieSet).kept = false) ∧
    (let r : FlashOp := { kind := .internalRead, owner := .scan {} }
     let s : State := { withRow full with flash := { (withRow full).flash with dies := [(0, { present := true, shortQ := [r] })] } }
     s.scanning {} = true) ∧
    (let s : State := { withRow { full with parity := [(0, [1])] } with zone := { sets.zone with dieSets := [(1, { groups := [0], kept := true })] } }
     (s.dieSet (s.ns (s.rowRec {}).nsid).dieSet).kept = true ∧ (s.rowRec {}).parity ≠ []) ∧
    ((withRow { full with verified := false }).rowRec {}).verified = false ∧
    ((withDie { retired := true }).die 0).retired = true ∧
    (let s : State := { sets with flash := { dies := [(9, { present := true })] } }
     (s.die 9).retired = false ∧ (s.die 9).present = true ∧ (s.die 9).inGroup = false) := by decide

theorem test_meets_FiringIndexRows :
    ((sets.takeCfg .summary fun _ => true).group 0).formed = true ∧ ([(0, 300)].find? fun e => decide (e.1 = 0)) = some (0, 300) ∧
    (((sets.takeCfg .summary fun _ => true).group 0).dies.all fun k => ((sets.takeCfg .summary fun _ => true).die k).mean.isNone) = true ∧
    sets.power.ps < 3 ∧ sets.flash.fiSilent = 0 ∧ 5 ≤ 5 ∧
    ({ sets with power := { ps := 3 } } : State).power.ps = 3 ∧ (sets.group 0).formed = true ∧ (1, 0) ∉ sets.flash.warned ∧
    (∀ e ∈ [(1, 0), (0, 3)], e ∈ ({ sets with flash := { warned := [e] } } : State).flash.warned) ∧ (sets.ns 1).zoned = true := by decide

def refireReq : RefireReq := { nsid := 1, zone := 0, reason := .threshold }
/-- Zone 0 of namespace 1 full in row 0, with a queued or a running Refire. -/
def refiring (q : List RefireReq) (x : List Refire) (r : RowRec) : State :=
  { sets with
    zone := { sets.zone with
      nss := [(1, { exists_ := true, mode := .clear, size := 2 * zoneBlocks, zones := [(0, { st := .zsf, row := some {} })] })]
      dieSets := [(1, { groups := [0], queue := q, running := x, retryZones := q })]
      groups := [(0, { formed := true, dies := List.range 16, zoneRows := 10, spareRows := 5, bound := [0] })] }
    flash := { sets.flash with rows := [(0, { nsid := 1, zone := some 0, endAt := some 0, trailer := List.range 16 }), (1, r)] } }
def refireEnt : Ent := { lo := 0, hi := zoneBlocks - 1, scope := scopeNs 1, prio := 0x40, payload := 0x8000 }
theorem test_meets_RefireSteps_start :
    (∀ q ∈ ((refiring [] [] {}).dieSet 1).queue, (refiring [] [] {}).refireReady 1 q = false) ∧
    (let s := refiring [refireReq] [] {}
     (s.dieSet 1).queue.filter (s.refireReady 1) = [refireReq] ∧ refireReq.reason = .threshold ∧ refireReq.nsid ≠ 0 ∧
      s.placeAmong 1 (s.targetGroup refireReq) = some { row := 1 } ∧
      (s.insertEntry refireEnt { seq := s.intake.seqNext, nsid := 1, tag := s.flash.nextJob, supply := 0 } true).1 = some 65535 ∧
      (((s.dieSet (s.reqSet 1 0)).retryZones.find? fun q => decide (q.nsid = 1) && decide (q.zone = 0)) = some refireReq)) := by decide
theorem test_meets_RefireSteps :
    (∀ n ∈ [0, 1], ∀ v ∈ [false, true], ∀ w ∈ [false, true], ∀ p ∈ [false, true],
      let x : Refire := { job := 3, nsid := n, zone := 0, target := { row := 1 }, verified := v, switched := w, programmed := p }
      let s := refiring [] [x] { endAt := some 0, pool := [(4, [0])] }
      s.refireJob 3 = some (1, x) ∧ (s.ns 1).exists_ = true ∧ s.sieve.walks.length < 64 ∧
      s.readsBefore { row := x.old, nsid := n, lo := 0, hi := zoneBlocks - 1, seq := 0 } = false ∧
      (∀ u < s.unitsIn x.target, u ∈ (s.rowRec x.target).done) ∧ (s.rowRec x.target).covered = true) ∧
    64 ≤ ({ up with sieve := { walks := List.replicate 64 {} } } : State).sieve.walks.length := by decide

def convNs : Ns := { exists_ := true, mode := .clear, zoned := false, size := 100, rows := (List.range 4).map fun r => { row := r }, relRow := some { row := 2 }, map := [(5, { row := some {} })] }
/-- A conventional namespace of three rows, row 0 full. -/
def conv (q : List (Nat × RowRef × Reason)) (y : List Reloc) : State :=
  { sets with
    zone := { sets.zone with
      nss := [(1, convNs)]
      dieSets := [(1, { groups := [0], convQ := q, relocs := y, retryRows := [(1, {})] })]
      groups := [(0, { formed := true, dies := List.range 16, zoneRows := 10, spareRows := 5 })] }
    flash := { sets.flash with rows := [(0, { nsid := 1, endAt := some 6, done := List.range 7 })] } }
theorem test_meets_RelocationSteps :
    (sets.ns 1).zoned = true ∧
    (let s := conv [] []
     (s.ns 1).zoned = false ∧ (s.ns 1).exists_ = true ∧ (∀ q ∈ (s.dieSet 1).convQ, q.1 ≠ 1) ∧
      max 2 (ceilDiv (2 * s.convRowsAll 1) 100) ≤ s.convRowsFree 1 ∧ (∀ d ∈ s.zone.dieSets, ∀ x ∈ d.2.relocs, x.job ≠ 0) ∧
      (1, ({} : RowRef)) ∈ (s.dieSet (s.ns 1).dieSet).retryRows ∧ s.domainOff 64 = false ∧ dieNameOk 0 = true) ∧
    (let s := conv [(1, {}, .threshold)] []
     (s.dieSet (s.ns 1).dieSet).convQ = [(1, {}, .threshold)] ∧ (s.dieSet (s.ns 1).dieSet).relocs = [] ∧ s.settling = false ∧
      (s.dieSet (s.ns 1).dieSet).failedRows = [] ∧ s.programmed {} = true ∧ s.relTarget 1 ≠ none) ∧
    ({ sets with power := { entering := some 3 } } : State).settling = true ∧
    (let y : Reloc := { job := 2, nsid := 1, target := { row := 1 }, units := [(5, 0, 0)], verified := true }
     let s := conv [] [y]
     s.zone.dieSets = [(1, s.dieSet 1)] ∧ (s.dieSet 1).relocs = [y] ∧ y.job = 2 ∧ y.verified = true ∧ y.switched = false) := by decide

theorem test_meets_IntegrityRows :
    let s (x : FixJob) : State := { refiring [] [] {} with fixity := { jobs := [(63, x)], testBusy := true } }
    (∀ x ∈ [({} : FixJob), { st := 1, cancelling := true, zones := 1 }, { st := 1, zones := 2, started := 2 },
      { st := 1, zones := 9, active := [0, 1, 2, 3] }], let y := (s x).job 63
      y.st ≠ 1 ∨ y.cancelling = true ∨ y.zones ≤ y.started ∨ 4 ≤ y.active.length) ∧
    (∀ f < 3, let x := (s { st := 1, nsid := 1, first := f, zones := 1, active := [7, 8, 9] }).job 63
      x.st = 1 ∧ x.cancelling = false ∧ x.started < x.zones ∧ x.active.length < 4 ∧ (s x).settling = false ∧
      ∀ r ∈ ((s x).dieSet ((s x).ns x.nsid).dieSet).running, r.nsid = x.nsid → r.zone ≠ f) ∧
    (∀ c ∈ [false, true], let t := s { st := 1, nsid := 1, active := [0], cancelling := c }
      (t.job 63).st = 1 ∧ 0 ∈ (t.job 63).active ∧ (t.job 63).cancelling = c ∧ (t.zoneAt (t.job 63).nsid 0).trailer = none ∧
      t.scanning (t.zoneRow (t.job 63).nsid 0) = false) ∧
    (let t : State := { s { st := 1, nsid := 1, active := [0] } with
       zone := { sets.zone with nss := [(1, { exists_ := true, zones := [(0, { st := .zsf, trailer := some {} })] })] } }
     (t.job 63).cancelling = false ∧ (t.zoneAt (t.job 63).nsid 0).trailer = some {} ∧ t.scanning (t.zoneRow (t.job 63).nsid 0) = false) ∧
    (s { st := 1 }).takes 0 7 = true ∧ (((s { st := 1 }).taken 0 7).job 63).st ≠ 0 ∧ (((s { st := 1 }).taken 0 7).job 63).owner = 0 ∧
    (((s { st := 1 }).taken 0 7).job 62).st = 0 ∧
    (s {}).fixity.testBusy = true ∧ up.fixity.testBusy = false := by decide

/-- In dump mode, the dump as given. -/
def dumping (d : Option Dump) (grave : Bool) : State :=
  { up with trail := { dumpMode := true, dump := d }, boot := { up.boot with pwrfailLow := true }, fault := { grave := grave } }
theorem test_meets_LossRows :
    (4999 < 5000 ∧ 5000 ≤ 5000) ∧ State.reset.noDump = true ∧ up.noDump = false ∧ up.trail.dumpMode = false ∧
    up.dumpDone = false ∧ (dumping (some {}) false).dumpDone = true ∧
    up.boot.pwrfailLow = false ∧ ({ up with boot := { up.boot with pwrfailLow := true } } : State).boot.pwrfailLow = true ∧
    (∀ m ∈ [false, true], ∀ g ∈ [false, true], let s := dumping (some { marker := m }) g
      s.boot.pwrfailLow = true ∧ s.trail.dumpMode = true ∧ s.fault.grave = g ∧ s.trail.dump = some { marker := m }) ∧
    up.boot.phase = .ready ∧ (up.inst 0).shst ≠ 2 ∧ up.boot.shut = none ∧ up.power.ps < 3 ∧
    (let s := withTenant { ccEn := true }
     (s.inst 1).ccEn = true ∧ (s.inst 1).shst ≠ 2) ∧ 3 ≤ ({ up with power := { ps := 3 } } : State).power.ps ∧
    (let s : State := { up with boot := { up.boot with shut := some .normal } }
     s.boot.shut = some .normal ∧ (∀ x ∈ s.tenant.insts, x.2.st ≠ .stopping) ∧ s.busyTags = false ∧
      ({ s with intake := { tags := [(0, { stage := .staged })] } } : State).busyTags = true) := by decide

theorem test_meets_TrailRows :
    State.reset.trailOn = false ∧
    (let s : State := { up with trail := { half := [.quiet] } }
     s.trailOn = true ∧ s.trail.flushes = [] ∧ s.trail.half ≠ [] ∧ s.trail.ckptBusy = false) ∧
    (let s : State := { up with trail := { flushes := [{ seq := 1 }], ckptBusy := true, ckptSeq := 1 } }
     s.trail.flushes = { seq := 1 } :: [] ∧ s.trail.ckptBusy = true ∧ s.trailOn = true ∧ .ckptBegin s.trail.ckptSeq ∉ s.trail.half ∧
      ∀ f ∈ s.trail.flushes, .ckptBegin s.trail.ckptSeq ∉ f.recs) ∧
    (let s : State := { up with zone := { groups := [(3, { dumpHeld := true })] } }
     s.trailOn = true ∧ (s.group 3).dumpHeld = true ∧ s.dumpReplayed = true ∧ .dumpRelease 3 ∉ s.trail.half) := by decide

theorem test_meets_HamperRows :
    let s (x : HUnit) (p : Pool) : State := { up with hamper := { units := [(7, x)], pools := [(5, p)] } }
    let p (r : Bool) : Pool := { size := 2048, rebuild := r }
    let who : Requester := { kind := 3 }
    (∀ c ∈ [0, 254, 255], let t := s { st := 1, owner := .job, ownerId := 3, claims := c } (p false)
      t.owns 7 who.kind 3 = true ∧ t.owns 7 who.kind 4 = false ∧ (t.hunit 7).st = 1 ∧ (t.hunit 7).claims = c) ∧
    ((s {} (p false)).hunit 7).st ≠ 1 ∧
    (∀ w ∈ [0, 2], let x := (s { st := 2, claims := 2, claimWaits := w } (p false)).hunit 7
      x.claims ≠ 0 ∧ x.claimWaits = w ∧ (x.st = 2 → x.claims ≠ 1)) ∧
    (∀ r ∈ [false, true], ((s {} (p r)).pool 5).rebuild = r ∧ ((s {} (p r)).pool 5).waiting = [] ∧
      ((s {} (p r)).pool 5).free < 2049 ∧ 2048 ≤ ((s {} (p r)).pool 5).free) ∧ 5 ≤ 5 := by decide

def desc (op : Nat) : GDesc := { op := op, slotA := 5, genA := 1, slotB := 6, genB := 1 }
/-- Slots 0, 5 and 6 Ready at generation 1, lane 2 running a descriptor. -/
def glazed : State :=
  { up with glaze := {
      slots := [(0, { st := .ready }), (5, { st := .ready, gen := 1 }), (6, { st := .ready, gen := 1 })]
      lanes := [(2, { running := some (desc 6) }), (3, { running := some (desc 1), contexts := [{ desc := desc 2 }] })] } }
theorem test_meets_GlazeDescriptors :
    gdOk (desc 0) = false ∧ gdOk (desc 8) = false ∧
    (∀ op ∈ [1, 2, 3, 4, 5, 6, 7], gdOk (desc op) = true ∧ (∀ k ∈ gdSlots (desc op), (glazed.slotAt k).st = .ready) ∧
      glazed.gdFresh (desc op) = true) ∧ glazed.gdFresh { desc 1 with genA := 2 } = false ∧
    glazed.glaze.urgentQ.length < 256 ∧ glazed.glaze.bulkQ.length < 2048 ∧
    (∃ k ∈ gdSlots { desc 1 with slotA := 2047 }, (glazed.slotAt k).st ≠ .ready) ∧ (glazed.lane 0).running = none ∧
    (glazed.lane 2).running = some (desc 6) ∧ (glazed.lane 0).contexts = [] ∧ (glazed.lane 3).contexts ≠ [] ∧
    (glazed.lane 3).running ≠ none := by decide

/-- Range 1 of namespaces 1 and 3 in slot 5, its key 77 wrapped under K_wrap alone; slot 5 as given. -/
def keyed (x : Slot) : State :=
  { up with
    zone := { nss := [(1, { exists_ := true, mode := .xts }), (2, { exists_ := true, mode := .keyPerIo }), (3, { exists_ := true, mode := .sealed_ })
      , (4, { exists_ := true, mode := .clear })] }
    glaze := {
      rootKeys := true, slots := [(5, x)], credentials := [(1, some 42)], authenticated := [1]
      ranges := [(1 * 128 + 1, { exists_ := true, slot := 5, wrapped := { under := kWrap up.drk, key := 77 } }),
        (3 * 128 + 1, { exists_ := true, slot := 5, wrapped := { under := kWrap up.drk, key := 77 } })]
      keks := [(2, some { under := kWrap up.drk, key := 9 })], keyTags := [(2 * 1024 + 1023, some 5)] } }
theorem unwraps (r : LockRange) (x : Slot) (h : r.readLockEnabled = false ∧ r.writeLockEnabled = false)
    (w : r.wrapped = { under := kWrap up.drk, key := 77 }) : r.wrapped.unwrap ((keyed x).wrapUnder r) = some 77 := by
  have e : (keyed x).wrapUnder r = kWrap up.drk := by simp [State.wrapUnder, State.guard, h.1, h.2]; rfl
  simp [Wrapped.unwrap, w, e]
/-- For KeySlotRows and AlarmRows. -/
theorem test_meets_KeyAlarmRows :
    (((keyed {}).range 1 1).exists_ = true ∧ (keyed {}).glaze.rootKeys = true ∧
      ((keyed {}).range 1 1).wrapped.unwrap ((keyed {}).wrapUnder ((keyed {}).range 1 1)) = some 77 ∧ ((keyed {}).ns 1).mode ≠ .sealed_) ∧
    ((keyed {}).range 1 2).exists_ = false ∧
    (∀ st ∈ [SlotState.ready, .draining], ∀ a ∈ [0, 1], ((keyed { st := st, accepted := a }).slotAt 5).st = st ∧
      ((keyed { st := st, accepted := a }).slotAt 5).accepted = a) ∧ (5 ≠ 0 ∧ 3 ≤ 3 ∧ 3 < 4) ∧
    (1 ≤ 1 ∧ 5 ≤ 5 ∧ 5 < 6) ∧ up.glaze.alarm = none ∧ up.otpFailure = none ∧
    (let s : State := { up with glaze := { alarm := some 5 } }
     s.glaze.alarm ≠ none ∧ s.glaze.alarmGrave = false ∧ s.derivesNothing = false ∧ s.otpFailure = none) := by
  have e (s : State) (h : s.boot = up.boot) : s.otpFailure = none := by
    have a : s.otpRow 0 = 0 ∧ s.otpRow 1 = 0 ∧ s.otpRow 9 = 0 ∧ s.otpRow 10 = 0 ∧ s.otpRow 11 = 0 ∧ s.otpRow 12 = 0 ∧ s.otpRow 13 = 0 := by
      simp only [State.otpRow, h]; decide
    have b : s.lifecycle = 0 := by simp only [State.lifecycle, State.lifeGroup, a]; decide
    simp only [State.otpFailure, b, State.lifeGroup, a]
    simp
    decide +kernel
  refine ⟨⟨by decide, by decide, unwraps _ _ (by decide) rfl, by decide⟩, by decide, by decide, by decide, by decide, by decide, e _ rfl,
    by decide, by decide, by decide, e _ rfl⟩

/-- For OpalRows and KeyPerIoRows. -/
theorem test_meets_OpalKeyRows :
    (keyed {}).glaze.credentials.get none 1 = some 42 ∧ (keyed {}).glaze.credentials.get none 1 ≠ some 41 ∧
    1 ∈ (keyed {}).glaze.authenticated ∧ (keyed {}).mayAct 1 = true ∧ (keyed {}).glaze.drbgFail = false ∧
    ({ keyed {} with glaze := { (keyed {}).glaze with authenticated := [], drbgFail := true } } : State).mayAct 1 = false ∧
    ({ keyed {} with glaze := { (keyed {}).glaze with drbgFail := true } } : State).glaze.drbgFail = true ∧
    (∀ r ∈ (keyed {}).glaze.ranges, r.2.authority ≠ some 1) ∧
    (((keyed {}).ns 1).exists_ = true ∧ 127 ≤ 127 ∧ 127 < 128 ∧ ((keyed {}).range 1 1).exists_ = true ∧ ((keyed {}).range 1 1).authority = none) ∧
    (((keyed {}).range 4 127).exists_ = false ∧ ((keyed {}).range 4 127).authority = none ∧ ((keyed {}).ns 4).exists_ = true ∧
      ((keyed {}).ns 4).mode = .clear ∧ ((keyed {}).ns 1).mode = .xts) ∧
    (((keyed {}).ns 2).mode = .keyPerIo ∧ 1023 < 1024 ∧ (keyed {}).kekOf 2 = some 9 ∧ (keyed {}).kekOf 2 ≠ some 8 ∧
      (keyed {}).glaze.keyTags.get none (2 * 1024 + 0) = none ∧ (keyed {}).slotsHeld 0 < ((keyed {}).inst 0).keyQuota ∧
      (keyed {}).freeSlot = some 1 ∧ (keyed {}).glaze.keyTags.get none (2 * 1024 + 1023) = some 5 ∧
      ((keyed { st := .ready }).slotAt 5).st = .ready ∧
      (({ keyed {} with tenant := { insts := [(0, { host with keyQuota := 0 })] } } : State).inst 0).keyQuota ≤ (keyed {}).slotsHeld 0) ∧
    ((keyed {}).keyWait 1 = false ∧ (keyed {}).keyWait 3 = true ∧
      ({ keyed {} with zone := { (keyed {}).zone with dieSets := [(1, { queue := [{ nsid := 3 }] })] } } : State).refiresWait 3 = true) := by
  have k : (keyed {}).kekOf 2 = some 9 := by
    have d : (keyed {}).drk = up.drk := rfl
    have w : (keyed {}).glaze.keks.get none 2 = some { under := kWrap up.drk, key := 9 } := rfl
    have g : (keyed {}).glaze.rootKeys = true := rfl
    simp [State.kekOf, d, w, g, Wrapped.unwrap]
  refine ⟨by decide, by decide, by decide, by decide, by decide, by decide, by decide, by decide, by decide, by decide,
    ⟨by decide, by decide, k, by rw [k]; decide, by decide, by decide, by decide, by decide, by decide, by decide⟩, by decide⟩

/-- A trained channel 0 with the given queue on subchannel 1. -/
def dram (q : List (Nat × DEntry)) (x : Subchannel) : State :=
  { up with dram := { rate := 4800, chans := [(0, { queue := q, subs := [(1, x)] })] } }
def rd (id : Nat) : DramReq := { id := id, addr := 3, bank := 5 }
theorem test_meets_DramRows_requests :
    (dram [] {}).dramOn 0 1 = true ∧ ((dram [] {}).dchan 0).queuedWrite 1 3 = none ∧
    (let w : Nat × DEntry := (1, { req := { rd 1 with write := true } })
     ((dram [w] {}).dchan 0).queuedWrite 1 3 = some w) ∧
    ((dram [] {}).dramHeld 0 1 = false ∧ (dram [] {}).selfRefresh = false) ∧
    ({ dram [] {} with power := { ps := 3 } } : State).selfRefresh = true ∧
    bankIndex 5 ∈ (((dram [] { forced := [1] }).dchan 0).sub 1).forced ∧ bankIndex 5 ∉ (((dram [] {}).dchan 0).sub 1).forced ∧
    (dram [] {}).dramNext 0 1 5 = none ∧ (dram [(1, { req := rd 4 })] {}).dramNext 0 1 5 = some (1, { req := rd 4 }) ∧
    (∀ p ∈ [none, some 8], ∀ v ∈ [false, true], let r : DramReq := { rd 4 with page := p, priv := v }
      ((((dram [] { inFlight := [{ req := r }] }).dchan 0).sub 1).inFlight.find? fun e => decide (e.req.id = 4)) = some { req := r } ∧
      r.write = false ∧ r.trail = false ∧ r.unit = none) ∧ ({ req := rd 4 } : DEntry).got.poison = false := by decide
theorem test_meets_DramRows_upkeep :
    (∀ e ∈ ((dram [(1, { req := rd 4 })] {}).dchan 0).queue, e.1 = 1 → bankIndex e.2.req.bank ≠ 3) ∧
    (∀ r ∈ (((dram [] { rows := [(5, 9)] }).dchan 0).sub 1).rows, bankIndex r.1 ≠ 3) ∧
    (∃ e ∈ ((dram [(1, { req := rd 4 })] {}).dchan 0).queue, e.1 = 1 ∧ bankIndex e.2.req.bank = 1) ∧
    (∀ n ∈ [2, 1], let x := ((dram [(1, { req := rd 4 })] { refLimit := n }).dchan 0).sub 1
      1 ∉ x.forced ∧ x.postponed.get 0 1 + 1 = 1 ∧ x.refLimit = n) ∧
    (dram [] {}).dram.training = none ∧ (dram [] {}).trail.dumpMode = false ∧
    ((((dram [] {}).dchan 0).sub 1).mem.get {} 9).poison = false ∧ 4800 ∈ dramRates ∧
    4800 < ({ dram [] {} with dram := { rate := 5600 } } : State).dram.rate := by decide

/-- Port 0 as given, its function enabled for every L1 substate and L0p. -/
def linked (dual : Bool) (x : PPort) : State :=
  { up with
    boot := { up.boot with dualPort := dual }
    pcie := { ports := [(0, x), (1, x)], funcs := [(0, { l1 := true, l11 := true, l12 := true, l0p := true })], ide := { secure := true } }
    tenant := { insts := [(0, host), (1, { pmeEn := true, dState := 3, events := [(0, 0, 0)], msixMasked := [2047], msixPending := [2047] })] } }
theorem test_meets_PcieLinks :
    (999 < 1000 ∧ 1000 ≤ 1000) ∧
    (∀ b ∈ [false, true], (linked b {}).portExists 1 = b ∧ (linked b {}).boot.dualPort = b ∧ (linked b {}).boot.io33Low = false ∧
      (linked b {}).boot.phase = .ready ∧ (linked b {}).trail.dumpMode = false ∧ (linked b {}).fault.graveStopped = false ∧
      (linked b {}).portExists 0 = true ∧ ((linked b {}).port 0).perst = true ∧ (linked b {}).power.ps < 3) ∧
    3 ≤ ({ linked false {} with power := { ps := 3 } } : State).power.ps ∧
    (((linked false { perst := false }).port 0).perst = false ∧ ((linked false { perst := false }).port 0).up = false) ∧
    (linkRates.contains 64 = true ∧ [8, 4, 2, 1].contains 8 = true ∧ [16, 8, 4, 2, 1].contains 16 = true) ∧
    (let s : State := { linked false { perst := false, up := true, active := 16, width := 16 } with
       now := (linked false {}).intake.idleAt + (linked false {}).cfgOf Cfg.PCIE_L1_IDLE_US * 100 }
     (s.port 0).up = true ∧ (s.func (s.portPf 0)).l1 = true ∧ s.busyTags = false ∧ s.intake.notices = [] ∧
      (∀ sub ∈ [0, 1, 2], s.subAllowed (s.func (s.portPf 0)) sub = true) ∧ (s.port 0).l = .l0 ∧ (s.func (s.portPf 0)).l0p = true ∧
      s.l0pMin ≤ (s.port 0).active / 2 ∧ s.power.ps < 3 ∧ s.intake.idleAt + s.cfgOf Cfg.PCIE_L1_IDLE_US * 100 ≤ s.now) ∧
    ((linked false { up := true, active := 2 }).port 0).active / 2 < (linked false {}).l0pMin ∧
    ((linked false { up := true, l := .l12 }).port 0).l ≠ .l0 ∧
    (let s := linked false {}
     (s.inst 1).pmeEn = true ∧ (s.inst 1).dState = 3 ∧ (∃ e ∈ s.tenant.insts, e.1 = 1 ∧ e.2.events ≠ []) ∧ 2047 ∈ (s.inst 1).msixMasked ∧
      2047 ∈ (s.inst 1).msixPending ∧ s.ideBlocked = false ∧ s.reaches (.msi 1 2047) = true) := by decide

/-- Provisioned, with two SPDM sessions, an object in the mailbox and keys for both directions. -/
def spdm (x : DoeBox) : State :=
  { staged flush with
    boot := { up.boot with otp := [(13, 255)] }
    pcie := { ports := [(0, { perst := false, up := true })], does := [(0, x)]
              ide := { enabled := true, secure := true, stream := 4, keys := [(0, some 1), (1, some 2)], inUse := [(0, some 0), (1, some 1)] } } }
theorem test_meets_PcieMessages :
    (3 ≤ 3 ∧ ((spdm {}).tag 5).stage = .staged ∧ ((spdm {}).tag 5).fate = 0) ∧
    (let x := ({ spdm {} with intake := { tags := [(5, { stage := .inFlight, cmd := { opc := .write, args := [1, 0, 1] } })] } } : State).tag 5
     x.stage = .inFlight ∧ x.fate = 0 ∧ x.cmd.fwNeed ≠ 0) ∧ (spdm {}).doeOn 0 = true ∧ ((spdm {}).doe 0).object = none ∧
    (∀ h ∈ [(0x20001, 2), (0x10001, 1), (1, 0)], h.1 % 65536 = 1 ∧ bits h.1 16 8 = h.2) ∧
    ((spdm { object := some [1] }).doe 0).object ≠ none ∧ (∃ k, (spdm {}).identityKey = some k) ∧ State.reset.identityKey = none ∧
    ((spdm { sessions := [1] }).doe 0).sessions.length < 2 ∧ 2 ≤ ((spdm { sessions := [1, 2] }).doe 0).sessions.length ∧
    9 ∉ ((spdm { sessions := [1, 2] }).doe 0).sessions ∧ 1 ∈ ((spdm { sessions := [1, 2] }).doe 0).sessions ∧
    (spdm {}).boot.dualPort = false ∧ 1 ≤ 1 ∧ (spdm {}).pcie.ide.hasKey 0 1 = true ∧ (spdm {}).pcie.ide.hasKey 1 1 = false ∧
    (spdm {}).pcie.ide.enabled = true ∧ ((spdm {}).pcie.ide.inUse.get none (1 - 1)).isSome = true ∧
    (spdm {}).pcie.ide.inUse.get none 1 = some 1 ∧ (spdm {}).pcie.ide.inUse.wf none = true ∧ (spdm {}).pcie.ide.secure = true ∧
    up.pcie.ide.secure = false ∧ 511 < 512 ∧ ((spdm {}).port ((spdm {}).portOf 511)).perst = false ∧
    ((spdm {}).port ((spdm {}).portOf 511)).up = true ∧ (spdm {}).boot.phase = .ready ∧ (spdm {}).power.ps < 3 ∧
    (∀ p ∈ [Phase.down], p ≠ .ready) ∧
    (let s : State := { spdm {} with power := { ps := 3 } }
     3 ≤ s.power.ps ∧ 3 ≤ (s.wake 1).power.ps) := by
  have k : ∃ k, (spdm {}).identityKey = some k := by
    have h : ¬((spdm {}).lifecycle = 0 ∨ (spdm {}).glaze.alarm.isSome = true) := by decide
    exact ⟨_, by simp only [State.identityKey]; rw [if_neg h]⟩
  refine ⟨by decide, by decide, by decide, by decide, by decide, by decide, k, ?_⟩
  decide

def slept (ps : Nat) : State := { up with power := { ps := ps, portWake := some 2 } }
def apstUp (p : PowerPart) : State :=
  { up with tenant := { insts := [(0, { host with apstOn := true, apst := List.replicate 3 (1, 4) })] }, power := p }
/-- A tenant with an admin command, instance 0 with none. -/
def quiet : State := { up with tenant := { insts := [(0, { host with sqs := [(0, { queue 0 with tail := 0 })] }), (1, tenant)] } }
theorem test_meets_PowerStateRows_features :
    up.takes 0 7 = true ∧ quiet.takes 1 7 = true ∧ 1 ≠ 0 ∧ (4 ≤ 4 ∧ 4 < 5 ∧ 2 < 3 ∧ 3 ≤ 3) ∧
    ((List.replicate 32 (1, 4)).length ≤ 32 ∧ ∀ e ∈ List.replicate 32 (1, 4), e.1 = 0 ∨ e.2 = 3 ∨ e.2 = 4) ∧ (1, 2) ∈ [(1, 2)] ∧
    (2 < 3 * 65536 / 65536 ∧ 3 * 65536 / 65536 ≠ 15 ∧ 15 * 65536 / 65536 = 15 ∧ 2 * 65536 / 65536 ≤ 2) := by decide
theorem test_meets_PowerStateRows_entry :
    (slept 3).entryOk = false ∧
    (let s := apstUp { chosen := some 4 }
     s.entryOk = true ∧ s.power.chosen = some 4 ∧ s.power.backoff = none ∧ s.programsLeft = false ∧
      s.power.refusals + 1 < s.cfgOf Cfg.PWR_TRIES ∧ s.cfgStaged = [] ∧ ({ s with now := 100000 } : State).apstState = some 4 ∧
      ({ s with now := 100000 } : State).entryOk = true ∧ up.apstState = none ∧
      ({ s with flash := { dies := [(0, { long := some { kind := .qlcUnit } })] } } : State).entryOk = true ∧
      ({ s with flash := { dies := [(0, { long := some { kind := .qlcUnit } })] } } : State).programsLeft = true) ∧
    (let s := apstUp { chosen := some 4, backoff := some 10 }
     s.power.backoff = some 10 ∧ s.power.chosen = some 4 ∧ s.now < 10 ∧ s.entryOk = true ∧
      10 ≤ ({ s with now := 10 } : State).now ∧ ({ s with now := 10 } : State).entryOk = true ∧
      ({ s with trail := { dumpMode := true } } : State).entryOk = false) ∧
    (let s : State := { up with power := { entering := some 3 } }
     s.power.entering = some 3 ∧ s.trail.dumpMode = false ∧ s.diesIdle = true ∧ s.intakeIdle = true ∧ s.faultVote = none ∧
      ({ s with fault := { srcs := [(3, { count := 1 })] } } : State).faultVote ≠ none ∧
      ({ s with intake := { tags := [(0, { stage := .staged })] } } : State).intakeIdle = false ∧
      ({ s with flash := { dies := [(0, { short := some {} })] } } : State).diesIdle = false) := by decide
theorem test_meets_PowerStateRows_sleep :
    (∀ p ∈ [3, 4], 3 ≤ (slept p).power.ps ∧ (slept p).power.exiting = none ∧ (slept p).power.maint = none ∧ (slept p).power.entering = none ∧
      (slept p).power.portWake = some 2 ∧
      (slept p).now < (slept p).power.sleptAt + (slept p).cfgOf Cfg.PWR_MAINT_H * 360000000000) ∧
    (let s : State := { slept 3 with now := 10000000 + (slept 3).cfgOf Cfg.PWR_MAINT_H * 360000000000 }
     s.power.sleptAt + s.cfgOf Cfg.PWR_MAINT_H * 360000000000 ≤ s.now ∧
      max s.power.wokenAt (max s.mgmt.smbusAt s.boot.frameAt) + 10000000 ≤ s.now) ∧
    (slept 3).now < max (slept 3).power.wokenAt (max (slept 3).mgmt.smbusAt (slept 3).boot.frameAt) + 10000000 ∧
    (let s : State := { up with power := { ps := 3, exiting := some (6, 0) } }
     s.power.exiting = some (6, 0) ∧ s.power.avs = none ∧ s.power.confirmed = s.power.running ∧ s.power.held = [] ∧
      ({ s with power := { s.power with confirmed := 550 } } : State).power.confirmed ≠ s.power.running) ∧
    (let s : State := { up with power := { ps := 3, maint := some 3 } }
     s.power.maint = some 3 ∧ s.diesIdle = true ∧ s.intakeIdle = true ∧ s.programsLeft = false ∧
      ({ s with intake := { tags := [(0, { stage := .staged })] } } : State).intakeIdle = false ∧
      (none : Option (Nat × Nat)).or (((s.flushAll.mapAll).park.trailRec .quiet).flushAll).preCheck = none) := by decide

theorem test_meets_PowerDomainRows :
    up.cfgOf Cfg.PWR_IDLE_GATE = 1 ∧ up.power.ps < 3 ∧ (up.power.domains.get {} 63).st = 0 ∧ (63 < 64 ∧ ({ up with now := 10000000 } : State).channelIdle 63 = true) ∧
    ({ up with now := 100000 } : State).upperLanesIdle = true ∧ (64 ≤ 64 ∧ 64 ≠ 79) ∧ ({ up with cfg := [(cfgKey Cfg.PWR_IDLE_GATE 0, some 0)] } : State).cfgOf Cfg.PWR_IDLE_GATE ≠ 1 ∧
    (∀ k ∈ [1, 2], let s : State := { up with power := { domains := [(95, { st := k, autoWakes := 65534 })] } }
      95 ≤ 95 ∧ s.power.ps < 3 ∧ (s.power.domains.get {} 95).st = k ∧ (s.power.domains.get {} 95).autoWakes < 65535) ∧ 3 ≤ (slept 3).power.ps ∧
    (up.power.avs = none ∧ up.power.entering = none ∧ up.power.exiting = none ∧ 745 ≤ up.coreCeiling ∧ 745 % 5 = 0 ∧
      745 ≠ up.power.confirmed ∧ up.cone.trip = false ∧ up.cone.asked = false ∧ 600 ≤ 600 ∧ 599 < 600 ∧ up.coreCeiling < 751) ∧
    (∀ r ∈ [false, true], let a : AvsStep := { mv := 700, retried := r, at_ := 0 }
      let s : State := { up with now := 5, power := { avs := some a } }
      s.power.avs = some a ∧ a.retried = r ∧ s.avsDue a .nothing = false ∧
      avsConfirms (.readback 690) 700 = true ∧ avsConfirms (.readback 689) 700 = false ∧ avsConfirms .nothing 700 = false ∧
      ({ s with now := 100000 } : State).avsDue a (.readback 690) = true ∧ ({ s with now := 100000 } : State).avsDue a .nothing = true) ∧
    (let s : State := { up with power := { ps := 3, exiting := some (6, 0), confirmed := 550, failedAt := 5 } }
     s.power.exiting.isSome = true ∧ s.power.avs = none ∧ s.power.confirmed ≠ s.power.running ∧ s.now < s.power.failedAt + 100000 ∧
      s.power.failedAt + 100000 ≤ ({ s with now := 100005 } : State).now) := by decide

theorem test_meets_OffDomainRead :
    let s : State := { up with power := { domains := [(85, { st := 1 })] } }
    s.domainOff (s.regDomain 0x7000) = true ∧ s.tablesCanonical = true ∧ up.domainOff (up.regDomain 0x7000) = false := by decide

theorem test_meets_ThermalRows :
    (slept 4).power.ps = 4 ∧ (slept 4).power.maint = none ∧ up.power.ps ≠ 4 ∧
    (let u : State := State.roundFigures (State.noteStress { up with cone := { up.cone with asked := false } } [])
     u.asleep = false ∧ u.cone.discarded < 2) ∧
    2 ≤ (State.roundFigures (State.noteStress { up with cone := { discarded := 2 } } [])).cone.discarded ∧
    sets.readingsOf [] = [] ∧ sets.readingsOf [(0, 40)] ≠ [] ∧ up.cone.failed = [] ∧
    ((-320 : Int) ≤ -320 ∧ (1200 : Int) ≤ 1200 ∧ (-321 : Int) < -320 ∧ (1200 : Int) < 1201) ∧
    up.cone.trip = false ∧ 25 ≤ 25 ∧ (25 - 24 ∉ up.cone.failed) ∧ 25 < 26 ∧ ({ up with cone := { trip := true } } : State).cone.trip = true := by
  decide

def word (source kind cls : Nat) : Nat := ({ source := source, kind := kind, cls := cls } : Msg).word
/-- The handler runs, with `n` messages behind it. -/
def handling (n : Nat) : State :=
  { up with fault := { handler := some { cls := 2 }, queue := List.replicate n {} } }
theorem test_meets_FaultRows :
    alarmSource (Msg.ofWord (word 0x1C5 0x52 2)).source = true ∧
    (∀ c ∈ [0, 1, 2, 3], alarmSource (Msg.ofWord (word 0xFFF 0x26 c)).source = false ∧ (Msg.ofWord (word 0xFFF 0x26 c)).cls = c) ∧
    (handling 255).fault.queue.length < 256 ∧ 256 ≤ (handling 256).fault.queue.length ∧
    ((handling 256).src (countedSource 0xFFF)).held = none ∧ up.fault.handler = none ∧
    ((handling 0).fault.handler = some { cls := 2 } ∧ (handling 0).fault.grave = false ∧ ∀ x ∈ (handling 0).fault.srcs, x.2.held = none) ∧
    up.fault.grave = false ∧
    (let s : State := { handling 0 with fault := { (handling 0).fault with grave := true } }
     s.fault.grave = true ∧ s.fault.graveStopped = false ∧ s.graveStepDue = false ∧
      ({ s with trail := { dump := some { marker := true } } } : State).graveStepDue = true) ∧
    1 < (Msg.ofWord (word 0x200 0x28 2)).cls ∧ (Msg.ofWord (word 0xFFF 0x26 1)).cls ≤ 1 ∧ up.tablesCanonical = true := by decide +kernel

theorem test_meets_KilnRows :
    State.reset.areaOn = false ∧ up.areaOn = true ∧ up.segmentDue = false ∧ (up.klog.ring.filter fun r => !r.saved) = [] ∧
    (let s : State := { up with klog := { persistDue := true, ring := [{ saved := true, seq := 4 }, { length := segmentRoom, seq := 5 }] } }
     s.areaOn = true ∧ s.segmentDue = true ∧ (s.klog.ring.filter fun r => !r.saved) = { length := segmentRoom, seq := 5 } :: [] ∧
      (∃ r ∈ s.klog.ring, r.seq = 5) ∧ (∀ r ∈ s.klog.ring, r.seq ≠ 65535) ∧ s.tablesCanonical = true) ∧
    65535 < 65536 ∧ Tab.wf 0 ([(1, 3)] : Tab Nat) = true := by decide

/-! ### Signatures (R490): a block built from the keys that its own signatures give -/

def lmsKey (message : List Nat) : Nat := Config.lmsRoot 0 message 0 % 2 ^ 256
/-- A signer for every use whose keys are those of the signatures 0 over `m`. -/
def signerOf (m : Nat) : Signer :=
  { ecdsa := Config.ecdsaKey m 0 0, lms := lmsKey (be 48 m), validTo := 2 ^ 32 - 1, usage := 15 }
def signs (m : Nat) : SigBlock :=
  { signer := signerOf m, rootEcdsa := Config.ecdsaKey (Config.sha384 (signerBytes (signerOf m))) 0 0, rootLms := lmsKey (signerBytes (signerOf m)) }
theorem ecdsaOk_self (m : Nat) : ecdsaOk (Config.ecdsaKey m 0 0) m 0 = true := by simp [ecdsaOk, List.range_succ]
theorem lmsOk_self (l : List Nat) : lmsOk (lmsKey l) l 0 = true := by
  have h : lmsKey l < 2 ^ 256 := Nat.mod_lt _ (by decide)
  simp only [lmsOk, Nat.div_eq_of_lt h, Nat.mod_eq_of_lt h]
  simp [lmsKey]
theorem signs_ok (s : State) (m u : Nat) (hu : u < 4) (h : s.rootTrusted (signs m) = true) : s.blockOk (signs m) m u = true := by
  have b : ∀ u < 4, bit 15 u = true := by decide
  simp only [State.blockOk, h]
  simp [signs, ecdsaOk_self, lmsOk_self, signerOf, b u hu]
/-- A chain over no bytes. -/
def chain : Chain := { block := signs 0, parts := [0, 0] }
theorem chain_trusted (s : State) (h : s.lifecycle = 0) (m : Nat) : s.rootTrusted (signs m) = true := by
  unfold State.rootTrusted
  rw [h]
  rfl

/-- A configuration image's header of 4,352 bytes, with its CRC. -/
def cfgHdr : CfgHeader := let h : CfgHeader := { length := 4352 }; { h with crc := crc32c (cfgFront h) }
/-- Eight stripe groups formed, so that an image fits; a session over path `p`. -/
def eight (x : Option CfgSession) : State :=
  { up with zone := { groups := (List.range 8).map fun g => (g, { formed := true }) }, mgmt := { session := x } }
def timing : CfgRec := { id := Cfg.DMC_TIMING, idx := 0, value := 1 }
theorem test_meets_ConfigurationRows_image : (eight (some { path := 1, got := 4352, recs := [timing] })).imageStatus [timing] = 0 := by decide +kernel
theorem test_meets_ConfigurationRows_chain : (eight none).cfgChainOk cfgHdr { chain with parts := [0] } = true ∧
    (eight none).cfgChainOk cfgHdr { block := { magic := [] } } = false := by
  refine ⟨?_, by decide +kernel⟩
  have e := signs_ok (eight none) 0 1 (by decide) (chain_trusted _ (by decide) 0)
  simp only [State.cfgChainOk, State.chainOk, chain, e]
  decide +kernel
theorem test_meets_ConfigurationRows :
    (∀ p ∈ [0, 1], (eight none).mbxOn p = true) ∧ (eight none).mgmt.session = none ∧ (eight none).boot.shut = none ∧
    (eight none).cfgHeaderOk cfgHdr = true ∧ (eight none).cfgHeaderOk { cfgHdr with crc := cfgHdr.crc + 1 } = false ∧
    (256 ≤ 256 ∧ 255 < 256 ∧ 4096 ≤ 4096 ∧ 4096 < 4097 ∧ 4078 < 4079) ∧
    (∀ p ∈ [0, 1], let x : CfgSession := { path := p, got := 256 }
     (eight (some x)).mgmt.session = some x ∧ x.path = p ∧ 4 + 4074 ≤ 4078 ∧ 256 + 4074 ≤ x.hdr.length ∧ 255 ≠ x.got ∧ x.got ≠ x.hdr.length ∧
       x.hdr.length < x.got + 4097) ∧
    (let x : CfgSession := { path := 1, got := 4352, recs := [timing] }
     x.got = x.hdr.length ∧ (eight (some x)).mgmt.session = some x) ∧ recsLen [timing] true ≤ 4078 ∧
    (eight none).imageStatus [] ≠ 0 ∧
    [timing].all recKnown = true ∧ [({ id := 0xFFFF } : CfgRec)].all recKnown = false ∧ 3 < 4 ∧ 4 ≤ 4 ∧
    1 ∈ [1, 2, 3, 4, 0x10, 0x11, 0x20] ∧ 5 ∉ [1, 2, 3, 4, 0x10, 0x11, 0x20] ∧
    (eight none).reg Reg.CFG_MBX_CTRL_IEN = 0 ∧
    (let s := eight (some {})
     s.now < s.now + s.cfgOf Cfg.MGMT_SESSION_S * 100000000 ∧
      0 + s.cfgOf Cfg.MGMT_SESSION_S * 100000000 ≤ ({ s with now := 100000000 * s.cfgOf Cfg.MGMT_SESSION_S } : State).now) := by decide +kernel
theorem test_meets_ConfigurationRows_fields :
    (eight none).recsStatus [{ id := 0xFFFF }] (eight none).named ≠ 0 ∧
    (∀ r ∈ [(timing, CfgKind.static), (⟨Cfg.PWR_IDLE_GATE, 0, 0⟩, .live), (⟨Cfg.DMC_SCRUB_H, 0, 168⟩, .round), (⟨Cfg.FLT_ESC_COUNT, 0, 4⟩, .window)],
      (cfgInfo r.1.id).map (·.kind) = some r.2 ∧ (eight none).recsStatus [r.1] (eight none).named = 0) ∧
    (eight none).cfgAt timing.id timing.idx ≠ timing.value ∧ (eight none).tablesCanonical = true := by decide +kernel

/-- A block whose NVMe-MI transports are up, those listed paused. -/
def mi (paused : List Nat) : State :=
  { up with pcie := { ports := [(0, { perst := false, up := true })] }, mgmt := { miPaused := paused } }
theorem test_meets_NvmeMiRows :
    (up.boot.phase ≠ .fresh ∧ up.boot.io33Low = false ∧ up.power.ps < 3 ∧ up.power.entering = none) ∧
    (∀ tr ∈ [0, 1], (mi []).miUp tr = true ∧ tr ∉ (mi []).mgmt.miPaused ∧ tr ∈ (mi [0, 1]).mgmt.miPaused ∧ (mi [0, 1]).miUp tr = true ∧
      (let u := (mi []).miFrame tr
       u.boot.phase = .ready ∧ u.fault.graveStopped = false ∧ u.running = true ∧ u.adminBusy 0x09 = false) ∧
      (let s : State := { mi [] with fault := { graveStopped := true } }
       s.miUp tr = true ∧ tr ∉ s.mgmt.miPaused ∧ (s.miFrame tr).fault.graveStopped = true ∧ (s.miFrame tr).boot.phase = .ready)) ∧
    (mi []).boot.phase ≠ .bisque ∧ (4 ≤ 4 ∧ 5 ≤ 5 ∧ 1 ≤ 1 ∧ 3 ≤ 3 ∧ 3 < 4 ∧ 1 < 2) ∧
    (miConfigOk 1 3 = true ∧ miConfigOk 3 4096 = true ∧ miConfigOk 1 4 = false ∧ (1 : Nat) ≠ 2 ∧ (3 : Nat) ≠ 2) ∧
    (0 + 256 ≤ 256 ∧ 255 < 256 ∧ 256 < 255 + [1, 2].length) := by decide

/-- A firmware image's header of 8,192 bytes, each section 512 bytes long, with its CRC. -/
def fwHdr : FwHeader :=
  { length := 8192, rollback := 3, overlay := { offset := 512, length := 512 }, control := { offset := 1024, length := 512 }
    crc := 4077116464 }
theorem crc_split {a b c : Nat} {l : List Nat} (n : Nat) (h : (l.take n).foldl crcByte a = b) (g : (l.drop n).foldl crcByte b = c) :
    l.foldl crcByte a = c := by rw [← List.take_append_drop n l, List.foldl_append, h, g]
theorem fwHdr_crc : fwHdr.crc = crc32c (fwFront fwHdr) := by
  have h : (fwFront fwHdr).foldl crcByte 0xFFFFFFFF = 217850831 :=
    crc_split 127 (b := 1976688659) (by decide +kernel) (crc_split 127 (b := 3561624867) (by decide +kernel)
      (crc_split 127 (b := 121089242) (by decide +kernel) (by decide +kernel)))
  rw [crc32c, h]
  decide +kernel
theorem fwHdr_ok (s : State) (h : s.fwCounter = 0) : s.fwHeaderOk fwHdr = true := by
  have e : decide (fwHdr.crc = crc32c (fwFront fwHdr)) = true := decide_eq_true fwHdr_crc
  unfold State.fwHeaderOk
  have f : bit fwHdr.flags 0 = false := by decide
  rw [e, h, f]
  simp only [Bool.not_false, Bool.true_or]
  decide
def piece : Staging := { path := 1, hdr := fwHdr, pieces := [(0, 4096)] }
def whole (p : Nat) : Staging := { path := p, hdr := fwHdr, pieces := [(0, 4096), (4096, 4096)] }
/-- The block runs slot 1, in Blank; the slots, the staging area and the AON time are as given. -/
def slots (a b : Nat) (x : Option Staging) (now : Nat) : State :=
  { up with
    now := now
    boot := { phase := .ready, running := 1, slots := [(1, { st := a }), (2, { st := b })], staging := x }
    mgmt := { inForce := some 0, slots := [(0, some { hdr := { rollback := 3 } })] } }
theorem test_meets_FirmwareRows_chain : ∀ p ∈ [1, 2],
    ((slots slotConfirmed slotValid (some (whole p)) 0).taken 0 7).fwChainOk fwHdr chain = true ∧
    ((slots slotConfirmed slotValid (some (whole p)) 0).taken 0 7).fwChainOk fwHdr { block := { magic := [] } } = false := by
  intro p hp
  have l : ((slots slotConfirmed slotValid (some (whole p)) 0).taken 0 7).lifecycle = 0 := by revert p; decide +kernel
  refine ⟨?_, by revert p; decide +kernel⟩
  have e := signs_ok _ 0 0 (by decide) (chain_trusted _ l 0)
  have c : ((slots slotConfirmed slotValid (some (whole p)) 0).taken 0 7).fwCounter = 0 := by clear e l; revert p; decide +kernel
  simp only [State.fwChainOk, State.chainOk, chain, e, c]
  decide
theorem test_meets_FirmwareRows_download :
    (let s := slots slotConfirmed slotValid none 0
     let u := s.taken 0 7
     s.takes 0 7 = true ∧ u.boot.staging = none ∧ u.fwHeaderOk fwHdr = true ∧ u.fwHeaderOk { fwHdr with magic := [] } = false ∧
      512 ≤ 4096 ∧ 4096 ≤ fwHdr.length ∧ 4096 % 4096 = 0) ∧ (quiet.takes 1 7 = true ∧ 1 ≠ 0) ∧
    (let s := slots slotConfirmed slotValid (some piece) 0
     s.takes 0 7 = true ∧ (s.taken 0 7).boot.staging = some piece ∧ piece.path = 1 ∧ 4096 ≠ 0 ∧ 4096 + 4096 ≤ piece.hdr.length ∧
      piece.overlaps 4096 4096 = false ∧ piece.overlaps 4095 4096 = true ∧ 4095 + 4096 ≤ piece.hdr.length) :=
  ⟨⟨by decide +kernel, by decide +kernel, fwHdr_ok _ (by decide +kernel), by decide +kernel, by decide +kernel⟩, by decide +kernel⟩
theorem test_meets_FirmwareRows_commit :
    (let s := slots slotConfirmed slotValid (some (whole 1)) 0
     let u := s.taken 0 7
     s.takes 0 7 = true ∧ u.boot.staging = some (whole 1) ∧ (whole 1).path = 1 ∧ (whole 1).complete = true ∧
      u.fwCounter ≤ (whole 1).hdr.rollback ∧ 4 ≤ 4 ∧ 3 < 4 ∧ 2 < 3 ∧ 1 ≤ 1 ∧ 1 = u.boot.running ∧ 2 ≠ u.boot.running) ∧
    (let s := slots slotConfirmed slotValid none 0
     let u := s.taken 0 7
     s.takes 0 7 = true ∧ u.boot.staging = none ∧ (u.fwSlot 2).st = slotValid ∧ u.boot.phase = .ready ∧ u.trail.dumpMode = false ∧
      u.fault.graveStopped = false) := by decide +kernel
theorem test_meets_FirmwareRows_time :
    (∀ st ∈ [slotConfirmed, slotValid], let s := slots slotTrial st (some piece) oneHour
     s.boot.running = 1 ∧ s.boot.phase = .ready ∧ s.fault.grave = false ∧ (s.fwSlot s.boot.running).st = slotTrial ∧
      s.boot.readyAt + oneHour ≤ s.now ∧ (s.fwSlot (otherSlot s.boot.running)).st = st ∧ s.lifecycle ≠ 2 ∧
      s.boot.staging.isSome = true ∧ piece.at_ + s.cfgOf Cfg.MGMT_SESSION_S * 100000000 ≤ s.now) ∧
    (let s := slots slotTrial slotConfirmed (some piece) 0
     s.now < s.boot.readyAt + oneHour ∧ s.now < s.mgmt.forceAt + oneHour ∧
      s.now < piece.at_ + s.cfgOf Cfg.MGMT_SESSION_S * 100000000) ∧
    (let s : State := { slots slotConfirmed slotValid none oneHour with
       boot := { (slots slotConfirmed slotValid none 0).boot with otp := [(13, 65535)] } }
     s.boot.phase = .ready ∧ s.mgmt.forceAt + oneHour ≤ s.now ∧ s.mgmt.inForce = some 0 ∧
      (s.mgmt.slots.get none 0).isSome = true ∧ s.lifecycle = 2 ∧ s.cfgCounter < 3) ∧
    (let s := slots slotConfirmed slotValid none 0
     s.boot.phase = .ready ∧ s.trail.dumpMode = false ∧ s.asleep = false ∧ 3 < 4 ∧ 3 ∉ s.boot.copiesLost ∧ 3 ∉ s.boot.sparesUsed ∧
      3 ∈ ({ s with boot := { s.boot with sparesUsed := [3] } } : State).boot.sparesUsed) := by decide +kernel

/-- Blank (0), Provisioned (1) or in Production (2), with the rows a provisioning needs; the trusted root is that of `signs`. -/
def life (k : Nat) : State :=
  { up with boot := { phase := .ready, running := 1, otp := [(0, 5), (2, 6), (6, 7), (13, 2 ^ (8 * k) - 1)], nonce := some 8, certBytes := k - 1 } }
/-- Its request `k` is answered. -/
def bare : State := { up with boot := { phase := .ready, running := 1 } }
theorem test_meets_ServiceRows_port :
    bare.portUp = true ∧ portRate 12240000 = some 12000000 ∧ portRate 117505 = none ∧
    ({ bare with boot := { bare.boot with lastReq := some (9, [2, 9, 0]) } } : State).boot.lastReq = some (9, [2, 9, 0]) ∧
    (bare.now < bare.boot.frameAt + 1000000000 ∧ ({ bare with now := 1000000000 } : State).boot.frameAt + 1000000000 ≤ 1000000000) ∧
    (∀ x, bare.boot.lastReq = some x → x.1 ≠ 9) ∧ bare.boot.phase = .ready ∧ bare.portHeld = false ∧ bare.lifecycle ≤ 3 := by
  refine ⟨by decide, by decide, by decide, by decide, by decide, fun x h => by simp [bare] at h, by decide⟩
theorem test_meets_ServiceRows :
    (67108864 < 67108864 + 1 ∧ 4094 < 4095 ∧ 67104770 + 4094 ≤ 67108864) ∧ bare.boot.staging = none ∧
    (512 ≤ 4094 ∧ 4094 ≤ 4094 ∧ 4094 ≤ fwHdr.length) ∧
    (let x : Staging := { path := 2, hdr := fwHdr, pieces := [(0, 512)] }
     let s : State := { bare with boot := { bare.boot with staging := some x } }
     s.boot.staging.isSome = true ∧ s.portUp = true ∧ s.portHeld = false ∧ x.path = 2 ∧ (x.pieces.map (·.2)).sum + 4090 ≤ x.hdr.length ∧
      4090 ≤ 4090 ∧ 0 ≠ (x.pieces.map (·.2)).sum) ∧
    ((whole 2).complete = true ∧ 2 ≠ bare.boot.running ∧ bare.fwCounter ≤ (whole 2).hdr.rollback) ∧
    (∀ k < 3, (life k).portUp = true ∧ (life k).boot.lastReq = none ∧ (life k).boot.phase = .ready ∧ (life k).portHeld = false ∧
      (life k).lifecycle = k ∧ (life k).trail.dumpMode = false ∧ (life k).glaze.drbgFail = false ∧ (life k).otpRefused 13 = false) ∧
    ({ life 1 with glaze := { drbgFail := true } } : State).glaze.drbgFail = true ∧ 63 ≤ 63 ∧
    (bare.lifecycle = 0 ∧ bare.otpRefused 0 = false ∧ bare.otpRefused 2 = false ∧ bare.otpRefused 6 = false ∧ 0 < 2 ^ 511 ∧ 2 ^ 511 < 2 ^ 512) ∧
    ((life 0).otpRow 0 ≠ 0 ∧ (life 0).otpRow 2 ≠ 0 ∧ (life 0).otpRow 6 ≠ 0 ∧ (∀ r ∈ [1, 3, 5, 7], (life 0).otpRefused r = false)) ∧
    ((life 1).boot.certBytes = 0 ∧ 4090 ≤ 4090 ∧ 12578822 + 4090 ≤ 12582912 ∧
      ({ life 1 with boot := { (life 1).boot with certBytes := 1 } } : State).boot.certBytes ≠ 0) := by decide +kernel
theorem test_meets_ServiceRows_header : bare.fwHeaderOk fwHdr = true := fwHdr_ok _ (by decide +kernel)
/-- In Production with a nonce drawn, the trusted root's hash as given. -/
def rooted (h : Nat) : State := { life 2 with boot := { (life 2).boot with otp := [(0, 5), (2, h), (6, h), (13, 65535)] } }
theorem rooted_life (h : Nat) : (rooted h).lifecycle = 2 ∧ (rooted h).fwCounter = 0 := by
  have a : (rooted h).otpRow 13 = 65535 ∧ (rooted h).otpRow 9 = 0 ∧ (rooted h).otpRow 10 = 0 := ⟨rfl, rfl, rfl⟩
  simp only [State.lifecycle, State.lifeGroup, State.fwCounter, a]
  decide +kernel
theorem rooted_hash (h : Nat) (l : h < 2 ^ 384) : (rooted h).rootHash = h := by
  have a : (rooted h).otpRow 2 = h := rfl
  have b : (rooted h).otpRow (2 + 4) = h := rfl
  have c : rowValue h = h := by simp only [rowValue, bits, Nat.pow_zero, Nat.div_one]; exact Nat.mod_eq_of_lt l
  simp only [State.rootHash, State.keyPair, a, b, c, ite_self]
/-- The digest a token of purpose `p` signs, and the hash of its block's root. -/
def tokenM (p : Nat) : Nat := Config.sha384 (le 8 0 ++ le 32 8 ++ le 4 p)
def tokenRoot (p : Nat) : Nat := Config.sha384 (be 96 (signs (tokenM p)).rootEcdsa ++ be 56 (signs (tokenM p)).rootLms) % 2 ^ 384
theorem test_meets_ServiceRows_token (p : Nat) (hp : p ∈ [forDebug, forReturn]) : (rooted (tokenRoot p)).lifecycle = 2 ∧
    (rooted (tokenRoot p)).tokenOk p (signs (tokenM p)) = true ∧ (rooted (tokenRoot p)).tokenOk p { magic := [] } = false := by
  have l : tokenRoot p < 2 ^ 384 := by unfold tokenRoot; exact Nat.mod_lt _ (by decide +kernel)
  have m : (rooted (tokenRoot p)).tokenDigest 8 p = tokenM p := by
    have r : (rooted (tokenRoot p)).otpRow 0 = 5 := rfl
    have z : bits 5 32 64 = 0 := by decide
    simp only [State.tokenDigest, r, z, tokenM]
  have t : (rooted (tokenRoot p)).rootTrusted (signs (tokenM p)) = true := by
    simp only [State.rootTrusted, rooted_hash _ l]
    simp only [tokenRoot, decide_true, Bool.or_true]
  have n : (rooted (tokenRoot p)).boot.nonce = some 8 := rfl
  have u : p + 1 < 4 := by clear t n m l; revert p; decide
  refine ⟨(rooted_life _).1, ?_, ?_⟩
  · simp only [State.tokenOk, n, m, signs_ok _ _ (p + 1) u t, (rooted_life _).2]
    simp
  · simp only [State.tokenOk, n]
    rfl

/-- After a controller reset in Blank, firmware slot 1 confirmed and configuration slot 0 written, both signed. -/
def down : State :=
  { State.reset with
    boot := { phase := .down, fromStep3 := true, slots := [(1, { st := slotConfirmed, hdr := fwHdr, chain := chain })] }
    mgmt := { slots := [(0, some { hdr := cfgHdr, chain := { chain with parts := [0] } })] } }
theorem test_meets_BootRows_chain : down.fwChainOk fwHdr chain = true ∧ down.cfgChainOk cfgHdr { chain with parts := [0] } = true := by
  have t := chain_trusted down (by decide) 0
  have f : down.fwCounter = 0 ∧ down.cfgCounter = 0 := by decide +kernel
  constructor
  · simp only [State.fwChainOk, State.chainOk, chain, signs_ok _ 0 0 (by decide) t, f]
    decide
  · simp only [State.cfgChainOk, State.chainOk, chain, signs_ok _ 0 1 (by decide) t, f]
    decide
theorem test_meets_BootRows :
    (down.boot.phase = .down ∧ down.boot.fromStep3 = true ∧ down.fault.grave = false ∧ down.boot.copiesLost = [] ∧
      Tab.wf ({} : FwSlot) down.boot.slots = true ∧ (down.fwSlot 1).st = slotConfirmed ∧ (down.fwSlot 2).st = slotEmpty ∧
      down.fwHeaderOk (down.fwSlot 1).hdr = true ∧ (down.fwSlot 1).hdr = fwHdr ∧ (down.fwSlot 1).chain = chain ∧
      down.mgmt.slots.get none 0 = some { hdr := cfgHdr, chain := { chain with parts := [0] } } ∧ down.mgmt.slots.get none 1 = none ∧
      down.cfgHeaderOk cfgHdr = true ∧ 2 ≤ 2 ∧
      (down.loadImage 0 { hdr := cfgHdr, chain := { chain with parts := [0] } }).dramRateOf ({} : BootInfo).dramTrains ≠ 0 ∧
      ({ down with fault := { grave := true } } : State).fault.grave = true) ∧
    State.reset.boot.phase = .fresh ∧ State.reset.fault.grave = false ∧ State.reset.boot.slots = [] ∧
    (State.reset.sampleStraps {}).otpFailure = none := by
  have a : (State.reset.sampleStraps {}).otpRow 0 = 0 ∧ (State.reset.sampleStraps {}).otpRow 9 = 0 ∧
      (State.reset.sampleStraps {}).otpRow 10 = 0 ∧ (State.reset.sampleStraps {}).otpRow 11 = 0 ∧
      (State.reset.sampleStraps {}).otpRow 12 = 0 ∧ (State.reset.sampleStraps {}).otpRow 13 = 0 := by decide
  have b : (State.reset.sampleStraps {}).lifecycle = 0 := by simp only [State.lifecycle, State.lifeGroup, a]; decide
  refine ⟨⟨rfl, rfl, rfl, rfl, by decide +kernel, rfl, rfl, ?_, rfl, rfl, rfl, rfl, by decide +kernel, by decide, by decide +kernel, rfl⟩,
    rfl, rfl, rfl, ?_⟩
  · have h : (down.fwSlot 1).hdr = fwHdr := rfl
    rw [h]
    exact fwHdr_ok _ (by decide +kernel)
  · simp only [State.otpFailure, b, State.lifeGroup, a]
    simp
    decide +kernel

theorem test_meets_ElectricalRows :
    (8 < 9 ∧ (4 ≤ 7 ∧ 7 ≤ 7)) ∧ up.boot.pwrfailLow = false ∧ up.noDump = false ∧ State.reset.noDump = true ∧ up.trail.dumpMode = false ∧
    up.tablesCanonical = true ∧ State.reset.boot.phase ≠ .ready ∧ up.boot.phase ≠ .romWait ∧
    (up.boot.phase = .ready ∧ up.fault.graveStopped = false ∧ up.boot.shut = none ∧ up.asleep = false ∧ up.intake.stopped = false ∧
      (slept 4).asleep = true ∧ up.boot.pwrdis = false) ∧
    (let s (x : Option Shut) : State := { up with boot := { up.boot with pwrdis := true, shut := x }, intake := { stopped := true } }
     (s none).boot.pwrdis = true ∧ (s (some .pwrdis)).boot.shut = some .pwrdis ∧ (s none).boot.shut = none ∧ (s none).intake.stopped = true) ∧
    (let s : State := { State.reset with boot := { phase := .romWait, waiting := some {} } }
     s.boot.phase = .romWait ∧ s.boot.waiting = some {} ∧ s.boot.pwrdis = false ∧ s.boot.pwrfailLow = false ∧
      ({ s with boot := { s.boot with pwrdis := true } } : State).boot.pwrdis = true) := by decide

theorem test_meets_RegisterRows :
    (State.reset.boot.phase ≠ .ready ∧ 6 % 4 ≠ 0 ∧ 511 < 512) ∧ up.boot.phase = .ready ∧ 0x7000 % 4 = 0 ∧
    ({ up with power := { domains := [(85, { st := 1 })] } } : State).domainOff (pageDomain (0x7000 / 4096)) = true ∧
    up.domainOff 94 = false ∧ (95 ≤ 95 ∧ 96 ≤ 96 ∧ 96 < 128) ∧ up.tablesCanonical = true ∧ up.domainOff (pageDomain 5) = false ∧
    (1 ≤ 511 ∧ 63 < 64 ∧ 0 < 2 ^ 32 - 1 ∧ 2 ^ 32 - 1 < 2 ^ 32) ∧
    up.domainOff (pageDomain ((0x10000 + 256 * 511 + 4 * 63) / 4096)) = false ∧
    up.reg Reg.WMK_SNAP_VALID = 0 ∧ ({ up with regs := [(Reg.WMK_SNAP_VALID, some 1)] } : State).reg Reg.WMK_SNAP_VALID ≠ 0 := by decide

theorem test_meets_StoredLayouts :
    (let h : FwHeader :=
      { magic := [67, 90, 80, 72], format := 2 ^ 16 - 1, part := 2 ^ 16 - 1, steppings := 2 ^ 16 - 1, release := 2 ^ 16 - 1, length := 2 ^ 32 - 1
        rollback := 2 ^ 32 - 1, flags := 2 ^ 32 - 1, build := 2 ^ 32 - 1, cfgFormat := 2 ^ 32 - 1, crc := 2 ^ 32 - 1
        overlay := { offset := 2 ^ 32 - 1, length := 2 ^ 32 - 1, digest := 2 ^ 384 - 1 }
        control := { offset := 2 ^ 32 - 1, length := 2 ^ 32 - 1, digest := 2 ^ 384 - 1 } }
     h.magic.length = 4 ∧ h.format < 2 ^ 16 ∧ h.part < 2 ^ 16 ∧ h.steppings < 2 ^ 16 ∧ h.release < 2 ^ 16 ∧ h.length < 2 ^ 32 ∧
      h.rollback < 2 ^ 32 ∧ h.flags < 2 ^ 32 ∧ h.build < 2 ^ 32 ∧ h.cfgFormat < 2 ^ 32 ∧ h.crc < 2 ^ 32 ∧ h.overlay.offset < 2 ^ 32 ∧
      h.overlay.length < 2 ^ 32 ∧ h.overlay.digest < 2 ^ 384 ∧ h.control.offset < 2 ^ 32 ∧ h.control.length < 2 ^ 32 ∧
      h.control.digest < 2 ^ 384) ∧ 63 < 64 ∧ (List.replicate 65468 0).length ≤ 65468 := by
  refine ⟨by decide +kernel, by decide, ?_⟩
  rw [List.length_replicate]

/-! ### Operands out of range are refused by name of their check -/

theorem test_illFormed_hosts :
    (∀ i ∈ [Instr.registerWrite 512 0 0, .registerWrite 0 2 0, .registerWrite 0 524288 0, .registerWrite 0 0 4294967296,
      .sqDoorbellWrite 0 65536 0, .zoneFzrAgeReached 4294967296 0, .faultMessage 18446744073709551616, .admission 32768 .none_,
      .write 0 1 { cid := 65536 }, .read 0 1 { nsid := 4294967296 }, .flush 0 1 { slba := 18446744073709551616 },
      .throttleMessage 101 0, .fenceIssue 8 0 0 0 false, .fenceIssue 0 4 0 0 false, .imageBegin 2 {} 0, .perstAssert 2 0],
      i.wellFormed = false) ∧
    Instr.wellFormed (.registerWrite 511 524284 4294967295) = true ∧ Instr.wellFormed (.throttleMessage 100 100) = true ∧
    Instr.wellFormed (.fenceIssue 7 3 3 511 true) = true := by decide
/-- Die 2.27.5.2 is refused, 3.27.5.2 is a die (spec/00_scope.md). -/
theorem test_illFormed_media :
    (∀ i ∈ [Instr.eraseComplete (2 * 2048 + 27 * 32 + 5 * 4 + 2) true, .channelRetrain 64 0 true, .channelRetrain 0 8 true, .brownOutDetect 8 0,
      .fbeMmBlkCapture 0 8 0, .fbeMmBlkCapture 0 0 4096, .zoneRowRelease 128 0, .zoneRowRelease 0 4096, .dtwinMaxExpiry 0, .dtwinMaxExpiry 129,
      .sieveRuleRemove 65536, .sramCheckRead 384 0 true], i.wellFormed = false) ∧
    Instr.wellFormed (.eraseComplete (3 * 2048 + 27 * 32 + 5 * 4 + 2) true) = true := by decide
theorem test_illFormed_part :
    (∀ i ∈ [Instr.keySlotDrained 2048, .poolWaitNotice 6, .glazeContextAgedResume 16, .keyUnwrapLoad 1 128 true, .dramRequestIssue 4 0 0,
      .dramRequestIssue 0 2 0, .dramRequestIssue 0 0 32, .islandClockRestart 148, .isolationGateWake 96, .otpRead 0 64, .railLow 9,
      .nonopEntryStart 5 none, .avsStepRequest 1024, .switchWordDiscard (.segment 64 0 0), .switchWordDiscard (.bridge 0 2)], i.wellFormed = false) ∧
    Instr.wellFormed (.switchWordDiscard (.bridge 147 1)) = true := by decide

/-! ### Worked examples of the spec -/

/-- The check value of CRC-32C, of the nine digits "123456789" (the CRC's own published one; log entry 3). -/
theorem test_crc32c : crc32c [0x31, 0x32, 0x33, 0x34, 0x35, 0x36, 0x37, 0x38, 0x39] = 0xE3069283 := by decide +kernel

/-- The channels of stripe group 13 are 1, 5, 9, 13 and so on up to 61 (spec/02_zones_and_placement.md). -/
theorem test_group_13 : groupChannels 13 = [1, 5, 9, 13, 17, 21, 25, 29, 33, 37, 41, 45, 49, 53, 57, 61] := by decide

/-- Table 6.7, the increments per second at 25, 33, 40, 48 and 60 °C. -/
theorem test_acceleration : [130, 146, 160, 176, 200].map (af256 110) = [33, 101, 256, 707, 2959] := by decide +kernel

/-- Instance 7's rules A, B and C of namespace 3 (spec/04_sieve.md, Table 4.6): R is bit 9, W bit 10, DENY bit 11. -/
def tollmere : State :=
  { up with sieve := { ents := [(5, { lo := 0, hi := 50331647, scope := 2, prio := 0x10, payload := 7 + 2048, valid := true }),
    (12, { lo := 0, hi := 1048575999, scope := 2, prio := 0x20, payload := 7 + 512 + 1024, valid := true }),
    (40, { lo := 524288000, hi := 629145599, scope := 2, prio := 0x20, payload := 7 + 512, valid := true })] } }
theorem test_rule_order :
    tollmere.accessOk 7 3 734003200 734003263 true = true ∧ tollmere.accessOk 7 3 576716800 576716863 true = true ∧
    tollmere.accessOk 7 3 50331640 50331655 false = false ∧
    (let s := tollmere.setRules (tollmere.rules.insertIdx 1 { lo := 524288000, hi := 629145599, scope := 2, prio := 0x20, payload := 7 + 512, valid := true })
     s.accessOk 7 3 588251136 588251199 true = false) := by decide

/-- Amber in NR (spec/10_hamper_buffers.md): four sharers, 8,300 units used, instance 7 holding 1,900 and instance 9 3,000. -/
theorem test_amber : levelOf 9728 85 = 8268 ∧ leaveOf 9728 85 = 8074 ∧ levelOf 9728 95 = 9241 ∧ levelOf 9728 85 / 4 = 2067 ∧
    (({ size := 9728, used := 8300 } : Pool).settle 85 95).amber = true ∧
    (({ size := 9728, used := 8074, amber := true } : Pool).settle 85 95).amber = false ∧
    (({ size := 9728, used := 8075, amber := true } : Pool).settle 85 95).amber = true := by decide

/-- A FIELD_WRITE of the verify rate and the job limit (spec/18_management_and_configuration.md, Table 18.6): the rate is in
force, the Static field is skipped, status 0x0006 with one skipped. -/
theorem test_field_write : ∃ t, exec (.fieldWrite 0 [⟨Cfg.FIX_VERIFY_RATE, 0, 48⟩, ⟨Cfg.FIX_JOBS_INST, 0, 8⟩]) (eight none) = .next t ∧
    t.cfgOf Cfg.FIX_VERIFY_RATE = 48 ∧ t.cfgOf Cfg.FIX_JOBS_INST = 16 ∧ t.reg Reg.CFG_MBX_STATUS_RSP_STATUS = 6 ∧ t.reg Reg.CFG_MBX_RSP_RSP_LENGTH = 4 := by
  refine ⟨_, rfl, ?_⟩
  decide +kernel

/-- Zone 12 in ZSC with 256 blocks written: a Write at the pointer opens it implicitly and moves the pointer to 320
(spec/02_zones_and_placement.md, Table 2.6, order 1); a Write at 320 + 1 is refused with Zone Invalid Write. -/
def zone12 (slba nlb : Nat) : State :=
  { ready { cid := 7, opc := .write, nsid := 1, slba := 12 * 1048576 + slba, nlb := nlb } with
    zone := {
      nss := [(1, { exists_ := true, mode := .clear, size := 13 * zoneBlocks, attached := [0]
                    zones := [(12, { st := .zsc, wp := 256, row := some { row := 1 } })] })]
      dieSets := [(1, { groups := [0], openBudget := 4, activeBudget := 4 })]
      groups := [(0, { formed := true, dies := List.range 16, zoneRows := 10, spareRows := 5, bound := [1] })] }
    flash := { dies := [(40, { fitted := true, present := true, listed := true })]
               rows := [(1, { nsid := 1, zone := some 12, pool := [(20, [0])] })] } }
theorem test_zone_write : ∃ t, exec (.admission 5 .none_) (zone12 256 64) = .next t ∧ (t.zoneAt 1 12).st = .zsio ∧
    (t.zoneAt 1 12).wp = 320 ∧ (t.tag 5).stage = .inFlight := by
  refine ⟨_, rfl, ?_⟩
  decide +kernel
theorem test_zone_write_away : ∃ t, exec (.admission 5 .none_) (zone12 257 64) = .next t ∧ (t.zoneAt 1 12).st = .zsc ∧
    (t.zoneAt 1 12).wp = 256 ∧ Out.cqe 0 1 1 7 Status.zoneInvalidWrite 0 none ∈ t.out := by
  refine ⟨_, rfl, ?_⟩
  decide +kernel

end Sys2Proof.Tests
end

section
/-! Proofs: a management read of a register whose domain is off, and of one whose domain runs (R9, R414). -/

namespace Sys2Proof.Machine

/-- OFF_DOMAIN_READ has its meaning in `execOffDomainRead`. -/
theorem exec_offDomainRead (o : Nat) (s : State) : exec (.offDomainRead o) s = execOffDomainRead o s := rfl

theorem execOffDomainRead_of_domainOff {o : Nat} {s : State} (h : s.domainOff (s.regDomain o) = true) :
    execOffDomainRead o s =
      .next ((s.setReg Reg.PWR_STATUS_OFFREAD 1).emit (.reply Port.register [o, 0xFFFFFFFF])) := by
  simp only [execOffDomainRead, if_pos h]

theorem execOffDomainRead_of_domainOn {o : Nat} {s : State} (h : s.domainOff (s.regDomain o) = false) :
    execOffDomainRead o s = .next (s.emit (.reply Port.register [o, s.readReg o])) := by
  simp [execOffDomainRead, h]

theorem State.regs_wf_of_tablesCanonical {s : State} (h : s.tablesCanonical = true) : Tab.wf none s.regs = true :=
  (Bool.and_eq_true_iff.mp h).1

/-- Settles O48: the reply on the register port is never held back, so each branch of the read is one reply, and the
off-domain branch sets one register field beside it. -/
theorem offDomainRead : Obligations.OffDomainRead := by
  intro o s
  constructor
  · intro hoff hcanon
    have hwf := State.regs_wf_of_tablesCanonical hcanon
    refine ⟨{ s.setReg Reg.PWR_STATUS_OFFREAD 1 with out := .reply Port.register [o, 0xFFFFFFFF] :: s.out },
      ?_, rfl, State.reg_setReg hwf, fun k hk => State.reg_setReg_ne hk, rfl⟩
    rw [exec_offDomainRead, execOffDomainRead_of_domainOff hoff, State.emit_reply, State.setReg_out]
  · intro hon
    refine ⟨_, ?_, rfl⟩
    rw [exec_offDomainRead, execOffDomainRead_of_domainOn hon, State.emit_reply]

end Sys2Proof.Machine
end

section
/-! Proofs: which entries of the Sieve a lookup matches, and which of its matches is the first (R110, R111). -/

namespace Sys2Proof.Machine

/- Proofs elaborated in the background would each hold a thread while the kernel still checks what stands above, and
the text's own threads already take most of the memory a compile may use: here each proof is elaborated in its turn. -/
set_option Elab.async false

/-! ### The match of an entry -/

/-- R110 condition by condition, as a proposition. -/
theorem Ent.hits_iff {e : Ent} {a b pmin pmax : Nat} {scopes : List Nat} :
    e.hits a b scopes pmin pmax = true ↔
      e.valid = true ∧ e.lo ≤ b ∧ a ≤ e.hi ∧ e.scope ∈ scopes ∧ pmin ≤ e.prio ∧ e.prio ≤ pmax := by
  simp [Ent.hits, and_assoc]

theorem State.mem_matches_iff {s : State} {a b pmin pmax : Nat} {scopes : List Nat} {x : Nat × Ent} :
    x ∈ s.matches_ a b scopes pmin pmax ↔ x ∈ s.sieve.ents ∧ x.2.valid = true ∧ x.2.lo ≤ b ∧ a ≤ x.2.hi ∧
      x.2.scope ∈ scopes ∧ pmin ≤ x.2.prio ∧ x.2.prio ≤ pmax := by
  rw [State.matches_, List.mem_filter, Ent.hits_iff]

/-- The instance field of a payload (its nine lowest bits) against an instance number, as R110's masked comparison. -/
theorem bits_nine_eq_iff_and_mask {payload inst : Nat} (h : inst < 512) :
    bits payload 0 9 = inst ↔ payload &&& 0x1FF = inst &&& 0x1FF := by
  have mask : ∀ n : Nat, n &&& 0x1FF = n % 2 ^ 9 := fun n => Nat.and_two_pow_sub_one_eq_mod n 9
  rw [mask, mask, Nat.mod_eq_of_lt (a := inst) (b := 2 ^ 9) h, bits, Nat.pow_zero, Nat.div_one]

/-- The matches of a first-match lookup with a qualifier on the payload's instance field, in position order. -/
def State.matchesFor (s : State) (inst a b : Nat) (scopes : List Nat) (pmin pmax : Nat) : List (Nat × Ent) :=
  (s.matches_ a b scopes pmin pmax).filter fun x => bits x.2.payload 0 9 = inst

theorem State.firstFor_eq_bestMatch_matchesFor (s : State) (inst a b : Nat) (scopes : List Nat) (pmin pmax : Nat) :
    s.firstFor inst a b scopes pmin pmax = (bestMatch (s.matchesFor inst a b scopes pmin pmax)).map (·.2) := rfl

theorem State.matchesFor_sublist (s : State) (inst a b : Nat) (scopes : List Nat) (pmin pmax : Nat) :
    (s.matchesFor inst a b scopes pmin pmax).Sublist s.sieve.ents :=
  List.filter_sublist.trans List.filter_sublist

theorem State.mem_matchesFor_iff {s : State} {inst a b pmin pmax : Nat} {scopes : List Nat} {x : Nat × Ent}
    (h : inst < 512) :
    x ∈ s.matchesFor inst a b scopes pmin pmax ↔
      x ∈ s.matches_ a b scopes pmin pmax ∧ x.2.payload &&& 0x1FF = inst &&& 0x1FF := by
  rw [State.matchesFor, List.mem_filter, decide_eq_true_iff, bits_nine_eq_iff_and_mask h]

/-- Settles O25: a lookup keeps the entries that meet R110's conditions, where mask 0 asks nothing of the payload, and
the access lookup keeps those of them whose instance field agrees, then takes the first. -/
theorem sieveMatchRule : Obligations.SieveMatchRule := by
  intro s a b pmin pmax scopes hit
  constructor
  · intro x
    simp only [hit, State.mem_matches_iff, Nat.and_zero, and_true]
  · intro inst hinst
    refine ⟨s.matchesFor inst a b scopes pmin pmax, s.firstFor_eq_bestMatch_matchesFor .., s.matchesFor_sublist ..,
      fun x => ?_⟩
    simp only [hit, State.mem_matchesFor_iff hinst, State.mem_matches_iff, and_assoc]

/-! ### The first of several matches -/

theorem bestMatch_cons_of_none {x : Nat × Ent} {l : List (Nat × Ent)} (h : bestMatch l = none) :
    bestMatch (x :: l) = some x := by
  simp only [bestMatch, h]

theorem bestMatch_cons_of_some {x y : Nat × Ent} {l : List (Nat × Ent)} (h : bestMatch l = some y) :
    bestMatch (x :: l) = if x.2.prio ≤ y.2.prio then some x else some y := by
  simp only [bestMatch, h]

@[simp] theorem bestMatch_eq_none_iff {l : List (Nat × Ent)} : bestMatch l = none ↔ l = [] := by
  cases l with
  | nil => simp only [bestMatch]
  | cons x t =>
    cases h : bestMatch t with
    | none => simp [bestMatch_cons_of_none h]
    | some y => simp only [bestMatch_cons_of_some h]; split <;> simp

/-- The order of R111: `x` has the lower PRIO, or the same PRIO and no higher position. -/
def RankedBefore (x y : Nat × Ent) : Prop := x.2.prio < y.2.prio ∨ (x.2.prio = y.2.prio ∧ x.1 ≤ y.1)

theorem RankedBefore.refl (x : Nat × Ent) : RankedBefore x x := .inr ⟨rfl, le_rfl⟩

/-- An entry at a lower position goes first unless its PRIO is higher. -/
theorem RankedBefore.of_prio_le {x y : Nat × Ent} (hprio : x.2.prio ≤ y.2.prio) (hpos : x.1 < y.1) : RankedBefore x y :=
  (Nat.lt_or_eq_of_le hprio).imp_right fun h => ⟨h, hpos.le⟩

theorem RankedBefore.prio_le {x y : Nat × Ent} (h : RankedBefore x y) : x.2.prio ≤ y.2.prio :=
  h.elim Nat.le_of_lt fun h => h.1.le

theorem bestMatch_mem {l : List (Nat × Ent)} {x : Nat × Ent} (h : bestMatch l = some x) : x ∈ l := by
  induction l with
  | nil => simp [bestMatch] at h
  | cons z t ih =>
    cases ht : bestMatch t with
    | none =>
      rw [bestMatch_cons_of_none ht] at h
      obtain rfl := Option.some.inj h
      exact List.mem_cons_self
    | some y =>
      rw [bestMatch_cons_of_some ht] at h
      split at h
      · obtain rfl := Option.some.inj h
        exact List.mem_cons_self
      · exact List.mem_cons_of_mem z (ih (ht.trans h))

/-- The head stands at the lowest position, so it keeps its place against a first match of the tail of the same PRIO
or a higher one, and gives way only to a lower PRIO. -/
theorem bestMatch_rankedBefore {l : List (Nat × Ent)} {x : Nat × Ent} (sorted : l.Pairwise fun a b => a.1 < b.1)
    (h : bestMatch l = some x) : ∀ y ∈ l, RankedBefore x y := by
  induction l generalizing x with
  | nil => simp
  | cons z t ih =>
    obtain ⟨below, sorted'⟩ := List.pairwise_cons.mp sorted
    cases ht : bestMatch t with
    | none =>
      rw [bestMatch_cons_of_none ht] at h
      obtain rfl := Option.some.inj h
      obtain rfl := bestMatch_eq_none_iff.mp ht
      simpa using RankedBefore.refl z
    | some y =>
      have first := ih sorted' ht
      rw [bestMatch_cons_of_some ht] at h
      split at h
      case isTrue hle =>
        obtain rfl := Option.some.inj h
        refine List.forall_mem_cons.mpr ⟨RankedBefore.refl z, fun w hw => ?_⟩
        exact RankedBefore.of_prio_le (hle.trans (first w hw).prio_le) (below w hw)
      case isFalse hgt =>
        obtain rfl := Option.some.inj h
        exact List.forall_mem_cons.mpr ⟨.inl (Nat.lt_of_not_le hgt), first⟩

/-- Settles O26: by induction on the matches in position order. -/
theorem firstMatchRank : Obligations.FirstMatchRank := fun _ _ sorted h =>
  ⟨bestMatch_mem h, bestMatch_rankedBefore sorted h⟩

end Sys2Proof.Machine
end

section
/-! Proofs: what a step and an idle tick do and keep, and what reset leaves (R6, R29, R324, R453, R506). -/

namespace Sys2Proof.Machine

set_option Elab.async false

/-! ### The bridges at a tick -/

/-- Nothing but the words of the bridges and the clocks of their islands differs. -/
def MovesWords (s t : State) : Prop :=
  t = { s with fabric := { s.fabric with
    bridges := t.fabric.bridges, stopped := t.fabric.stopped, stopWaits := t.fabric.stopWaits } }

variable {s t u : State}

theorem MovesWords.refl (s : State) : MovesWords s s := rfl

theorem MovesWords.trans (h : MovesWords s t) (k : MovesWords t u) : MovesWords s u := by
  unfold MovesWords at *
  rw [h] at k
  exact k

theorem State.drainBridge_movesWords (s : State) (d : Nat) : MovesWords s (s.drainBridge d) := by
  unfold State.drainBridge
  split <;> rfl

theorem State.settleStop_movesWords (s : State) (d : Nat) : MovesWords s (s.settleStop d) := by
  unfold State.settleStop
  dsimp only
  split <;> rfl

theorem State.serveBridge_movesWords (s : State) (d : Nat) : MovesWords s (s.serveBridge d) := by
  unfold State.serveBridge
  dsimp only
  split <;> rfl

theorem State.tickBridges_movesWords (s : State) : MovesWords s s.tickBridges := by
  unfold State.tickBridges State.each
  generalize s.fabric.bridges.map (·.1) = l
  induction l generalizing s with
  | nil => exact MovesWords.refl s
  | cons d l ih =>
    exact (((s.drainBridge_movesWords d).trans (State.settleStop_movesWords _ d)).trans
      (State.serveBridge_movesWords _ d)).trans (ih _)

/-! ### The other parts of a tick -/

/-- A tick's change of the DRAM part: a retraining that has come to its end leaves its rate. -/
theorem State.tickDram_eq (s : State) : s.tickDram = { s with dram := s.tickDram.dram } := by
  unfold State.tickDram
  split
  · split <;> rfl
  · rfl

theorem State.tickDram_of_due {x} (hx : s.dram.training = some x) (due : x.until_ ≤ s.now) :
    s.tickDram.dram = { s.dram with training := none, rate := x.rate } := by
  simp only [State.tickDram, hx, if_pos due]

theorem State.tickDram_of_not_due (h : s.dram.training.all (fun x => decide (s.now < x.until_)) = true) :
    s.tickDram = s := by
  unfold State.tickDram
  split
  case h_1 x hx =>
    have running : s.now < x.until_ := by simpa [hx] using h
    exact if_neg (Nat.not_le.mpr running)
  case h_2 => rfl

/-- The state before the parts of a tick run on. -/
def State.ticked (s : State) : State := { s with now := s.now + 1 }

theorem State.idle_fabric (s : State) : s.idle.fabric = s.ticked.tickBridges.fabric := by
  unfold State.idle State.tickMail
  rw [State.tickDram_eq]
  rfl

theorem State.idle_chans (s : State) : s.idle.flash.chans = s.ticked.tickBridges.tickChannels.flash.chans := by
  unfold State.idle State.tickMail
  rw [State.tickDram_eq]
  rfl

theorem State.idle_dram (s : State) : s.idle.dram = s.ticked.tickBridges.tickChannels.tickDram.dram := rfl

/-- What a tick changes: the timer, the bridges, the channels' transfers, the DRAM's retraining, the mailbox rings. -/
theorem State.idle_eq (s : State) : s.idle = { s with
    now := s.now + 1
    fabric := { s.fabric with
      bridges := s.idle.fabric.bridges, stopped := s.idle.fabric.stopped, stopWaits := s.idle.fabric.stopWaits }
    flash := { s.flash with chans := s.idle.flash.chans }
    dram := s.idle.dram
    mgmt := { s.mgmt with
      mailOut := s.mgmt.mailOut.drop 1 ++ s.mgmt.mailOutWait.take 1, mailOutWait := s.mgmt.mailOutWait.drop 1
      mailBack := s.mgmt.mailBack.drop 1 ++ s.mgmt.mailBackWait.take 1, mailBackWait := s.mgmt.mailBackWait.drop 1 } } := by
  rw [State.idle_fabric, State.idle_chans, State.idle_dram]
  have bridges := s.ticked.tickBridges_movesWords
  have dram := s.ticked.tickBridges.tickChannels.tickDram_eq
  change s.ticked.tickBridges.tickChannels.tickDram.tickMail = _
  rw [dram]
  unfold MovesWords at bridges
  generalize s.ticked.tickBridges = b at *
  rw [bridges]
  rfl

/-- A table of one key reads what was last set at it. -/
theorem Tab.get_upd_singleton {α : Type} [DecidableEq α] {d v : α} {k : Nat} {f : α → α} :
    Tab.get d (Tab.upd d [(k, v)] k f) k = f v := by
  simp only [Tab.upd, Tab.get, Tab.set, Nat.lt_irrefl, if_true, if_false, Tab.cons]
  split
  · simp [Tab.get, *]
  · simp [Tab.get]

theorem State.modBridge_bridge_of_only {s : State} {d : Nat} {f : Bridge → Bridge}
    (only : s.fabric.bridges = [(d, s.bridge d)]) : (s.modBridge d f).bridge d = f (s.bridge d) := by
  have h : (s.modBridge d f).bridge d = Tab.get {} (Tab.upd {} s.fabric.bridges d f) d := rfl
  rw [h, only, Tab.get_upd_singleton]

theorem State.settleStop_bridge (s : State) (d e : Nat) : (s.settleStop d).bridge e = s.bridge e := by
  unfold State.settleStop
  dsimp only
  split <;> rfl

theorem State.serveBridge_of_held_eq_zero {s : State} {d : Nat} (h : (s.bridge d).held = 0) : s.serveBridge d = s :=
  if_pos (.inl h)

/-- One word of each FIFO of the only bridge in use moves on at a tick. -/
theorem State.tickBridges_bridge {s : State} {d : Nat} (only : s.fabric.bridges = [(d, s.bridge d)])
    (runs : d ∉ s.fabric.stopped) (idle : (s.bridge d).held = 0) :
    (s.tickBridges.bridge d).inFifo = (s.bridge d).inFifo - 1 ∧
      (s.tickBridges.bridge d).outFifo = (s.bridge d).outFifo - 1 := by
  have drained : (s.drainBridge d).bridge d =
      { s.bridge d with inFifo := (s.bridge d).inFifo - 1, outFifo := (s.bridge d).outFifo - 1 } := by
    rw [State.drainBridge, if_neg (by simpa using runs)]
    exact State.modBridge_bridge_of_only only
  have settled := (s.drainBridge d).settleStop_bridge d d
  have tick : s.tickBridges = (s.drainBridge d).settleStop d := by
    rw [State.tickBridges, State.each, only]
    exact State.serveBridge_of_held_eq_zero (by rw [settled, drained]; exact idle)
  rw [tick, settled, drained]
  exact ⟨rfl, rfl⟩

/-- Settles O2: the frame of a tick, then what each of its parts does. -/
theorem idleStepCounts : Obligations.IdleStepCounts := by
  intro s empty t
  have before : s.ticked.tickBridges.tickChannels.dram = s.dram ∧ s.ticked.tickBridges.tickChannels.now = s.now + 1 := by
    have bridges := s.ticked.tickBridges_movesWords
    unfold MovesWords at bridges
    rw [bridges]
    exact ⟨rfl, rfl⟩
  refine ⟨?_, s.idle_eq, fun x hx due => ?_, fun running => ?_, fun d only runs idle => ?_⟩
  · simp only [step, empty, t]
  · have h := State.tickDram_of_due (s := s.ticked.tickBridges.tickChannels) (before.1 ▸ hx) (before.2 ▸ due)
    rw [before.1] at h
    exact h
  · have h := State.tickDram_of_not_due (s := s.ticked.tickBridges.tickChannels) (by rw [before.1, before.2]; exact running)
    exact (congrArg State.dram h).trans before.1
  · have h := State.tickBridges_bridge (s := s.ticked) only runs idle
    simp only [State.bridge, t, State.idle_fabric] at h ⊢
    exact h

/-- Settles O1: by the queue's first case. -/
theorem stepRunsFrontCommand : Obligations.StepRunsFrontCommand := fun _ _ _ => rfl

/-- Settles O3: the empty state lists no register, no field, no row; each listed figure is its part's initial value. -/
theorem resetState : Obligations.ResetState := by
  refine ⟨fun _ => rfl, fun _ _ => rfl, rfl, rfl, rfl, rfl, rfl, fun _ => rfl, rfl, rfl, rfl, rfl, fun _ => rfl, rfl,
    rfl, rfl, rfl⟩

/-- Every command keeps what `Holds` says; the boot sequence alone may end the Grave state (R453). -/
theorem exec_holds {w : Prop} {r s : State} (h : Holds w r s) :
    ∀ c : Instr, (w → ∀ info, c ≠ .bootSequence info) → HoldsR w r (exec c s)
  | .bootSequence info, warm => by
    obtain rfl : w = False := eq_false fun hw => warm hw info rfl
    exact execBootSequence_holds h
  | .registerWrite .., _ => execRegisterWrite_holds h
  | .switchWordDiscard .., _ => execSwitchWordDiscard_holds h
  | .handshakeWatchdogExpiry .., _ => execHandshakeWatchdogExpiry_holds h
  | .switchRetransmitResult .., _ => execSwitchRetransmitResult_holds h
  | .globalOpStallRelease, _ => execGlobalOpStallRelease_holds h
  | .islandClockStop .., _ => execIslandClockStop_holds h
  | .islandClockRestart .., _ => execIslandClockRestart_holds h
  | .sqDoorbellWrite .., _ => execSqDoorbellWrite_holds h
  | .cqDoorbellWrite .., _ => execCqDoorbellWrite_holds h
  | .commandFetch .., _ => execCommandFetch_holds h
  | .drrRoundStart, _ => execDrrRoundStart_holds h
  | .admission .., _ => execAdmission_holds h
  | .writeDataInFarHamper .., _ => execWriteDataInFarHamper_holds h
  | .completionPost .., _ => execCompletionPost_holds h
  | .interruptCoalescingExpiry .., _ => execInterruptCoalescingExpiry_holds h
  | .throttleMessage .., _ => execThrottleMessage_holds h
  | .throttleTimeout, _ => execThrottleTimeout_holds h
  | .write .., _ => execWrite_holds h
  | .writeZeroes .., _ => execWriteZeroes_holds h
  | .zoneAppend .., _ => execZoneAppend_holds h
  | .read .., _ => execRead_holds h
  | .datasetManagement .., _ => execDatasetManagement_holds h
  | .flush .., _ => execFlush_holds h
  | .zoneOpen .., _ => execZoneOpen_holds h
  | .zoneClose .., _ => execZoneClose_holds h
  | .zoneFinish .., _ => execZoneFinish_holds h
  | .zoneReset .., _ => execZoneReset_holds h
  | .zoneOffline .., _ => execZoneOffline_holds h
  | .setZoneDescriptorExtension .., _ => execSetZoneDescriptorExtension_holds h
  | .zoneManagementReceive .., _ => execZoneManagementReceive_holds h
  | .zoneRowRelease .., _ => execZoneRowRelease_holds h
  | .zoneFzrAgeReached .., _ => execZoneFzrAgeReached_holds h
  | .zoneFinishAgeReached .., _ => execZoneFinishAgeReached_holds h
  | .namespaceManagementCreate .., _ => execNamespaceManagementCreate_holds h
  | .namespaceManagementDelete .., _ => execNamespaceManagementDelete_holds h
  | .formatNvm .., _ => execFormatNvm_holds h
  | .sanitizeCryptoErase .., _ => execSanitizeCryptoErase_holds h
  | .capacityManagementSelect .., _ => execCapacityManagementSelect_holds h
  | .namespaceAttachment .., _ => execNamespaceAttachment_holds h
  | .identify .., _ => execIdentify_holds h
  | .getFeatures .., _ => execGetFeatures_holds h
  | .setFeaturesArbitration .., _ => execSetFeaturesArbitration_holds h
  | .setFeaturesPowerManagement .., _ => execSetFeaturesPowerManagement_holds h
  | .setFeaturesInterruptCoalescing .., _ => execSetFeaturesInterruptCoalescing_holds h
  | .setFeaturesApst .., _ => execSetFeaturesApst_holds h
  | .setFeaturesTimestamp .., _ => execSetFeaturesTimestamp_holds h
  | .setFeaturesPlmConfig .., _ => execSetFeaturesPlmConfig_holds h
  | .setFeaturesPlmWindow .., _ => execSetFeaturesPlmWindow_holds h
  | .setFeaturesFdp .., _ => execSetFeaturesFdp_holds h
  | .setFeaturesFdpEvents .., _ => execSetFeaturesFdpEvents_holds h
  | .setFeaturesTemperatureThreshold .., _ => execSetFeaturesTemperatureThreshold_holds h
  | .setFeaturesHostIdentifier .., _ => execSetFeaturesHostIdentifier_holds h
  | .setFeaturesReservation .., _ => execSetFeaturesReservation_holds h
  | .ioManagementSend .., _ => execIoManagementSend_holds h
  | .ioManagementReceive .., _ => execIoManagementReceive_holds h
  | .getLogPage .., _ => execGetLogPage_holds h
  | .getLogChangedZoneList .., _ => execGetLogChangedZoneList_holds h
  | .getLogSmartHealth .., _ => execGetLogSmartHealth_holds h
  | .getLogArchive .., _ => execGetLogArchive_holds h
  | .getLogFixityJobResult .., _ => execGetLogFixityJobResult_holds h
  | .getLogPersistentEvent .., _ => execGetLogPersistentEvent_holds h
  | .getLogTelemetryHost .., _ => execGetLogTelemetryHost_holds h
  | .getLogTelemetryController .., _ => execGetLogTelemetryController_holds h
  | .createIoSubmissionQueue .., _ => execCreateIoSubmissionQueue_holds h
  | .createIoCompletionQueue .., _ => execCreateIoCompletionQueue_holds h
  | .deleteIoSubmissionQueue .., _ => execDeleteIoSubmissionQueue_holds h
  | .deleteIoCompletionQueue .., _ => execDeleteIoCompletionQueue_holds h
  | .abort .., _ => execAbort_holds h
  | .asynchronousEventRequest .., _ => execAsynchronousEventRequest_holds h
  | .sieveRuleInsert .., _ => execSieveRuleInsert_holds h
  | .sieveRuleRemove .., _ => execSieveRuleRemove_holds h
  | .sieveShiftComplete, _ => execSieveShiftComplete_holds h
  | .sieveShadowRewriteDone .., _ => execSieveShadowRewriteDone_holds h
  | .sieveScrubStep .., _ => execSieveScrubStep_holds h
  | .sieveDiagCapture .., _ => execSieveDiagCapture_holds h
  | .walkSlotFreed, _ => execWalkSlotFreed_holds h
  | .mapUpdate .., _ => execMapUpdate_holds h
  | .channelRetrain .., _ => execChannelRetrain_holds h
  | .dieOperationIssue .., _ => execDieOperationIssue_holds h
  | .operationAging .., _ => execOperationAging_holds h
  | .nandReadComplete .., _ => execNandReadComplete_holds h
  | .decodeLadderStep .., _ => execDecodeLadderStep_holds h
  | .qlcPassComplete .., _ => execQlcPassComplete_holds h
  | .qlcNextPassStart .., _ => execQlcNextPassStart_holds h
  | .slcProgramComplete .., _ => execSlcProgramComplete_holds h
  | .eraseComplete .., _ => execEraseComplete_holds h
  | .eraseSuspendRequest .., _ => execEraseSuspendRequest_holds h
  | .eraseSuspendComplete .., _ => execEraseSuspendComplete_holds h
  | .eraseResume .., _ => execEraseResume_holds h
  | .deterministicWindowEntered .., _ => execDeterministicWindowEntered_holds h
  | .dtwinMaxExpiry .., _ => execDtwinMaxExpiry_holds h
  | .brownOutDetect .., _ => execBrownOutDetect_holds h
  | .pulseGateReopen .., _ => execPulseGateReopen_holds h
  | .dieFailure .., _ => execDieFailure_holds h
  | .verifyComplete .., _ => execVerifyComplete_holds h
  | .blanketRelease .., _ => execBlanketRelease_holds h
  | .nandTemperatureSummary .., _ => execNandTemperatureSummary_holds h
  | .fiSummaryTimeout .., _ => execFiSummaryTimeout_holds h
  | .timestampWaitExpiry, _ => execTimestampWaitExpiry_holds h
  | .earlyWarningConfirm .., _ => execEarlyWarningConfirm_holds h
  | .refireStart .., _ => execRefireStart_holds h
  | .refireTargetProgrammed .., _ => execRefireTargetProgrammed_holds h
  | .refireSwitch .., _ => execRefireSwitch_holds h
  | .refireOldRowRelease .., _ => execRefireOldRowRelease_holds h
  | .refireRetryTimer .., _ => execRefireRetryTimer_holds h
  | .relocationStart .., _ => execRelocationStart_holds h
  | .relocationSwitch .., _ => execRelocationSwitch_holds h
  | .relocationRetryTimer .., _ => execRelocationRetryTimer_holds h
  | .fbeMmBlkCapture .., _ => execFbeMmBlkCapture_holds h
  | .fixityVerify .., _ => execFixityVerify_holds h
  | .fixityCancel .., _ => execFixityCancel_holds h
  | .fixityZoneStart .., _ => execFixityZoneStart_holds h
  | .fixityZoneDone .., _ => execFixityZoneDone_holds h
  | .sramCheckRead .., _ => execSramCheckRead_holds h
  | .sramUncorrectableReread .., _ => execSramUncorrectableReread_holds h
  | .eccSelftestRun, _ => execEccSelftestRun_holds h
  | .eccSelftestDone .., _ => execEccSelftestDone_holds h
  | .pwrfailAssert .., _ => execPwrfailAssert_holds h
  | .dumpComplete, _ => execDumpComplete_holds h
  | .pwrfailReleaseTimeout, _ => execPwrfailReleaseTimeout_holds h
  | .normalShutdown .., _ => execNormalShutdown_holds h
  | .abruptShutdown .., _ => execAbruptShutdown_holds h
  | .shutdownComplete, _ => execShutdownComplete_holds h
  | .trailFlushStart, _ => execTrailFlushStart_holds h
  | .trailFlushDurable, _ => execTrailFlushDurable_holds h
  | .checkpointStart, _ => execCheckpointStart_holds h
  | .checkpointEnd, _ => execCheckpointEnd_holds h
  | .dumpRowRelease .., _ => execDumpRowRelease_holds h
  | .glazeDescriptorSubmit .., _ => execGlazeDescriptorSubmit_holds h
  | .glazeDescriptorComplete .., _ => execGlazeDescriptorComplete_holds h
  | .glazeContextAgedResume .., _ => execGlazeContextAgedResume_holds h
  | .keyUnwrapLoad .., _ => execKeyUnwrapLoad_holds h
  | .keySlotUnload .., _ => execKeySlotUnload_holds h
  | .keySlotDrained .., _ => execKeySlotDrained_holds h
  | .opalAuthenticate .., _ => execOpalAuthenticate_holds h
  | .opalSetCredential .., _ => execOpalSetCredential_holds h
  | .opalSetLocking .., _ => execOpalSetLocking_holds h
  | .opalGenkey .., _ => execOpalGenkey_holds h
  | .keyTagInject .., _ => execKeyTagInject_holds h
  | .keyTagClear .., _ => execKeyTagClear_holds h
  | .sealedWaitWarning .., _ => execSealedWaitWarning_holds h
  | .entropyHealthFail, _ => execEntropyHealthFail_holds h
  | .glazeAlarm .., _ => execGlazeAlarm_holds h
  | .alarmRecovery .., _ => execAlarmRecovery_holds h
  | .otpIntegrityRecheck .., _ => execOtpIntegrityRecheck_holds h
  | .hamperAllocate .., _ => execHamperAllocate_holds h
  | .hamperHand .., _ => execHamperHand_holds h
  | .hamperClaim .., _ => execHamperClaim_holds h
  | .hamperDrop .., _ => execHamperDrop_holds h
  | .hamperRelease .., _ => execHamperRelease_holds h
  | .poolWaitNotice .., _ => execPoolWaitNotice_holds h
  | .freeListRebuild .., _ => execFreeListRebuild_holds h
  | .freeListRebuildDone .., _ => execFreeListRebuildDone_holds h
  | .dramRequestArrival .., _ => execDramRequestArrival_holds h
  | .dramRequestIssue .., _ => execDramRequestIssue_holds h
  | .dramReadReturn .., _ => execDramReadReturn_holds h
  | .refreshDue .., _ => execRefreshDue_holds h
  | .zqCalibrationTimer, _ => execZqCalibrationTimer_holds h
  | .dqsOscillatorCheck .., _ => execDqsOscillatorCheck_holds h
  | .caParityAlert .., _ => execCaParityAlert_holds h
  | .dramScrubStep .., _ => execDramScrubStep_holds h
  | .perstAssert .., _ => execPerstAssert_holds h
  | .perstRelease .., _ => execPerstRelease_holds h
  | .linkUp .., _ => execLinkUp_holds h
  | .aspmL1Entry .., _ => execAspmL1Entry_holds h
  | .l0pNarrow .., _ => execL0pNarrow_holds h
  | .l0pWiden .., _ => execL0pWiden_holds h
  | .pcieReadError .., _ => execPcieReadError_holds h
  | .msixVectorUnmask .., _ => execMsixVectorUnmask_holds h
  | .wakeNAssert .., _ => execWakeNAssert_holds h
  | .doeObject .., _ => execDoeObject_holds h
  | .doeAbort .., _ => execDoeAbort_holds h
  | .spdmGetMeasurements .., _ => execSpdmGetMeasurements_holds h
  | .spdmRequest .., _ => execSpdmRequest_holds h
  | .ideKmRequest .., _ => execIdeKmRequest_holds h
  | .reservationRegister .., _ => execReservationRegister_holds h
  | .reservationAcquire .., _ => execReservationAcquire_holds h
  | .reservationRelease .., _ => execReservationRelease_holds h
  | .reservationReport .., _ => execReservationReport_holds h
  | .virtMgmtAssign .., _ => execVirtMgmtAssign_holds h
  | .virtMgmtOnline .., _ => execVirtMgmtOnline_holds h
  | .virtMgmtOffline .., _ => execVirtMgmtOffline_holds h
  | .instanceQuiescePause .., _ => execInstanceQuiescePause_holds h
  | .pauseDrainComplete .., _ => execPauseDrainComplete_holds h
  | .pauseLimitExpiry .., _ => execPauseLimitExpiry_holds h
  | .instanceQuiesceStop .., _ => execInstanceQuiesceStop_holds h
  | .instanceQuiesceResume .., _ => execInstanceQuiesceResume_holds h
  | .stopDrainComplete .., _ => execStopDrainComplete_holds h
  | .functionLevelReset .., _ => execFunctionLevelReset_holds h
  | .controllerDisable .., _ => execControllerDisable_holds h
  | .controllerEnable .., _ => execControllerEnable_holds h
  | .tenantShutdown .., _ => execTenantShutdown_holds h
  | .instanceResourcesSet .., _ => execInstanceResourcesSet_holds h
  | .instanceResourcesGet .., _ => execInstanceResourcesGet_holds h
  | .instanceStateSave .., _ => execInstanceStateSave_holds h
  | .instanceStateRestore .., _ => execInstanceStateRestore_holds h
  | .mbxTDoorbell .., _ => execMbxTDoorbell_holds h
  | .mbxTAck .., _ => execMbxTAck_holds h
  | .mbxInstDoorbell, _ => execMbxInstDoorbell_holds h
  | .mbxInstAck .., _ => execMbxInstAck_holds h
  | .dirtyLogEnable, _ => execDirtyLogEnable_holds h
  | .dirtyLogDisable, _ => execDirtyLogDisable_holds h
  | .harvest .., _ => execHarvest_holds h
  | .harvestComplete .., _ => execHarvestComplete_holds h
  | .reportRingSizeWrite .., _ => execReportRingSizeWrite_holds h
  | .fenceIssue .., _ => execFenceIssue_holds h
  | .fenceComplete .., _ => execFenceComplete_holds h
  | .snapshotView .., _ => execSnapshotView_holds h
  | .nvmSubsystemReset, _ => execNvmSubsystemReset_holds h
  | .controllerReset, _ => execControllerReset_holds h
  | .nonopEntryStart .., _ => execNonopEntryStart_holds h
  | .nonopStateReached .., _ => execNonopStateReached_holds h
  | .entryBackoffRetry .., _ => execEntryBackoffRetry_holds h
  | .apstIdleExpiry .., _ => execApstIdleExpiry_holds h
  | .ps3Ps4Change, _ => execPs3Ps4Change_holds h
  | .wakeSource .., _ => execWakeSource_holds h
  | .exitComplete, _ => execExitComplete_holds h
  | .maintenanceWake, _ => execMaintenanceWake_holds h
  | .maintenanceReentry .., _ => execMaintenanceReentry_holds h
  | .wakeDomainIdleReturn, _ => execWakeDomainIdleReturn_holds h
  | .domainIdleGate .., _ => execDomainIdleGate_holds h
  | .isolationGateWake .., _ => execIsolationGateWake_holds h
  | .avsStepRequest .., _ => execAvsStepRequest_holds h
  | .avsStepResult .., _ => execAvsStepResult_holds h
  | .avsExitRetry .., _ => execAvsExitRetry_holds h
  | .housekeepingRound .., _ => execHousekeepingRound_holds h
  | .dieTemperatureReadings .., _ => execDieTemperatureReadings_holds h
  | .diodeAnchor .., _ => execDiodeAnchor_holds h
  | .temperatureHistoryTick, _ => execTemperatureHistoryTick_holds h
  | .thermalTrip .., _ => execThermalTrip_holds h
  | .faultMessage .., _ => execFaultMessage_holds h
  | .faultHandler, _ => execFaultHandler_holds h
  | .graveStopIsolate, _ => execGraveStopIsolate_holds h
  | .klogTokenRefill, _ => execKlogTokenRefill_holds h
  | .klogPersistSegment, _ => execKlogPersistSegment_holds h
  | .persistNow, _ => execPersistNow_holds h
  | .firstSourceClear, _ => execFirstSourceClear_holds h
  | .faultInject .., _ => execFaultInject_holds h
  | .klogRecordCapture .., _ => execKlogRecordCapture_holds h
  | .imageBegin .., _ => execImageBegin_holds h
  | .imageChunk .., _ => execImageChunk_holds h
  | .imageCommit .., _ => execImageCommit_holds h
  | .imageAbort .., _ => execImageAbort_holds h
  | .fieldRead .., _ => execFieldRead_holds h
  | .fieldWrite .., _ => execFieldWrite_holds h
  | .nsModeSet .., _ => execNsModeSet_holds h
  | .cfgMbxBadDoorbell .., _ => execCfgMbxBadDoorbell_holds h
  | .imageSessionTimeout, _ => execImageSessionTimeout_holds h
  | .miBasicManagementCommand, _ => execMiBasicManagementCommand_holds h
  | .miKilnLogRead .., _ => execMiKilnLogRead_holds h
  | .miTunnelledAdmin .., _ => execMiTunnelledAdmin_holds h
  | .miControlPrimitive .., _ => execMiControlPrimitive_holds h
  | .miHealthStatusPoll .., _ => execMiHealthStatusPoll_holds h
  | .miReadDataStructure .., _ => execMiReadDataStructure_holds h
  | .miConfigurationGet .., _ => execMiConfigurationGet_holds h
  | .miConfigurationSet .., _ => execMiConfigurationSet_holds h
  | .miVpdRead .., _ => execMiVpdRead_holds h
  | .miVpdWrite .., _ => execMiVpdWrite_holds h
  | .miReset .., _ => execMiReset_holds h
  | .stewardMailboxTimeout, _ => execStewardMailboxTimeout_holds h
  | .trialSlotConfirm, _ => execTrialSlotConfirm_holds h
  | .configRollbackAdvance, _ => execConfigRollbackAdvance_holds h
  | .bootAreaRefresh .., _ => execBootAreaRefresh_holds h
  | .firmwareImageDownload .., _ => execFirmwareImageDownload_holds h
  | .firmwareCommit .., _ => execFirmwareCommit_holds h
  | .stagingTimeout, _ => execStagingTimeout_holds h
  | .smiliBadFrame .., _ => execSmiliBadFrame_holds h
  | .servicePortAutobaud .., _ => execServicePortAutobaud_holds h
  | .servicePortRateTimeout, _ => execServicePortRateTimeout_holds h
  | .identifySmili .., _ => execIdentifySmili_holds h
  | .bootTimes .., _ => execBootTimes_holds h
  | .logRead .., _ => execLogRead_holds h
  | .logAreaRead .., _ => execLogAreaRead_holds h
  | .serviceReset .., _ => execServiceReset_holds h
  | .fwBegin .., _ => execFwBegin_holds h
  | .fwChunk .., _ => execFwChunk_holds h
  | .fwCommit .., _ => execFwCommit_holds h
  | .fwAbort .., _ => execFwAbort_holds h
  | .cfgMsg .., _ => execCfgMsg_holds h
  | .trace .., _ => execTrace_holds h
  | .otpRead .., _ => execOtpRead_holds h
  | .otpProgram .., _ => execOtpProgram_holds h
  | .provisionKeys .., _ => execProvisionKeys_holds h
  | .certWrite .., _ => execCertWrite_holds h
  | .lifecycleAdvance .., _ => execLifecycleAdvance_holds h
  | .debugChallenge .., _ => execDebugChallenge_holds h
  | .debugUnlock .., _ => execDebugUnlock_holds h
  | .railLow .., _ => execRailLow_holds h
  | .io33Restored, _ => execIo33Restored_holds h
  | .aonReset, _ => execAonReset_holds h
  | .pwrdisAssert, _ => execPwrdisAssert_holds h
  | .pwrdisRelease, _ => execPwrdisRelease_holds h
  | .offDomainRead .., _ => execOffDomainRead_holds h
  | .hostDataUnitArrival .., _ => execHostDataUnitArrival_holds h
  | .linkDown .., _ => execLinkDown_holds h
  | .ideIntegrityCheckFailure, _ => execIdeIntegrityCheckFailure_holds h
  | .aspmL1Exit .., _ => execAspmL1Exit_holds h
  | .configurationRequest .., _ => execConfigurationRequest_holds h
  | .dramRowIdleClose .., _ => execDramRowIdleClose_holds h
  | .aonDiodeRead .., _ => execAonDiodeRead_holds h
  | .entropyHealthTestPass, _ => execEntropyHealthTestPass_holds h
  | .pwrfailHighBeforeStart, _ => execPwrfailHighBeforeStart_holds h
  | .setFeaturesAsyncEventConfig .., _ => execSetFeaturesAsyncEventConfig_holds h
  | .keyPerIoKekSet .., _ => execKeyPerIoKekSet_holds h

theorem State.idle_holds {w : Prop} {s : State} : Holds w s s.idle := by
  rw [State.idle_eq]
  exact (Holds.refl s).upd rfl rfl rfl rfl rfl rfl rfl

theorem State.tablesCanonical_iff {s : State} :
    s.tablesCanonical = true ↔ Tab.wf none s.regs = true ∧ Tab.wf none s.cfg = true := by
  rw [State.tablesCanonical, Bool.and_eq_true]

/-- The parts of `Holds` that do not speak of the queue, as the statement of O4 words them. -/
theorem Holds.keeps {w : Prop} {s t : State} (h : Holds w s t) :
    (s.tablesCanonical = true → t.tablesCanonical = true) ∧ (∃ new, t.out = new ++ s.out) ∧ s.freeCtr ≤ t.freeCtr ∧
      (∀ r b, (s.otpRow r).testBit b = true → (t.otpRow r).testBit b = true) := by
  refine ⟨fun hs => ?_, ?_, h.used, h.otp⟩
  · obtain ⟨hregs, hcfg⟩ := State.tablesCanonical_iff.mp hs
    exact State.tablesCanonical_iff.mpr ⟨h.regs hregs, h.cfg hcfg⟩
  · obtain ⟨new, hnew⟩ := h.sent
    exact ⟨new, hnew.symm⟩

/-- Settles O4: an idle tick and a command each keep the relation `Holds`; the boot sequence alone, which the queue's
front then is, may end the Grave state. -/
theorem stepKeeps : Obligations.StepKeeps := by
  intro s t hstep
  cases hqueue : s.pending with
  | nil =>
    obtain rfl : s.idle = t := by simpa only [step, hqueue, Host.Outcome.next.injEq] using hstep
    have h : Holds True s s.idle := State.idle_holds
    obtain ⟨hcanon, hout, hfree, hotp⟩ := h.keeps
    exact ⟨hcanon, h.queue.trans hqueue, hout, hfree, hotp, fun hg => .inl (h.grave trivial hg)⟩
  | cons c rest =>
    have hexec : exec c { s with pending := rest } = .next t := by simpa only [step, hqueue] using hstep
    have h : Holds (∀ info, c ≠ .bootSequence info) { s with pending := rest } t :=
      exec_holds (Holds.refl _) c id t hexec
    obtain ⟨hcanon, hout, hfree, hotp⟩ := h.keeps
    refine ⟨hcanon, h.queue, hout, hfree, hotp, fun hg => ?_⟩
    by_cases warm : ∀ info, c ≠ .bootSequence info
    · exact .inl (h.grave warm hg)
    · simp only [not_forall, not_not] at warm
      obtain ⟨info, rfl⟩ := warm
      exact .inr ⟨info, rfl⟩

end Sys2Proof.Machine
end

section
/-! Proofs: the words of the Switch and of the bridges, and the clocked islands (R22, R23, R28, R29). -/

namespace Sys2Proof.Machine

set_option Elab.async false

variable {s : State}

/-! ### Lists without repetition -/

theorem mem_addOnce_iff {α : Type} [DecidableEq α] {l : List α} {x y : α} : y ∈ addOnce l x ↔ y ∈ l ∨ y = x := by
  unfold addOnce
  split
  case isTrue h =>
    have hx : x ∈ l := by simpa using h
    exact ⟨.inl, fun h => h.elim id fun e => e ▸ hx⟩
  case isFalse h => simp

theorem mem_filter_ne_iff {α : Type} [DecidableEq α] {l : List α} {x y : α} : y ∈ l.filter (· ≠ x) ↔ y ∈ l ∧ y ≠ x := by
  simp

/-! ### The retransmission of a discarded word (R23) -/

theorem State.discardWord_of_new {w : WordAt} (ok : wordOk w = true) (new : w ∉ s.fabric.discarded) :
    s.discardWord w = { s with fabric := { s.fabric with discarded := s.fabric.discarded ++ [w] } } := by
  simp [State.discardWord, ok, new]

/-- The outcome of the retransmission of a word that waits for it: the word waits no longer, and what follows depends
on the second and third attempts alone. -/
theorem execSwitchRetransmitResult_of_discarded {w : WordAt} {second third : Bool} {tags : List Nat}
    (h : w ∈ s.fabric.discarded) :
    execSwitchRetransmitResult w second third tags s =
      (let s := { s with fabric := { s.fabric with discarded := s.fabric.discarded.erase w } }
       let kind := match w with
         | .segment _ _ _ => 0x01
         | .bridge _ _ => 0x04
       if second then .next (s.reportTransient (wordSource w) kind (wordAddress w))
       else if third then .next (s.segmentOut w) else .next ((s.segmentOut w).portOut w tags)) := by
  simp only [execSwitchRetransmitResult, List.contains_iff_mem.mpr h, Bool.not_true, Bool.false_eq_true, if_false] <;> rfl

/-! ### Clocked islands (R29) -/

theorem State.settleStop_of_empty {d : Nat} (waits : d ∈ s.fabric.stopWaits)
    (empty : (s.bridge d).inFifo = 0 ∧ (s.bridge d).outFifo = 0) :
    s.settleStop d = { s with fabric := { s.fabric with
      stopWaits := s.fabric.stopWaits.filter (· ≠ d), stopped := addOnce s.fabric.stopped d } } :=
  if_pos ⟨List.contains_iff_mem.mpr waits, empty⟩

theorem State.settleStop_of_not_empty {d : Nat} (h : ¬((s.bridge d).inFifo = 0 ∧ (s.bridge d).outFifo = 0)) :
    s.settleStop d = s :=
  if_neg fun k => h k.2

theorem State.serveBridge_of_ready {d : Nat}
    (h : (s.bridge d).held ≠ 0 ∧ (s.bridge d).inFifo < 16 ∧ s.islandPowered d = true) :
    s.serveBridge d =
      (let u := s.modBridge d fun b => { b with held := b.held - 1, inFifo := b.inFifo + 1 }
       { u with fabric := { u.fabric with stopped := s.fabric.stopped.filter (· ≠ d) } }) := by
  obtain ⟨held, room, on⟩ := h
  exact if_neg (by simp [held, room, on])

theorem State.serveBridge_of_not_ready {d : Nat}
    (h : ¬((s.bridge d).held ≠ 0 ∧ (s.bridge d).inFifo < 16 ∧ s.islandPowered d = true)) : s.serveBridge d = s := by
  refine if_pos ?_
  simp only [not_and_or, not_not, Nat.not_lt, Bool.not_eq_true] at h
  simpa using h

/-- Settles O5: each row by the branches of its meaning, the lists of places read by membership. -/
theorem fabricRows : Obligations.FabricRows := by
  refine ⟨⟨?discard, ?segment, ?bridge⟩, ?stop, ?settle, ?restart, ?serve⟩
  case discard =>
    intro w s ok new t
    have h := State.discardWord_of_new ok new
    exact ⟨congrArg _ h, congrArg _ h⟩
  case segment =>
    intro g a b third tags s h w src s1 s2
    exact ⟨execSwitchRetransmitResult_of_discarded h, execSwitchRetransmitResult_of_discarded h,
      execSwitchRetransmitResult_of_discarded h⟩
  case bridge =>
    intro d dir third tags s h w src s1 s2
    exact ⟨execSwitchRetransmitResult_of_discarded h, execSwitchRetransmitResult_of_discarded h,
      execSwitchRetransmitResult_of_discarded h⟩
  case stop =>
    intro d i o s hd hi ho running
    let u := s.modBridge d fun b => { b with inFifo := i, outFifo := o }
    refine ⟨{ u with fabric := { u.fabric with stopWaits := addOnce u.fabric.stopWaits d } }, ?_, rfl, rfl,
      fun e => mem_addOnce_iff⟩
    exact if_neg (by simp [running]; omega)
  case settle =>
    intro d s waits
    split
    case isTrue empty =>
      have h := State.settleStop_of_empty waits empty
      intro t
      simp only [t, h]
      exact ⟨fun e => mem_filter_ne_iff, fun e => mem_addOnce_iff, trivial⟩
    case isFalse busy => exact State.settleStop_of_not_empty busy
  case restart =>
    intro d s hd
    exact if_neg (Nat.not_le.mpr hd)
  case serve =>
    intro d s
    split
    case isTrue ready =>
      have h := State.serveBridge_of_ready ready
      intro t u
      simp only [t, h]
      exact ⟨fun e => mem_filter_ne_iff, rfl⟩
    case isFalse h => exact State.serveBridge_of_not_ready h

end Sys2Proof.Machine
end

section
/-! Proofs: the fences of Waymark, their issue, their wait at the root, their results in ID order (R21, R398, R400). -/

namespace Sys2Proof.Machine

set_option Elab.async false

variable {s : State}

theorem State.treeFull_iff : s.treeFull = true ↔ 64 ≤ s.wmk.tree.length ∨ s.wmk.stalled ≠ [] := by
  simp [State.treeFull]

theorem fenceRefused_iff {scope target : Nat} {snap : Bool} :
    fenceRefused scope target snap = true ↔
      scope = 3 ∨ (scope = 1 ∧ 7 < target) ∨ (scope = 2 ∧ 511 < target) ∨ (snap = true ∧ scope ≠ 0) := by
  simp [fenceRefused, or_assoc]

/-- The state in which a fence has taken its port's next ID. -/
def State.withFence (s : State) (port cls scope target : Nat) (snap : Bool) : State :=
  let id := (s.fport port).nextId
  let q := s.modFport port fun x => { x with
    nextId := (id + 1) % 65536, out := x.out ++ [{ id := id, cls := cls, scope := scope, target := target, snap := snap }] }
  if port = 0 then q.setReg Reg.WMK_LAST_ID_ID id else q

theorem State.withFence_treeFull {port cls scope target : Nat} {snap : Bool} :
    (s.withFence port cls scope target snap).treeFull = s.treeFull := by
  unfold State.withFence
  dsimp only
  split <;> rfl

/-- A fence that may take an ID: refused, stalled at the root, or in the tree. -/
theorem State.issueFence_of_room {port cls scope target : Nat} {snap : Bool}
    (room : ¬(port = 0 ∧ 16 ≤ ((s.fport 0).out.filter fun f => !f.dropped).length)) :
    (s.issueFence port cls scope target snap).2 =
      (let id := (s.fport port).nextId
       let q := s.withFence port cls scope target snap
       if fenceRefused scope target snap then q.endFence port id 2
       else if s.treeFull then q.stall (.fence port id) else q.startFence port id) := by
  rw [← State.withFence_treeFull (s := s) (port := port) (cls := cls) (scope := scope) (target := target) (snap := snap)]
  rw [State.issueFence, if_neg room, apply_ite Prod.snd, apply_ite Prod.snd]
  rfl

theorem execFenceIssue_of_ok {port cls scope target : Nat} {snap : Bool} (hp : port ≤ 7) (hc : cls ≤ 3) (hs : scope ≤ 3) :
    execFenceIssue port cls scope target snap s = .next (s.issueFence port cls scope target snap).2 :=
  congrArg _ (if_neg (by omega))

theorem execFenceComplete_of_found {port id : Nat} {f : Fence}
    (found : ((s.fport port).out.find? fun f => decide (f.id = id)) = some f) :
    execFenceComplete port id s = .next (if s.fenceReady f then s.endFence port id 0 else s) := by
  simp only [execFenceComplete, found]

theorem State.fenceReady_of_done {f : Fence} (started : f.started = true) (runs : f.ended = none)
    (words : f.cls = 0 → f.mark ≤ s.now) (records : f.cls = 2 → f.mark ≤ s.trail.doneSeq)
    (messages : f.cls = 3 → ∀ c ∈ f.held, (s.src c).held = none) : s.fenceReady f = true := by
  simp only [State.fenceReady, started, runs, Option.isNone_none, Bool.true_and, Bool.or_eq_true]
  right
  split
  case h_1 h => simpa using words h
  case h_2 h => simpa using records h
  case h_3 h => simpa using messages h
  case h_4 => rfl

/-- With the oldest fence of a port not ended, none of the port is reported. -/
theorem State.releaseFences_of_head_runs {p : Nat} {a : Fence} {l : List Fence} (h : (s.fport p).out = a :: l)
    (runs : a.ended = none) : s.releaseFences p = s.modFport p fun x => { x with out := x.out.dropWhile fun f => f.ended.isSome } := by
  simp [State.releaseFences, h, runs, State.each]

/-- A fence with the number ends with the result, unless it has ended. -/
def Fence.endAs (id result : Nat) (y : Fence) : Fence :=
  if y.id = id ∧ y.ended = none then { y with ended := some result } else y

theorem Fence.endAs_of_ne {y : Fence} {id result : Nat} (h : y.id ≠ id) : y.endAs id result = y := if_neg fun k => h k.1

/-- The state in which a fence has ended and nothing is reported yet. -/
def State.fenceEnded (s : State) (port id result : Nat) : State :=
  (({ s with wmk := { s.wmk with stalled := s.wmk.stalled.filter fun x => decide (x ≠ Stalled.fence port id) } } : State).modFport
    port fun x => { x with out := x.out.map (Fence.endAs id result) }).leaveTree fun o => decide (o = TreeOp.fence port id)

theorem State.endFence_eq {port id result : Nat} :
    s.endFence port id result = (s.fenceEnded port id result).releaseFences port := by
  have same : (fun y : Fence => if y.id = id then (if y.ended.isSome then y else { y with ended := some result }) else y) =
      Fence.endAs id result := by
    funext y
    unfold Fence.endAs
    cases y.ended <;> simp
  unfold State.endFence State.fenceEnded State.modFence
  rw [same]

/-- The end of a fence while an older one of its port runs is kept: nothing is sent or counted. -/
theorem State.endFence_of_older_runs {port id result : Nat} {a : Fence} {l : List Fence}
    (wf : Tab.wf {} s.wmk.ports = true) (h : (s.fport port).out = a :: l) (runs : a.ended = none) (older : a.id ≠ id) :
    ∃ t, s.endFence port id result = t ∧ t.out = s.out ∧ t.regs = s.regs ∧
      (t.fport port).out = a :: l.map (Fence.endAs id result) := by
  have ports : (s.fenceEnded port id result).wmk.ports =
      s.wmk.ports.upd {} port fun x => { x with out := x.out.map (Fence.endAs id result) } := rfl
  have ended : ((s.fenceEnded port id result).fport port).out = a :: l.map (Fence.endAs id result) := by
    rw [State.fport, ports, Tab.get_upd_self wf, ← State.fport, h, List.map_cons, Fence.endAs_of_ne older]
  have wfEnded : Tab.wf {} (s.fenceEnded port id result).wmk.ports = true := ports ▸ Tab.wf_upd wf
  rw [State.endFence_eq, State.releaseFences_of_head_runs ended runs]
  refine ⟨_, rfl, rfl, rfl, ?_⟩
  rw [State.fport_modFport_wf wfEnded, ended]
  simp [runs]

/-- Settles O6: the branches of a fence's issue, and its end by whether an older one still runs. -/
theorem fenceRows : Obligations.FenceRows := by
  refine ⟨⟨?issue, ?complete, ?release⟩, ?order⟩
  case issue =>
    intro port cls scope target snap s hp hc hs id f q q
    have h := execFenceIssue_of_ok (s := s) (target := target) (snap := snap) hp hc hs
    change exec (.fenceIssue port cls scope target snap) s = _ at h
    rw [h]
    split
    case isTrue full => exact congrArg _ (congrArg Prod.snd (if_pos full))
    case isFalse room =>
      rw [State.issueFence_of_room room]
      simp only [← fenceRefused_iff, ← State.treeFull_iff]
      split
      · rfl
      · split <;> rfl
  case complete =>
    intro port id f s found started runs words records messages
    have ready := State.fenceReady_of_done started runs words records messages
    exact (execFenceComplete_of_found found).trans (by rw [if_pos ready])
  case release =>
    intro o rest s waits room
    change Host.Outcome.next s.releaseStall = _
    simp only [State.releaseStall, waits, if_neg (Nat.not_le.mpr room)]
  case order =>
    intro port id a f l s wf h runs older found ready
    obtain ⟨t, ht, hout, hregs, hlist⟩ := State.endFence_of_older_runs (result := 0) wf h runs older
    refine ⟨t, ?_, hout, hregs, hlist⟩
    have first : ((s.fport port).out.find? fun f => decide (f.id = id)) = some f := by
      rw [h, List.find?_cons_of_neg (by simpa using older), found]
    exact (execFenceComplete_of_found first).trans (by rw [if_pos ready, ht])

end Sys2Proof.Machine
end

section
/-! Proofs: doorbells, I/O queues and the completion of admin commands (R68, R69, R75, R76, R359). -/

namespace Sys2Proof.Machine

set_option Elab.async false

variable {s : State}

/-! ### Doorbells -/

theorem Sq.tailOk_eq_false_iff {q : Sq} {v : Nat} :
    q.tailOk v = false ↔ q.size ≤ v ∨ q.size ≤ (q.tail + q.size - q.head) % q.size + (v + q.size - q.tail) % q.size := by
  simp [Sq.tailOk, or_iff_not_imp_left]

theorem execSqDoorbellWrite_of_missing {i q v : Nat} (open_ : s.ideBlocked = false)
    (missing : ((s.inst i).sqs.get {} q).exists_ = false) :
    execSqDoorbellWrite i q v s = .next (s.event i Ev.error Ev.invalidDoorbellRegister 0x01) := by
  simp [execSqDoorbellWrite, open_, missing]

theorem execSqDoorbellWrite_of_bad {i q v : Nat} (open_ : s.ideBlocked = false)
    (there : ((s.inst i).sqs.get {} q).exists_ = true) (bad : ((s.inst i).sqs.get {} q).tailOk v = false) :
    execSqDoorbellWrite i q v s = .next (s.event i Ev.error Ev.invalidDoorbellValue 0x01) := by
  simp [execSqDoorbellWrite, open_, there, bad]

/-- The notices of intake with one queue's, merged with one that is there (R15). -/
def State.withNotice (s : State) (x : Nat × Nat) : List (Nat × Nat) :=
  if s.intake.notices.contains x then s.intake.notices else s.intake.notices ++ [x]

theorem State.mem_withNotice_iff {x e : Nat × Nat} : e ∈ s.withNotice x ↔ e ∈ s.intake.notices ∨ e = x := by
  unfold State.withNotice
  split
  case isTrue h =>
    have hx : x ∈ s.intake.notices := List.contains_iff_mem.mp h
    exact ⟨.inl, fun h => h.elim id fun e => e ▸ hx⟩
  case isFalse h => simp

theorem State.withNotice_nodup {x : Nat × Nat} (nodup : s.intake.notices.Nodup) : (s.withNotice x).Nodup := by
  unfold State.withNotice
  split
  case isTrue h => exact nodup
  case isFalse h =>
    have new : x ∉ s.intake.notices := fun k => h (List.contains_iff_mem.mpr k)
    exact nodup.append (List.nodup_singleton x) (List.disjoint_singleton.mpr new)

theorem execSqDoorbellWrite_of_ok {i q v : Nat} (open_ : s.ideBlocked = false)
    (there : ((s.inst i).sqs.get {} q).exists_ = true) (ok : ((s.inst i).sqs.get {} q).tailOk v = true) :
    execSqDoorbellWrite i q v s =
      .next (({ s.modInst i (fun x => { x with sqs := x.sqs.upd {} q fun a => { a with tail := v } }) with
        intake := { s.intake with notices := s.withNotice (i, q) } } : State).wake 0) := by
  have good : ¬(!((s.inst i).sqs.get {} q).tailOk v) = true := by rw [ok]; decide
  exact (if_neg (by simp [open_])).trans ((if_neg (by simp [there])).trans (if_neg good))

theorem execCqDoorbellWrite_of_open {i q v : Nat} (open_ : s.ideBlocked = false) :
    execCqDoorbellWrite i q v s = .next (
      if ((s.inst i).cqs.get {} q).exists_ = false then s.event i Ev.error Ev.invalidDoorbellRegister 0x01
      else if ((s.inst i).cqs.get {} q).size ≤ v then s.event i Ev.error Ev.invalidDoorbellValue 0x01
      else s.modInst i fun x => { x with cqs := x.cqs.upd {} q fun a => { a with head := v } }) := by
  unfold execCqDoorbellWrite
  simp only [open_, Bool.not_eq_true', Bool.false_eq_true, if_false, apply_ite Host.Outcome.next]

/-! ### I/O queues -/

theorem State.queueIdOk_iff {i qid : Nat} : s.queueIdOk i qid = true ↔ 1 ≤ qid ∧ qid ≤ s.ioPairs i := by
  simp [State.queueIdOk]

/-- With no command of the queue in the controller its deletion aborts none. -/
theorem State.tagsOf_queue_eq_nil {i qid : Nat}
    (none_ : ∀ t ∈ s.intake.tags, t.2.stage ≠ .free → t.2.inst = i → t.2.sq ≠ qid) :
    (s.intake.tags.filter fun t => t.2.stage ≠ .free && decide (t.2.inst = i) && decide (t.2.sq = qid)) = [] := by
  rw [List.filter_eq_nil_iff]
  intro t ht h
  simp only [Bool.and_eq_true, decide_eq_true_eq] at h
  obtain ⟨⟨hstage, hinst⟩, hsq⟩ := h
  exact none_ t ht hstage hinst hsq

/-! ### The completion of an admin command -/

theorem State.adminCqe_of_held {i cid st d t : Nat} (held : s.findTag i 0 cid = some t) :
    s.adminCqe i cid st d =
      if (s.tag t).fate ≠ 0 then s
      else if s.ideBlocked = true then s.modTag t fun x => { x with done := some st, dw0 := d }
      else s.postTag t st d := by
  simp only [State.adminCqe, held]

theorem State.admin_of_off {i cid : Nat} {f : State → State} (off : s.adminOn i = false) : s.admin i cid f = .next s := by
  simp [State.admin, State.adminAs, off]

/-- A command whose identifier another holds ends with Invalid Field (R76). -/
theorem State.admin_of_repeated {i cid : Nat} {f : State → State} (on : s.adminOn i = true)
    (repeated : s.cidInFlight i 0 cid = true) :
    s.admin i cid f = .next ((s.taken i cid).postTag (s.fetchAdmin i cid .admin).1 Status.invalidField 0) := by
  simp [State.admin, State.adminAs, on, repeated, State.taken]

/-- Settles O7: a doorbell by the queue it names, a queue command by its checks in their order, a completion by what
holds its tag. -/
theorem queueRows : Obligations.QueueRows := by
  refine ⟨?doorbells, ?queues, ?complete, ?repeated, ?off⟩
  case doorbells =>
    intro i q v s open_ sq cq
    constructor
    · split
      case isTrue missing => exact execSqDoorbellWrite_of_missing open_ missing
      case isFalse there =>
        have there : sq.exists_ = true := by simpa using there
        split
        case isTrue bad => exact execSqDoorbellWrite_of_bad open_ there (Sq.tailOk_eq_false_iff.mpr bad)
        case isFalse ok =>
          have ok : sq.tailOk v = true := by
            rw [← Bool.not_eq_false, Sq.tailOk_eq_false_iff]
            exact ok
          exact ⟨_, execSqDoorbellWrite_of_ok open_ there ok, rfl, fun e => State.mem_withNotice_iff, State.withNotice_nodup, rfl⟩
    · have h := execCqDoorbellWrite_of_open (q := q) (v := v) (i := i) open_
      change exec (.cqDoorbellWrite i q v) s = _ at h
      rw [h]
      split
      · rfl
      · split <;> rfl
  case queues =>
    intro i cid qid cqid x m ien s takes u free sq cq
    have run : ∀ f, s.adminDo i cid f = .next (adminAnswer i cid (f u)) := fun _ => adminDo_on takes
    clear_value u
    refine ⟨?_, ?_, ?_, ?_, ?_⟩
    · change execCreateIoSubmissionQueue i cid qid cqid m x s = _
      rw [execCreateIoSubmissionQueue, run]
      refine congrArg _ ?_
      simp only [adminAnswer_ite, adminAnswer_refused]
      refine if_congr ?_ rfl (if_congr Iff.rfl rfl (if_congr ?_ rfl rfl))
      · rw [Bool.not_eq_true', ← Bool.not_eq_true, State.queueIdOk_iff]
      · rw [Bool.not_eq_true']
    · change execCreateIoCompletionQueue i cid qid m x ien s = _
      rw [execCreateIoCompletionQueue, run]
      refine congrArg _ ?_
      simp only [adminAnswer_ite, adminAnswer_refused]
      refine if_congr ?_ rfl (if_congr Iff.rfl rfl rfl)
      rw [Bool.not_eq_true', ← Bool.not_eq_true, State.queueIdOk_iff]
    · change execDeleteIoCompletionQueue i cid qid s = _
      rw [execDeleteIoCompletionQueue, run]
      refine congrArg _ ?_
      simp only [adminAnswer_ite, adminAnswer_refused]
      refine if_congr ?_ rfl (if_congr ?_ rfl rfl)
      · rw [Bool.not_eq_true']
      · simp
    · intro bad
      change execDeleteIoSubmissionQueue i cid qid s = _
      rw [execDeleteIoSubmissionQueue, run]
      have refused : qid = 0 ∨ (!sq.exists_) = true := by rwa [Bool.not_eq_true']
      dsimp only
      rw [if_pos refused, adminAnswer_refused]
    · intro named there idle
      change execDeleteIoSubmissionQueue i cid qid s = _
      rw [execDeleteIoSubmissionQueue, run]
      have found : ¬(qid = 0 ∨ (!sq.exists_) = true) := by simp [named, there]
      dsimp only
      rw [if_neg found, State.tagsOf_queue_eq_nil idle]
      rfl
  case complete => exact fun i cid st d t s held => State.adminCqe_of_held held
  case repeated =>
    intro i cid v s on repeated
    change execSetFeaturesInterruptCoalescing i cid v s = _
    rw [execSetFeaturesInterruptCoalescing, State.adminDo, State.admin_of_repeated on repeated]
  case off =>
    intro i cid v s off
    change execSetFeaturesInterruptCoalescing i cid v s = _
    rw [execSetFeaturesInterruptCoalescing, State.adminDo, State.admin_of_off off]

end Sys2Proof.Machine
end

section
/-! Proofs: rounds, the throttle, Aborts, asynchronous events and the features of intake (R71, R72, R81, R82, R93, R94,
R97, R101). -/

namespace Sys2Proof.Machine

set_option Elab.async false

variable {s : State}

/-! ### Rounds and the throttle -/

theorem execDrrRoundStart_of_on (on : s.intakeOn = true)
    (none_ : ∀ x ∈ s.tenant.insts, 0 < x.2.deficit → s.admissible x.1 = false) :
    execDrrRoundStart s = .next (
      let q := s.cfgOf Cfg.INTAKE_QUANTUM * 1024
      let t := s.each (s.tenant.insts.map (·.1)) fun s i => s.modInst i fun x => { x with
        deficit := nextDeficit x.deficit (s.cfgAt Cfg.INTAKE_WEIGHT i * q)
          (x.sqs.any fun a => a.1 ≠ 0 && (a.2.staged.isSome || decide (a.2.head ≠ a.2.tail))) }
      { t with intake := { t.intake with rounds := t.intake.rounds + 1 } }) := by
  refine if_neg ?_
  rintro (off | busy)
  · rw [on] at off
    cases off
  · obtain ⟨x, hx, h⟩ := List.any_eq_true.mp busy
    obtain ⟨hpos, hadm⟩ := Bool.and_eq_true_iff.mp h
    rw [none_ x hx (of_decide_eq_true hpos)] at hadm
    cases hadm

theorem nextDeficit_eq (d : Int) (n : Nat) (e : Bool) :
    nextDeficit d n e = if e = true then min (d + n) (max (n : Int) d) else 0 := by
  cases e <;> rfl

theorem State.bucket_le : s.bucket ≤ s.cfgOf Cfg.INTAKE_THROTTLE_BURST * 1048576 := Nat.sub_le _ _

/-- New factors leave what the bucket holds. -/
theorem State.setFactors_bucket {f g : Nat} {lost : Bool} : (s.setFactors f g lost).bucket = s.bucket := by
  have full := s.bucket_le
  have h : (s.setFactors f g lost).bucket = s.cfgOf Cfg.INTAKE_THROTTLE_BURST * 1048576 -
      (s.cfgOf Cfg.INTAKE_THROTTLE_BURST * 1048576 - s.bucket -
        (s.now - s.now) * (s.cfgOf Cfg.INTAKE_THROTTLE_REF * 10) * min f g / 100) := rfl
  rw [h, Nat.sub_self, Nat.zero_mul, Nat.zero_mul, Nat.zero_div, Nat.sub_zero, Nat.sub_sub_self full]

/-- Settles O8: each row by its guard, the counters by `nextDeficit`, the bucket kept by new factors. -/
theorem roundsAndThrottle : Obligations.RoundsAndThrottle := by
  refine ⟨?round, ?message, ?timeout⟩
  case round =>
    intro s on none_
    refine (execDrrRoundStart_of_on on none_).trans ?_
    simp only [nextDeficit_eq]
    rfl
  case message =>
    intro f g s hf hf' hg hg'
    refine ⟨s.setFactors f g false, if_neg (by omega), rfl, rfl, rfl, State.setFactors_bucket, rfl⟩
  case timeout =>
    intro s awake heard d
    exact if_neg (by simp [heard]; omega)

/-! ### Aborts, events and features -/

@[simp] theorem b2n_true : b2n true = 1 := rfl
@[simp] theorem b2n_false : b2n false = 0 := rfl

theorem State.abortTag_of_staged {t st : Nat} (h : (s.tag t).stage = .staged) :
    s.abortTag t st = (true, (s.discardDescs t (s.tag t).gen).postTag t st 0) := by
  simp only [State.abortTag, h]

theorem State.abortTag_of_posting {t st : Nat} (h : (s.tag t).stage = .posting) : s.abortTag t st = (false, s) := by
  simp only [State.abortTag, h]

/-- What an Abort within the limit does to its target: whether it was aborted, and the state after. -/
def State.abortTarget (s : State) (i sq target : Nat) : Bool × State :=
  match s.findTag i sq target with
  | none => (false, s)
  | some t => s.abortTag t Status.abortRequested

/-- The answer of an Abort, kept at its tag to be posted: Dword 0 bit 0 is 0 when the target was aborted (R94). -/
def State.answerAbort (s : State) (i cid dw0 : Nat) : State :=
  match s.findTag i 0 cid with
  | some a => s.modTag a fun x => { x with done := some 0, dw0 := dw0 }
  | none => s

theorem execAbort_on {i cid sq target : Nat} (takes : s.takes i cid = true) :
    execAbort i cid sq target 0 s = .next (
      let u := s.taken i cid .abort
      if 16 < u.abortsOf i then u.adminCqe i cid Status.abortLimit 0
      else (u.abortTarget i sq target).2.answerAbort i cid (b2n !(u.abortTarget i sq target).1)) :=
  adminAs_on takes

theorem execAsynchronousEventRequest_on {i cid : Nat} (takes : s.takes i cid = true) :
    execAsynchronousEventRequest i cid s = .next (
      let v := s.taken i cid .aer
      if 16 ≤ (v.inst i).aers.length then v.adminCqe i cid Status.aerLimit 0
      else ((v.modInst i fun x => { x with aers := x.aers ++ [cid] }).deliverEvent i).idleBegins) :=
  adminAs_on takes

/-- Settles O9: an Abort by its target's stage, each feature by the setting it changes. -/
theorem intakeFeatureRows : Obligations.IntakeFeatureRows := by
  refine ⟨?aborts, ?features⟩
  case aborts =>
    intro i cid sq target s takes u v answer
    have run : exec (.abort i cid sq target 0) s = .next (
        if 16 < u.abortsOf i then u.adminCqe i cid Status.abortLimit 0
        else (u.abortTarget i sq target).2.answerAbort i cid (b2n !(u.abortTarget i sq target).1)) := execAbort_on takes
    have kept : ∀ (r : State) (k : Nat), answer r k = r.answerAbort i cid k := fun _ _ => rfl
    have request : exec (.asynchronousEventRequest i cid) s = _ := execAsynchronousEventRequest_on takes
    clear_value answer u
    rw [run]
    refine ⟨fun many => ?_, fun within none_ => ?_, fun t within found staged => ?_, fun t within found posting => ?_, request⟩
    · rw [if_pos many]
    · have h : u.abortTarget i sq target = (false, u) := by rw [State.abortTarget, none_]
      simp only [if_neg (Nat.not_lt.mpr within), h, kept, Bool.not_false, b2n_true]
    · have h : u.abortTarget i sq target = (true, (u.discardDescs t (u.tag t).gen).postTag t Status.abortRequested 0) := by
        simp only [State.abortTarget, found, State.abortTag_of_staged staged]
      simp only [if_neg (Nat.not_lt.mpr within), h, kept, Bool.not_true, b2n_false]
    · have h : u.abortTarget i sq target = (false, u) := by
        simp only [State.abortTarget, found, State.abortTag_of_posting posting]
      simp only [if_neg (Nat.not_lt.mpr within), h, kept, Bool.not_false, b2n_true]
  case features =>
    intro i cid v cq s
    constructor
    · intro takes u
      exact ⟨(adminDo_on takes : execSetFeaturesArbitration i cid v s = _),
        (adminDo_on takes : execSetFeaturesInterruptCoalescing i cid v s = _),
        (adminDo_on takes : execSetFeaturesAsyncEventConfig i cid v s = _)⟩
    · intro q there enabled waiting
      refine if_neg ?_
      rintro (h | h | h)
      · simp [q, there] at h
      · simp [q, enabled] at h
      · exact Nat.ne_of_gt waiting h

end Sys2Proof.Machine
end

section
/-! Proofs: fetch, admission, the checks that refuse a command, and reservations (R43, R73, R78, R115, R360, R361). -/

namespace Sys2Proof.Machine

set_option Elab.async false

variable {s : State}

/-! ### Admission -/

/-- A row of a staged command that meets every condition admits it, whatever the row writes into the command's opcode. -/
theorem next_runIo_of_ready {i q t : Nat} {c d : HostCmd} (cid : d.cid = c.cid) (hit : d.hit = c.hit)
    (staged : s.stagedTag i q c.cid = some t) (clean : c.hit = .none_) (ready : s.AdmitReady t) :
    (.next (s.runIo i q d) : Res) = .next ((s.passed t).admitAt t) :=
  congrArg _ (runReady (cid ▸ staged) (hit.trans clean) ready)

/-- The walk that ended leaves room, so the read that waited for a slot goes to its admission. -/
theorem execWalkSlotFreed_of_waiting {t : Nat} :
    let u := match s.sieve.walks with
      | [] => s
      | w :: _ => s.endWalk w.tag
    u.intake.walkWait = some t → u.sieve.walks.length < 64 →
      execWalkSlotFreed s = .next (u.tryAdmission t .none_) := by
  intro u waits room
  have h : execWalkSlotFreed s = .next (match u.intake.walkWait with
    | some t => if 64 ≤ u.sieve.walks.length then u else u.tryAdmission t .none_
    | none => u) := by
    rfl
  rw [h, waits]
  exact congrArg _ (if_neg (Nat.not_le.mpr room))

/-- Settles O10: every row is the same way to the admission point. -/
theorem ioRowsAdmitted : Obligations.IoRowsAdmitted := by
  refine ⟨?rows, ?admission, ?walk⟩
  case rows =>
    intro i q t c s staged clean ready x hx
    simp only [List.mem_cons, List.not_mem_nil, or_false] at hx
    rcases hx with rfl | rfl | rfl | rfl | rfl | rfl | rfl | rfl | rfl | rfl | rfl | rfl | rfl | rfl | rfl | rfl | rfl |
      rfl | rfl | rfl | rfl <;>
    exact next_runIo_of_ready rfl rfl staged clean ready
  case admission => exact fun t s ready => congrArg _ (tryReady ready)
  case walk =>
    intro t s u ready waits room
    exact (execWalkSlotFreed_of_waiting waits room).trans (congrArg _ (tryReady ready))

/-! ### A check that fails -/

theorem State.fdpBadHandle_of_placementOk {c : HostCmd} (ok : s.placementOk c = true) : s.fdpBadHandle c = s :=
  if_neg fun h => by simp [ok] at h

/-- A staged command that intake serves, with no lookup of it waiting. -/
structure State.ChecksNow (s : State) (t : Nat) : Prop where
  staged : (s.tag t).stage = .staged
  intake : s.intakeOn = true
  instance_ : s.admits (s.tag t).inst = true
  first : s.higherWaits (s.tag t).cls = false
  lookups : s.lookupWaits (s.tag t).cmd (s.tag t).checked = false

theorem State.tryAdmission_of_check {t st : Nat} (h : s.ChecksNow t) (fails : s.commandCheck t = some st) :
    s.tryAdmission t .none_ = (s.fdpBadHandle (s.tag t).cmd).postTag t st 0 := by
  obtain ⟨staged, intake, inst, first, lookups⟩ := h
  simp [State.tryAdmission, State.lookupHit, staged, intake, inst, first, lookups, fails]

theorem State.modTag_checked {t : Nat} : (s.modTag t fun x => { x with checked := true }) = s.passed t := rfl

theorem State.tryAdmission_of_pointCheck {t st : Nat} (h : s.ChecksNow t) (passes : s.commandCheck t = none)
    (open_ : (s.ns (s.tag t).cmd.nsid).closing = false)
    (deficit : 0 < (s.inst (s.tag t).inst).deficit ∨ (s.tag t).cls ≠ .b) (sieve : (s.passed t).sieveStep t = none)
    (room : (s.passed t).heldAt t = 0) (fails : (s.passed t).pointCheck (s.tag t).cmd = some st) :
    s.tryAdmission t .none_ = (s.passed t).postTag t st 0 := by
  obtain ⟨staged, intake, inst, first, lookups⟩ := h
  have charged : ¬((s.inst (s.tag t).inst).deficit ≤ 0 ∧ (s.tag t).cls = .b) := by
    rintro ⟨spent, hb⟩
    exact deficit.elim (fun h => absurd spent (Int.not_le.mpr h)) fun h => h hb
  have open' : ((s.passed t).ns (s.tag t).cmd.nsid).closing = false := open_
  have charged' : ¬(((s.passed t).inst (s.tag t).inst).deficit ≤ 0 ∧ (s.tag t).cls = .b) := charged
  have served : ¬((s.tag t).stage ≠ .staged ∨ (!s.intakeOn) = true ∨ (!(s.admits (s.tag t).inst)) = true ∨
      s.higherWaits (s.tag t).cls = true) := by simp [staged, intake, inst, first]
  unfold State.tryAdmission
  dsimp only [State.lookupHit]
  simp only [if_neg served, lookups, passes, State.modTag_checked, open', if_neg charged', sieve, room, fails,
    Bool.false_eq_true, if_false, ne_eq, not_true_eq_false]

/-- Settles O11: the checks in the order of Table 3.4, up to the one that fails. -/
theorem failedCheckCompletes : Obligations.FailedCheckCompletes := by
  constructor
  · intro t st s staged intake inst first lookups fails placed
    refine congrArg Host.Outcome.next ?_
    rw [State.tryAdmission_of_check ⟨staged, intake, inst, first, lookups⟩ fails, State.fdpBadHandle_of_placementOk placed]
  · intro t st s staged intake inst first lookups passes open_ deficit sieve room fails
    exact congrArg Host.Outcome.next
      (State.tryAdmission_of_pointCheck ⟨staged, intake, inst, first, lookups⟩ passes open_ deficit sieve room fails)


/-! ### Fetch -/

/-- Nothing but the tolerance reported and the messages sent differs. -/
def Reports (s t : State) : Prop :=
  t = { s with intake := { s.intake with ltr := t.intake.ltr }, out := t.out }

theorem Reports.ite {p : Prop} [Decidable p] {t u : State} (h : Reports s t) (k : Reports s u) :
    Reports s (if p then t else u) := by
  split <;> assumption

theorem Reports.reply {t : State} (h : Reports s t) (p : Nat) (w : List Nat) : Reports s (t.emit (.reply p w)) := by
  rw [State.emit_reply]
  unfold Reports at *
  rw [h]

theorem Reports.ltrUpdate (s : State) (n : Nat) : Reports s (s.ltrUpdate n) := by
  unfold State.ltrUpdate
  refine Reports.ite rfl ?_
  have noted : ∀ v, Reports s { s with intake := { s.intake with ltr := v } } := fun _ => rfl
  exact Reports.ite ((noted _).reply _ _ |>.reply _ _) ((noted _).reply _ _)

/-- Serving a queue changes the arbitration state alone. -/
theorem Inst.afterServe_queues (x : Inst) (q : Nat) : (x.afterServe q).sqs = x.sqs ∧ (x.afterServe q).cqs = x.cqs := by
  unfold Inst.afterServe
  dsimp only
  repeat' split
  all_goals exact ⟨rfl, rfl⟩

/-- What intake writes into the instance of a queue whose head it takes. -/
def Inst.taken (x : Inst) (q : Nat) (staged : Option Nat) : Inst :=
  let y := if q = 0 then x else x.afterServe q
  { y with
    sqs := y.sqs.upd {} q fun a => { a with head := (a.head + 1) % a.size, staged := if staged.isSome then staged else a.staged }
    cqs := y.cqs.upd {} (x.sqs.get {} q).cq fun a => { a with reserved := a.reserved + 1 } }

theorem Inst.taken_sq {x : Inst} {q t : Nat} : (x.taken q (some t)).sqs.get {} q =
    { x.sqs.get {} q with head := ((x.sqs.get {} q).head + 1) % (x.sqs.get {} q).size, staged := some t } := by
  have h : (x.taken q (some t)).sqs = x.sqs.upd {} q fun a => { a with head := (a.head + 1) % a.size, staged := some t } := by
    unfold Inst.taken
    dsimp only
    split
    · rfl
    · rw [(x.afterServe_queues q).1]
      rfl
  rw [h]
  refine Tab.get_set_self_of_ne fun e => ?_
  cases congrArg Sq.staged e

theorem Inst.taken_cq {x : Inst} {q : Nat} {st : Option Nat} :
    ((x.taken q st).cqs.get {} (x.sqs.get {} q).cq).reserved = (x.cqs.get {} (x.sqs.get {} q).cq).reserved + 1 := by
  have h : (x.taken q st).cqs = x.cqs.upd {} (x.sqs.get {} q).cq fun a => { a with reserved := a.reserved + 1 } := by
    unfold Inst.taken
    dsimp only
    split
    · rfl
    · rw [(x.afterServe_queues q).2]
  rw [h]
  refine congrArg Cq.reserved (Tab.get_set_self_of_ne fun e => ?_)
  cases congrArg Cq.reserved e

theorem Inst.taken_ne {x : Inst} {q t : Nat} : x.taken q (some t) ≠ {} := by
  intro e
  have h := x.taken_sq (q := q) (t := t)
  rw [e] at h
  cases congrArg Sq.staged h

/-- The state in which intake has taken the head entry of a queue into a tag and staged it, before it reports its
latency tolerance. -/
def State.entryTaken (s : State) (i q t : Nat) (c : HostCmd) : State :=
  let u := (s.modInst i fun x => x.taken q (some t)).modTag t fun r =>
    { gen := r.gen, stage := .staged, cls := classOf i q, inst := i, sq := q, cq := ((s.inst i).sqs.get {} q).cq, cmd := c }
  { u with
    intake := { u.intake with
      notices := u.intake.notices.filter (· ≠ (i, q))
      lastAdmin := if q = 0 ∧ i ≠ 0 then i else u.intake.lastAdmin }
    power := { u.power with gaveUp := false } }

theorem State.takeEntry_eq {i q t : Nat} {c : HostCmd} :
    s.takeEntry i q t c .staged = (s.entryTaken i q t c).ltrUpdate (stateLtr s.power.ps) := rfl

theorem State.entryTaken_tag_self {i q t : Nat} {c : HostCmd} : (s.entryTaken i q t c).tag t =
    { gen := (s.tag t).gen, stage := .staged, cls := classOf i q, inst := i, sq := q, cq := ((s.inst i).sqs.get {} q).cq, cmd := c } :=
  Tab.get_set_self_of_ne fun e => by cases congrArg TagRec.stage e

theorem State.entryTaken_tag_ne {i q t k : Nat} {c : HostCmd} (h : k ≠ t) : (s.entryTaken i q t c).tag k = s.tag k := by
  have tags : (s.entryTaken i q t c).intake.tags = s.intake.tags.upd {} t fun r =>
    { gen := r.gen, stage := .staged, cls := classOf i q, inst := i, sq := q, cq := ((s.inst i).sqs.get {} q).cq, cmd := c } := rfl
  rw [State.tag, tags, Tab.get_upd_ne h]
  rfl

theorem State.entryTaken_inst {i q t : Nat} {c : HostCmd} : (s.entryTaken i q t c).inst i = (s.inst i).taken q (some t) :=
  State.inst_modInst_self Inst.taken_ne

theorem State.entryTaken_notices {i q t : Nat} {c : HostCmd} : (i, q) ∉ (s.entryTaken i q t c).intake.notices := by
  intro h
  exact (mem_filter_ne_iff.mp h).2 rfl

theorem State.stageCmd_of_free {i q t : Nat} {c : HostCmd} (on : s.canFetch i q = true) (free : s.freeTag (classOf i q) = some t) :
    (s.stageCmd i q c).2 = s.takeEntry i q t { c with fieldsOk := c.fieldsOk && !(s.cidInFlight i q c.cid) } .staged := by
  simp only [State.stageCmd, on, free, Bool.not_true, Bool.false_eq_true, if_false]

/-- Settles O12: the tag, the queue and the completion queue after the head entry was taken; the report of the latency
tolerance touches none of them. -/
theorem fetchStagesCommand : Obligations.FetchStagesCommand := by
  intro i q t c s on free sq
  let d : HostCmd := { c with fieldsOk := c.fieldsOk && !(s.cidInFlight i q c.cid) }
  refine ⟨(s.entryTaken i q t d).ltrUpdate (stateLtr s.power.ps), congrArg _ (State.stageCmd_of_free on free), ?_⟩
  have same := Reports.ltrUpdate (s.entryTaken i q t d) (stateLtr s.power.ps)
  generalize (s.entryTaken i q t d).ltrUpdate (stateLtr s.power.ps) = u at same ⊢
  have tags : ∀ k, u.tag k = (s.entryTaken i q t d).tag k := by rw [same]; exact fun _ => rfl
  have insts : u.inst i = (s.inst i).taken q (some t) := by rw [same]; exact State.entryTaken_inst (c := d)
  have notices : u.intake.notices = (s.entryTaken i q t d).intake.notices := by rw [same]
  rw [tags t, insts, notices, State.entryTaken_tag_self, Inst.taken_sq]
  exact ⟨rfl, rfl, rfl, rfl, rfl, rfl, fun k hk => (tags k).trans (State.entryTaken_tag_ne hk), State.entryTaken_notices,
    rfl, rfl, Inst.taken_cq⟩

/-! ### Reservations -/

theorem State.enterFlight_zone (t : Nat) : (s.enterFlight t).zone = s.zone := by
  unfold State.enterFlight
  dsimp only
  repeat' split
  all_goals rfl

theorem State.enterFlight_tags (t : Nat) : (s.enterFlight t).intake.tags = s.intake.tags.upd {} t fun x =>
    { x with stage := .inFlight, seq := s.intake.seqNext, waitStep := 0 } := by
  unfold State.enterFlight
  dsimp only
  repeat' split
  all_goals rfl

theorem State.enterFlight_insts (t : Nat) : (s.enterFlight t).tenant.insts = s.tenant.insts.upd {} (s.tag t).inst fun x =>
    { x with
      deficit := if (s.tag t).cls = .b then x.deficit - (s.tag t).cmd.cost else x.deficit
      sqs := x.sqs.upd {} (s.tag t).sq fun a => { a with staged := none } } := by
  unfold State.enterFlight
  dsimp only
  repeat' split
  all_goals rfl

theorem State.enterFlight_tag (t : Nat) : (s.enterFlight t).tag t =
    { s.tag t with stage := .inFlight, seq := s.intake.seqNext, waitStep := 0 } := by
  rw [State.tag, State.enterFlight_tags]
  exact Tab.get_set_self_of_ne fun e => by cases congrArg TagRec.stage e

theorem State.ccEn_of_admits {i : Nat} (h : s.admits i = true) : (s.inst i).ccEn = true := by
  simp only [State.admits, Bool.and_eq_true] at h
  exact h.1.2

/-- An instance that intake admits for keeps its host identifier when its command enters flight. -/
theorem State.enterFlight_hostId {t : Nat} (admits : s.admits (s.tag t).inst = true) :
    ((s.enterFlight t).inst (s.tag t).inst).hostId = (s.inst (s.tag t).inst).hostId := by
  rw [State.inst, State.enterFlight_insts, Tab.upd, Tab.get_set_self_of_ne]
  · rfl
  intro e
  have off : (s.inst (s.tag t).inst).ccEn = false := congrArg Inst.ccEn e
  rw [State.ccEn_of_admits admits] at off
  cases off

theorem State.resRecord_ns (nsid m : Nat) : (s.resRecord nsid).ns m = s.ns m := by
  unfold State.resRecord
  split <;> rfl

theorem State.resNotify_zone (nsid : Nat) (hosts : List Nat) (type : Nat) : (s.resNotify nsid hosts type).zone = s.zone :=
  (Posts.each (Posts.refl s) fun _ _ h => h.modInst.event).zone

theorem State.resReleased_ns (nsid h : Nat) (before : Ns) (m : Nat) : (s.resReleased nsid h before).ns m = s.ns m := by
  unfold State.resReleased State.ns
  repeat' split
  all_goals simp only [State.resNotify_zone]

/-- The state in which the command of a tag has passed the admission point, before it has its effect. -/
def State.inFlight (s : State) (t : Nat) : State := (s.passed t).enterFlight t

theorem State.inFlight_ns (t m : Nat) : (s.inFlight t).ns m = s.ns m := by
  rw [State.ns, State.inFlight, State.enterFlight_zone]
  rfl

theorem State.passed_tag {t : Nat} (staged : (s.tag t).stage = .staged) :
    (s.passed t).tag t = { s.tag t with checked := true } :=
  State.tag_modTag_self fun e => by
    have free : (s.tag t).stage = .free := congrArg TagRec.stage e
    rw [staged] at free
    cases free

/-- A staged tag in flight holds the same command for the same instance. -/
theorem State.inFlight_tag {t : Nat} (staged : (s.tag t).stage = .staged) :
    ((s.inFlight t).tag t).cmd = (s.tag t).cmd ∧ ((s.inFlight t).tag t).inst = (s.tag t).inst := by
  rw [State.inFlight, State.enterFlight_tag, State.passed_tag staged]
  exact ⟨rfl, rfl⟩

theorem State.inFlight_hostId {t : Nat} (ready : s.AdmitReady t) :
    ((s.inFlight t).inst (s.tag t).inst).hostId = (s.inst (s.tag t).inst).hostId := by
  have inst : ((s.passed t).tag t).inst = (s.tag t).inst := by rw [State.passed_tag ready.staged]
  have h := State.enterFlight_hostId (s := s.passed t) (t := t) (inst ▸ ready.instance_)
  rw [inst] at h
  exact h

/-- A reservation command passes the admission point and has its effect there. -/
theorem State.admitAt_of_reservation {t : Nat} {o : Opc} (staged : (s.tag t).stage = .staged) (opc : (s.tag t).cmd.opc = o)
    (res : o = .resRegister ∨ o = .resAcquire ∨ o = .resRelease) :
    (s.passed t).admitAt t = (s.inFlight t).admitOther t := by
  have held : ((s.passed t).tag t).cmd.opc = o := by rw [State.passed_tag staged]; exact opc
  rcases res with rfl | rfl | rfl <;> simp only [State.admitAt, held, State.inFlight]

/-- A reservation command leaves its status at its tag, in the state its effect leaves. -/
theorem State.admitOther_register {t : Nat} (h : (s.tag t).cmd.opc = .resRegister) :
    s.admitOther t =
      (let r := s.tag t
       let x := s.resRegister r.inst r.cmd.nsid r.cmd.args
       ((x.2.resReleased r.cmd.nsid (s.inst r.inst).hostId (s.ns r.cmd.nsid)).resRecord r.cmd.nsid).modTag t
         fun y => { y with done := some x.1 }) := by
  simp [State.admitOther, h]

theorem State.admitOther_acquire {t : Nat} (h : (s.tag t).cmd.opc = .resAcquire) :
    s.admitOther t =
      (let r := s.tag t
       let x := s.resAcquire r.inst r.cmd.nsid r.cmd.args
       (x.2.resRecord r.cmd.nsid).modTag t fun y => { y with done := some x.1 }) := by
  simp [State.admitOther, h]

theorem State.admitOther_release {t : Nat} (h : (s.tag t).cmd.opc = .resRelease) :
    s.admitOther t =
      (let r := s.tag t
       let x := s.resRelease r.inst r.cmd.nsid r.cmd.args
       ((x.2.resReleased r.cmd.nsid (s.inst r.inst).hostId (s.ns r.cmd.nsid)).resRecord r.cmd.nsid).modTag t
         fun y => { y with done := some x.1 }) := by
  simp [State.admitOther, h]

theorem State.resRegister_new {i nsid : Nat} {a : List Nat} (act : a.getD 0 0 = 0)
    (new : ∀ r ∈ (s.ns nsid).registrants, r.host ≠ (s.inst i).hostId) :
    s.resRegister i nsid a =
      if 64 ≤ (s.ns nsid).registrants.length then (Status.invalidField, s)
      else (Status.success, s.modNs nsid fun n => { n with
        registrants := n.registrants ++ [{ host := (s.inst i).hostId, key := a.getD 4 0 }], resGen := n.resGen + 1
        ptpl := if a.getD 2 0 = 3 then true else if a.getD 2 0 = 2 then false else n.ptpl }) := by
  have none_ : ((s.ns nsid).registrants.find? fun r => decide (r.host = (s.inst i).hostId)) = none :=
    List.find?_eq_none.mpr fun r hr => by simpa using new r hr
  simp only [State.resRegister, act, none_]

theorem State.resAcquire_free {i nsid : Nat} {a : List Nat} {r : Registrant} (act : a.getD 0 0 = 0)
    (found : ((s.ns nsid).registrants.find? fun r => decide (r.host = (s.inst i).hostId)) = some r) (key : r.key = a.getD 3 0)
    (free : (s.ns nsid).holder = none) (lo : 1 ≤ a.getD 2 0) (hi : a.getD 2 0 ≤ 6) :
    s.resAcquire i nsid a = (Status.success, s.modNs nsid fun n => { n with holder := some ((s.inst i).hostId, a.getD 2 0) }) := by
  have type_ : ¬(a.getD 2 0 = 0 ∨ 6 < a.getD 2 0) := by omega
  simp only [State.resAcquire, act, found, key, free, if_neg type_, ne_eq, not_true_eq_false, and_false, if_false, if_true]

theorem State.resRelease_held {i nsid : Nat} {a : List Nat} {r : Registrant} (act : a.getD 0 0 = 0)
    (found : ((s.ns nsid).registrants.find? fun r => decide (r.host = (s.inst i).hostId)) = some r) (key : r.key = a.getD 3 0)
    (mine : (s.ns nsid).holder = some ((s.inst i).hostId, a.getD 2 0)) :
    s.resRelease i nsid a = (Status.success, s.modNs nsid fun n => { n with holder := none }) := by
  simp only [State.resRelease, act, found, key, mine, ne_eq, not_true_eq_false, and_false, false_and, if_false,
    Nat.zero_ne_one]

theorem TagRec.done_ne {x : TagRec} {st : Nat} : { x with done := some st } ≠ ({} : TagRec) := fun e => by
  cases congrArg TagRec.done e

/-- The namespace a reservation command of an existing namespace leaves is the one its change makes. -/
theorem State.ns_modNs_of_exists {m : Nat} {f : Ns → Ns} (there : (f (s.ns m)).exists_ = true) :
    (s.modNs m f).ns m = f (s.ns m) :=
  State.ns_modNs_self fun e => by rw [e] at there; cases there

theorem State.modTag_ns {t m : Nat} {f : TagRec → TagRec} : (s.modTag t f).ns m = s.ns m := rfl

theorem State.modTag_done {t st : Nat} : ((s.modTag t fun y => { y with done := some st }).tag t).done = some st := by
  rw [State.tag_modTag_self TagRec.done_ne]

/-- Settles O13: the command's effect is that of `resRegister`, `resAcquire` or `resRelease` on the namespace; what
follows it (notices, the record, the end of the command) leaves the namespaces. -/
theorem reservationEffects : Obligations.ReservationEffects := by
  intro i q t c s staged clean ready d n h there
  have flightNs : (s.inFlight t).ns d.nsid = n := State.inFlight_ns t d.nsid
  obtain ⟨cmd, inst⟩ : ((s.inFlight t).tag t).cmd = d ∧ _ := State.inFlight_tag ready.staged
  have host : ((s.inFlight t).inst ((s.inFlight t).tag t).inst).hostId = h := by
    rw [inst]
    exact State.inFlight_hostId ready
  have run : ∀ {x : Instr} {o : Opc}, exec x s = .next (s.runIo i q (c.as o)) → d.opc = o →
      o = .resRegister ∨ o = .resAcquire ∨ o = .resRelease → exec x s = .next ((s.inFlight t).admitOther t) := fun {x o} hx hopc ho =>
    hx.trans ((next_runIo_of_ready (d := c.as o) rfl rfl staged clean ready).trans
      (congrArg _ (State.admitAt_of_reservation ready.staged hopc ho)))
  have opc : ((s.inFlight t).tag t).cmd.opc = d.opc := congrArg HostCmd.opc cmd
  generalize s.inFlight t = v at *
  refine ⟨fun hopc act new => ?register, fun r hopc act free found key lo hi => ?acquire,
    fun r hopc act mine found key => ?release⟩
  case register =>
    have effect := State.resRegister_new (s := v) (i := (v.tag t).inst) (nsid := d.nsid) act (by rw [host, flightNs]; exact new)
    rw [flightNs, host] at effect
    refine ⟨_, run (x := .reservationRegister i q c) rfl hopc (.inl rfl), ?_⟩
    rw [State.admitOther_register (opc.trans hopc)]
    dsimp only
    rw [cmd, effect, State.modTag_ns, State.resRecord_ns, State.resReleased_ns, State.modTag_done]
    split
    · exact ⟨by rw [flightNs], by rw [flightNs], rfl⟩
    · rw [State.ns_modNs_of_exists (by rw [flightNs]; exact there), flightNs]
      exact ⟨rfl, rfl, rfl⟩
  case acquire =>
    have effect := State.resAcquire_free (s := v) (i := (v.tag t).inst) (nsid := d.nsid) act (by rw [host, flightNs]; exact found)
      key (by rw [flightNs]; exact free) lo hi
    rw [host] at effect
    refine ⟨_, run (x := .reservationAcquire i q c) rfl hopc (.inr (.inl rfl)), ?_⟩
    rw [State.admitOther_acquire (opc.trans hopc)]
    dsimp only
    rw [cmd, effect, State.modTag_ns, State.resRecord_ns, State.modTag_done,
      State.ns_modNs_of_exists (by rw [flightNs]; exact there), flightNs]
    exact ⟨rfl, rfl, rfl⟩
  case release =>
    have effect := State.resRelease_held (s := v) (i := (v.tag t).inst) (nsid := d.nsid) act (by rw [host, flightNs]; exact found)
      key (by rw [flightNs, host]; exact mine)
    refine ⟨_, run (x := .reservationRelease i q c) rfl hopc (.inr (.inr rfl)), ?_⟩
    rw [State.admitOther_release (opc.trans hopc)]
    dsimp only
    rw [cmd, effect, State.modTag_ns, State.resRecord_ns, State.resReleased_ns, State.modTag_done,
      State.ns_modNs_of_exists (by rw [flightNs]; exact there), flightNs]
    exact ⟨rfl, rfl, rfl⟩

end Sys2Proof.Machine
end

section
/-! Proofs: write data, host data and completion posts (R86, R88, R91, R217). -/

namespace Sys2Proof.Machine

set_option Elab.async false

variable {s : State}

/-! ### Data that arrives -/

theorem execWriteDataInFarHamper_of_waits {t pi : Nat} (waits : (s.tag t).waitsData = true) (may : s.mayTransfer t = true) :
    execWriteDataInFarHamper t pi s =
      (let r := s.tag t
       let st := s.arrivalStatus r.cmd pi (List.range r.cmd.nlb)
       .next (if st = 0 then s.dataAllIn t else s.failCommand t st)) := by
  refine (if_neg (by simp [waits, may])).trans ?_
  exact congrArg _ (ite_not _ _ _)

/-- The status of an arrival's protection information check, the failed checks by their numbers (R217). -/
theorem State.arrivalStatus_eq (c : HostCmd) (pi : Nat) (idxs : List Nat) :
    s.arrivalStatus c pi idxs = if (s.ns c.nsid).pi.kind = 0 ∨ c.pract = true then 0
      else if pi = 0 then s.writeStatus c idxs else if pi = 1 then 0x282 else if pi = 2 then 0x283 else 0x284 := by
  unfold State.arrivalStatus
  rw [ite_not]
  rfl

/-- The blocks of a write whose range takes its whole pieces from the blocks that have arrived (R242). -/
def State.pieced (s : State) (t : Nat) : State :=
  s.modExpo (s.tag t).seq fun e => { e with pieces := piecesIn (s.tag t).arrived e.nlb (e.nlb / 64) }

theorem execHostDataUnitArrival_of_good {t k : Nat} {row : RowRef} {e : Expo} (waits : (s.tag t).waitsData = true)
    (may : s.mayTransfer t = true) (within : k < (s.tag t).cmd.nlb) (good : s.arrivalStatus (s.tag t).cmd 0 [k] = 0) :
    let a := s.arrive t k
    let b := a.pieced t
    (b.trail.expos.find? fun e => decide (e.seq = (a.tag t).seq)) = some e → e.row = some row →
      execHostDataUnitArrival t k 0 s = .next (b.driveRow row
        ((b.rowRec row).endAt.getD (b.zoneAt (a.tag t).cmd.nsid ((a.tag t).lba / zoneBlocks)).wp)) := by
  intro a b found placed
  have open_ : ¬((!(s.tag t).waitsData) = true ∨ (s.tag t).cmd.nlb ≤ k ∨ (!(s.mayTransfer t)) = true) := by
    simp [waits, may, within]
  have row : (b.trail.expos.find? fun e => decide (e.seq = (a.tag t).seq)).bind (·.row) = some row := by
    rw [found]
    exact placed
  refine (if_neg open_).trans ((if_neg (not_not_intro good)).trans ?_)
  change (match (b.trail.expos.find? fun e => decide (e.seq = (a.tag t).seq)).bind (·.row) with
    | some row => (.next (b.driveRow row
        ((b.rowRec row).endAt.getD (b.zoneAt (a.tag t).cmd.nsid ((a.tag t).lba / zoneBlocks)).wp)) : Res)
    | none => .next b) = _
  rw [row]

/-! ### Completions -/

theorem State.mayPost_inFlight {t : Nat} (h : s.mayPost t = true) : (s.tag t).stage = .inFlight := by
  simp only [State.mayPost, Bool.and_eq_true, decide_eq_true_eq] at h
  exact h.1.1

theorem execCompletionPost_alone {t : Nat} (none_ : (s.tag t).cmd.fwNeed = 0) : execCompletionPost t s = .next (s.complete t) :=
  if_pos (.inl none_)

/-- The tags of the same zone whose finished writes a write was holding up (R48). -/
def State.heldBy (u : State) (r : TagRec) : List Nat :=
  (u.intake.tags.filter fun x => x.2.stage = .inFlight && decide (x.2.cmd.nsid = r.cmd.nsid) &&
    x.2.cmd.fwNeed ≠ 0 && decide (x.2.lba / zoneBlocks = r.lba / zoneBlocks) && decide (r.seq < x.2.seq) &&
    x.2.done.isSome).map (·.1)

theorem execCompletionPost_write {t : Nat} {u : State} (posts : s.mayPost t = true) (writes : (s.tag t).cmd.fwNeed ≠ 0)
    (completed : s.complete t = u) :
    execCompletionPost t s = .next ((u.heldBy (s.tag t)).foldl
      (fun v _ => (u.heldBy (s.tag t)).foldl (fun v k => v.complete k) v) u) := by
  subst completed
  refine if_neg ?_
  rintro (h | h)
  · exact writes h
  · exact h (State.mayPost_inFlight posts)

theorem State.complete_flush {t : Nat} (posts : s.mayPost t = true) (secure : s.ideBlocked = false)
    (h : (s.tag t).cmd.opc = .flush) : s.complete t = s.postTag t 0 0 := by
  simp only [State.complete, posts, secure, h, Bool.not_true, Bool.false_eq_true, or_self, if_false]

theorem State.complete_read {t : Nat} (posts : s.mayPost t = true) (secure : s.ideBlocked = false)
    (h : (s.tag t).cmd.opc = .read) :
    s.complete t =
      (let r := s.tag t
       let st := r.done.getD (s.readStatus r)
       let n := s.ns r.cmd.nsid
       let u := if st = 0 then s.reply r.inst r.sq r.cmd.cid (r.sources.map fun x => n.toHost r.cmd (s.sourceData n x)) else s
       (u.endRead t).postTag t st 0) := by
  simp only [State.complete, posts, secure, h, Bool.not_true, Bool.false_eq_true, or_self, if_false]

theorem State.complete_write {t : Nat} (posts : s.mayPost t = true) (secure : s.ideBlocked = false)
    (h : (s.tag t).cmd.opc = .write) (writes : (s.tag t).cmd.fwNeed ≠ 0) (done : (s.tag t).done = some 0) :
    s.complete t =
      ((((s.handToWriter (s.tag t).seq).modExpo (s.tag t).seq fun e => { e with posted := true }).postTag t 0
        (s.tag t).dw0).sweepExpos) := by
  simp only [State.complete, posts, secure, h, Bool.not_true, Bool.false_eq_true, or_self, if_false, if_pos writes, done,
    Option.getD_some, if_true]

/-! ### Durable zeros -/

theorem State.mapUpdate_of_zeros {seq : Nat} {e : Expo}
    (only : (s.trail.expos.filter fun e => decide (e.seq = seq) && !e.failed) = [e]) (zeros : e.zeros = true)
    (durable : e.zerosDurable = true) (unread : ∀ k < e.nlb, s.readHolds e.nsid (e.slba + k) seq = false) :
    let m := (List.range e.nlb).foldl (fun s k => s.setMap e.nsid (e.slba + k) seq {}) s
    let r := m.releaseUnits (e.left.map (·.unit))
    s.mapUpdate seq = State.sweepExpos { r with trail := { r.trail with
      expos := r.trail.expos.map fun x => if x.seq = seq ∧ x.slba = e.slba then { x with zeros := false, left := [] } else x } } := by
  have may : ¬((!e.zerosDurable) = true ∨ ((List.range e.nlb).any fun k => s.readHolds e.nsid (e.slba + k) seq) = true) := by
    simp only [durable, Bool.not_true, Bool.false_eq_true, false_or, List.any_eq_true, List.mem_range, not_exists, not_and]
    exact fun k within read => Bool.false_ne_true ((unread k within).symm.trans read)
  unfold State.mapUpdate
  rw [only, List.foldl_cons, List.foldl_nil, if_pos zeros, if_neg may]
  rfl

/-- Settles O14: the checks of a row that data or a completion passes, then what it does. -/
theorem dataAndCompletion : Obligations.DataAndCompletion := by
  refine ⟨?whole, ?block, ?posts, ?zeros⟩
  case whole =>
    intro t pi s waits may r n st
    have h := execWriteDataInFarHamper_of_waits (pi := pi) waits may
    dsimp only at h
    rw [State.arrivalStatus_eq] at h
    exact h
  case block =>
    intro t k row e s waits may within good a r b found placed
    exact execHostDataUnitArrival_of_good waits may within good found placed
  case posts =>
    intro t s posts secure r
    refine ⟨fun h => ?_, fun h => ?_, fun h writes done => ?_⟩
    · have none_ : r.cmd.fwNeed = 0 := by simp [HostCmd.fwNeed, h]
      exact (execCompletionPost_alone none_).trans (congrArg _ (State.complete_flush posts secure h))
    · have none_ : r.cmd.fwNeed = 0 := by simp [HostCmd.fwNeed, h]
      exact (execCompletionPost_alone none_).trans (congrArg _ (State.complete_read posts secure h))
    · intro u held
      have completed : s.complete t = u := State.complete_write posts secure h writes done
      clear_value u
      exact execCompletionPost_write posts writes completed
  case zeros =>
    intro seq e s only zeros durable unread ready m r
    have run : execMapUpdate seq .none_ s = .next (if s.mapWalkWaits seq = true then s else s.mapUpdate seq) := rfl
    rw [if_neg (ready ▸ Bool.false_ne_true), State.mapUpdate_of_zeros only zeros durable unread] at run
    exact run

end Sys2Proof.Machine
end

section
/-! Proofs: namespace management and attachment (R32 to R41, R59, R60, R77, R141, R269, R291, R368). -/

namespace Sys2Proof.Machine

set_option Elab.async false

variable {s : State}

/-! ### Create -/

/-- The namespace that a create makes in a die set (R32, R40, R60). -/
def State.createdNs (u : State) (zoned kpio : Bool) (d size lbaf : Nat) (pi : PiFormat) (handles : List Nat) : Ns :=
  { exists_ := true, zoned := zoned, dieSet := d, lbaf := lbaf, pi := pi,
    size := if zoned = true then size * zoneBlocks else size, zcap := if zoned = true then u.zcapIn d else 0,
    mode := u.createMode kpio,
    handles := if zoned = false ∧ (u.dieSet d).fdp = true then (if handles = [] then [0] else handles) else [] }

/-- What the create's fields, its mode and its die set's rows must meet. -/
structure CreateFits (u : State) (zoned kpio : Bool) (set size lbaf : Nat) (pi : PiFormat) (handles : List Nat) (d nsid : Nat) : Prop where
  named : u.namedSet set = some d
  format : formatOk lbaf pi = true
  sized : 0 < size
  allowed : kpio = true → u.zone.nextMode.map kpioAllowed ≠ some false
  zones : zoned = true → u.tooLarge d = false ∧ handles = [] ∧ u.zonesMade d + size ≤ u.zonesOffered d
  blocks : zoned = false → u.convBytes + size * 4096 ≤ 2000000000000
  count : handles.length ≤ u.cfgOf Cfg.FDP_RUH_COUNT
  each : ∀ h ∈ handles, h < u.cfgOf Cfg.FDP_RUH_COUNT
  free : u.freeNsid = some nsid
  keyed : u.createMode kpio = .xts ∨ u.createMode kpio = .sealed_ → u.glaze.drbgFail = false ∧ u.freeSlot ≠ none
  rules : u.rulesAfter + (if zoned = false ∧ (u.dieSet d).fdp = true then max 1 handles.length else 0) ≤ u.ruleRoom

theorem execNamespaceManagementCreate_of_fits {cid set d size lbaf nsid : Nat} {zoned kpio : Bool} {pi : PiFormat}
    {handles : List Nat} {t : State} (takes : s.takes 0 cid = true)
    (fits : CreateFits (s.taken 0 cid) zoned kpio set size lbaf pi handles d nsid) :
    let u := s.taken 0 cid
    let n := u.createdNs zoned kpio d size lbaf pi handles
    (if zoned = true then some (u.modNs nsid fun _ => n)
      else (u.modNs nsid fun _ => n).takeRows nsid d size 0 (size / 65536 + 2)) = some t →
    (zoned = false → t.zonesMade d ≤ t.zonesOffered d) →
    execNamespaceManagementCreate 0 cid zoned kpio set size lbaf pi handles s =
      .next ((((({ t with zone := { t.zone with nextMode := none } } : State).firstRange nsid n.size).addHandles nsid
        n.handles).trailRec (.settings 1 nsid)).adminCqe 0 cid 0 nsid) := by
  refine fun made room => (managerDo_on takes).trans (congrArg _ ?_)
  generalize s.taken 0 cid = u at fits made ⊢
  obtain ⟨named, format, sized, allowed, zones, blocks, count, each, free, keyed, rules⟩ := fits
  dsimp only
  rw [named]
  dsimp only
  rw [if_neg ?fields, free]
  dsimp only
  rw [if_neg ?healthy, if_neg ?slot, if_neg ?rule, if_neg ?place]
  case fields =>
    simp only [format, Bool.not_true, Bool.false_eq_true, Nat.pos_iff_ne_zero.1 sized, false_or, Nat.not_lt.2 count, not_or,
      List.any_eq_true, decide_eq_true_eq, not_exists, not_and]
    refine ⟨fun k => allowed k, fun z => ?_, fun h mem => Nat.not_le.2 (each h mem)⟩
    obtain ⟨narrow, none_, -⟩ := zones z
    simp [narrow, none_]
  case healthy =>
    simp only [Bool.or_eq_true, decide_eq_true_eq]
    exact fun h => absurd h.2 (by simp [(keyed h.1).1])
  case slot =>
    simp only [Bool.or_eq_true, decide_eq_true_eq]
    exact fun h => (keyed h.1).2 (Option.isNone_iff_eq_none.1 h.2)
  case rule => simpa only [Bool.not_eq_true'] using Nat.not_lt.2 rules
  case place =>
    rintro (⟨z, lt⟩ | ⟨c, lt⟩)
    · exact Nat.not_lt.2 (zones z).2.2 lt
    · exact Nat.not_lt.2 (blocks (Bool.not_eq_true' _ ▸ c)) lt
  simp only [Bool.not_eq_true', List.isEmpty_iff]
  unfold State.createdNs at made ⊢
  rw [made]
  dsimp only
  rw [if_neg fun short => Nat.not_lt.2 (room short.1) short.2]
  rfl

/-! ### Delete, Format, Sanitize (R77) -/

theorem State.closeFor_one {i cid nsid : Nat} {key : List Nat} :
    s.closeFor i cid key [nsid] = (s.modNs nsid fun x => { x with closing := true }).keepWaiting i cid key [nsid] := rfl

section
variable {cid nsid : Nat} {u : State}

theorem execNamespaceManagementDelete_one (run : ∀ f, s.adminWaiting 0 cid [0x0D, nsid] f = .next (f u))
    (here : (u.ns nsid).exists_ = true) (one : nsid ≠ 0xFFFFFFFF) :
    execNamespaceManagementDelete 0 cid nsid s =
      .next (if u.nsBusy nsid = true then u.closeFor 0 cid [0x0D, nsid] [nsid] else (u.removeNs nsid).adminCqe 0 cid 0 0) := by
  refine (run _).trans (congrArg _ ?_)
  dsimp only
  rw [if_neg (not_not_intro rfl), if_neg one, if_neg (by simp [here])]
  exact if_congr (by simp) rfl rfl

theorem execNamespaceManagementDelete_all (run : ∀ f, s.adminWaiting 0 cid [0x0D, 0xFFFFFFFF] f = .next (f u))
    (idle : ∀ n ∈ (u.zone.nss.filter fun n => n.2.exists_).map (·.1), u.nsBusy n = false) :
    execNamespaceManagementDelete 0 cid 0xFFFFFFFF s =
      .next ((((u.zone.nss.filter fun n => n.2.exists_).map (·.1)).foldl (fun t n => t.removeNs n) u).adminCqe 0 cid 0 0) := by
  refine (run _).trans (congrArg _ ?_)
  dsimp only
  rw [if_neg (not_not_intro rfl), if_pos rfl, if_neg (fun h => absurd rfl h.1),
    if_neg (by simpa only [Bool.not_eq_true, List.any_eq_false] using idle)]
  rfl

/-- A Format that its fields allow, of a namespace that is there (R33, R291). -/
theorem execFormatNvm_of_ok {lbaf ses : Nat} {pi : PiFormat}
    (run : ∀ f, s.adminWaiting 0 cid [0x80, nsid, lbaf, pi.kind, b2n pi.guard64 + 2 * b2n pi.first, ses] f = .next (f u))
    (here : (u.ns nsid).exists_ = true) (format : formatOk lbaf pi = true) (within : ses ≤ 2)
    (keyed : ses = 2 → ¬((u.ns nsid).mode = .clear ∨ (u.ns nsid).mode = .keyPerIo))
    (healthy : ses = 2 → u.glaze.drbgFail = false) (idle : u.nsBusy nsid = false) :
    let e := u.emptyNs nsid
    execFormatNvm 0 cid nsid lbaf pi ses s =
      .next ((((if ses = 2 then (e.rangesIn nsid).foldl (fun t r => t.cryptoErase nsid r) e else e).modNs nsid
        fun x => { x with lbaf := lbaf, pi := pi, closing := false }).trailRec (.settings 1 nsid)).adminCqe 0 cid 0 0) := by
  refine (run _).trans (congrArg _ ?_)
  dsimp only
  rw [if_neg (not_not_intro rfl), if_neg (by simp [here]), if_neg ?fields, if_neg ?drbg, if_neg (by simp [idle])]
  case fields => simpa only [format, Bool.not_true, Bool.false_eq_true, Nat.not_lt.2 within, false_or, not_and] using keyed
  case drbg => exact fun h => absurd h.2 (by simp [healthy h.1])
  rfl

theorem execSanitizeCryptoErase_of_clear (run : ∀ f, s.adminWaiting 0 cid [0x84, 4] f = .next (f u))
    (clear : ∃ n ∈ (u.zone.nss.filter fun n => n.2.exists_).map (·.1), (u.ns n).mode = .clear) :
    execSanitizeCryptoErase 0 cid s = .next (u.adminCqe 0 cid Status.invalidField 0) := by
  refine (run _).trans (congrArg _ ?_)
  dsimp only
  rw [if_neg (not_not_intro rfl), if_pos (by simpa only [List.any_eq_true, decide_eq_true_eq] using clear)]

theorem execSanitizeCryptoErase_of_idle (run : ∀ f, s.adminWaiting 0 cid [0x84, 4] f = .next (f u))
    (keyed : ∀ n ∈ (u.zone.nss.filter fun n => n.2.exists_).map (·.1), (u.ns n).mode ≠ .clear)
    (healthy : u.glaze.drbgFail = false)
    (idle : ∀ n ∈ (u.zone.nss.filter fun n => n.2.exists_).map (·.1), u.nsBusy n = false) :
    execSanitizeCryptoErase 0 cid s = .next ((((u.zone.nss.filter fun n => n.2.exists_).map (·.1)).foldl (fun t n =>
      (if (t.ns n).mode = .keyPerIo then t else (t.rangesIn n).foldl (fun t r => t.cryptoErase n r) t).modNs n
        fun x => { x with closing := false }) u).adminCqe 0 cid 0 0) := by
  refine (run _).trans (congrArg _ ?_)
  dsimp only
  rw [if_neg (not_not_intro rfl), if_neg ?clear, if_neg (by simp [healthy]),
    if_neg (by simpa only [Bool.not_eq_true, List.any_eq_false] using idle)]
  case clear => simpa only [List.any_eq_true, decide_eq_true_eq, not_exists, not_and] using keyed
  rfl

end

/-! ### Select (R37) -/

theorem execCapacityManagementSelect_of_kept {cid config : Nat} {f : State} (takes : s.takes 0 cid = true)
    (formed : (s.taken 0 cid).formGroups true = f) (within : config < 16) (planned : f.planOf config ≠ [])
    (kept : ∀ n ∈ f.zone.nss, n.2.exists_ = true → (n.2.dieSet, (f.dieSet n.2.dieSet).groups) ∈ f.planOf config) :
    execCapacityManagementSelect 0 cid config s =
      .next (((f.formSets config).trailRec (.settings 2 config)).adminCqe 0 cid 0 0) := by
  refine (managerDo_on takes).trans (congrArg _ ?_)
  have fields : ¬(16 ≤ config ∨ (f.planOf config).isEmpty = true) :=
    not_or.2 ⟨Nat.not_le.2 within, fun e => planned (List.isEmpty_iff.1 e)⟩
  have all : ¬((f.zone.nss.any fun n => n.2.exists_ && !(f.planOf config).contains (n.2.dieSet, (f.dieSet n.2.dieSet).groups)) = true) := by
    simp only [List.any_eq_true, Bool.and_eq_true, Bool.not_eq_true', not_exists, not_and, Bool.not_eq_false, List.contains_iff_mem]
    exact kept
  dsimp only
  rw [formed, if_neg fields, if_neg all]
  rfl

/-- Settles O15: the checks a command passes, then its effect. -/
theorem namespaceRows : Obligations.NamespaceRows := by
  refine ⟨?create, ?accepted, ?again⟩
  case create =>
    intro cid set d size lbaf nsid zoned kpio pi handles s t takes u mode ruh n named format sized allowed zones blocks
      count each free keyed rules made room
    exact execNamespaceManagementCreate_of_fits takes
      ⟨named, format, sized, allowed, zones, blocks, count, each, free, keyed, rules⟩ made room
  case accepted =>
    intro cid nsid lbaf ses config pi s takes u all
    have run : ∀ key f, s.adminWaiting 0 cid key f = .next (f u) := fun key f => adminWaiting_on takes
    have fetched : s.taken 0 cid = u := rfl
    clear_value u
    refine ⟨fun here one => ⟨fun idle => ?_, fun busy => ?_, fun format within idle => ?_,
      fun format sealed_ host healthy idle => ?_⟩, fun idle => ?_, fun clear => ?_, fun keyed healthy idle => ?_,
      fun within planned kept => execCapacityManagementSelect_of_kept takes
        (congrArg (fun v => v.formGroups true) fetched) within planned kept⟩
    · exact (execNamespaceManagementDelete_one (run _) here one).trans (congrArg _ (if_neg (by simp [idle])))
    · exact (execNamespaceManagementDelete_one (run _) here one).trans (congrArg _ (if_pos busy))
    · have plain : ses ≠ 2 := by omega
      refine (execFormatNvm_of_ok (run _) here format (by omega) (fun e => absurd e plain) (fun e => absurd e plain) idle).trans ?_
      rw [if_neg plain]
    · refine (execFormatNvm_of_ok (run _) here format le_rfl (fun _ => not_or.2 ⟨sealed_, host⟩) (fun _ => healthy) idle).trans ?_
      rw [if_pos rfl]
    · exact execNamespaceManagementDelete_all (run _) idle
    · exact execSanitizeCryptoErase_of_clear (run _) clear
    · exact execSanitizeCryptoErase_of_idle (run _) keyed healthy idle
  case again =>
    intro cid nsid s waits here one idle
    exact (execNamespaceManagementDelete_one (fun f => adminWaiting_again waits) here one).trans
      (congrArg _ (if_neg (by simp [idle])))

end Sys2Proof.Machine
end

section
/-! Proofs: attachment, zone ages, released rows and the changed zone list (R45, R52, R55, R56, R131, R368). -/

namespace Sys2Proof.Machine

set_option Elab.async false

variable {s : State}

/-! ### Attachment (R368) -/

section
variable {cid nsid : Nat} {targets : List Nat} {u : State}

/-- What attaching and detaching ask of the namespace and of the list of instances. -/
structure AttachFits (u : State) (nsid : Nat) (targets : List Nat) : Prop where
  here : (u.ns nsid).exists_ = true
  some_ : targets ≠ []
  known : ∀ i ∈ targets, i ≤ 511

/-- An attach: the namespace's die set first, then the instances it is attached to. -/
theorem execNamespaceAttachment_attach (run : ∀ f, s.adminWaiting 0 cid ([0x15, nsid] ++ targets) f = .next (f u))
    (fits : AttachFits u nsid targets) :
    execNamespaceAttachment 0 cid nsid true targets s =
      .next (if ∃ i ∈ targets, (u.ns nsid).dieSet ∉ (u.inst i).dieSets then u.adminCqe 0 cid Status.ctrlListInvalid 0
        else if ∃ i ∈ targets, i ∈ (u.ns nsid).attached then u.adminCqe 0 cid Status.nsAlreadyAttached 0
        else ((u.modNs nsid fun x => { x with attached := x.attached ++ targets }).trailRec (.settings 1 nsid)).adminCqe 0 cid 0 0) := by
  obtain ⟨here, some_, known⟩ := fits
  refine (run _).trans (congrArg _ ?_)
  dsimp only
  rw [if_neg (not_not_intro rfl), if_neg (by simp [here]), if_neg (by simpa [some_] using known), if_pos rfl]
  exact if_congr (by simp) rfl (if_congr (by simp) rfl rfl)

theorem execNamespaceAttachment_unattached (run : ∀ f, s.adminWaiting 0 cid ([0x15, nsid] ++ targets) f = .next (f u))
    (fits : AttachFits u nsid targets) (free : ∃ i ∈ targets, i ∉ (u.ns nsid).attached) :
    execNamespaceAttachment 0 cid nsid false targets s = .next (u.adminCqe 0 cid Status.nsNotAttached 0) := by
  obtain ⟨here, some_, known⟩ := fits
  refine (run _).trans (congrArg _ ?_)
  dsimp only
  rw [if_neg (not_not_intro rfl), if_neg (by simp [here]), if_neg (by simpa [some_] using known), if_neg Bool.false_ne_true,
    if_pos (by simpa using free)]

/-- The namespace without the named instances, and without their changed zone lists of it. -/
def State.detached (u : State) (nsid : Nat) (targets : List Nat) : State :=
  let u := u.modNs nsid fun x => { x with attached := x.attached.filter fun i => !(targets.contains i) }
  { u with zone := { u.zone with changed := u.zone.changed.keep fun k _ => !(decide (k % 2048 = nsid) && targets.contains (k / 2048)) } }

theorem State.mem_changed_detached {e : Nat × ChangedList} (h : e ∈ (u.detached nsid targets).zone.changed) :
    e ∈ u.zone.changed ∧ ¬(e.1 % 2048 = nsid ∧ e.1 / 2048 ∈ targets) := by
  obtain ⟨mem, other⟩ := List.mem_filter.1 h
  exact ⟨mem, by simpa [imp_iff_not_or] using other⟩

theorem State.ns_detached_attached (here : (u.ns nsid).exists_ = true) :
    ((u.detached nsid targets).ns nsid).attached = (u.ns nsid).attached.filter fun i => !(targets.contains i) :=
  congrArg Ns.attached (State.ns_modNs_of_exists (f := fun x => { x with
    attached := x.attached.filter fun i => !(targets.contains i) }) here)

theorem State.ns_detached_ne {m : Nat} (other : m ≠ nsid) : (u.detached nsid targets).ns m = u.ns m :=
  State.ns_modNs_ne (s := u) (f := fun x => { x with attached := x.attached.filter fun i => !(targets.contains i) }) other

theorem execNamespaceAttachment_detach (run : ∀ f, s.adminWaiting 0 cid ([0x15, nsid] ++ targets) f = .next (f u))
    (fits : AttachFits u nsid targets) (all : ∀ i ∈ targets, i ∈ (u.ns nsid).attached)
    (idle : ∀ x ∈ u.intake.tags, x.2.stage = .inFlight → x.2.cmd.nsid = nsid → x.2.inst ∉ targets) :
    execNamespaceAttachment 0 cid nsid false targets s =
      .next (((u.detached nsid targets).trailRec (.settings 1 nsid)).adminCqe 0 cid 0 0) := by
  obtain ⟨here, some_, known⟩ := fits
  refine (run _).trans (congrArg _ ?_)
  dsimp only
  rw [if_neg (not_not_intro rfl), if_neg (by simp [here]), if_neg (by simpa [some_] using known), if_neg Bool.false_ne_true,
    if_neg (by simpa using all), if_neg (by simpa [List.any_eq_true] using idle)]
  rfl
end

/-- Settles O16: the attach and the detach, each by its checks. -/
theorem attachmentRows : Obligations.AttachmentRows := by
  intro cid nsid targets s takes u here some_ known
  have run : ∀ key f, s.adminWaiting 0 cid key f = .next (f u) := fun key f => adminWaiting_on takes
  have fits : AttachFits u nsid targets := ⟨here, some_, known⟩
  clear_value u
  have attach := execNamespaceAttachment_attach (run _) fits
  refine ⟨fun free => attach.trans (congrArg _ ?_), fun foreign => attach.trans (congrArg _ (if_pos foreign)),
    fun own again => attach.trans (congrArg _ ?_), fun free => execNamespaceAttachment_unattached (run _) fits free,
    fun all idle => ⟨u.detached nsid targets, execNamespaceAttachment_detach (run _) fits all idle,
      State.ns_detached_attached here, fun m other => State.ns_detached_ne other, fun e => State.mem_changed_detached, rfl⟩⟩
  · rw [if_neg fun ⟨i, mem, foreign⟩ => foreign (free i mem).1, if_neg fun ⟨i, mem, again⟩ => (free i mem).2 again]
  · rw [if_neg fun ⟨i, mem, foreign⟩ => foreign (own i mem), if_pos again]

/-! ### Zone ages (R52, R55) -/

theorem Zone.ne_default_of_active {x : Zone} (h : x.st.isActive = true) : x ≠ {} := by
  rintro rfl
  exact absurd h (by decide)

theorem State.zoneAt_modZone {n z : Nat} {f : Zone → Zone} (kept : f (s.zoneAt n z) ≠ {}) :
    (s.modZone n z f).zoneAt n z = f (s.zoneAt n z) := by
  have zone : ((s.ns n).zones.upd {} z f).get {} z = f (s.zoneAt n z) := Tab.get_set_self_of_ne kept
  have there : ({ s.ns n with zones := (s.ns n).zones.upd {} z f } : Ns) ≠ {} := fun e =>
    kept (zone.symm.trans (congrArg (fun x : Ns => x.zones.get {} z) e))
  exact (congrArg (fun x : Ns => x.zones.get {} z)
    (State.ns_modNs_self (f := fun x => { x with zones := x.zones.upd {} z f }) there)).trans zone

/-- A change noted in the lists of the instances leaves the zones, the registers and the dies as they are (R56). -/
theorem State.zoneChanged_kept {nsid z : Nat} :
    ((s.zoneChanged nsid z).zone.nss, (s.zoneChanged nsid z).regs, (s.zoneChanged nsid z).flash) =
      (s.zone.nss, s.regs, s.flash) := by
  refine State.each_keeps (fun t => (t.zone.nss, t.regs, t.flash)) fun t i => ?_
  generalize listed : ({ t with zone := { t.zone with
    changed := t.zone.changed.upd {} (i * 2048 + nsid) fun c => c.add z } } : State) = v
  have posts : Posts v (if bit (v.inst i).asyncConfig 27 = true then v.event i Ev.notice Ev.zoneDescriptorChanged 0xBF else v) :=
    Posts.ite (Posts.refl v).event (Posts.refl v)
  dsimp only
  rw [listed, posts.zone, posts.regs, posts.flash, ← listed]

theorem State.zoneAt_zoneChanged {nsid z n y : Nat} : (s.zoneChanged nsid z).zoneAt n y = s.zoneAt n y :=
  congrArg (fun x => ((x.1.get {} n).zones.get {} y)) (State.zoneChanged_kept (s := s) (nsid := nsid) (z := z))

/-- An active zone whose finish is not yet recommended, at the first age (R55). -/
theorem execZoneFzrAgeReached_of_fresh {nsid z : Nat} (active : (s.zoneAt nsid z).st.isActive = true)
    (fresh : (s.zoneAt nsid z).fzr = false) :
    ∃ t, execZoneFzrAgeReached nsid z s = .next t ∧
      t.zoneAt nsid z = { s.zoneAt nsid z with
        age := max (s.zoneAt nsid z).age (s.cfgOf Cfg.ZONE_FZR_AGE * 360000), fzr := true } ∧
      t.regs = s.regs ∧ t.flash = s.flash := by
  generalize aged : (s.modZone nsid z fun x => { x with age := max x.age (roundsOf (s.cfgOf Cfg.ZONE_FZR_AGE)) }) = v
  have zone : v.zoneAt nsid z = { s.zoneAt nsid z with age := max (s.zoneAt nsid z).age (s.cfgOf Cfg.ZONE_FZR_AGE * 360000) } :=
    aged ▸ State.zoneAt_modZone (Zone.ne_default_of_active active)
  have marked : (v.modZone nsid z fun x => { x with fzr := true }).zoneAt nsid z = { v.zoneAt nsid z with fzr := true } :=
    State.zoneAt_modZone (Zone.ne_default_of_active (by rw [zone]; exact active))
  have run : execZoneFzrAgeReached nsid z s = .next (v.recommendFinish nsid z) :=
    (if_neg (by simp [active])).trans (congrArg (fun u => (Host.Outcome.next (u.recommendFinish nsid z) : Res)) aged)
  rw [State.recommendFinish, if_neg (by rw [zone]; simp [fresh])] at run
  have kept := State.zoneChanged_kept (s := v.modZone nsid z fun x => { x with fzr := true }) (nsid := nsid) (z := z)
  refine ⟨_, run, State.zoneAt_zoneChanged.trans (marked.trans (by rw [zone])),
    (congrArg (·.2.1) kept).trans (aged ▸ rfl), (congrArg (·.2.2) kept).trans (aged ▸ rfl)⟩

/-! ### Released rows (R45, R131) -/

theorem execZoneRowRelease_of_free {g r : Nat} {w : RelWait}
    (found : (s.flash.relWaits.find? fun w => decide (w.row = { group := g, row := r })) = some w)
    (unread : s.readsBefore w = false) (unprogrammed : s.programsBefore w.row = false) (unscanned : s.scanning w.row = false)
    (room : s.sieve.walks.length < 64) :
    ∃ t k, execZoneRowRelease g r s = .next t ∧ w.row ∈ t.flash.releasing ∧ t.trail.half.head? = some (.rowRelease g r k) := by
  have may : ¬(s.readsBefore w = true ∨ s.programsBefore w.row = true ∨ s.scanning w.row = true ∨ 64 ≤ s.sieve.walks.length) := by
    simp [unread, unprogrammed, unscanned, room]
  unfold execZoneRowRelease
  rw [found]
  dsimp only
  rw [if_neg may]
  exact ⟨_, _, rfl, List.mem_append_right _ List.mem_cons_self, rfl⟩

/-- Settles O17: the two ages of an active zone, a row nothing needs any more, and the list a read clears. -/
theorem zoneAgesAndRows : Obligations.ZoneAgesAndRows := by
  refine ⟨?recommends, ?still, ?finishes, ?releases, ?lists⟩
  case recommends =>
    intro nsid z s active fresh
    obtain ⟨t, run, zone, regs, flash⟩ := execZoneFzrAgeReached_of_fresh active fresh
    exact ⟨t, run, by rw [zone], by rw [zone], by rw [zone], by rw [zone]; exact le_max_right .., regs, flash⟩
  case still =>
    intro nsid z s idle
    have run : (!(s.zoneAt nsid z).st.isActive) = true := by simp [idle]
    exact ⟨if_pos run, if_pos run⟩
  case finishes =>
    intro nsid z s active
    exact if_neg (by simp [active])
  case releases =>
    intro g r w s found unread unprogrammed unscanned room
    exact execZoneRowRelease_of_free found unread unprogrammed unscanned room
  case lists =>
    intro i cid nsid s takes u here attached k c v
    have page : u.changedZonePage i nsid =
        (Status.success, if c.overflow = true then [0xFFFF] else c.zones.length :: c.zones.map (· * zoneBlocks), v) :=
      if_neg (by simp [here, attached])
    refine (adminDo_on takes : execGetLogChangedZoneList i cid nsid s = _).trans (congrArg _ ?_)
    change adminAnswer i cid (if (u.changedZonePage i nsid).1 ≠ Status.success
      then refusedWith (u.changedZonePage i nsid).1 u
      else succeeded (((u.changedZonePage i nsid).2.2.reply i 0 cid (u.changedZonePage i nsid).2.1).unmask i Ev.notice)) = _
    rw [page, if_neg (not_not_intro rfl)]
    rfl

end Sys2Proof.Machine
end

section
/-! Proofs: Identify and the features of instances, namespaces and NVM Sets (R39, R60, R61, R106, R157, R160, R189, R360,
R362, R369). -/

namespace Sys2Proof.Machine

set_option Elab.async false

variable {s : State}

section
variable {i cid d nsid v : Nat} {b : Bool} {u : State}

theorem execIdentify_of_data {k : Nat} {data : List Nat} (run : ∀ f, s.adminDo i cid f = .next (adminAnswer i cid (f u)))
    (h : u.identifyData i k nsid = some data) :
    execIdentify i cid k nsid s = .next ((u.reply i 0 cid data).adminCqe i cid 0 0) := by
  refine (run _).trans (congrArg _ ?_)
  rw [h]
  rfl

theorem execGetFeatures_of_value {k x : Nat} (run : ∀ f, s.adminDo i cid f = .next (adminAnswer i cid (f u)))
    (h : u.featureOf i k nsid = some x) : execGetFeatures i cid k nsid s = .next (u.adminCqe i cid 0 x) := by
  refine (run _).trans (congrArg _ ?_)
  rw [h]
  rfl

theorem execSetFeaturesPlmConfig_of_ok (run : ∀ f, s.adminDo i cid f = .next (adminAnswer i cid (f u)))
    (formed : (u.dieSet d).groups ≠ []) (controls : u.controlsSet i d = true)
    (able : b = true → ∀ k ∈ (u.dieSet d).groups.flatMap fun g => (u.group g).dies, (u.die k).plmOk = true) :
    execSetFeaturesPlmConfig i cid d b v s = .next (((u.leaveWindow d).modDieSet d fun x => { x with
      plm := { x.plm with enabled := b, events := v } }).adminCqe i cid 0 0) := by
  have may : ¬((u.dieSet d).groups.isEmpty = true ∨ (!u.controlsSet i d) = true ∨
      b = true ∧ (((u.dieSet d).groups.flatMap fun g => (u.group g).dies).any fun k => !(u.die k).plmOk) = true) := by
    rintro (e | e | ⟨on, e⟩)
    · exact formed (List.isEmpty_iff.1 e)
    · simp [controls] at e
    · obtain ⟨k, mem, no⟩ := List.any_eq_true.1 e
      simp [able on k mem] at no
  exact (run _).trans (congrArg _ (congrArg _ (if_neg may)))

/-- A window's request by an instance that controls the die set, in a set with the windows enabled (R157, R161). -/
theorem execSetFeaturesPlmWindow_of_enabled (run : ∀ f, s.admin i cid f = .next (f u)) (formed : (u.dieSet d).groups ≠ [])
    (controls : u.controlsSet i d = true) (enabled : (u.dieSet d).plm.enabled = true) :
    execSetFeaturesPlmWindow i cid d b s = .next (
      if (!b) = true then (u.leaveWindow d).adminCqe i cid 0 0
      else if (u.dieSet d).plm.deterministic = true then u.adminCqe i cid 0 0
      else if (u.dieSet d).plm.entering.isSome = true ∨ (u.dieSet d).plm.ndRounds * 10 < u.ndMinimum d then
        u.adminCqe i cid Status.sequenceError 0
      else (u.modDieSet d fun x => { x with plm := { x.plm with entering := some (i, cid) } }).keepWaiting i cid [0x09, d] []) := by
  refine (run _).trans (congrArg _ ?_)
  dsimp only
  rw [if_neg (by simp [formed, controls]), if_neg (by simp [enabled])]

theorem execSetFeaturesFdp_of_formed (run : ∀ f, s.managerDo 0 cid f = .next (adminAnswer 0 cid (f u)))
    (formed : (u.dieSet d).groups ≠ []) :
    execSetFeaturesFdp 0 cid d b s = .next (
      if ∃ n ∈ u.zone.nss, n.2.exists_ = true ∧ n.2.dieSet = d then u.adminCqe 0 cid Status.sequenceError 0
      else ((u.modDieSet d fun x => { x with fdp := b }).trailRec (.settings 3 d)).adminCqe 0 cid 0 0) := by
  refine (run _).trans (congrArg _ ?_)
  rw [if_neg fun e => formed (List.isEmpty_iff.1 e), adminAnswer_ite]
  exact if_congr (by simp) rfl rfl

theorem execSetFeaturesFdpEvents_of_ok (run : ∀ f, s.adminDo i cid f = .next (adminAnswer i cid (f u)))
    (here : (u.ns nsid).exists_ = true) (attached : i ∈ (u.ns nsid).attached) (on : (u.dieSet (u.ns nsid).dieSet).fdp = true) :
    execSetFeaturesFdpEvents i cid nsid v s =
      .next ((u.modDieSet (u.ns nsid).dieSet fun x => { x with fdpEvents := v }).adminCqe i cid 0 0) := by
  refine (run _).trans (congrArg _ ?_)
  dsimp only
  rw [if_neg (by simp [here, attached]), if_neg (by simp [on])]
  rfl

theorem execSetFeaturesReservation_mask (run : ∀ f, s.adminDo i cid f = .next (adminAnswer i cid (f u)))
    (here : (u.ns nsid).exists_ = true) (attached : i ∈ (u.ns nsid).attached) :
    execSetFeaturesReservation i cid 0x82 nsid v s =
      .next ((u.modInst i fun x => { x with resMask := x.resMask.set 0 nsid v }).adminCqe i cid 0 0) := by
  refine (run _).trans (congrArg _ ?_)
  rw [if_neg (by simp [here, attached]), if_pos rfl]
  rfl

theorem execSetFeaturesReservation_persist (run : ∀ f, s.adminDo i cid f = .next (adminAnswer i cid (f u)))
    (here : (u.ns nsid).exists_ = true) (attached : i ∈ (u.ns nsid).attached) :
    execSetFeaturesReservation i cid 0x83 nsid v s =
      .next (((u.modNs nsid fun n => { n with ptpl := decide (v % 2 = 1) }).trailRec (.settings 1 nsid)).adminCqe i cid 0 0) := by
  refine (run _).trans (congrArg _ ?_)
  rw [if_neg (by simp [here, attached]), if_neg (by decide), if_pos rfl]
  rfl

theorem execSetFeaturesTimestamp_of_done (run : ∀ f, s.adminDo i cid f = .next (adminAnswer i cid (f u)))
    (done : u.flash.offDone = true) :
    execSetFeaturesTimestamp i cid v s =
      .next (State.adminCqe (State.trailRec { u with
        trail := { u.trail with timestamp := some (v, u.now) }
        boot := { u.boot with record := { u.boot.record with hostTime := if u.boot.record.hostTime = 0 then v else u.boot.record.hostTime } } }
        (.timestamp v)) i cid 0 0) := by
  refine (run _).trans (congrArg _ ?_)
  rw [State.setTimestamp, if_pos done]
  rfl

end

/-- Settles O18: each row by its own lemma, on the state in which its command is fetched. -/
theorem namespaceFeatures : Obligations.NamespaceFeatures := by
  intro i cid k nsid v b s takes u
  have run : ∀ f, s.adminDo i cid f = .next (adminAnswer i cid (f u)) := fun f => adminDo_on takes
  have admin : ∀ f, s.admin i cid f = .next (f u) := fun f => admin_on takes
  have manager : i = 0 → ∀ f, s.managerDo 0 cid f = .next (adminAnswer 0 cid (f u)) := by
    rintro rfl f
    exact managerDo_on takes
  clear_value u
  refine ⟨fun data h => execIdentify_of_data run h, fun x h => execGetFeatures_of_value run h,
    fun d formed controls able => execSetFeaturesPlmConfig_of_ok run formed controls able,
    fun d formed controls enabled => ⟨?leave, fun off out rested => ?enter⟩,
    fun d own formed => execSetFeaturesFdp_of_formed (manager own) formed,
    fun here attached => ⟨fun on => execSetFeaturesFdpEvents_of_ok run here attached on,
      execSetFeaturesReservation_mask run here attached, execSetFeaturesReservation_persist run here attached⟩,
    (run _ : execSetFeaturesHostIdentifier i cid v s = _), fun done => execSetFeaturesTimestamp_of_done run done⟩
  case leave =>
    exact (execSetFeaturesPlmWindow_of_enabled admin formed controls enabled).trans (congrArg _ (if_pos rfl))
  case enter =>
    refine (execSetFeaturesPlmWindow_of_enabled admin formed controls enabled).trans (congrArg _ ?_)
    rw [if_neg (by simp), if_neg (by simp [off]), if_neg (by simp [out, rested])]

end Sys2Proof.Machine
end

section
/-! Proofs: virtualization management (R347, R365; Tables 13.3 and 13.4). -/

namespace Sys2Proof.Machine

set_option Elab.async false

variable {s : State}

section
variable {cid i n : Nat} {u : State} (named : 1 ≤ i ∧ i ≤ 511)
  (run : ∀ f, s.managerDo 0 cid f = .next (adminAnswer 0 cid (f u)))
include named run

theorem execVirtMgmtAssign_of_not_offline {rt : Nat} (known : rt ≤ 1) (busy : (u.inst i).st ≠ .offline) :
    execVirtMgmtAssign 0 cid i rt n s = .next (u.adminCqe 0 cid Status.invalidCtrlState 0) := by
  refine (run _).trans (congrArg _ ?_)
  dsimp only
  rw [if_neg (by omega), if_neg (by omega), if_pos busy]
  rfl

theorem execVirtMgmtAssign_queues (offline : (u.inst i).st = .offline) :
    execVirtMgmtAssign 0 cid i 0 n s = .next (
      if 1023 < n ∨ 7680 < Tab.sum (fun k y => if k ≠ i then y.vq else 0) u.tenant.insts + n then
        u.adminCqe 0 cid Status.invalidResourceCount 0
      else ((u.modInst i fun x => { x with vq := n }).saveInst i).adminCqe 0 cid 0 n) := by
  refine (run _).trans (congrArg _ ?_)
  dsimp only
  rw [if_neg (by omega), if_neg (by omega), if_neg (not_not_intro offline), adminAnswer_ite]
  refine if_congr (by simp only [true_and]) rfl ?_
  rw [if_neg fun h => absurd h.1 (by decide)]
  rfl

theorem execVirtMgmtAssign_vectors (offline : (u.inst i).st = .offline) :
    execVirtMgmtAssign 0 cid i 1 n s = .next (
      if n = 0 ∨ 2048 < n ∨ 4096 < Tab.sum (fun k y => if k ≠ 0 ∧ u.portOf k = u.portOf i ∧ k ≠ i then y.vi else 0) u.tenant.insts +
          (if u.portOf i = 0 then u.cfgOf Cfg.PCIE_MGR_VECTORS else 0) + n then u.adminCqe 0 cid Status.invalidField 0
      else ((u.modInst i fun x => { x with vi := n }).saveInst i).adminCqe 0 cid 0 n) := by
  refine (run _).trans (congrArg _ ?_)
  dsimp only
  rw [if_neg (by omega), if_neg (by omega), if_neg (not_not_intro offline), if_neg fun h => absurd h.1 (by decide),
    adminAnswer_ite]
  exact if_congr (by simp only [true_and]) rfl rfl

theorem execVirtMgmtOnline_of_not_offline (busy : (u.inst i).st ≠ .offline) :
    execVirtMgmtOnline 0 cid i s = .next (u.adminCqe 0 cid Status.invalidCtrlState 0) := by
  refine (run _).trans (congrArg _ ?_)
  dsimp only
  rw [if_neg (by omega), if_pos busy]
  rfl

theorem execVirtMgmtOnline_of_offline (offline : (u.inst i).st = .offline) :
    execVirtMgmtOnline 0 cid i s = .next (
      if (u.inst i).vq = 0 ∨ (u.inst i).vi = 0 then u.adminCqe 0 cid Status.invalidResourceCount 0
      else (u.modInst i fun x => { x with st := .online, rdy := x.ccEn }).adminCqe 0 cid 0 0) := by
  refine (run _).trans (congrArg _ ?_)
  dsimp only
  rw [if_neg (by omega), if_neg (not_not_intro offline), adminAnswer_ite]
  rfl

theorem execVirtMgmtOffline_of_offline (offline : (u.inst i).st = .offline) :
    execVirtMgmtOffline 0 cid i s = .next (u.adminCqe 0 cid Status.invalidCtrlState 0) := by
  refine (run _).trans (congrArg _ ?_)
  dsimp only
  rw [if_neg (by omega), if_pos (by simp [offline])]
  rfl

theorem execVirtMgmtOffline_of_held (held : (u.inst i).st = .held) :
    execVirtMgmtOffline 0 cid i s = .next ((u.removeInstance i).2.adminCqe 0 cid 0 (u.removeInstance i).1) := by
  refine (run _).trans (congrArg _ ?_)
  dsimp only
  rw [if_neg (by omega), if_neg (by simp [held])]
  rfl

end

/-- Settles O19: each command by the state of the tenant it names. -/
theorem virtualizationRows : Obligations.VirtualizationRows := by
  intro cid i n s takes u least most x pairs port mgr
  have run : ∀ f, s.managerDo 0 cid f = .next (adminAnswer 0 cid (f u)) := fun f => managerDo_on takes
  have named : 1 ≤ i ∧ i ≤ 511 := ⟨least, most⟩
  clear_value u
  exact ⟨fun offline => ⟨execVirtMgmtAssign_queues named run offline, execVirtMgmtAssign_vectors named run offline,
      execVirtMgmtOnline_of_offline named run offline, execVirtMgmtOffline_of_offline named run offline⟩,
    fun busy => ⟨execVirtMgmtAssign_of_not_offline named run (by decide) busy, execVirtMgmtOnline_of_not_offline named run busy⟩,
    fun held => ⟨_, rfl, execVirtMgmtOffline_of_held named run held⟩⟩

end Sys2Proof.Machine
end

section
/-! Proofs: pause, stop and resume of an instance (R21, R365, R377, R378). -/

namespace Sys2Proof.Machine

set_option Elab.async false

variable {s : State}

theorem State.beginStop_of_pausing {i kind : Nat} {byManager : Bool} {waiter : Option (Nat × Nat)}
    (h : (s.inst i).st = .pausing) : s.beginStop i kind byManager waiter = s.startStop i kind byManager waiter := by
  rw [State.beginStop, if_neg (by simp [h]), if_pos h]

theorem State.beginStop_of_online {i kind : Nat} {byManager : Bool} {waiter : Option (Nat × Nat)}
    (h : (s.inst i).st = .online) :
    s.beginStop i kind byManager waiter = if s.treeFull = true then s.stall (.stop i kind byManager waiter)
      else (s.enterTree (.quiesce i)).startStop i kind byManager waiter := by
  rw [State.beginStop, if_neg (by simp [h]), if_neg (by simp [h])]

section
variable {cid i limit : Nat} {u : State}

section
variable (tenant : u.isTenant i = true) (run : ∀ f, s.admin 0 cid f = .next (f u))
include tenant run

theorem execInstanceQuiescePause_of_long (long : 10000 < limit) :
    execInstanceQuiescePause 0 cid i limit true s = .next (u.adminCqe 0 cid Status.invalidField 0) := by
  refine (run _).trans (congrArg _ ?_)
  dsimp only
  rw [if_neg (not_not_intro rfl), if_neg (by simp [tenant]), if_pos (.inr long)]

theorem execInstanceQuiescePause_of_online (online : (u.inst i).st = .online) (ready : (u.inst i).rdy = true)
    (within : limit ≤ 10000) :
    execInstanceQuiescePause 0 cid i limit true s = .next ((u.beginPause i limit cid).keepWaiting 0 cid [0xC1] []) := by
  refine (run _).trans (congrArg _ ?_)
  dsimp only
  rw [if_neg (not_not_intro rfl), if_neg (by simp [tenant]), if_neg (by simp [within]), if_neg (by simp [online, ready])]

/-- A Stop by the manager, by the state of the tenant it names (Table 13.3). -/
theorem execInstanceQuiesceStop_of_tenant :
    execInstanceQuiesceStop 0 cid i true s = .next (match (u.inst i).st with
      | .held => u.adminCqe 0 cid Status.success 0
      | .stopping => u.adminCqe 0 cid Status.sequenceError 0
      | .offline => u.adminCqe 0 cid Status.sequenceError 0
      | _ => (u.beginStop i kindStop true (some (Status.success, cid))).keepWaiting 0 cid [0xC1] []) := by
  refine (run _).trans (congrArg _ ?_)
  exact (if_neg (not_not_intro rfl)).trans ((if_neg (by simp [tenant])).trans (if_neg (by simp)))

end

theorem execInstanceQuiesceResume_of_tenant (tenant : u.isTenant i = true)
    (run : ∀ f, s.adminDo 0 cid f = .next (adminAnswer 0 cid (f u))) :
    execInstanceQuiesceResume 0 cid i true s = .next (adminAnswer 0 cid (match (u.inst i).st with
      | .paused => succeeded (u.modInst i fun x => { x with st := .online })
      | .held => succeeded (u.modInst i fun x => { x with st := .online, ccEn := false, rdy := false })
      | _ => refusedWith Status.sequenceError u)) := by
  refine (run _).trans (congrArg _ (congrArg _ ?_))
  exact (if_neg (not_not_intro rfl)).trans ((if_neg (by simp [tenant])).trans (if_neg (by simp)))

end

/-- Settles O20: the rows of Table 13.3 by the state of the tenant. -/
theorem quiesceRows : Obligations.QuiesceRows := by
  intro cid i limit s
  refine ⟨?command, fun pausing => ⟨fun quiet => ?_, fun busy => if_pos (Or.inr busy), fun out => ?_,
    fun early => if_pos (Or.inr early)⟩, fun stopping => ?_⟩
  case command =>
    intro takes u tenant
    have admin : ∀ f, s.admin 0 cid f = .next (f u) := fun f => admin_on takes
    have run : ∀ f, s.adminDo 0 cid f = .next (adminAnswer 0 cid (f u)) := fun f => adminDo_on takes
    clear_value u
    have stop := execInstanceQuiesceStop_of_tenant tenant admin
    have resume := execInstanceQuiesceResume_of_tenant tenant run
    refine ⟨fun online ready within => ?_, fun online => ?_, fun pausing => ?_, fun held => ?_, fun refused => ?_,
      fun paused => ?_, fun held => ?_, execInstanceQuiescePause_of_long tenant admin⟩
    · have pause := execInstanceQuiescePause_of_online tenant admin online ready within
      rw [State.beginPause] at pause
      refine ⟨fun room => ?_, fun full => ?_⟩
      · rw [if_neg (by simp [room])] at pause
        exact pause
      · rw [if_pos full] at pause
        exact pause
    · rw [online, State.beginStop_of_online online] at stop
      exact stop
    · rw [pausing, State.beginStop_of_pausing pausing] at stop
      exact stop
    · rw [held] at stop
      exact stop
    · obtain offline | stopping := refused
      · rw [offline] at stop
        exact stop
      · rw [stopping] at stop
        exact stop
    · rw [paused] at resume
      exact resume
    · rw [held] at resume
      exact resume
  · exact if_neg (by simp [pausing, quiet])
  · refine (if_neg fun h => h.elim (fun other => other pausing) (Nat.not_lt.2 out)).trans (congrArg _ ?_)
    exact State.beginStop_of_pausing pausing
  · change (if (s.inst i).st ≠ .stopping ∨ s.atNand i = true then .next s else .next (s.endStop i)) = (_ : Res)
    rw [apply_ite Host.Outcome.next]
    exact if_congr (by simp [stopping]) rfl rfl

end Sys2Proof.Machine
end

section
/-! Proofs: function resets, CC.EN, CC.SHN, resources and state records of an instance (R253, R345, R365 to R367, R370,
R371, R390, R392). -/

namespace Sys2Proof.Machine

set_option Elab.async false

variable {s : State}

/-! ### CC.EN and CC.SHN -/

theorem Inst.ne_default_of_st {x : Inst} (h : x.st ≠ .offline) : x ≠ {} := by
  rintro rfl
  exact h rfl

/-- The admin queues and the ready bit of an enabled instance (R345). -/
def State.enabledAs (s : State) (i : Nat) (a c : QMem) (wrr : Bool) : State :=
  s.modInst i fun x => { x with
    ccEn := true, wrr := wrr, ccShn := 0, shst := 0, rdy := s.boot.phase = .ready
    sqs := x.sqs.set {} 0 { exists_ := true, size := a.size, base := a.base }
    cqs := x.cqs.set {} 0 { exists_ := true, size := c.size, base := c.base } }

section
variable {i : Nat} {a c : QMem} {wrr : Bool}

/-- An instance that is Online, with queues of an allowed size, is enabled; intake fetches again after instance 0's
shutdown (R253). -/
theorem execControllerEnable_of_online (sizes : 2 ≤ a.size ∧ a.size ≤ 4096 ∧ 2 ≤ c.size ∧ c.size ≤ 4096)
    (off : (s.inst i).ccEn = false) (online : (s.inst i).st = .online) :
    execControllerEnable i a c wrr s = .next (State.enabledAs
      (if decide (i = 0) && decide ((s.inst i).shst = 2) && s.boot.shut.isNone && s.boot.phase = .ready &&
        !s.trail.dumpMode && !s.boot.pwrdis then { s with intake := { s.intake with stopped := false } } else s) i a c wrr) := by
  unfold execControllerEnable
  dsimp only
  rw [if_neg (by simp only [off, Bool.false_eq_true, false_or]; omega), online]
  dsimp only
  refine congrArg _ (State.modInst_congr ?_)
  have kept : ∀ b : Bool, (if b then ({ s with intake := { s.intake with stopped := false } } : State) else s).inst i = s.inst i := by
    intro b
    cases b <;> rfl
  rw [kept, online]
  simp only [decide_true, Bool.true_and]

end

theorem State.shutdownDone_of_busy {i : Nat} (h : s.hasCommands i = true) : s.shutdownDone i = s :=
  if_neg (by simp [h])

/-- A shutdown of a tenant that is enabled and not yet shut down (R367). -/
theorem execTenantShutdown_of_enabled {i : Nat} (tenant : i ≠ 0) (on : (s.inst i).ccEn = true) (open_ : (s.inst i).shst ≠ 2) :
    execTenantShutdown i s = .next (s.modInst i fun x =>
      { x with ccShn := 1, shst := if s.hasCommands i = true then 1 else 2 }) := by
  have kept : ({ s.inst i with ccShn := 1, shst := 1 } : Inst) ≠ {} := fun e => Nat.one_ne_zero (congrArg Inst.shst e)
  have asked := State.inst_modInst_self (f := fun x => { x with ccShn := 1, shst := 1 }) kept
  refine (if_neg (by simp [tenant, on, open_])).trans (congrArg _ ?_)
  cases busy : s.hasCommands i
  case true => exact State.shutdownDone_of_busy (s := s.modInst i fun x => { x with ccShn := 1, shst := 1 }) busy
  case false =>
    refine (if_pos ?_).trans (State.modInst_again kept)
    rw [asked]
    exact ⟨tenant, rfl, rfl, congrArg (fun b => !b) busy⟩

/-! ### Function resets (R366) -/

theorem State.hostAccess_awake (h : s.power.ps < 3) : s.hostAccess = s := if_pos h

/-- A reset of a virtual function while the part is awake. -/
theorem execFunctionLevelReset_awake {i : Nat} (awake : s.power.ps < 3) (virtual_ : s.isPf i = false) :
    execFunctionLevelReset i s = .next (s.flr i kindFlr) := by
  have run : execFunctionLevelReset i s = .next (if s.power.ps < 3 then s.functionReset i
      else { s with power := { s.power with held := s.power.held ++ [(i, none)] } }) := by
    unfold execFunctionLevelReset
    rw [State.hostAccess_awake awake]
  rw [if_pos awake, State.functionReset, if_neg (by simp [virtual_])] at run
  exact run

theorem execFunctionLevelReset_asleep {i : Nat} (asleep : 3 ≤ s.power.ps) (still : 3 ≤ (s.wake 1).power.ps) :
    execFunctionLevelReset i s =
      .next { s.wake 1 with power := { (s.wake 1).power with held := (s.wake 1).power.held ++ [(i, none)] } } := by
  have woken : s.hostAccess = s.wake 1 := if_neg (Nat.not_lt.2 asleep)
  unfold execFunctionLevelReset
  rw [woken]
  exact congrArg _ (if_neg (Nat.not_lt.2 still))

/-- A Held instance is reset at once, with its configuration space. -/
theorem State.flr_of_held {i kind : Nat} (held : (s.inst i).st = .held) :
    s.flr i kind = (s.modInst i fun x => x.functionReset .held).resetConfigSpace i := by
  unfold State.flr
  rw [held]

theorem State.inst_flr_of_held {i kind : Nat} (held : (s.inst i).st = .held) :
    (s.flr i kind).inst i = { (s.inst i).functionReset .held with
      dState := 0, pmeEn := false, busMaster := false, memEnable := false, msixMasked := [], msixPending := [], steering := [] } := by
  have reset := State.inst_modInst_self (s := s) (i := i) (f := fun x => x.functionReset .held)
    (Inst.ne_default_of_st (by simp [Inst.functionReset]))
  rw [State.flr_of_held held]
  refine (State.inst_modInst_self (Inst.ne_default_of_st ?_)).trans ?_
  · exact fun e => absurd ((congrArg Inst.st reset).symm.trans e) (by simp [Inst.functionReset])
  · exact congrArg (fun x : Inst => { x with
      dState := 0, pmeEn := false, busMaster := false, memEnable := false, msixMasked := [], msixPending := [], steering := [] }) reset

theorem State.inst_flr_of_held_ne {i k kind : Nat} (held : (s.inst i).st = .held) (other : k ≠ i) :
    (s.flr i kind).inst k = s.inst k := by
  rw [State.flr_of_held held]
  exact (State.inst_modInst_ne other).trans (State.inst_modInst_ne other)

/-! ### Resources (R370, R371) -/

section
variable {cid i : Nat} {r : ResRec} {u : State} (run : ∀ f, s.adminDo 0 cid f = .next (adminAnswer 0 cid (f u)))
include run

/-- A Set that names a tenant: the fields first, then the die set it would take away. -/
theorem execInstanceResourcesSet_of_named (least : 1 ≤ i) (most : i ≤ 511) :
    execInstanceResourcesSet 0 cid i r true s = .next (
      if u.resOk i r = false then u.adminCqe 0 cid Status.invalidField 0
      else if u.dieSetHeld i r = true then u.adminCqe 0 cid Status.sequenceError 0
      else (u.applyRes i r).adminCqe 0 cid 0 0) := by
  refine (run _).trans (congrArg _ ?_)
  rw [if_neg (not_not_intro rfl), if_neg (by omega)]
  simp only [adminAnswer_ite, adminAnswer_refused]
  exact if_congr (by simp) rfl (if_congr Iff.rfl rfl rfl)

theorem execInstanceResourcesGet_of_named (most : i ≤ 511) :
    execInstanceResourcesGet 0 cid i s = .next ((u.reply 0 0 cid (u.resourceBytes i)).adminCqe 0 cid 0 0) := by
  refine (run _).trans (congrArg _ ?_)
  rw [if_neg (not_not_intro rfl), if_neg (Nat.not_lt.2 most)]
  rfl

/-! ### State records (R390, R392) -/

theorem execInstanceStateSave_of_tenant {size : Nat} (tenant : u.isTenant i = true) :
    execInstanceStateSave 0 cid i size s = .next (
      if (u.inst i).st ≠ .paused then u.adminCqe 0 cid Status.sequenceError 0
      else if size < (u.recordOf i).size then u.adminCqe 0 cid Status.invalidField (u.recordOf i).size
      else (u.reply 0 0 cid (u.recordOf i).bytes).adminCqe 0 cid 0 (u.recordOf i).size) := by
  refine (run _).trans (congrArg _ ?_)
  rw [if_neg (not_not_intro rfl), if_neg (by simp [tenant])]
  simp only [adminAnswer_ite, adminAnswer_refused]
  rfl

end

/-- The tenant as a record restores it (R392). -/
def State.restoredInst (u : State) (i : Nat) (q : InstRec) : State :=
  u.modInst i fun x => { x.functionReset .paused with
    ccEn := true, rdy := true, wrr := q.wrr, arbitration := q.arbitration
    creditH := bits q.arbitration 24 8 + 1, creditM := bits q.arbitration 16 8 + 1, creditL := bits q.arbitration 8 8 + 1
    powerFeature := q.powerFeature, coalescing := q.coalescing, asyncConfig := q.asyncConfig, apstOn := q.apstOn
    apst := q.apst, hostId := q.hostId, resMask := q.resMask, aers := q.aers, events := q.events
    sqs := q.queues.foldl (fun t q => t.set {} q.sq (savedSq q)) []
    cqs := q.queues.foldl (fun t q => t.set {} q.cq (savedCq q)) [] }

/-- What the rest of a restore keeps of the tenant: everything but its completion queues' counts. -/
structure RestoreKeeps (i : Nat) (v t : State) : Prop where
  inst : { t.inst i with cqs := [] } = ({ v.inst i with cqs := [] } : Inst)
  glaze : t.glaze = v.glaze
  regs : t.regs = v.regs

theorem RestoreKeeps.restoreAer {i c : Nat} {v t : State} (paused : (v.inst i).st = .paused) (h : RestoreKeeps i v t) :
    RestoreKeeps i v (t.restoreAer i c) := by
  have st : (t.inst i).st = .paused := (congrArg Inst.st h.inst).trans paused
  unfold State.restoreAer
  cases t.freeTag .a with
  | none => exact h
  | some k =>
    dsimp only
    generalize tagged : t.modTag k _ = w
    have same : w.inst i = t.inst i := tagged ▸ rfl
    have upd := State.inst_modInst_self (s := w) (i := i)
      (f := fun x => { x with cqs := x.cqs.upd {} 0 fun a => { a with reserved := a.reserved + 1 } })
      (Inst.ne_default_of_st (by rw [same, st]; decide))
    refine ⟨?_, (tagged ▸ rfl : w.glaze = t.glaze).trans h.glaze, (tagged ▸ rfl : w.regs = t.regs).trans h.regs⟩
    refine (congrArg (fun x : Inst => { x with cqs := [] }) upd).trans ?_
    rw [same]
    exact h.inst

/-- A restore of a record into a Held tenant. -/
theorem execInstanceStateRestore_of_held {cid i : Nat} {q : InstRec} {u : State}
    (run : ∀ f, s.adminDo 0 cid f = .next (adminAnswer 0 cid (f u))) (tenant : u.isTenant i = true)
    (held : (u.inst i).st = .held) (fits : u.recordFits i q = true) :
    ∃ t : State, execInstanceStateRestore 0 cid i q s = .next (t.adminCqe 0 cid 0 0) ∧
      RestoreKeeps i (u.restoredInst i q) t := by
  generalize restored : u.restoredInst i q = v
  have paused : (v.inst i).st = .paused := by
    rw [← restored]
    exact congrArg Inst.st (State.inst_modInst_self (Inst.ne_default_of_st (by simp [Inst.functionReset])))
  let p := v.each (q.plm.filter fun p => v.controlsSet i p.1) fun s p =>
    s.modDieSet p.1 fun x => { x with plm := { x.plm with enabled := p.2.1, events := p.2.2 } }
  let n := p.each q.nsids fun s n => s.modNs n fun x => { x with ptpl := q.ptpl.contains n }
  refine ⟨n.each q.aers fun s c => s.restoreAer i c, (run _).trans (congrArg _ ?_), ?_⟩
  · rw [if_neg (not_not_intro rfl), if_neg (by simp [tenant]), if_neg (by simp [held]), if_neg (by simp [fits])]
    subst restored
    rfl
  · have sets : RestoreKeeps i v p := List.foldlRecOn _ _ ⟨rfl, rfl, rfl⟩ fun t h _ _ => ⟨h.inst, h.glaze, h.regs⟩
    have names : RestoreKeeps i v n := List.foldlRecOn _ _ sets fun t h _ _ => ⟨h.inst, h.glaze, h.regs⟩
    exact List.foldlRecOn _ _ names fun t h _ _ => h.restoreAer paused

/-- Settles O21: the resets and enables by the state of the instance, then the records. -/
theorem instanceControlRows : Obligations.InstanceControlRows := by
  refine ⟨fun i a c wrr s => ⟨fun least most cleast cmost off online => ⟨fun fresh => ?_, fun ended unshut ready power present => ?_⟩,
    fun on => ⟨if_pos (Or.inl on), fun online => if_pos ⟨online, on⟩, fun tenant open_ => execTenantShutdown_of_enabled tenant on open_⟩,
    fun awake virtual_ => ?_, fun asleep u woken still => ?_⟩, ?records⟩
  · refine (execControllerEnable_of_online ⟨least, most, cleast, cmost⟩ off online).trans (congrArg _ ?_)
    rw [if_neg (by simp [fresh])]
    rfl
  · refine (execControllerEnable_of_online ⟨least, most, cleast, cmost⟩ off online).trans (congrArg _ ?_)
    simp only [ended, unshut, ready, power, present, decide_true, Bool.and_true, Option.isNone_none, Bool.not_false,
      decide_eq_true_eq]
    rfl
  · have run := execFunctionLevelReset_awake awake virtual_
    refine ⟨fun offline => ?_, fun online => ?_, fun held => ?_⟩
    · rw [State.flr, offline] at run
      exact run
    · rw [State.flr, online] at run
      exact run
    · have inst := State.inst_flr_of_held (kind := kindFlr) held
      refine ⟨_, run, congrArg Inst.st inst, congrArg Inst.sqs inst, (congrArg Inst.vq inst).trans rfl, congrArg Inst.busMaster inst,
        congrArg Inst.msixMasked inst, ?_, fun k other => State.inst_flr_of_held_ne held other, ?_⟩
      · rw [State.flr_of_held held]
        rfl
      · rw [State.flr_of_held held]
        rfl
  · subst woken
    exact execFunctionLevelReset_asleep asleep still
  case records =>
    intro cid i size r q s takes u
    have run : ∀ f, s.adminDo 0 cid f = .next (adminAnswer 0 cid (f u)) := fun f => adminDo_on takes
    clear_value u
    refine ⟨fun least most ok free => ?_, fun least most ok held => ?_, fun least most bad => ?_,
      fun most => execInstanceResourcesGet_of_named run most, fun tenant => ⟨fun paused => ?_, fun other => ?_,
        fun held fits => ?_, fun held misfits => ?_⟩⟩
    · refine (execInstanceResourcesSet_of_named run least most).trans (congrArg _ ?_)
      rw [if_neg (by simp [ok]), if_neg (by simp [free])]
    · refine (execInstanceResourcesSet_of_named run least most).trans (congrArg _ ?_)
      rw [if_neg (by simp [ok]), if_pos held]
    · exact (execInstanceResourcesSet_of_named run least most).trans (congrArg _ (if_pos bad))
    · exact (execInstanceStateSave_of_tenant run tenant).trans (congrArg _ (if_neg (not_not_intro paused)))
    · exact (execInstanceStateSave_of_tenant run tenant).trans (congrArg _ (if_pos other))
    · obtain ⟨t, restored, inst, glaze, regs⟩ := execInstanceStateRestore_of_held run tenant held fits
      rw [State.restoredInst, State.inst_modInst_self (Inst.ne_default_of_st (by simp [Inst.functionReset]))] at inst
      exact ⟨t, restored, congrArg Inst.st inst, congrArg Inst.rdy inst, congrArg Inst.arbitration inst,
        congrArg Inst.hostId inst, congrArg Inst.aers inst, (congrArg Inst.vq inst).trans rfl, (congrArg Inst.sieveQuota inst).trans rfl, glaze, regs⟩
    · refine (run _ : execInstanceStateRestore 0 cid i q s = _).trans (congrArg _ ?_)
      dsimp only
      rw [if_neg (not_not_intro rfl), if_neg (by simp [tenant]), if_neg (by simp [held]), if_pos (by simp [misfits])]
      rfl

end Sys2Proof.Machine
end

section
/-! Proofs: instance mailboxes (R374, R376); the dirty-page log and the report ring (R383, R385, R387, R388). -/

namespace Sys2Proof.Machine

set_option Elab.async false

variable {s : State}

/-! ### Mailboxes -/

section
variable {i seq st : Nat}

theorem State.signalManager_off (h : s.reg Reg.MBX_MGR_CTRL_IEN = 0) : s.signalManager = s :=
  if_neg (by simp [h])

theorem State.signalTenant_off (h : (s.inst i).mbxIen = false) : s.signalTenant i = s :=
  if_neg (by simp [h])

/-- The manager's mailbox rows lie in the page of domain 81 (log entry 22). -/
theorem State.mgmtWrite_on {off : Nat} {f : State → State} (page : pageDomain (off / 4096) = 81)
    (on : s.domainOff 81 = false) : s.mgmtWrite off f = f s :=
  if_neg (by simp [page, on])

theorem State.tenantSend_of_refused (tenant : i ≠ 0) (h : (s.inst i).mbxT.refused = true) :
    s.tenantSend i = s.modInst i fun x => { x with mbxT := { x.mbxT with err := true } } :=
  (if_neg tenant).trans (if_pos (.inl h))

theorem State.tenantSend_of_online (tenant : i ≠ 0) (online : (s.inst i).st = .online)
    (h : (s.inst i).mbxT.refused = false) :
    s.tenantSend i = (s.modInst i fun x => { x with
      mbxT := { x.mbxT with outBusy := true }
      mbxM := { x.mbxM with inFull := true, inMsg := deliverWords x.mbxT.out x.mbxM.inMsg x.mbxT.length i } }).signalManager :=
  (if_neg tenant).trans (if_neg (by simp [h, online]))

theorem State.tenantAck_of_full (h : (s.inst i).mbxT.inFull = true) :
    s.tenantAck i seq st = (s.modInst i fun x => { x with
      mbxT := { x.mbxT with inFull := false }
      mbxM := { x.mbxM with outBusy := false, ackStatus := st % 65536, ackSeq := seq % 65536 } }).signalManager :=
  if_neg (by simp [h])

theorem State.managerSend_of_refused (names : s.reg Reg.MBX_INST_SEL_INST = i) (tenant : i ≠ 0)
    (h : (s.inst i).mbxM.refused = true) :
    s.managerSend = s.modInst i fun x => { x with mbxM := { x.mbxM with err := true } } := by
  subst names
  exact (if_neg tenant).trans (if_pos h)

theorem State.managerSend_of_free (names : s.reg Reg.MBX_INST_SEL_INST = i) (tenant : i ≠ 0)
    (h : (s.inst i).mbxM.refused = false) :
    s.managerSend = (s.modInst i fun x => { x with
      mbxM := { x.mbxM with outBusy := true }
      mbxT := { x.mbxT with inFull := true, inMsg := deliverWords x.mbxM.out x.mbxT.inMsg x.mbxM.length 0 } }).signalTenant i := by
  subst names
  exact (if_neg tenant).trans (if_neg (by simp [h]))

theorem State.managerAck_of_empty (names : s.reg Reg.MBX_INST_SEL_INST = i) (h : (s.inst i).mbxM.inFull = false) :
    s.managerAck seq st = s := by
  subst names
  exact if_pos (.inr (by simp [h]))

theorem State.managerAck_of_full (names : s.reg Reg.MBX_INST_SEL_INST = i) (tenant : i ≠ 0)
    (h : (s.inst i).mbxM.inFull = true) :
    s.managerAck seq st = (s.modInst i fun x => { x with
      mbxM := { x.mbxM with inFull := false }
      mbxT := { x.mbxT with outBusy := false, ackStatus := st % 65536, ackSeq := seq % 65536 } }).signalTenant i := by
  subst names
  exact if_neg (by simp [tenant, h])

/-- A message that the tenant's vector does not announce, its interrupts being off. -/
theorem State.managerSend_of_free_silent (names : s.reg Reg.MBX_INST_SEL_INST = i) (tenant : i ≠ 0)
    (off : (s.inst i).mbxIen = false) (h : (s.inst i).mbxM.refused = false) :
    s.managerSend = s.modInst i fun x => { x with
      mbxM := { x.mbxM with outBusy := true }
      mbxT := { x.mbxT with inFull := true, inMsg := deliverWords x.mbxM.out x.mbxT.inMsg x.mbxM.length 0 } } := by
  refine (State.managerSend_of_free names tenant h).trans (State.signalTenant_off ?_)
  refine (congrArg Inst.mbxIen (State.inst_modInst_self fun e => ?_)).trans off
  exact Bool.noConfusion (congrArg (fun x : Inst => x.mbxM.outBusy) e)

end

/-- Settles O22: what each row does with its buffer full or free. -/
theorem mailboxRows : Obligations.MailboxRows := by
  refine ⟨fun i s tenant online => ⟨fun h => congrArg _ (State.tenantSend_of_refused tenant h), fun h quiet => ?_⟩,
    fun i seq st s full quiet => ?_, fun i seq st s on names tenant off => ⟨fun h => ?_, fun h => ?_, fun h => ?_, fun h => ?_⟩,
    fun seq st s on none_ => ⟨?_, ?_⟩⟩
  · exact congrArg _ ((State.tenantSend_of_online tenant online h).trans (State.signalManager_off quiet))
  · exact congrArg _ ((State.tenantAck_of_full full).trans (State.signalManager_off quiet))
  · exact congrArg _ ((State.mgmtWrite_on (by decide) on).trans (State.managerSend_of_refused names tenant h))
  · exact congrArg _ ((State.mgmtWrite_on (by decide) on).trans (State.managerSend_of_free_silent names tenant off h))
  · exact congrArg _ ((State.mgmtWrite_on (by decide) on).trans (State.managerAck_of_empty names h))
  · exact congrArg _ ((State.mgmtWrite_on (by decide) on).trans (State.managerAck_of_full names tenant h))
  · refine congrArg _ ((State.mgmtWrite_on (by decide) on).trans ?_)
    exact if_pos none_
  · refine congrArg _ ((State.mgmtWrite_on (by decide) on).trans ?_)
    exact if_pos (Or.inl none_)

/-! ### Harvests

A harvest's fence takes the next ID of its port and begins the flush of the Trail's records where an outstanding fence of
that ID is a durable one. Identifiers are 16 bits, so a durable fence issued 65,536 fences before still holds the ID when
it has not ended: the flush that starts then queues its program at a die. -/

/-- An instance that logs, in a part whose port 1 still holds a durable fence of the ID that comes next, with a record for
the Trail and a die to program it. -/
def wrappedFence : State :=
  { boot := { phase := .ready }
    tenant := { insts := [(1, { st := .online, dirty := { enabled := true } })] }
    wmk := { ports := [(1, { out := [{ id := 0, cls := 2 }] })] }
    trail := { half := [.timestamp 5] }
    zone := { groups := [(0, { formed := true, dies := [0] })] }
    flash := { dies := [(0, { present := true, listed := true, inGroup := true })], regionAt := [(roleTrail, some ([0], 0))] } }

/-- The operations that die 0 has queued. -/
def queuedAtDie0 : Res → Nat
  | .next t => (t.die 0).shortQ.length
  | _ => 0

theorem exec_harvest_wrappedFence : queuedAtDie0 (exec (.harvest 1) wrappedFence) = 1 := by decide

/-- Refutes O23: the harvest's clause that the dies stay as they are fails in `wrappedFence`, where the harvest's fence
starts a flush whose program die 0 queues. -/
theorem not_migrationRows : ¬ Obligations.MigrationRows := by
  intro h
  obtain ⟨-, harvest, -⟩ := h 1 0 wrappedFence (by decide)
  obtain ⟨t, run, -, -, -, -, -, -, flash⟩ := harvest (by decide) (by decide)
  have queued := exec_harvest_wrappedFence
  rw [run] at queued
  have kept : (t.die 0).shortQ = (wrappedFence.die 0).shortQ := by
    unfold State.die
    rw [flash]
  exact absurd (queued.symm.trans (congrArg List.length kept)) (by decide)

end Sys2Proof.Machine
end

section
/-! Proofs: log pages (R56, R474, R475; Table 17.10). -/

namespace Sys2Proof.Machine

set_option Elab.async false

variable {s : State}

section
variable {i cid : Nat} {u : State} (run : ∀ f, s.adminDo i cid f = .next (adminAnswer i cid (f u)))
include run

theorem execGetLogPage_of_page {page lsi : Nat} {l : List Nat} (own : page ∉ pagesWithRows)
    (data : u.logPage i page lsi = some l) :
    execGetLogPage i cid page lsi s = .next (State.adminCqe (match pageEvent page with
      | some e => ((u.afterLog i page lsi).reply i 0 cid l).unmask i e
      | none => (u.afterLog i page lsi).reply i 0 cid l) i cid 0 0) := by
  refine (if_neg (by simpa using own)).trans ((run _).trans (congrArg _ ?_))
  dsimp only
  rw [data]
  rfl

theorem execGetLogArchive_of_fetched {lsi : Nat} :
    execGetLogArchive i cid lsi s = .next (if u.archiveOk i lsi = true then
      (u.reply i 0 cid (u.archivePage lsi)).adminCqe i cid 0 0 else u.adminCqe i cid Status.invalidField 0) :=
  (run _).trans (congrArg _ adminAnswer_ite)

/-- A Persistent Event Log command, by what its action answers (Table 17.10). -/
theorem execGetLogPersistentEvent_of_act {action st : Nat} {data : List Nat} {t : State}
    (act : u.pelAct i action = (st, data, t)) :
    execGetLogPersistentEvent i cid action s = .next (if st ≠ Status.success then u.adminCqe i cid st 0
      else (if action = 2 then t else t.reply i 0 cid data).adminCqe i cid 0 0) := by
  refine (run _).trans (congrArg _ ?_)
  dsimp only
  rw [act]
  exact adminAnswer_ite

theorem execGetLogTelemetryHost_captured :
    let v : State := { u with klog := { u.klog with teleHost := some u.telemetry } }
    execGetLogTelemetryHost i cid true s = .next ((v.reply i 0 cid (v.telemetryPage u.telemetry)).adminCqe i cid 0 0) :=
  run _

theorem execGetLogTelemetryHost_held {c : TeleCopy} (held : u.klog.teleHost = some c) :
    execGetLogTelemetryHost i cid false s = .next ((u.reply i 0 cid (u.telemetryPage c)).adminCqe i cid 0 0) := by
  refine (run _).trans (congrArg _ ?_)
  dsimp only
  rw [if_neg Bool.false_ne_true, held]
  rfl

theorem execGetLogTelemetryController_held {c : TeleCopy} (held : u.klog.teleCtrl = some c) :
    execGetLogTelemetryController i cid s =
      .next ((((u.reply i 0 cid (u.telemetryPage c)).teleTaken).unmask i Ev.notice).adminCqe i cid 0 0) := by
  refine (run _).trans (congrArg _ ?_)
  rw [held]
  rfl

end

/-! ### The Persistent Event Log's contexts -/

section
variable {i : Nat}

theorem State.pelAct_of_none (h : s.klog.pelContexts.get none i = none) :
    s.pelAct i 0 = (Status.sequenceError, [], s) ∧
    s.pelAct i 1 = (Status.success, pelPage s.pelRecords,
      { s with klog := { s.klog with pelContexts := s.klog.pelContexts.set none i (some s.pelRecords) } }) := by
  unfold State.pelAct
  rw [h]
  exact ⟨rfl, rfl⟩

theorem State.pelAct_of_some {l : List Rec} (h : s.klog.pelContexts.get none i = some l) :
    s.pelAct i 0 = (Status.success, pelPage l, s) ∧ s.pelAct i 1 = (Status.sequenceError, [], s) ∧
    s.pelAct i 2 = (Status.success, [], { s with klog := { s.klog with pelContexts := s.klog.pelContexts.set none i none } }) := by
  unfold State.pelAct
  rw [h]
  exact ⟨rfl, rfl, rfl⟩

end

/-- Settles O24: each page by its own lemma, the contexts by the action. -/
theorem logPageRows : Obligations.LogPageRows := by
  intro i cid page lsi s takes u
  have run : ∀ f, s.adminDo i cid f = .next (adminAnswer i cid (f u)) := fun f => adminDo_on takes
  clear_value u
  refine ⟨fun l own data => execGetLogPage_of_page run own data, (run _ : execGetLogSmartHealth i cid s = _),
    execGetLogArchive_of_fetched run, ⟨fun none_ => ?_, fun l held => ?_⟩, execGetLogTelemetryHost_captured run,
    fun c held => execGetLogTelemetryHost_held run held, fun c held => ?_⟩
  · obtain ⟨read, establish⟩ := State.pelAct_of_none none_
    exact ⟨(execGetLogPersistentEvent_of_act run read).trans (congrArg _ (if_pos (by decide))),
      (execGetLogPersistentEvent_of_act run establish).trans (congrArg _ (if_neg (by decide)))⟩
  · obtain ⟨read, establish, release⟩ := State.pelAct_of_some held
    exact ⟨(execGetLogPersistentEvent_of_act run read).trans (congrArg _ (if_neg (by decide))),
      (execGetLogPersistentEvent_of_act run establish).trans (congrArg _ (if_pos (by decide))),
      (execGetLogPersistentEvent_of_act run release).trans (congrArg _ (if_neg (by decide)))⟩
  · refine ⟨_, execGetLogTelemetryController_held run held, rfl, rfl, ?_, State.reply_regs .., rfl⟩
    exact (rfl : _ = (u.reply i 0 cid (u.telemetryPage c)).klog.ring).trans (congrArg KlogPart.ring (State.reply_klog ..))

end Sys2Proof.Machine
end

section
/-! Proofs: rule changes, scrub, shadow repair and diagnostics of the Sieve (R108, R120, R121, R124, R125, R134). -/

namespace Sys2Proof.Machine

set_option Elab.async false

variable {s : State}

/-! ### Rule changes -/

theorem State.ruleReply_eq {pos code : Nat} : s.ruleReply pos code = s.emit (.reply Port.engine [pos, code]) := rfl

/-- A change that waits behind others, or that takes effect at its shift's end, changes the queue and the Trail alone. -/
theorem State.queueRule_waits {c : RuleChange} (waits : s.sieve.shifts ≠ [] ∨ c.op = .insert) :
    s.queueRule c = ({ s with sieve := { s.sieve with shifts := s.sieve.shifts ++ [c] } } : State).trailRec (.rule c) := by
  unfold State.queueRule
  dsimp only
  cases hs : s.sieve.shifts with
  | cons _ _ => exact if_neg (by simp)
  | nil =>
    have insert : c.op = .insert := waits.resolve_left (not_not_intro hs)
    simp [State.startShift, State.trailRec, insert]

/-- A removal at the head of the queue takes effect with its first move. -/
theorem State.queueRule_removal {pos : Nat} (empty : s.sieve.shifts = []) :
    s.queueRule { op := .remove, pos := pos } =
      (({ s with sieve := { s.sieve with shifts := [{ op := .remove, pos := pos }] } } : State).trailRec
        (.rule { op := .remove, pos := pos })).setRules (s.rules.eraseIdx pos) := by
  refine (if_pos (List.isEmpty_iff.2 empty)).trans ?_
  dsimp only
  rw [empty]
  rfl

section
variable {pos : Nat} {e : Ent}

theorem execSieveRuleInsert_refused {lo hi sc pr pl : Nat}
    (h : s.entryRefused { lo := lo, hi := hi, scope := sc, prio := pr, payload := pl, valid := true } true = true) :
    execSieveRuleInsert pos lo hi sc pr pl true false s = .next (s.emit (.reply Port.engine [pos, 1])) :=
  if_pos h

/-- An insertion whose fields are accepted, with room in the queue. -/
theorem execSieveRuleInsert_accepted {lo hi sc pr pl : Nat}
    (h : s.entryRefused { lo := lo, hi := hi, scope := sc, prio := pr, payload := pl, valid := true } true = false)
    (room : s.sieve.shifts.length < 32) :
    execSieveRuleInsert pos lo hi sc pr pl true false s =
      if s.ruleRoom ≤ s.rulesAfter then .next (s.emit (.reply Port.engine [pos, 1]))
      else .next (s.queueRule { op := .insert, pos := pos, access := true, ent :=
        { lo := lo, hi := hi, scope := sc, prio := pr, payload := pl, valid := true } }) :=
  (if_neg (by simp [h])).trans ((if_neg (Nat.not_le.2 room)).trans (if_neg Bool.false_ne_true))

theorem State.endShift_of_cons {c : RuleChange} {rest : List RuleChange} (h : s.sieve.shifts = c :: rest) :
    let v := if c.op = .insert then s.setRules (s.rules.insertIdx (min c.pos s.rules.length) c.ent) else s
    s.endShift = (({ v with sieve := { v.sieve with shifts := rest } } : State).emit (.reply Port.engine [c.pos, 0])).startShift
      (rest.length + 1) := by
  have applied : c.op = .insert → c.apply s.rules = s.rules.insertIdx (min c.pos s.rules.length) c.ent := by
    intro insert
    simp [RuleChange.apply, insert]
  unfold State.endShift
  rw [h]
  dsimp only
  rw [ite_congr rfl (fun insert => congrArg s.setRules (applied insert)) (fun _ => rfl)]
  rfl

end

theorem State.startShift_of_empty {n : Nat} (h : s.sieve.shifts = []) : s.startShift n = s := by
  cases n with
  | zero => rfl
  | succ n => rw [State.startShift, h]

/-! ### Diagnostics -/

theorem State.wf_setReg {k v : Nat} (h : Tab.wf none s.regs = true) : Tab.wf none (s.setReg k v).regs = true := Tab.wf_set h

/-- A capture from the cells: their check bits read as 0 (R134, Table 4.15). -/
theorem State.sieveCapture_cells {pos : Nat} {v : State}
    (held : ({ s with sieve := { s.sieve with diag := some (s.ent (pos % 65536)) } } : State) = v) :
    let w := (s.ent (pos % 65536)).word
    s.sieveCapture pos 0 = (((((((v.setReg Reg.SIEVE_DIAG_POS_POS (pos % 65536)).setReg
      Reg.SIEVE_DIAG_POS_SRC (0 % 2)).setReg Reg.SIEVE_DIAG_POS_READY 1).setReg Reg.SIEVE_DIAG_DATA0_ENTRY (bits w 0 32)).setReg
      Reg.SIEVE_DIAG_DATA1_ENTRY (bits w 32 32)).setReg Reg.SIEVE_DIAG_DATA2_ENTRY (bits w 64 32)).setReg
      Reg.SIEVE_DIAG_DATA3_ENTRY (bits w 96 32)).setReg Reg.SIEVE_DIAG_DATA4_ENTRY (bits w 128 17) := by
  subst held
  intro w
  have cells : w = (s.ent (pos % 65536)).word + 0 % 512 * 2 ^ 136 := by simp [w]
  rw [cells]
  rfl

theorem State.reg_sieveCapture {pos : Nat} (canonical : Tab.wf none s.regs = true) :
    let t := s.sieveCapture pos 0
    t.reg Reg.SIEVE_DIAG_POS_POS = pos % 65536 ∧ t.reg Reg.SIEVE_DIAG_POS_READY = 1 ∧
      t.reg Reg.SIEVE_DIAG_DATA0_ENTRY = (s.ent (pos % 65536)).word % 2 ^ 32 ∧
      t.reg Reg.SIEVE_DIAG_DATA4_ENTRY = (s.ent (pos % 65536)).word / 2 ^ 128 % 2 ^ 17 := by
  generalize held : ({ s with sieve := { s.sieve with diag := some (s.ent (pos % 65536)) } } : State) = v
  have base : Tab.wf none v.regs = true := held ▸ canonical
  rw [State.sieveCapture_cells held]
  refine ⟨?_, ?_, ?_, ?_⟩
  · simp (disch := decide) only [State.reg_setReg_ne]
    exact State.reg_setReg base
  · simp (disch := decide) only [State.reg_setReg_ne]
    exact State.reg_setReg (State.wf_setReg (State.wf_setReg base))
  · simp (disch := decide) only [State.reg_setReg_ne]
    refine (State.reg_setReg (State.wf_setReg (State.wf_setReg (State.wf_setReg base)))).trans ?_
    simp [bits]
  · exact State.reg_setReg (State.wf_setReg (State.wf_setReg (State.wf_setReg (State.wf_setReg (State.wf_setReg
      (State.wf_setReg (State.wf_setReg base)))))))

theorem State.sieveCapture_kept {pos : Nat} :
    (s.sieveCapture pos 0).sieve.ents = s.sieve.ents ∧ (s.sieveCapture pos 0).freeCtr = s.freeCtr ∧
      (s.sieveCapture pos 0).zone = s.zone := by
  rw [State.sieveCapture_cells rfl]
  simp only [State.setReg_sieve, State.setReg_freeCtr, State.setReg_zone, and_self]

theorem execSieveDiagCapture_on {pos src : Nat} (on : s.domainOff 85 = false) :
    execSieveDiagCapture pos src s = .next (s.sieveCapture pos src) := by
  have page : pageDomain (0x7040 / 4096) = 85 := by decide
  exact congrArg _ (if_neg (by rw [page, on]; decide))

/-- Settles O27: the queue of changes first, then the scrub, the repair and the capture. -/
theorem sieveChangeRows : Obligations.SieveChangeRows := by
  refine ⟨fun pos lo hi sc pr pl s => ?changes, fun pos s => ?upkeep⟩
  case changes =>
    intro e ins rem
    refine ⟨fun refused => execSieveRuleInsert_refused refused, fun accepted room => ⟨fun full => ?_, fun free => ?_⟩,
      fun room there => ⟨fun busy => ?_, fun empty => ?_⟩, fun full => if_pos full, fun room beyond => ?_, fun c rest h => ?_⟩
    · exact (execSieveRuleInsert_accepted accepted room).trans (if_pos full)
    · refine ⟨_, (execSieveRuleInsert_accepted accepted room).trans ((if_neg (Nat.not_le.2 free)).trans
        (congrArg _ (State.queueRule_waits (.inr rfl)))), rfl, rfl, rfl, rfl, rfl⟩
    · refine ⟨_, (if_neg (Nat.not_le.2 room)).trans ((if_neg (Nat.not_le.2 there)).trans
        (congrArg _ (State.queueRule_waits (.inl busy)))), rfl, rfl, rfl, rfl, rfl⟩
    · exact (if_neg (Nat.not_le.2 room)).trans ((if_neg (Nat.not_le.2 there)).trans
        (congrArg _ (State.queueRule_removal empty)))
    · exact (if_neg (Nat.not_le.2 room)).trans (if_pos beyond)
    · intro v w
      have shift : s.endShift = w.startShift (rest.length + 1) := State.endShift_of_cons h
      have queue : w.sieve.shifts = rest := congrArg (fun t : State => t.sieve.shifts) (State.emit_reply ..)
      exact ⟨congrArg _ shift, fun last => congrArg _ (shift.trans (State.startShift_of_empty (queue.trans last)))⟩
  case upkeep =>
    intro p q
    refine ⟨rfl, rfl, rfl, rfl, fun on canonical => ?_⟩
    obtain ⟨position, ready, first, last⟩ := State.reg_sieveCapture (s := s) (pos := pos) (State.tablesCanonical_iff.1 canonical).1
    exact ⟨_, execSieveDiagCapture_on on, position, ready, first, last, State.sieveCapture_kept⟩

end Sys2Proof.Machine
end

section
/-! Proofs: what the die scheduler starts (R142, R149 to R151, R154, R163). -/

namespace Sys2Proof.Machine

set_option Elab.async false

variable {s : State}

section
variable {k g : Nat} {o : FlashOp}

/-! ### The check of the block state table (R149 to R151) -/

/-- An operation that the table allows is issued at once, or after the transient refusal of a first check. -/
theorem State.checkAndIssue_allowed (allowed : s.refusalOf k o = 0) (first : o.again = false) :
    s.checkAndIssue k g o = (if g = 0 ∨ (if o.kind = .erase then 0 else (if o.kind.isRead = true then 2 else 0) + min g 2) = 0
      then s else s.refuse k (if o.kind = .erase then 0 else (if o.kind.isRead = true then 2 else 0) + min g 2) 0).issueOp k o := by
  unfold State.checkAndIssue
  dsimp only
  rw [if_pos allowed, if_neg (by simp [first])]

theorem State.checkAndIssue_read_again (refused : s.refusalOf k o ≠ 0) (read : o.kind.isRead = true) (again : o.again = true) :
    s.checkAndIssue k g o =
      ((s.dequeue k o).refuse k (s.refusalOf k o) 2 (decide (o.kind = .hostRead))).readRefused o := by
  unfold State.checkAndIssue State.refuseRead
  dsimp only
  rw [if_neg refused, if_pos read, if_pos again]

theorem State.checkAndIssue_erase (refused : s.refusalOf k o ≠ 0) (erase : o.kind = .erase) :
    s.checkAndIssue k g o = (s.dequeue k o).refuse k (s.refusalOf k o) 2 := by
  unfold State.checkAndIssue
  dsimp only
  rw [if_neg refused, if_neg (by simp [erase, OpKind.isRead]), if_pos erase]

theorem State.checkAndIssue_program (refused : s.refusalOf k o ≠ 0) (program : o.kind.isRead = false) (other : o.kind ≠ .erase) :
    s.checkAndIssue k g o = (s.refuse k (s.refusalOf k o) 2).programRefused k o := by
  unfold State.checkAndIssue
  dsimp only
  rw [if_neg refused, if_neg (by simp [program]), if_neg other]

/-! ### The row -/

section
variable (named : dieNameOk k = true)
include named

theorem execDieOperationIssue_idle (h : (s.nextOp k fun _ => true) = none) : execDieOperationIssue k g s = .next s := by
  unfold execDieOperationIssue
  dsimp only
  rw [if_neg (by simp [named]), h]

theorem execDieOperationIssue_absent (h : (s.nextOp k fun _ => true) = some o)
    (absent : (s.die k).retired = true ∨ (s.die k).present = false) :
    execDieOperationIssue k g s = .next (s.refuseAbsent k o) := by
  unfold execDieOperationIssue
  dsimp only
  rw [if_neg (by simp [named]), h]
  exact congrArg _ (if_pos (by simpa using absent))

theorem execDieOperationIssue_open (h : (s.nextOp k fun _ => true) = some o) (served : (s.die k).retired = false)
    (present : (s.die k).present = true) (may : s.gateClosed k = false ∨ o.kind.isRead = true) :
    execDieOperationIssue k g s = .next (s.checkAndIssue k g o) := by
  unfold execDieOperationIssue
  dsimp only
  rw [if_neg (by simp [named]), h]
  refine congrArg _ ((if_neg (by simp [served, present])).trans (if_neg ?_))
  rintro ⟨closed, program⟩
  obtain open_ | read := may
  · exact Bool.false_ne_true (open_.symm.trans closed)
  · simp [read] at program

theorem execDieOperationIssue_closed (h : (s.nextOp k fun _ => true) = some o) (served : (s.die k).retired = false)
    (present : (s.die k).present = true) (closed : s.gateClosed k = true) (program : o.kind.isRead = false)
    (none_ : ((s.countRefusal k 7).nextOp k fun x => x.kind.isRead) = none) :
    execDieOperationIssue k g s = .next (s.countRefusal k 7) := by
  unfold execDieOperationIssue
  dsimp only
  rw [if_neg (by simp [named]), h]
  refine congrArg _ ((if_neg (by simp [served, present])).trans ((if_pos (by simp [closed, program])).trans ?_))
  rw [none_]

end
end

/-- Settles O28: the name, the operation that may start, its die, the gate, the block state table. -/
theorem dieScheduler : Obligations.DieScheduler := by
  intro k g s
  refine ⟨fun unnamed => congrArg _ (if_pos (by simp [unnamed])), fun named => ⟨execDieOperationIssue_idle named, fun o h =>
    ⟨execDieOperationIssue_absent named h, fun served present => ⟨fun may allowed first => ?_, fun may refused => ?_,
      execDieOperationIssue_closed named h served present⟩⟩⟩⟩
  · refine ⟨?_, fun glitch other => ?_⟩
    · refine (execDieOperationIssue_open named h served present may).trans (congrArg _ ?_)
      rw [State.checkAndIssue_allowed allowed first, if_pos (Or.inl rfl)]
    · refine (execDieOperationIssue_open named h served present may).trans (congrArg _ ?_)
      rw [State.checkAndIssue_allowed allowed first, if_neg other, if_neg (by omega)]
  · have run : execDieOperationIssue k g s = .next (s.checkAndIssue k g o) :=
      execDieOperationIssue_open named h served present may
    exact ⟨fun read again => run.trans (congrArg _ (State.checkAndIssue_read_again refused read again)),
      fun erase => run.trans (congrArg _ (State.checkAndIssue_erase refused erase)),
      fun program other => run.trans (congrArg _ (State.checkAndIssue_program refused program other))⟩

end Sys2Proof.Machine
end

section
/-! Proofs: reads leave the die and are decoded (R138, R152, R154, R191, R213 to R215; Tables 5.6 and 7.3). -/

namespace Sys2Proof.Machine

set_option Elab.async false

variable {s : State}

/-! ### Data-out -/

theorem execNandReadComplete_idle {k : Nat} {r : ReadReturn} (h : (s.die k).short = none) :
    execNandReadComplete k r s = .next s := by
  unfold execNandReadComplete
  rw [h]

theorem execNandReadComplete_reading {k : Nat} {r : ReadReturn} {o : FlashOp} {b : State} (h : (s.die k).short = some o)
    (reading : (s.die k).st = .reading) (asked : s.askBus k true (s.moves k o) = b) :
    execNandReadComplete k r s =
      .next (if (b.chan (channelOf k)).has k = true then b.readReturned k o r else b) := by
  subst asked
  unfold execNandReadComplete
  rw [h]
  exact if_neg (not_not_intro reading)

theorem State.guardCheck_matched {k : Nat} {o : FlashOp} : s.guardCheck k o 0 = s := if_pos (.inl rfl)

/-- A host read within the threshold, decoded hard, its guards right: no warning is raised (R152, R191). -/
theorem State.readReturned_clean {k tag gen : Nat} {idx : List Nat} {o : FlashOp} {r : ReadReturn}
    (owner : o.owner = .read tag gen idx) (within : r.cbc ≤ s.reg Reg.FBE_CBC_WARN_THRESH) (small : r.cbc ≤ 1023)
    (guards : r.guardMisses = 0) (hard : o.stage ≤ 1) :
    s.readReturned k o r = State.readArrived (State.emit ((s.leaveBus k).modDie k fun d =>
        { d.goes s.now d.afterShort with short := none }) (.reply Port.engine [k, r.cbc, o.path r.retry, 0])) tag gen idx false := by
  have count : min r.cbc 1023 = r.cbc := min_eq_left small
  have quiet : (decide (s.reg Reg.FBE_CBC_WARN_THRESH < r.cbc) || decide (1 < o.stage)) = false := by simp [within, hard]
  unfold State.readReturned
  dsimp only
  rw [count, quiet, guards, owner]
  simp only [Bool.false_eq_true, if_false, false_and, State.guardCheck_matched]
  rw [if_neg (by omega)]
  split <;> rfl

/-! ### The decode ladder (Table 7.3) -/

section
variable {k n : Nat} {ok : Bool} {o : FlashOp}

/-- The die's read at the next step of the ladder. -/
def State.atStage (s : State) (k : Nat) (o : FlashOp) (n : Nat) : State :=
  s.modDie k fun d => { d with short := some { o with stage := n } }

theorem execDecodeLadderStep_other (h : (s.die k).short = some o) (other : n ≠ o.stage + 1) :
    execDecodeLadderStep k n ok s = .next s := by
  unfold execDecodeLadderStep
  dsimp only
  rw [h]
  exact if_pos (.inr (.inl other))

section
variable (h : (s.die k).short = some o) (reading : (s.die k).st = .reading)
include h reading

theorem execDecodeLadderStep_retry (stage : o.stage = 1) :
    execDecodeLadderStep k 2 ok s = .next (if o.retrySteps = 0 then s.atStage k o 2
      else ((s.atStage k o 2).bump Reg.FBE_LDPC_RETRY_COUNT).emit (.reply Port.engine (k :: s.retrySets o))) := by
  unfold execDecodeLadderStep
  dsimp only
  rw [h]
  exact if_neg (by simp [reading, stage])

theorem execDecodeLadderStep_soft (stage : o.stage = 2) :
    execDecodeLadderStep k 3 ok s = .next ((s.atStage k o 3).bump Reg.FBE_LDPC_SOFT_COUNT) := by
  unfold execDecodeLadderStep
  dsimp only
  rw [h]
  exact if_neg (by simp [reading, stage])

theorem execDecodeLadderStep_second (stage : o.stage = 3) :
    let r : RowRef := { group := (s.die k).group, row := o.block }
    let addr := blockAddress k o.plane (s.physBlock k o.plane o.block)
    let t := ((s.atStage k o 4).bump Reg.FBE_LDPC_CONFIRMED_COUNT).report (0x88 + bayOf k) 0x27 addr 1
    execDecodeLadderStep k 4 ok s = .next (if ok = true then
        ((s.atStage k o 4).bump Reg.FBE_LDPC_TRANSIENT_COUNT).reportTransient (0x88 + bayOf k) 0x26 addr
      else (t.setBlock k o.plane (t.physBlock k o.plane o.block) fun b => { b with suspect := true }).queueRow r .early) := by
  unfold execDecodeLadderStep
  dsimp only
  rw [h]
  exact if_neg (by simp [reading, stage])

theorem execDecodeLadderStep_rebuild (stage : o.stage = 4) :
    execDecodeLadderStep k 5 ok s = .next (
      if ok = true ∧ s.rebuildable { group := (s.die k).group, row := o.block } o.wordline k = true then
        (s.atStage k o 5).bump Reg.FBE_LDPC_REBUILT_COUNT else s.atStage k o 6) := by
  unfold execDecodeLadderStep
  dsimp only
  rw [h]
  refine (if_neg (by simp [reading, stage])).trans ?_
  generalize s.rebuildable { group := (s.die k).group, row := o.block } o.wordline k = b
  cases ok <;> cases b <;> rfl

end
end

/-- Settles O29: the data-out of a read, the aging of an operation, the steps of the ladder. -/
theorem readRows : Obligations.ReadRows := by
  refine ⟨⟨?out, fun k r s h => execNandReadComplete_idle h, fun k idx s => ⟨rfl, rfl⟩⟩, ?ladder⟩
  case out =>
    intro k tag gen r idx o s h reading b
    have run := execNandReadComplete_reading (r := r) h reading rfl
    refine ⟨fun waits => run.trans (congrArg _ (if_neg (by simp [b, waits]))), fun has owner within small guards hard => ?_⟩
    have threshold : r.cbc ≤ b.reg Reg.FBE_CBC_WARN_THRESH := within
    exact run.trans (congrArg _ ((if_pos has).trans (State.readReturned_clean owner threshold small guards hard)))
  case ladder =>
    intro k ok o s h reading at_ r b addr
    refine ⟨fun stage steps => ?_, fun stage none_ => ?_, fun stage => execDecodeLadderStep_soft h reading stage,
      fun stage => ?_, fun stage => ?_, fun stage => execDecodeLadderStep_rebuild h reading stage,
      fun n other => execDecodeLadderStep_other h other⟩
    · exact (execDecodeLadderStep_retry h reading stage).trans (congrArg _ (if_neg steps))
    · exact (execDecodeLadderStep_retry h reading stage).trans (congrArg _ (if_pos none_))
    · exact (execDecodeLadderStep_second h reading stage).trans (congrArg _ (if_pos rfl))
    · exact ⟨_, (execDecodeLadderStep_second h reading stage).trans (congrArg _ (if_neg Bool.false_ne_true)), rfl⟩

end Sys2Proof.Machine
end

section
/-! Proofs: program passes and erases (R138, R143 to R146, R155, R171, R174). -/

namespace Sys2Proof.Machine

set_option Elab.async false

variable {s : State}

section
variable {k u : Nat} {r : RowRef} {o : FlashOp}

/-! ### QLC passes -/

theorem execQlcPassComplete_waits {ok : Bool} (long : (s.die k).long = some o)
    (waits : (s.chan (channelOf k)).waitsFor k = true) : execQlcPassComplete k ok s = .next s := by
  unfold execQlcPassComplete
  dsimp only
  rw [long]
  exact if_pos (.inr waits)

theorem execQlcPassComplete_run {ok : Bool} (long : (s.die k).long = some o) (pass : (s.die k).st = .pass)
    (runs : (s.chan (channelOf k)).waitsFor k = false) :
    execQlcPassComplete k ok s = .next ((s.passEnded k ok o).gateReport (bayOf k)) := by
  unfold execQlcPassComplete
  dsimp only
  rw [long]
  exact if_neg (by simp [pass, runs])

/-- The end of a pass of a row's unit: a failure ends the unit, three passes end in a gap, the fourth ends it. -/
theorem State.passEnded_row {ok : Bool} (owner : o.owner = .row r u) :
    let b := s.leaveBus k
    let idle := b.modDie k fun d => { d.goes b.now .idle with long := none }
    s.passEnded k ok o = if ok = false then idle.programFailed k r o
      else if o.passes < 3 then b.modDie k fun d => { d.goes b.now .gap with
        long := some { o with passes := o.passes + 1 }, gapReads := 0, gapLimit := s.reg Reg.FBE_CFG_GAP_READS }
      else (idle.countUnits k (s.die k).geo.unitBlocks).unitDone r u := by
  unfold State.passEnded
  dsimp only
  rw [owner]
  exact if_congr (by simp) rfl (if_congr (by omega) rfl rfl)

theorem execQlcPassComplete_row {ok : Bool} {t : State} (long : (s.die k).long = some o) (pass : (s.die k).st = .pass)
    (runs : (s.chan (channelOf k)).waitsFor k = false) (ended : s.passEnded k ok o = t) :
    execQlcPassComplete k ok s = .next (t.gateReport (bayOf k)) := by
  rw [execQlcPassComplete_run long pass runs, ended]

theorem execQlcNextPassStart_open (gap : (s.die k).st = .gap) (gate : s.gateClosed k = false) (window : s.inWindow k = false)
    (reads : (∀ x ∈ (s.die k).shortQ, x.kind.isRead = false) ∨ (s.die k).gapLimit ≤ (s.die k).gapReads ∨ s.trail.dumpMode = true) :
    execQlcNextPassStart k s = .next (s.modDie k fun d => d.goes s.now .pass) :=
  if_pos ⟨gap, by simp [gate], by simp [window], by simpa using reads⟩

theorem execQlcNextPassStart_closed (closed : s.gateClosed k = true ∨ s.inWindow k = true) :
    execQlcNextPassStart k s = .next s := by
  refine if_neg ?_
  rintro ⟨-, gate, window, -⟩
  obtain gated | windowed := closed
  · simp [gated] at gate
  · simp [windowed] at window

/-! ### SLC programs -/

theorem execSlcProgramComplete_waits {ok : Bool} (short : (s.die k).short = some o)
    (waits : (s.chan (channelOf k)).waitsFor k = true) : execSlcProgramComplete k ok s = .next s := by
  unfold execSlcProgramComplete
  dsimp only
  rw [short]
  exact if_pos (.inr waits)

/-- A parity program that has passed covers its wordline (R174). -/
theorem State.slcEnded_parity {q : State} (parity : o.kind = .parityProgram) (owner : o.owner = .row r u)
    (ended : ((s.leaveBus k).modDie k fun d => { d.goes s.now d.afterShort with short := none }) = q) :
    let n := (q.die k).geo.unitBlocks
    let t := (q.takeSeq n).2
    s.slcEnded k true o = (((t.countUnits k n).setBlocks k (t.opBlocks k o) fun x =>
      if (t.die k).geo.wordlines ≤ x.next ∧ x.st = .open_ then { x with st := .full } else x).wordlineCovered r u).verifyCheck r := by
  unfold State.slcEnded
  dsimp only at ended ⊢
  rw [ended, parity, owner, if_neg (by simp), if_pos rfl, if_neg (by simp)]

theorem execSlcProgramComplete_run {ok : Bool} {t : State} (short : (s.die k).short = some o)
    (programs : (s.die k).st = .slcProgramming) (runs : (s.chan (channelOf k)).waitsFor k = false)
    (ended : s.slcEnded k ok o = t) : execSlcProgramComplete k ok s = .next (t.gateReport (bayOf k)) := by
  subst ended
  unfold execSlcProgramComplete
  dsimp only
  rw [short]
  exact if_neg (by simp [programs, runs])

/-! ### Erases -/

theorem Block.afterErase_of_row {b : Block} {w : Nat} (served : b.st ≠ .retired) (row : b.role ≠ 0) (qlc : b.slc = false)
    (own : b.subst = false) : b.afterErase w = { b with st := .erased, next := 0, qlcErases := b.qlcErases + 1 } := by
  unfold Block.afterErase
  rw [if_neg served, if_neg row, if_neg (by simp [qlc]), if_neg (by simp [own])]
  cases b
  exact own ▸ rfl

section
variable (long : (s.die k).long = some o)
include long

theorem execEraseComplete_passed (erasing : (s.die k).st = .erasing) (row : o.phys = []) :
    let t := s.modDie k fun d => { d.goes s.now .idle with long := none, suspCount := 0 }
    execEraseComplete k true s = .next (State.gateReport (State.rowErased (t.setBlocks k (t.opBlocks k o) fun b =>
      b.afterErase (t.die k).geo.wordlines) { group := (s.die k).group, row := o.block }) (bayOf k)) := by
  unfold execEraseComplete
  dsimp only
  rw [long]
  refine (if_neg (not_not_intro erasing)).trans ?_
  rw [if_pos rfl, if_pos (by simp [row])]

theorem execEraseSuspendComplete_suspending (suspending : (s.die k).st = .suspending) :
    let t := s.modDie k fun d => { d.goes s.now .suspended with
      holdPassed := false, suspCount := if d.forced then d.suspCount else d.suspCount + 1 }
    execEraseSuspendComplete k s = .next (State.gateReport (t.setBlocks k (t.opBlocks k o) fun b =>
      if b.st = .erasing then { b with st := .eraseSuspended } else b) (bayOf k)) := by
  unfold execEraseSuspendComplete
  dsimp only
  rw [long]
  exact if_neg (not_not_intro suspending)

theorem execEraseResume_resuming (resuming : (s.die k).st = .resuming) :
    let t := s.modDie k fun d => d.goes s.now .erasing
    execEraseResume k false s = .next (t.setBlocks k (t.opBlocks k o) fun b =>
      if b.st = .eraseSuspended then { b with st := .erasing } else b) := by
  unfold execEraseResume
  dsimp only
  rw [if_neg Bool.false_ne_true, long]
  exact if_pos resuming

/-- A suspended erase goes on when no short operation waits, or its hold has passed, and nothing keeps it suspended. -/
theorem execEraseResume_suspended (suspended : (s.die k).st = .suspended) :
    execEraseResume k false s =
      if ((s.die k).shortQ.isEmpty = true ∨ (s.die k).holdPassed = true) ∧ (!s.mustSuspend k) = true then
        .next (s.modDie k fun d => { d.goes s.now .resuming with holdPassed := false, forced := false })
      else .next s := by
  unfold execEraseResume
  dsimp only
  rw [if_neg Bool.false_ne_true, long]
  dsimp only
  rw [if_neg (by simp [suspended])]
  exact if_congr (by simp [suspended]) rfl rfl

end

theorem execEraseSuspendRequest_forced (erasing : (s.die k).st = .erasing) (must : s.mustSuspend k = true) :
    execEraseSuspendRequest k s = .next (s.modDie k fun d => { d.goes s.now .suspending with forced := true }) :=
  (if_neg (not_not_intro erasing)).trans (if_pos must)

theorem execEraseSuspendRequest_limited (erasing : (s.die k).st = .erasing) (free : s.mustSuspend k = false)
    (waits : (s.die k).shortQ ≠ []) :
    execEraseSuspendRequest k s = .next (if (s.die k).suspCount < s.reg Reg.FBE_CFG_ERS_SUSP_MAX then
      s.modDie k fun d => { d.goes s.now .suspending with forced := false } else s) := by
  refine (if_neg (not_not_intro erasing)).trans ((if_neg (by simp [free])).trans ?_)
  rw [apply_ite Host.Outcome.next]
  exact if_congr (by simp [waits]) rfl rfl

end

/-- Settles O30: the passes and programs of a die, then its erases. -/
theorem programEraseRows : Obligations.ProgramEraseRows := by
  refine ⟨fun k u r o s => ?programs, fun b w served row qlc own => Block.afterErase_of_row served row qlc own, fun k o s long => ?erases⟩
  case programs =>
    intro b
    refine ⟨fun long pass => ⟨fun waits ok => execQlcPassComplete_waits long waits, fun runs owner => ?_⟩,
      execQlcNextPassStart_open, fun gap closed => execQlcNextPassStart_closed closed,
      fun short programs => ⟨fun waits ok => execSlcProgramComplete_waits short waits, fun runs parity owner => ?_⟩⟩
    · intro idle
      refine ⟨?_, fun more => ?_, fun last => ?_⟩
      · exact execQlcPassComplete_row long pass runs ((State.passEnded_row owner).trans (if_pos rfl))
      · exact execQlcPassComplete_row long pass runs
          ((State.passEnded_row owner).trans ((if_neg (by simp)).trans (if_pos more)))
      · exact execQlcPassComplete_row long pass runs
          ((State.passEnded_row owner).trans ((if_neg (by simp)).trans (if_neg (Nat.not_lt.2 last))))
    · intro q
      have left_ : ((s.leaveBus k).modDie k fun d => { d.goes s.now d.afterShort with short := none }) = q := rfl
      clear_value q
      exact execSlcProgramComplete_run short programs runs (State.slcEnded_parity parity owner left_)
  case erases =>
    refine ⟨fun erasing => ⟨execEraseComplete_passed long erasing, execEraseSuspendRequest_forced erasing,
      execEraseSuspendRequest_limited erasing⟩, execEraseSuspendComplete_suspending long, fun suspended free empty => ?_,
      fun suspended waits hold => ?_, execEraseResume_resuming long⟩
    · exact (execEraseResume_suspended long suspended).trans (if_pos ⟨.inl (by simp [empty]), by simp [free]⟩)
    · exact (execEraseResume_suspended long suspended).trans (if_neg (by simp [waits, hold]))

end Sys2Proof.Machine
end

section
/-! Proofs: channels, windows and the Pulse Gate (R140, R160, R161, R163, R164, R250). -/

namespace Sys2Proof.Machine

set_option Elab.async false

variable {s : State}

/-! ### Configuration fields that come into force -/

/-- A staged field that comes into force changes the configuration alone. -/
theorem State.takeCfg_eq {k : CfgKind} {p : Nat → Bool} :
    s.takeCfg k p = { s with cfg := (s.takeCfg k p).cfg, cfgStaged := (s.takeCfg k p).cfgStaged } := by
  unfold State.takeCfg
  dsimp only
  refine List.foldlRecOn (motive := fun t : State => t = { s with cfg := t.cfg, cfgStaged := t.cfgStaged }) _ _ rfl
    fun t h e _ => ?_
  rw [h]
  rfl

theorem State.takeCfg_frame {k : CfgKind} {p : Nat → Bool} {α : Type} (g : State → α)
    (blind : ∀ (t : State) c d, g { t with cfg := c, cfgStaged := d } = g t) : g (s.takeCfg k p) = g s :=
  (congrArg g State.takeCfg_eq).trans (blind ..)

/-! ### Channels (R140) -/

theorem execChannelRetrain_of_free {c t : Nat} {ok : Bool} {q : State} (rate : (s.chan c).rate = 4800)
    (free : ∀ d ∈ s.flash.dies, d.1 / 4 % 512 = c * 8 + t → d.2.st.atNand = false)
    (counted : ({ s with flash := { s.flash with chans := s.flash.chans.upd {} c fun c => { c with retrains := satAdd 16 c.retrains 1 } } } : State) = q) :
    execChannelRetrain c t ok s = if ok = true then .next q
      else .next (State.report { q with flash := { q.flash with
        chans := q.flash.chans.upd {} c fun c => { c with rate := 3600, fallback := true } } } c 0x22 c 1) := by
  subst counted
  refine if_neg ?_
  simp only [rate, ne_eq, not_true_eq_false, false_or, Bool.not_eq_true, List.any_eq_false, Bool.and_eq_true, decide_eq_true_eq,
    not_and]
  exact fun d mem target => by simp [free d mem target]

/-! ### Windows (R160, R161) -/

theorem execDeterministicWindowEntered_unasked {set : Nat} (h : (s.dieSet set).plm.entering = none) :
    execDeterministicWindowEntered set s = .next s := by
  unfold execDeterministicWindowEntered
  rw [h]

/-- A list whose every element a step leaves the state as it is for. -/
theorem State.each_fixed {α : Type} {l : List α} {f : State → α → State} (h : ∀ x ∈ l, f s x = s) : s.each l f = s :=
  List.foldlRecOn (motive := fun t => t = s) l f rfl fun t e x mem => by rw [e, h x mem]

theorem execDeterministicWindowEntered_of_idle {set i cid : Nat} (asked : (s.dieSet set).plm.entering = some (i, cid))
    (idle : ∀ k ∈ s.diesOf set, (s.die k).st = .idle ∧ (s.die k).long = none) :
    execDeterministicWindowEntered set s = .next (State.adminCqe
      ((s.takeCfg .dwindow fun idx => idx = set || idx = 0).modDieSet set fun x => { x with plm := { x.plm with
        deterministic := true, entering := none, winSeq := (s.takeCfg .dwindow fun idx => idx = set || idx = 0).intake.seqNext
        allowance := (s.takeCfg .dwindow fun idx => idx = set || idx = 0).writeAllow set * 256 } }) i cid Status.success 0) := by
  unfold execDeterministicWindowEntered
  rw [asked]
  dsimp only
  rw [if_neg ?free, State.each_fixed ?kept]
  case free =>
    simp only [List.any_eq_true, not_exists, not_and]
    rintro k mem
    obtain ⟨st, long⟩ := idle k mem
    simp [st, long]
  case kept =>
    intro k mem
    rw [(idle k mem).2]

/-! ### The Pulse Gate (R163, R164) -/

theorem State.gateReport_kept {bay : Nat} :
    (s.gateReport bay).flash.closed = s.flash.closed ∧ (s.gateReport bay).zone = s.zone ∧ (s.gateReport bay).tenant = s.tenant := by
  unfold State.gateReport
  split
  · exact ⟨rfl, rfl, rfl⟩
  · split
    · exact ⟨rfl, rfl, rfl⟩
    · rw [State.report_flash _ _ _ _ (by decide), State.report_zone _ _ _ _ (by decide), State.report_tenant _ _ _ _ (by decide)]
      exact ⟨rfl, rfl, rfl⟩

theorem State.lifeBreak_kept {n : Nat} :
    (s.lifeBreak n).flash.closed = s.flash.closed ∧ (s.lifeBreak n).zone = s.zone ∧ (s.lifeBreak n).tenant = s.tenant := by
  unfold State.lifeBreak
  split <;> exact ⟨rfl, rfl, rfl⟩

theorem execBrownOutDetect_of_armed {bay rail : Nat} (known : bay < 8) (open_ : bay ∉ s.flash.closed) (armed : s.armedRails rail ≠ 0) :
    ∃ t, execBrownOutDetect bay rail s = .next t ∧ t.flash.closed = s.flash.closed ++ [bay] ∧ t.zone = s.zone ∧
      t.tenant = s.tenant := by
  refine ⟨_, if_neg (by simp [known, open_, armed]), ?_⟩
  exact ⟨State.lifeBreak_kept.1.trans State.gateReport_kept.1, State.lifeBreak_kept.2.1.trans State.gateReport_kept.2.1,
    State.lifeBreak_kept.2.2.trans State.gateReport_kept.2.2⟩

/-- Settles O31: each row by its guard. -/
theorem channelsAndGates : Obligations.ChannelsAndGates := by
  refine ⟨fun c t s rate free => ?channels, fun set s => ⟨execDeterministicWindowEntered_unasked, rfl, fun i cid asked idle => ?window⟩,
    fun bay rail s => ⟨execBrownOutDetect_of_armed, fun closed => ⟨if_pos (.inr (.inl (by simpa using closed))), ?reopen⟩,
      fun disarmed => if_pos (.inr (.inr disarmed)), fun open_ => if_pos (by simpa using open_)⟩⟩
  case channels =>
    intro q
    have run := fun ok => execChannelRetrain_of_free (ok := ok) (q := q) rate free rfl
    exact ⟨(run true).trans (if_pos rfl), (run false).trans (if_neg Bool.false_ne_true)⟩
  case window =>
    have seq : (s.takeCfg .dwindow fun idx => idx = set || idx = 0).intake.seqNext = s.intake.seqNext :=
      State.takeCfg_frame (fun t => t.intake.seqNext) fun _ _ _ => rfl
    have entered := State.dieSet_modDieSet_self (s := s.takeCfg .dwindow fun idx => idx = set || idx = 0) (i := set)
      (f := fun x => { x with plm := { x.plm with
        deterministic := true, entering := none, winSeq := (s.takeCfg .dwindow fun idx => idx = set || idx = 0).intake.seqNext
        allowance := (s.takeCfg .dwindow fun idx => idx = set || idx = 0).writeAllow set * 256 } })
      fun e => Bool.noConfusion (congrArg (fun x : DieSet => x.plm.deterministic) e)
    refine ⟨_, execDeterministicWindowEntered_of_idle asked idle, ?_, ?_, ?_, ?_, ?_⟩
    · exact congrArg (fun x : DieSet => x.plm.deterministic) entered
    · exact congrArg (fun x : DieSet => x.plm.entering) entered
    · exact (congrArg (fun x : DieSet => x.plm.winSeq) entered).trans seq
    · exact State.takeCfg_frame (fun t => t.flash) fun _ _ _ => rfl
    · exact State.takeCfg_frame (fun t => t.tenant) fun _ _ _ => rfl
  case reopen => exact ⟨_, if_neg (by simpa using closed), rfl, rfl, rfl, rfl⟩

end Sys2Proof.Machine
end

section
/-! Proofs: verify reads, the release of parity, a die's failure (R178 to R181, R206; Table 6.5). -/

namespace Sys2Proof.Machine

set_option Elab.async false

variable {s : State}

theorem State.verifyPasses_iff {x : CodewordRead} : s.verifyPasses x = true ↔
    x.path = 0 ∧ x.cbc ≤ s.cfgOf Cfg.MEDIA_VFY_CBC ∧ x.tagOk = true ∧ x.trailerOk = true ∧ x.guardOk = true := by
  simp [State.verifyPasses, and_assoc]

/-! ### The jobs that a row is a target of, and its kept parity, are the die sets' -/

section
variable {r : RowRef} {t : State} (same : t.zone = s.zone)
include same

theorem State.refireTo_of_zone : t.refireTo r = s.refireTo r := by
  unfold State.refireTo
  rw [same]

theorem State.relocTo_of_zone : t.relocTo r = s.relocTo r := by
  unfold State.relocTo
  rw [same]

theorem State.isKept_of_none (none_ : (s.zone.dieSets.all fun d => d.2.keptRows.isEmpty) = true) : t.isKept r = false := by
  have at_ : t.keptAt r = none := by
    unfold State.keptAt
    rw [same, List.findSome?_eq_none_iff]
    intro d mem
    rw [List.isEmpty_iff.1 (List.all_eq_true.1 none_ d mem)]
    rfl
  rw [State.isKept, at_]
  rfl

end

section
variable {g w k p : Nat} {res : VerifyReads}

/-- A failed verify of a row that no job and no kept parity needs (R179). -/
theorem State.verifyFailed_plain {r : RowRef} {u : State}
    (reported : s.report 0x200 0x28 (blockAddress k p (s.physBlock k p r.row)) 1 = u)
    (refire : s.refireTo r = none) (reloc : s.relocTo r = none)
    (none_ : (s.zone.dieSets.all fun d => d.2.keptRows.isEmpty) = true) :
    s.verifyFailed r k p = State.queueRow (State.repool ((u.setBlock k p (s.physBlock k p r.row) fun x =>
      { x with suspect := true, retireDue := x.suspect }).modRow r fun y => { y with suspect := true, verifying := false }) r)
        r .verify := by
  subst reported
  unfold State.verifyFailed
  dsimp only
  generalize marked : (((s.report 0x200 0x28 (blockAddress k p (s.physBlock k p r.row)) 1).setBlock k p (s.physBlock k p r.row) fun x =>
      { x with suspect := true, retireDue := x.suspect }).modRow r fun y => { y with suspect := true, verifying := false }) = v
  have zone : v.zone = s.zone := marked ▸ State.report_zone _ _ _ _ (by decide)
  rw [State.refireTo_of_zone zone, State.relocTo_of_zone zone, refire, reloc, State.isKept_of_none zone none_, if_neg (by simp),
    if_neg (by simp)]

/-- The result of a row's reads, once they are all in (R178 to R180). -/
theorem execVerifyComplete_of_read {q : State} (waits : { group := g, row := w } ∈ s.flash.verifyQ)
    (read : s.scanning { group := g, row := w } = false)
    (taken : ({ s with flash := { s.flash with verifyQ := s.flash.verifyQ.filter (· ≠ { group := g, row := w }) } } : State) = q) :
    execVerifyComplete g w res k p s = .next (if s.verifyPasses res.first = true then q.verifyPassed { group := g, row := w }
      else if s.verifyPasses res.second = true then
        (q.reportTransient 0x200 0x28 (blockAddress k p (s.physBlock k p w))).verifyPassed { group := g, row := w }
      else q.verifyFailed { group := g, row := w } k p) := by
  subst taken
  exact if_neg (by simp [waits, read])

theorem execBlanketRelease_verified (verified : (s.rowRec { group := g, row := w }).verified = true)
    (pool : (s.rowRec { group := g, row := w }).pool ≠ []) :
    execBlanketRelease g w s = .next (if (s.dieSet (s.ns (s.rowRec { group := g, row := w }).nsid).dieSet).kept = true ∧
        (!(s.rowRec { group := g, row := w }).parity.isEmpty) = true then
      s.startKeep (s.ns (s.rowRec { group := g, row := w }).nsid).dieSet { group := g, row := w }
      else (s.releaseParity { group := g, row := w }).driveWaiting) :=
  congrArg _ (if_neg (by simp [verified, pool]))

/-- The failure of a die of no stripe group (R206). -/
theorem State.dieFails_single (served : (s.die k).retired = false) (present : (s.die k).present = true)
    (single : (s.die k).inGroup = false) :
    s.dieFails k = ((((s.modDie k fun d => { d with retired := true }).bump Reg.FBE_MM_RETIRED_DIES).report
      0x200 0x23 k 2).replacePool k).returnOps k := by
  unfold State.dieFails
  dsimp only
  rw [if_neg (by simp [served, present]), if_pos (by simp [single])]

end

/-- Settles O32: the codeword, the row's result, the parity's release, the die. -/
theorem verifyAndRelease : Obligations.VerifyAndRelease := by
  intro g w k p res s r b
  refine ⟨fun x => State.verifyPasses_iff, fun absent => if_pos (Or.inl (by simpa using absent)), fun out => if_pos (Or.inr out),
    fun waits read => ?complete, ⟨fun held => congrArg _ (if_pos ?_), fun verified pool => ⟨fun plain => ?_, fun kept parity => ?_⟩⟩,
    fun retired => congrArg _ (if_pos (Or.inl retired)), fun served present single => congrArg _ (State.dieFails_single served present single)⟩
  case complete =>
    intro q
    have taken : ({ s with flash := { s.flash with verifyQ := s.flash.verifyQ.filter (· ≠ r) } } : State) = q := rfl
    have zone : q.zone = s.zone := rfl
    have phys : q.physBlock k p w = b := rfl
    clear_value q
    have run := execVerifyComplete_of_read (res := res) (k := k) (p := p) waits read taken
    refine ⟨fun first => run.trans (congrArg _ (if_pos first)), fun first second => run.trans (congrArg _ ?_),
      fun first second => run.trans (congrArg _ ?_), fun first second refire reloc none_ => ⟨_, _, ?_, rfl, rfl⟩⟩
    · rw [if_neg (by simp [first]), if_pos second]
    · rw [if_neg (by simp [first]), if_neg (by simp [second])]
    · refine run.trans (congrArg _ ?_)
      rw [if_neg (by simp [first]), if_neg (by simp [second])]
      have failed := State.verifyFailed_plain (s := q) (k := k) (p := p) (r := r) rfl ((State.refireTo_of_zone zone).trans refire)
        ((State.relocTo_of_zone zone).trans reloc) (by rw [zone]; exact none_)
      rw [phys] at failed
      exact failed
  · simpa [List.isEmpty_iff] using held
  · exact (execBlanketRelease_verified verified pool).trans (congrArg _ (if_neg fun h => Bool.false_ne_true (plain.symm.trans h.1)))
  · exact (execBlanketRelease_verified verified pool).trans (congrArg _ (if_pos ⟨kept, by simpa using parity⟩))

end Sys2Proof.Machine
end

section
/-! Proofs: the Firing Index (R187 to R189, R191). -/

namespace Sys2Proof

/-- What a key reads as once every listed value has been mapped to one that is still listed. -/
theorem Tab.get_mapVals {α : Type} [DecidableEq α] {d : α} {f : Nat → α → α} {t : Tab α} {k : Nat} (listed : f k (t.get d k) ≠ d)
    (unlisted : f k d = d) : (t.mapVals d f).get d k = f k (t.get d k) := by
  induction t with
  | nil => exact absurd unlisted listed
  | cons e t ih =>
    obtain ⟨j, v⟩ := e
    rw [Tab.mapVals]
    by_cases same : k = j
    · subst same
      have here : Tab.get d ((k, v) :: t) k = v := if_pos rfl
      rw [here] at listed ⊢
      rw [Tab.cons, if_neg listed]
      exact if_pos rfl
    · have there : Tab.get d ((j, v) :: t) k = Tab.get d t k := if_neg same
      rw [there] at listed ⊢
      rw [← ih listed, Tab.cons]
      split
      · rfl
      · exact if_neg same

end Sys2Proof

namespace Sys2Proof.Machine

set_option Elab.async false

variable {s : State}

/-! ### Summaries (R187, R188) -/

theorem Group.ne_default_of_formed {x : Group} (h : x.formed = true) : x ≠ {} := by
  rintro rfl
  exact Bool.false_ne_true h

/-- A formed group after a change of every group that keeps it formed and leaves an unlisted one unlisted. -/
theorem State.group_of_mapVals {t : State} {f : Nat → Group → Group} {g : Nat} (mapped : t.zone.groups = s.zone.groups.mapVals {} f)
    (kept : (f g (s.group g)).formed = true) (unlisted : f g {} = {}) : t.group g = f g (s.group g) := by
  rw [State.group, mapped]
  exact Tab.get_mapVals (Group.ne_default_of_formed kept) unlisted

/-- The temperature a summary gives a formed group: the named value, else that of its dies, else its last one. -/
def State.summaryTemp (s : State) (temps : List (Nat × Nat)) (g : Nat) (x : Group) : Nat :=
  let means := (x.dies.filter s.dieServes).filterMap fun d => (s.die d).mean
  match temps.find? fun e => decide (e.1 = g) with
  | some e => min e.2 330
  | none => if means.isEmpty then x.temp else min 330 (means.foldl max 0)

/-- A group after a summary. -/
def State.summarized (s : State) (temps : List (Nat × Nat)) (g : Nat) (x : Group) : Group :=
  if !x.formed then x
  else { x with temp := s.summaryTemp temps g x, fi := wrapAdd 64 x.fi (af256 (s.cfgOf Cfg.MEDIA_FI_EA) (s.summaryTemp temps g x)) }

theorem State.summaryTemp_of_named {temps : List (Nat × Nat)} {g : Nat} {x : Group} {e : Nat × Nat}
    (named : (temps.find? fun e => decide (e.1 = g)) = some e) : s.summaryTemp temps g x = min e.2 330 := by
  unfold State.summaryTemp
  rw [named]

theorem State.summaryTemp_of_unknown {temps : List (Nat × Nat)} {g : Nat} {x : Group}
    (unnamed : (temps.find? fun e => decide (e.1 = g)) = none) (unknown : (x.dies.all fun k => (s.die k).mean.isNone) = true) :
    s.summaryTemp temps g x = x.temp := by
  have means : ((x.dies.filter s.dieServes).filterMap fun d => (s.die d).mean) = [] :=
    List.filterMap_eq_nil_iff.2 fun k mem =>
      Option.isNone_iff_eq_none.1 (List.all_eq_true.1 unknown k (List.mem_filter.1 mem).1)
  unfold State.summaryTemp
  dsimp only
  rw [unnamed, means]
  rfl

/-- The groups after a summary, and the count of silence at 0. -/
def State.withSummary (c : State) (temps : List (Nat × Nat)) : State :=
  { c with flash := { c.flash with fiSilent := 0 }, zone := { c.zone with groups := c.zone.groups.mapVals {} (c.summarized temps) } }

theorem State.group_withSummary {temps : List (Nat × Nat)} {g : Nat} (formed : (s.group g).formed = true) :
    ((s.withSummary temps).group g).temp = s.summaryTemp temps g (s.group g) ∧
    ((s.withSummary temps).group g).fi =
      ((s.group g).fi + af256 (s.cfgOf Cfg.MEDIA_FI_EA) (s.summaryTemp temps g (s.group g))) % 2 ^ 64 := by
  have one : s.summarized temps g (s.group g) = { s.group g with
      temp := s.summaryTemp temps g (s.group g)
      fi := wrapAdd 64 (s.group g).fi (af256 (s.cfgOf Cfg.MEDIA_FI_EA) (s.summaryTemp temps g (s.group g))) } :=
    if_neg (by simp [formed])
  rw [State.group_of_mapVals (t := s.withSummary temps) rfl (by rw [one]; exact formed) rfl, one]
  exact ⟨rfl, rfl⟩

theorem execNandTemperatureSummary_eq {temps : List (Nat × Nat)} {c u w : State} (taken : (s.takeCfg .summary fun _ => true) = c)
    (summary : c.withSummary temps = u)
    (zones : (u.zone.nss.flatMap fun n => n.2.zones.filterMap fun z => z.2.row.map fun r => (n.1, z.1, r)).foldl
      (fun s z => s.fiZone z.1 z.2.1 z.2.2) u = w) :
    execNandTemperatureSummary temps s = .next (((w.zone.nss.flatMap fun n => if n.2.zoned then [] else n.2.rows) ++
      w.zone.dieSets.flatMap fun d => d.2.keptRows.map (·.row)).foldl (fun s r => s.fiRow r) w) := by
  subst zones summary taken
  rfl

/-! ### Silence (R188) -/

theorem execFiSummaryTimeout_first {n g : Nat} (awake : s.power.ps < 3) (fresh : s.flash.fiSilent = 0) (long : 5 ≤ n)
    (formed : (s.group g).formed = true) :
    ∃ t, execFiSummaryTimeout n s = .next t ∧ t.flash.fiSilent = n ∧ (t.group g).fi =
      ((s.group g).fi + n * af256 (s.cfgOf Cfg.MEDIA_FI_EA) (min ((s.group g).temp + 20) 330)) % 2 ^ 64 := by
  have due : ¬(3 ≤ s.power.ps ∨ s.flash.fiSilent + n < 5) := by omega
  refine ⟨_, (if_neg due).trans (congrArg _ (if_pos fresh)), ?_, ?_⟩
  · rw [State.report_flash _ _ _ _ (by decide)]
    exact (congrArg (· + n) fresh).trans (Nat.zero_add n)
  · refine (congrArg Group.fi (State.group_of_mapVals (s := s) (g := g)
      (congrArg ZonePart.groups (State.report_zone _ _ _ _ (by decide))) ?_ rfl)).trans ?_
    · rw [if_pos formed]
      exact formed
    · rw [if_pos formed]
      rfl

/-! ### Early warnings (R191) -/

section
variable {n z : Nat} {q : State} (warned : (n, z) ∈ s.flash.warned)
  (cleared : ({ s with flash := { s.flash with warned := s.flash.warned.filter (· ≠ (n, z)) } } : State) = q)
include warned cleared

theorem execEarlyWarningConfirm_of_warned {again : Bool} :
    execEarlyWarningConfirm n z again s = if again = false then .next (q.bump Reg.FBE_MM_EARLY_TRANSIENT)
      else .next (if n ≠ 0 ∧ (s.ns n).zoned = true then (q.bump Reg.FBE_MM_EARLY_CONFIRMED).queueRefire n z .early
        else (q.bump Reg.FBE_MM_EARLY_CONFIRMED).queueRow (rowOfKey z) .early) := by
  subst cleared
  refine (if_neg (by simp [warned])).trans ?_
  exact if_congr (by simp) rfl rfl

end

/-- Settles O33: a summary, silence, the off interval, a warned page. -/
theorem firingIndexRows : Obligations.FiringIndexRows := by
  refine ⟨fun temps s => ?summary, fun n g s => execFiSummaryTimeout_first, fun n s asleep => if_pos (Or.inl asleep), fun s => rfl,
    fun n z s unwarned w => if_pos (by simpa using unwarned), fun n z s warned => ?early⟩
  case summary =>
    intro c
    have taken : (s.takeCfg .summary fun _ => true) = c := rfl
    clear_value c
    refine ⟨c.withSummary temps, _, execNandTemperatureSummary_eq taken rfl rfl, fun g e formed named => ?_,
      fun g formed unnamed unknown => ?_, rfl, rfl, rfl, rfl⟩
    · obtain ⟨temp, fi⟩ := State.group_withSummary (temps := temps) formed
      rw [State.summaryTemp_of_named named] at temp fi
      exact ⟨temp, fi⟩
    · obtain ⟨temp, fi⟩ := State.group_withSummary (temps := temps) formed
      rw [State.summaryTemp_of_unknown unnamed unknown] at temp fi
      exact ⟨temp, fi⟩
  case early =>
    intro q
    have run := fun b => execEarlyWarningConfirm_of_warned (again := b) (q := q) warned rfl
    clear_value q
    refine ⟨(run false).trans (if_pos rfl), fun zone zoned => (run true).trans ?_, fun row => (run true).trans ?_⟩
    · rw [if_neg (by simp), if_pos ⟨zone, zoned⟩]
    · rw [if_neg (by simp), if_neg]
      rintro ⟨zone, zoned⟩
      obtain none_ | conv := row
      · exact zone none_
      · exact Bool.false_ne_true (conv.symm.trans zoned)

end Sys2Proof.Machine
end

section
/-! Proofs: Refire (Table 6.9, R190 to R197, R115). -/

namespace Sys2Proof.Machine

set_option Elab.async false

variable {s : State}

/-! ### Start -/

section
variable {d p : Nat} {q : RefireReq} {t : RowRef} {u : State}

theorem State.nextRefire_of_one (one : (s.dieSet d).queue.filter (s.refireReady d) = [q]) : s.nextRefire d = some q := by
  unfold State.nextRefire
  rw [one]
  rfl

theorem execRefireStart_of_none (none_ : ∀ q ∈ (s.dieSet d).queue, s.refireReady d q = false) : execRefireStart d s = .next s := by
  have empty : (s.dieSet d).queue.filter (s.refireReady d) = [] :=
    List.filter_eq_nil_iff.2 fun q mem => by simp [none_ q mem]
  have next : s.nextRefire d = none := by
    unfold State.nextRefire
    rw [empty]
    rfl
  unfold execRefireStart
  rw [next]

theorem State.insertEntry_kept {e : Ent} {h : Holder} {b : Bool} (ins : s.insertEntry e h b = (some p, u)) :
    u.zone = s.zone ∧ u.flash = s.flash := by
  unfold State.insertEntry at ins
  split at ins
  · cases ins
  · cases ins
    exact ⟨rfl, rfl⟩

theorem State.scanRow_kept {r : RowRef} : ((s.scanRow r).zone, (s.scanRow r).flash.nextJob) = (s.zone, s.flash.nextJob) :=
  State.each_keeps (fun t => (t.zone, t.flash.nextJob)) fun _ _ => rfl

theorem State.bindTarget_kept (zone : q.nsid ≠ 0) :
    ((s.bindTarget d q t).zone.dieSets, (s.bindTarget d q t).flash.nextJob) = (s.zone.dieSets, s.flash.nextJob) := by
  unfold State.bindTarget
  dsimp only
  rw [if_neg zone]
  rfl

/-- The record of a Refire that has begun (Table 6.9, steps 1 and 2). -/
def State.begunRefire (s : State) (d : Nat) (q : RefireReq) (t : RowRef) (p : Option Nat) (old : RowRef) : Refire :=
  let mine := fun (f : Nat × Nat × Nat) => decide (f.1 = q.nsid) && decide (f.2.1 = q.zone)
  { job := s.flash.nextJob, nsid := q.nsid, zone := q.zone, reason := q.reason, old := old, target := t, entry := p,
    failures := (((s.dieSet d).failed.filter mine).map (·.2.2)).getLastD 0 }

/-- The die set in which a Refire has left the queue and runs. -/
def State.withRefire (s : State) (d : Nat) (q : RefireReq) (t : RowRef) (p : Option Nat) (old : RowRef) : State :=
  let mine := fun (f : Nat × Nat × Nat) => decide (f.1 = q.nsid) && decide (f.2.1 = q.zone)
  State.modDieSet { s with
      sieve := { s.sieve with jobKinds := s.sieve.jobKinds.set (.keptWrite, 0) s.flash.nextJob (.refire, s.intake.seqNext) }
      flash := { s.flash with nextJob := s.flash.nextJob + 1 } } d fun x => { x with
    queue := x.queue.filter (· ≠ q)
    failed := x.failed.filter fun f => !(mine f)
    running := x.running ++ [s.begunRefire d q t p old] }

theorem State.dieSet_withRefire {old : RowRef} {po : Option Nat} :
    ((s.withRefire d q t po old).dieSet d).queue = (s.dieSet d).queue.filter (· ≠ q) ∧
    ((s.withRefire d q t po old).dieSet d).running = (s.dieSet d).running ++ [s.begunRefire d q t po old] := by
  unfold State.withRefire
  dsimp only
  rw [State.dieSet_modDieSet_self]
  · exact ⟨rfl, rfl⟩
  · exact fun e => List.append_ne_nil_of_right_ne_nil (s.dieSet d).running (List.cons_ne_nil (s.begunRefire d q t po old) []) (congrArg DieSet.running e)

/-- The Sieve entry of the next Refire, over the blocks of its zone. -/
def State.refireEnt (s : State) (q : RefireReq) : Ent where
  lo := q.zone * zoneBlocks
  hi := q.zone * zoneBlocks + zoneBlocks - 1
  scope := scopeNs q.nsid
  prio := 0x40
  payload := 0x8000 + s.flash.nextJob % 32768

theorem execRefireStart_of_zone (one : (s.dieSet d).queue.filter (s.refireReady d) = [q]) (why : q.reason = .threshold)
    (zone : q.nsid ≠ 0) (place : s.placeAmong d (s.targetGroup q) = some t)
    (ins : s.insertEntry (s.refireEnt q)
      { seq := s.intake.seqNext, nsid := q.nsid, tag := s.flash.nextJob, supply := 0 } true = (some p, u)) :
    let old := if q.nsid = 0 then rowOfKey q.zone else (u.zoneAt q.nsid q.zone).row.getD {}
    let v := u.withRefire d q t (some p) old
    execRefireStart d s =
      .next (if v.scanning old = true then v.bindTarget d q t else (v.bindTarget d q t).scanRow old).driveWaiting := by
  have target : s.refireTarget d q = some (t, s) := by
    unfold State.refireTarget
    rw [if_neg (by simp [why]), place]
  have entry : s.refireEntry q s.flash.nextJob = some (some p, u) := by
    unfold State.refireEntry
    dsimp only
    rw [if_neg zone]
    exact congrArg (fun r : Option Nat × State => match r with | (none, _) => none | (some p, v) => some (some p, v)) ins
  have quick : q.reason ≠ .rebuild := by simp [why]
  unfold execRefireStart
  rw [State.nextRefire_of_one one]
  dsimp only
  rw [target]
  dsimp only
  rw [entry]
  dsimp only
  rw [if_neg quick]
  rfl

/-- A started Refire runs into its target and has left the queue, whatever row its zone had. -/
theorem runsRefire {v w : State} {old : RowRef} (run : v = u.withRefire d q t (some p) old) (zones : u.zone = s.zone)
    (dies : u.flash = s.flash)
    (kept : (w.zone.dieSets, w.flash.nextJob) = (v.zone.dieSets, v.flash.nextJob)) :
    w.flash.nextJob = s.flash.nextJob + 1 ∧ (w.dieSet d).queue = (s.dieSet d).queue.filter (· ≠ q) ∧
      (w.dieSet d).running = (s.dieSet d).running ++ [u.begunRefire d q t (some p) old] := by
  subst run
  obtain ⟨sets, job⟩ := (Prod.mk.injEq ..).mp kept
  obtain ⟨queue, running⟩ := State.dieSet_withRefire (s := u) (d := d) (q := q) (t := t) (old := old) (po := some p)
  have same : u.dieSet d = s.dieSet d := congrArg (fun z : ZonePart => z.dieSets.get ({} : DieSet) d) zones
  have there : w.dieSet d = (u.withRefire d q t (some p) old).dieSet d := congrArg (Tab.get ({} : DieSet) · d) sets
  rw [there, queue, running, same]
  exact ⟨job.trans (congrArg (·.nextJob + 1) dies), rfl, rfl⟩

end

/-! ### The target is programmed, the switch, the old row's release -/

section
variable {job d : Nat} {x : Refire}

theorem execRefireSwitch_of_done (there : s.refireJob job = some (d, x)) (why : x.verified = false ∨ x.switched = true) :
    execRefireSwitch job s = .next s := by
  unfold execRefireSwitch
  rw [there]
  exact if_pos (why.imp (by simp [·]) id)

theorem execRefireSwitch_of_kept (there : s.refireJob job = some (d, x)) (verified : x.verified = true)
    (fresh : x.switched = false) (zone : x.nsid = 0) : execRefireSwitch job s =
      .next ((s.switchKept d x).modRefire d job fun q => { q with switched := true, seq := s.intake.seqNext }) := by
  unfold execRefireSwitch
  rw [there]
  exact (if_neg (by simp [verified, fresh])).trans (if_pos zone)

/-- What the map of a namespace is once a Refire's zone lies in its target. -/
def Refire.moved (x : Refire) (n : Ns) : Ns :=
  { n with map := n.map.mapVals {} fun lba b =>
      if lba / zoneBlocks = x.zone ∧ b.row = some x.old then { b with row := some x.target, pieceLen := 0, pieceIdx := 0 } else b }

/-- The zone of a Refire once its rows lie in the target. -/
def Refire.rebound (x : Refire) (t : RowRec) (z : Zone) : Zone :=
  { z with
    row := some x.target, fiStamp := t.stamp, patrols := 0
    trailer := z.trailer.map fun y => { y with mismatch := y.mismatch || x.mismatch, seqFirst := t.seqFirst, seqLast := t.seqLast } }

theorem State.switchedZone (nsid : (s.ns x.nsid).exists_ = true) :
    let v := (s.modNs x.nsid x.moved).modZone x.nsid x.zone (x.rebound (s.rowRec x.target))
    v.zoneAt x.nsid x.zone = x.rebound (s.rowRec x.target) (s.zoneAt x.nsid x.zone) := by
  have maps := State.ns_modNs_of_exists (f := x.moved) nsid
  have same : (s.modNs x.nsid x.moved).zoneAt x.nsid x.zone = s.zoneAt x.nsid x.zone :=
    (congrArg (fun n : Ns => n.zones.get ({} : Zone) x.zone) maps :)
  have moved : x.rebound (s.rowRec x.target) (s.zoneAt x.nsid x.zone) ≠ {} := fun e => by
    cases congrArg Zone.row e
  have bound := State.zoneAt_modZone (s := s.modNs x.nsid x.moved) (n := x.nsid) (z := x.zone)
    (f := x.rebound (s.rowRec x.target)) (by rw [same]; exact moved)
  exact bound.trans (congrArg _ same)

/-- The records of a switch and the mark at its Refire (Table 6.9, step 6). -/
def State.noteSwitch (s : State) (d job : Nat) (x : Refire) (stamp : Nat) (seq : Nat) : State :=
  (((s.modRow x.target fun y => { y with verifyPending := true }).trailRec
    (.bind x.nsid x.zone x.target.group x.target.row stamp)).trailRec (.verified x.nsid x.zone x.target.group)).modRefire d job
      fun q => { q with switched := true, seq := seq }

theorem State.noteSwitch_kept {stamp seq : Nat} (m z : Nat) :
    (s.noteSwitch d job x stamp seq).zoneAt m z = s.zoneAt m z ∧ (s.noteSwitch d job x stamp seq).regs = s.regs ∧
      (s.noteSwitch d job x stamp seq).tenant = s.tenant := ⟨rfl, rfl, rfl⟩

theorem execRefireSwitch_of_zone (there : s.refireJob job = some (d, x)) (verified : x.verified = true)
    (fresh : x.switched = false) (zone : x.nsid ≠ 0) : execRefireSwitch job s =
      .next (((s.modNs x.nsid x.moved).modZone x.nsid x.zone (x.rebound (s.rowRec x.target))).noteSwitch d job x
        (s.rowRec x.target).stamp s.intake.seqNext) := by
  unfold execRefireSwitch
  rw [there]
  exact (if_neg (by simp [verified, fresh])).trans (if_neg zone)

theorem execRefireOldRowRelease_held (there : s.refireJob job = some (d, x))
    (why : x.switched = false ∨ 64 ≤ s.sieve.walks.length) : execRefireOldRowRelease job s = .next s := by
  unfold execRefireOldRowRelease
  rw [there]
  exact if_pos (why.imp (by simp [·]) Or.inl)

/-- The release of a Refire's old row, as the reads that came before it are looked for. -/
def Refire.wait (x : Refire) : RelWait where
  row := x.old
  nsid := x.nsid
  lo := x.zone * zoneBlocks
  hi := x.zone * zoneBlocks + zoneBlocks - 1
  seq := x.seq

theorem execRefireOldRowRelease_of_room (there : s.refireJob job = some (d, x)) (switched : x.switched = true)
    (room : s.sieve.walks.length < 64)
    (early : s.readsBefore x.wait = false) :
    let hi := x.zone * zoneBlocks + zoneBlocks - 1
    let a := (((s.releaseParity x.old).releaseRow x.old x.nsid (x.zone * zoneBlocks) hi x.seq).removeEntries x.entry.toList).modDieSet d fun y =>
      { y with running := y.running.filter fun q => q.job ≠ job }
    let b : State := { a with
      sieve := { a.sieve with jobKinds := a.sieve.jobKinds.set (.keptWrite, 0) job (.keptWrite, 0) }
      flash := { a.flash with refireDone := a.flash.refireDone.set x.reason.rank (a.flash.refireDone.getD x.reason.rank 0 + 1) } }
    execRefireOldRowRelease job s =
      .next ((b.bump Reg.FBE_MM_REFIRE_COUNT_DONE).log Code.refire 2 0x203 [x.nsid, x.zone, x.reason.rank]).driveWaiting := by
  have going : ¬ ((!x.switched) = true ∨ 64 ≤ s.sieve.walks.length ∨ s.readsBefore x.wait = true) := by
    rw [switched, early]
    simpa using room
  unfold execRefireOldRowRelease
  rw [there]
  exact if_neg going

theorem execRefireTargetProgrammed_again (there : s.refireJob job = some (d, x)) (done : x.programmed = true)
    (m : Option (List Nat)) (l : List Nat) : execRefireTargetProgrammed job m l s = .next s := by
  unfold execRefireTargetProgrammed
  rw [there]
  exact if_pos (Or.inl done)

/-- The target's trailers are queued, and the Refire is at its verify (Table 6.9, steps 4 and 5). -/
def State.targetDone (s : State) (d job : Nat) (x : Refire) (mismatch : Bool) : State :=
  ((s.queueTrailers x.target true).modRow x.target fun y =>
    { y with issued := 16 * (s.group x.target.group).geo.wordlines }).modRefire d job fun q =>
      { q with programmed := true, mismatch := mismatch }

theorem execRefireTargetProgrammed_of_covered (there : s.refireJob job = some (d, x)) (fresh : x.programmed = false)
    (whole : ∀ u < s.unitsIn x.target, u ∈ (s.rowRec x.target).done) (covered : (s.rowRec x.target).covered = true) :
    execRefireTargetProgrammed job none [] s = .next (s.targetDone d job x false) ∧
      ∀ l, execRefireTargetProgrammed job (some l) [] s =
        .next (((s.countMismatch x.nsid).log Code.refire 3 0x203 (x.nsid :: x.zone :: l)).targetDone d job x true) := by
  have ready : ¬ (x.programmed = true ∨
      (!((List.range (s.unitsIn x.target)).all (s.rowRec x.target).done.contains)) = true ∨ (!(s.rowRec x.target).covered) = true) := by
    simp only [fresh, covered, Bool.not_true, Bool.false_eq_true, or_false, false_or, Bool.not_eq_true', Bool.not_eq_false,
      List.all_eq_true, List.mem_range, List.contains_iff_mem]
    exact whole
  have none_ : (if x.nsid = 0 then [] else
      ([] : List Nat).filter fun o => decide ((s.blkAt x.nsid (x.zone * zoneBlocks + o)).content ≠ .lost)) = [] := by
    split <;> rfl
  constructor
  · unfold execRefireTargetProgrammed
    rw [there]
    dsimp only
    rw [if_neg ready, none_]
    rfl
  · intro l
    unfold execRefireTargetProgrammed
    rw [there]
    dsimp only
    rw [if_neg ready, none_]
    rfl

end

/-- Settles O34: each step of Table 6.9 by its guards, the start through the row it takes and the entry it inserts. -/
theorem refireSteps : Obligations.RefireSteps := by
  unfold Obligations.RefireSteps
  refine ⟨fun d s none_ => execRefireStart_of_none none_, ?_, ?_, ?_⟩
  · intro d p q t s u one why zone place lo e ins
    have begun := execRefireStart_of_zone one why zone place ins
    obtain ⟨zones, dies⟩ := State.insertEntry_kept ins
    dsimp only at begun
    generalize row : (if q.nsid = 0 then rowOfKey q.zone else (u.zoneAt q.nsid q.zone).row.getD {}) = old at begun
    generalize run : u.withRefire d q t (some p) old = v at begun
    have bound := State.bindTarget_kept (s := v) (d := d) (t := t) zone
    refine ⟨_, begun, ?_⟩
    have kept : ∀ w : State, (w.zone.dieSets, w.flash.nextJob) = (v.zone.dieSets, v.flash.nextJob) → _ :=
      fun w => runsRefire run.symm zones dies
    split
    · obtain ⟨job, queue, running⟩ := kept _ bound
      exact ⟨job, queue, _, running, congrArg (·.nextJob) dies, rfl, rfl, rfl, rfl, rfl, rfl⟩
    · have scanned := State.scanRow_kept (s := v.bindTarget d q t) (r := old)
      obtain ⟨job, queue, running⟩ := kept _
        ((congrArg (fun y : ZonePart × Nat => (y.1.dieSets, y.2)) scanned).trans bound)
      exact ⟨job, queue, _, running, congrArg (·.nextJob) dies, rfl, rfl, rfl, rfl, rfl, rfl⟩
  · intro job d x s there
    refine ⟨fun verified fresh zone nsid => ?_, execRefireSwitch_of_kept there, execRefireSwitch_of_done there,
      execRefireOldRowRelease_held there, execRefireTargetProgrammed_again there, ?_,
      execRefireTargetProgrammed_of_covered there⟩
    · have bound := State.switchedZone nsid
      dsimp only at bound
      refine ⟨_, execRefireSwitch_of_zone there verified fresh zone, ?_⟩
      have moved : (((s.modNs x.nsid x.moved).modZone x.nsid x.zone (x.rebound (s.rowRec x.target))).regs,
          ((s.modNs x.nsid x.moved).modZone x.nsid x.zone (x.rebound (s.rowRec x.target))).tenant) = (s.regs, s.tenant) := rfl
      generalize (s.modNs x.nsid x.moved).modZone x.nsid x.zone (x.rebound (s.rowRec x.target)) = v at bound moved ⊢
      obtain ⟨sameRegs, sameTenant⟩ := (Prod.mk.injEq ..).mp moved
      obtain ⟨same, regs, tenant⟩ := State.noteSwitch_kept (s := v) (d := d) (job := job) (x := x)
        (stamp := (s.rowRec x.target).stamp) (seq := s.intake.seqNext) x.nsid x.zone
      rw [same, bound, regs, tenant]
      exact ⟨rfl, rfl, rfl, sameRegs, sameTenant⟩
    · intro hi wait switched room early
      exact execRefireOldRowRelease_of_room there switched room early
  · intro n z q s found
    show execRefireRetryTimer n z s = _
    unfold execRefireRetryTimer
    dsimp only
    rw [found]

end Sys2Proof.Machine
end

section
/-! Proofs: relocation and the captured block entry (R200 to R203, R211). -/

namespace Sys2Proof.Machine

set_option Elab.async false

variable {s : State}

/-! ### Start -/

/-- The rows of a namespace that wait for relocation and whose copies have not begun. -/
def State.waitingRows (s : State) (n : Nat) : List (Nat × RowRef × Reason) :=
  (s.dieSet (s.ns n).dieSet).convQ.filter fun q =>
    decide (q.1 = n) && !((s.dieSet (s.ns n).dieSet).relocs.any fun x => decide (x.source = q.2.1))

theorem execRelocationStart_held {n : Nat} (why : (s.ns n).zoned = true ∨ s.settling = true) : execRelocationStart n s = .next s :=
  if_pos (why.imp id Or.inr)

theorem execRelocationStart_of_room {n : Nat} (none_ : s.waitingRows n = [])
    (room : max 2 (ceilDiv (2 * s.convRowsAll (s.ns n).dieSet) 100) ≤ s.convRowsFree (s.ns n).dieSet) :
    execRelocationStart n s = .next s := by
  unfold State.waitingRows at none_
  unfold execRelocationStart
  dsimp only
  split
  · rfl
  · rw [none_, List.foldl_nil]

theorem execRelocationStart_of_one {n : Nat} {q : Nat × RowRef × Reason} (conv : (s.ns n).zoned = false)
    (there : (s.ns n).exists_ = true) (awake : s.settling = false) (one : s.waitingRows n = [q])
    (full : s.programmed q.2.1 = true) (target : s.relTarget n ≠ none)
    (fails : (s.dieSet (s.ns n).dieSet).failedRows = []) (queue : (s.dieSet (s.ns n).dieSet).convQ = [q]) {c : State}
    (taken : s.modDieSet (s.ns n).dieSet (fun x => { x with convQ := [], failedRows := [] }) = c) :
    execRelocationStart n s = .next (((c.readSource q.2.1).copyUnits n q.2.1 0 2 (c.validUnits n q.2.1)).endRelRow n) := by
  have cleared : s.modDieSet (s.ns n).dieSet (fun x => { x with
      convQ := x.convQ.erase q, failedRows := x.failedRows.filter fun f => f.1 ≠ q.2.1 }) = c :=
    (State.modDieSet_congr (by rw [queue, fails]; simp)).trans taken
  unfold State.waitingRows at one
  unfold execRelocationStart
  dsimp only
  rw [if_neg (by simp [conv, there, awake]), one]
  dsimp only [List.foldl]
  rw [if_neg (by simp [full, Option.isNone_iff_eq_none, target]), fails, cleared]
  rfl

/-! ### Switch, retry and capture -/

theorem execRelocationSwitch_of_none {job : Nat} (none_ : ∀ d ∈ s.zone.dieSets, ∀ x ∈ d.2.relocs, x.job ≠ job) :
    execRelocationSwitch job s = .next s := by
  have missing : (s.zone.dieSets.find? fun d =>
      d.2.relocs.any fun x => decide (x.job = job) && x.verified && !x.switched) = none :=
    List.find?_eq_none.2 fun d mem found => by
      obtain ⟨x, inSet, same⟩ := List.any_eq_true.1 found
      exact none_ d mem x inSet (by simp at same; exact same.1.1)
  unfold execRelocationSwitch
  rw [missing]

theorem execRelocationSwitch_of_one {job d : Nat} {x : DieSet} {y : Reloc} (sets : s.zone.dieSets = [(d, x)])
    (one : x.relocs = [y]) (same : y.job = job) (verified : y.verified = true) (fresh : y.switched = false) :
    let live := y.units.filter fun u =>
      decide ((s.blkAt y.nsid u.1).row = some y.source) && decide ((s.blkAt y.nsid u.1).seq = u.2.1)
    let m := live.foldl (fun s u => (s.modBlk y.nsid u.1 fun b =>
      { b with row := some y.target, off := u.2.2, pieceLen := 0, pieceIdx := 0 }).trailRec (.convMap y.nsid u.1 1 u.2.1)) s
    let m := (m.removeEntries y.entry.toList).modDieSet d fun z =>
      { z with relocs := z.relocs.map fun q => if q.job = job then { q with switched := true } else q }
    execRelocationSwitch job s = .next (State.releaseSource { m with sieve := { m.sieve with
      jobKinds := m.sieve.jobKinds.set (.keptWrite, 0) job (.keptWrite, 0) } } d y.nsid y.source) := by
  have found : (s.zone.dieSets.find? fun d =>
      d.2.relocs.any fun x => decide (x.job = job) && x.verified && !x.switched) = some (d, x) := by
    rw [sets]
    exact List.find?_cons_of_pos (by simp [one, same, verified, fresh])
  have record : (x.relocs.find? fun y => decide (y.job = job)) = some y := by
    rw [one]
    exact List.find?_cons_of_pos (by simp [same])
  unfold execRelocationSwitch
  rw [found]
  dsimp only
  rw [record]
  rfl

theorem State.mgmtWrite_fbe {off : Nat} {f : State → State} (page : pageDomain (off / 4096) = 64)
    (on : s.domainOff 64 = false) : s.mgmtWrite off f = f s :=
  if_neg (by simp [page, on])

theorem State.blkCapture_of_die {k p b : Nat} (die : dieNameOk k = true) :
    (s.blkCapture k p b).flash.blkCaptured = some (s.blockShown k (p % 8) (b % 4096)) ∧
      (s.blkCapture k p b).flash.blocks = s.flash.blocks ∧ (s.blkCapture k p b).zone = s.zone := by
  unfold State.blkCapture
  rw [if_neg (by simp [die])]
  exact ⟨rfl, rfl, rfl⟩

/-- Settles O35: each step by its guards; a queued row is the only one its namespace has waiting. -/
theorem relocationSteps : Obligations.RelocationSteps := by
  unfold Obligations.RelocationSteps
  refine ⟨?_, fun job s => execRelocationSwitch_of_none, ?_, ?_, ?_⟩
  · intro n s d
    refine ⟨execRelocationStart_held, fun _ _ other room => ?_, ?_⟩
    · refine execRelocationStart_of_room (List.filter_eq_nil_iff.2 fun q mem => ?_) room
      simp [other q mem]
    · intro r why conv there awake queue relocs fails full target c
      have one : s.waitingRows n = [(n, r, why)] := by
        unfold State.waitingRows
        rw [show (s.dieSet (s.ns n).dieSet).convQ = _ from queue, show (s.dieSet (s.ns n).dieSet).relocs = _ from relocs]
        simp
      have taken : s.modDieSet d (fun x => { x with convQ := [], failedRows := [] }) = c := rfl
      clear_value c
      exact execRelocationStart_of_one conv there awake one full target fails queue taken
  · intro job d x y s sets one same verified fresh
    exact execRelocationSwitch_of_one sets one same verified fresh
  · intro n g w s r
    show execRelocationRetryTimer n g w s = _
    unfold execRelocationRetryTimer
    dsimp only
    rw [apply_ite Host.Outcome.next]
    exact if_congr List.contains_iff_mem rfl rfl
  · intro k p b s on die
    exact ⟨s.blkCapture k p b, congrArg Host.Outcome.next (State.mgmtWrite_fbe (by decide) on), State.blkCapture_of_die die⟩

end Sys2Proof.Machine
end

section
/-! Proofs: Fixity jobs, SECDED memories and the self-test (R229 to R238). -/

namespace Sys2Proof.Machine

set_option Elab.async false

variable {s : State}

/-! ### Fixity jobs (R229, R231) -/

section
variable {j : Nat}

theorem execFixityZoneStart_held (why : (s.job j).st ≠ 1 ∨ (s.job j).cancelling = true ∨ (s.job j).zones ≤ (s.job j).started ∨
    4 ≤ (s.job j).active.length ∨ s.settling = true) : execFixityZoneStart j s = .next s :=
  if_pos why

/-- A job reaches its next zone (Table 7.7). -/
theorem execFixityZoneStart_of_next {t : State} {z : Nat} (next : (s.job j).first + (s.job j).started = z)
    (going : ¬ ((s.job j).st ≠ 1 ∨ (s.job j).cancelling = true ∨ (s.job j).zones ≤ (s.job j).started ∨
      4 ≤ (s.job j).active.length ∨ s.settling = true))
    (apart : ∀ r ∈ (s.dieSet (s.ns (s.job j).nsid).dieSet).running, r.nsid = (s.job j).nsid → r.zone ≠ z)
    (begun : s.modJob j (fun x => { x with started := x.started + 1 }) = t)
    (same : (t.zoneAt (s.job j).nsid z).st = (s.zoneAt (s.job j).nsid z).st) :
    execFixityZoneStart j s = .next (
      if (s.zoneAt (s.job j).nsid z).st = .zso then t.fixResult j { zone := z, result := 4 }
      else if (s.zoneAt (s.job j).nsid z).st ≠ .zsf ∧ (s.zoneAt (s.job j).nsid z).st ≠ .zsro then t.fixResult j { zone := z, result := 3 }
      else if t.zoneKeyless (s.job j).nsid z = true then t.fixResult j { zone := z, result := 5 }
      else
        let u := t.modJob j fun x => { x with active := x.active ++ [z], rate := t.verifyRate }
        match (u.zoneAt (s.job j).nsid z).row with
        | some r => u.verifyReads r (bit (s.job j).options 1)
        | none => u) := by
  have free : ¬ ((s.dieSet (s.ns (s.job j).nsid).dieSet).running.any fun r =>
      decide (r.nsid = (s.job j).nsid) && decide (r.zone = z)) = true := by
    simpa using apart
  unfold execFixityZoneStart
  dsimp only
  rw [next, begun, if_neg going, if_neg free, same]
  simp only [apply_ite Host.Outcome.next]
  exact if_congr Iff.rfl rfl (if_congr (by simp) rfl (if_congr Iff.rfl rfl rfl))

variable {z : Nat} {bad : List Nat} (runs : (s.job j).st = 1) (reading : z ∈ (s.job j).active)
  (read : s.scanning (s.zoneRow (s.job j).nsid z) = false)
include runs reading read

theorem fixityReads_done : ¬ ((s.job j).st ≠ 1 ∨ (!((s.job j).active.contains z)) = true ∨
    s.scanning (s.zoneRow (s.job j).nsid z) = true) := by
  simp [runs, reading, read]

theorem execFixityZoneDone_cancelled (cancelled : (s.job j).cancelling = true) (ok : Bool) :
    execFixityZoneDone j z bad ok s = .next (s.fixResult j { zone := z, result := 7 }) :=
  (if_neg (fixityReads_done runs reading read)).trans (if_pos cancelled)

theorem execFixityZoneDone_of_none (going : (s.job j).cancelling = false)
    (none_ : (s.zoneAt (s.job j).nsid z).trailer = none) (ok : Bool) :
    execFixityZoneDone j z bad ok s = .next (s.fixResult j { zone := z, result := 6 }) := by
  unfold execFixityZoneDone
  dsimp only
  rw [if_neg (fixityReads_done runs reading read), if_neg (by simp [going]), none_]

theorem execFixityZoneDone_of_trailer {t : Trailer} (going : (s.job j).cancelling = false)
    (trailer : (s.zoneAt (s.job j).nsid z).trailer = some t) :
    execFixityZoneDone j z bad true s = .next ((if (s.zoneResult (s.job j) z bad t).result = 1
      then s.countMismatch (s.job j).nsid else s).fixResult j (s.zoneResult (s.job j) z bad t)) := by
  unfold execFixityZoneDone
  dsimp only
  rw [if_neg (fixityReads_done runs reading read), if_neg (by simp [going]), trailer]
  rfl

end

section
variable {i cid j : Nat} {u : State} (run : ∀ f, s.adminDo i cid f = .next (adminAnswer i cid (f u)))
include run

theorem execGetLogFixityJobResult_of_page {l : List Nat} (page : u.resultPage i j = l) :
    execGetLogFixityJobResult i cid j s =
      .next (((u.reply i 0 cid l).unmask i Ev.vendor).adminCqe i cid 0 0) :=
  (run _).trans (by rw [page]; rfl)

end

/-! ### SECDED (R233 to R238) -/

theorem execSramCheckRead_failed {g w : Nat} {n : State} (noted : (s.bump Reg.FLT_ECC_CORR_COUNT).report (0x400 + g) 0x30 w 0 = n) :
    execSramCheckRead g w false s = .next (n.remapWord g w) := by
  subst noted
  rfl

theorem execEccSelftestDone_of_idle {w : Nat} {f : List (Nat × Nat)} (idle : s.fixity.testBusy = false) :
    execEccSelftestDone w f s = .next s :=
  if_pos (by simp [idle])

theorem execEccSelftestDone_of_clean {w : Nat} (busy : s.fixity.testBusy = true) :
    let d : State := { s with fixity := { s.fixity with testBusy := false, testRuns := s.fixity.testRuns + 1 } }
    execEccSelftestDone w [] s =
      .next ((d.setReg Reg.FLT_ECC_RESULT_TESTED (w % 65536)).setReg Reg.FLT_ECC_RESULT_FAILED 0) :=
  if_neg (by simp [busy])

/-- Settles O36: a job's zone by its state, its end by what the media gave; each SECDED row is its own equation. -/
theorem integrityRows : Obligations.IntegrityRows := by
  unfold Obligations.IntegrityRows
  refine ⟨⟨?_, ?_, ?_⟩, ?_⟩
  · intro j s x z
    refine ⟨execFixityZoneStart_held, ?_⟩
    intro runs going more room awake apart t
    have begun : s.modJob j (fun x => { x with started := x.started + 1 }) = t := rfl
    have same : (t.zoneAt x.nsid z).st = (s.zoneAt x.nsid z).st := rfl
    clear_value t
    exact execFixityZoneStart_of_next rfl
      (by simpa [show (s.job j).st = 1 from runs, show (s.job j).cancelling = false from going, awake] using
        And.intro more room) apart begun same
  · intro j z bad ok s runs reading read
    exact ⟨fun cancelled => execFixityZoneDone_cancelled runs reading read cancelled ok,
      fun going none_ => execFixityZoneDone_of_none runs reading read going none_ ok,
      fun t going trailer => execFixityZoneDone_of_trailer runs reading read going trailer⟩
  · intro i cid j s takes u x
    have run : ∀ f, s.adminDo i cid f = .next (adminAnswer i cid (f u)) := fun f => adminDo_on takes
    have job : u.job j = x := rfl
    clear_value u x
    subst job
    exact ⟨fun there own => execGetLogFixityJobResult_of_page run (if_neg (by simp [there, own])),
      fun other => execGetLogFixityJobResult_of_page run (if_pos other)⟩
  · intro g w u s c n
    have noted : c.report (0x400 + g) 0x30 w 0 = n := rfl
    refine ⟨rfl, ?_, rfl, ?_, rfl, fun idle f => execEccSelftestDone_of_idle idle, execEccSelftestDone_of_clean⟩
    · clear_value n
      exact execSramCheckRead_failed noted
    · cases u <;> rfl

end Sys2Proof.Machine
end

section
/-! Proofs: power failure, dump mode and shutdowns (R244, R245, R252, R253). -/

namespace Sys2Proof.Machine

set_option Elab.async false

/-! ### The dump holds the groups in which its rows lie

A dump's programs go to rows of the dies, and planning them marks each group with such a row as held (`dumpHeld`), so the
groups do not stay as they were. -/

/-- A part that is up, with one formed group of one die. -/
def armedGroup : State :=
  { boot := { phase := .ready }
    zone := { groups := [(0, { formed := true, dies := [0] })] }
    flash := { dies := [(0, { present := true, listed := true, inGroup := true })] } }

/-- Whether group 0 is held by a dump. -/
def dumpHeldOf : Res → Bool
  | .next t => (t.group 0).dumpHeld
  | _ => false

theorem exec_pwrfailAssert_armedGroup : dumpHeldOf (exec (.pwrfailAssert 5000) armedGroup) = true := by decide

/-- Refutes O37: PWRFAIL_N's clause that the zones' part of the state stays as it is fails in `armedGroup`, where the dump
takes a row of group 0 and holds it. -/
theorem not_lossRows : ¬ Obligations.LossRows := by
  intro h
  obtain ⟨⟨assert, -⟩, -⟩ := h
  obtain ⟨-, -, dump⟩ := assert 5000 armedGroup
  obtain ⟨t, run, -, -, -, -, -, -, zone⟩ := dump (by decide) (by decide) (by decide)
  have held := exec_pwrfailAssert_armedGroup
  rw [run] at held
  have kept : (t.group 0).dumpHeld = (armedGroup.group 0).dumpHeld := by
    unfold State.group
    rw [zone]
  exact absurd (held.symm.trans kept) (by decide)

end Sys2Proof.Machine
end

section
/-! Proofs: the Trail (R243, R255, R258, R259). -/

namespace Sys2Proof.Machine

set_option Elab.async false

variable {s : State}

/-! ### Places of Trail programs -/

/-- What taking a place for a program leaves: the Trail, the zones and the instances. -/
def State.besideDies (s : State) : TrailPart × ZonePart × TenantPart := (s.trail, s.zone, s.tenant)

theorem State.setBlocks_besideDies {d : Nat} {l : List (Nat × Nat)} {f : Block → Block} :
    (s.setBlocks d l f).besideDies = s.besideDies :=
  State.each_keeps State.besideDies fun _ _ => rfl

theorem State.takeBlocks_besideDies {role d : Nat} {x : List Nat × State} (taken : s.takeBlocks role d = some x) :
    x.2.besideDies = s.besideDies := by
  unfold State.takeBlocks at taken
  dsimp only at taken
  split at taken
  · cases taken
    exact State.setBlocks_besideDies
  · cases taken

theorem State.regionNext_besideDies {role d : Nat} {x : (List Nat × Nat) × State} (next : s.regionNext role d = some x) :
    x.2.besideDies = s.besideDies := by
  unfold State.regionNext at next
  dsimp only at next
  split at next
  · cases next
    rfl
  · obtain ⟨t, taken, rfl⟩ := Option.map_eq_some_iff.1 next
    exact (rfl : _ = t.2.besideDies).trans (State.takeBlocks_besideDies taken)

theorem State.trailPlace_besideDies {seq turn : Nat} {x : Nat × (List Nat × Nat) × State}
    (place : s.trailPlace seq turn = some x) : x.2.2.besideDies = s.besideDies := by
  obtain ⟨g, -, found⟩ := List.exists_of_findSome?_eq_some place
  obtain ⟨d, -, next⟩ := List.exists_of_findSome?_eq_some found
  obtain ⟨y, region, rfl⟩ := Option.map_eq_some_iff.1 next
  exact State.regionNext_besideDies region

/-! ### Flushes -/

/-- What the programs of a flush leave: the half buffer, the flush number, the records that are out, the zones and the
instances. -/
def State.besidePrograms (s : State) : List TrailRec × Nat × List (List TrailRec) × ZonePart × TenantPart :=
  (s.trail.half, s.trail.flushSeq, s.trail.flushes.map (·.recs), s.zone, s.tenant)

theorem State.besidePrograms_of_besideDies {t : State} (h : t.besideDies = s.besideDies) : t.besidePrograms = s.besidePrograms :=
  congrArg (fun y : TrailPart × ZonePart × TenantPart =>
    (y.1.half, y.1.flushSeq, y.1.flushes.map (·.recs), y.2.1, y.2.2)) h

theorem State.programFlush_besidePrograms {seq : Nat} (n : Nat) :
    (s.programFlush seq n).besidePrograms = s.besidePrograms := by
  induction n generalizing s with
  | zero => rfl
  | succ n ih =>
    unfold State.programFlush
    split
    · rfl
    next d x t place =>
      refine ih.trans (Eq.trans ?_ (State.besidePrograms_of_besideDies (State.trailPlace_besideDies place)))
      refine congrArg (fun l => (t.trail.half, t.trail.flushSeq, l, t.zone, t.tenant)) ?_
      exact (List.map_map ..).trans (List.map_congr_left fun f _ => by
        dsimp only [Function.comp]
        split <;> rfl)

theorem State.programFlushes_besidePrograms : s.programFlushes.besidePrograms = s.besidePrograms :=
  State.each_keeps State.besidePrograms fun _ _ => State.programFlush_besidePrograms _

/-- Taking a write sequence records at most the next reservation. -/
theorem State.takeSeq_besidePrograms {n : Nat} : ∃ l, (∀ r ∈ l, ∃ k, r = TrailRec.wseqReserve k) ∧
    (s.takeSeq n).2.besidePrograms = (l ++ s.trail.half, s.besidePrograms.2) := by
  unfold State.takeSeq
  dsimp only
  split
  · exact ⟨[_], by simp, rfl⟩
  · exact ⟨[], by simp, rfl⟩

theorem execTrailFlushStart_of_half (on : s.trailOn = true) (none_ : s.trail.flushes = []) (records : s.trail.half ≠ []) :
    ∃ t, execTrailFlushStart s = .next t ∧ ∃ l, (∀ r ∈ l, ∃ k, r = TrailRec.wseqReserve k) ∧
      t.besidePrograms = (l, s.trail.flushSeq + 1, [s.trail.half.reverse], s.zone, s.tenant) := by
  have flush : s.flushNow = (s.takeCfg .flush fun _ => true).cutFlush := if_neg (by simp [on, none_])
  have same : (s.takeCfg .flush fun _ => true).besideDies = s.besideDies := State.takeCfg_frame _ fun _ _ _ => rfl
  generalize (s.takeCfg .flush fun _ => true) = u at flush same
  obtain ⟨trail, zone, tenant⟩ := (Prod.mk.injEq ..).mp same |>.imp_right (Prod.mk.injEq ..).mp
  have filled : u.trail.half.isEmpty = false := by rw [trail]; simpa using records
  refine ⟨_, congrArg Host.Outcome.next flush, ?_⟩
  unfold State.cutFlush
  rw [if_neg (by simp [filled])]
  obtain ⟨l, only, taken⟩ := State.takeSeq_besidePrograms (s := u.closeHalf (segmentsFor u.trail.half.reverse))
    (n := 16 * segmentsFor u.trail.half.reverse)
  refine ⟨l, only, State.programFlushes_besidePrograms.trans (taken.trans ?_)⟩
  have out : u.trail.flushes = [] := by rw [trail, none_]
  rw [← trail, ← zone, ← tenant]
  simp [State.closeHalf, State.besidePrograms, out]

/-! ### Checkpoints -/

theorem State.releaseTrail_kept :
    let v := s.releaseTrail
    (v.trail.ckptSeq, v.trail.sinceBegin) = (s.trail.ckptSeq, s.trail.sinceBegin) := by
  refine State.each_keeps (fun t => (t.trail.ckptSeq, t.trail.sinceBegin)) fun t x => ?_
  have blocks : ∀ f : Block → Block, (t.setBlocks x.1 x.2.1.zipIdx f).trail = t.trail := fun f =>
    State.each_keeps (fun t => t.trail) fun _ _ => rfl
  unfold State.releaseBlocks
  split
  · rfl
  · split
    · exact congrArg (fun y : TrailPart => (y.ckptSeq, y.sinceBegin)) (blocks _)
    · show ((t.setBlocks x.1 x.2.1.zipIdx _).trail.ckptSeq, (t.setBlocks x.1 x.2.1.zipIdx _).trail.sinceBegin) = _
      rw [blocks]

theorem State.ckptEnd_trail :
    s.ckptEnd.trail.ckptBusy = false ∧ s.ckptEnd.trail.held = false ∧ s.ckptEnd.trail.sinceDone = s.trail.sinceBegin ∧
      s.ckptEnd.trail.durable = [.ckptEnd s.trail.ckptSeq] := by
  obtain ⟨seq, since⟩ := (Prod.mk.injEq ..).mp (State.releaseTrail_kept (s := s))
  exact ⟨rfl, rfl, since, congrArg (fun n => [TrailRec.ckptEnd n]) seq⟩

theorem execCheckpointEnd_of_durable (busy : s.trail.ckptBusy = true) (on : s.trailOn = true)
    (half : .ckptBegin s.trail.ckptSeq ∉ s.trail.half) (out : ∀ f ∈ s.trail.flushes, .ckptBegin s.trail.ckptSeq ∉ f.recs) :
    execCheckpointEnd s = .next s.ckptEnd :=
  congrArg Host.Outcome.next (if_pos (by simpa [busy, on, half] using out))

/-- The records of the formed groups' Firing Index leave the rest of the state. -/
theorem State.ckptIndexes_kept {l : List (Nat × Group)} {r : TrailRec} (first : r ∈ s.trail.half) :
    let v := s.each l fun s g => s.trailRec (.fi g.1 g.2.fi)
    r ∈ v.trail.half ∧ v.trail.ckptSeq = s.trail.ckptSeq ∧ v.zone = s.zone ∧ v.flash = s.flash :=
  List.foldlRecOn
    (motive := fun t : State => r ∈ t.trail.half ∧ t.trail.ckptSeq = s.trail.ckptSeq ∧ t.zone = s.zone ∧ t.flash = s.flash)
    l _ ⟨first, rfl, rfl, rfl⟩ fun _ kept _ _ => ⟨List.mem_cons_of_mem _ kept.1, kept.2⟩

theorem State.ckptBegin_trail :
    let v := s.ckptBegin
    v.trail.ckptBusy = true ∧ v.trail.ckptSeq = s.trail.ckptSeq + 1 ∧ .ckptBegin (s.trail.ckptSeq + 1) ∈ v.trail.half ∧
      v.trail.sinceBegin = 0 ∧ v.zone = s.zone ∧ v.flash = s.flash := by
  obtain ⟨mem, -, zone, flash⟩ := State.ckptIndexes_kept (s := s.trailRec (.ckptBegin (s.trail.ckptSeq + 1)))
    (l := (s.trailRec (.ckptBegin (s.trail.ckptSeq + 1))).zone.groups.filter fun g => g.2.formed) (r := .ckptBegin (s.trail.ckptSeq + 1)) List.mem_cons_self
  unfold State.ckptBegin
  dsimp only at mem zone flash ⊢
  generalize State.each _ _ _ = u at mem zone flash ⊢
  refine ⟨rfl, rfl, List.mem_cons_of_mem _ ?_, rfl, ?_⟩
  · split
    · exact List.mem_cons_of_mem _ mem
    · exact mem
  · split
    · exact ⟨zone, flash⟩
    · exact ⟨zone, flash⟩

theorem execCheckpointStart_of_idle (on : s.trailOn = true) (idle : s.trail.ckptBusy = false) :
    execCheckpointStart s = .next (s.takeCfg .checkpoint fun _ => true).ckptBegin :=
  congrArg Host.Outcome.next (if_neg (by simp [on, idle]))

theorem execDumpRowRelease_of_held {g : Nat} (on : s.trailOn = true) (held : (s.group g).dumpHeld = true)
    (replayed : s.dumpReplayed = true) (first : .dumpRelease g ∉ s.trail.half) :
    execDumpRowRelease g s = .next (s.trailRec (.dumpRelease g)) :=
  congrArg Host.Outcome.next (if_pos (by simp [on, held, replayed, first]))

/-- Settles O38: a flush by what its programs leave, a checkpoint by the records it writes. -/
theorem trailRows : Obligations.TrailRows := by
  unfold Obligations.TrailRows
  refine ⟨fun s => ⟨fun off => ⟨?_, ?_, fun g => ?_⟩, ?_, ?_, ?_, fun idle => ?_, ?_⟩, fun g s => execDumpRowRelease_of_held⟩
  · exact congrArg Host.Outcome.next (if_pos (by simp [off]))
  · exact congrArg Host.Outcome.next (if_pos (by simp [off]))
  · exact congrArg Host.Outcome.next (if_neg (by simp [off]))
  · intro on none_ records
    obtain ⟨t, run, l, only, kept⟩ := execTrailFlushStart_of_half on none_ records
    obtain ⟨half, seq, recs, zone, tenant⟩ : t.trail.half = l ∧ t.trail.flushSeq = s.trail.flushSeq + 1 ∧
        t.trail.flushes.map (·.recs) = [s.trail.half.reverse] ∧ t.zone = s.zone ∧ t.tenant = s.tenant := by
      simpa only [State.besidePrograms, Prod.mk.injEq] using kept
    exact ⟨t, run, seq, half ▸ only, recs, zone, tenant⟩
  · intro f rest first
    show execTrailFlushDurable s = _
    unfold execTrailFlushDurable
    rw [first]
  · intro on idle
    refine ⟨_, execCheckpointStart_of_idle on idle, ?_⟩
    have same : (s.takeCfg .checkpoint fun _ => true).trail.ckptSeq = s.trail.ckptSeq ∧
        (s.takeCfg .checkpoint fun _ => true).zone = s.zone ∧ (s.takeCfg .checkpoint fun _ => true).flash = s.flash :=
      ⟨State.takeCfg_frame (·.trail.ckptSeq) fun _ _ _ => rfl, State.takeCfg_frame (·.zone) fun _ _ _ => rfl,
        State.takeCfg_frame (·.flash) fun _ _ _ => rfl⟩
    generalize (s.takeCfg .checkpoint fun _ => true) = u at same
    obtain ⟨seq, zone, flash⟩ := same
    rw [← seq, ← zone, ← flash]
    exact State.ckptBegin_trail
  · exact congrArg Host.Outcome.next (if_neg (by simp [idle]))
  · intro busy on half out
    exact ⟨_, execCheckpointEnd_of_durable busy on half out, State.ckptEnd_trail⟩

end Sys2Proof.Machine
end

section
/-! Proofs: Hamper units and pools (R308 to R317; Table 10.4). -/

namespace Sys2Proof.Machine

set_option Elab.async false

variable {s : State}

/-! ### Owners and claims -/

section
variable {u id : Nat} {who : Requester} {op : Nat} {f : State → State}

theorem State.checked_ok : s.checked u who op true f = f (if who.glitch then s.reportTransient who.source 0x34 u else s) := rfl

theorem State.checked_refused : s.checked u who op false f = s.refuseOwnership u who op := rfl

theorem State.refuseOwnership_kept : (s.refuseOwnership u who op).hamper = s.hamper ∧ (s.refuseOwnership u who op).zone = s.zone :=
  ⟨State.report_hamper _ _ _ _ (by decide), State.report_zone _ _ _ _ (by decide)⟩

theorem execHamperClaim_of_room (here : (s.hunit u).st = 1) (room : (s.hunit u).claims < 255) :
    execHamperClaim u s = .next ((s.modUnit u fun x => { x with claims := x.claims + 1 }).emit (.reply Port.engine [u, 0])) :=
  if_pos (by simp [State.claimOk, here, room])

theorem execHamperClaim_of_full (here : (s.hunit u).st = 1) (full : 255 ≤ (s.hunit u).claims) :
    execHamperClaim u s = .next (s.modUnit u fun x => { x with claimWaits := x.claimWaits + 1 }) :=
  (if_neg (by simp [State.claimOk, full])).trans (if_pos here)

theorem execHamperClaim_of_free (other : (s.hunit u).st ≠ 1) :
    execHamperClaim u s = .next (s.emit (.reply Port.engine [u, 1])) :=
  (if_neg (by simp [State.claimOk, other])).trans (if_neg other)

theorem State.releaseUnit_of_claimed (here : (s.hunit u).st = 1) (claimed : (s.hunit u).claims ≠ 0) :
    s.releaseUnit u = (s.refuseClaims u).modUnit u fun x => { x with st := 2 } :=
  (if_neg (by simp [here])).trans (if_neg claimed)

theorem State.dropClaim_of_many (claimed : (s.hunit u).claims ≠ 0) (none_ : (s.hunit u).claimWaits = 0)
    (more : (s.hunit u).st = 2 → (s.hunit u).claims ≠ 1) :
    s.dropClaim u = s.modUnit u fun x => { x with claims := x.claims - 1 } :=
  (if_neg claimed).trans ((if_neg (by simp [none_])).trans (if_neg (by simpa using more)))

theorem State.dropClaim_of_waiting (claimed : (s.hunit u).claims ≠ 0) (waits : (s.hunit u).claimWaits ≠ 0) :
    s.dropClaim u = (s.emit (.reply Port.engine [u, 0])).modUnit u fun x => { x with claimWaits := x.claimWaits - 1 } := by
  rw [State.emit_reply]
  exact (if_neg claimed).trans (if_pos waits)

end

/-! ### Pools -/

section
variable {p n : Nat}

theorem State.alloc_none {inst oid : Nat} {o : OwnerKind} (why : (s.pool p).rebuild = true ∨ (s.pool p).free < n) :
    s.alloc p n inst o oid = (none, s) :=
  if_pos why

/-- The units of an allocation, taken over by their owner. -/
def State.withUnits (s : State) (keys : List Nat) (inst : Nat) (o : OwnerKind) (oid : Nat) : State :=
  s.each keys fun s k => s.modUnit k fun _ => { st := 1, inst := inst, owner := o, ownerId := oid }

theorem State.withUnits_kept {keys : List Nat} {inst oid : Nat} {o : OwnerKind} :
    ((s.withUnits keys inst o oid).hamper.pools, (s.withUnits keys inst o oid).zone, (s.withUnits keys inst o oid).regs) =
      (s.hamper.pools, s.zone, s.regs) :=
  State.each_keeps (fun t => (t.hamper.pools, t.zone, t.regs)) fun _ _ => rfl

theorem Pool.settle_used {x : Pool} {a r : Nat} : (x.settle a r).used = x.used := rfl

theorem State.settlePool_kept (used : (s.pool p).used ≠ 0) :
    ((s.settlePool p).pool p).used = (s.pool p).used ∧ (s.settlePool p).zone = s.zone ∧ (s.settlePool p).regs = s.regs := by
  unfold State.settlePool
  split
  · refine ⟨?_, rfl, rfl⟩
    rw [State.pool_modPool_self]
    · rfl
    · exact fun e => used (congrArg Pool.used e)
  · exact ⟨rfl, rfl, rfl⟩

/-- What an allocation of units leaves once its pool is settled. -/
theorem State.settlePool_withUnits {keys : List Nat} {inst oid : Nat} {o : OwnerKind} {v : State} {x : Pool}
    (pool : v.pool p = x) (some_ : x.used ≠ 0) :
    let t := (v.withUnits keys inst o oid).settlePool p
    (t.pool p).used = x.used ∧ t.zone = v.zone ∧ t.regs = v.regs := by
  obtain ⟨pools, zone, regs⟩ : (v.withUnits keys inst o oid).hamper.pools = v.hamper.pools ∧
      (v.withUnits keys inst o oid).zone = v.zone ∧ (v.withUnits keys inst o oid).regs = v.regs := by
    simpa only [Prod.mk.injEq] using State.withUnits_kept (s := v) (keys := keys) (inst := inst) (o := o) (oid := oid)
  generalize v.withUnits keys inst o oid = u at pools zone regs ⊢
  have same : u.pool p = x := (congrArg (Tab.get ({} : Pool) · p) pools).trans pool
  obtain ⟨settled, zone', regs'⟩ := State.settlePool_kept (s := u) (p := p) (by rwa [same])
  exact ⟨settled.trans (congrArg Pool.used same), zone'.trans zone, regs'.trans regs⟩

theorem Pool.take_used {x : Pool} : (x.take n).2.used = x.used + n := rfl

/-- The state after an allocation of `n` units. -/
def State.allocated (s : State) (p n inst : Nat) (o : OwnerKind) (oid : Nat) : State :=
  ((s.modPool p fun _ => ((s.pool p).take n).2).withUnits (((s.pool p).take n).1.map (unitKey p)) inst o oid).settlePool p

theorem State.alloc_some {inst oid : Nat} {o : OwnerKind} (ready : (s.pool p).rebuild = false) (room : n ≤ (s.pool p).free) :
    s.alloc p n inst o oid = (some (((s.pool p).take n).1.map (unitKey p)), s.allocated p n inst o oid) :=
  if_neg (by simp [ready, room])

theorem State.allocated_kept {inst oid : Nat} {o : OwnerKind} (some_ : n ≠ 0) :
    ((s.allocated p n inst o oid).pool p).used = (s.pool p).used + n ∧ (s.allocated p n inst o oid).zone = s.zone ∧
      (s.allocated p n inst o oid).regs = s.regs := by
  have many : ((s.pool p).take n).2.used ≠ 0 := by rw [Pool.take_used]; omega
  have taken : (s.modPool p fun _ => ((s.pool p).take n).2).pool p = ((s.pool p).take n).2 :=
    State.pool_modPool_self fun e => many (congrArg Pool.used e)
  exact State.settlePool_withUnits taken many

/-! ### A request at a pool -/

variable {r : PoolReq}

theorem State.pool_withRequest (empty : (s.pool p).waiting = []) :
    (s.modPool p fun x => { x with waiting := x.waiting ++ [r] }).pool p = { s.pool p with waiting := [r] } := by
  rw [State.pool_modPool_self]
  · rw [empty]; rfl
  · exact fun e => List.append_ne_nil_of_right_ne_nil (s.pool p).waiting (List.cons_ne_nil r []) (congrArg Pool.waiting e)

theorem State.servePool_of_short (one : (s.pool p).waiting = [r]) (why : (s.pool p).rebuild = true ∨ (s.pool p).free < r.need) :
    s.servePool p 1 = s := by
  unfold State.servePool
  rw [one]
  dsimp only
  rw [State.alloc_none why]

theorem State.servePool_of_room (one : (s.pool p).waiting = [r]) (ready : (s.pool p).rebuild = false)
    (room : r.need ≤ (s.pool p).free) :
    s.servePool p 1 = (s.allocated p r.need 0 r.owner r.ownerId).modPool p fun x => { x with waiting := [] } := by
  unfold State.servePool
  rw [one]
  dsimp only
  rw [State.alloc_some ready room]
  rfl

variable {kind id : Nat} {u : State} (known : p ≤ 5) (some_ : n ≠ 0) (empty : (s.pool p).waiting = [])
  (asked : s.modPool p (fun x => { x with waiting := x.waiting ++ [⟨OwnerKind.ofCode kind, id, n⟩] }) = u)
include known some_ empty asked

/-- A request at an empty queue is served at once, if its units are there. -/
theorem execHamperAllocate_alone : execHamperAllocate p kind id n s = .next (u.servePool p 1) ∧
    u.pool p = { s.pool p with waiting := [⟨OwnerKind.ofCode kind, id, n⟩] } := by
  have pool := State.pool_withRequest (r := ⟨OwnerKind.ofCode kind, id, n⟩) empty
  rw [asked] at pool
  refine ⟨?_, pool⟩
  unfold execHamperAllocate
  dsimp only
  rw [if_neg (by omega), asked, pool]
  rfl

theorem execHamperAllocate_of_short (why : (s.pool p).rebuild = true ∨ (s.pool p).free < n) :
    execHamperAllocate p kind id n s = .next u ∧ (u.pool p).waiting = [⟨OwnerKind.ofCode kind, id, n⟩] := by
  obtain ⟨run, pool⟩ := execHamperAllocate_alone known some_ empty asked
  refine ⟨run.trans (congrArg _ (State.servePool_of_short (congrArg Pool.waiting pool) ?_)), congrArg Pool.waiting pool⟩
  rw [pool]
  exact why

theorem execHamperAllocate_of_room (ready : (s.pool p).rebuild = false) (room : n ≤ (s.pool p).free) :
    ∃ t, execHamperAllocate p kind id n s = .next t ∧ (t.pool p).waiting = [] ∧
      (t.pool p).used = (s.pool p).used + n ∧ t.zone = u.zone ∧ t.regs = u.regs := by
  obtain ⟨run, pool⟩ := execHamperAllocate_alone known some_ empty asked
  have served := State.servePool_of_room (congrArg Pool.waiting pool) (by rw [pool]; exact ready) (by rw [pool]; exact room)
  obtain ⟨used, zone, regs⟩ := State.allocated_kept (s := u) (p := p) (inst := 0) (o := OwnerKind.ofCode kind) (oid := id) some_
  dsimp only at served
  generalize u.allocated p n 0 (OwnerKind.ofCode kind) id = v at served used zone regs
  have done : (v.modPool p fun x => { x with waiting := [] }).pool p = { v.pool p with waiting := [] } :=
    State.pool_modPool_self fun e => by
      have none_ : (v.pool p).used = 0 := congrArg Pool.used e
      omega
  refine ⟨_, run.trans (congrArg _ served), congrArg Pool.waiting done, ?_, zone, regs⟩
  exact ((congrArg Pool.used done).trans used).trans (by rw [pool])

end

/-! ### Rebuilds -/

/-- A pool whose free list is rebuilt without a unit (R317). -/
def Pool.rebuilding (x : Pool) (u : Nat) : Pool :=
  { x with rebuild := true, freed := x.freed.filter (· ≠ u), gone := if x.gone.contains u then x.gone else x.gone ++ [u] }

theorem Pool.rebuilding_without {x : Pool} {u : Nat} : u ∉ (x.rebuilding u).freed ∧ u ∈ (x.rebuilding u).gone := by
  unfold Pool.rebuilding
  refine ⟨by simp, ?_⟩
  dsimp only
  split
  next gone => exact List.contains_iff_mem.1 gone
  next => exact List.mem_append_right _ (List.mem_singleton.2 rfl)

theorem execFreeListRebuild_of_pool {p u : Nat} (known : p ≤ 5) :
    execFreeListRebuild p u s = .next ((s.modPool p fun x => x.rebuilding u).report (0x1B0 + p) 0x35 p 1) ∧
    (s.modPool p fun x => x.rebuilding u).pool p = (s.pool p).rebuilding u :=
  ⟨if_neg (by omega), State.pool_modPool_self fun e => by cases congrArg Pool.rebuild e⟩

/-- Settles O39: each row of Table 10.4 by its guard; an allocation by what `alloc` gives. -/
theorem hamperRows : Obligations.HamperRows := by
  unfold Obligations.HamperRows
  refine ⟨?_, ?_, ?_, ?_⟩
  · intro u id k2 id2 who s ok
    refine ⟨fun own => ?_, fun other => ?_, fun none_ => ?_, fun claimed => ?_, fun op => State.refuseOwnership_kept⟩
    · exact ⟨congrArg (fun b => Host.Outcome.next (s.checked u who 0 b _)) own,
        congrArg (fun b => Host.Outcome.next (s.checked u who 2 b _)) own⟩
    · exact ⟨congrArg (fun b => Host.Outcome.next (s.checked u who 0 b _)) other,
        congrArg (fun b => Host.Outcome.next (s.checked u who 2 b _)) other⟩
    · exact congrArg (fun b => Host.Outcome.next (s.checked u who 1 b _)) (decide_eq_false (not_not.2 none_))
    · exact congrArg (fun b => Host.Outcome.next (s.checked u who 1 b _)) (decide_eq_true claimed)
  · intro u s
    exact ⟨execHamperClaim_of_room, execHamperClaim_of_full, execHamperClaim_of_free, State.releaseUnit_of_claimed,
      State.dropClaim_of_many, State.dropClaim_of_waiting⟩
  · intro p kind id n s known some_ empty
    generalize asked : s.modPool p (fun x => { x with waiting := x.waiting ++ [⟨OwnerKind.ofCode kind, id, n⟩] }) = u
    have kept : u.hamper.units = s.hamper.units ∧ u.zone = s.zone ∧ u.regs = s.regs := by
      subst asked
      exact ⟨rfl, rfl, rfl⟩
    obtain ⟨units, zone, regs⟩ := kept
    refine ⟨fun why => ?_, fun ready room => ?_⟩
    · obtain ⟨run, waiting⟩ := execHamperAllocate_of_short known some_ empty asked why
      exact ⟨u, run, waiting, units⟩
    · obtain ⟨t, run, waiting, used, zone', regs'⟩ := execHamperAllocate_of_room known some_ empty asked ready room
      exact ⟨t, run, waiting, used, zone'.trans zone, regs'.trans regs⟩
  · intro p s
    refine ⟨?_, fun idle => if_pos (by simp [idle]), fun busy => if_neg (by simp [busy]), fun u known => ?_⟩
    · show execPoolWaitNotice p s = _
      unfold execPoolWaitNotice
      rw [apply_ite Host.Outcome.next]
      exact if_congr List.isEmpty_iff rfl rfl
    · obtain ⟨run, pool⟩ := execFreeListRebuild_of_pool (s := s) (u := u) known
      generalize kept : s.modPool p (fun x => x.rebuilding u) = v at run pool
      have same : (v.report (0x1B0 + p) 0x35 p 1).hamper = v.hamper := State.report_hamper _ _ _ _ (by decide)
      have there : (v.report (0x1B0 + p) 0x35 p 1).pool p = (s.pool p).rebuilding u :=
        (congrArg (fun h : HamperPart => h.pools.get ({} : Pool) p) same).trans pool
      obtain ⟨free, gone⟩ := Pool.rebuilding_without (x := s.pool p) (u := u)
      have zone : v.zone = s.zone := kept ▸ rfl
      have units : v.hamper.units = s.hamper.units := kept ▸ rfl
      exact ⟨_, run, congrArg Pool.rebuild there, there ▸ free, there ▸ gone,
        (State.report_zone _ _ _ _ (by decide)).trans zone, (congrArg HamperPart.units same).trans units⟩

end Sys2Proof.Machine
end

section
/-! Proofs: Glaze descriptors (R271 to R285). -/

namespace Sys2Proof.Machine

set_option Elab.async false

variable {s : State}

/-! ### Submission -/

section
variable {d : GDesc}

theorem State.gdSubmit_malformed (bad : gdOk d = false) : s.gdSubmit d = s.gdResult d 6 :=
  if_pos (by simp [bad])

section
variable (ok : gdOk d = true)
include ok

theorem State.gdSubmit_of_slot (other : ∃ k ∈ gdSlots d, (s.slotAt k).st ≠ .ready) : s.gdSubmit d = s.gdResult d 2 := by
  have missing : (!((gdSlots d).all fun k => decide ((s.slotAt k).st = .ready))) = true := by
    simpa using other
  exact (if_neg (by simp [ok])).trans (if_pos missing)

variable (ready : ∀ k ∈ gdSlots d, (s.slotAt k).st = .ready) (urgent : s.glaze.urgentQ.length < 256)
  (bulk : s.glaze.bulkQ.length < 2048)
include ready urgent bulk

/-- A well-formed descriptor whose slots are ready and for which a queue has room is taken by its freshness. -/
theorem State.gdSubmit_of_ready : s.gdSubmit d = if s.gdFresh d = true then
    State.gdPlace ((gdSlots d).foldl (fun s k => s.modSlot k fun x => { x with accepted := x.accepted + 1 }) s) d
    else s.gdResult d 3 := by
  have full : ¬ (d.urgent = true ∧ 256 ≤ s.glaze.urgentQ.length ∨ (!d.urgent) = true ∧ 2048 ≤ s.glaze.bulkQ.length) := by
    omega
  unfold State.gdSubmit
  rw [if_neg (by simp [ok]), if_neg (by simpa using ready), if_neg full]
  cases s.gdFresh d <;> rfl

end
end

/-! ### Completion and aged contexts -/

section
variable {l addr : Nat} {d : GDesc}

theorem execGlazeDescriptorComplete_of_idle (idle : (s.lane l).running = none) (a b c : Bool) :
    execGlazeDescriptorComplete l a b c addr s = .next s := by
  unfold execGlazeDescriptorComplete
  rw [idle]

/-- What the end of a lane's descriptor does with its code: the lane takes its next. -/
def State.laneEnds (t : State) (l : Nat) (d : GDesc) (code : Nat) : State :=
  State.gdAdmitWaiting ((t.gdEnd d code).laneNext l (t.laneTries l))

/-- The end of a descriptor, by what it was and whether its data authenticated. -/
theorem execGlazeDescriptorComplete_of_running {e : State} {auth again rebuilt : Bool} (runs : (s.lane l).running = some d)
    (freed : s.modLane l (fun y => { y with running := none, aged := false, doneAt := s.now }) = e) :
    execGlazeDescriptorComplete l auth again rebuilt addr s = .next (State.laneEnds
      (if (!(d.op = 6 || d.op = 7 : Bool)) = true ∨ auth = true then e
        else if again = true then e.reportTransient 0x1C0 0x40 addr
        else if rebuilt = true then e.bump Reg.FBE_LDPC_REBUILT_COUNT
        else e.authFailed d addr)
      l d (if ((d.op = 6 || d.op = 7) && !auth && !again && !rebuilt : Bool) = true then 1 else 0)) := by
  unfold execGlazeDescriptorComplete
  rw [runs]
  dsimp only
  rw [freed]
  rfl

theorem execGlazeContextAgedResume_of_young (young : ∀ c ∈ (s.lane l).contexts, s.now < c.since + 10000) :
    execGlazeContextAgedResume l s = .next s :=
  if_pos (by simpa using young)

theorem execGlazeContextAgedResume_of_aged (aged : ∃ c ∈ (s.lane l).contexts, c.since + 10000 ≤ s.now) {t : State}
    (due : s.modLane l (fun y => { y with agedDue := true }) = t) :
    execGlazeContextAgedResume l s = .next (if (s.lane l).running.isSome = true then t else t.laneNext l (t.laneTries l)) := by
  unfold execGlazeContextAgedResume
  dsimp only
  rw [if_neg (by simpa using aged), due]

end

/-- Settles O40: a submission by the descriptor's form, slots and freshness; an end by what the lane ran. -/
theorem glazeDescriptors : Obligations.GlazeDescriptors := by
  unfold Obligations.GlazeDescriptors
  refine ⟨fun d s => ⟨fun bad => congrArg _ (State.gdSubmit_malformed bad), fun ok other =>
    congrArg _ (State.gdSubmit_of_slot ok other), fun ok ready urgent bulk => ⟨fun stale => ?_, fun fresh => ?_⟩⟩,
    fun l addr s idle a b c => execGlazeDescriptorComplete_of_idle idle a b c, ?_, ?_⟩
  · exact congrArg _ ((State.gdSubmit_of_ready ok ready urgent bulk).trans (if_neg (by simp [stale])))
  · exact congrArg _ ((State.gdSubmit_of_ready ok ready urgent bulk).trans (if_pos fresh))
  · intro l addr d s runs e ends
    have freed : s.modLane l (fun y => { y with running := none, aged := false, doneAt := s.now }) = e := rfl
    clear_value e
    have done : ∀ a b c, exec (.glazeDescriptorComplete l a b c addr) s = _ :=
      fun a b c => execGlazeDescriptorComplete_of_running (addr := addr) (auth := a) (again := b) (rebuilt := c) runs freed
    refine ⟨?_, fun not6 not7 a b c => ?_, fun opens => ⟨fun c => ?_, ?_, ?_⟩⟩
    · rw [done, if_pos (Or.inr rfl)]
      simp [State.laneEnds, ends]
    · rw [done]
      simp [State.laneEnds, ends, not6, not7]
    · have op : (d.op = 6 || d.op = 7 : Bool) = true := by simpa using opens
      rw [done, op]
      rfl
    · have op : (d.op = 6 || d.op = 7 : Bool) = true := by simpa using opens
      rw [done, op]
      rfl
    · have op : (d.op = 6 || d.op = 7 : Bool) = true := by simpa using opens
      rw [done, op]
      rfl
  · intro l s
    refine ⟨execGlazeContextAgedResume_of_young, fun aged busy => ?_, ?_⟩
    · exact (execGlazeContextAgedResume_of_aged aged rfl).trans
        (congrArg _ (if_pos (Option.isSome_iff_ne_none.2 busy)))
    · intro aged idle t
      have due : s.modLane l (fun y => { y with agedDue := true }) = t := rfl
      clear_value t
      exact (execGlazeContextAgedResume_of_aged aged due).trans (congrArg _ (if_neg (by simp [idle])))

end Sys2Proof.Machine
end

section
/-! Proofs: what the end of a command leaves as it is (R298, R299, R380). -/

namespace Sys2Proof.Machine

set_option Elab.async false

variable {s : State}

/-! ### What the end of a command touches

An alarm, a Stop and a failed host read end commands. Their units, entries, row programs and completions leave some parts
of the state alone: Glaze's, the fault handler's and the start-up's, IDE's streams, and whether intake is stopped. -/

/-- What has no share in the end of a command, beside Glaze's part. -/
def State.aside (s : State) : FaultPart × Ide × Bool × BootPart := (s.fault, s.pcie.ide, s.intake.stopped, s.boot)

/-- These parts. -/
def State.vault (s : State) : GlazePart × FaultPart × Ide × Bool × BootPart := (s.glaze, s.aside)

theorem State.aside_of_vault {t : State} (h : t.vault = s.vault) : t.aside = s.aside := congrArg Prod.snd h

theorem State.each_vault {α : Type} {l : List α} {f : State → α → State} (h : ∀ t x, (f t x).vault = t.vault) :
    (s.each l f).vault = s.vault :=
  State.each_keeps State.vault h

theorem State.foldl_vault {α : Type} {l : List α} {f : State → α → State} (h : ∀ t x, (f t x).vault = t.vault) :
    (l.foldl f s).vault = s.vault :=
  State.each_vault h

theorem State.ite_vault {c : Prop} [Decidable c] {a b : State} (ha : a.vault = s.vault) (hb : b.vault = s.vault) :
    (if c then a else b).vault = s.vault := by
  split
  · exact ha
  · exact hb

theorem State.writeRec_fault {r : Rec} : (s.writeRec r).fault = s.fault := by
  have spent : ∀ c : Prop, ∀ _ : Decidable c, ∀ k : KlogPart, (if c then ({ s with klog := k } : State) else s).fault = s.fault :=
    fun c _ k => by split <;> rfl
  unfold State.writeRec
  dsimp only
  split
  · exact State.bump_fault (s := s) (k := Reg.KLOG_SUPP_COUNT)
  · split
    · exact spent _ _ _
    · exact spent _ _ _

theorem State.writeRec_vault {r : Rec} : (s.writeRec r).vault = s.vault := by
  unfold State.vault State.aside
  rw [State.writeRec_glaze, State.writeRec_fault, State.writeRec_pcie, State.writeRec_intake, State.writeRec_boot]

theorem State.log_vault {c v o : Nat} {b : List Nat} : (s.log c v o b).vault = s.vault := State.writeRec_vault

/-! ### Units -/

section
variable {p n k : Nat}

theorem State.settlePool_vault : (s.settlePool p).vault = s.vault := State.ite_vault rfl rfl

theorem State.alloc_vault {inst oid : Nat} {o : OwnerKind} : (s.alloc p n inst o oid).2.vault = s.vault := by
  unfold State.alloc
  dsimp only
  split
  · rfl
  · refine State.settlePool_vault.trans (Eq.trans (State.each_vault fun _ _ => ?_) ?_) <;> rfl

theorem State.servePool_vault : (s.servePool p n).vault = s.vault := by
  induction n generalizing s with
  | zero => rfl
  | succ n ih =>
    unfold State.servePool
    split
    · rfl
    next r rest _ =>
      have kept := State.alloc_vault (s := s) (p := p) (n := r.need) (inst := 0) (o := r.owner) (oid := r.ownerId)
      split
      · rfl
      next t alloc =>
        rw [alloc] at kept
        exact ih.trans kept

theorem State.freeUnit_vault : (s.freeUnit k).vault = s.vault := State.settlePool_vault

theorem State.refuseClaims_vault : (s.refuseClaims k).vault = s.vault :=
  (rfl : _ = (State.each _ _ _).vault).trans (State.each_vault fun _ _ => rfl)

theorem State.releaseUnit_vault : (s.releaseUnit k).vault = s.vault :=
  State.ite_vault rfl (State.ite_vault (State.servePool_vault.trans State.freeUnit_vault) State.refuseClaims_vault)

theorem State.releaseUnits_vault {ks : List Nat} : (s.releaseUnits ks).vault = s.vault :=
  State.each_vault fun _ _ => State.releaseUnit_vault

theorem State.dropClaim_vault : (s.dropClaim k).vault = s.vault :=
  State.ite_vault rfl (State.ite_vault rfl (State.ite_vault (State.servePool_vault.trans State.freeUnit_vault) rfl))

end

/-! ### Completions -/

theorem State.emit_vault {o : Out} : (s.emit o).vault = s.vault := State.ite_vault rfl (State.ite_vault rfl rfl)

theorem State.interrupt_vault {i v : Nat} : (s.interrupt i v).vault = s.vault := State.ite_vault rfl State.emit_vault

theorem State.signalCq_vault {i cq : Nat} : (s.signalCq i cq).vault = s.vault :=
  State.ite_vault rfl (State.ite_vault rfl State.interrupt_vault)

theorem State.readLine_vault {i line : Nat} : (s.readLine i line).2.vault = s.vault := by
  unfold State.readLine
  dsimp only
  split
  · rfl
  · split <;> rfl

theorem State.markPage_vault {i p : Nat} : (s.markPage i p).vault = s.vault := by
  unfold State.markPage
  dsimp only
  refine State.ite_vault rfl (State.ite_vault rfl ?_)
  refine (rfl : _ = State.vault _).trans ?_
  split
  · exact State.emit_vault.trans State.readLine_vault
  · exact State.readLine_vault

theorem State.postCqe_vault {i sq cq cid st dw0 : Nat} : (s.postCqe i sq cq cid st dw0).vault = s.vault :=
  State.signalCq_vault.trans (State.emit_vault.trans (State.each_vault fun _ _ => State.markPage_vault))

theorem State.answerReads_vault {t n : Nat} : (s.answerReads t n).vault = s.vault :=
  State.ite_vault (State.ite_vault rfl rfl) rfl

theorem State.idleBegins_vault : s.idleBegins.vault = s.vault := by
  have taken : ∀ (u : State) (k : CfgKind) (p : Nat → Bool), (u.takeCfg k p).vault = u.vault :=
    fun u k p => State.takeCfg_frame State.vault fun _ _ _ => rfl
  exact State.ite_vault ((taken _ _ _).trans (taken _ _ _)) rfl

theorem State.ltrUpdate_vault {n : Nat} : (s.ltrUpdate n).vault = s.vault := by
  unfold State.ltrUpdate
  dsimp only
  exact State.ite_vault rfl (State.ite_vault (State.emit_vault.trans State.emit_vault) State.emit_vault)

theorem State.freeTagOf_vault {t : Nat} : (s.freeTagOf t).vault = s.vault := by
  unfold State.freeTagOf
  dsimp only
  have done : ∀ (u : State) i, (u.shutdownDone i).vault = u.vault := fun u i => State.ite_vault rfl rfl
  refine State.ltrUpdate_vault.trans (State.ite_vault (State.idleBegins_vault.trans ?_) ?_) <;>
    exact (done _ _).trans (State.ite_vault (State.releaseUnits_vault.trans State.answerReads_vault) State.answerReads_vault)

theorem State.postTag_vault {t st dw0 : Nat} : (s.postTag t st dw0).vault = s.vault :=
  State.freeTagOf_vault.trans State.postCqe_vault

/-! ### Sieve entries -/

section
variable {p t seq : Nat}

theorem State.removeEntry_vault : (s.removeEntry p).vault = s.vault := State.ite_vault rfl rfl

theorem State.removeEntries_vault {ps : List Nat} : (s.removeEntries ps).vault = s.vault :=
  State.each_vault fun _ _ => State.removeEntry_vault

theorem State.dropEntriesOf_vault : (s.dropEntriesOf seq).vault = s.vault := State.removeEntries_vault

theorem State.sweepExpos_vault : s.sweepExpos.vault = s.vault :=
  (State.each_vault fun _ _ => State.removeEntries_vault).trans rfl

theorem State.endWalk_vault : (s.endWalk t).vault = s.vault :=
  (State.each_vault fun _ _ => State.ite_vault State.removeEntry_vault rfl).trans rfl

end

/-! ### Row programs -/

section
variable {die row : Nat} {r : RowRef}

theorem State.setBlocks_vault {l : List (Nat × Nat)} {f : Block → Block} : (s.setBlocks die l f).vault = s.vault :=
  State.each_vault fun _ _ => rfl

theorem State.fillBlocks_vault : (s.fillBlocks die row).vault = s.vault := State.ite_vault rfl State.setBlocks_vault

theorem State.takeBlocks_vault {role : Nat} {x : List Nat × State} (taken : s.takeBlocks role die = some x) :
    x.2.vault = s.vault := by
  unfold State.takeBlocks at taken
  dsimp only at taken
  split at taken
  · cases taken
    exact State.setBlocks_vault
  · cases taken

theorem State.reservePool_vault : (s.reservePool r).vault = s.vault := by
  unfold State.reservePool
  dsimp only
  refine State.ite_vault rfl (State.ite_vault rfl ?_)
  refine List.foldlRecOn (motive := fun a : List (Nat × List Nat) × State => a.2.vault = s.vault) _ _ rfl fun a kept d _ => ?_
  split
  next t taken => exact (State.takeBlocks_vault taken).trans kept
  · exact kept

theorem State.parityCheck_vault {w : Nat} : (s.parityCheck r w).vault = s.vault := by
  unfold State.parityCheck
  dsimp only
  split
  · rfl
  · split <;> rfl

theorem State.scanRow_vault : (s.scanRow r).vault = s.vault := State.each_vault fun _ _ => rfl

theorem State.verifyCheck_vault : (s.verifyCheck r).vault = s.vault :=
  State.ite_vault rfl (State.scanRow_vault.trans (State.each_vault fun _ _ => State.fillBlocks_vault))

theorem State.unitDone_vault {u : Nat} : (s.unitDone r u).vault = s.vault := by
  unfold State.unitDone
  dsimp only
  refine State.ite_vault (State.verifyCheck_vault.trans (State.ite_vault ?_ (State.parityCheck_vault.trans ?_)))
    (State.verifyCheck_vault.trans (State.parityCheck_vault.trans (State.ite_vault rfl State.setBlocks_vault)))
  · exact State.fillBlocks_vault
  · exact State.fillBlocks_vault

theorem State.queueUnit_vault {u : Nat} {b : Bool} : (s.queueUnit r u b).vault = s.vault :=
  State.ite_vault State.unitDone_vault rfl

theorem State.queueTrailers_vault {b : Bool} : (s.queueTrailers r b).vault = s.vault :=
  (State.each_vault fun _ _ => State.queueUnit_vault).trans rfl

theorem State.issueTo_vault {e n : Nat} {b : Bool} : (s.issueTo r e b n).vault = s.vault := by
  induction n generalizing s with
  | zero => rfl
  | succ n ih =>
    unfold State.issueTo
    dsimp only
    have pool : ∀ c : Prop, ∀ _ : Decidable c, (if c then s.reservePool r else s).vault = s.vault :=
      fun _ _ => State.ite_vault State.reservePool_vault rfl
    refine State.ite_vault rfl (State.ite_vault (pool _ _) (ih.trans (State.queueUnit_vault.trans ?_)))
    refine (rfl : _ = State.vault _).trans ?_
    split
    · exact State.ite_vault (State.ite_vault (pool _ _) (pool _ _)) (State.ite_vault (pool _ _) (pool _ _))
    · exact State.ite_vault (pool _ _) (pool _ _)

theorem State.closeRow_vault : (s.closeRow r).vault = s.vault := by
  unfold State.closeRow
  dsimp only
  split
  · rfl
  · refine State.ite_vault rfl ?_
    have pool : ∀ c : Prop, ∀ _ : Decidable c, ∀ t : State, (if c then t else t.reservePool r).vault = t.vault :=
      fun _ _ _ => State.ite_vault rfl State.reservePool_vault
    refine State.ite_vault ((pool _ _ _).trans State.issueTo_vault) (State.queueTrailers_vault.trans ?_)
    split
    · exact (pool _ _ _).trans State.issueTo_vault
    · exact (pool _ _ _).trans State.issueTo_vault

theorem State.driveRow_vault {e : Nat} : (s.driveRow r e).vault = s.vault :=
  State.closeRow_vault.trans State.issueTo_vault

end

/-! ### Ends of commands -/

section
variable {t n seq : Nat}

theorem State.queueReads_vault {l : List (Nat × Nat × Source)} : (s.queueReads t n l).vault = s.vault := by
  refine State.foldl_vault fun u x => ?_
  split
  · dsimp only
    split <;> rfl
  · rfl

theorem State.resource_vault : (s.resource seq).vault = s.vault := by
  refine State.each_vault fun u x => State.foldl_vault fun v y => ?_
  split
  · refine State.ite_vault rfl (State.queueReads_vault.trans ?_)
    refine (rfl : _ = State.vault _).trans ?_
    split
    · exact State.dropClaim_vault
    · exact State.dropClaim_vault
  · rfl

theorem State.failWrite_vault {reason : Nat} : (s.failWrite seq reason).vault = s.vault := by
  unfold State.failWrite
  split
  · rfl
  next e _ =>
    dsimp only
    refine State.sweepExpos_vault.trans ?_
    have driven : ∀ v : State, (match e.row with
        | some r => v.driveRow r ((v.rowRec r).endAt.getD (v.zoneAt e.nsid (e.slba / zoneBlocks)).wp)
        | none => v).vault = v.vault := fun v => by
      split
      · exact State.driveRow_vault
      · rfl
    refine (driven _).trans (State.ite_vault ?_ (State.log_vault.trans ?_))
    all_goals
      refine State.dropEntriesOf_vault.trans (State.releaseUnits_vault.trans (State.resource_vault.trans
        (State.ite_vault (Eq.trans (State.each_vault fun _ _ => ?_) ?_) ?_))) <;> rfl

theorem State.endRead_vault : (s.endRead t).vault = s.vault := by
  refine State.removeEntries_vault.trans (State.endWalk_vault.trans (State.releaseUnits_vault.trans
    (State.each_vault fun u x => ?_)))
  split
  · exact State.dropClaim_vault
  · rfl

theorem State.dropWaiting_vault : (s.dropWaiting t).vault = s.vault :=
  (rfl : _ = State.vault _).trans (State.each_vault fun _ _ => rfl)

end

/-! ### Discarded descriptors -/

/-- Glaze holds no descriptor: no lane runs or keeps one, and none waits. -/
structure GlazePart.Idle (g : GlazePart) : Prop where
  lanes : g.lanes = []
  urgentQ : g.urgentQ = []
  bulkQ : g.bulkQ = []
  waiting : g.waiting = []

theorem State.laneNext_of_idle {l n : Nat} (idle : s.glaze.Idle) : s.laneNext l n = s := by
  obtain ⟨lanes, urgentQ, bulkQ, -⟩ := idle
  have lane : s.lane l = {} := by
    unfold State.lane
    rw [lanes]
    rfl
  cases n with
  | zero => rfl
  | succ n =>
    unfold State.laneNext
    rw [lane, urgentQ, bulkQ]
    rfl

theorem GlazePart.Idle.cleared {g : GlazePart} (idle : g.Idle) :
    ({ g with lanes := [], waiting := [], urgentQ := [], bulkQ := [] } : GlazePart) = g := by
  obtain ⟨lanes, urgentQ, bulkQ, waiting⟩ := idle
  cases g
  cases lanes
  cases urgentQ
  cases bulkQ
  cases waiting
  rfl

theorem State.each_nil {α : Type} {f : State → α → State} : s.each [] f = s := rfl

theorem State.discardDescs_of_idle {t gen : Nat} (idle : s.glaze.Idle) : s.discardDescs t gen = s := by
  have next : (s.each s.freeLanes fun s l => s.laneNext l (s.laneTries l)) = s :=
    State.each_fixed fun l _ => State.laneNext_of_idle idle
  have same : ({ s with glaze := { s.glaze with lanes := [], waiting := [], urgentQ := [], bulkQ := [] } } : State) = s :=
    congrArg (fun g => ({ s with glaze := g } : State)) idle.cleared
  obtain ⟨lanes, urgentQ, bulkQ, waiting⟩ := idle
  unfold State.discardDescs
  simp only [lanes, urgentQ, bulkQ, waiting, List.filter_nil, List.flatMap_nil, List.append_nil, State.each_nil,
    Tab.mapVals]
  dsimp only at same
  rw [same]
  exact next

section
variable {t status : Nat} (idle : s.glaze.Idle)
include idle

theorem State.postDiscarded_vault {v : State} (kept : v.vault = s.vault) {gen st dw0 : Nat} :
    ((v.discardDescs t gen).postTag t st dw0).vault = s.vault := by
  have same : v.glaze = s.glaze := congrArg Prod.fst kept
  rw [State.discardDescs_of_idle (by rw [same]; exact idle)]
  exact State.postTag_vault.trans kept

theorem State.abortEnds_vault {v : State} (kept : v.vault = s.vault) {gen : Nat} :
    ((true, (v.discardDescs t gen).postTag t status 0) : Bool × State).2.vault = s.vault := by
  dsimp only
  exact State.postDiscarded_vault idle kept

theorem State.abortTag_vault : (s.abortTag t status).2.vault = s.vault := by
  have ite_snd : ∀ (c : Prop) (_ : Decidable c) (a b : Bool × State), a.2.vault = s.vault → b.2.vault = s.vault →
      (if c then a else b).2.vault = s.vault := fun c _ a b ha hb => by
    split
    · exact ha
    · exact hb
  have same : ((false, s) : Bool × State).2.vault = s.vault := rfl
  unfold State.abortTag
  dsimp only
  split
  · exact same
  · exact same
  · exact State.abortEnds_vault idle rfl
  · refine ite_snd _ _ _ _ same ?_
    split
    · exact ite_snd _ _ _ _ same (State.abortEnds_vault idle State.endRead_vault)
    · exact State.abortEnds_vault idle rfl
    · exact State.abortEnds_vault (v := s.modInst _ _) idle rfl
    · exact ite_snd _ _ _ _ same (State.abortEnds_vault idle State.dropWaiting_vault)
    · exact ite_snd _ _ _ _ (State.abortEnds_vault idle State.failWrite_vault) same

theorem State.failTag_vault : (s.failTag t status).vault = s.vault := by
  unfold State.failTag
  dsimp only
  exact State.ite_vault rfl (State.ite_vault (State.postDiscarded_vault idle State.failWrite_vault)
    (State.ite_vault (State.postDiscarded_vault idle State.endRead_vault)
      (State.ite_vault (State.abortTag_vault idle) rfl)))

end

end Sys2Proof.Machine
end

section
/-! Proofs: key slots and alarms (R286 to R288, R298, R300, R507). -/

namespace Sys2Proof

theorem Tab.mem_mapVals {α : Type} [DecidableEq α] {d : α} {f : Nat → α → α} {t : Tab α} {x : Nat × α}
    (mem : x ∈ t.mapVals d f) : ∃ v, x.2 = f x.1 v := by
  induction t with
  | nil => cases mem
  | cons e t ih =>
    unfold Tab.mapVals Tab.cons at mem
    split at mem
    · exact ih mem
    · rcases List.mem_cons.1 mem with rfl | rest
      · exact ⟨e.2, rfl⟩
      · exact ih rest

namespace Machine

set_option Elab.async false

variable {s : State}

/-! ### Key slots -/

section
variable {n r k why key : Nat} {b : Bool}

theorem execKeyUnwrapLoad_refused (h : (s.range n r).exists_ = false ∨ s.glaze.rootKeys = false ∨
    (s.range n r).wrapped.unwrap (s.wrapUnder (s.range n r)) = none) :
    execKeyUnwrapLoad n r b s = .next (s.emit (.reply Port.engine [(s.range n r).slot, 1])) := by
  unfold execKeyUnwrapLoad
  dsimp only
  split
  · rfl
  next there =>
    have none_ : (s.range n r).wrapped.unwrap (s.wrapUnder (s.range n r)) = none := by
      rcases h with missing | root | none_
      · simp [missing] at there
      · simp [root] at there
      · exact none_
    rw [none_]

theorem execKeyUnwrapLoad_unwrapped (there : (s.range n r).exists_ = true) (root : s.glaze.rootKeys = true)
    (unwraps : (s.range n r).wrapped.unwrap (s.wrapUnder (s.range n r)) = some key) :
    execKeyUnwrapLoad n r b s = if (!(decide ((s.ns n).mode = .sealed_))) = true ∧ (!b) = true
      then .next (s.emit (.reply Port.engine [(s.range n r).slot, 1]))
      else .next (State.resumeRows ((s.loadSlot (s.range n r).slot key (decide ((s.ns n).mode = .sealed_))).emit
        (.reply Port.engine [(s.range n r).slot, 0]))) := by
  unfold execKeyUnwrapLoad
  dsimp only
  rw [if_neg (by simp [there, root]), unwraps]

theorem execKeySlotUnload_of_slot (slot : k ≠ 0) (known : why ≤ 3) :
    execKeySlotUnload k why s = .next (if (s.slotAt k).st = .ready then
      s.modSlot k fun x => { x with st := .draining, lockAfter := if why = 0 then none else some why } else s) :=
  (if_neg (by omega)).trans (congrArg _ (ite_not _ _ _))

theorem execKeySlotDrained_held (h : (s.slotAt k).st ≠ .draining ∨ (s.slotAt k).accepted ≠ 0) :
    execKeySlotDrained k s = .next s :=
  congrArg _ (if_pos h)

/-- The end of a drain (R288). -/
def Slot.drained (x : Slot) : Slot :=
  match x.lockAfter with
  | some r => { x with st := .locked, reason := r, key := none, lockAfter := none }
  | none => { x with st := .empty, reason := 0, key := none, lockAfter := none, tag := none }

theorem execKeySlotDrained_of_drained (drains : (s.slotAt k).st = .draining) (none_ : (s.slotAt k).accepted = 0) :
    execKeySlotDrained k s = .next (s.modSlot k Slot.drained) := by
  unfold execKeySlotDrained State.slotDrained
  dsimp only
  rw [if_neg (by simp [drains, none_])]
  split
  next why locked =>
    exact congrArg _ (State.modSlot_congr (by unfold Slot.drained; rw [locked]))
  next empty =>
    exact congrArg _ (State.modSlot_congr (by unfold Slot.drained; rw [empty]))

end

/-! ### Alarms -/

theorem State.endDiscarded_vault {l : List GDesc} (idle : s.glaze.Idle) :
    (s.each l fun s d =>
      let s := s.gdResult d 5
      if d.internal then s
      else if (s.tag d.tag).stage = .inFlight ∧ (s.tag d.tag).gen = d.gen then s.failTag d.tag Status.accessDenied
      else s).vault = s.vault := by
  refine List.foldlRecOn (motive := fun t : State => t.vault = s.vault) l _ rfl fun t kept d _ => ?_
  have sent : (t.gdResult d 5).vault = s.vault := State.emit_vault.trans kept
  dsimp only
  generalize t.gdResult d 5 = u at sent
  have same : u.glaze = s.glaze := congrArg Prod.fst sent
  exact State.ite_vault sent (State.ite_vault ((State.failTag_vault (by rw [same]; exact idle)).trans sent) sent)

/-- Glaze's part once an alarm has cleared it. -/
def GlazePart.zeroized (g : GlazePart) (code : Nat) : GlazePart :=
  { g with
    slots := g.slots.mapVals {} fun _ (k : Slot) =>
      if k.st = SlotState.empty then k
      else { k with st := .locked, reason := 2, key := none, accepted := 0, lockAfter := none }
    rootKeys := false, lanes := [], urgentQ := [], bulkQ := [], waiting := []
    alarm := some code, alarmGrave := g.alarmGrave || decide (alarmClass code = 3), lastAlarm := code }

theorem GlazePart.zeroized_idle {g : GlazePart} {code : Nat} : (g.zeroized code).Idle := ⟨rfl, rfl, rfl, rfl⟩

theorem GlazePart.zeroized_slots {g : GlazePart} {code : Nat} : ∀ k ∈ (g.zeroized code).slots, k.2.st ≠ .empty →
    k.2.st = .locked ∧ k.2.reason = 2 ∧ k.2.key = none := by
  intro k mem used
  obtain ⟨v, same⟩ := Tab.mem_mapVals mem
  split at same
  next empty => exact absurd (same ▸ empty) used
  next => rw [same]; exact ⟨rfl, rfl, rfl⟩

theorem State.zeroize_vault {code : Nat} : (s.zeroize code).vault =
    (s.glaze.zeroized code, { s.fault with lines := { s.fault.lines with zeroize := true } },
      { s.pcie.ide with secure := false, keys := [], inUse := [] }, s.intake.stopped, s.boot) := by
  unfold State.zeroize
  exact (State.endDiscarded_vault GlazePart.zeroized_idle).trans rfl

theorem execGlazeAlarm_of_code {code : Nat} (low : 1 ≤ code) (high : code ≤ 5) :
    execGlazeAlarm code s = .next (s.raiseAlarm code) :=
  if_neg (by omega)

theorem execAlarmRecovery_held {b : Bool} (h : s.glaze.alarm = none ∨ s.glaze.alarmGrave = true ∨ s.derivesNothing = true) :
    execAlarmRecovery b s = .next s :=
  if_pos (by simpa using h)

section
variable (alarm : s.glaze.alarm ≠ none) (severe : s.glaze.alarmGrave = false) (derives : s.derivesNothing = false)
  (good : s.otpFailure = none)
include alarm severe derives

theorem execAlarmRecovery_failed : execAlarmRecovery false s = .next (s.raiseAlarm 5) :=
  (if_neg (by simp [alarm, severe, derives])).trans (if_pos (Or.inl rfl))

include good

theorem execAlarmRecovery_recovered : execAlarmRecovery true s = .next (State.resumeRows { s.deriveKeys.loadUnguarded with
    glaze := { s.deriveKeys.loadUnguarded.glaze with alarm := none }
    fault := { s.deriveKeys.loadUnguarded.fault with
      lines := { s.deriveKeys.loadUnguarded.fault.lines with zeroize := false } } }) :=
  (if_neg (by simp [alarm, severe, derives])).trans (if_neg (by simp [good]))

end

theorem execOtpIntegrityRecheck_good (good : s.otpFailure = none) : execOtpIntegrityRecheck true s = .next s.otpOneBad :=
  if_neg (by simp [good])

theorem execOtpIntegrityRecheck_bad : execOtpIntegrityRecheck false s = .next (s.raiseAlarm 5) := if_pos (Or.inl rfl)

/-- Settles O41: a load by its unwrap, a drain by what it ends in, an alarm by what it clears. -/
theorem keyAlarmRows : Obligations.KeyAlarmRows := by
  unfold Obligations.KeyAlarmRows
  refine ⟨⟨?_, ?_⟩, ?_, fun code s out => if_pos out, ?_⟩
  · intro n r key s x
    refine ⟨fun h b => execKeyUnwrapLoad_refused h, fun there root unwraps => ⟨fun other => ?_, ?_⟩⟩
    · exact (execKeyUnwrapLoad_unwrapped there root unwraps).trans (if_pos ⟨by simpa using other, rfl⟩)
    · exact (execKeyUnwrapLoad_unwrapped there root unwraps).trans (if_neg (by simp))
  · exact fun k why s => ⟨fun h => if_pos h, execKeySlotUnload_of_slot, execKeySlotDrained_held, execKeySlotDrained_of_drained⟩
  · intro code s low high
    refine ⟨_, execGlazeAlarm_of_code low high, ?_⟩
    unfold State.raiseAlarm
    generalize (if code = 5 then _ else _ : State) = u
    obtain ⟨glaze, fault, -⟩ : (u.zeroize code).glaze = _ ∧ (u.zeroize code).fault = _ ∧ _ := by
      simpa only [State.vault, State.aside, Prod.mk.injEq] using State.zeroize_vault (s := u) (code := code)
    rw [glaze, fault]
    exact ⟨rfl, rfl, rfl, GlazePart.zeroized_slots, rfl, rfl, rfl, rfl⟩
  · exact fun s => ⟨fun h b => execAlarmRecovery_held h,
      fun alarm severe derives good => ⟨execAlarmRecovery_failed alarm severe derives,
        execAlarmRecovery_recovered alarm severe derives good⟩,
      fun good => execOtpIntegrityRecheck_good good, execOtpIntegrityRecheck_bad⟩

end Machine
end Sys2Proof
end

section
/-! Proofs: Opal and Key Per I/O (R270, R289 to R295). -/

namespace Sys2Proof.Machine

set_option Elab.async false

variable {s : State}

/-! ### Opal -/

section
variable {a c n r : Nat} {x : LockSet}

theorem execOpalAuthenticate_wrong (wrong : s.glaze.credentials.get none a ≠ some c) :
    execOpalAuthenticate a c s = .next (s.tcg 1) :=
  if_pos wrong

theorem execOpalAuthenticate_again (right : s.glaze.credentials.get none a = some c) (known : a ∈ s.glaze.authenticated) :
    execOpalAuthenticate a c s = .next ((s.loadGuarded a).resumeRows.tcg 0) := by
  unfold execOpalAuthenticate
  rw [if_neg (by simp [right]), if_pos (List.contains_iff_mem.2 known)]

theorem execOpalSetCredential_refused (refused : s.mayAct a = false) : execOpalSetCredential a c s = .next (s.tcg 1) :=
  if_pos (by simp [refused])

theorem execOpalSetCredential_failed (may : s.mayAct a = true) (fails : s.glaze.drbgFail = true) :
    execOpalSetCredential a c s = .next (s.tcg Status.internalError) :=
  (if_neg (by simp [may])).trans (if_pos fails)

/-- A credential of an authority that guards no range. -/
theorem execOpalSetCredential_alone (may : s.mayAct a = true) (healthy : s.glaze.drbgFail = false)
    (none_ : ∀ r ∈ s.glaze.ranges, r.2.authority ≠ some a) : execOpalSetCredential a c s =
      .next (State.tcg (State.storeKeys { s.newKey.2 with
        glaze := { s.newKey.2.glaze with credentials := s.newKey.2.glaze.credentials.set none a (some c) } }) 0) := by
  have mine : (s.glaze.ranges.filter fun r => r.2.exists_ && decide (r.2.authority = some a)) = [] :=
    List.filter_eq_nil_iff.2 fun r mem => by simp [none_ r mem]
  have ranges : s.newKey.2.glaze.ranges = s.glaze.ranges := rfl
  unfold execOpalSetCredential
  dsimp only
  rw [if_neg (by simp [may]), if_neg (by simp [healthy]), ranges, mine]
  rfl

theorem execOpalSetLocking_invalid (h : (s.ns n).exists_ = false ∨ 127 < r ∨ x.hi < x.lo) :
    execOpalSetLocking n r x s = .next (s.tcg Status.invalidField) :=
  if_pos (by simpa using h)

section
variable (there : (s.ns n).exists_ = true) (known : r ≤ 127) (ordered : x.lo ≤ x.hi)
include there known ordered

theorem opalRange_valid : ¬ ((!(s.ns n).exists_) = true ∨ 127 < r ∨ x.hi < x.lo) := by
  simp only [there, Bool.not_true, Bool.false_eq_true, false_or]
  omega

theorem execOpalSetLocking_refused (guarded : (s.range n r).authority = some a) (refused : s.mayAct a = false) :
    execOpalSetLocking n r x s = .next (s.tcg 1) :=
  (if_neg (opalRange_valid there known ordered)).trans (if_pos (by simp [guarded, refused]))

variable (free : (s.range n r).authority = none)
include free

theorem execOpalSetLocking_of_range (range : (s.range n r).exists_ = true) : execOpalSetLocking n r x s =
    .next ((((s.rewrap n r fun r => r.setTo x).storeKeys.applyLock n r).resumeRows).tcg 0) :=
  (if_neg (opalRange_valid there known ordered)).trans ((if_neg (by simp [free])).trans (if_pos range))

theorem execOpalSetLocking_of_clear (fresh : (s.range n r).exists_ = false) (clear : (s.ns n).mode = .clear) :
    execOpalSetLocking n r x s = .next ((s.modRange n r fun r => { r.setTo x with exists_ := true }).storeKeys.tcg 0) :=
  (if_neg (opalRange_valid there known ordered)).trans ((if_neg (by simp [free])).trans
    ((if_neg (by simp [fresh])).trans (if_pos (Or.inl clear))))

end

theorem execOpalGenkey_invalid {b : Bool} (h : (s.ns n).mode = .clear ∨ (s.ns n).mode = .keyPerIo ∨ (s.range n r).exists_ = false) :
    execOpalGenkey n r b s = .next (s.tcg Status.invalidField) :=
  if_pos (Or.inr (by simpa using h))

theorem execOpalGenkey_of_range (there : (s.ns n).exists_ = true) (mode : (s.ns n).mode = .xts ∨ (s.ns n).mode = .sealed_)
    (range : (s.range n r).exists_ = true) (healthy : s.glaze.drbgFail = false) :
    execOpalGenkey n r false s = .next ((s.cryptoErase n r).tcg 0) := by
  have valid : ¬ ((!(s.ns n).exists_) = true ∨ (s.ns n).mode = .clear ∨ (s.ns n).mode = .keyPerIo ∨
      (!(s.range n r).exists_) = true) := by
    rcases mode with mode | mode <;> simp [there, mode, range]
  exact (if_neg valid).trans ((if_neg (by simp [healthy])).trans (if_pos rfl))

end

/-! ### Key Per I/O -/

/-- A slot is reserved for a key tag of an instance. -/
def State.withTag (s : State) (i n tag k : Nat) : State :=
  let t := s.modSlot k fun x => { x with owner := i, tag := some (n, tag) }
  { t with glaze := { t.glaze with keyTags := t.glaze.keyTags.set none (n * 1024 + tag) (some k) } }

section
variable {i n tag kek key k : Nat}

theorem execKeyPerIoKekSet_invalid (other : (s.ns n).mode ≠ .keyPerIo) :
    execKeyPerIoKekSet n kek s = .next (s.tcg Status.invalidField) :=
  if_pos (Or.inl other)

theorem execKeyPerIoKekSet_of_mode (mode : (s.ns n).mode = .keyPerIo) (root : s.glaze.rootKeys = true) :
    execKeyPerIoKekSet n kek s = .next (State.tcg { s with glaze := { s.glaze with
      keks := s.glaze.keks.set none n (some { under := kWrap s.drk, key := kek }), storeSeq := s.glaze.storeSeq + 1,
      storeBad := [] } } 0) :=
  if_neg (by simp [mode, root])

theorem execKeyTagInject_invalid (other : (s.ns n).mode ≠ .keyPerIo) :
    execKeyTagInject i n tag kek key true s = .next (s.tcg Status.invalidField) :=
  if_pos (Or.inl other)

section
variable (mode : (s.ns n).mode = .keyPerIo) (known : tag < 1024)
include mode known

theorem execKeyTagInject_wrong (wrong : s.kekOf n ≠ some kek) :
    execKeyTagInject i n tag kek key true s = .next (s.tcg Status.invalidField) :=
  (if_neg (by simpa [mode] using known)).trans (if_pos (Or.inl wrong))

/-- A key tag that holds no slot yet takes a free one within the instance's quota. -/
theorem execKeyTagInject_fresh (right : s.kekOf n = some kek) (fresh : s.glaze.keyTags.get none (n * 1024 + tag) = none) :
    execKeyTagInject i n tag kek key true s = if (s.inst i).keyQuota ≤ s.slotsHeld i then .next (s.tcg 7)
      else match s.freeSlot with
        | none => .next (s.tcg 7)
        | some k => .next (((s.withTag i n tag k).loadSlot k key false).tcg 0) := by
  unfold execKeyTagInject
  rw [if_neg (by simpa [mode] using known), if_neg (by simp [right]), fresh]
  rfl

end

theorem State.slotAt_loadSlot {gcm : Bool} : (s.loadSlot k key gcm).slotAt k = { s.slotAt k with
    st := .ready, gcm := gcm, reason := 0, gen := ((s.slotAt k).gen + 1) % 256, key := some key, lockAfter := none } :=
  State.slotAt_modSlot_self fun e => by cases congrArg Slot.st e

theorem State.slotAt_withTag : (s.withTag i n tag k).slotAt k = { s.slotAt k with owner := i, tag := some (n, tag) } := by
  have held : (s.modSlot k fun x => { x with owner := i, tag := some (n, tag) }).slotAt k =
      { s.slotAt k with owner := i, tag := some (n, tag) } :=
    State.slotAt_modSlot_self fun e => by cases congrArg Slot.tag e
  exact held

/-- The slot and the key tag table once a tag has taken its slot. -/
theorem State.loadSlot_withTag :
    let t := ((s.withTag i n tag k).loadSlot k key false).tcg 0
    (t.slotAt k).st = .ready ∧ (t.slotAt k).key = some key ∧ (t.slotAt k).tag = some (n, tag) ∧ (t.slotAt k).owner = i ∧
      t.glaze.keyTags.get none (n * 1024 + tag) = some k ∧ t.zone = s.zone := by
  intro t
  have sent : t = { (s.withTag i n tag k).loadSlot k key false with
      out := .reply Port.tcg [0] :: ((s.withTag i n tag k).loadSlot k key false).out } := State.emit_reply ..
  have slot : t.slotAt k = ((s.withTag i n tag k).loadSlot k key false).slotAt k :=
    (congrArg (fun t : State => t.slotAt k) sent :)
  rw [State.slotAt_loadSlot] at slot
  rw [State.slotAt_withTag] at slot
  have keyTags : t.glaze.keyTags = s.glaze.keyTags.set none (n * 1024 + tag) (some k) :=
    (congrArg (fun t : State => t.glaze.keyTags) sent).trans rfl
  have zone : t.zone = s.zone := (congrArg (fun t : State => t.zone) sent).trans rfl
  rw [slot, keyTags]
  exact ⟨rfl, rfl, rfl, rfl, Tab.get_set_self_of_ne (by simp), zone⟩

theorem execKeyTagClear_invalid (none_ : s.glaze.keyTags.get none (n * 1024 + tag) = none) :
    execKeyTagClear n tag s = .next (s.tcg Status.invalidField) := by
  unfold execKeyTagClear
  rw [none_]

theorem execKeyTagClear_of_ready (some_ : s.glaze.keyTags.get none (n * 1024 + tag) = some k)
    (ready : (s.slotAt k).st = .ready) : ∃ t, execKeyTagClear n tag s = .next t ∧
      (t.slotAt k).st = .draining ∧ (t.slotAt k).lockAfter = none ∧ t.zone = s.zone ∧ t.regs = s.regs := by
  have run : execKeyTagClear n tag s = .next (State.tcg (State.modSlot { s with
      glaze := { s.glaze with keyTags := s.glaze.keyTags.set none (n * 1024 + tag) none } } k
        fun x => { x with st := .draining, lockAfter := none }) 0) := by
    unfold execKeyTagClear
    rw [some_]
    exact congrArg (fun t : State => Host.Outcome.next (t.tcg 0)) ((if_pos ready).trans (if_neg (not_not.2 ready)))
  refine ⟨_, run, ?_⟩
  unfold State.tcg
  rw [State.emit_reply]
  have slot : (s.modSlot k fun x => { x with st := .draining, lockAfter := none }).slotAt k =
      { s.slotAt k with st := .draining, lockAfter := none } :=
    State.slotAt_modSlot_self fun e => by cases congrArg Slot.st e
  exact ⟨(congrArg Slot.st slot :), (congrArg Slot.lockAfter slot :), rfl, rfl⟩

end

/-- Settles O42: each TCG method and each key tag row by the guard that decides it. -/
theorem opalKeyRows : Obligations.OpalKeyRows := by
  unfold Obligations.OpalKeyRows
  refine ⟨⟨?_, ?_, ?_⟩, ?_, ?_⟩
  · intro a c s
    refine ⟨execOpalAuthenticate_wrong, execOpalAuthenticate_again, execOpalSetCredential_refused,
      execOpalSetCredential_failed, fun may healthy none_ => ?_⟩
    refine ⟨_, execOpalSetCredential_alone may healthy none_, ?_⟩
    unfold State.tcg
    rw [State.emit_reply]
    exact ⟨Tab.get_set_self_of_ne (by simp), rfl, rfl, rfl⟩
  · exact fun n r x s => ⟨execOpalSetLocking_invalid, fun a there known ordered guarded refused =>
      execOpalSetLocking_refused there known ordered guarded refused, fun there known ordered free =>
        ⟨execOpalSetLocking_of_range there known ordered free, execOpalSetLocking_of_clear there known ordered free⟩⟩
  · exact fun n r b s => ⟨execOpalGenkey_invalid, execOpalGenkey_of_range⟩
  · intro i n tag kek key k s
    refine ⟨fun other => ⟨execKeyPerIoKekSet_invalid other, execKeyTagInject_invalid other⟩, fun mode =>
      ⟨execKeyPerIoKekSet_of_mode mode, execKeyTagInject_wrong mode, fun known right fresh => ⟨fun full => ?_,
        fun room free => ?_⟩⟩, execKeyTagClear_invalid, execKeyTagClear_of_ready⟩
    · exact (execKeyTagInject_fresh mode known right fresh).trans (if_pos full)
    · refine ⟨_, (execKeyTagInject_fresh mode known right fresh).trans ((if_neg (Nat.not_le.2 room)).trans ?_),
        State.loadSlot_withTag⟩
      rw [free]
  · intro n s
    refine ⟨fun h => if_pos ?_, fun waits refires => if_neg (by simp [waits, refires]), rfl, rfl⟩
    rcases h with h | h <;> simp [h]

end Sys2Proof.Machine
end

section
/-! Proofs: DRAM requests, errors and upkeep (R324 to R340; Table 11.5). -/

namespace Sys2Proof.Machine

set_option Elab.async false

variable {s : State}

/-! ### Requests -/

section
variable {c k b : Nat} {r : DramReq}

section
variable (on : s.dramOn c k = true)
include on

theorem execDramRequestArrival_on : execDramRequestArrival c k r s = .next (s.dramArrive c k r) :=
  congrArg _ (if_pos on)

theorem execDramRequestArrival_queued (none_ : (s.dchan c).queuedWrite k r.addr = none) :
    let e : DEntry := { req := r, at_ := s.now, cap := s.cfgOf Cfg.DMC_AGE_CAP / 10 }
    execDramRequestArrival c k r s = .next (s.modDchan c fun x => if 256 ≤ (s.dchan c).queue.length then
      { x with waiting := x.waiting ++ [(k, e)] } else { x with queue := x.queue ++ [(k, e)] }) := by
  refine (execDramRequestArrival_on on).trans (congrArg _ ?_)
  unfold State.dramArrive
  dsimp only
  rw [none_]
  dsimp only
  split <;> rfl

section
variable {w : Nat × DEntry} (write : (s.dchan c).queuedWrite k r.addr = some w)
include write

theorem execDramRequestArrival_read (read : r.write = false) :
    execDramRequestArrival c k r s = .next (s.emit (.reply Port.engine [r.id, w.2.req.data, w.2.req.poison.toNat])) := by
  refine (execDramRequestArrival_on on).trans (congrArg _ ?_)
  unfold State.dramArrive
  dsimp only
  rw [write]
  exact if_pos (by simp [read])

theorem execDramRequestArrival_dropped (writes : r.write = true) (back : r.writeBack = true) :
    execDramRequestArrival c k r s = .next s := by
  refine (execDramRequestArrival_on on).trans (congrArg _ ?_)
  unfold State.dramArrive
  dsimp only
  rw [write]
  exact (if_neg (by simp [writes])).trans (if_pos back)

theorem execDramRequestArrival_replaced (writes : r.write = true) (fresh : r.writeBack = false) :
    execDramRequestArrival c k r s = .next (s.modDchan c fun x => { x with
      queue := x.queue.map fun e => if e = w then (e.1, { e.2 with req := { e.2.req with data := r.data, poison := r.poison } })
        else e }) := by
  refine (execDramRequestArrival_on on).trans (congrArg _ ?_)
  unfold State.dramArrive
  dsimp only
  rw [write]
  exact (if_neg (by simp [writes])).trans (if_neg (by simp [fresh]))

end

variable (free : s.dramHeld c k = false) (awake : s.selfRefresh = false)
include free awake

theorem dramIssue_open : ¬ ((!s.dramOn c k) = true ∨ s.dramHeld c k = true ∨ s.selfRefresh = true) := by
  simp [on, free, awake]

theorem execDramRequestIssue_forced (forced : bankIndex b ∈ ((s.dchan c).sub k).forced) :
    execDramRequestIssue c k b s = .next (s.refreshIdx c k (bankIndex b)) :=
  (if_neg (dramIssue_open on free awake)).trans (if_pos (List.contains_iff_mem.2 forced))

variable (due : bankIndex b ∉ ((s.dchan c).sub k).forced)
include due

theorem execDramRequestIssue_none (none_ : s.dramNext c k b = none) : execDramRequestIssue c k b s = .next s := by
  unfold execDramRequestIssue
  rw [if_neg (dramIssue_open on free awake), if_neg (by simpa using due), none_]

theorem execDramRequestIssue_read {e : Nat × DEntry} (next : s.dramNext c k b = some e) (read : e.2.req.write = false) {q : State}
    (taken : s.modDchan c (fun x => { x with queue := x.queue.erase e }) = q) :
    execDramRequestIssue c k b s = .next (State.dramRoom (q.modSub c k fun x =>
      { (x.open_ b (if e.2.req.closeAfter then 0 else e.2.req.row + 1)) with
        draining := s.writeMode c k && decide (q.cfgAt Cfg.DMC_WR 1 < (q.dchan c).writesIn k)
        inFlight := x.inFlight ++ [{ e.2 with got := x.mem.get {} e.2.req.addr }] }) c) := by
  unfold execDramRequestIssue
  rw [if_neg (dramIssue_open on free awake), if_neg (by simpa using due), next]
  dsimp only
  rw [taken, read]
  rfl

end

theorem execDramRequestIssue_held (held : s.dramHeld c k = true ∨ s.selfRefresh = true) : execDramRequestIssue c k b s = .next s :=
  if_pos (Or.inr held)

end

/-! ### Read returns (Table 11.5) -/

section
variable {c k id : Nat} {e : DEntry} {t : State}
  (found : (((s.dchan c).sub k).inFlight.find? fun e => decide (e.req.id = id)) = some e) (read : e.req.write = false)
  (clean : e.got.poison = false) (out : s.modSub c k (fun x => { x with inFlight := x.inFlight.erase e }) = t)

include found in
theorem DEntry.id_of_found : e.req.id = id := by simpa using List.find?_some found

include read in
theorem State.dramFinish_read {u : State} {x : Burst} :
    u.dramFinish c k e x = u.emit (.reply Port.engine [e.req.id, x.data, x.poison.toNat]) :=
  if_neg (by simp [read])

include found read clean out

theorem execDramReadReturn_clean {again : Nat} :
    execDramReadReturn c k id 0 again s = .next (t.emit (.reply Port.engine [id, e.got.data, 0])) := by
  unfold execDramReadReturn
  rw [found]
  dsimp only
  rw [out, if_neg (by simp [clean]), if_pos rfl, State.dramFinish_read read, DEntry.id_of_found found, clean]
  rfl

theorem execDramReadReturn_corrected : execDramReadReturn c k id 1 0 s = .next
    (((t.bump Reg.DMC_ERR_CORR_COUNT).reportTransient (0x1D0 + c) 0x30 (burstAddress k e.req.addr)).emit
      (.reply Port.engine [id, e.got.data, 0])) := by
  unfold execDramReadReturn
  rw [found]
  dsimp only
  rw [out, if_neg (by simp [clean]), if_neg (by decide), if_pos rfl, State.dramFinish_read read, DEntry.id_of_found found, clean]
  rfl

theorem execDramReadReturn_privileged (priv : e.req.priv = true) (other : e.req.trail = false) :
    execDramReadReturn c k id 2 2 s = .next
      (((t.bump Reg.DMC_ERR_PRIV_COUNT).log Code.dramPrivileged 4 (0x1D0 + c) [c, burstAddress k e.req.addr]).emit
        (.reply Port.engine [id, 0, 2])) := by
  unfold execDramReadReturn
  rw [found]
  dsimp only
  rw [out, if_neg (by simp [clean]), if_neg (by decide), if_neg (by decide), if_pos priv, other, read,
    DEntry.id_of_found found]
  rfl

variable (plain : e.req.priv = false)
include plain

omit read in
/-- A second uncorrectable read of an ordinary requester (R337). -/
theorem execDramReadReturn_lost {again : Nat} (twice : 2 ≤ again) {lost : State}
    (noted : (t.bump Reg.DMC_ERR_POISON_COUNT).report (0x1D0 + c) 0x39 (burstAddress k e.req.addr) 1 = lost) :
    execDramReadReturn c k id 2 again s = .next (lost.dramPoisoned c k e e.got (decide (again ≠ 3))) := by
  unfold execDramReadReturn
  rw [found]
  dsimp only
  rw [out, if_neg (by simp [clean]), if_neg (by decide), if_neg (by decide), if_neg (by simp [plain]), if_neg (by omega),
    show dramSource c = 0x1D0 + c from rfl, noted]

end

section
variable {c k id : Nat} {e : DEntry} (read : e.req.write = false)
include read

theorem State.dramPoisoned_plain {b : Bool} (page : e.req.page = none) (unit : e.req.unit = none) :
    s.dramPoisoned c k e e.got b = s.emit (.reply Port.engine [e.req.id, e.got.data, 1]) := by
  unfold State.dramPoisoned
  rw [if_neg (by simp [read]), page]
  dsimp only
  rw [unit, State.dramFinish_read read]
  rfl

theorem State.dramPoisoned_page {p : Nat} (page : e.req.page = some p) :
    s.dramPoisoned c k e e.got true = (s.modSub c k fun x => { x with
      mem := x.mem.set {} e.req.addr { e.got with poison := false } }).emit (.reply Port.engine [e.req.id, e.got.data, 0]) ∧
    s.dramPoisoned c k e e.got false = (s.report 0x202 0x3B p 3).emit (.reply Port.engine [e.req.id, e.got.data, 1]) := by
  unfold State.dramPoisoned
  rw [if_neg (by simp [read]), page, if_neg (by simp [read])]
  exact ⟨rfl, State.dramFinish_read read⟩

end

/-! ### Upkeep -/

section
variable {c k n : Nat} (on : s.dramOn c k = true)
include on

section
variable (known : n ≤ 3) {lim : State} (began : s.modSub c k (fun y => { y with refLimit := s.reg Reg.DMC_CFG_REF_POSTPONE }) = lim)
include known began

theorem execRefreshDue_idle (queue : ∀ e ∈ (s.dchan c).queue, e.1 = k → bankIndex e.2.req.bank ≠ n)
    (rows : ∀ r ∈ ((s.dchan c).sub k).rows, bankIndex r.1 ≠ n) : execRefreshDue c k n s = .next (lim.refreshIdx c k n) := by
  have noRequest : ((s.dchan c).queue.any fun e => decide (e.1 = k) && decide (bankIndex e.2.req.bank = n)) = false :=
    List.any_eq_false.2 fun e mem busy => by
      simp only [Bool.and_eq_true, decide_eq_true_eq] at busy
      exact queue e mem busy.1 busy.2
  have noRow : (((s.dchan c).sub k).rows.any fun r => decide (bankIndex r.1 = n)) = false :=
    List.any_eq_false.2 fun r mem busy => rows r mem (by simpa using busy)
  unfold execRefreshDue
  dsimp only
  rw [if_neg (by simpa [on] using known), noRequest, noRow, began]
  exact if_pos (Or.inl rfl)

/-- A refresh of a busy bank index that is not forced yet, by the number it has postponed (R330). -/
theorem execRefreshDue_busy (busy : ∃ e ∈ (s.dchan c).queue, e.1 = k ∧ bankIndex e.2.req.bank = n)
    (fresh : n ∉ ((s.dchan c).sub k).forced) :
    execRefreshDue c k n s = if ((s.dchan c).sub k).refLimit ≤ ((s.dchan c).sub k).postponed.get 0 n + 1 then
        .next ((lim.modSub c k fun y => { y with
          forced := y.forced ++ [n], rows := y.rows.keep fun b _ => bankIndex b ≠ n }).modDchan c fun x =>
            { x with forcedRef := x.forcedRef + 1 })
      else .next (lim.modSub c k fun y => { y with
        postponed := y.postponed.set 0 n (((s.dchan c).sub k).postponed.get 0 n + 1) }) := by
  have request : ((s.dchan c).queue.any fun e => decide (e.1 = k) && decide (bankIndex e.2.req.bank = n)) = true := by
    obtain ⟨e, mem, sub, bank⟩ := busy
    exact List.any_eq_true.2 ⟨e, mem, by simp [sub, bank]⟩
  unfold execRefreshDue
  dsimp only
  rw [if_neg (by simpa [on] using known), request, began, if_neg (by simpa using fresh)]

end

theorem execDqsOscillatorCheck_drifted (idle : s.dram.training = none) (up : s.trail.dumpMode = false) :
    execDqsOscillatorCheck c k true s = .next { s with dram := { s.dram with
      retrains := s.dram.retrains + 1
      training := some { chan := c, sub := k, all := false, rate := s.dram.rate, until_ := s.now + 2000 } } } :=
  congrArg _ ((if_pos (by simp [on, idle])).trans (if_neg (by simp [up])))

theorem execDramRowIdleClose_on : execDramRowIdleClose c k n s =
    .next (s.modSub c k fun x => { x with rows := x.rows.set 0 n 0 }) :=
  congrArg _ (if_pos on)

theorem execDramScrubStep_clean :
    execDramScrubStep c k n 0 s = .next { s with dram := { s.dram with scrubbed := s.dram.scrubbed + 1 } } :=
  (if_neg (by simp [on])).trans (if_pos (Or.inr rfl))

theorem execDramScrubStep_corrected (clean : (((s.dchan c).sub k).mem.get {} n).poison = false) {t : State}
    (counted : ({ s with dram := { s.dram with scrubbed := s.dram.scrubbed + 1 } } : State) = t) :
    execDramScrubStep c k n 1 s =
      .next ((t.bump Reg.DMC_ERR_CORR_COUNT).reportTransient (0x1D0 + c) 0x30 (burstAddress k n)) := by
  unfold execDramScrubStep
  dsimp only
  rw [if_neg (by simp [on]), counted, if_neg (by simp [clean]), if_pos rfl]
  rfl

theorem execCaParityAlert_accepted : execCaParityAlert c k 0 n s =
    .next (((s.modSub c k Subchannel.replay).bump Reg.DMC_CA_REPLAY_TRANSIENT).reportTransient (0x1D0 + c) 0x38 (c * 2 + k)) :=
  (if_neg (by simp [on])).trans (if_pos rfl)

section
variable {q : State}
  (lasting : (s.modSub c k fun x => { x with rows := [], recent := [] }).bump Reg.DMC_CA_REPLAY_LASTING = q)
include lasting

theorem execCaParityAlert_retrained : execCaParityAlert c k 1 n s =
    .next ((q.report (0x1D0 + c) 0x38 (c * 2 + k) 0).retrain c k false q.dram.rate 2500000) := by
  unfold execCaParityAlert
  dsimp only
  rw [if_neg (by simp [on]), if_neg (by decide), lasting, if_pos rfl]
  rfl

theorem execCaParityAlert_fallback (rate : n ∈ dramRates) (lower : n < q.dram.rate) : execCaParityAlert c k 2 n s =
    .next (State.retrain (State.report { q with dram := { q.dram with fallback := true } } (0x1D0 + c) 0x38 (c * 2 + k) 1)
      c k true n 2600000) := by
  unfold execCaParityAlert
  dsimp only
  rw [if_neg (by simp [on]), if_neg (by decide), lasting, if_neg (by decide), if_pos (by simp [rate, lower])]
  rfl

theorem execCaParityAlert_dead : execCaParityAlert c k 3 n s =
    .next ((q.modDchan c fun x => { x with dead := true }).report (0x1D0 + c) 0x38 (c * 2 + k) 3) := by
  unfold execCaParityAlert
  dsimp only
  rw [if_neg (by simp [on]), if_neg (by decide), lasting, if_neg (by decide), if_neg (by simp)]
  rfl

end
end

/-- Settles O43: a request by the queued writes, an issue by what holds its bank, a return by its outcome, upkeep by its row. -/
theorem dramRows : Obligations.DramRows := by
  unfold Obligations.DramRows
  refine ⟨⟨?_, ?_⟩, fun s => rfl, ?_⟩
  · intro c k r s on
    refine ⟨execDramRequestArrival_queued on, fun w write => ⟨execDramRequestArrival_read on write,
      execDramRequestArrival_dropped on write, execDramRequestArrival_replaced on write⟩,
      fun b held => execDramRequestIssue_held held, fun free awake b => ⟨execDramRequestIssue_forced on free awake,
        execDramRequestIssue_none on free awake, ?_⟩⟩
    intro e due next read q
    have taken : s.modDchan c (fun x => { x with queue := x.queue.erase e }) = q := rfl
    clear_value q
    exact execDramRequestIssue_read on free awake due next read taken
  · intro c k id e s found read t lost
    have out : s.modSub c k (fun x => { x with inFlight := x.inFlight.erase e }) = t := rfl
    have noted : (t.bump Reg.DMC_ERR_POISON_COUNT).report (0x1D0 + c) 0x39 (burstAddress k e.req.addr) 1 = lost := rfl
    clear_value lost t
    have id_ := DEntry.id_of_found found
    refine ⟨fun clean => execDramReadReturn_clean found read clean out, fun clean plain page unit => ?_,
      fun clean plain p page => ⟨?_, ?_⟩, fun clean priv other => execDramReadReturn_privileged found read clean out priv other,
      fun clean => execDramReadReturn_corrected found read clean out⟩
    · refine (execDramReadReturn_lost found clean out plain (by decide) noted).trans (congrArg _ ?_)
      rw [State.dramPoisoned_plain read page unit, id_]
    · refine (execDramReadReturn_lost found clean out plain (by decide) noted).trans (congrArg _ ?_)
      exact id_ ▸ (State.dramPoisoned_page read page).1
    · refine (execDramReadReturn_lost found clean out plain (by decide) noted).trans (congrArg _ ?_)
      exact id_ ▸ (State.dramPoisoned_page read page).2
  · intro c k n s on
    refine ⟨?_, execDqsOscillatorCheck_drifted on, congrArg _ (if_neg (by simp)), execDramRowIdleClose_on on,
      ⟨execDramScrubStep_clean on, fun clean => execDramScrubStep_corrected on clean rfl⟩, execCaParityAlert_accepted on, ?_⟩
    · intro lim known
      have began : s.modSub c k (fun y => { y with refLimit := s.reg Reg.DMC_CFG_REF_POSTPONE }) = lim := rfl
      clear_value lim
      refine ⟨execRefreshDue_idle on known began, fun busy fresh => ⟨fun room => ?_, fun limit => ?_⟩⟩
      · exact (execRefreshDue_busy on known began busy fresh).trans (if_neg (Nat.not_le.2 room))
      · exact (execRefreshDue_busy on known began busy fresh).trans (if_pos limit)
    · intro q
      have lasting : (s.modSub c k fun x => { x with rows := [], recent := [] }).bump Reg.DMC_CA_REPLAY_LASTING = q := rfl
      clear_value q
      exact ⟨execCaParityAlert_retrained on lasting, execCaParityAlert_fallback on lasting, execCaParityAlert_dead on lasting⟩

end Sys2Proof.Machine
end

section
/-! Proofs: PCIe links, link power and resets (R352 to R356, R404; Tables 12.1, 12.2). -/

namespace Sys2Proof.Machine

set_option Elab.async false

variable {s : State}

/-! ### A Stop and what it leaves aside -/

theorem State.each_aside {α : Type} {l : List α} {f : State → α → State} (h : ∀ t x, (f t x).aside = t.aside) :
    (s.each l f).aside = s.aside :=
  State.each_keeps State.aside h

theorem State.ite_aside {c : Prop} [Decidable c] {a b : State} (ha : a.aside = s.aside) (hb : b.aside = s.aside) :
    (if c then a else b).aside = s.aside := by
  split
  · exact ha
  · exact hb

theorem State.gdResult_aside {d : GDesc} {code : Nat} : (s.gdResult d code).aside = s.aside :=
  State.aside_of_vault State.emit_vault

theorem State.gdEnd_aside {d : GDesc} {code : Nat} : (s.gdEnd d code).aside = s.aside :=
  State.gdResult_aside.trans (State.each_aside fun _ _ => rfl)

theorem State.laneNext_aside {l n : Nat} : (s.laneNext l n).aside = s.aside := by
  induction n generalizing s with
  | zero => rfl
  | succ n ih =>
    have ended : ∀ (u : State) d, ((u.gdEnd d 3).laneNext l n).aside = u.aside := fun u d => ih.trans State.gdEnd_aside
    unfold State.laneNext
    dsimp only
    refine State.ite_aside rfl ?_
    split
    · split
      · rfl
      · exact State.ite_aside rfl (ended _ _)
    · split
      · exact State.ite_aside rfl (ended _ _)
      · exact State.ite_aside rfl (ended _ _)
      · rfl

theorem State.gdPlace_aside {d : GDesc} : (s.gdPlace d).aside = s.aside := by
  unfold State.gdPlace
  split
  · split
    · rfl
    · split
      · split <;> rfl
      · rfl
  · dsimp only
    split <;> rfl

theorem State.gdSubmit_aside {d : GDesc} : (s.gdSubmit d).aside = s.aside :=
  State.ite_aside State.gdResult_aside (State.ite_aside State.gdResult_aside (State.ite_aside rfl
    (State.ite_aside State.gdResult_aside (State.gdPlace_aside.trans (State.each_aside fun _ _ => rfl)))))

theorem State.gdAdmitWaiting_aside : s.gdAdmitWaiting.aside = s.aside := by
  unfold State.gdAdmitWaiting
  split
  · rfl
  · exact State.gdSubmit_aside

theorem State.discardDescs_aside {t gen : Nat} : (s.discardDescs t gen).aside = s.aside := by
  unfold State.discardDescs
  dsimp only
  refine (State.each_aside fun _ _ => State.gdAdmitWaiting_aside).trans ((State.each_aside fun _ _ => State.laneNext_aside).trans
    ((State.each_aside fun _ _ => State.gdEnd_aside).trans ((State.each_aside fun _ _ => State.gdResult_aside).trans ?_)))
  rfl

theorem State.handToWriter_aside {seq : Nat} : (s.handToWriter seq).aside = s.aside := by
  unfold State.handToWriter
  split
  · rfl
  · exact State.each_aside fun _ _ => rfl

theorem State.eachModEnt_aside {l : List Nat} {f : Ent → Ent} : (s.each l fun s p => s.modEnt p f).aside = s.aside :=
  State.each_aside fun _ _ => rfl

theorem State.eachModUnit_aside {l : List Nat} {f : HUnit → HUnit} : (s.each l fun s u => s.modUnit u f).aside = s.aside :=
  State.each_aside fun _ _ => rfl

theorem State.keepWrite_aside {t : Nat} : (s.keepWrite t).aside = s.aside := by
  unfold State.keepWrite
  dsimp only
  exact (rfl : _ = State.aside _).trans (State.eachModUnit_aside.trans (State.handToWriter_aside.trans State.eachModEnt_aside))

theorem State.quiesceTag_aside {t : Nat} : (s.quiesceTag t).aside = s.aside := by
  have discarded : ((s.modTag t fun x => { x with fate := (s.tag t).fateOf }).discardDescs t (s.tag t).gen).aside = s.aside :=
    State.discardDescs_aside
  unfold State.quiesceTag
  dsimp only
  generalize State.discardDescs _ _ _ = u at discarded ⊢
  exact State.ite_aside ((State.aside_of_vault State.failWrite_vault).trans discarded)
    (State.ite_aside (State.keepWrite_aside.trans discarded) (State.ite_aside (State.eachModEnt_aside.trans discarded)
      (State.ite_aside discarded (State.ite_aside ((State.aside_of_vault State.dropWaiting_vault).trans discarded) discarded))))

theorem State.startStop_aside {i kind : Nat} {byManager : Bool} {waiter : Option (Nat × Nat)} :
    (s.startStop i kind byManager waiter).aside = s.aside := by
  unfold State.startStop
  dsimp only
  refine (rfl : _ = State.aside _).trans ((State.each_aside fun _ _ => State.quiesceTag_aside).trans ?_)
  rfl

/-! ### PERST -/

/-- A port in a state that PERST has begun. -/
abbrev PPort.reset (x : PPort) : PPort := { perst := true, lost := x.lost || x.up }

section
variable {p ns : Nat}

theorem execPerstAssert_ignored (h : ns < 1000 ∨ s.portExists p = false ∨ s.boot.io33Low = true) :
    execPerstAssert p ns s = .next s :=
  if_pos (by simpa using h)

section
variable (long : 1000 ≤ ns) (rail : s.boot.io33Low = false)
include long rail

/-- A long PERST of port 0 (R355): the link is down, IDE insecure, then a wake source, then a reset. -/
theorem execPerstAssert_port0 {t : State} (down : (s.modPort 0 PPort.reset).ideInsecure.dropHeld = t)
    (same : t.power.ps = s.power.ps) :
    execPerstAssert 0 ns s = .next (if (if s.power.ps < 3 then t else t.wake 3).boot.dualPort = true
      then (if s.power.ps < 3 then t else t.wake 3).resetPort 0 kindPerst
      else (if s.power.ps < 3 then t else t.wake 3).beginDeviceReset true) := by
  have going : ¬ (ns < 1000 ∨ (!s.portExists 0) = true ∨ s.boot.io33Low = true) := by
    have port : s.portExists 0 = true := rfl
    simpa [port, rail] using long
  unfold execPerstAssert
  dsimp only
  rw [if_neg going, if_pos rfl, down, same]

theorem execPerstAssert_port1 (dual : s.boot.dualPort = true) (awake : s.power.ps < 3) :
    execPerstAssert 1 ns s = .next ((s.modPort 1 PPort.reset).resetPort 1 kindPerst) := by
  have going : ¬ (ns < 1000 ∨ (!s.portExists 1) = true ∨ s.boot.io33Low = true) := by
    have port : s.portExists 1 = true := by simp [State.portExists, dual]
    simpa [port, rail] using long
  unfold execPerstAssert
  dsimp only
  rw [if_neg going, if_neg (show ¬ (1 : Nat) = 0 by decide), if_pos (show (s.modPort 1 _).power.ps < 3 from awake)]
  exact congrArg _ (if_pos dual)

end

/-- A device reset begins: intake stops, the stops of the instances run, what lies aside stays (R404). -/
theorem State.beginDeviceReset_ready {perst : Bool} (ready : s.boot.phase = .ready) (up : s.trail.dumpMode = false)
    (runs : s.fault.graveStopped = false) : (s.beginDeviceReset perst).aside =
      (s.fault, s.pcie.ide, true, { s.boot with shut := some (.device perst) }) := by
  unfold State.beginDeviceReset
  rw [if_neg (by simp [ready, up, runs])]
  refine Eq.trans (State.each_aside fun t i => ?_) rfl
  dsimp only
  split
  · rfl
  · exact State.startStop_aside

theorem execPerstRelease_of_asserted (port : s.portExists p = true) (rail : s.boot.io33Low = false)
    (low : (s.port p).perst = true) : execPerstRelease p s = .next (s.modPort p fun x => { x with perst := false }) :=
  if_neg (by simp [port, rail, low])

end

/-! ### Links -/

section
variable {p rate width sub : Nat}

/-- Only the PCIe attachment's part of the state differs. -/
def State.OnlyPcie (s t : State) : Prop := t = { s with pcie := t.pcie }

theorem State.port_modPort_of_up {f : PPort → PPort} (up : (f (s.port p)).up = true) : (s.modPort p f).port p = f (s.port p) :=
  State.port_modPort_self fun e => by
    rw [e] at up
    cases up

theorem State.linkL0_port {x : PPort} (port : s.port p = x) (up : x.up = true) :
    (s.linkL0 p).port p = { x with l := .l0 } ∧ (s.linkL0 p).pcie.wakeLow = false ∧ s.OnlyPcie (s.linkL0 p) := by
  have there : (s.modPort p fun x => { x with l := .l0 }).port p = { s.port p with l := .l0 } :=
    State.port_modPort_of_up (by rw [port]; exact up)
  rw [port] at there
  exact ⟨there, rfl, rfl⟩

theorem execLinkUp_of_free (port : s.portExists p = true) (released : (s.port p).perst = false) (down : (s.port p).up = false)
    (ready : s.boot.phase = .ready) (known : linkRates.contains rate = true)
    (lanes : (if s.boot.dualPort = true then [8, 4, 2, 1] else [16, 8, 4, 2, 1]).contains width = true) :
    execLinkUp p rate width s = .next ((s.modPort p fun x =>
      { x with up := true, lost := false, rate := rate, width := width, active := width }).linkL0 p) := by
  unfold execLinkUp
  dsimp only
  exact if_neg (by simp only [port, released, down, ready, known, lanes]; decide)

theorem execLinkDown_of_up (up : (s.port p).up = true) : execLinkDown p s = .next
    (if p = 0 then (s.modPort p fun x => { x with up := false, lost := true, l := .l0, active := 0 }).settleClkreq.ideInsecure.dropHeld
      else (s.modPort p fun x => { x with up := false, lost := true, l := .l0, active := 0 }).settleClkreq) :=
  if_neg (by simp [up])

/-- A lost link leaves IDE insecure on port 0, the ports as they stand, and changes the PCIe part alone. -/
theorem State.linkLost_leaves (u : State) {c : Prop} [Decidable c] :
    let t := if c then u.settleClkreq.ideInsecure.dropHeld else u.settleClkreq
    (c → t.pcie.ide.secure = false) ∧ t = { u with pcie := t.pcie } ∧ ∀ k, t.port k = u.port k := by
  dsimp only
  split
  · exact ⟨fun _ => rfl, rfl, fun _ => rfl⟩
  next other => exact ⟨fun e => absurd e other, rfl, fun _ => rfl⟩

theorem execAspmL1Entry_of_idle (up : (s.port p).up = true) (port : s.portExists p = true) (l1 : (s.func (s.portPf p)).l1 = true)
    (idle : s.busyTags = false) (quiet : s.intake.notices = []) (allowed : s.subAllowed (s.func (s.portPf p)) sub = true)
    (due : s.intake.idleAt + s.cfgOf Cfg.PCIE_L1_IDLE_US * 100 ≤ s.now) :
    execAspmL1Entry p sub s = .next (s.modPort p fun x => { x with
      l := if sub = 1 then LState.l11 else if sub = 2 then LState.l12 else LState.l1 }).settleClkreq :=
  if_neg (by simpa [up, port, l1, idle, quiet, allowed] using due)

/-- The lanes of a port are narrowed or widened. -/
theorem State.activeLanes_port {f : PPort → Nat} (up : (s.port p).up = true) :
    ((s.modPort p fun x => { x with active := f x }).port p).active = f (s.port p) ∧
      s.OnlyPcie (s.modPort p fun x => { x with active := f x }) :=
  ⟨congrArg PPort.active (State.port_modPort_of_up (f := fun x => { x with active := f x }) up), rfl⟩

theorem execL0pNarrow_of_wide (up : (s.port p).up = true) (l0 : (s.port p).l = .l0) (l0p : (s.func (s.portPf p)).l0p = true)
    (wide : s.l0pMin ≤ (s.port p).active / 2) :
    execL0pNarrow p s = .next (s.modPort p fun x => { x with active := x.active / 2 }) :=
  if_neg (by simpa [up, l0, l0p] using wide)

theorem execL0pWiden_of_l0 (up : (s.port p).up = true) (l0 : (s.port p).l = .l0) :
    execL0pWiden p s = .next (s.modPort p fun x => { x with active := x.width }) :=
  if_neg (by simp [up, l0])

theorem execAspmL1Exit_of_l1 (up : (s.port p).up = true) (other : (s.port p).l ≠ .l0) (awake : s.power.ps < 3) :
    execAspmL1Exit p s = .next (s.linkL0 p) :=
  if_neg (by simpa [other, up] using awake)

end

/-! ### Wake-up and interrupts -/

section
variable {i v : Nat}

theorem execWakeNAssert_of_pme (enabled : (s.inst i).pmeEn = true) (d3 : (s.inst i).dState = 3)
    (pending : ∃ e ∈ s.tenant.insts, (e.1 = i ∨ (s.isPf i = true ∧ s.portOf e.1 = s.portOf i)) ∧ e.2.events ≠ []) :
    execWakeNAssert i s =
      .next (State.emit { s with pcie := { s.pcie with wakeLow := true } } (.reply Port.pin [1])) := by
  obtain ⟨e, mem, mine, some_⟩ := pending
  have any : (s.tenant.insts.any fun e =>
      (decide (e.1 = i) || (s.isPf i && decide (s.portOf e.1 = s.portOf i))) && !e.2.events.isEmpty) = true :=
    List.any_eq_true.2 ⟨e, mem, by simpa [some_] using mine⟩
  exact if_pos ⟨enabled, d3, any⟩

/-- The instance of a vector that is no longer masked or pending. -/
def Inst.unmaskedVector (x : Inst) (v : Nat) : Inst :=
  { x with msixMasked := x.msixMasked.filter (· ≠ v), msixPending := x.msixPending.filter (· ≠ v) }

theorem execMsixVectorUnmask_of_pending (masked : v ∈ (s.inst i).msixMasked) (pending : v ∈ (s.inst i).msixPending) :
    execMsixVectorUnmask i v s = .next ((s.modInst i fun x => x.unmaskedVector v).emit (.msi i v)) :=
  congrArg _ (if_pos ⟨List.contains_iff_mem.2 masked, List.contains_iff_mem.2 pending⟩)

theorem State.emit_sent {o : Out} (open_ : s.ideBlocked = false) (reached : s.reaches o = true) : (s.emit o).out = o :: s.out := by
  unfold State.emit
  rw [if_neg (by simp [open_]), if_pos reached]

theorem State.emit_only {o : Out} : s.emit o = { s with out := (s.emit o).out, pcie := (s.emit o).pcie } := by
  unfold State.emit
  split
  · rfl
  · split <;> rfl

end

/-! ### Controller reset -/

/-- What the fences given up at a controller reset leave: the start-up's part, the records, the fault part, the time,
Glaze's, the Trail and the management's. -/
def State.besideFences (s : State) : BootPart × KlogPart × FaultPart × Nat × GlazePart × TrailPart × MgmtPart :=
  (s.boot, s.klog, s.fault, s.now, s.glaze, s.trail, s.mgmt)

theorem State.emit_besideFences {o : Out} : (s.emit o).besideFences = s.besideFences := by
  rw [State.emit_only]
  rfl

theorem State.interrupt_besideFences {i v : Nat} : (s.interrupt i v).besideFences = s.besideFences := by
  unfold State.interrupt
  split
  · rfl
  · exact State.emit_besideFences

theorem State.settleSnap_besideFences {f : Fence} {r : Nat} : (s.settleSnap f r).2.besideFences = s.besideFences := by
  unfold State.settleSnap
  split
  · rfl
  · split <;> rfl

theorem State.ite_besideFences {c : Prop} [Decidable c] {a b : State} (ha : a.besideFences = s.besideFences)
    (hb : b.besideFences = s.besideFences) : (if c then a else b).besideFences = s.besideFences := by
  split
  · exact ha
  · exact hb

theorem State.reportFence_besideFences {p r : Nat} {f : Fence} : (s.reportFence p f r).besideFences = s.besideFences := by
  have snap := State.settleSnap_besideFences (s := s) (f := f) (r := r)
  unfold State.reportFence
  generalize s.settleSnap f r = x at snap
  obtain ⟨r', t⟩ := x
  dsimp only at snap ⊢
  have answered : ∀ c : Prop, ∀ _ : Decidable c, ∀ o : Out,
      ((if c then (((t.bump Reg.WMK_COUNT_COUNT).setReg Reg.WMK_DONE_ID f.id).setReg Reg.WMK_DONE_RESULT r').setReg
          Reg.WMK_STATUS_REFUSED 1
        else ((t.bump Reg.WMK_COUNT_COUNT).setReg Reg.WMK_DONE_ID f.id).setReg Reg.WMK_DONE_RESULT r').emit o).besideFences =
      s.besideFences := fun c _ o => State.emit_besideFences.trans (State.ite_besideFences snap snap)
  exact State.ite_besideFences snap (State.ite_besideFences (State.emit_besideFences.trans snap)
    (State.ite_besideFences (State.interrupt_besideFences.trans (answered _ _ _)) (answered _ _ _)))

theorem State.releaseFences_besideFences {p : Nat} : (s.releaseFences p).besideFences = s.besideFences :=
  (State.each_keeps State.besideFences fun _ _ => State.reportFence_besideFences).trans rfl

theorem State.abandonFences_besideFences {test : Fence → Bool} : (s.abandonFences test).besideFences = s.besideFences :=
  (State.each_keeps State.besideFences fun _ _ => State.releaseFences_besideFences).trans rfl

theorem State.restoreHashes_besideFences {l : List (Nat × Nat × Nat × Nat)} :
    (s.restoreHashes l).besideFences = s.besideFences :=
  State.each_keeps State.besideFences fun _ _ => rfl

/-- What a controller reset leaves and takes (Table 12.5). -/
theorem State.controllerReset_leaves : let t := s.controllerReset
    t.boot.phase = .down ∧ t.boot.fromStep3 = true ∧ t.boot.otp = s.boot.otp ∧ t.klog.ring = s.klog.ring ∧
      t.fault.grave = s.fault.grave ∧ t.now = s.now ∧ t.intake.tags = [] ∧ t.hamper = {} ∧
      t.glaze.credentials = s.glaze.credentials ∧ t.trail.durable = s.trail.durable ∧ t.mgmt.slots = s.mgmt.slots := by
  have kept : ((s.restoreHashes s.hashStates).abandonFences fun _ => true).besideFences = s.besideFences :=
    State.abandonFences_besideFences.trans State.restoreHashes_besideFences
  unfold State.controllerReset State.restart
  dsimp only
  rw [if_neg Bool.false_ne_true]
  generalize State.abandonFences _ _ = u at kept ⊢
  obtain ⟨boot, klog, fault, now, glaze, trail, mgmt⟩ : u.boot = s.boot ∧ u.klog = s.klog ∧ u.fault = s.fault ∧
      u.now = s.now ∧ u.glaze = s.glaze ∧ u.trail = s.trail ∧ u.mgmt = s.mgmt := by
    simpa only [State.besideFences, Prod.mk.injEq] using kept
  rw [← boot, ← klog, ← fault, ← now, ← glaze, ← trail, ← mgmt]
  exact ⟨rfl, rfl, rfl, rfl, rfl, rfl, rfl, rfl, rfl, rfl, rfl⟩

theorem execControllerReset_up (h : s.boot.phase = .ready ∨ s.boot.phase = .bisque ∨ s.boot.phase = .stopped) :
    execControllerReset s = .next s.controllerReset :=
  congrArg _ (if_pos h)

/-- Settles O44: a PERST by its port and the power state, a link by its port's record, a reset by what the fences leave. -/
theorem pcieLinks : Obligations.PcieLinks := by
  unfold Obligations.PcieLinks
  refine ⟨?_, ?_, ?_, ?_, fun s => ⟨rfl, fun h => ⟨_, execControllerReset_up h, State.controllerReset_leaves⟩⟩⟩
  · intro p ns s
    refine ⟨execPerstAssert_ignored, fun long rail single awake => ?_, fun long rail dual awake =>
      execPerstAssert_port1 long rail dual awake, fun long rail asleep => ?_, fun long rail single ready up awake runs => ?_,
      execPerstRelease_of_asserted⟩
    · refine (execPerstAssert_port0 long rail rfl rfl).trans ?_
      rw [if_pos awake]
      exact congrArg _ (if_neg (show ¬ s.boot.dualPort = true by simp [single]))
    · refine (execPerstAssert_port0 long rail rfl rfl).trans ?_
      rw [if_neg (Nat.not_lt.2 asleep)]
    · have run := execPerstAssert_port0 long rail (t := (s.modPort 0 PPort.reset).ideInsecure.dropHeld) rfl rfl
      rw [if_pos awake, if_neg (show ¬ (s.modPort 0 PPort.reset).ideInsecure.dropHeld.boot.dualPort = true from
        (by simp [single] : ¬ s.boot.dualPort = true))] at run
      refine ⟨_, run, ?_⟩
      have begun := State.beginDeviceReset_ready (s := (s.modPort 0 PPort.reset).ideInsecure.dropHeld) (perst := true)
        ready up runs
      generalize State.beginDeviceReset _ _ = t at begun ⊢
      obtain ⟨-, ide, stopped, boot⟩ : t.fault = _ ∧ t.pcie.ide = _ ∧ t.intake.stopped = true ∧ t.boot = _ := by
        simpa only [State.aside, Prod.mk.injEq] using begun
      rw [ide, boot]
      exact ⟨rfl, rfl, stopped, rfl⟩
  · intro p rate width s port released down ready known lanes
    refine ⟨_, execLinkUp_of_free port released down ready known lanes, ?_⟩
    have there : (s.modPort p fun x => { x with up := true, lost := false, rate := rate, width := width, active := width }).port p =
        { s.port p with up := true, lost := false, rate := rate, width := width, active := width } :=
      State.port_modPort_self fun e => by cases congrArg PPort.up e
    obtain ⟨same, wake, only⟩ := State.linkL0_port there rfl
    rw [same]
    exact ⟨rfl, rfl, rfl, rfl, rfl, rfl, wake, only⟩
  · intro p s up
    refine ⟨?_, fun sub port l1 idle quiet allowed due => execAspmL1Entry_of_idle up port l1 idle quiet allowed due,
      fun other awake => ?_, fun l0 l0p wide => ?_, fun l0 => ⟨fun narrow => if_pos (Or.inr (Or.inr (Or.inr narrow))), ?_⟩⟩
    · refine ⟨_, execLinkDown_of_up up, ?_⟩
      have there : (s.modPort p fun x => { x with up := false, lost := true, l := .l0, active := 0 }).port p =
          { s.port p with up := false, lost := true, l := .l0, active := 0 } :=
        State.port_modPort_self fun e => by cases congrArg PPort.lost e
      have others : ∀ k, k ≠ p → (s.modPort p fun x => { x with up := false, lost := true, l := .l0, active := 0 }).port k =
          s.port k := fun k ne => State.port_modPort_ne ne
      have only : (s.modPort p fun x => { x with up := false, lost := true, l := .l0, active := 0 }) =
          { s with pcie := (s.modPort p fun x => { x with up := false, lost := true, l := .l0, active := 0 }).pcie } := rfl
      generalize (s.modPort p fun x => { x with up := false, lost := true, l := .l0, active := 0 }) = u at there others only ⊢
      obtain ⟨insecure, same, ports⟩ := State.linkLost_leaves u (c := p = 0)
      refine ⟨insecure, same.trans ?_, ?_, ?_, ?_, fun k ne => (ports k).trans (others k ne)⟩
      · rw [only]
      all_goals rw [ports, there]
    · obtain ⟨same, wake, only⟩ := State.linkL0_port (s := s) rfl up
      exact ⟨_, execAspmL1Exit_of_l1 up other awake, congrArg PPort.l same, wake, only⟩
    · exact ⟨_, execL0pNarrow_of_wide up l0 l0p wide, State.activeLanes_port up⟩
    · exact ⟨_, execL0pWiden_of_l0 up l0, State.activeLanes_port up⟩
  · intro i v s
    refine ⟨fun enabled d3 pending => ?_, fun masked pending => ?_⟩
    · refine ⟨_, execWakeNAssert_of_pme enabled d3 pending, ?_⟩
      rw [State.emit_reply]
      exact ⟨rfl, rfl, rfl⟩
    · refine ⟨_, execMsixVectorUnmask_of_pending masked pending, fun open_ reached => State.emit_sent open_ reached, ?_, ?_⟩
      · intro k ne
        exact (congrArg (fun x : TenantPart => x.insts.get ({} : Inst) k) (State.emit_tenant ..)).trans (State.inst_modInst_ne ne)
      · have only := State.emit_only (s := s.modInst i fun x => x.unmaskedVector v) (o := .msi i v)
        rw [State.emit_tenant]
        exact only

end Sys2Proof.Machine
end

section

/-! Proofs: the PCIe attachment's messages: failed host reads, DOE, SPDM, IDE's keys, configuration requests (spec 12). -/

namespace Sys2Proof.Machine

set_option Elab.async false

variable {s : State} {i p t : Nat}

section

theorem execPcieReadError_of_held {tag aer : Nat} (code : aer ≤ 3) (live : (s.tag tag).fate = 0)
    (held : (s.tag tag).stage = .staged ∨ (s.tag tag).stage = .inFlight) : execPcieReadError tag aer s =
      .next (((s.failTag tag Status.dataTransferError).modPort (s.portOf (s.tag tag).inst) fun x =>
        { x with aer := aer :: x.aer }).reportHost (0x1E0 + s.portOf (s.tag tag).inst) 0x51 aer 0 true) := by
  refine if_neg ?_
  rintro (h | h | h)
  · omega
  · simp [held] at h
  · exact h live

theorem State.failTag_of_staged {status : Nat} (live : (s.tag t).fate = 0) (staged : (s.tag t).stage = .staged) :
    s.failTag t status = (s.discardDescs t (s.tag t).gen).postTag t status 0 := by
  unfold State.failTag
  dsimp only
  rw [if_neg (by simp [staged, live]), if_neg (by simp [staged]), if_neg (by simp [staged]), State.abortTag_of_staged staged]
  generalize State.postTag _ _ _ _ = v
  exact if_pos rfl

theorem State.failTag_of_write {status : Nat} (live : (s.tag t).fate = 0) (flying : (s.tag t).stage = .inFlight)
    (writes : (s.tag t).cmd.fwNeed ≠ 0) : s.failTag t status =
      ((s.failWrite (s.tag t).seq (holeReason status)).discardDescs t (s.tag t).gen).postTag t status 0 := by
  unfold State.failTag
  dsimp only
  rw [if_neg (by simp [flying, live]), if_pos ⟨flying, writes⟩]

end

section

/-- DOE frees its one object with an answer, and changes the PCIe part and what is sent alone. -/
theorem State.doeReply_eq {w : List Nat} : s.doeReply i w =
    { s with pcie := (s.modDoe i fun b => { b with object := none }).pcie, out := .reply Port.doe (i :: w) :: s.out } :=
  State.emit_reply ..

theorem execDoeObject_of_free {o : List Nat} (present : s.doeOn i = true) (free : (s.doe i).object = none)
    (fits : o.length ≤ 4096) (vendor : o.headD 0 % 65536 = 1) (known : bits (o.headD 0) 16 8 ≤ 2) : ∃ k, execDoeObject i o s =
      .next (if bits (o.headD 0) 16 8 = 0 then
        (s.modDoe i fun b => { b with object := some o }).doeReply i [o.headD 0, 3, k]
      else s.modDoe i fun b => { b with object := some o }) :=
  ⟨_, (if_neg (by rintro (h | h | h | h | h) <;> simp_all <;> omega)).trans (apply_ite Host.Outcome.next ..).symm⟩

theorem execDoeObject_of_taken {o : List Nat} (taken : (s.doe i).object ≠ none ∨ 4096 < o.length) :
    execDoeObject i o s = .next s :=
  if_pos (Or.inr (taken.imp Option.isSome_iff_ne_none.2 Or.inl))

theorem execDoeAbort_on (present : s.doeOn i = true) :
    execDoeAbort i s = .next (s.modDoe i fun b => { b with object := none }) :=
  if_neg (by simp [present])

theorem execSpdmGetMeasurements_on {n : Nat} (present : s.doeOn i = true) : execSpdmGetMeasurements i n s = .next
    (match s.identityKey with
      | none => s.doeReply i [0x7F, 0x05]
      | some k => s.doeReply i (0x60 :: s.measurements ++ [n, Config.sign k (Config.sha384 (n :: s.measurements))])) := by
  unfold execSpdmGetMeasurements
  rw [if_neg (by simp [present])]
  cases s.identityKey with
  | none => rfl
  | some k => rfl

theorem execSpdmRequest_keyExchange {k : Nat} {body : List Nat} (present : s.doeOn i = true) (key : s.identityKey = some k) :
    execSpdmRequest i 0xE4 0 body s = .next (if 2 ≤ (s.doe i).sessions.length then s.doeReply i [0x7F, 0x0A]
      else (s.modDoe i fun b => { b with sessions := b.sessions ++ [(s.doe i).nextSession],
                                         nextSession := (s.doe i).nextSession + 1 }).doeReply i
        [0x64, (s.doe i).nextSession, Config.spdm 0xE4 k body]) := by
  unfold execSpdmRequest
  dsimp only
  rw [if_neg (by simp [present]), key]
  exact (if_neg Bool.false_ne_true).trans (apply_ite Host.Outcome.next ..).symm

/-- A session that is not open is answered with InvalidSession's code (Table 12.6). -/
theorem execSpdmRequest_of_noSession {n c : Nat} {body : List Nat} (present : s.doeOn i = true) (none_ : n ∉ (s.doe i).sessions)
    (code : c = 0xE5 ∨ c = 0xE8 ∨ c = 0xE9 ∨ c = 0xEC) : execSpdmRequest i c n body s = .next (s.doeReply i [0x7F, 0x02]) := by
  have unknown : ¬ (s.doe i).sessions.contains n = true := fun h => none_ (List.contains_iff_mem.1 h)
  have on : ¬ (!s.doeOn i) = true := by simp [present]
  obtain rfl | rfl | rfl | rfl := code <;> exact (if_neg on).trans (if_neg unknown)

/-- The session that a KEY_EXCHANGE opens joins the others. -/
theorem State.openSession_doe {w : List Nat} {n : Nat} :
    (((s.modDoe i fun b => { b with sessions := b.sessions ++ [n], nextSession := n + 1 }).doeReply i w).doe i).sessions =
      (s.doe i).sessions ++ [n] := by
  have opened : ((s.modDoe i fun b => { b with sessions := b.sessions ++ [n], nextSession := n + 1 }).doe i) =
      { s.doe i with sessions := (s.doe i).sessions ++ [n], nextSession := n + 1 } :=
    Tab.get_set_self_of_ne fun e => by simpa using congrArg DoeBox.sessions e
  rw [State.doeReply_eq]
  generalize (s.modDoe i fun b => { b with sessions := b.sessions ++ [n], nextSession := n + 1 }) = u at opened ⊢
  have freed : (u.modDoe i fun b => { b with object := none }).doe i = { u.doe i with object := none } :=
    Tab.get_set_self_of_ne fun e => by
      have none_ : (u.doe i).sessions = [] := congrArg DoeBox.sessions e
      simp [opened] at none_
  exact (congrArg DoeBox.sessions freed).trans (congrArg DoeBox.sessions opened)

end

section

/-- What a request of IDE_KM meets in a port's open session. -/
theorem State.ideKm_open {ses : Nat} (present : s.doeOn 0 = true) (single : s.boot.dualPort = false)
    (session : ses ∈ (s.doe 0).sessions) :
    ¬ (!(s.doeOn 0) ∨ s.boot.dualPort ∨ !((s.doe 0).sessions.contains ses)) := by
  simp [present, single, session]

/-- With both directions' keys in use an enabled stream is Secure. -/
theorem Ide.settle_secure {x : Ide} {ks d : Nat} (dir : d ≤ 1) (on : x.enabled = true)
    (other : (x.inUse.get none (1 - d)).isSome = true) :
    ({ x with inUse := x.inUse.set none d (some ks) } : Ide).settle.secure = true := by
  have mine : (x.inUse.set none d (some ks)).get none d = some ks := Tab.get_set_self_of_ne (Option.some_ne_none ks)
  have kept : (x.inUse.set none d (some ks)).get none (1 - d) = x.inUse.get none (1 - d) := Tab.get_set_ne (by omega)
  obtain rfl | rfl : d = 0 ∨ d = 1 := by omega
  · simpa [Ide.settle, on, mine] using (congrArg Option.isSome kept).trans other
  · simpa [Ide.settle, on, mine] using (congrArg Option.isSome kept).trans other

/-- With a direction's key no longer in use the stream is not Secure. -/
theorem Ide.settle_insecure {x : Ide} {keys : Tab (Option Nat)} {d : Nat} (dir : d ≤ 1) (canonical : x.inUse.wf none = true) :
    ({ x with inUse := x.inUse.set none d none, keys := keys } : Ide).settle.secure = false := by
  have mine : (x.inUse.set none d none).get none d = none := Tab.get_set_self canonical
  obtain rfl | rfl : d = 0 ∨ d = 1 := by omega
  · simp [Ide.settle, mine]
  · simp [Ide.settle, mine]

theorem execIdeIntegrityCheckFailure_of_secure (secure : s.pcie.ide.secure = true) : execIdeIntegrityCheckFailure s =
    .next ((s.ideInsecure.modPort 0 fun x => { x with aer := 4 :: x.aer }).report 0x1E0 0x51 4 0) :=
  if_neg (by simp [secure])

end

section

variable {v : Nat} {f : PField} {w : Bool}

theorem execConfigurationRequest_up (exists_ : i < 512) (released : (s.port (s.portOf i)).perst = false)
    (up : (s.port (s.portOf i)).up = true) : ¬ (511 < i ∨ (s.port (s.portOf i)).perst ∨ !(s.port (s.portOf i)).up) := by
  simp [released, up]; omega

theorem State.hostAccess_asleep (asleep : 3 ≤ s.power.ps) : s.hostAccess = s.wake 1 := if_neg (Nat.not_lt.2 asleep)

end

/-- Settles O45: a failed read by its command's stage, DOE and SPDM by the mailbox's one object, IDE by its directions' keys. -/
theorem pcieMessages : Obligations.PcieMessages := by
  unfold Obligations.PcieMessages
  refine ⟨?_, ?_, ?_, fun s => ⟨fun off => if_pos (by simp [off]), execIdeIntegrityCheckFailure_of_secure⟩, ?_⟩
  · intro t aer s code live
    exact ⟨execPcieReadError_of_held code live, State.failTag_of_staged live, State.failTag_of_write live⟩
  · intro i s present
    refine ⟨fun o free fits vendor => ⟨fun kind => ?_, fun kind => ?_⟩, fun o => execDoeObject_of_taken,
      execDoeAbort_on present, fun n => ?_, fun k b key room => ?_, fun k b key full => ?_, fun n b none_ c =>
      execSpdmRequest_of_noSession present none_⟩
    · obtain ⟨_, run⟩ := execDoeObject_of_free present free fits vendor (by omega)
      refine ⟨_, run.trans (congrArg _ (if_neg (by omega))), ?_, rfl⟩
      exact congrArg DoeBox.object (Tab.get_set_self_of_ne fun e => by cases congrArg DoeBox.object e)
    · obtain ⟨k, run⟩ := execDoeObject_of_free present free fits vendor (by omega)
      exact ⟨_, k, run.trans (congrArg _ (if_pos kind)), congrArg State.out State.doeReply_eq⟩
    · refine ⟨_, execSpdmGetMeasurements_on present, ?_, fun no => ?_, fun k key => ⟨s.measurements, rfl, ?_⟩⟩
      · split <;> rw [State.doeReply_eq]
      · rw [no]
        exact congrArg State.out State.doeReply_eq
      · rw [key]
        exact congrArg State.out State.doeReply_eq
    · refine ⟨_, (execSpdmRequest_keyExchange present key).trans (congrArg _ (if_neg (by omega))), State.openSession_doe, ?_⟩
      rw [State.doeReply_eq]
      rfl
    · exact (execSpdmRequest_keyExchange present key).trans (congrArg _ (if_pos full))
  · intro ses ks d key s present single session set dir
    have stands := State.ideKm_open present single session
    have ok : (decide (s.pcie.ide.stream = s.pcie.ide.stream) && decide (ks ≤ 1) && decide (d ≤ 1)) = true := by simp [set, dir]
    refine ⟨(if_neg stands).trans (if_pos ok), fun has => ⟨(if_neg stands).trans (if_pos ⟨ok, has⟩), Ide.settle_secure dir⟩,
      fun used => ⟨(if_neg stands).trans ((if_pos ok).trans ?_), Ide.settle_insecure dir⟩, ?_, fun none_ =>
      (if_neg stands).trans (if_neg (by simp [none_])), ?_⟩
    · rw [if_pos used]
    · intro op known st other
      have bad : ¬ (decide (s.pcie.ide.stream = st) && decide (ks ≤ 1) && decide (d ≤ 1)) = true := by simp [Ne.symm other]
      obtain rfl | rfl | rfl := known
      · exact (if_neg stands).trans (if_neg bad)
      · exact (if_neg stands).trans (if_neg fun h => bad h.1)
      · exact (if_neg stands).trans (if_neg bad)
    · refine ⟨_, if_neg stands, congrArg State.out State.doeReply_eq, ?_⟩
      rw [State.doeReply_eq]
      rfl
  · intro i v f w s exists_ released up
    have reached := execConfigurationRequest_up exists_ released up
    refine ⟨fun early => ⟨_, (if_neg reached).trans (if_pos early), State.emit_reply ..⟩, fun ready awake => ⟨?_, ?_⟩,
      fun ready asleep still => ?_⟩
    · refine (if_neg reached).trans ((if_neg (by simp [ready])).trans ?_)
      rw [State.hostAccess_awake awake]
      exact congrArg _ (if_pos awake)
    · refine ⟨_, (if_neg reached).trans ((if_neg (by simp [ready])).trans (congrArg _ (if_pos ?_))), ?_⟩
      · rwa [State.hostAccess_awake awake]
      · rw [State.hostAccess_awake awake]
        exact State.emit_reply ..
    · refine (if_neg reached).trans ((if_neg (by simp [ready])).trans ?_)
      rw [State.hostAccess_asleep asleep]
      exact congrArg _ (if_neg (Nat.not_lt.2 still))

end Sys2Proof.Machine
end

section

/-! Proofs: power states chosen, entered and left (spec 15). -/

namespace Sys2Proof.Machine

set_option Elab.async false

variable {s : State}

/-! ### What the work that an entry ends leaves -/

section

/-- What the Trail's, the map's and the buffers' upkeep leaves: the power states, the configuration, the clock, the boot
state, the instances and the count of Severe messages. -/
def State.besideUpkeep (s : State) : PowerPart × Tab (Option Nat) × Tab (Option Nat) × Nat × BootPart × TenantPart × Nat :=
  (s.power, s.cfg, s.cfgStaged, s.now, s.boot, s.tenant, s.mgmt.severeCount)

variable {l : List Nat} {n k d : Nat}

theorem State.besideUpkeep_iff {t : State} : t.besideUpkeep = s.besideUpkeep ↔ t.power = s.power ∧ t.cfg = s.cfg ∧
    t.cfgStaged = s.cfgStaged ∧ t.now = s.now ∧ t.boot = s.boot ∧ t.tenant = s.tenant ∧
    t.mgmt.severeCount = s.mgmt.severeCount := by
  simp only [State.besideUpkeep, Prod.mk.injEq]

theorem State.ite_besideUpkeep {c : Prop} [Decidable c] {a b : State} (ha : a.besideUpkeep = s.besideUpkeep)
    (hb : b.besideUpkeep = s.besideUpkeep) : (if c then a else b).besideUpkeep = s.besideUpkeep := by
  split
  · exact ha
  · exact hb

theorem State.settlePool_besideUpkeep : (s.settlePool n).besideUpkeep = s.besideUpkeep :=
  State.ite_besideUpkeep rfl rfl

theorem State.alloc_besideUpkeep {p i : Nat} {o : OwnerKind} {oid : Nat} :
    (s.alloc p n i o oid).2.besideUpkeep = s.besideUpkeep := by
  unfold State.alloc
  dsimp only
  split
  · rfl
  · exact State.settlePool_besideUpkeep.trans (State.each_keeps State.besideUpkeep fun _ _ => rfl)

theorem State.servePool_besideUpkeep : (s.servePool k n).besideUpkeep = s.besideUpkeep := by
  induction n generalizing s with
  | zero => rfl
  | succ n ih =>
    unfold State.servePool
    split
    · rfl
    next r rest _ =>
      have kept := State.alloc_besideUpkeep (s := s) (p := k) (n := r.need) (i := 0) (o := r.owner) (oid := r.ownerId)
      generalize s.alloc k r.need 0 r.owner r.ownerId = a at kept ⊢
      obtain ⟨_ | u, t⟩ := a
      · rfl
      · exact ih.trans kept

theorem State.refuseClaims_besideUpkeep : (s.refuseClaims k).besideUpkeep = s.besideUpkeep :=
  (rfl : _ = State.besideUpkeep _).trans (State.each_keeps State.besideUpkeep fun _ _ => rfl)

theorem State.releaseUnit_besideUpkeep : (s.releaseUnit k).besideUpkeep = s.besideUpkeep := by
  unfold State.releaseUnit
  refine State.ite_besideUpkeep rfl (State.ite_besideUpkeep ?_ ?_)
  · exact State.servePool_besideUpkeep.trans State.settlePool_besideUpkeep
  · exact (rfl : _ = State.besideUpkeep _).trans State.refuseClaims_besideUpkeep

theorem State.releaseUnits_besideUpkeep : (s.releaseUnits l).besideUpkeep = s.besideUpkeep :=
  State.each_keeps State.besideUpkeep fun _ _ => State.releaseUnit_besideUpkeep

theorem State.setBlocks_besideUpkeep {bs : List (Nat × Nat)} {f : Block → Block} :
    (s.setBlocks d bs f).besideUpkeep = s.besideUpkeep :=
  State.each_keeps State.besideUpkeep fun _ _ => rfl

theorem State.releaseDump_besideUpkeep : (s.releaseDump l).besideUpkeep = s.besideUpkeep :=
  State.each_keeps State.besideUpkeep fun _ _ => by
    dsimp only
    refine (State.each_keeps State.besideUpkeep fun _ _ => ?_).trans State.setBlocks_besideUpkeep
    rfl

theorem State.recDurable_besideUpkeep {r : TrailRec} : (s.recDurable r).besideUpkeep = s.besideUpkeep := by
  have released (u : State) (c : Bool) (m : List Nat) (t : State → State) (h : ∀ v, (t v).besideUpkeep = v.besideUpkeep)
      (kept : u.besideUpkeep = s.besideUpkeep) :
      (if c then u else t (u.releaseDump m)).besideUpkeep = s.besideUpkeep :=
    State.ite_besideUpkeep kept ((h _).trans (State.releaseDump_besideUpkeep.trans kept))
  cases r with
  | dealloc a b c seq => exact State.releaseUnits_besideUpkeep
  | verified nsid n g =>
    unfold State.recDurable
    dsimp only
    split
    · rfl
    · rfl
  | rowRelease g row _ => exact State.each_keeps State.besideUpkeep fun _ _ => rfl
  | dirty d bs => exact State.ite_besideUpkeep rfl rfl
  | rule c => rfl
  | wseqReserve next => rfl
  | dumpRelease g =>
    exact released _ _ _ (fun v => { v with trail := { v.trail with dumpUnits := [], dump := none, park := none } }) (fun _ => rfl)
      State.releaseDump_besideUpkeep
  | _ => rfl

theorem State.flushDurable_besideUpkeep {f : Flush} : (s.flushDurable f).besideUpkeep = s.besideUpkeep :=
  (rfl : _ = State.besideUpkeep _).trans (State.each_keeps State.besideUpkeep fun _ _ => State.recDurable_besideUpkeep)

theorem State.regionNext_besideUpkeep {role : Nat} {x : (List Nat × Nat) × State} (region : s.regionNext role d = some x) :
    x.2.besideUpkeep = s.besideUpkeep := by
  unfold State.regionNext at region
  dsimp only at region
  split at region
  · cases region
    rfl
  · obtain ⟨b, taken, rfl⟩ := Option.map_eq_some_iff.1 region
    unfold State.takeBlocks at taken
    dsimp only at taken
    split at taken
    · cases taken
      exact State.setBlocks_besideUpkeep
    · cases taken

theorem State.programFlush_besideUpkeep : (s.programFlush k n).besideUpkeep = s.besideUpkeep := by
  induction n generalizing s with
  | zero => rfl
  | succ n ih =>
    unfold State.programFlush
    split
    · rfl
    next d x t place =>
      obtain ⟨g, -, found⟩ := List.exists_of_findSome?_eq_some place
      obtain ⟨d', -, next⟩ := List.exists_of_findSome?_eq_some found
      obtain ⟨y, region, e⟩ := Option.map_eq_some_iff.1 next
      cases e
      exact ih.trans ((rfl : _ = State.besideUpkeep _).trans (State.regionNext_besideUpkeep region))

theorem State.programFlushes_besideUpkeep : s.programFlushes.besideUpkeep = s.besideUpkeep :=
  State.each_keeps State.besideUpkeep fun _ _ => State.programFlush_besideUpkeep

theorem State.takeSeq_besideUpkeep : (s.takeSeq n).2.besideUpkeep = s.besideUpkeep := by
  unfold State.takeSeq
  dsimp only
  split
  · rfl
  · rfl

theorem State.cutFlush_besideUpkeep : s.cutFlush.besideUpkeep = s.besideUpkeep :=
  State.ite_besideUpkeep rfl (State.programFlushes_besideUpkeep.trans (State.takeSeq_besideUpkeep.trans rfl))

theorem State.finishTrail_besideUpkeep : s.finishTrail.besideUpkeep = s.besideUpkeep :=
  (rfl : _ = State.besideUpkeep _).trans (State.each_keeps State.besideUpkeep fun _ _ => State.setBlocks_besideUpkeep)

theorem State.flushAll_besideUpkeep : s.flushAll.besideUpkeep = s.besideUpkeep :=
  (State.each_keeps State.besideUpkeep fun _ _ => State.flushDurable_besideUpkeep).trans
    (State.finishTrail_besideUpkeep.trans State.cutFlush_besideUpkeep)

theorem State.removeEntry_besideUpkeep : (s.removeEntry k).besideUpkeep = s.besideUpkeep :=
  State.ite_besideUpkeep rfl rfl

theorem State.sweepExpos_besideUpkeep : s.sweepExpos.besideUpkeep = s.besideUpkeep :=
  (State.each_keeps State.besideUpkeep fun _ _ => State.each_keeps State.besideUpkeep fun _ _ =>
    State.removeEntry_besideUpkeep).trans rfl

theorem State.setMap_besideUpkeep {nsid lba seq : Nat} {b : Blk} : (s.setMap nsid lba seq b).besideUpkeep = s.besideUpkeep :=
  State.ite_besideUpkeep rfl rfl

theorem State.mapUpdate_besideUpkeep : (s.mapUpdate n).besideUpkeep = s.besideUpkeep := by
  refine State.each_keeps State.besideUpkeep fun u e => State.ite_besideUpkeep (State.ite_besideUpkeep rfl ?_) ?_
  · exact State.sweepExpos_besideUpkeep.trans (State.releaseUnits_besideUpkeep.trans
      (State.each_keeps State.besideUpkeep fun _ _ => State.setMap_besideUpkeep))
  · exact State.sweepExpos_besideUpkeep.trans (State.releaseUnits_besideUpkeep.trans
      (State.ite_besideUpkeep (State.each_keeps State.besideUpkeep fun _ _ => State.setMap_besideUpkeep)
        (State.each_keeps State.besideUpkeep fun _ _ => State.setMap_besideUpkeep)))

theorem State.mapAll_besideUpkeep : s.mapAll.besideUpkeep = s.besideUpkeep :=
  State.each_keeps State.besideUpkeep fun _ _ => State.mapUpdate_besideUpkeep

theorem State.writePark_besideUpkeep {units : List DUnit} : (s.writePark units).besideUpkeep = s.besideUpkeep := by
  refine (State.each_keeps State.besideUpkeep fun u c => ?_).trans rfl
  dsimp only
  split
  · rfl
  next d x place =>
    obtain ⟨d', -, next⟩ := List.exists_of_findSome?_eq_some place
    obtain ⟨y, region, e⟩ := Option.map_eq_some_iff.1 next
    cases e
    refine (rfl : _ = State.besideUpkeep _).trans (Eq.trans ?_ (State.regionNext_besideUpkeep region))
    exact State.ite_besideUpkeep State.setBlocks_besideUpkeep State.setBlocks_besideUpkeep

theorem State.park_besideUpkeep : s.park.besideUpkeep = s.besideUpkeep :=
  State.ite_besideUpkeep rfl State.writePark_besideUpkeep

end

/-! ### Power states chosen -/

section

variable {i cid ps v : Nat}

theorem execSetFeaturesPowerManagement_of_unknown {u : State}
    (run : ∀ f, s.adminDo i cid f = .next (adminAnswer i cid (f u))) (unknown : 4 < ps) :
    execSetFeaturesPowerManagement i cid ps s = .next (u.adminCqe i cid Status.invalidField 0) := by
  refine (run _).trans (congrArg _ ?_)
  dsimp only
  rw [if_pos unknown]
  rfl

theorem execSetFeaturesPowerManagement_of_tenant {u : State}
    (run : ∀ f, s.adminDo i cid f = .next (adminAnswer i cid (f u))) (known : ps ≤ 4) (tenant : i ≠ 0) :
    execSetFeaturesPowerManagement i cid ps s = .next ((u.modInst i fun x => { x with powerFeature := ps }).adminCqe i cid 0 0) := by
  refine (run _).trans (congrArg _ ?_)
  dsimp only
  rw [if_neg (Nat.not_lt.2 known), if_pos tenant]
  rfl

theorem execSetFeaturesPowerManagement_operational {u : State}
    (run : ∀ f, s.adminDo 0 cid f = .next (adminAnswer 0 cid (f u))) (awake : ps < 3) :
    execSetFeaturesPowerManagement 0 cid ps s =
      .next (((u.modInst 0 fun x => { x with powerFeature := ps }).enterOperational ps).adminCqe 0 cid 0 0) := by
  refine (run _).trans (congrArg _ ?_)
  dsimp only
  rw [if_neg (by omega), if_neg (by decide), if_pos awake]
  rfl

theorem execSetFeaturesPowerManagement_nonoperational {u w : State}
    (run : ∀ f, s.adminDo 0 cid f = .next (adminAnswer 0 cid (f u))) (asleep : 3 ≤ ps) (known : ps ≤ 4)
    (w_eq : { (u.modInst 0 fun x => { x with powerFeature := ps }) with
      power := { u.power with chosen := some ps, gaveUp := false } } = w) :
    execSetFeaturesPowerManagement 0 cid ps s = .next (w.adminCqe 0 cid 0 0) := by
  refine (run _).trans (congrArg _ ?_)
  dsimp only
  rw [if_neg (by omega), if_neg (by decide), if_neg (by omega), ← w_eq]
  rfl

/-- An operational state is entered at once, whatever the fields that wait for PS2. -/
theorem State.enterOperational_leaves : let t := s.enterOperational ps
    t.power.ps = ps ∧ t.power.lastOp = ps ∧ t.power.chosen = none ∧ t.flash = s.flash := by
  have kept (u : State) (c : Prop) [Decidable c] :
      ((if c then u.takeCfg .ps2 fun _ => true else u).power, (if c then u.takeCfg .ps2 fun _ => true else u).flash) =
        (u.power, u.flash) := by
    split
    · exact State.takeCfg_frame (fun t => (t.power, t.flash)) fun _ _ _ => rfl
    · rfl
  have at_ps := kept { s with power := { s.power with ps := ps, lastOp := ps, chosen := none } } (ps = 2)
  unfold State.enterOperational
  dsimp only
  generalize (if ps = 2 then _ else _ : State) = u at at_ps ⊢
  obtain ⟨power, flash⟩ := Prod.mk.inj at_ps
  exact ⟨congrArg PowerPart.ps power, congrArg PowerPart.lastOp power, congrArg PowerPart.chosen power, flash⟩

theorem execSetFeaturesApst_of_fitting {u : State} {on : Bool} {es : List (Nat × Nat)}
    (run : ∀ f, s.adminDo i cid f = .next (adminAnswer i cid (f u))) (few : es.length ≤ 32)
    (states : ∀ e ∈ es, e.1 = 0 ∨ e.2 = 3 ∨ e.2 = 4) : execSetFeaturesApst i cid on es s =
      .next ((u.modInst i fun x => { x with apstOn := on, apst := es }).adminCqe i cid 0 0) := by
  refine (run _).trans (congrArg _ ?_)
  rw [if_neg]
  · rfl
  · rintro (many | bad)
    · omega
    · obtain ⟨e, listed, wrong⟩ := List.any_eq_true.1 bad
      have := states e listed
      simp only [Bool.and_eq_true, Bool.or_eq_true, decide_eq_true_eq] at wrong
      omega

theorem execSetFeaturesApst_of_operational {u : State} {on : Bool} {es : List (Nat × Nat)} {e : Nat × Nat}
    (run : ∀ f, s.adminDo i cid f = .next (adminAnswer i cid (f u))) (listed : e ∈ es) (idles : e.1 ≠ 0) (awake : e.2 < 3) :
    execSetFeaturesApst i cid on es s = .next (u.adminCqe i cid Status.invalidField 0) := by
  refine (run _).trans (congrArg _ ?_)
  rw [if_pos (Or.inr (List.any_eq_true.2 ⟨e, listed, by simp [idles, awake]⟩))]
  rfl

theorem execSetFeaturesTemperatureThreshold_of_unknown {u : State} {b : Bool}
    (run : ∀ f, s.adminDo i cid f = .next (adminAnswer i cid (f u))) (unknown : 2 < v / 65536) (single : v / 65536 ≠ 15) :
    execSetFeaturesTemperatureThreshold i cid b v s = .next (u.adminCqe i cid Status.invalidField 0) := by
  have none_ : u.setThreshold i b v = none := if_pos ⟨unknown, single⟩
  refine (run _).trans (congrArg _ ?_)
  rw [none_]
  rfl

/-- The thresholds that one write of the feature sets: the selected one, or all of them. -/
def thresholdsSet (v : Nat) (t : Tab (Option Nat)) : Tab (Option Nat) :=
  if v / 65536 = 15 then (t.set none 1 (some (v % 65536))).set none 2 (some (v % 65536)) else t.set none (v / 65536) (some (v % 65536))

theorem State.setThreshold_of_known {b : Bool} (known : v / 65536 ≤ 2 ∨ v / 65536 = 15) : s.setThreshold i b v =
    some (s.modInst i fun x => if b then { x with underTemp := thresholdsSet v x.underTemp }
      else { x with overTemp := thresholdsSet v x.overTemp }) := by
  have put (t : Tab (Option Nat)) : (if v / 65536 = 15 then [1, 2] else [v / 65536]).foldl
      (fun (t : Tab (Option Nat)) k => t.set none k (some (v % 65536))) t = thresholdsSet v t := by
    unfold thresholdsSet
    split <;> rfl
  refine (if_neg (by omega)).trans (congrArg (fun f => some (s.modInst i f)) (funext fun x => ?_))
  dsimp only
  rw [put, put]

theorem execSetFeaturesTemperatureThreshold_of_known {u : State} {b : Bool}
    (run : ∀ f, s.adminDo i cid f = .next (adminAnswer i cid (f u))) (known : v / 65536 ≤ 2 ∨ v / 65536 = 15) :
    execSetFeaturesTemperatureThreshold i cid b v s = .next ((u.modInst i fun x =>
      if b then { x with underTemp := thresholdsSet v x.underTemp }
      else { x with overTemp := thresholdsSet v x.overTemp }).adminCqe i cid 0 0) := by
  refine (run _).trans (congrArg _ ?_)
  rw [State.setThreshold_of_known known]
  rfl

end

/-! ### Power states entered and left -/

section

variable {k d why n c : Nat} {r : Option (Nat × Nat)}

/-- A refusal below the limit counts, ends the entry and backs off. -/
theorem State.voteRefused_leaves (low : s.power.refusals + 1 < s.cfgOf Cfg.PWR_TRIES) : let t := s.voteRefused d why k
    t.power.entering = none ∧ t.power.refusals = s.power.refusals + 1 ∧
      t.power.backoff = some (s.now + s.cfgOf Cfg.PWR_BACKOFF_MS * 2 ^ min s.power.refusals 6 * 100000) ∧ t.power.ps = s.power.ps := by
  unfold State.voteRefused
  dsimp only
  generalize logged : State.log _ _ _ _ _ = u
  have power : u.power = s.power := by rw [← logged, State.log_power]; rfl
  have cfg (x : Nat) : u.cfgOf x = s.cfgOf x := by
    have same : u.cfg = s.cfg := by rw [← logged, State.log_cfg]; rfl
    unfold State.cfgOf State.cfgAt
    rw [same]
  have now : u.now = s.now := by rw [← logged, State.log_now]; rfl
  rw [power, cfg, if_neg (Nat.not_le.2 low), cfg, now]
  exact ⟨rfl, rfl, rfl, rfl⟩

/-- Nothing is taken where no field waits. -/
theorem State.takeCfg_of_none {p : Nat → Bool} {x : CfgKind} (none_ : s.cfgStaged = []) :
    (s.takeCfg x p).besideUpkeep = s.besideUpkeep := by
  unfold State.takeCfg State.besideUpkeep
  rw [none_]
  rfl

/-- What an entry does before the domains vote: what is written reaches the media, and the steward is told. -/
def State.readyToVote (s : State) (k : Nat) : State :=
  (((((s.flushAll.mapAll).park).trailRec .quiet).noBackoff.flushAll).post 5 [k]).postBack 5 [k]

theorem State.trailRec_besideUpkeep {x : TrailRec} : (s.trailRec x).besideUpkeep = s.besideUpkeep := rfl

theorem State.post_besideUpkeep {l : List Int} : (s.post n l).besideUpkeep = s.besideUpkeep := rfl

theorem State.postBack_besideUpkeep {l : List Int} : (s.postBack n l).besideUpkeep = s.besideUpkeep := rfl

theorem State.noBackoff_besideUpkeep {u : State} (kept : u.besideUpkeep = s.besideUpkeep) :
    u.noBackoff.besideUpkeep = ({ s with power := { s.power with backoff := none } } : State).besideUpkeep :=
  congrArg (fun y : PowerPart × Tab (Option Nat) × Tab (Option Nat) × Nat × BootPart × TenantPart × Nat =>
    (({ y.1 with backoff := none } : PowerPart), y.2)) kept

theorem State.readyToVote_besideUpkeep {u : State} (same : u.besideUpkeep = s.besideUpkeep) :
    (u.readyToVote k).besideUpkeep = ({ s with power := { s.power with backoff := none } } : State).besideUpkeep := by
  unfold State.readyToVote
  refine State.postBack_besideUpkeep.trans (State.post_besideUpkeep.trans (State.flushAll_besideUpkeep.trans
    (State.noBackoff_besideUpkeep ?_)))
  exact State.trailRec_besideUpkeep.trans (State.park_besideUpkeep.trans
    (State.mapAll_besideUpkeep.trans (State.flushAll_besideUpkeep.trans same)))

theorem State.entryStart_refused (done : s.programsLeft = false) : s.entryStart k (some (d, why)) =
    (((s.takeCfg .attempt fun _ => true).takeCfg .nonop fun _ => true).readyToVote k).voteRefused d why k := by
  unfold State.entryStart State.readyToVote
  rw [if_neg (by simp [done])]
  dsimp only [Option.or]

theorem State.takeCfg_twice (staged : s.cfgStaged = []) :
    ((s.takeCfg .attempt fun _ => true).takeCfg .nonop fun _ => true).besideUpkeep = s.besideUpkeep := by
  have once := State.takeCfg_of_none (p := fun _ => true) (x := .attempt) staged
  refine (State.takeCfg_of_none ?_).trans once
  exact (congrArg (·.2.2.1) once).trans staged

/-- A vote refused in a state that shares its counts and its clock with another. -/
theorem State.voteRefused_after {z : State}
    (kept : z.besideUpkeep = ({ s with power := { s.power with backoff := none } } : State).besideUpkeep)
    (low : s.power.refusals + 1 < s.cfgOf Cfg.PWR_TRIES) : let t := z.voteRefused d why k
    t.power.entering = none ∧ t.power.refusals = s.power.refusals + 1 ∧
      t.power.backoff = some (s.now + s.cfgOf Cfg.PWR_BACKOFF_MS * 2 ^ min s.power.refusals 6 * 100000) ∧ t.power.ps = s.power.ps := by
  obtain ⟨power, cfg, -, now, -, -, -⟩ := State.besideUpkeep_iff.1 kept
  have same (x : Nat) : z.cfgOf x = s.cfgOf x := by
    unfold State.cfgOf State.cfgAt
    rw [cfg]
  have refusals : z.power.refusals = s.power.refusals := by rw [power]
  obtain ⟨entering, count, backoff, ps⟩ := State.voteRefused_leaves (s := z) (d := d) (why := why) (k := k)
    (by rw [refusals, same]; exact low)
  refine ⟨entering, count.trans (by rw [refusals]), backoff.trans ?_, ps.trans (by rw [power])⟩
  rw [refusals, same, now]

/-- An entry that is refused at once leaves the state the part was in. -/
theorem State.entryStart_of_refused (done : s.programsLeft = false) (staged : s.cfgStaged = [])
    (low : s.power.refusals + 1 < s.cfgOf Cfg.PWR_TRIES) : let t := s.entryStart k (some (d, why))
    t.power.entering = none ∧ t.power.refusals = s.power.refusals + 1 ∧
      t.power.backoff = some (s.now + s.cfgOf Cfg.PWR_BACKOFF_MS * 2 ^ min s.power.refusals 6 * 100000) ∧ t.power.ps = s.power.ps := by
  rw [State.entryStart_refused done]
  exact State.voteRefused_after (State.readyToVote_besideUpkeep (State.takeCfg_twice staged)) low

theorem execNonopEntryStart_of_chosen (ok : s.entryOk = true) (chosen : s.power.chosen = some k) (ready : s.power.backoff = none) :
    execNonopEntryStart k r s = .next (s.entryStart k r) :=
  congrArg _ (if_pos ⟨ok, chosen, Option.isNone_iff_eq_none.2 ready⟩)

theorem execEntryBackoffRetry_of_due {b : Nat} (due : s.power.backoff = some b) (chosen : s.power.chosen = some k) :
    execEntryBackoffRetry r s = .next (if s.now < b then s
      else if s.entryOk then s.entryStart k r else { s with power := { s.power with backoff := none, refusals := 0 } }) := by
  unfold execEntryBackoffRetry
  rw [due, chosen]

theorem execApstIdleExpiry_of_state (state : s.apstState = some k) (ok : s.entryOk = true) (ready : s.power.backoff = none) :
    execApstIdleExpiry r s = .next (({ s with power := { s.power with chosen := some k } }).entryStart k r) := by
  unfold execApstIdleExpiry
  rw [state]
  exact congrArg _ (if_pos ⟨ok, Option.isNone_iff_eq_none.2 ready⟩)

/-- The state the part is in once every voting domain has stopped. -/
def State.entered (s : State) (k : Nat) : State :=
  ({ s with power := { s.power with
    ps := k, entering := none, chosen := none, refusals := 0, heat := 0, sleptAt := s.now } }).ltrUpdate (stateLtr k)

theorem execNonopStateReached_of_idle {ok : Bool} (entering : s.power.entering = some k) (dump : s.trail.dumpMode = false)
    (idle : s.diesIdle = true) (quiet : s.intakeIdle = true) : execNonopStateReached ok s = (match s.faultVote with
      | some d => .next ((s.setDomains 0).voteRefused d 1 k)
      | none => .next ((s.stopInterior k ok).entered k)) := by
  unfold execNonopStateReached
  rw [entering]
  dsimp only
  rw [if_neg (by simp [idle, dump]), if_neg (by simp [quiet])]
  cases s.faultVote with
  | none => rfl
  | some d => rfl

theorem State.setDomains_only : ∃ ds, s.setDomains n = { s with power := { s.power with domains := ds } } := ⟨_, rfl⟩

theorem State.setDomains_leaves : let t := s.setDomains n
    t.power.confirmed = s.power.confirmed ∧ t.power.avsHeld = s.power.avsHeld ∧ t.power.maint = s.power.maint ∧
      t.flash = s.flash ∧ t.zone = s.zone := by
  obtain ⟨ds, set⟩ := State.setDomains_only (s := s) (n := n)
  rw [set]
  exact ⟨rfl, rfl, rfl, rfl, rfl⟩

/-- A regulator that did not step down is Severe, and held where it is. -/
theorem State.stepDownFailed_leaves :
    let t := (({ s with power := { s.power with avsHeld := true } }).bump Reg.PWR_AVS_FAIL_FAILURES).report 0x302 0x48 550 2
    t.power = { s.power with avsHeld := true } ∧ t.flash = s.flash ∧ t.zone = s.zone := by
  dsimp only
  rw [State.report_power _ _ _ _ (by decide), State.report_flash _ _ _ _ (by decide), State.report_zone _ _ _ _ (by decide),
    State.bump_power, State.bump_flash, State.bump_zone]
  exact ⟨rfl, rfl, rfl⟩

/-- What stopping the interior leaves: the regulator stepped down and confirmed, or held after a failure. -/
theorem State.stopInterior_leaves {ok : Bool} : let t := s.stopInterior k ok
    (ok = true → t.power.confirmed = 550) ∧ (ok = false → t.power.confirmed = s.power.confirmed ∧ t.power.avsHeld = true) ∧
      t.flash = s.flash ∧ t.zone = s.zone ∧ t.power.maint = s.power.maint := by
  have told : ∃ o, (s.emit (.reply Port.avs [0, 550])).emit (.reply Port.avs [1]) = { s with out := o } :=
    ⟨_, (State.emit_reply ..).trans (by rw [State.emit_reply])⟩
  obtain ⟨o, told⟩ := told
  unfold State.stopInterior
  rw [told]
  cases ok with
  | true =>
    obtain ⟨confirmed, -, maint, flash, zone⟩ := State.setDomains_leaves
      (s := { s with out := o, power := { s.power with confirmed := 550, readBack := true, avsHeld := false } })
      (n := if k = 4 then 2 else 1)
    exact ⟨fun _ => confirmed, fun e => (Bool.false_ne_true e.symm).elim, flash, zone, maint⟩
  | false =>
    dsimp only
    rw [if_neg Bool.false_ne_true]
    have failed := State.stepDownFailed_leaves (s := { s with out := o })
    dsimp only at failed
    generalize State.report _ _ _ _ _ = t at failed ⊢
    obtain ⟨power, flash, zone⟩ := failed
    obtain ⟨confirmed, held, maint, flash', zone'⟩ := State.setDomains_leaves (s := t) (n := if k = 4 then 2 else 1)
    refine ⟨fun e => (Bool.false_ne_true e).elim, fun _ => ⟨confirmed.trans ?_, held.trans ?_⟩, flash'.trans flash,
      zone'.trans zone, maint.trans ?_⟩
    · rw [power]
    · rw [power]
    · rw [power]

/-- Reporting a latency tolerance changes the tolerance sent and what is sent alone. -/
theorem State.ltrUpdate_leaves : let t := s.ltrUpdate n
    t.power = s.power ∧ t.flash = s.flash ∧ t.zone = s.zone ∧ t.sieve = s.sieve ∧ t.tenant = s.tenant := by
  have only : s.ltrUpdate n = { s with intake := { s.intake with ltr := (s.ltrUpdate n).intake.ltr }, out := (s.ltrUpdate n).out } :=
    Reports.ltrUpdate s n
  dsimp only
  rw [only]
  exact ⟨rfl, rfl, rfl, rfl, rfl⟩

/-- The state entered keeps what stopping the interior left. -/
theorem State.entered_leaves : let t := s.entered k
    t.power = { s.power with ps := k, entering := none, chosen := none, refusals := 0, heat := 0, sleptAt := s.now } ∧
      t.flash = s.flash ∧ t.zone = s.zone := by
  obtain ⟨power, flash, zone, -, -⟩ := State.ltrUpdate_leaves (n := stateLtr k)
    (s := { s with power := { s.power with ps := k, entering := none, chosen := none, refusals := 0, heat := 0, sleptAt := s.now } })
  exact ⟨power, flash, zone⟩

/-- PS3 and PS4 change into each other at once (Table 15.4). -/
theorem execPs3Ps4Change_of_asleep (asleep : 3 ≤ s.power.ps) (exiting : s.power.exiting = none) (maint : s.power.maint = none) :
    ∃ t, execPs3Ps4Change s = .next t ∧ t.power.ps = (if s.power.ps = 3 then 4 else 3) ∧ t.flash = s.flash ∧ t.zone = s.zone := by
  generalize goal : (if s.power.ps = 3 then 4 else 3) = target
  generalize set : s.setDomains (if target = 4 then 2 else 1) = u
  obtain ⟨-, -, -, flash, zone⟩ : u.power.confirmed = s.power.confirmed ∧ u.power.avsHeld = s.power.avsHeld ∧
      u.power.maint = s.power.maint ∧ u.flash = s.flash ∧ u.zone = s.zone := set ▸ State.setDomains_leaves
  generalize entered : ({ u with cone := { u.cone with started := u.cone.started && decide (target = 4) }
                                 power := { u.power with ps := target } } : State) = w
  refine ⟨w.ltrUpdate (stateLtr target), congrArg _ ((if_neg ?_).trans ?_), ?_⟩
  · rintro (h | h | h)
    · omega
    · simp [exiting] at h
    · simp [maint] at h
  · dsimp only
    rw [goal, set, entered]
  · obtain ⟨power, flash', zone', -, -⟩ := State.ltrUpdate_leaves (s := w) (n := stateLtr target)
    rw [power, flash', zone', ← entered]
    exact ⟨rfl, flash, zone⟩

theorem State.exitStart_leaves : let t := s.exitStart c
    t.power = { s.power with exiting := some (c, s.now), avsHeld := false, avs := some { mv := s.power.running, at_ := s.now } } ∧
      t.out = .reply Port.avs [0, s.power.running] :: s.out ∧ t.tenant = s.tenant := by
  unfold State.exitStart State.avsSend State.avsWrite
  dsimp only
  rw [State.emit_reply]
  split
  · exact ⟨rfl, rfl, rfl⟩
  · exact ⟨rfl, rfl, rfl⟩

/-- The codes of the sources that wake the part itself, and not its port domain (Table 15.7). -/
theorem execWakeSource_eq (code : c = 0 ∨ c = 1 ∨ c = 2 ∨ c = 3 ∨ c = 6) : execWakeSource c s = .next (s.wake c) :=
  congrArg _ ((if_neg (by omega)).trans (if_neg (by omega)))

theorem State.wake_of_asleep (asleep : 3 ≤ s.power.ps) (exiting : s.power.exiting = none) (maint : s.power.maint = none)
    (entering : s.power.entering = none) : s.wake c = s.exitStart c := by
  unfold State.wake
  rw [entering]
  dsimp only
  rw [if_neg (Nat.not_lt.2 asleep), exiting, maint]

theorem State.wake_of_entering (entering : s.power.entering = some k) : s.wake c = s.endEntry := by
  unfold State.wake
  rw [entering]

theorem execMaintenanceWake_of_due (asleep : 3 ≤ s.power.ps) (exiting : s.power.exiting = none) (maint : s.power.maint = none)
    (due : s.power.sleptAt + s.cfgOf Cfg.PWR_MAINT_H * 360000000000 ≤ s.now) : execMaintenanceWake s = .next (s.exitStart 6) := by
  refine congrArg _ (if_neg ?_)
  rintro (h | h | h | h)
  · omega
  · simp [exiting] at h
  · simp [maint] at h
  · omega

/-- The interior as an exit starts it, its baud rate and the exit's time shown. -/
def State.exited (s : State) (t0 : Nat) : State :=
  (({ s.startInterior with boot := { s.startInterior.boot with
    baud := if s.startInterior.power.ps = 4 then 115200 else s.startInterior.boot.baud } } : State)).setReg Reg.PWR_WAKE_LAST_EXIT_US
      (min 65535 ((s.startInterior.now - t0) / 100))

/-- The part as a maintenance wake leaves it. -/
def State.enterMaint (s : State) : State :=
  ({ s with power := { s.power with exiting := none, maint := some s.power.ps, gBefore := s.power.gFine } } : State).setG
    (State.firstG { s with power := { s.power with exiting := none, maint := some s.power.ps, gBefore := s.power.gFine } })

theorem State.startInterior_leaves : let t := s.startInterior
    t.power.ps = s.power.ps ∧ t.power.lastOp = s.power.lastOp ∧ t.power.held = s.power.held ∧ t.power.heat = 0 ∧
      t.flash = { s.flash with fiSilent := 0 } ∧ t.sieve = s.sieve ∧ t.tenant = s.tenant := by
  obtain ⟨ds, set⟩ := State.setDomains_only (s := s) (n := 0)
  unfold State.startInterior
  rw [set]
  exact ⟨rfl, rfl, rfl, rfl, rfl, rfl, rfl⟩

theorem State.exited_leaves {t0 : Nat} : let t := s.exited t0
    t.power.ps = s.power.ps ∧ t.power.lastOp = s.power.lastOp ∧ t.power.held = s.power.held ∧ t.power.heat = 0 ∧
      t.flash = { s.flash with fiSilent := 0 } ∧ t.sieve = s.sieve ∧ t.tenant = s.tenant := by
  have started := State.startInterior_leaves (s := s)
  unfold State.exited
  generalize s.startInterior = u at started ⊢
  exact started

theorem execExitComplete_of_confirmed {t0 : Nat} (exiting : s.power.exiting = some (c, t0)) (avs : s.power.avs = none)
    (confirmed : s.power.confirmed = s.power.running) : execExitComplete s =
      if c = 6 then .next (s.exited t0).enterMaint else .next (s.exited t0).resumeAll := by
  unfold execExitComplete State.exited State.enterMaint
  rw [exiting]
  dsimp only
  rw [if_neg (by simp [avs, confirmed])]

theorem State.resumeAll_leaves (none_ : s.power.held = []) : let t := s.resumeAll
    t.power = { s.power with ps := s.power.lastOp, exiting := none, chosen := none, held := [] } ∧ t.flash = s.flash ∧
      t.sieve = s.sieve := by
  unfold State.resumeAll
  rw [none_]
  obtain ⟨power, flash, -, sieve, -⟩ := State.ltrUpdate_leaves (n := 1000)
    (s := { s with power := { s.power with ps := s.power.lastOp, exiting := none, chosen := none, held := [] } })
  exact ⟨power, flash, sieve⟩

theorem execExitComplete_of_unconfirmed {t0 : Nat} (exiting : s.power.exiting = some (c, t0))
    (other : s.power.confirmed ≠ s.power.running) : execExitComplete s = .next s := by
  unfold execExitComplete
  rw [exiting]
  exact if_pos (Or.inr other)

/-- What a maintenance wake's return flushes before the domains vote. -/
def State.settledForReentry (s : State) : State := ((s.flushAll.mapAll).park.trailRec .quiet).flushAll

/-- The part back in its non-operational state after a maintenance wake. -/
def State.reentered (s : State) : State :=
  { s.endMaint with power := { s.endMaint.power with refusals := 0, sleptAt := s.endMaint.now } }

theorem State.reentered_leaves : s.reentered.power.maint = none ∧ s.reentered.power.confirmed = s.power.confirmed :=
  ⟨rfl, rfl⟩

theorem execMaintenanceReentry_of_idle (maint : s.power.maint = some k) (dies : s.diesIdle = true) (idle : s.intakeIdle = true)
    (done : s.programsLeft = false) : execMaintenanceReentry r s = (match r.or s.settledForReentry.preCheck with
      | some (d, why) => .next (s.settledForReentry.voteRefused d why k)
      | none => .next (s.settledForReentry.stopInterior k true).reentered) := by
  unfold execMaintenanceReentry
  rw [maint]
  dsimp only
  rw [if_neg (by simp [idle, dies, done])]
  unfold State.settledForReentry
  rfl

theorem execMaintenanceReentry_accepted (maint : s.power.maint = some k) (dies : s.diesIdle = true) (idle : s.intakeIdle = true)
    (done : s.programsLeft = false) (ok : r.or s.settledForReentry.preCheck = none) :
    ∃ t, execMaintenanceReentry r s = .next t ∧ t.power.maint = none ∧ t.power.confirmed = 550 := by
  obtain ⟨down, -, -, -, -⟩ := State.stopInterior_leaves (s := s.settledForReentry) (k := k) (ok := true)
  refine ⟨_, (execMaintenanceReentry_of_idle maint dies idle done).trans (by rw [ok]), ?_⟩
  obtain ⟨maint', confirmed⟩ := State.reentered_leaves (s := s.settledForReentry.stopInterior k true)
  exact ⟨maint', confirmed.trans (down rfl)⟩

theorem execMaintenanceReentry_refused (maint : s.power.maint = some k) (dies : s.diesIdle = true) (idle : s.intakeIdle = true)
    (done : s.programsLeft = false) : execMaintenanceReentry (some (d, why)) s = .next (s.settledForReentry.voteRefused d why k) :=
  execMaintenanceReentry_of_idle maint dies idle done

theorem execMaintenanceReentry_of_busy (maint : s.power.maint = some k) (busy : s.intakeIdle = false ∨ s.programsLeft = true) :
    execMaintenanceReentry r s = .next s := by
  unfold execMaintenanceReentry
  rw [maint]
  refine if_pos ?_
  obtain idle | left := busy
  · exact Or.inl (by simp [idle])
  · exact Or.inr (Or.inr left)

theorem execWakeDomainIdleReturn_of_awake {st : Nat} (awake : s.power.portWake = some st) : execWakeDomainIdleReturn s =
    .next (if s.now < max s.power.wokenAt (max s.mgmt.smbusAt s.boot.frameAt) + 10000000 then s else { s with power := { s.power with
      portWake := none, domains := s.power.domains.upd {} 93 fun d => { d with st := st } } }) := by
  unfold execWakeDomainIdleReturn
  rw [awake]

end

/-- Settles O46: an entry by its votes, an exit by the regulator's readback, a maintenance wake's return by its vote. -/
theorem powerStateRows : Obligations.PowerStateRows := by
  unfold Obligations.PowerStateRows
  refine ⟨?_, ?_, ?_, ?_, ?_, ?_, ?_, ?_, ?_⟩
  · intro i cid ps s takes u
    have run : ∀ f, s.adminDo i cid f = .next (adminAnswer i cid (f u)) := fun f => adminDo_on takes
    clear_value u
    exact ⟨execSetFeaturesPowerManagement_of_unknown run, execSetFeaturesPowerManagement_of_tenant run⟩
  · intro cid ps s takes u
    have run : ∀ f, s.adminDo 0 cid f = .next (adminAnswer 0 cid (f u)) := fun f => adminDo_on takes
    clear_value u
    refine ⟨fun awake => ⟨_, execSetFeaturesPowerManagement_operational run awake, ?_⟩, fun asleep known =>
      ⟨_, execSetFeaturesPowerManagement_nonoperational run asleep known rfl, ?_⟩⟩
    · rw [State.adminCqe_power, State.adminCqe_flash]
      exact State.enterOperational_leaves
    · rw [State.adminCqe_power, State.adminCqe_flash]
      exact ⟨rfl, rfl, rfl, rfl⟩
  · intro i cid v s takes u
    have run : ∀ f, s.adminDo i cid f = .next (adminAnswer i cid (f u)) := fun f => adminDo_on takes
    clear_value u
    refine ⟨fun on es => execSetFeaturesApst_of_fitting run, fun on es e => execSetFeaturesApst_of_operational run,
      fun unknown single b => execSetFeaturesTemperatureThreshold_of_unknown run unknown single, fun known =>
      ⟨(execSetFeaturesTemperatureThreshold_of_known run known).trans ?_,
        (execSetFeaturesTemperatureThreshold_of_known run known).trans ?_⟩⟩
    · exact congrArg (fun f => Host.Outcome.next ((u.modInst i f).adminCqe i cid 0 0)) (funext fun x => if_pos rfl)
    · exact congrArg (fun f => Host.Outcome.next ((u.modInst i f).adminCqe i cid 0 0)) (funext fun x => if_neg Bool.false_ne_true)
  · intro k r s
    refine ⟨fun no => congrArg _ (if_neg (by simp [no])), fun ok chosen ready =>
      ⟨execNonopEntryStart_of_chosen ok chosen ready, fun left => ?_, fun d why done refused low staged => ?_⟩,
      fun b due chosen early => (execEntryBackoffRetry_of_due due chosen).trans (congrArg _ (if_pos early)),
      fun b due chosen late no => ?_, fun b due chosen late ok => ?_, fun no => ?_, execApstIdleExpiry_of_state⟩
    · exact (execNonopEntryStart_of_chosen ok chosen ready).trans (congrArg _ (if_pos left))
    · rw [refused]
      exact ⟨_, execNonopEntryStart_of_chosen ok chosen ready, State.entryStart_of_refused done staged low⟩
    · exact (execEntryBackoffRetry_of_due due chosen).trans
        (congrArg _ ((if_neg (Nat.not_lt.2 late)).trans (if_neg (by simp [no]))))
    · exact (execEntryBackoffRetry_of_due due chosen).trans (congrArg _ ((if_neg (Nat.not_lt.2 late)).trans (if_pos ok)))
    · refine congrArg Host.Outcome.next ?_
      rw [no]
  · intro k ok s entering dump
    refine ⟨fun busy => ?_, fun idle busy => ?_, fun d idle quiet vote => ?_, fun idle quiet vote => ?_⟩
    · refine (?_ : execNonopStateReached ok s = _)
      unfold execNonopStateReached
      rw [entering]
      exact if_pos (Or.inl (by simp [busy]))
    · refine (?_ : execNonopStateReached ok s = _)
      unfold execNonopStateReached
      rw [entering]
      exact (if_neg (by simp [idle, dump])).trans (if_pos (by simp [busy]))
    · refine (execNonopStateReached_of_idle entering dump idle quiet).trans ?_
      rw [vote]
    · refine ⟨(s.stopInterior k ok).entered k, (execNonopStateReached_of_idle entering dump idle quiet).trans (by rw [vote]), ?_⟩
      obtain ⟨down, held, flash, zone, -⟩ := State.stopInterior_leaves (s := s) (k := k) (ok := ok)
      generalize s.stopInterior k ok = u at down held flash zone ⊢
      obtain ⟨power, flash', zone'⟩ := State.entered_leaves (s := u) (k := k)
      rw [power, flash', zone']
      exact ⟨rfl, rfl, rfl, rfl, down, held, flash, zone⟩
  · intro s asleep exiting maint
    refine ⟨execPs3Ps4Change_of_asleep asleep exiting maint, fun entering c code => ?_, fun early => ?_, fun due => ?_⟩
    · obtain ⟨power, out, -⟩ := State.exitStart_leaves (s := s) (c := c)
      refine ⟨_, execWakeSource_eq code, ?_⟩
      rw [State.wake_of_asleep asleep exiting maint entering, power]
      exact ⟨rfl, rfl, rfl, out⟩
    · exact congrArg Host.Outcome.next (if_pos (Or.inr (Or.inr (Or.inr early))))
    · obtain ⟨power, -, tenant⟩ := State.exitStart_leaves (s := s) (c := 6)
      refine ⟨_, execMaintenanceWake_of_due asleep exiting maint due, ?_⟩
      rw [power]
      exact ⟨rfl, rfl, rfl, tenant⟩
  · intro k n c s
    refine ⟨fun entering code => (execWakeSource_eq code).trans (congrArg _ (State.wake_of_entering entering)),
      fun exiting avs confirmed => ⟨fun operational none_ => ?_, fun code => ?_⟩, execExitComplete_of_unconfirmed⟩
    · obtain ⟨-, lastOp, held, heat, flash, sieve, -⟩ := State.exited_leaves (s := s) (t0 := n)
      refine ⟨_, (execExitComplete_of_confirmed exiting avs confirmed).trans (if_neg operational), ?_⟩
      generalize s.exited n = u at lastOp held heat flash sieve ⊢
      obtain ⟨power, flash', sieve'⟩ := State.resumeAll_leaves (s := u) (held.trans none_)
      rw [power, flash', sieve']
      exact ⟨lastOp, rfl, heat, flash, sieve⟩
    · obtain ⟨ps, -, -, heat, flash, -, tenant⟩ := State.exited_leaves (s := s) (t0 := n)
      refine ⟨_, (execExitComplete_of_confirmed exiting avs confirmed).trans (if_pos code), ?_⟩
      generalize s.exited n = u at ps heat flash tenant ⊢
      exact ⟨ps, congrArg some ps, rfl, heat, flash, tenant⟩
  · intro k r s maint dies
    exact ⟨execMaintenanceReentry_of_busy maint, fun idle done => ⟨fun ok => execMaintenanceReentry_accepted maint dies idle done ok,
      fun d why refused => refused ▸ execMaintenanceReentry_refused maint dies idle done⟩⟩
  · intro st s awake
    exact ⟨fun early => (execWakeDomainIdleReturn_of_awake awake).trans (congrArg _ (if_pos early)), fun late =>
      (execWakeDomainIdleReturn_of_awake awake).trans (congrArg _ (if_neg (Nat.not_lt.2 late)))⟩

end Sys2Proof.Machine
end

section

/-! Proofs: power domains, the core regulator and the diodes in PS3 and PS4 (spec 15). -/

namespace Sys2Proof.Machine

set_option Elab.async false

variable {s : State} {d mv : Nat}

section

theorem execDomainIdleGate_of_idle (gating : s.cfgOf Cfg.PWR_IDLE_GATE = 1) (awake : s.power.ps < 3)
    (on : (s.power.domains.get {} d).st = 0) (idle : (d < 64 ∧ s.channelIdle d = true) ∨ (d = 79 ∧ s.upperLanesIdle = true)) :
    execDomainIdleGate d s = .next { s with power := { s.power with
      domains := s.power.domains.upd {} d fun x => { x with st := 2, idle := true } } } := by
  refine congrArg _ (if_pos ⟨gating, awake, ?_, on⟩)
  obtain ⟨channel, free⟩ | ⟨rfl, free⟩ := idle
  · exact (if_pos channel).trans free
  · exact (if_neg (by decide)).trans (by simp [free])

theorem execDomainIdleGate_of_other (other : s.cfgOf Cfg.PWR_IDLE_GATE ≠ 1 ∨ (64 ≤ d ∧ d ≠ 79)) : execDomainIdleGate d s = .next s := by
  refine congrArg _ (if_neg ?_)
  rintro ⟨gating, -, ok, -⟩
  obtain no | ⟨high, no⟩ := other
  · exact no gating
  · rw [if_neg (by omega)] at ok
    simp [no] at ok

theorem execIsolationGateWake_of_gated (exists_ : d ≤ 95) (awake : s.power.ps < 3)
    (gated : (s.power.domains.get {} d).st = 1 ∨ (s.power.domains.get {} d).st = 2) : execIsolationGateWake d s =
    .next { s with power := { s.power with domains := s.power.domains.upd {} d fun x =>
      { x with st := 0, idle := false, autoWakes := satAdd 16 x.autoWakes 1 } } } := by
  refine congrArg _ (if_neg ?_)
  rintro (h | h | h | h) <;> omega

theorem execIsolationGateWake_of_asleep (asleep : 3 ≤ s.power.ps) : execIsolationGateWake d s = .next s :=
  congrArg _ (if_pos (Or.inr (Or.inr (Or.inr asleep))))

theorem execAvsStepRequest_of_free (free : s.power.avs = none) (awake : s.power.ps < 3) (entering : s.power.entering = none)
    (exiting : s.power.exiting = none) (low : 600 ≤ mv) (high : mv ≤ s.coreCeiling) (step : mv % 5 = 0) (other : mv ≠ s.power.confirmed)
    (trip : s.cone.trip = false) (asked : s.cone.asked = false) : execAvsStepRequest mv s =
      .next (State.avsSend { s with cone := { s.cone with asked := true } } mv) := by
  refine congrArg _ (if_neg ?_)
  simp only [free, entering, exiting, trip, asked, step, other]
  simp
  omega

theorem execAvsStepRequest_of_refused (refused : mv < 600 ∨ s.coreCeiling < mv ∨ s.power.avs.isSome = true ∨ s.cone.trip = true ∨
    s.cone.asked = true) : execAvsStepRequest mv s = .next s := by
  refine congrArg _ (if_pos ?_)
  obtain h | h | h | h | h := refused <;> simp [h]

theorem execAvsStepResult_of_due {a : AvsStep} {x : AvsAnswer} (step : s.power.avs = some a) (due : s.avsDue a x = true) :
    execAvsStepResult x s = .next (if avsConfirms x a.mv then
        (if a.retried then
          (((s.avsRead x (avsConfirms x a.mv)).avsConfirmed a.mv).bump Reg.PWR_AVS_FAIL_RETRIES).reportTransient 0x302 0x48 a.mv
        else (s.avsRead x (avsConfirms x a.mv)).avsConfirmed a.mv)
      else if a.retried then (s.avsRead x (avsConfirms x a.mv)).avsFailed a.mv
      else (s.avsRead x (avsConfirms x a.mv)).avsWrite a.mv true) := by
  unfold execAvsStepResult
  rw [step]
  exact if_neg (by simp [due])

/-- A readback that confirms is one that was read. -/
theorem State.avsRead_of_confirms {x : AvsAnswer} (confirms : avsConfirms x mv = true) :
    s.avsRead x true = s.emit (.reply Port.avs [1]) := by
  cases x with
  | readback v => rfl
  | _ => simp [avsConfirms] at confirms

/-- A reading of the regulator changes what is sent alone. -/
theorem State.avsRead_only {x : AvsAnswer} {ok : Bool} : ∃ o, s.avsRead x ok = { s with out := o } := by
  have read (u : State) (o : List Out) (e : u = { s with out := o }) :
      ∃ o, (if ok then u else u.emit (.reply Port.avs [2])) = { s with out := o } := by
    split
    · exact ⟨o, e⟩
    · exact ⟨_, (State.emit_reply ..).trans (by rw [e])⟩
  cases x with
  | readback v => exact read _ _ (State.emit_reply ..)
  | _ => exact read s s.out rfl

theorem State.avsFailed_leaves : (s.avsFailed mv).power = { s.power with avs := none, failedAt := s.now } := by
  unfold State.avsFailed
  rw [State.report_power _ _ _ _ (by decide), State.bump_power]

theorem execAvsExitRetry_of_due {x : AvsAnswer} (exiting : s.power.exiting.isSome = true) (free : s.power.avs = none)
    (other : s.power.confirmed ≠ s.power.running) (due : s.power.failedAt + 100000 ≤ s.now) : execAvsExitRetry x s =
      .next (if avsConfirms x s.power.running then
        ((s.emit (.reply Port.avs [0, s.power.running])).avsRead x (avsConfirms x s.power.running)).avsConfirmed s.power.running
      else ((s.emit (.reply Port.avs [0, s.power.running])).avsRead x (avsConfirms x s.power.running)).avsFailed s.power.running) := by
  refine congrArg _ (if_neg ?_)
  rintro (h | h | h | h)
  · simp [Option.isNone_iff_eq_none] at h
    simp [h] at exiting
  · simp [free] at h
  · exact other h
  · omega

end

/-- Settles O47: a domain by its entry of the table, a voltage step by its readback. -/
theorem powerDomainRows : Obligations.PowerDomainRows := by
  unfold Obligations.PowerDomainRows
  refine ⟨?_, ?_, ?_, ?_, ?_⟩
  · intro d s
    refine ⟨fun gating awake on idle => ⟨_, execDomainIdleGate_of_idle gating awake on idle, ?_⟩, execDomainIdleGate_of_other,
      fun exists_ awake gated few => ⟨_, execIsolationGateWake_of_gated exists_ awake gated, ?_⟩, execIsolationGateWake_of_asleep⟩
    · have there : (s.power.domains.upd {} d fun x => { x with st := 2, idle := true }).get {} d =
          { s.power.domains.get {} d with st := 2, idle := true } :=
        Tab.get_set_self_of_ne fun e => by cases congrArg Domain.st e
      have others (k : Nat) (ne : k ≠ d) : (s.power.domains.upd {} d fun x => { x with st := 2, idle := true }).get {} k =
          s.power.domains.get {} k := Tab.get_upd_ne ne
      exact ⟨congrArg Domain.st there, congrArg Domain.idle there, others, rfl⟩
    · have counted : satAdd 16 (s.power.domains.get {} d).autoWakes 1 = (s.power.domains.get {} d).autoWakes + 1 := by
        unfold satAdd
        omega
      have there : (s.power.domains.upd {} d fun x => { x with st := 0, idle := false, autoWakes := satAdd 16 x.autoWakes 1 }).get {} d =
          { s.power.domains.get {} d with st := 0, idle := false, autoWakes := satAdd 16 (s.power.domains.get {} d).autoWakes 1 } :=
        Tab.get_set_self_of_ne fun e => by
          have none_ : satAdd 16 (s.power.domains.get {} d).autoWakes 1 = 0 := congrArg Domain.autoWakes e
          omega
      have others (k : Nat) (ne : k ≠ d) : (s.power.domains.upd {} d fun x =>
          { x with st := 0, idle := false, autoWakes := satAdd 16 x.autoWakes 1 }).get {} k = s.power.domains.get {} k :=
        Tab.get_upd_ne ne
      exact ⟨congrArg Domain.st there, (congrArg Domain.autoWakes there).trans counted, others, rfl⟩
  · intro mv s
    refine ⟨fun free awake entering exiting low high step other trip asked =>
      ⟨_, execAvsStepRequest_of_free free awake entering exiting low high step other trip asked, ?_⟩, execAvsStepRequest_of_refused⟩
    unfold State.avsSend State.avsWrite
    rw [State.emit_reply]
    exact ⟨rfl, rfl, rfl, rfl, rfl⟩
  · intro a x s step
    refine ⟨fun early => ?_, fun due => ⟨fun confirms first => ?_, fun confirms again => ?_, fun wrong first => ?_, fun wrong again => ?_⟩⟩
    · refine (?_ : execAvsStepResult x s = _)
      unfold execAvsStepResult
      rw [step]
      exact if_pos (by simp [early])
    · refine (execAvsStepResult_of_due step due).trans (congrArg _ ?_)
      rw [confirms, first, State.avsRead_of_confirms confirms, if_pos rfl, if_neg Bool.false_ne_true]
    · refine (execAvsStepResult_of_due step due).trans (congrArg _ ?_)
      rw [confirms, again, State.avsRead_of_confirms confirms, if_pos rfl, if_pos rfl]
    · have run := execAvsStepResult_of_due step due
      rw [wrong, first, if_neg Bool.false_ne_true, if_neg Bool.false_ne_true] at run
      refine ⟨_, run, ?_⟩
      obtain ⟨o, read⟩ := State.avsRead_only (s := s) (x := x) (ok := false)
      rw [read]
      unfold State.avsWrite
      rw [State.emit_reply]
      exact ⟨rfl, rfl, rfl⟩
    · refine (execAvsStepResult_of_due step due).trans (congrArg _ ?_)
      rw [wrong, again, if_neg Bool.false_ne_true, if_pos rfl]
      rfl
  · intro x s exiting free other
    refine ⟨fun early => congrArg Host.Outcome.next (if_pos (Or.inr (Or.inr (Or.inr early)))), fun due =>
      ⟨_, execAvsExitRetry_of_due exiting free other due, ?_⟩⟩
    obtain ⟨o, read⟩ := State.avsRead_only (s := s.emit (.reply Port.avs [0, s.power.running])) (x := x)
      (ok := avsConfirms x s.power.running)
    rw [read, State.emit_reply]
    cases confirms : avsConfirms x s.power.running with
    | true => exact ⟨rfl, rfl, fun _ => rfl, fun e => (Bool.false_ne_true e.symm).elim⟩
    | false =>
      rw [if_neg Bool.false_ne_true, State.avsFailed_leaves]
      exact ⟨rfl, rfl, fun e => (Bool.false_ne_true e).elim, fun _ => ⟨rfl, rfl⟩⟩
  · intro a b s
    refine ⟨fun awake => congrArg Host.Outcome.next (if_pos awake), fun asleep =>
      ⟨_, congrArg Host.Outcome.next (if_neg (Nat.not_lt.2 asleep)), rfl, rfl, rfl, rfl⟩⟩

end Sys2Proof.Machine
end

section

/-! Proofs: Cone, the housekeeping round and a thermal trip (spec 16). -/

namespace Sys2Proof.Machine

set_option Elab.async false

variable {s : State}

/-! ### What a Grave report leaves -/

section

variable {d p : Nat} {l : List Nat}

/-- Cone, the power states, the configuration, Glaze, the Grave state and the counted sources. -/
def State.besideDump (s : State) : ConePart × PowerPart × Tab (Option Nat) × GlazePart × Bool × Tab Src :=
  (s.cone, s.power, s.cfg, s.glaze, s.fault.grave, s.fault.srcs)

theorem State.besideDump_iff {t : State} : t.besideDump = s.besideDump ↔ t.cone = s.cone ∧ t.power = s.power ∧ t.cfg = s.cfg ∧
    t.glaze = s.glaze ∧ t.fault.grave = s.fault.grave ∧ t.fault.srcs = s.fault.srcs := by
  simp only [State.besideDump, Prod.mk.injEq]

theorem State.ite_besideDump {c : Prop} [Decidable c] {a b : State} (ha : a.besideDump = s.besideDump)
    (hb : b.besideDump = s.besideDump) : (if c then a else b).besideDump = s.besideDump := by
  split
  · exact ha
  · exact hb

theorem State.emit_besideDump {o : Out} : (s.emit o).besideDump = s.besideDump := by
  rw [State.emit_only]
  rfl

theorem State.interrupt_besideDump {i v : Nat} : (s.interrupt i v).besideDump = s.besideDump :=
  State.ite_besideDump rfl State.emit_besideDump

theorem State.settleSnap_besideDump {f : Fence} {r : Nat} : (s.settleSnap f r).2.besideDump = s.besideDump := by
  unfold State.settleSnap
  split
  · rfl
  · split
    · rfl
    · rfl

theorem State.reportFence_besideDump {f : Fence} {r : Nat} : (s.reportFence p f r).besideDump = s.besideDump := by
  have snap := State.settleSnap_besideDump (s := s) (f := f) (r := r)
  unfold State.reportFence
  generalize s.settleSnap f r = q at snap ⊢
  obtain ⟨r', t⟩ := q
  dsimp only at snap ⊢
  refine State.ite_besideDump snap (State.ite_besideDump (State.emit_besideDump.trans snap) (State.ite_besideDump ?_ ?_))
  · exact State.interrupt_besideDump.trans (State.emit_besideDump.trans (State.ite_besideDump snap snap))
  · exact State.emit_besideDump.trans (State.ite_besideDump snap snap)

theorem State.releaseFences_besideDump : (s.releaseFences p).besideDump = s.besideDump :=
  (State.each_keeps State.besideDump fun _ _ => State.reportFence_besideDump).trans rfl

theorem State.abandonFences_besideDump {test : Fence → Bool} : (s.abandonFences test).besideDump = s.besideDump :=
  (State.each_keeps State.besideDump fun _ _ => State.releaseFences_besideDump).trans rfl

theorem State.regionNext_besideDump {role : Nat} {x : (List Nat × Nat) × State} (region : s.regionNext role d = some x) :
    x.2.besideDump = s.besideDump := by
  have blocks (u : State) (bs : List (Nat × Nat)) (f : Block → Block) : (u.setBlocks d bs f).besideDump = u.besideDump :=
    State.each_keeps State.besideDump fun _ _ => rfl
  unfold State.regionNext at region
  dsimp only at region
  split at region
  · cases region
    rfl
  · obtain ⟨b, taken, rfl⟩ := Option.map_eq_some_iff.1 region
    unfold State.takeBlocks at taken
    dsimp only at taken
    split at taken
    · cases taken
      exact blocks _ _ _
    · cases taken

theorem State.dumpOn_besideDump {o : For} : ((s.dumpOn o l).getD s).besideDump = s.besideDump := by
  induction l with
  | nil => rfl
  | cons d rest ih =>
    unfold State.dumpOn
    split
    next x region => exact (rfl : _ = State.besideDump _).trans (State.regionNext_besideDump region)
    next => exact ih

theorem State.planDump_besideDump {units : List DUnit} : (s.planDump units).besideDump = s.besideDump := by
  have planned (u : State) (a : List (List Nat)) (b : List Nat) (f : State → List (Nat × List DUnit)) (g : Nat → List Nat) :
      ((((u.each a fun s l => (s.dumpOn (.dump 0) l).getD s).dumpOn (.dump 1) b).getD
        (u.each a fun s l => (s.dumpOn (.dump 0) l).getD s)).each
          (f (((u.each a fun s l => (s.dumpOn (.dump 0) l).getD s).dumpOn (.dump 1) b).getD
            (u.each a fun s l => (s.dumpOn (.dump 0) l).getD s))) fun s c =>
              (s.dumpOn (.dump (c.1 + 2)) (g c.1)).getD s).besideDump = u.besideDump :=
    (State.each_keeps State.besideDump fun _ _ => State.dumpOn_besideDump).trans (State.dumpOn_besideDump.trans
      (State.each_keeps State.besideDump fun _ _ => State.dumpOn_besideDump))
  exact (rfl : _ = State.besideDump _).trans (planned _ _ _ (fun u => u.trail.dumpPlan) _)

theorem State.dumpStart_besideDump : s.dumpStart.besideDump = s.besideDump :=
  State.ite_besideDump rfl (State.planDump_besideDump.trans State.abandonFences_besideDump)

theorem State.writeRec_besideDump {r : Rec} : (s.writeRec r).besideDump = s.besideDump := by
  have kept : Records s (s.writeRec r) := (Records.refl s).writeRec
  exact State.besideDump_iff.2 ⟨kept.cone, kept.power, kept.cfg, kept.glaze, congrArg FaultPart.grave State.writeRec_fault,
    congrArg FaultPart.srcs State.writeRec_fault⟩

/-- The Grave state as it begins, before the dump: a trial image that runs counts as failed (R487). -/
def State.graveShown (s : State) : State :=
  let s := { s with fault := { s.fault with grave := true, cfs := true, graveAt := s.now } }
  if (s.boot.slots.get ({} : FwSlot) s.boot.running).st = 3 then { s with boot := { s.boot with attempts := 3 } } else s

theorem State.graveShown_besideDump : s.graveShown.besideDump = (s.cone, s.power, s.cfg, s.glaze, true, s.fault.srcs) := by
  unfold State.graveShown
  dsimp only
  split
  · rfl
  · rfl

theorem State.graveEnter_of_first (first : s.fault.grave = false) :
    s.graveEnter = s.graveShown.dumpStart.log Code.graveEntry 6 0x309 [] := by
  unfold State.graveEnter State.graveShown
  rw [if_neg (by simp [first])]

/-- Entering the Grave state sets it and leaves Cone, the power states, the configuration and Glaze. -/
theorem State.graveEnter_leaves : s.graveEnter.besideDump = (s.cone, s.power, s.cfg, s.glaze, true, s.fault.srcs) := by
  cases grave : s.fault.grave with
  | true =>
    have same : s.graveEnter = s := if_pos grave
    rw [same]
    unfold State.besideDump
    rw [grave]
  | false =>
    rw [State.graveEnter_of_first grave]
    exact State.writeRec_besideDump.trans (State.dumpStart_besideDump.trans State.graveShown_besideDump)

/-- The counts of a source as an accepted message leaves them (R450). -/
def State.srcAfter (s : State) (m : Msg) (n : Nat) : Src :=
  let old := s.src (countedSource m.source)
  let win := old.window s.now (s.cfgOf Cfg.FLT_ESC_COUNT) (s.cfgOf Cfg.FLT_ESC_WINDOW) n
  { win with
    count := satAdd 32 old.count n, escalated := win.escalated && !false
    worst := max old.worst (if !false && decide (m.cls < 2) && old.crosses win then 2 else m.cls), lastKind := m.kind }

/-- The class of an accepted message, raised to Severe where its source escalates (R450). -/
def State.clsAfter (s : State) (m : Msg) (n : Nat) : Nat :=
  let old := s.src (countedSource m.source)
  if !false && decide (m.cls < 2) && old.crosses (old.window s.now (s.cfgOf Cfg.FLT_ESC_COUNT) (s.cfgOf Cfg.FLT_ESC_WINDOW) n) then 2
  else m.cls

theorem State.clsAfter_lt {m : Msg} {n : Nat} (low : m.cls < 3) : s.clsAfter m n < 3 ∧ m.cls ≤ s.clsAfter m n := by
  unfold State.clsAfter
  dsimp only
  split
  next raised =>
    simp only [Bool.and_eq_true, decide_eq_true_eq] at raised
    omega
  · omega

/-- A message counted, latched and written to the Kiln Log. -/
def State.recorded (s : State) (m : Msg) (injected : Bool) (n : Nat) : State :=
  let old := s.src (countedSource m.source)
  let win := old.window s.now (s.cfgOf Cfg.FLT_ESC_COUNT) (s.cfgOf Cfg.FLT_ESC_WINDOW) n
  let raised := !false && decide (m.cls < 2) && old.crosses win
  let cls := if raised then 2 else m.cls
  let latched := decide (s.reg Reg.FLT_CFG_LATCH_CLASS ≤ cls) && decide (s.reg Reg.FLT_FIRST_CTRL_VALID = 0)
  let s := (s.modSrc (countedSource m.source) fun _ => s.srcAfter m n).latch m cls
  let s := { s with klog := { s.klog with supp := s.klog.supp.upd 0 (0x0100 + m.kind) fun x => satAdd 16 x (n - 1) } }
  s.writeRec {
    length := 32, code := 0x0100 + m.kind, severity := classSeverity cls, source := countedSource m.source,
    msg := some { m with cls := cls }, escalated := raised, injected := injected, latched := latched, winCount := win.winCount }

theorem State.accept_eq {m : Msg} {injected : Bool} {n : Nat} : s.accept m injected false n =
    (let u := s.recorded m injected n
     if s.clsAfter m n = 3 then
       (if u.reg Reg.FLT_CFG_IEN = 1 then u.interrupt 0 (u.reg Reg.FLT_CFG_VECTOR) else u).graveEnter
     else if u.fault.handler.isSome then
       { u with fault := { u.fault with queue := u.fault.queue ++ [{ m with cls := s.clsAfter m n }] } }
     else if 1 ≤ s.clsAfter m n then { u with fault := { u.fault with handler := some { m with cls := s.clsAfter m n } } }
     else u) := by
  unfold State.accept State.recorded State.clsAfter State.srcAfter
  dsimp only
  rw [if_neg Bool.false_ne_true]

theorem State.latch_fault {m : Msg} {c : Nat} : (s.latch m c).fault = s.fault := by
  unfold State.latch
  split
  · rfl
  · split
    · rfl
    · dsimp only
      split
      · rfl
      · rfl

theorem State.recorded_fault {m : Msg} {injected : Bool} {n : Nat} :
    (s.recorded m injected n).fault = (s.modSrc (countedSource m.source) fun _ => s.srcAfter m n).fault := by
  unfold State.recorded
  rw [State.writeRec_fault]
  exact State.latch_fault

/-- Recording a message leaves all but the registers, the Kiln Log and the sources. -/
theorem State.recorded_records {m : Msg} {injected : Bool} {n : Nat} : Records s (s.recorded m injected n) :=
  ((((Records.refl s).modSrc).latch).inKlog).writeRec

/-- A Grave message enters the Grave state, and leaves Cone, the power states, the configuration and Glaze. -/
theorem State.accept_grave {m : Msg} {injected : Bool} {n : Nat} (grave : m.cls = 3) : (s.accept m injected false n).besideDump =
    (s.cone, s.power, s.cfg, s.glaze, true, (s.modSrc (countedSource m.source) fun _ => s.srcAfter m n).fault.srcs) := by
  have cls : s.clsAfter m n = 3 := by
    unfold State.clsAfter
    rw [grave]
    rfl
  have kept := State.recorded_records (s := s) (m := m) (injected := injected) (n := n)
  have srcs := congrArg FaultPart.srcs (State.recorded_fault (s := s) (m := m) (injected := injected) (n := n))
  rw [State.accept_eq]
  dsimp only
  rw [if_pos cls]
  generalize s.recorded m injected n = u at kept srcs ⊢
  have told : (if u.reg Reg.FLT_CFG_IEN = 1 then u.interrupt 0 (u.reg Reg.FLT_CFG_VECTOR) else u).besideDump = u.besideDump :=
    State.ite_besideDump State.interrupt_besideDump rfl
  generalize (if u.reg Reg.FLT_CFG_IEN = 1 then u.interrupt 0 (u.reg Reg.FLT_CFG_VECTOR) else u) = v at told ⊢
  obtain ⟨cone, power, cfg, glaze, -, srcs'⟩ := State.besideDump_iff.1 told
  rw [State.graveEnter_leaves, cone, power, cfg, glaze, srcs', kept.cone, kept.power, kept.cfg, kept.glaze, srcs]

/-- A Grave report enters the Grave state, and leaves Cone, the power states, the configuration and Glaze. -/
theorem State.reportGrave_leaves {source kind address : Nat} : let t := s.report source kind address 3
    t.cone = s.cone ∧ t.power = s.power ∧ t.cfg = s.cfg ∧ t.glaze = s.glaze ∧ t.fault.grave = true := by
  have reported : s.report source kind address 3 =
      s.accept { source := source, kind := kind, address := address, cls := 3 } false false 1 := by
    unfold State.report State.fltMsg
    exact if_pos (Or.inl rfl)
  have left := State.accept_grave (s := s) (m := { source := source, kind := kind, address := address, cls := 3 })
    (injected := false) (n := 1) rfl
  rw [reported]
  simp only [State.besideDump, Prod.mk.injEq] at left
  obtain ⟨cone, power, cfg, glaze, grave, -⟩ := left
  exact ⟨cone, power, cfg, glaze, grave⟩

end

/-! ### The floor of f through completions -/

section

variable {i t : Nat}

/-- A field that another kind of event takes keeps its value. -/
theorem State.takeCfg_cfgOf {k : CfgKind} {q : Nat → Bool} {id : Nat} {row : CfgInfo} (known : cfgInfo id = some row)
    (other : row.kind ≠ k) : (s.takeCfg k q).cfgOf id = s.cfgOf id := by
  have folded (l : List (Nat × Option Nat)) (u : State) (mine : ∀ e ∈ l, e.1 / 4096 ≠ id) :
      (l.foldl (fun s e => s.setCfg (e.1 / 4096) (e.1 % 4096) (e.2.getD 0)) u).cfgOf id = u.cfgOf id := by
    induction l generalizing u with
    | nil => rfl
    | cons e rest ih =>
      refine (ih _ fun x listed => mine x (List.mem_cons_of_mem _ listed)).trans ?_
      have ne : cfgKey id 0 ≠ cfgKey (e.1 / 4096) (e.1 % 4096) := by
        have := mine e List.mem_cons_self
        unfold cfgKey
        omega
      unfold State.cfgOf State.cfgAt State.setCfg
      dsimp only
      rw [Tab.get_set_ne ne]
  unfold State.takeCfg
  refine (folded _ _ fun e listed => ?_).trans rfl
  intro same
  have taken := (List.mem_filter.1 listed).2
  rw [same, known] at taken
  simp [other] at taken

/-- The floor of f, and the configuration fields that only a round takes. -/
def State.floor (s : State) : Nat := s.cfgOf Cfg.CONE_FLOOR

theorem State.floor_of_cfg {u : State} (same : u.cfg = s.cfg) : u.floor = s.floor := by
  unfold State.floor State.cfgOf State.cfgAt
  rw [same]

theorem State.ite_floor {c : Prop} [Decidable c] {a b : State} (ha : a.floor = s.floor) (hb : b.floor = s.floor) :
    (if c then a else b).floor = s.floor := by
  split
  · exact ha
  · exact hb

theorem State.takeCfg_floor {k : CfgKind} {q : Nat → Bool} (other : CfgKind.round ≠ k) : (s.takeCfg k q).floor = s.floor :=
  State.takeCfg_cfgOf (row := ⟨Cfg.CONE_FLOOR, 10, 50, 1, 25, .round, 0⟩) (by decide) other

theorem State.idleBegins_floor : s.idleBegins.floor = s.floor :=
  State.ite_floor ((State.takeCfg_floor (by decide)).trans (State.takeCfg_floor (by decide))) rfl

theorem State.ltrUpdate_floor {n : Nat} : (s.ltrUpdate n).floor = s.floor := by
  have only : s.ltrUpdate n = { s with intake := { s.intake with ltr := (s.ltrUpdate n).intake.ltr }, out := (s.ltrUpdate n).out } :=
    Reports.ltrUpdate s n
  exact State.floor_of_cfg ((congrArg State.cfg only).trans rfl)

theorem State.issueReads_floor {p : Nat} : (s.issueReads p).floor = s.floor := State.ite_floor rfl rfl

theorem State.answerReads_floor {n : Nat} : (s.answerReads t n).floor = s.floor :=
  State.ite_floor (State.issueReads_floor.trans rfl) rfl

theorem State.releaseUnits_floor {l : List Nat} : (s.releaseUnits l).floor = s.floor :=
  State.floor_of_cfg (State.besideUpkeep_iff.1 State.releaseUnits_besideUpkeep).2.1

theorem State.shutdownDone_floor : (s.shutdownDone i).floor = s.floor :=
  State.ite_floor rfl rfl

theorem State.freeTagOf_floor : (s.freeTagOf t).floor = s.floor := by
  have released (c : Prop) [Decidable c] (l : List Nat) (n : Nat) :
      (if c then (s.answerReads t n).releaseUnits l else s.answerReads t n).floor = s.floor :=
    State.ite_floor (State.releaseUnits_floor.trans State.answerReads_floor) State.answerReads_floor
  unfold State.freeTagOf
  dsimp only
  refine State.ltrUpdate_floor.trans (State.ite_floor (State.idleBegins_floor.trans ?_) ?_)
  · exact (rfl : _ = State.floor _).trans (State.shutdownDone_floor.trans ((rfl : _ = State.floor _).trans (released _ _ _)))
  · exact (rfl : _ = State.floor _).trans (State.shutdownDone_floor.trans ((rfl : _ = State.floor _).trans (released _ _ _)))

theorem State.postTag_floor {st d : Nat} : (s.postTag t st d).floor = s.floor := by
  unfold State.postTag
  dsimp only
  refine State.freeTagOf_floor.trans ((State.floor_of_cfg ?_).trans rfl)
  rw [State.postCqe_cfg]

theorem State.adminCqe_floor {c st d : Nat} : (s.adminCqe i c st d).floor = s.floor := by
  unfold State.adminCqe
  split
  · exact State.ite_floor rfl (State.ite_floor rfl State.postTag_floor)
  · rfl

theorem State.event_floor {k n l : Nat} : (s.event i k n l).floor = s.floor := by
  unfold State.event State.deliverEvent
  dsimp only
  refine (State.ite_floor rfl ?_).trans rfl
  split
  · exact State.adminCqe_floor.trans rfl
  · rfl

theorem State.temperatureFigures_leaves : let t := s.temperatureFigures
    t.cone = s.cone ∧ t.power = s.power ∧ t.floor = s.floor := by
  have told (l : List Nat) (u : State) (same : (u.cone, u.power, u.floor) = (s.cone, s.power, s.floor)) :
      let t := u.each l fun s i => if s.tempWarning i then s.event i Ev.smart 0x01 0x02 else s
      t.cone = s.cone ∧ t.power = s.power ∧ t.floor = s.floor := by
    have kept : (fun t : State => (t.cone, t.power, t.floor))
        (u.each l fun s i => if s.tempWarning i then s.event i Ev.smart 0x01 0x02 else s) = (u.cone, u.power, u.floor) := by
      refine State.each_keeps (fun t : State => (t.cone, t.power, t.floor)) fun v i => ?_
      split
      · have posts : Posts v (v.event i Ev.smart 0x01 0x02) := (Posts.refl v).event
        rw [posts.cone, posts.power, State.event_floor]
      · rfl
    simpa only [Prod.mk.injEq] using kept.trans same
  exact told _ _ rfl

end

/-! ### A trip -/

section

variable {w : Nat}

/-- What a trip is reported from: the life's end counted for the earlier trip, the pin low. -/
def State.tripped (s : State) : State :=
  let s := if s.klog.segments.any fun g => g.recs.any fun r => r.code = 0x014D then s.lifeBreak 3 else s
  ({ s with cone := { s.cone with trip := true } }).emit (.reply Port.pin [0])

theorem State.thermalTrip_eq : s.thermalTrip w = s.tripped.report 0x303 0x4D w 3 := rfl

theorem State.tripped_leaves : let t := s.tripped
    t.cone = { s.cone with trip := true } ∧ t.power = s.power ∧ t.cfg = s.cfg ∧ t.glaze = s.glaze ∧ .reply Port.pin [0] ∈ t.out := by
  have pinned (u : State) (same : u.besideDump = s.besideDump) :
      let t := State.emit { u with cone := { u.cone with trip := true } } (.reply Port.pin [0])
      t.cone = { s.cone with trip := true } ∧ t.power = s.power ∧ t.cfg = s.cfg ∧ t.glaze = s.glaze ∧ .reply Port.pin [0] ∈ t.out := by
    obtain ⟨cone, power, cfg, glaze, -, -⟩ := State.besideDump_iff.1 same
    rw [State.emit_reply, cone]
    exact ⟨rfl, power, cfg, glaze, List.mem_cons_self⟩
  exact pinned _ (State.ite_besideDump (State.ite_besideDump rfl rfl) rfl)

/-- A trip is Grave, shown at the pin, and leaves the rest of Cone, the power states and Glaze. -/
theorem State.thermalTrip_leaves : let t := s.thermalTrip w
    t.cone = { s.cone with trip := true } ∧ t.power = s.power ∧ t.cfg = s.cfg ∧ t.glaze = s.glaze ∧ t.fault.grave = true ∧
      .reply Port.pin [0] ∈ t.out := by
  obtain ⟨cone, power, cfg, glaze, pin⟩ := State.tripped_leaves (s := s)
  have left := State.reportGrave_leaves (s := s.tripped) (source := 0x303) (kind := 0x4D) (address := w)
  have sent : s.tripped.out <:+ (s.tripped.report 0x303 0x4D w 3).out :=
    (Holds.report (w := True) (Holds.refl s.tripped)).sent
  rw [State.thermalTrip_eq]
  generalize State.report _ _ _ _ _ = t at left sent ⊢
  obtain ⟨cone', power', cfg', glaze', grave⟩ := left
  exact ⟨cone'.trans cone, power'.trans power, cfg'.trans cfg, glaze'.trans glaze, grave, sent.subset pin⟩

theorem execThermalTrip_of_first (first : s.cone.trip = false) (node : w ≤ 25) (working : 24 ≤ w → w - 24 ∉ s.cone.failed) :
    execThermalTrip w s = .next (s.thermalTrip w) := by
  refine congrArg _ (if_neg ?_)
  rintro (h | h | ⟨diode, failed⟩)
  · simp [first] at h
  · omega
  · exact working diode (List.contains_iff_mem.1 failed)

theorem execThermalTrip_of_other (other : s.cone.trip = true ∨ 25 < w ∨ (24 ≤ w ∧ w - 24 ∈ s.cone.failed)) :
    execThermalTrip w s = .next s :=
  congrArg _ (if_pos (other.imp_right (Or.imp_right fun ⟨diode, failed⟩ => ⟨diode, List.contains_iff_mem.2 failed⟩)))

end

/-! ### A housekeeping round -/

section

variable {a : AdcRound}

/-- What an accepted round takes over from its readings. -/
def ConePart.readings (c : ConePart) : Nat × List Int × Bool × List Nat × Int × Int :=
  (c.discarded, c.rings, c.started, c.power, c.diode0, c.diode1)

/-- The readings of a round that is accepted. -/
def State.readingsOfRound (s : State) (a : AdcRound) : Nat × List Int × Bool × List Nat × Int × Int :=
  (0, a.rings, true, a.currents.zipIdx.map fun x => x.1 * s.domainMv a x.2 / 1000, a.diode0 * 125, a.diode1 * 125)

theorem State.acceptRound_leaves : let t := s.acceptRound a
    t.cone.readings = s.readingsOfRound a ∧ t.power = s.power := by
  have tripped (u : State) (node : Option Nat) (same : u.cone.readings = s.readingsOfRound a ∧ u.power = s.power) :
      let t := match node with
        | some i => if u.cone.trip then u else u.thermalTrip i
        | none => u
      t.cone.readings = s.readingsOfRound a ∧ t.power = s.power := by
    cases node with
    | none => exact same
    | some i =>
      dsimp only
      split
      · exact same
      · obtain ⟨cone, power, -, -, -, -⟩ := State.thermalTrip_leaves (s := u) (w := i)
        rw [cone, power]
        exact same
  have broken (u : State) (c : Bool) (same : u.cone.readings = s.readingsOfRound a ∧ u.power = s.power) :
      let t := (if c then u.lifeBreak 4 else u).throttle
      t.cone.readings = s.readingsOfRound a ∧ t.power = s.power := by
    unfold State.lifeBreak
    cases c with
    | false => exact same
    | true =>
      rw [if_pos rfl]
      split
      · exact same
      · exact same
  refine tripped _ _ (broken _ _ ?_)
  dsimp only
  split
  next started => exact ⟨congrArg (fun b => (0, a.rings, b, (s.readingsOfRound a).2.2.2)) started, rfl⟩
  · exact ⟨rfl, rfl⟩

theorem State.discardRound_leaves : let t := s.discardRound
    t.cone = { s.cone with discarded := s.cone.discarded + 1, f := if 3 ≤ s.cone.discarded + 1 then s.floor else s.cone.f } ∧
      t.power = s.power ∧ t.cfg = s.cfg := by
  have kept (u : State) (c : Prop) [Decidable c] :
      Records u (if c then (u.report 0x304 0x4A 0 0).report 0x304 0x4A 0 2 else u.report 0x304 0x4A 0 0) := by
    have once : Records u (u.report 0x304 0x4A 0 0) := (Records.refl u).report (by decide)
    split
    · exact once.report (by decide)
    · exact once
  have all := kept { s with cone := { s.cone with
    discarded := s.cone.discarded + 1, f := if 3 ≤ s.cone.discarded + 1 then s.cfgOf Cfg.CONE_FLOOR else s.cone.f } }
    (s.cone.discarded + 1 = 3)
  exact ⟨all.cone, all.power, all.cfg⟩

theorem State.coneStep_leaves {mv : Nat} : let t := s.coneStep mv
    t.cone.readings = s.cone.readings ∧ t.cone.f = s.cone.f := by
  unfold State.coneStep State.avsSend State.avsWrite
  rw [State.emit_reply]
  split
  · exact ⟨rfl, rfl⟩
  · exact ⟨rfl, rfl⟩

/-- Cone's request of a voltage, which ends the count of cool rounds when it starts a step. -/
def State.askVoltage (s : State) (mv : Nat) : State :=
  if (s.coneStep mv).power.avs = s.power.avs then s
  else { s.coneStep mv with cone := { (s.coneStep mv).cone with coolRounds := 0 } }

theorem State.askVoltage_readings {mv : Nat} : (s.askVoltage mv).cone.readings = s.cone.readings := by
  unfold State.askVoltage
  split
  · rfl
  · exact State.coneStep_leaves.1

theorem State.coneVoltage_readings : s.coneVoltage.cone.readings = s.cone.readings := by
  have voted (u : State) (same : u.cone.readings = s.cone.readings) (c₁ c₂ c₃ c₄ : Prop) {_ : Decidable c₁} {_ : Decidable c₂}
      {_ : Decidable c₃} {_ : Decidable c₄} (m₁ m₂ m₃ : Nat) : (if c₁ then u else if c₂ then u.askVoltage m₁
        else if c₃ then u.askVoltage m₂ else if c₄ then u.askVoltage m₃ else u).cone.readings = s.cone.readings := by
    split
    · exact same
    · split
      · exact State.askVoltage_readings.trans same
      · split
        · exact State.askVoltage_readings.trans same
        · split
          · exact State.askVoltage_readings.trans same
          · exact same
  refine voted _ ?_ _ _ _ _ _ _ _
  rfl

theorem State.roundReadback_cone {mv : Nat} : (s.roundReadback mv).cone = s.cone := by
  unfold State.roundReadback
  split
  · rfl
  · obtain ⟨o, right⟩ := State.avsRead_only (s := s) (x := .readback mv) (ok := true)
    obtain ⟨o', wrong⟩ := State.avsRead_only (s := s) (x := .readback mv) (ok := false)
    rw [right, wrong]
    unfold State.avsWrite
    rw [State.emit_reply]
    split
    · rfl
    · rfl

theorem State.updateG_leaves : let t := s.updateG
    t.cone = s.cone ∧ t.cfg = s.cfg := by
  have settled (c d e : Prop) [Decidable c] [Decidable d] [Decidable e] (x y : Nat) :
      let t := if c then s else if d then s.setG x else if e then s.setG y else s
      t.cone = s.cone ∧ t.cfg = s.cfg := by
    dsimp only
    split
    · exact ⟨rfl, rfl⟩
    · split
      · exact ⟨rfl, rfl⟩
      · split
        · exact ⟨rfl, rfl⟩
        · exact ⟨rfl, rfl⟩
  exact settled _ _ _ _ _

/-- Sending the throttle message gives intake f and g, and leaves Cone and the power states. -/
theorem State.sendThrottle_leaves : let t := s.sendThrottle
    t.intake.f = t.cone.f ∧ t.intake.g = t.power.g ∧ t.cone = s.cone ∧ t.cfg = s.cfg :=
  ⟨rfl, rfl, rfl, rfl⟩

/-- The end of a round: what the instances are told, the Archive's pages, and awake the next voltage and the throttle message. -/
def State.endRound (s : State) (a : AdcRound) : State :=
  let s := s.temperatureFigures.computeArchive
  if s.asleep then s else (if a.ok then (s.roundReadback a.readback).coneVoltage else s).updateG.sendThrottle

theorem execHousekeepingRound_of_measured {u : State} (measured : s.power.ps ≠ 4 ∨ s.power.maint.isSome = true)
    (noted : (State.noteStress { s with cone := { s.cone with asked := false } } a.rails).roundFigures = u) :
    execHousekeepingRound a s = .next ((if a.ok then u.acceptRound a else u.discardRound).endRound a) := by
  unfold execHousekeepingRound State.endRound
  dsimp only
  rw [if_neg, noted]
  · exact (apply_ite Host.Outcome.next ..).symm
  · rintro ⟨deep, none_⟩
    obtain awake | maint := measured
    · exact awake deep
    · simp [Option.isNone_iff_eq_none.1 none_] at maint

theorem State.asleep_of_power {u : State} (same : u.power = s.power) : u.asleep = s.asleep := by
  unfold State.asleep
  rw [same]

/-- A round's end sends the throttle message unless the part sleeps, and keeps what the round has set. -/
theorem State.endRound_leaves {α : Type} (g : ConePart → α)
    (kept : a.ok = true → ∀ u : State, g (u.roundReadback a.readback).coneVoltage.cone = g u.cone) : let t := s.endRound a
    g t.cone = g s.cone ∧ (a.ok = false → t.floor = s.floor) ∧
      (s.asleep = false → t.intake.f = t.cone.f ∧ t.intake.g = t.power.g) := by
  obtain ⟨cone, power, floor⟩ := State.temperatureFigures_leaves (s := s)
  have archived (u : State) : u.computeArchive.cone = u.cone ∧ u.computeArchive.power = u.power ∧ u.computeArchive.floor = u.floor :=
    ⟨rfl, rfl, rfl⟩
  obtain ⟨cone', power', floor'⟩ := archived s.temperatureFigures
  unfold State.endRound
  dsimp only
  generalize s.temperatureFigures.computeArchive = v at cone' power' floor' ⊢
  have same : v.cone = s.cone := cone'.trans cone
  have awake : v.asleep = s.asleep := State.asleep_of_power (power'.trans power)
  have fields : v.floor = s.floor := floor'.trans floor
  rw [awake]
  split
  next asleep => exact ⟨congrArg g same, fun _ => fields, fun e => by simp [e] at asleep⟩
  next =>
    have last : g (if a.ok then (v.roundReadback a.readback).coneVoltage else v).cone = g s.cone := by
      split
      next ok => exact (kept ok v).trans (congrArg g same)
      · exact congrArg g same
    have unread : a.ok = false → (if a.ok then (v.roundReadback a.readback).coneVoltage else v).cfg = v.cfg := by
      intro no
      rw [no, if_neg Bool.false_ne_true]
    generalize (if a.ok then (v.roundReadback a.readback).coneVoltage else v) = w at last unread ⊢
    obtain ⟨coneG, cfgG⟩ := State.updateG_leaves (s := w)
    obtain ⟨f, g', coneT, cfgT⟩ := State.sendThrottle_leaves (s := w.updateG)
    exact ⟨(congrArg g (coneT.trans coneG)).trans last,
      fun no => (State.floor_of_cfg (cfgT.trans (cfgG.trans (unread no)))).trans fields, fun _ => ⟨f, g'⟩⟩

end

/-! ### Die readings, the diodes and the history -/

section

variable {d0 d1 : Int}

theorem foldl_max_mem_and_le (v : Int) (l : List Int) : l.foldl max v ∈ v :: l ∧ ∀ x ∈ v :: l, x ≤ l.foldl max v := by
  induction l generalizing v with
  | nil => simp
  | cons w rest ih =>
    obtain ⟨among, above⟩ := ih (max v w)
    refine ⟨?_, fun x listed => ?_⟩
    · rw [List.foldl_cons]
      obtain e | e := List.mem_cons.1 among
      · rw [e]
        obtain h | h := max_choice v w <;> simp [h]
      · exact List.mem_cons_of_mem _ (List.mem_cons_of_mem _ e)
    · have top := above _ List.mem_cons_self
      rw [List.foldl_cons]
      obtain rfl | listed := List.mem_cons.1 listed
      · exact (le_max_left ..).trans top
      · obtain rfl | listed := List.mem_cons.1 listed
        · exact (le_max_right ..).trans top
        · exact above x (List.mem_cons_of_mem _ listed)

theorem nodesOf_get {f : Nat → Int} {i : Nat} (known : i < 24) : (nodesOf f).get 0 i = f i := by
  have built (n : Nat) : Tab.wf (0 : Int) ((List.range n).foldl (fun (t : Tab Int) i => t.set 0 i (f i)) []) = true ∧
      ∀ i < n, Tab.get (0 : Int) ((List.range n).foldl (fun (t : Tab Int) i => t.set 0 i (f i)) []) i = f i := by
    induction n with
    | zero => exact ⟨rfl, fun i h => absurd h (Nat.not_lt_zero i)⟩
    | succ n ih =>
      obtain ⟨wf, values⟩ := ih
      rw [List.range_succ, List.foldl_append]
      refine ⟨Tab.wf_set wf, fun i h => ?_⟩
      obtain rfl | lower := Nat.eq_or_lt_of_le (Nat.le_of_lt_succ h)
      · exact Tab.get_set_self wf
      · exact (Tab.get_set_ne (Nat.ne_of_lt lower)).trans (values i lower)
  exact (built 24).2 i known

theorem State.diodeCheck_of_fine {k : Nat} {t : Int} (low : -320 ≤ t) (high : t ≤ 1200) : s.diodeCheck k t = s :=
  if_neg (by omega)

theorem State.diodeCheck_of_bad {k : Nat} {t : Int} (bad : t < -320 ∨ 1200 < t) (first : s.cone.failed = []) :
    s.diodeCheck k t = ({ s with cone := { s.cone with failed := [k] } }).report 0x303 0x4C k 2 := by
  unfold State.diodeCheck
  rw [first]
  exact if_pos ⟨bad, rfl⟩

/-- The diodes' readings in place and the die readings taken. -/
def State.diodesRead (s : State) (d0 d1 : Int) : State :=
  State.dieMeans { s with cone := { s.cone with diode0 := d0 * 125, diode1 := d1 * 125 } }

theorem State.diodesRead_leaves : let t := s.diodesRead d0 d1
    t.cone = { s.cone with diode0 := d0 * 125, diode1 := d1 * 125, dieTemps := [] } ∧ t.zone = s.zone := ⟨rfl, rfl⟩

/-- The model anchored to the diodes, and the NAND temperature sent to the steward. -/
def State.anchored (s : State) (d0 d1 e0 e1 : Int) : State := ((s.diodesRead d0 d1).anchor e0 e1).post 1 [s.cone.nand]

theorem execDiodeAnchor_eq {u : State} (checked : (s.diodeCheck 0 d0).diodeCheck 1 d1 = u) : execDiodeAnchor d0 d1 s =
    .next (u.anchored d0 d1 (d0 * 125 - u.cone.nodes.get 0 8) (d1 * 125 - u.cone.nodes.get 0 3)) := by
  unfold execDiodeAnchor State.anchored State.diodesRead
  rw [checked]

theorem State.moveNodes_eq {e : Int} : s.moveNodes e = { s with cone := { s.cone with
    base := s.cone.base + e, nodes := nodesOf fun i => s.cone.nodes.get 0 i + e } } := by
  unfold State.moveNodes
  dsimp only

/-- With both diodes working the model is moved by the larger of the two deviations. -/
theorem State.anchor_of_both {e0 e1 : Int} (working : s.cone.failed = []) : let t := s.anchor e0 e1
    t.cone = { s.cone with residual := (e0 - e1).natAbs, base := s.cone.base + max e0 e1,
                           nodes := nodesOf fun i => s.cone.nodes.get 0 i + max e0 e1 } ∧ t.zone = s.zone := by
  unfold State.anchor
  rw [working, if_neg (by decide), if_neg (by decide)]
  dsimp only
  rw [State.moveNodes_eq]
  generalize nodesOf _ = nodes
  split
  · rw [State.report_cone _ _ _ _ (by decide), State.report_zone _ _ _ _ (by decide)]
    exact ⟨rfl, rfl⟩
  · exact ⟨rfl, rfl⟩

/-- With diode 0 failed the model is moved by diode 1's deviation. -/
theorem State.anchor_of_second {e0 e1 : Int} (failed : s.cone.failed = [0]) : s.anchor e0 e1 = s.moveNodes e1 := by
  unfold State.anchor
  rw [failed, if_pos (by decide), if_neg (by decide)]

theorem State.post_leaves {n : Nat} {l : List Int} : (s.post n l).cone = s.cone ∧ (s.post n l).zone = s.zone := ⟨rfl, rfl⟩

theorem State.anchored_of_both {e0 e1 : Int} (working : s.cone.failed = []) : let t := s.anchored d0 d1 e0 e1
    t.cone.base = s.cone.base + max e0 e1 ∧ t.cone.residual = (e0 - e1).natAbs ∧ t.cone.dieTemps = [] ∧
      (∀ i, i < 24 → t.cone.nodes.get 0 i = s.cone.nodes.get 0 i + max e0 e1) ∧ t.cone.failed = [] ∧ t.zone = s.zone := by
  obtain ⟨cone, zone⟩ := State.diodesRead_leaves (s := s) (d0 := d0) (d1 := d1)
  unfold State.anchored
  dsimp only
  generalize s.diodesRead d0 d1 = u at cone zone ⊢
  obtain ⟨cone', zone'⟩ := State.anchor_of_both (s := u) (e0 := e0) (e1 := e1) (by rw [cone]; exact working)
  have moved (i : Nat) (known : i < 24) : (nodesOf fun i => s.cone.nodes.get 0 i + max e0 e1).get 0 i =
      s.cone.nodes.get 0 i + max e0 e1 := nodesOf_get known
  rw [State.post_leaves.1, State.post_leaves.2, cone', zone', cone]
  dsimp only
  generalize (nodesOf fun i => s.cone.nodes.get 0 i + max e0 e1) = nodes at moved ⊢
  exact ⟨rfl, rfl, rfl, moved, working, zone⟩

theorem State.anchored_of_second {e0 e1 : Int} (failed : s.cone.failed = [0]) : let t := s.anchored d0 d1 e0 e1
    t.cone.failed = [0] ∧ t.cone.base = s.cone.base + e1 ∧
      ∀ i, i < 24 → t.cone.nodes.get 0 i = s.cone.nodes.get 0 i + e1 := by
  obtain ⟨cone, -⟩ := State.diodesRead_leaves (s := s) (d0 := d0) (d1 := d1)
  unfold State.anchored
  dsimp only
  generalize s.diodesRead d0 d1 = u at cone ⊢
  have moved (i : Nat) (known : i < 24) : (nodesOf fun i => s.cone.nodes.get 0 i + e1).get 0 i = s.cone.nodes.get 0 i + e1 :=
    nodesOf_get known
  rw [State.post_leaves.1, State.anchor_of_second (by rw [cone]; exact failed), State.moveNodes_eq, cone]
  dsimp only
  generalize (nodesOf fun i => s.cone.nodes.get 0 i + e1) = nodes at moved ⊢
  exact ⟨failed, rfl, moved⟩

/-- A diode out of range is reported and taken as failed. -/
theorem State.diodeCheck_bad_cone {k : Nat} {t : Int} (bad : t < -320 ∨ 1200 < t) (first : s.cone.failed = []) :
    (s.diodeCheck k t).cone = { s.cone with failed := [k] } := by
  rw [State.diodeCheck_of_bad bad first]
  exact State.report_cone _ _ _ _ (by decide)

theorem State.countSecond_leaves : let t := s.countSecond
    t.cone.lifeSecs = s.cone.lifeSecs + 1 ∧ t.cone.lifeSum = s.cone.lifeSum + s.cone.hot ∧
      t.cone.hist = s.cone.hist.upd 0 (tempBin s.cone.hot) (fun n => satAdd 32 n 1) ∧ t.zone = s.zone ∧ t.power = s.power := by
  unfold State.countSecond
  dsimp only
  split
  · exact ⟨rfl, rfl, rfl, rfl, rfl⟩
  · exact ⟨rfl, rfl, rfl, rfl, rfl⟩

/-- The history of a second as the warnings leave it. -/
def State.counted (s : State) : Nat × Int × Tab Nat × ZonePart × PowerPart :=
  (s.cone.lifeSecs, s.cone.lifeSum, s.cone.hist, s.zone, s.power)

theorem State.lifeBreak_counted {c : Nat} : (s.lifeBreak c).counted = s.counted := by
  unfold State.lifeBreak
  split
  · rfl
  · rfl

theorem State.lifeWarning_counted : s.lifeWarning.counted = s.counted := by
  unfold State.lifeWarning
  dsimp only
  split
  · exact State.lifeBreak_counted
  · have logged (u : State) (c v o : Nat) (l : List Nat) : (u.log c v o l).counted = u.counted := by
      have kept : Records u (u.log c v o l) := (Records.refl u).log
      unfold State.counted
      rw [kept.cone, kept.zone, kept.power]
    exact (logged _ _ _ _ _).trans ((rfl : _ = State.counted _).trans State.lifeBreak_counted)

theorem execTemperatureHistoryTick_counted : ∃ t, execTemperatureHistoryTick s = .next t ∧ t.counted = s.countSecond.counted := by
  refine ⟨_, rfl, ?_⟩
  have posted (u : State) (c : Prop) [Decidable c] (l : List Int) : (if c then u.post 4 l else u).counted = u.counted := by
    split
    · rfl
    · rfl
  have broken (u : State) (c : Prop) [Decidable c] : (if c then u.lifeBreak 2 else u).counted = u.counted := by
    split
    · exact State.lifeBreak_counted
    · rfl
  have warned (u : State) (c : Prop) [Decidable c] : (if c then u else u.lifeWarning).counted = u.counted := by
    split
    · rfl
    · exact State.lifeWarning_counted
  exact (warned _ _).trans ((broken _ _).trans (posted _ _ _))

end

/-- Settles O49: a round by its readings, the diodes by the nodes they move, a second by its bin, a trip by the Grave report. -/
theorem thermalRows : Obligations.ThermalRows := by
  unfold Obligations.ThermalRows
  refine ⟨?_, ?_, ?_, ?_, ?_⟩
  · intro a s
    refine ⟨fun deep none_ => if_pos ⟨deep, Option.isNone_iff_eq_none.2 none_⟩, fun measured => ?_⟩
    intro u
    have run := execHousekeepingRound_of_measured (a := a) measured (rfl : _ = u)
    clear_value u
    refine ⟨_, run, ?_⟩
    cases ok : a.ok with
    | true =>
      obtain ⟨readings, power⟩ := State.acceptRound_leaves (s := u) (a := a)
      rw [if_pos rfl]
      generalize u.acceptRound a = v at readings power ⊢
      obtain ⟨kept, -, sent⟩ := State.endRound_leaves (s := v) (a := a) ConePart.readings fun _ w => by
        rw [State.coneVoltage_readings, State.roundReadback_cone]
      generalize v.endRound a = t at kept sent ⊢
      have all := kept.trans readings
      simp only [ConePart.readings, State.readingsOfRound, Prod.mk.injEq] at all
      exact ⟨fun _ => all, fun e => (Bool.false_ne_true e.symm).elim, fun awake => sent ((State.asleep_of_power power).trans awake)⟩
    | false =>
      obtain ⟨cone, power, cfg⟩ := State.discardRound_leaves (s := u)
      rw [if_neg Bool.false_ne_true]
      generalize u.discardRound = v at cone power cfg ⊢
      obtain ⟨kept, floor, sent⟩ := State.endRound_leaves (s := v) (a := a) (fun c => (c.discarded, c.nodes, c.hot, c.f))
        fun e => by rw [ok] at e; exact (Bool.false_ne_true e).elim
      generalize v.endRound a = t at kept floor sent ⊢
      rw [cone] at kept
      simp only [Prod.mk.injEq] at kept
      obtain ⟨discarded, nodes, hot, f⟩ := kept
      refine ⟨fun e => (Bool.false_ne_true e).elim, fun _ => ⟨discarded, nodes, hot, fun few => f.trans (if_neg (by omega)), fun many =>
        f.trans ((if_pos (by omega)).trans ?_)⟩, fun awake => sent ((State.asleep_of_power power).trans awake)⟩
      exact (State.floor_of_cfg cfg).symm.trans (floor ok).symm
  · intro ts s
    refine ⟨fun none_ => ?_, fun some_ => ?_⟩
    · refine (?_ : execDieTemperatureReadings ts s = _)
      unfold execDieTemperatureReadings
      rw [none_]
      rfl
    · obtain ⟨v, rest, all⟩ := List.exists_cons_of_ne_nil some_
      obtain ⟨among, above⟩ := foldl_max_mem_and_le v.2 (rest.map (·.2))
      have run : execDieTemperatureReadings ts s = .next { s.postBack 2 ((s.readingsOf ts).map fun t => t.2) with
          cone := { (s.postBack 2 ((s.readingsOf ts).map fun t => t.2)).cone with
            dieTemps := (s.readingsOf ts).foldl addReading (s.postBack 2 ((s.readingsOf ts).map fun t => t.2)).cone.dieTemps
            nand := (rest.map (·.2)).foldl max v.2 * 125 } } := by
        unfold execDieTemperatureReadings
        rw [all]
        rfl
      refine ⟨_, run, rfl, ?_, fun x listed => ?_⟩
      · rw [← List.map_cons (f := fun x : Nat × Int => x.2)] at among
        obtain ⟨x, listed, e⟩ := List.mem_map.1 among
        exact ⟨x, all ▸ listed, congrArg (· * 125) e.symm⟩
      · have bound := above x.2 (List.mem_map_of_mem (f := fun x : Nat × Int => x.2) (all ▸ listed))
        change x.2 * 125 ≤ (rest.map (·.2)).foldl max v.2 * 125
        omega
  · intro d0 d1 s none_
    refine ⟨fun low high low' high' => ⟨_, execDiodeAnchor_eq (by
      rw [State.diodeCheck_of_fine low high, State.diodeCheck_of_fine low' high']), State.anchored_of_both none_⟩,
      fun bad low high => ?_⟩
    have cone := State.diodeCheck_bad_cone (k := 0) bad none_
    refine ⟨_, execDiodeAnchor_eq (State.diodeCheck_of_fine low high), ?_⟩
    generalize s.diodeCheck 0 d0 = u at cone ⊢
    have left := State.anchored_of_second (s := u) (d0 := d0) (d1 := d1) (e0 := d0 * 125 - u.cone.nodes.get 0 8)
      (e1 := d1 * 125 - u.cone.nodes.get 0 3) (by rw [cone])
    have nodes : u.cone.nodes = s.cone.nodes := by rw [cone]
    have base : u.cone.base = s.cone.base := by rw [cone]
    rw [base, nodes] at left
    rw [nodes]
    exact left
  · intro s
    obtain ⟨t, run, kept⟩ := execTemperatureHistoryTick_counted (s := s)
    obtain ⟨secs, sum, hist, zone, power⟩ := State.countSecond_leaves (s := s)
    simp only [State.counted, Prod.mk.injEq] at kept
    obtain ⟨secs', sum', hist', zone', power'⟩ := kept
    refine ⟨t, run, secs'.trans secs, sum'.trans sum, ?_, fun b ne => ?_, zone'.trans zone, power'.trans power⟩
    · rw [hist', hist]
      refine (Tab.get_set_self_of_ne ?_).trans ?_
      · dsimp only [satAdd]
        omega
      · dsimp only [satAdd]
        omega
    · rw [hist', hist]
      exact Tab.get_upd_ne ne
  · intro w s
    refine ⟨execThermalTrip_of_other, fun first node working => ⟨_, execThermalTrip_of_first first node working, ?_⟩⟩
    obtain ⟨cone, -, -, glaze, grave, pin⟩ := State.thermalTrip_leaves (s := s) (w := w)
    exact ⟨by rw [cone], grave, pin, glaze⟩

end Sys2Proof.Machine
end

section

/-! Proofs: fault messages, their handler, the Grave state's third step, injection and the first-source latch (spec 17). -/

namespace Sys2Proof.Machine

set_option Elab.async false

variable {s : State}

/-! ### An accepted message -/

section

variable {m : Msg} {injected : Bool} {n : Nat}

/-- An accepted message is counted, so its source is none of the default's. -/
theorem State.src_recorded (counts : 0 < n) : let f := (s.modSrc (countedSource m.source) fun _ => s.srcAfter m n).fault
    f.srcs.get {} (countedSource m.source) = s.srcAfter m n ∧
      ∀ k, k ≠ countedSource m.source → f.srcs.get ({} : Src) k = s.src k := by
  refine ⟨State.src_modSrc_self fun e => ?_, fun k ne => State.src_modSrc_ne ne⟩
  have none_ : satAdd 32 (s.src (countedSource m.source)).count n = 0 := congrArg Src.count e
  unfold satAdd at none_
  omega

theorem State.srcAfter_leaves : (s.srcAfter m n).count = satAdd 32 (s.src (countedSource m.source)).count n ∧
    (s.srcAfter m n).lastKind = m.kind := ⟨rfl, rfl⟩

/-- A message below Grave leaves all but the registers, the Kiln Log and the Fault Collector, and there the Grave state. -/
theorem State.accept_below (low : m.cls < 3) : let t := s.accept m injected false n
    Records s t ∧ t.fault.grave = s.fault.grave ∧
      t.fault.srcs = (s.modSrc (countedSource m.source) fun _ => s.srcAfter m n).fault.srcs ∧
      (1 ≤ m.cls → s.fault.handler = none → t.fault.handler = some { m with cls := s.clsAfter m n }) ∧
      ∀ h, s.fault.handler = some h → t.fault.handler = some h ∧ t.fault.queue.length = s.fault.queue.length + 1 := by
  have kept := State.recorded_records (s := s) (m := m) (injected := injected) (n := n)
  have fault := State.recorded_fault (s := s) (m := m) (injected := injected) (n := n)
  obtain ⟨below, atleast⟩ := State.clsAfter_lt (s := s) (m := m) (n := n) low
  rw [State.accept_eq]
  dsimp only
  rw [if_neg (Nat.ne_of_lt below)]
  generalize s.recorded m injected n = u at kept fault ⊢
  have grave : u.fault.grave = s.fault.grave := (congrArg FaultPart.grave fault).trans rfl
  have handler : u.fault.handler = s.fault.handler := (congrArg FaultPart.handler fault).trans rfl
  have queue : u.fault.queue = s.fault.queue := (congrArg FaultPart.queue fault).trans rfl
  have srcs := congrArg FaultPart.srcs fault
  split
  next busy =>
    refine ⟨kept.inFault, grave, srcs, fun _ none_ => ?_, fun h some_ => ⟨handler.trans some_, ?_⟩⟩
    · rw [handler, none_] at busy
      exact (Bool.false_ne_true busy).elim
    · exact (List.length_append ..).trans (congrArg (fun l => List.length l + 1) queue)
  next free =>
    have idle (h : Msg) (some_ : s.fault.handler = some h) : False := free (by rw [handler, some_]; rfl)
    split
    · exact ⟨kept.inFault, grave, srcs, fun _ _ => rfl, fun h some_ => (idle h some_).elim⟩
    next low' => exact ⟨kept, grave, srcs, fun least _ => absurd (Nat.le_trans least atleast) low', fun h some_ => (idle h some_).elim⟩

/-- A message that the collector takes is accepted. -/
theorem State.fltMsg_taken (room : m.cls = 3 ∨ s.fault.queue.length < 256) : s.fltMsg m injected = s.accept m injected false 1 := by
  unfold State.fltMsg
  refine if_pos ?_
  obtain grave | few := room
  · exact Or.inl grave
  · exact Or.inr (Or.inr (Or.inr few))

/-- With the queue full the source's port holds the message (R455). -/
theorem State.fltMsg_held (low : m.cls < 3) (known : alarmSource m.source = false) (full : 256 ≤ s.fault.queue.length)
    (free : (s.src (countedSource m.source)).held = none) :
    s.fltMsg m = s.modSrc (countedSource m.source) fun x => { x with held := some m } := by
  unfold State.fltMsg
  rw [if_neg]
  · refine State.modSrc_congr ?_
    rw [free]
  · rintro (h | h | h | h)
    · omega
    · simp [known] at h
    · exact Bool.false_ne_true h
    · omega

end

section

variable {w : Nat}

theorem execFaultMessage_of_alarm (alarm : alarmSource (Msg.ofWord w).source = true) : execFaultMessage w s =
    .next ((s.fltMsg (Msg.ofWord w)).zeroize ((Msg.ofWord w).source - 0x1C0)) :=
  congrArg _ (if_pos alarm)

theorem execFaultMessage_of_other (other : alarmSource (Msg.ofWord w).source = false) : execFaultMessage w s =
    .next (s.fltMsg (Msg.ofWord w)) :=
  congrArg _ (if_neg (by simp [other]))

theorem Msg.cls_ofWord_lt : (Msg.ofWord w).cls < 4 := Nat.mod_lt _ (by decide)

end

/-! ### The handler -/

section

variable {i t : Nat}

/-- The count of Severe messages that the handler has taken. -/
def State.severe (s : State) : Nat := s.mgmt.severeCount

theorem State.ite_severe {c : Prop} [Decidable c] {a b : State} (ha : a.severe = s.severe) (hb : b.severe = s.severe) :
    (if c then a else b).severe = s.severe := by
  split
  · exact ha
  · exact hb

theorem State.idleBegins_severe : s.idleBegins.severe = s.severe :=
  State.ite_severe ((State.takeCfg_frame State.severe fun _ _ _ => rfl).trans (State.takeCfg_frame State.severe fun _ _ _ => rfl)) rfl

theorem State.ltrUpdate_severe {n : Nat} : (s.ltrUpdate n).severe = s.severe := by
  have only : s.ltrUpdate n = { s with intake := { s.intake with ltr := (s.ltrUpdate n).intake.ltr }, out := (s.ltrUpdate n).out } :=
    Reports.ltrUpdate s n
  exact (congrArg State.severe only).trans rfl

theorem State.issueReads_severe {p : Nat} : (s.issueReads p).severe = s.severe := State.ite_severe rfl rfl

theorem State.answerReads_severe {n : Nat} : (s.answerReads t n).severe = s.severe :=
  State.ite_severe (State.issueReads_severe.trans rfl) rfl

theorem State.releaseUnits_severe {l : List Nat} : (s.releaseUnits l).severe = s.severe := by
  obtain ⟨-, -, -, -, -, -, same⟩ := State.besideUpkeep_iff.1 (State.releaseUnits_besideUpkeep (s := s) (l := l))
  exact same

theorem State.shutdownDone_severe : (s.shutdownDone i).severe = s.severe := State.ite_severe rfl rfl

theorem State.freeTagOf_severe : (s.freeTagOf t).severe = s.severe := by
  have released (c : Prop) [Decidable c] (l : List Nat) (n : Nat) :
      (if c then (s.answerReads t n).releaseUnits l else s.answerReads t n).severe = s.severe :=
    State.ite_severe (State.releaseUnits_severe.trans State.answerReads_severe) State.answerReads_severe
  unfold State.freeTagOf
  dsimp only
  refine State.ltrUpdate_severe.trans (State.ite_severe (State.idleBegins_severe.trans ?_) ?_)
  · exact (rfl : _ = State.severe _).trans (State.shutdownDone_severe.trans ((rfl : _ = State.severe _).trans (released _ _ _)))
  · exact (rfl : _ = State.severe _).trans (State.shutdownDone_severe.trans ((rfl : _ = State.severe _).trans (released _ _ _)))

theorem State.postCqe_severe {sq cq c st d : Nat} : (s.postCqe i sq cq c st d).severe = s.severe :=
  congrArg MgmtPart.severeCount (Sends.refl s).postCqe.mgmt

theorem State.postTag_severe {st d : Nat} : (s.postTag t st d).severe = s.severe := by
  unfold State.postTag
  exact State.freeTagOf_severe.trans (State.postCqe_severe.trans rfl)

theorem State.adminCqe_severe {c st d : Nat} : (s.adminCqe i c st d).severe = s.severe := by
  unfold State.adminCqe
  split
  · exact State.ite_severe rfl (State.ite_severe rfl State.postTag_severe)
  · rfl

theorem State.event_severe {k n l : Nat} : (s.event i k n l).severe = s.severe := by
  unfold State.event State.deliverEvent
  dsimp only
  refine (State.ite_severe rfl ?_).trans rfl
  split
  · exact State.adminCqe_severe.trans rfl
  · rfl

/-- What an event leaves of the parts the handler acts on. -/
theorem State.event_leaves {k n l : Nat} : let t := s.event i k n l
    t.fault = s.fault ∧ t.klog = s.klog ∧ t.zone = s.zone ∧ t.mgmt.severeCount = s.mgmt.severeCount :=
  have kept : Posts s (s.event i k n l) := (Posts.refl s).event
  ⟨kept.fault, kept.klog, kept.zone, State.event_severe⟩

theorem State.interrupt_leaves {v : Nat} : let t := s.interrupt i v
    t.fault = s.fault ∧ t.klog = s.klog ∧ t.zone = s.zone ∧ t.mgmt.severeCount = s.mgmt.severeCount :=
  have kept : Sends s (s.interrupt i v) := (Sends.refl s).interrupt
  ⟨kept.fault, kept.klog, kept.zone, congrArg MgmtPart.severeCount kept.mgmt⟩

/-- The part of a Severe message's actions after its count: the error event, and telemetry where none is held (Table 17.5). -/
def State.severeActions (s : State) : State :=
  let s := s.event 0 Ev.error Ev.persistentInternalError 0x01
  if s.klog.teleCtrl.isSome then s
  else
    let s : State := { s with klog := { s.klog with teleCtrl := some s.telemetry, teleAvail := true } }
    if bit (s.inst 0).asyncConfig 10 then s.event 0 Ev.notice Ev.telemetryLogChanged 0x08 else s

theorem State.severeActions_leaves : let t := s.severeActions
    t.fault = s.fault ∧ t.klog.teleCtrl.isSome = true ∧ t.zone = s.zone ∧ t.mgmt.severeCount = s.mgmt.severeCount := by
  obtain ⟨fault, -, zone, severe⟩ := State.event_leaves (s := s) (i := 0) (k := Ev.error) (n := Ev.persistentInternalError) (l := 0x01)
  unfold State.severeActions
  dsimp only
  generalize s.event 0 Ev.error Ev.persistentInternalError 0x01 = u at fault zone severe ⊢
  split
  next held => exact ⟨fault, held, zone, severe⟩
  · generalize captured : ({ u with klog := { u.klog with teleCtrl := some u.telemetry, teleAvail := true } } : State) = v
    have same : v.fault = s.fault ∧ v.klog.teleCtrl.isSome = true ∧ v.zone = s.zone ∧ v.mgmt.severeCount = s.mgmt.severeCount := by
      rw [← captured]
      exact ⟨fault, rfl, zone, severe⟩
    split
    · obtain ⟨fault', klog, zone', severe'⟩ := State.event_leaves (s := v) (i := 0) (k := Ev.notice) (n := Ev.telemetryLogChanged) (l := 0x08)
      rw [fault', klog, zone', severe']
      exact same
    · exact same

/-- The handler's message to the steward, and its interrupt. -/
def State.handlerTold (s : State) (c : Nat) : State :=
  let s := s.post 9 [c]
  if 1 ≤ c ∧ s.reg Reg.FLT_CFG_IEN = 1 then s.interrupt 0 (s.reg Reg.FLT_CFG_VECTOR) else s

theorem State.handlerTold_leaves {c : Nat} : let t := s.handlerTold c
    t.fault = s.fault ∧ t.zone = s.zone ∧ t.mgmt.severeCount = s.mgmt.severeCount := by
  have told (u : State) (p : Prop) [Decidable p] (v : Nat)
      (same : u.fault = s.fault ∧ u.zone = s.zone ∧ u.mgmt.severeCount = s.mgmt.severeCount) : let t := if p then u.interrupt 0 v else u
      t.fault = s.fault ∧ t.zone = s.zone ∧ t.mgmt.severeCount = s.mgmt.severeCount := by
    dsimp only
    split
    · obtain ⟨fault, -, zone, severe⟩ := State.interrupt_leaves (s := u) (i := 0) (v := v)
      rw [fault, zone, severe]
      exact same
    · exact same
  exact told _ _ _ ⟨rfl, rfl, rfl⟩

theorem State.handlerActions_eq {c : Nat} : s.handlerActions c =
    if c = 1 then { s.handlerTold c with fault := { (s.handlerTold c).fault with degradedCount := (s.handlerTold c).fault.degradedCount + 1 } }
    else if c = 2 then State.severeActions { s.handlerTold c with
      mgmt := { (s.handlerTold c).mgmt with severeCount := (s.handlerTold c).mgmt.severeCount + 1 } }
    else s.handlerTold c := by
  unfold State.handlerActions State.severeActions State.handlerTold
  rfl

/-- What the handler's actions leave and count, by the class of the message (Table 17.5). -/
theorem State.handlerActions_leaves {c : Nat} : let t := s.handlerActions c
    t.fault = { s.fault with degradedCount := s.fault.degradedCount + (if c = 1 then 1 else 0) } ∧
      t.mgmt.severeCount = s.mgmt.severeCount + (if c = 2 then 1 else 0) ∧ (c = 2 → t.klog.teleCtrl.isSome = true) ∧ t.zone = s.zone := by
  obtain ⟨fault', zone', severe'⟩ := State.handlerTold_leaves (s := s) (c := c)
  rw [State.handlerActions_eq]
  dsimp only
  generalize s.handlerTold c = u at fault' zone' severe' ⊢
  by_cases degraded : c = 1
  · subst degraded
    rw [if_pos rfl, if_pos rfl, if_neg (by decide), ← fault']
    exact ⟨rfl, severe', fun e => absurd e (by decide), zone'⟩
  · rw [if_neg degraded, if_neg degraded]
    by_cases severe_ : c = 2
    · rw [if_pos severe_, if_pos severe_]
      obtain ⟨fault₂, tele, zone₂, severe₂⟩ := State.severeActions_leaves
        (s := { u with mgmt := { u.mgmt with severeCount := u.mgmt.severeCount + 1 } })
      exact ⟨fault₂.trans fault', severe₂.trans (congrArg (· + 1) severe'), fun _ => tele, zone₂.trans zone'⟩
    · rw [if_neg severe_, if_neg severe_]
      exact ⟨fault', severe', fun e => absurd e severe_, zone'⟩

/-- With no port holding a message nothing is delivered. -/
theorem State.deliverHeld_of_none (none_ : ∀ x ∈ s.fault.srcs, x.2.held = none) : s.deliverHeld = s := by
  have held : (s.fault.srcs.filter fun x => x.2.held.isSome) = [] :=
    List.filter_eq_nil_iff.2 fun x listed => by simp [none_ x listed]
  unfold State.deliverHeld
  rw [held]
  rfl

theorem execFaultHandler_of_running {m : Msg} (running : s.fault.handler = some m) : execFaultHandler s =
    .next (let u := if s.fault.grave then s else s.handlerActions m.cls
      ({ u with fault := { u.fault with handler := (nextHandled u.fault.queue).1, queue := (nextHandled u.fault.queue).2 } } : State).deliverHeld) := by
  unfold execFaultHandler
  rw [running]

end

/-! ### STOP and ISOLATE -/

section

/-- Saving the Kiln Log to its area leaves the Fault Collector, the power states and the zones. -/
theorem State.klogPersist_leaves : let t := s.klogPersist
    (t.fault, t.power, t.zone) = (s.fault, s.power, s.zone) := by
  unfold State.klogPersist
  dsimp only
  split
  · rfl
  · exact State.takeCfg_frame (fun t => (t.fault, t.power, t.zone)) fun _ _ _ => rfl

theorem State.persistAll_leaves (n : Nat) : let t := s.persistAll n
    (t.fault, t.power, t.zone) = (s.fault, s.power, s.zone) := by
  induction n generalizing s with
  | zero => rfl
  | succ n ih =>
    unfold State.persistAll
    dsimp only
    split
    · rfl
    · exact ih.trans State.klogPersist_leaves

/-- Domains powered down one after the other: those listed are off, the others stay. -/
theorem Tab.get_foldl_off {t : Tab Domain} {l : List Nat} (k : Nat) :
    (k ∈ l → ((l.foldl (fun t d => t.upd {} d fun (x : Domain) => { x with st := 3, idle := false }) t).get {} k).st = 3) ∧
      (k ∉ l → (l.foldl (fun t d => t.upd {} d fun (x : Domain) => { x with st := 3, idle := false }) t).get {} k = t.get {} k) := by
  induction l generalizing t with
  | nil => exact ⟨fun h => absurd h List.not_mem_nil, fun _ => rfl⟩
  | cons d rest ih =>
    rw [List.foldl_cons]
    have off : (t.upd {} d fun (x : Domain) => { x with st := 3, idle := false }).get {} d = { t.get {} d with st := 3, idle := false } :=
      Tab.get_set_self_of_ne fun e => by cases congrArg Domain.st e
    obtain ⟨listed, other⟩ := ih (t := t.upd {} d fun (x : Domain) => { x with st := 3, idle := false })
    refine ⟨fun h => ?_, fun h => ?_⟩
    · by_cases again : k ∈ rest
      · exact listed again
      · obtain rfl | no := List.mem_cons.1 h
        · rw [other again, off]
        · exact absurd no again
    · rw [List.mem_cons, not_or] at h
      exact (other h.2).trans (Tab.get_upd_ne h.1)

theorem State.holdDomains_leaves : let t := s.holdDomains
    (∀ d, d < 96 → holdsPower d = false → (t.power.domains.get {} d).st = 3) ∧
      (∀ d, holdsPower d = true → t.power.domains.get {} d = s.power.domains.get {} d) ∧ t = { s with power := t.power } := by
  have off (d : Nat) (known : d < 96) (other : holdsPower d = false) : d ∈ (List.range 96).filter fun d => !holdsPower d :=
    List.mem_filter.2 ⟨List.mem_range.2 known, by simp [other]⟩
  have kept (d : Nat) (held : holdsPower d = true) : d ∉ (List.range 96).filter fun d => !holdsPower d := fun listed => by
    simp [held] at listed
  unfold State.holdDomains
  dsimp only
  generalize ((List.range 96).filter fun d => !holdsPower d) = l at off kept ⊢
  exact ⟨fun d known other => (Tab.get_foldl_off d).1 (off d known other), fun d held => (Tab.get_foldl_off d).2 (kept d held), rfl⟩

/-- The third step of the Grave state, before the domains go. -/
def State.graveHeld (s : State) : State :=
  let s := if s.areaOn then s.persistAll s.klog.ring.length else s
  let lines : Lines := { s.fault.lines with stop := true, isolate := true }
  let s : State := { s with fault := { s.fault with graveStopped := true, graveHold := true, lines := lines } }
  { s with intake := { s.intake with stopped := true }, flash := { s.flash with closed := List.range 8 } }

theorem State.graveHeld_leaves : let t := s.graveHeld
    t.fault.graveStopped = true ∧ t.fault.graveHold = true ∧ t.fault.lines.stop = true ∧ t.fault.lines.isolate = true ∧
      t.intake.stopped = true ∧ t.flash.closed = List.range 8 ∧ t.power = s.power ∧ t.zone = s.zone := by
  have saved (c : Bool) : let t := if c then s.persistAll s.klog.ring.length else s
      t.power = s.power ∧ t.zone = s.zone := by
    have kept := State.persistAll_leaves (s := s) s.klog.ring.length
    simp only [Prod.mk.injEq] at kept
    cases c with
    | true => exact kept.2
    | false => exact ⟨rfl, rfl⟩
  obtain ⟨power, zone⟩ := saved s.areaOn
  unfold State.graveHeld
  dsimp only
  generalize (if s.areaOn then s.persistAll s.klog.ring.length else s) = u at power zone ⊢
  exact ⟨rfl, rfl, rfl, rfl, rfl, rfl, power, zone⟩

theorem execGraveStopIsolate_of_due (grave : s.fault.grave = true) (first : s.fault.graveStopped = false)
    (due : s.graveStepDue = true) : execGraveStopIsolate s = .next s.graveHeld.holdDomains :=
  if_neg (by simp [grave, first, due])

theorem execGraveStopIsolate_of_other (other : s.fault.grave = false ∨ s.fault.graveStopped = true ∨ s.graveStepDue = false) :
    execGraveStopIsolate s = .next s := by
  refine if_pos ?_
  obtain h | h | h := other <;> simp [h]

end

/-- Settles O50: a message by its source's count and its class, the handler by the class of what it runs on. -/
theorem faultRows : Obligations.FaultRows := by
  unfold Obligations.FaultRows
  refine ⟨?_, ?_, ?_, ?_, ?_⟩
  · intro w s m c
    have four : m.cls < 4 := Msg.cls_ofWord_lt
    refine ⟨execFaultMessage_of_alarm, fun other room => ⟨_, execFaultMessage_of_other other, ?_⟩, fun other low full free =>
      (execFaultMessage_of_other other).trans (congrArg _ (State.fltMsg_held low other full free))⟩
    obtain ⟨counted, others⟩ := State.src_recorded (s := s) (m := m) (n := 1) Nat.one_pos
    have count : (s.srcAfter m 1).count = min (2 ^ 32 - 1) ((s.src c).count + 1) := Nat.min_comm ..
    rw [show s.fltMsg (Msg.ofWord w) = s.accept m false false 1 from State.fltMsg_taken room]
    have told (t : State) (srcs : t.fault.srcs = (s.modSrc c fun _ => s.srcAfter m 1).fault.srcs) :
        (t.src c).count = min (2 ^ 32 - 1) ((s.src c).count + 1) ∧ (t.src c).lastKind = m.kind ∧ ∀ k, k ≠ c → t.src k = s.src k := by
      unfold State.src at others ⊢
      rw [srcs]
      exact ⟨(congrArg Src.count counted).trans count, congrArg Src.lastKind counted, others⟩
    by_cases grave : m.cls = 3
    · have left := State.accept_grave (s := s) (m := m) (injected := false) (n := 1) grave
      generalize s.accept m false false 1 = t at left ⊢
      simp only [State.besideDump, Prod.mk.injEq] at left
      obtain ⟨-, -, -, -, shown, srcs⟩ := left
      obtain ⟨count', kind, others'⟩ := told t srcs
      exact ⟨count', kind, others', fun _ => shown, fun low => by omega, fun h => by omega, fun low => by omega⟩
    · have low : m.cls < 3 := by omega
      obtain ⟨records, same, srcs, started, busy⟩ := State.accept_below (s := s) (m := m) (injected := false) (n := 1) low
      generalize s.accept m false false 1 = t at records same srcs started busy ⊢
      obtain ⟨count', kind, others'⟩ := told t srcs
      exact ⟨count', kind, others', fun h => absurd h grave, fun _ => ⟨same, records.zone, records.flash, records.trail⟩,
        fun least idle => ⟨_, started (by omega) idle, rfl, (State.clsAfter_lt low).2⟩, fun _ => busy⟩
  · intro s
    refine ⟨fun idle => ?_, fun m running none_ => ⟨fun grave => ?_, fun first => ?_⟩⟩
    · refine (?_ : execFaultHandler s = _)
      unfold execFaultHandler
      rw [idle]
    · refine (execFaultHandler_of_running running).trans ?_
      rw [if_pos grave]
      exact congrArg _ (State.deliverHeld_of_none none_)
    · obtain ⟨fault, severe, tele, zone⟩ := State.handlerActions_leaves (s := s) (c := m.cls)
      have run := execFaultHandler_of_running running
      rw [if_neg (by simp [first])] at run
      refine ⟨_, run, ?_⟩
      generalize s.handlerActions m.cls = u at fault severe tele zone ⊢
      dsimp only
      rw [State.deliverHeld_of_none (by rw [fault]; exact none_), fault]
      exact ⟨rfl, rfl, rfl, severe, tele, zone⟩
  · intro s
    refine ⟨execGraveStopIsolate_of_other, fun grave first due => ⟨_, execGraveStopIsolate_of_due grave first due, ?_⟩⟩
    obtain ⟨stopped, hold, stop, isolate, intake, closed, power, zone⟩ := State.graveHeld_leaves (s := s)
    generalize s.graveHeld = u at stopped hold stop isolate intake closed power zone ⊢
    obtain ⟨off, held, only⟩ := State.holdDomains_leaves (s := u)
    generalize u.holdDomains = t at off held only ⊢
    refine ⟨?_, ?_, ?_, ?_, ?_, ?_, off, fun d h => (held d h).trans (by rw [power]), ?_⟩
    all_goals rw [only]
    all_goals assumption
  · intro w s
    refine ⟨fun no => ?_, fun low other room => ?_⟩
    · exact congrArg Host.Outcome.next (if_pos no)
    · have injected : s.inject w = s.accept (Msg.ofWord w) true false 1 :=
        (if_neg (by simp only [other, Bool.false_eq_true, or_false]; omega)).trans (State.fltMsg_taken (Or.inr room))
      obtain ⟨records, same, srcs, -, -⟩ := State.accept_below (s := s) (m := Msg.ofWord w) (injected := true) (n := 1) (by omega)
      obtain ⟨counted, -⟩ := State.src_recorded (s := s) (m := Msg.ofWord w) (n := 1) Nat.one_pos
      refine ⟨_, congrArg Host.Outcome.next injected, ?_, same, records.zone⟩
      unfold State.src
      rw [srcs]
      exact congrArg Src.lastKind counted
  · intro s canonical
    obtain ⟨regs, -⟩ : Tab.wf none s.regs = true ∧ Tab.wf none s.cfg = true := by
      simpa only [State.tablesCanonical, Bool.and_eq_true] using canonical
    have once : Tab.wf none (s.setReg Reg.FLT_FIRST_CTRL_VALID 0).regs = true := Tab.wf_set regs
    have twice : Tab.wf none ((s.setReg Reg.FLT_FIRST_CTRL_VALID 0).setReg Reg.FLT_FIRST_CTRL_OVERFLOW 0).regs = true := Tab.wf_set once
    refine ⟨_, rfl, ?_, ?_, State.reg_setReg twice, fun k a b c => ?_, rfl⟩
    · exact (State.reg_setReg_ne (by decide)).trans ((State.reg_setReg_ne (by decide)).trans (State.reg_setReg regs))
    · exact (State.reg_setReg_ne (by decide)).trans (State.reg_setReg once)
    · exact (State.reg_setReg_ne c).trans ((State.reg_setReg_ne b).trans (State.reg_setReg_ne a))

end Sys2Proof.Machine
end

section

/-! Proofs: the Kiln Log's segments, token buckets and record capture (spec 17). -/

namespace Sys2Proof

section

variable {α : Type} [DecidableEq α] {d : α} {f : Nat → α → α} {t : Tab α} {k : Nat}

theorem Tab.Above.mapVals (h : Tab.Above k t) : Tab.Above k (t.mapVals d f) := by
  induction t with
  | nil => exact h
  | cons e t ih =>
    obtain ⟨j, v⟩ := e
    have rest : Tab.Above k (Tab.mapVals d f t) := ih fun x listed => h x (List.mem_cons_of_mem _ listed)
    unfold Tab.mapVals Tab.cons
    split
    · exact rest
    · intro x listed
      obtain rfl | later := List.mem_cons.1 listed
      · exact h (j, v) List.mem_cons_self
      · exact rest x later

/-- In a canonical table every key reads as the mapped value, dropped or not. -/
theorem Tab.get_mapVals_of_wf (canonical : t.wf d = true) (unlisted : ∀ j, f j d = d) : (t.mapVals d f).get d k = f k (t.get d k) := by
  induction t with
  | nil => exact (unlisted k).symm
  | cons e t ih =>
    obtain ⟨j, v⟩ := e
    have sorted : Tab.wfAbove d j t = true := (Bool.and_eq_true .. ▸ canonical).2
    rw [Tab.mapVals]
    by_cases same : k = j
    · subst same
      rw [show Tab.get d ((k, v) :: t) k = v from if_pos rfl, Tab.cons]
      split
      next dropped => exact (Tab.get_of_above (Tab.above_of_wfAbove sorted).mapVals).trans dropped.symm
      · exact if_pos rfl
    · rw [show Tab.get d ((j, v) :: t) k = Tab.get d t k from if_neg same, ← ih (Tab.wf_of_wfAbove sorted), Tab.cons]
      split
      · rfl
      · exact if_neg same

end

end Sys2Proof

namespace Sys2Proof.Machine

set_option Elab.async false

variable {s : State}

section

/-- Saving takes the oldest unsaved records that fit as the newest segment. -/
theorem State.klogPersist_of_unsaved {r : Rec} {l : List Rec} (unsaved : (s.klog.ring.filter fun r => !r.saved) = r :: l)
    (fits : r.length ≤ segmentRoom) : ∃ g rest, s.klogPersist.klog.segments = g :: rest ∧ (∀ x ∈ g.recs, x.saved = true) ∧
      (∃ x l, g.recs = x :: l ∧ x = { r with saved := true }) ∧ s.klogPersist.klog.segSeq = g.seq + 1 ∧
      s.klogPersist.klog.segAt = s.now ∧ s.klogPersist.klog.ring.length = s.klog.ring.length ∧ s.klogPersist.zone = s.zone ∧
      s.klogPersist.fault = s.fault := by
  have out : fitSegment segmentRoom (s.klog.ring.filter fun r => !r.saved) = r :: fitSegment (segmentRoom - r.length) l := by
    rw [unsaved]
    exact if_pos fits
  obtain ⟨last, found⟩ : ∃ last, (r :: fitSegment (segmentRoom - r.length) l).getLast? = some last := ⟨_, List.getLast?_cons⟩
  have kept : let t := s.takeCfg .segment fun _ => true
      (t.now, t.klog, t.zone, t.fault) = (s.now, s.klog, s.zone, s.fault) :=
    State.takeCfg_frame (fun t => (t.now, t.klog, t.zone, t.fault)) fun _ _ _ => rfl
  unfold State.klogPersist
  rw [out]
  dsimp only
  rw [found]
  dsimp only at kept ⊢
  generalize s.takeCfg .segment (fun _ => true) = t at kept ⊢
  simp only [Prod.mk.injEq] at kept
  obtain ⟨now, klog, zone, fault⟩ := kept
  rw [show t.klog = s.klog from klog]
  refine ⟨_, _, rfl, fun x listed => ?_, ⟨_, _, rfl, rfl⟩, rfl, now, List.length_map _, zone, fault⟩
  obtain ⟨y, -, rfl⟩ := List.mem_map.1 listed
  rfl

theorem State.klogPersist_of_saved (saved : (s.klog.ring.filter fun r => !r.saved) = []) :
    s.klogPersist = { s with klog := { s.klog with persistDue := false } } := by
  unfold State.klogPersist
  rw [saved]
  rfl

theorem State.persistNow_on (on : s.areaOn = true) : s.persistNow = s.klogPersist := if_pos on

end

section

variable {q : Nat}

/-- The record that a capture finds is one of the ring's with the sequence asked for. -/
theorem Rec.find_spec {l : List Rec} (known : q < 65536) : let r := l.reverse.find? fun (x : Rec) => decide (x.seq = q % 65536)
    ((∀ x ∈ l, x.seq ≠ q) → r = none) ∧ ((∃ x ∈ l, x.seq = q) → ∃ x ∈ l, x.seq = q ∧ r = some x) := by
  rw [Nat.mod_eq_of_lt known]
  refine ⟨fun none_ => List.find?_eq_none.2 fun x listed => ?_, fun ⟨x, listed, e⟩ => ?_⟩
  · simpa using none_ x (List.mem_reverse.1 listed)
  · have some_ : (l.reverse.find? fun (x : Rec) => decide (x.seq = q)).isSome = true :=
      List.find?_isSome.2 ⟨x, List.mem_reverse.2 listed, by simp [e]⟩
    obtain ⟨y, found⟩ := Option.isSome_iff_exists.1 some_
    exact ⟨y, List.mem_reverse.1 (List.mem_of_find?_eq_some found), by simpa using List.find?_some found, found⟩

/-- A capture shows whether the record is there. -/
theorem State.klogCapture_leaves (canonical : Tab.wf none s.regs = true) :
    let r := s.klog.ring.reverse.find? fun (x : Rec) => decide (x.seq = q % 65536)
    let t := s.klogCapture q
    t.klog = { s.klog with captured := r } ∧ t.reg Reg.KLOG_RD_SEQ_READY = b2n r.isSome ∧ t.reg Reg.KLOG_RD_SEQ_MISSING = b2n r.isNone ∧
      t = { s with klog := t.klog, regs := t.regs } := by
  intro r
  have once : Tab.wf none (s.setReg Reg.KLOG_RD_SEQ_SEQ (q % 65536)).regs = true := Tab.wf_set canonical
  have twice : Tab.wf none ((s.setReg Reg.KLOG_RD_SEQ_SEQ (q % 65536)).setReg Reg.KLOG_RD_SEQ_READY (b2n r.isSome)).regs = true :=
    Tab.wf_set once
  exact ⟨rfl, (State.reg_setReg_ne (s := (s.setReg Reg.KLOG_RD_SEQ_SEQ (q % 65536)).setReg Reg.KLOG_RD_SEQ_READY (b2n r.isSome))
    (by decide)).trans (State.reg_setReg once), State.reg_setReg twice, rfl⟩

end

/-- Settles O51: a segment by its oldest unsaved record, a capture by the newest record of the sequence. -/
theorem kilnRows : Obligations.KilnRows := by
  unfold Obligations.KilnRows
  refine ⟨fun s => ⟨fun off => ⟨?_, ?_⟩, fun early => ?_, fun on => ⟨fun due => ?_, fun saved => ?_, fun r l unsaved fits => ?_⟩,
    fun canonical => ?_⟩, ?_⟩
  · exact congrArg Host.Outcome.next (if_neg (by simp [off]))
  · exact congrArg Host.Outcome.next (if_neg (by simp [off]))
  · exact congrArg Host.Outcome.next (if_neg (by simp [early]))
  · exact congrArg Host.Outcome.next ((if_pos (by simp [on, due])).trans (State.persistNow_on on).symm)
  · exact congrArg Host.Outcome.next ((State.persistNow_on on).trans (State.klogPersist_of_saved saved))
  · obtain ⟨g, rest, left⟩ := State.klogPersist_of_unsaved unsaved fits
    exact ⟨_, g, rest, congrArg Host.Outcome.next (State.persistNow_on on), left⟩
  · exact ⟨_, rfl, fun c => Tab.get_mapVals_of_wf (f := fun _ n => n - 1) canonical fun _ => rfl, rfl, rfl⟩
  · intro q s canonical known
    obtain ⟨regs, -⟩ : Tab.wf none s.regs = true ∧ Tab.wf none s.cfg = true := by
      simpa only [State.tablesCanonical, Bool.and_eq_true] using canonical
    obtain ⟨klog, ready, missing, only⟩ := State.klogCapture_leaves (q := q) regs
    obtain ⟨gone, there⟩ := Rec.find_spec (l := s.klog.ring) known
    refine ⟨_, rfl, fun none_ => ?_, fun some_ => ?_, (congrArg KlogPart.ring klog).trans rfl, only⟩
    · rw [klog, ready, missing, gone none_]
      exact ⟨rfl, rfl, rfl⟩
    · obtain ⟨x, listed, e, found⟩ := there some_
      rw [klog, ready, missing, found]
      exact ⟨⟨x, listed, e, rfl⟩, rfl, rfl⟩

end Sys2Proof.Machine
end

section

/-! Proofs: the configuration mailbox and the configuration image (spec 18). -/

namespace Sys2Proof.Machine

set_option Elab.async false

variable {s t : State} {p st n o m : Nat} {l : List Nat} {h : CfgHeader} {recs : List CfgRec} {c : Chain} {x : CfgSession}

/-! ### Requests -/

section

/-- A request on a path that is on answers with what it comes to. -/
theorem State.mbxDo_of {f : State → Nat × List Nat × State} (on : s.mbxOn p = true) (done : f s = (st, l, t)) :
    s.mbxDo p f = .next (t.mbxAnswer p st l) := by
  unfold State.mbxDo
  rw [if_neg (by simp [on]), done]

theorem execImageBegin_of (on : s.mbxOn p = true) (done : s.cfgRequest p 0x0001 h 0 n 0 [] {} = (st, l, t)) :
    execImageBegin p h n s = .next (t.mbxAnswer p st l) := State.mbxDo_of on done

theorem execImageChunk_of (on : s.mbxOn p = true) (done : s.cfgRequest p 0x0002 {} o n 0 recs {} = (st, l, t)) :
    execImageChunk p o n recs s = .next (t.mbxAnswer p st l) := State.mbxDo_of on done

theorem execImageCommit_of (on : s.mbxOn p = true) (done : s.cfgRequest p 0x0003 {} 0 0 0 [] c = (st, l, t)) :
    execImageCommit p c s = .next (t.mbxAnswer p st l) := State.mbxDo_of on done

theorem execImageAbort_of (on : s.mbxOn p = true) (done : s.cfgRequest p 0x0004 {} 0 0 0 [] {} = (st, l, t)) :
    execImageAbort p s = .next (t.mbxAnswer p st l) := State.mbxDo_of on done

theorem execFieldRead_of (on : s.mbxOn p = true) (done : s.cfgRequest p 0x0010 {} 0 0 0 recs {} = (st, l, t)) :
    execFieldRead p recs s = .next (t.mbxAnswer p st l) := State.mbxDo_of on done

theorem execFieldWrite_of (on : s.mbxOn p = true) (done : s.cfgRequest p 0x0011 {} 0 0 0 recs {} = (st, l, t)) :
    execFieldWrite p recs s = .next (t.mbxAnswer p st l) := State.mbxDo_of on done

theorem execNsModeSet_of (on : s.mbxOn p = true) (done : s.cfgRequest p 0x0020 {} 0 0 m [] {} = (st, l, t)) :
    execNsModeSet p m s = .next (t.mbxAnswer p st l) := State.mbxDo_of on done

/-- The bytes a message of the path carries (Table 18.3). -/
def mbxRoom (p : Nat) : Nat := if p = 0 then 4096 else 4078

/-- The mailbox's session closed or open. -/
def State.withSession (s : State) (x : Option CfgSession) : State := { s with mgmt := { s.mgmt with session := x } }

theorem State.ready_of_mbxOn (on : s.mbxOn p = true) : s.boot.phase = .ready := by
  simp only [State.mbxOn, Bool.and_eq_true, decide_eq_true_eq] at on
  exact on.1.1.1

theorem State.cfgRequest_begin : s.cfgRequest p 0x0001 h 0 n 0 [] {} =
    (if n < 256 ∨ mbxRoom p < n then (3, [], s)
    else if s.mgmt.session.isSome ∨ s.boot.shut.isSome then (1, [], s)
    else if !(s.cfgHeaderOk h) then (7, [], s)
    else (0, [], { s with mgmt := { s.mgmt with
      session := some { path := p, hdr := h, got := n, recs := [], at_ := s.now }
      slots := if s.boot.phase = .bisque then s.mgmt.slots.set none s.otherCfgSlot none else s.mgmt.slots } })) := rfl

/-- A header accepted outside Bisque mode opens the session and touches no slot. -/
theorem State.cfgRequest_begin_ok (on : s.mbxOn p = true) (size : 256 ≤ n ∧ n ≤ mbxRoom p) (free : s.mgmt.session = none)
    (up : s.boot.shut = none) (ok : s.cfgHeaderOk h = true) : s.cfgRequest p 0x0001 h 0 n 0 [] {} =
      (0, [], s.withSession (some { path := p, hdr := h, got := n, recs := [], at_ := s.now })) := by
  have mode : ¬ s.boot.phase = .bisque := by simp [State.ready_of_mbxOn on]
  rw [State.cfgRequest_begin, if_neg (by omega), if_neg (by simp [free, up]), if_neg (by simp [ok]), if_neg mode]
  rfl

theorem State.session_mine (open_ : s.mgmt.session = some x) (mine : x.path = p) :
    (s.mgmt.session.filter fun x => decide (x.path = p)) = some x := by
  simp [open_, mine]

theorem State.cfgRequest_chunk (open_ : s.mgmt.session = some x) (mine : x.path = p) : s.cfgRequest p 0x0002 {} o n 0 recs {} =
    (if o ≠ x.got then (9, [], s)
    else if mbxRoom p < 4 + n ∨ x.hdr.length < o + n then (3, [], s)
    else (0, [], s.withSession (some { x with got := x.got + n, recs := x.recs ++ recs, at_ := s.now }))) := by
  unfold State.cfgRequest
  dsimp only
  rw [State.session_mine open_ mine]
  rfl

/-- The image in the slot that is not in force, as a commit leaves it. -/
def State.committed (s : State) (x : CfgSession) (c : Chain) : State :=
  { s with mgmt := { s.mgmt with
    slots := s.mgmt.slots.set none s.otherCfgSlot (some { hdr := x.hdr, recs := x.recs, chain := c })
    inForce := some s.otherCfgSlot, forceAt := s.now, staticWait := s.staticDiff x.recs, session := none } }

theorem State.cfgRequest_commit (on : s.mbxOn p = true) (open_ : s.mgmt.session = some x) (mine : x.path = p) :
    s.cfgRequest p 0x0003 {} 0 0 0 [] c =
      (if x.got ≠ x.hdr.length then (9, [], s.withSession none)
      else if !(s.cfgChainOk x.hdr c) then (8, [], s.withSession none)
      else if s.imageStatus x.recs ≠ 0 then (s.imageStatus x.recs, [], s.withSession none)
      else (0, le 4 (s.staticDiff x.recs), (s.committed x c).imageInForce x.recs)) := by
  have mode : ¬ s.boot.phase = .bisque := by simp [State.ready_of_mbxOn on]
  unfold State.cfgRequest
  dsimp only
  rw [State.session_mine open_ mine]
  dsimp only
  rw [if_neg mode, if_neg mode]
  rfl

theorem State.cfgRequest_abort (open_ : s.mgmt.session = some x) (mine : x.path = p) :
    s.cfgRequest p 0x0004 {} 0 0 0 [] {} = (0, [], s.withSession none) := by
  unfold State.cfgRequest
  dsimp only
  rw [State.session_mine open_ mine]
  rfl

/-- Without a session the image requests answer 9. -/
theorem State.cfgRequest_closed {op : Nat} (closed : s.mgmt.session = none) (image : op = 2 ∨ op = 3 ∨ op = 4) :
    s.cfgRequest p op h o n m recs c = (9, [], s) := by
  have none_ : (s.mgmt.session.filter fun x => decide (x.path = p)) = none := by simp [closed]
  unfold State.cfgRequest
  dsimp only
  rw [none_]
  obtain rfl | rfl | rfl := image <;> rfl

theorem State.cfgRequest_read (fits : recsLen recs true ≤ mbxRoom p) : s.cfgRequest p 0x0010 {} 0 0 0 recs {} =
    (if !(recs.all recKnown) then (4, [], s)
    else (0, recs.flatMap fun r => recordBytes r.id r.idx (s.cfgAt r.id r.idx), s)) :=
  if_neg (Nat.not_lt.2 fits)

theorem State.cfgRequest_write (fits : recsLen recs true ≤ mbxRoom p) : s.cfgRequest p 0x0011 {} 0 0 0 recs {} =
    ((s.writeFields recs).1, le 4 (s.writeFields recs).2.1, (s.writeFields recs).2.2) :=
  if_neg (Nat.not_lt.2 fits)

/-- One record is short. -/
theorem recsLen_single {r : CfgRec} : recsLen [r] true ≤ mbxRoom p := by
  have short : valueLen r.id ≤ 8 := by
    unfold valueLen
    split <;> omega
  have len : recsLen [r] true = 8 + valueLen r.id + 0 := rfl
  unfold mbxRoom
  split <;> omega

end

/-! ### One field written -/

section

variable {r : CfgRec} {f : CfgInfo}

theorem State.writeFields_refused (refused : s.recsStatus recs s.named ≠ 0) : s.writeFields recs = (s.recsStatus recs s.named, 0, s) :=
  if_pos refused

/-- A field that is not Static is put and none is skipped. -/
theorem State.writeFields_put (fine : s.recsStatus [r] s.named = 0) (known : cfgInfo r.id = some f) (other : f.kind ≠ .static) :
    s.writeFields [r] = (0, 0, s.putField r.id r.idx r.value) := by
  have kind : recStatic r = false := by
    unfold recStatic
    rw [known]
    exact decide_eq_false other
  unfold State.writeFields
  rw [if_neg (by simp [fine])]
  simp only [List.filter_cons, kind, Bool.false_and, Bool.false_eq_true, if_false, List.filter_nil]
  rfl

/-- A Static field with another value stays, and is reported. -/
theorem State.writeFields_static (fine : s.recsStatus [r] s.named = 0) (known : cfgInfo r.id = some f) (kind : f.kind = .static)
    (other : s.cfgAt r.id r.idx ≠ r.value) :
    s.writeFields [r] = (6, 1, s.report (ownerSource r.id) 0x50 (2 ^ 39 + r.id) 0) := by
  have static_ : recStatic r = true := by
    unfold recStatic
    rw [known]
    exact decide_eq_true kind
  have same : s.putField r.id r.idx r.value = s := by
    unfold State.putField
    rw [known]
    dsimp only
    rw [kind]
  unfold State.writeFields
  rw [if_neg (by simp [fine])]
  simp only [List.filter_cons, static_, Bool.true_and, decide_eq_true other, if_true, List.filter_nil]
  rw [show (s.each [r] fun s r => s.putField r.id r.idx r.value) = s from same]
  rfl

theorem State.putField_live (known : cfgInfo r.id = some f) (kind : f.kind = .live) :
    s.putField r.id r.idx r.value = ((s.beforeLive r.id).setCfg r.id r.idx r.value).afterLive r.id r.value := by
  unfold State.putField
  rw [known]
  dsimp only
  rw [kind]

theorem State.putField_window (known : cfgInfo r.id = some f) (kind : f.kind = .window) :
    s.putField r.id r.idx r.value = s.setCfg r.id r.idx r.value := by
  unfold State.putField
  rw [known]
  dsimp only
  rw [kind]

/-- Any other kind waits for its moment. -/
theorem State.putField_staged (known : cfgInfo r.id = some f) (live : f.kind ≠ .live) (static_ : f.kind ≠ .static)
    (window : f.kind ≠ .window) : s.putField r.id r.idx r.value =
      { s with cfgStaged := s.cfgStaged.set none (cfgKey r.id r.idx) (some r.value) } := by
  unfold State.putField
  rw [known]
  dsimp only
  split
  · exact absurd ‹_› static_
  · exact absurd ‹_› live
  · exact absurd ‹_› window
  · rfl

end

/-! ### The answer -/

section

/-- The answer's registers after one another: the last write of each stands. -/
theorem State.mbxAnswered_regs {u : State} (canonical : Tab.wf none u.regs = true) (k : Nat) :
    let t := ((((u.setReg Reg.CFG_MBX_STATUS_RSP_STATUS st).setReg Reg.CFG_MBX_RSP_RSP_LENGTH n).setReg
      Reg.CFG_MBX_RSP_RSP_SEQUENCE k).setReg Reg.CFG_MBX_STATUS_BUSY 0).setReg Reg.CFG_MBX_STATUS_DONE 1
    t.reg Reg.CFG_MBX_STATUS_RSP_STATUS = st ∧ t.reg Reg.CFG_MBX_RSP_RSP_LENGTH = n ∧
      t.reg Reg.CFG_MBX_RSP_RSP_SEQUENCE = k ∧ t.reg Reg.CFG_MBX_STATUS_BUSY = 0 ∧ t.reg Reg.CFG_MBX_STATUS_DONE = 1 ∧
      t.reg Reg.CFG_MBX_CTRL_IEN = u.reg Reg.CFG_MBX_CTRL_IEN := by
  have kept {v : State} (a b : Nat) (wf : Tab.wf none v.regs = true) : Tab.wf none (v.setReg a b).regs = true := Tab.wf_set wf
  have one := kept Reg.CFG_MBX_STATUS_RSP_STATUS st canonical
  have two := kept Reg.CFG_MBX_RSP_RSP_LENGTH n one
  have three := kept Reg.CFG_MBX_RSP_RSP_SEQUENCE k two
  have four := kept Reg.CFG_MBX_STATUS_BUSY 0 three
  refine ⟨?_, ?_, ?_, ?_, State.reg_setReg four, ?_⟩
  · exact (State.reg_setReg_ne (by decide)).trans ((State.reg_setReg_ne (by decide)).trans ((State.reg_setReg_ne (by decide)).trans
      ((State.reg_setReg_ne (by decide)).trans (State.reg_setReg canonical))))
  · exact (State.reg_setReg_ne (by decide)).trans ((State.reg_setReg_ne (by decide)).trans ((State.reg_setReg_ne (by decide)).trans
      (State.reg_setReg one)))
  · exact (State.reg_setReg_ne (by decide)).trans ((State.reg_setReg_ne (by decide)).trans (State.reg_setReg two))
  · exact (State.reg_setReg_ne (by decide)).trans (State.reg_setReg three)
  · exact (State.reg_setReg_ne (by decide)).trans ((State.reg_setReg_ne (by decide)).trans ((State.reg_setReg_ne (by decide)).trans
      ((State.reg_setReg_ne (by decide)).trans (State.reg_setReg_ne (by decide)))))

/-- The answer in the mailbox's registers (Table 18.2). -/
theorem State.mbxAnswer_registers (canonical : Tab.wf none s.regs = true) (quiet : s.reg Reg.CFG_MBX_CTRL_IEN = 0) :
    let t := s.mbxAnswer 0 st l
    t.reg Reg.CFG_MBX_STATUS_RSP_STATUS = st ∧ t.reg Reg.CFG_MBX_RSP_RSP_LENGTH = l.length ∧
      t.reg Reg.CFG_MBX_RSP_RSP_SEQUENCE = s.reg Reg.CFG_MBX_HDR0_SEQUENCE ∧ t.reg Reg.CFG_MBX_STATUS_BUSY = 0 ∧
      t.reg Reg.CFG_MBX_STATUS_DONE = 1 ∧ t.mgmt = s.mgmt ∧ t.cfg = s.cfg ∧ t.zone = s.zone := by
  have sent (q : List Nat) (a : Nat) : let u := if q.isEmpty then s else s.emit (.mem 0 a q)
      u.regs = s.regs ∧ u.mgmt = s.mgmt ∧ u.cfg = s.cfg ∧ u.zone = s.zone := by
    dsimp only
    split
    · exact ⟨rfl, rfl, rfl, rfl⟩
    · rw [State.emit_only]
      exact ⟨rfl, rfl, rfl, rfl⟩
  generalize place : s.reg Reg.CFG_MBX_BUF_LO_ADDR + s.reg Reg.CFG_MBX_BUF_HI_ADDR * 2 ^ 32 = a
  obtain ⟨regs, mgmt, cfg, zone⟩ := sent l a
  unfold State.mbxAnswer
  rw [if_pos rfl]
  dsimp only
  rw [place]
  generalize (if l.isEmpty then s else s.emit _) = u at regs mgmt cfg zone ⊢
  have same (k : Nat) : u.reg k = s.reg k := by
    unfold State.reg
    rw [regs]
  obtain ⟨status, length, sequence, busy, done, ien⟩ := State.mbxAnswered_regs (st := st) (n := l.length) (u := u)
    (by rw [regs]; exact canonical) (s.reg Reg.CFG_MBX_HDR0_SEQUENCE)
  rw [same Reg.CFG_MBX_HDR0_SEQUENCE, if_neg (by rw [ien, same, quiet]; decide)]
  refine ⟨status, length, sequence, busy, done, ?_, ?_, ?_⟩
  · simp only [State.setReg_mgmt, mgmt]
  · simp only [State.setReg_cfg, cfg]
  · simp only [State.setReg_zone, zone]

end

section

variable {k : Nat}

theorem execCfgMbxBadDoorbell_busy (on : s.mbxOn 0 = true) (known : k ∈ [1, 2, 3, 4, 0x10, 0x11, 0x20]) :
    execCfgMbxBadDoorbell k s = .next (s.setReg Reg.CFG_MBX_STATUS_ERR 1) :=
  (if_neg (by simp [on])).trans (if_pos (List.contains_iff_mem.2 known))

theorem execCfgMbxBadDoorbell_unknown (on : s.mbxOn 0 = true) (unknown : k ∉ [1, 2, 3, 4, 0x10, 0x11, 0x20]) :
    execCfgMbxBadDoorbell k s = .next (s.mbxAnswer 0 2 []) :=
  (if_neg (by simp [on])).trans (if_neg fun h => unknown (List.contains_iff_mem.1 h))

theorem execImageSessionTimeout_early (open_ : s.mgmt.session = some x)
    (live : s.now < x.at_ + s.cfgOf Cfg.MGMT_SESSION_S * 100000000) : execImageSessionTimeout s = .next s := by
  unfold execImageSessionTimeout
  rw [show (s.mgmt.session.filter fun x => decide (s.now < x.at_ + s.cfgOf Cfg.MGMT_SESSION_S * 100000000)) = s.mgmt.session by
    simp [open_, live]]

theorem execImageSessionTimeout_late (open_ : s.mgmt.session = some x)
    (late : x.at_ + s.cfgOf Cfg.MGMT_SESSION_S * 100000000 ≤ s.now) :
    execImageSessionTimeout s = .next { s with mgmt := { s.mgmt with session := none } } := by
  unfold execImageSessionTimeout
  rw [show (s.mgmt.session.filter fun x => decide (s.now < x.at_ + s.cfgOf Cfg.MGMT_SESSION_S * 100000000)) = none by
    simpa [open_] using late]

end

/-- The four modes a namespace may be made in (Table 9.1). -/
theorem execNsModeSet_cases (on : s.mbxOn p = true) :
    (m < 4 → ∃ x, execNsModeSet p m s = .next (State.mbxAnswer { s with zone := { s.zone with nextMode := some x } } p 0 [])) ∧
      (4 ≤ m → execNsModeSet p m s = .next (s.mbxAnswer p 5 [])) := by
  match m with
  | 0 => exact ⟨fun _ => ⟨_, execNsModeSet_of on rfl⟩, fun h => absurd h (by decide)⟩
  | 1 => exact ⟨fun _ => ⟨_, execNsModeSet_of on rfl⟩, fun h => absurd h (by decide)⟩
  | 2 => exact ⟨fun _ => ⟨_, execNsModeSet_of on rfl⟩, fun h => absurd h (by decide)⟩
  | 3 => exact ⟨fun _ => ⟨_, execNsModeSet_of on rfl⟩, fun h => absurd h (by decide)⟩
  | m + 4 => exact ⟨fun h => absurd h (by omega), fun _ => execNsModeSet_of on rfl⟩

/-- Settles O52: a request by the session it finds, a field by its kind, the answer by its registers. -/
theorem configurationRows : Obligations.ConfigurationRows := by
  unfold Obligations.ConfigurationRows
  refine ⟨?_, ?_, ?_⟩
  · intro p s on
    refine ⟨fun h n bad => execImageBegin_of on (if_pos bad), fun h n low high => ⟨fun taken => execImageBegin_of on ?_, fun free up =>
      ⟨fun wrong => execImageBegin_of on ?_, fun ok => execImageBegin_of on (State.cfgRequest_begin_ok on ⟨low, high⟩ free up ok)⟩⟩,
      fun x open_ mine => ⟨fun o n l other => ?_, fun n l bad => ?_, fun n l room fits => ?_,
        execImageAbort_of on (State.cfgRequest_abort open_ mine), fun c short => ?_, fun c whole => ⟨fun wrong => ?_, fun ok =>
        ⟨fun bad => ?_, fun fine => ?_⟩⟩⟩, fun closed o n l c => ⟨execImageChunk_of on (State.cfgRequest_closed closed (Or.inl rfl)),
        execImageCommit_of on (State.cfgRequest_closed closed (Or.inr (Or.inl rfl))),
        execImageAbort_of on (State.cfgRequest_closed closed (Or.inr (Or.inr rfl)))⟩,
      fun l fits => ⟨fun unknown => execFieldRead_of on ((State.cfgRequest_read fits).trans (if_pos (by simp [unknown]))), fun known =>
        execFieldRead_of on ((State.cfgRequest_read fits).trans (if_neg (by simp [known]))), fun refused => execFieldWrite_of on ?_⟩,
      fun r f fine known => ⟨fun kind => execFieldWrite_of on ?_, fun kind => execFieldWrite_of on ?_, fun kind other =>
        execFieldWrite_of on ?_, fun live static_ window => execFieldWrite_of on ?_⟩, fun m => execNsModeSet_cases on⟩
    · exact (if_neg (by have : n ≤ mbxRoom p := high; change ¬ (n < 256 ∨ mbxRoom p < n); omega)).trans (if_pos taken)
    · exact (if_neg (by have : n ≤ mbxRoom p := high; change ¬ (n < 256 ∨ mbxRoom p < n); omega)).trans
        ((if_neg (by simp [free, up])).trans (if_pos (by simp [wrong])))
    · exact execImageChunk_of on ((State.cfgRequest_chunk open_ mine).trans (if_pos other))
    · exact execImageChunk_of on ((State.cfgRequest_chunk open_ mine).trans ((if_neg (by simp)).trans (if_pos bad)))
    · refine execImageChunk_of on ((State.cfgRequest_chunk open_ mine).trans ((if_neg (by simp)).trans (if_neg ?_)))
      have : 4 + n ≤ mbxRoom p := room
      omega
    · exact execImageCommit_of on ((State.cfgRequest_commit on open_ mine).trans (if_pos short))
    · exact execImageCommit_of on ((State.cfgRequest_commit on open_ mine).trans
        ((if_neg (by simp [whole])).trans (if_pos (by simp [wrong]))))
    · exact execImageCommit_of on ((State.cfgRequest_commit on open_ mine).trans
        ((if_neg (by simp [whole])).trans ((if_neg (by simp [ok])).trans (if_pos bad))))
    · exact execImageCommit_of on ((State.cfgRequest_commit on open_ mine).trans
        ((if_neg (by simp [whole])).trans ((if_neg (by simp [ok])).trans (if_neg (by simp [fine])))))
    · refine (State.cfgRequest_write fits).trans ?_
      rw [State.writeFields_refused refused]
    · refine (State.cfgRequest_write recsLen_single).trans ?_
      rw [State.writeFields_put fine known (by rw [kind]; decide), State.putField_live known kind]
    · refine (State.cfgRequest_write recsLen_single).trans ?_
      rw [State.writeFields_put fine known (by rw [kind]; decide), State.putField_window known kind]
    · refine (State.cfgRequest_write recsLen_single).trans ?_
      rw [State.writeFields_static fine known kind other]
    · refine (State.cfgRequest_write recsLen_single).trans ?_
      rw [State.writeFields_put fine known static_, State.putField_staged known live static_ window]
  · intro st l s
    refine ⟨State.emit_reply .., fun canonical quiet => State.mbxAnswer_registers ?_ quiet⟩
    simp only [State.tablesCanonical, Bool.and_eq_true] at canonical
    exact canonical.1
  · intro k s
    exact ⟨execCfgMbxBadDoorbell_busy, execCfgMbxBadDoorbell_unknown, fun x open_ => ⟨execImageSessionTimeout_early open_,
      execImageSessionTimeout_late open_⟩, rfl⟩

end Sys2Proof.Machine
end

section

/-! Proofs: NVMe-MI (spec 18). -/

namespace Sys2Proof.Machine

set_option Elab.async false

variable {s u : State} {tr : Nat}

section

/-- A command on a transport that is up and not paused is answered in the ready block. -/
theorem State.mi_ready {inGrave : Bool} {f : State → State} (up : s.miUp tr = true) (runs : tr ∉ s.mgmt.miPaused)
    (frame : s.miFrame tr = u) (ready : u.boot.phase = .ready) (alive : u.fault.graveStopped = false) :
    s.mi tr inGrave f = .next (f u) := by
  unfold State.mi
  rw [if_neg (by simp [up]), if_neg (by simp [runs])]
  dsimp only
  rw [frame, if_neg (by simp [ready]), if_neg (by simp [ready, alive])]

theorem State.mi_paused {inGrave : Bool} {f : State → State} (up : s.miUp tr = true) (paused : tr ∈ s.mgmt.miPaused) :
    s.mi tr inGrave f = .next (s.miFrame tr) := by
  unfold State.mi
  rw [if_neg (by simp [up]), if_pos (List.contains_iff_mem.2 paused)]

/-- In the Grave hold only what the steward answers there is answered. -/
theorem State.mi_grave {inGrave : Bool} {f : State → State} (up : s.miUp tr = true) (runs : tr ∉ s.mgmt.miPaused)
    (frame : s.miFrame tr = u) (ready : u.boot.phase = .ready) (grave : u.fault.graveStopped = true) :
    s.mi tr inGrave f = .next (if inGrave then f u else u.miReply tr [2]) := by
  unfold State.mi
  rw [if_neg (by simp [up]), if_neg (by simp [runs])]
  dsimp only
  rw [frame, if_neg (by simp [ready])]
  cases inGrave with
  | true => exact if_neg (by simp)
  | false => exact if_pos ⟨Or.inl grave, rfl⟩

theorem State.wakePort_awake {c : Nat} (awake : s.power.ps < 3) (entering : s.power.entering = none) : s.wakePort c = s := by
  unfold State.wakePort
  rw [entering]
  exact if_pos awake

end

section

variable {k p v o n : Nat} {l : List Nat}

theorem execMiKilnLogRead_of {a : Nat} (run : ∀ f, s.mi tr true f = .next (f u)) :
    execMiKilnLogRead tr a n s = .next (u.miReply tr (0 :: u.kilnRead a n)) := run _

theorem execMiHealthStatusPoll_of {sub clear : Bool} (run : ∀ f, s.mi tr false f = .next (f u)) :
    execMiHealthStatusPoll tr sub clear s = .next (State.miReply
      (if clear then { u with mgmt := { u.mgmt with miChanged := u.statusFlags * 256 + u.criticalWarning 0 } } else u) tr
      (0 :: b2n (decide (u.statusFlags * 256 + u.criticalWarning 0 ≠ u.mgmt.miChanged)) :: u.healthWord sub)) := run _

theorem execMiReset_of (run : ∀ f, s.mi tr false f = .next (f u)) :
    execMiReset tr s = .next ((u.miReply tr [0]).beginDeviceReset false) := run _

theorem execMiReadDataStructure_known (run : ∀ f, s.mi tr false f = .next (f u)) (known : k ≤ 4) :
    ∃ l, execMiReadDataStructure tr k s = .next (u.miReply tr (0 :: l)) := by
  match k with
  | 0 => exact ⟨_, run _⟩
  | 1 => exact ⟨_, run _⟩
  | 2 => exact ⟨_, run _⟩
  | 3 => exact ⟨_, run _⟩
  | 4 => exact ⟨_, run _⟩

theorem execMiReadDataStructure_unknown (run : ∀ f, s.mi tr false f = .next (f u)) (unknown : 5 ≤ k) :
    execMiReadDataStructure tr k s = .next (u.miReply tr [4]) := by
  match k with
  | k + 5 => exact run _

theorem execMiConfigurationGet_known (run : ∀ f, s.mi tr false f = .next (f u)) (low : 1 ≤ k) (high : k ≤ 3) (port : p ≤ 1) :
    execMiConfigurationGet tr k p s = .next (u.miReply tr [0, u.mgmt.miConfig.get (if k = 3 then 64 else 1) (2 * k + p)]) :=
  (run _).trans (congrArg _ (if_neg (by omega)))

theorem execMiConfigurationGet_unknown (run : ∀ f, s.mi tr false f = .next (f u)) (bad : k < 1 ∨ 3 < k ∨ 1 < p) :
    execMiConfigurationGet tr k p s = .next (u.miReply tr [4]) :=
  (run _).trans (congrArg _ (if_pos bad))

theorem execMiConfigurationSet_known (run : ∀ f, s.mi tr false f = .next (f u)) (port : p ≤ 1) (ok : miConfigOk k v = true)
    (kept : k ≠ 2) : execMiConfigurationSet tr k p v s = .next (State.miReply { u with mgmt := { u.mgmt with
      miConfig := u.mgmt.miConfig.set (if k = 3 then 64 else 1) (2 * k + p) v } } tr [0]) := by
  refine (run _).trans (congrArg _ ((if_neg ?_).trans (if_neg kept)))
  simp [ok, port]

theorem execMiConfigurationSet_unknown (run : ∀ f, s.mi tr false f = .next (f u)) (bad : miConfigOk k v = false ∨ 1 < p) :
    execMiConfigurationSet tr k p v s = .next (u.miReply tr [4]) :=
  (run _).trans (congrArg _ (if_pos (bad.imp_left fun wrong => by simp [wrong])))

theorem execMiVpdRead_within (run : ∀ f, s.mi tr false f = .next (f u)) (within : o + n ≤ 256) : execMiVpdRead tr o n s =
    .next (u.miReply tr (0 :: (List.range n).map fun k => u.mgmt.vpd.get 0xFF (o + k))) :=
  (run _).trans (congrArg _ (if_neg (Nat.not_lt.2 within)))

theorem execMiVpdRead_beyond (run : ∀ f, s.mi tr false f = .next (f u)) (beyond : 256 < o + n) :
    execMiVpdRead tr o n s = .next (u.miReply tr [4]) :=
  (run _).trans (congrArg _ (if_pos beyond))

theorem execMiVpdWrite_within (run : ∀ f, s.mi tr false f = .next (f u)) (within : o < 256) : execMiVpdWrite tr o [v] s =
    .next (State.miReply { u with mgmt := { u.mgmt with vpd := u.mgmt.vpd.set 0xFF o (v % 256) } } tr [0]) :=
  (run _).trans (congrArg _ (if_neg (Nat.not_lt.2 within)))

theorem execMiVpdWrite_beyond (run : ∀ f, s.mi tr false f = .next (f u)) (beyond : 256 < o + l.length) :
    execMiVpdWrite tr o l s = .next (u.miReply tr [4]) :=
  (run _).trans (congrArg _ (if_pos beyond))

theorem State.tunnelled_timestamp {ms : Nat} (free : s.adminBusy 0x09 = false) :
    s.tunnelled 0x09 [0x0E, ms] = (Status.success, [], s.setTimestamp ms) := by
  unfold State.tunnelled
  dsimp only
  rw [if_neg (by simp [free])]
  rfl

theorem State.tunnelled_unknown {a : List Nat} : s.tunnelled 0x7F a = (Status.invalidOpcode, [], s) :=
  (if_neg (by rintro ⟨h | h, -⟩ <;> exact absurd h (by decide)) :
    (if (0x7F = 0x09 ∨ 0x7F = 0x10) ∧ s.adminBusy 0x7F then (Status.invalidField, [], s) else (Status.invalidOpcode, [], s)) = _)

theorem execMiTunnelledAdmin_running {op : Nat} {a : List Nat} (run : ∀ f, s.mi tr false f = .next (f u)) (running : u.running = true) :
    execMiTunnelledAdmin tr op a s = .next ((u.tunnelled op a).2.2.miReply tr (0 :: (u.tunnelled op a).1 :: (u.tunnelled op a).2.1)) :=
  (run _).trans (congrArg _ (if_neg (by simp [running])))

/-- The control primitives that a transport takes whether or not it is paused. -/
theorem State.miControl_up (up : s.miUp tr = true) (mode : s.boot.phase ≠ .bisque) :
    ¬ (!(s.miUp tr) ∨ s.boot.phase = .bisque ∨ 1 < 0) := by
  simp [up, mode]

end

/-- Settles O53: a command by its transport, a control primitive by the transport's state. -/
theorem nvmeMiRows : Obligations.NvmeMiRows := by
  unfold Obligations.NvmeMiRows
  refine ⟨fun s begun up => ?_, fun s awake entering => ⟨?_, ?_⟩, fun tr l s => State.emit_reply .., ?_, ?_, ?_⟩
  · intro u
    refine (?_ : execMiBasicManagementCommand s = _)
    refine (if_neg (by simp [begun, up])).trans (congrArg _ ?_)
    exact State.emit_reply ..
  · refine (if_pos rfl).trans ?_
    rw [State.wakePort_awake awake entering]
  · exact (if_neg (by decide)).trans (State.hostAccess_awake awake)
  · intro tr s up runs u ready alive answers
    have run : ∀ f, s.mi tr false f = .next (f u) := fun f => State.mi_ready up runs rfl ready alive
    have log : ∀ f, s.mi tr true f = .next (f u) := fun f => State.mi_ready up runs rfl ready alive
    clear_value u
    refine ⟨fun a n => execMiKilnLogRead_of log, fun sub => ⟨execMiHealthStatusPoll_of run, execMiHealthStatusPoll_of run⟩, fun k => ⟨execMiReadDataStructure_known run, execMiReadDataStructure_unknown run⟩,
      fun k p => ⟨execMiConfigurationGet_known run, execMiConfigurationGet_unknown run⟩, fun k p v =>
      ⟨execMiConfigurationSet_known run, execMiConfigurationSet_unknown run⟩, fun o n =>
      ⟨execMiVpdRead_within run, execMiVpdRead_beyond run⟩, fun o v => execMiVpdWrite_within run, fun o l => execMiVpdWrite_beyond run,
      execMiReset_of run, fun running => ⟨fun ms free => ?_, fun a => ?_⟩⟩
    · refine (execMiTunnelledAdmin_running run running).trans ?_
      rw [State.tunnelled_timestamp free]
    · refine (execMiTunnelledAdmin_running run running).trans ?_
      rw [State.tunnelled_unknown]
  · intro tr s up mode port u
    have taken := State.miControl_up up mode
    refine ⟨⟨_, if_neg taken, ?_⟩, ⟨_, if_neg taken, ?_⟩, ⟨_, if_neg taken, ?_⟩, ⟨_, if_neg taken, ?_⟩⟩
    all_goals rw [State.emit_reply]
    · refine ⟨?_, rfl⟩
      dsimp only
      split
      next there => exact List.contains_iff_mem.1 there
      · exact List.mem_cons_self
    · exact ⟨fun listed => by simpa using (List.mem_filter.1 listed).2, rfl⟩
    · exact ⟨rfl, rfl⟩
    · exact ⟨rfl, rfl⟩
  · intro tr a n k s up u
    refine ⟨fun paused => ⟨?_, ?_⟩, fun runs grave ready => ⟨?_, ?_⟩⟩
    · exact (State.mi_paused up paused : execMiKilnLogRead tr a n s = _)
    · exact (State.mi_paused up paused : execMiReadDataStructure tr k s = _)
    · exact (State.mi_grave up runs rfl ready grave : execMiReadDataStructure tr k s = _)
    · exact (State.mi_grave up runs rfl ready grave : execMiKilnLogRead tr a n s = _)

end Sys2Proof.Machine
end

section
/-! Proofs: firmware slots and the Boot Area (R485, R506). -/

namespace Sys2Proof.Machine

set_option Elab.async false

/-! ### A hot part's rollback counter stays

OTP rows are programmed only at 0 to 85 °C (`State.otpRefused`), so the configuration's rollback counter does not advance in
a part that is hotter, whatever image has been in force for the hour. -/

/-- A Production part at 90 °C whose image in force, of rollback value 3, has been so for an hour. -/
def hotProduction : State :=
  { now := oneHour
    boot := { phase := .ready, otp := [(13, 65535)] }
    cone := { hot := 90000 }
    mgmt := { inForce := some 0, slots := [(0, some { hdr := { rollback := 3 } })] } }

theorem onesIn_zero (lo : Nat) : ∀ n, onesIn 0 lo n = 0
  | 0 => rfl
  | n + 1 => by simp [onesIn, onesIn_zero lo n, bit, b2n]

theorem hotProduction_otpRefused : hotProduction.otpRefused 11 = true := by decide

theorem exec_configRollbackAdvance_hotProduction : exec .configRollbackAdvance hotProduction = .next hotProduction :=
  congrArg Host.Outcome.next (if_pos (.inr (.inr hotProduction_otpRefused)))

/-- Refutes O54: its clause that the configuration's rollback counter advances in Production fails in `hotProduction`, where
programming the OTP is refused. -/
theorem not_firmwareRows : ¬ Obligations.FirmwareRows := by
  intro h
  obtain ⟨-, -, -, -, advance, -⟩ := h
  obtain ⟨-, inForce⟩ := advance hotProduction
  obtain ⟨-, production⟩ := inForce 0 { hdr := { rollback := 3 } } (by decide) (by decide) (by decide) (by decide)
  have behind : hotProduction.cfgCounter < 3 := (onesIn_zero 0 512).trans_lt (by decide)
  obtain ⟨t, run, counted⟩ := production (by decide) behind
  obtain ⟨programmed, -⟩ := counted 0 (by decide)
  obtain rfl : t = hotProduction := Host.Outcome.next.inj (run.symm.trans exec_configRollbackAdvance_hotProduction)
  exact absurd programmed (by decide)

end Sys2Proof.Machine
end

section
/-! Proofs: register writes (spec 00, R6, R8, R9). -/

namespace Sys2Proof.Machine

set_option Elab.async false

variable {s : State}

/-! ### Fields at a dword -/

section

variable {off v : Nat}

theorem State.putAliased_nil : s.putAliased [] = s := by
  unfold State.putAliased
  exact ite_self s

/-- A field that is no window into the configuration stands for no record. -/
theorem State.aliasRec_none {k : Nat} (plain : isAliased k = false) : s.aliasRec k v = none := by
  obtain ⟨pool, unlisted⟩ := Bool.or_eq_false_iff.1 plain
  obtain ⟨amber, red⟩ := Bool.or_eq_false_iff.1 pool
  have none_listed : (aliasTable.find? fun e => decide (e.1 = k)) = none :=
    List.find?_eq_none.2 fun e listed there => by
      rw [List.any_eq_true.2 ⟨e, listed, there⟩] at unlisted
      cases unlisted
  unfold State.aliasRec
  rw [if_neg (by simpa using And.intro (of_decide_eq_false amber) (of_decide_eq_false red)), none_listed]

/-- A write of a dword whose fields stand for no configuration record writes each of its fields. -/
theorem State.writeFieldsAt_eq {fs : List FieldInfo} (fields : fieldsAt off = fs)
    (plain : ∀ f ∈ fs, isAliased f.key = false) :
    s.writeFieldsAt off v = s.each fs fun s (f : FieldInfo) => s.writeField f v := by
  have none_aliased : (fs.filterMap fun (f : FieldInfo) =>
      if f.kind = .static then none else s.aliasRec f.key (bits v (f.key % 32) f.width)) = [] :=
    List.filterMap_eq_nil_iff.2 fun f listed => by rw [State.aliasRec_none (plain f listed), ite_self]
  unfold State.writeFieldsAt
  dsimp only
  rw [fields, none_aliased]
  exact State.putAliased_nil

theorem bits_zero_seven (small : v < 128) : bits v 0 7 = v := by
  unfold bits
  omega

theorem fieldsAt_domSel : fieldsAt 0x5010 = [⟨Reg.PWR_DOM_SEL_DOMAIN, 7, .rw, 0, false, .live⟩] := by decide +kernel

theorem State.storeField_domSel : s.storeField Reg.PWR_DOM_SEL_DOMAIN v = s.setReg Reg.PWR_DOM_SEL_DOMAIN v := rfl

theorem State.regValueOk_domSel : s.regValueOk Reg.PWR_DOM_SEL_DOMAIN v = decide (v ≤ 95) := rfl

/-- A plain field takes a value in its range and no other (R6). -/
theorem State.writeField_domSel (small : v < 128) :
    s.writeField ⟨Reg.PWR_DOM_SEL_DOMAIN, 7, .rw, 0, false, .live⟩ v =
      if v ≤ 95 then s.setReg Reg.PWR_DOM_SEL_DOMAIN v else s := by
  have value : bits v (Reg.PWR_DOM_SEL_DOMAIN % 32) 7 = v := bits_zero_seven small
  have unaliased : isAliased Reg.PWR_DOM_SEL_DOMAIN = false := by decide
  unfold State.writeField
  dsimp only
  rw [if_neg (by decide), value, unaliased, State.regValueOk_domSel, State.storeField_domSel]
  by_cases inRange : v ≤ 95
  · rw [if_pos inRange, if_neg (by simp [inRange])]
  · rw [if_neg inRange, if_pos (by simp [inRange])]

theorem State.actRegister_domSel : s.actRegister 0x5010 v = s := rfl

theorem State.writeManager_domSel (small : v < 128) :
    s.writeManager 0x5010 v = if v ≤ 95 then s.setReg Reg.PWR_DOM_SEL_DOMAIN v else s :=
  calc s.writeManager 0x5010 v
      = s.writeFieldsAt 0x5010 v := State.actRegister_domSel (v := v)
    _ = s.writeField ⟨Reg.PWR_DOM_SEL_DOMAIN, 7, .rw, 0, false, .live⟩ v :=
        State.writeFieldsAt_eq fieldsAt_domSel (by decide)
    _ = _ := State.writeField_domSel small

/-- The fields of the identity register are read-only and no window into the configuration. -/
theorem fieldsAt_identity : ∀ f ∈ fieldsAt 0, f.access = .ro ∧ isAliased f.key = false := by decide +kernel

theorem State.writeField_readOnly {f : FieldInfo} (readOnly : f.access = .ro) : s.writeField f v = s := by
  unfold State.writeField
  rw [readOnly]

theorem State.writeManager_identity : s.writeManager 0 v = s :=
  calc s.writeManager 0 v
      = s.writeFieldsAt 0 v := rfl
    _ = s.each (fieldsAt 0) fun s (f : FieldInfo) => s.writeField f v :=
        State.writeFieldsAt_eq rfl fun f listed => (fieldsAt_identity f listed).2
    _ = s := State.each_fixed fun f listed => State.writeField_readOnly (fieldsAt_identity f listed).1

end

/-! ### The registers' writes by place -/

section

variable {i off v : Nat}

theorem execRegisterWrite_manager (ready : s.boot.phase = .ready) (aligned : off % 4 = 0) :
    execRegisterWrite 0 off v s = .next (s.mgmtWrite off fun s =>
      if 0x10000 ≤ off ∧ off < 0x30000 then s.writeWindow off (v % 2 ^ 32) else s.writeManager off (v % 2 ^ 32)) := by
  unfold execRegisterWrite
  dsimp only
  rw [if_neg (by simp [ready, aligned]), if_neg (by simp)]

theorem State.mgmtWrite_of_on {f : State → State} (powered : s.domainOff (pageDomain (off / 4096)) = false) : s.mgmtWrite off f = f s :=
  if_neg (by simp [powered])

/-- A register of the manager outside the mailbox windows. -/
theorem execRegisterWrite_register (ready : s.boot.phase = .ready) (aligned : off % 4 = 0) (below : off < 0x10000)
    (powered : s.domainOff (pageDomain (off / 4096)) = false) :
    execRegisterWrite 0 off v s = .next (s.writeManager off (v % 2 ^ 32)) := by
  rw [execRegisterWrite_manager ready aligned, State.mgmtWrite_of_on powered, if_neg (by omega)]

theorem execRegisterWrite_domSel (ready : s.boot.phase = .ready) (powered : s.domainOff (pageDomain 5) = false) (small : v < 128) :
    execRegisterWrite 0 0x5010 v s = .next (if v ≤ 95 then s.setReg Reg.PWR_DOM_SEL_DOMAIN v else s) := by
  rw [execRegisterWrite_register ready (by decide) (by decide) powered, Nat.mod_eq_of_lt (by omega), State.writeManager_domSel small]

/-- A mailbox buffer `g` of an instance shows a word other than 0 that `f` sets in it. -/
theorem State.buffer_modInst {f : Inst → Inst} {g : Inst → Tab Nat} {k : Nat} (set : g (f (s.inst i)) = (g (s.inst i)).set 0 k v)
    (empty : g {} = []) (pos : 0 < v) : (g ((s.modInst i f).inst i)).get 0 k = v := by
  have stored : (g (f (s.inst i))).get 0 k = v := by
    rw [set]
    exact Tab.get_set_self_of_ne (Nat.ne_of_gt pos)
  rw [State.inst_modInst_self fun unlisted => ?_]
  · exact stored
  · rw [unlisted, empty] at stored
    exact absurd stored (Nat.ne_of_lt pos)

/-- Word `k` of the manager's mailbox window of tenant `i` (Table 13.14). -/
theorem execRegisterWrite_window {k : Nat} (ready : s.boot.phase = .ready) (tenant : 1 ≤ i ∧ i ≤ 511) (word : k < 64) (small : v < 2 ^ 32)
    (powered : s.domainOff (pageDomain ((0x10000 + 256 * i + 4 * k) / 4096)) = false) :
    execRegisterWrite 0 (0x10000 + 256 * i + 4 * k) v s =
      .next (s.modInst i fun x => { x with mbxM := { x.mbxM with out := x.mbxM.out.set 0 k v } }) := by
  have inst : (0x10000 + 256 * i + 4 * k - 0x10000) / 256 = i := by omega
  have place : (0x10000 + 256 * i + 4 * k) % 256 / 4 = k := by omega
  rw [execRegisterWrite_manager ready (by omega), State.mgmtWrite_of_on powered, if_pos (by omega), Nat.mod_eq_of_lt small]
  unfold State.writeWindow
  dsimp only
  rw [inst, place, if_neg (by omega)]

/-- Word `k` of a tenant's own mailbox. -/
theorem execRegisterWrite_tenant {k : Nat} (ready : s.boot.phase = .ready) (tenant : 1 ≤ i ∧ i ≤ 511) (word : k < 64) (small : v < 2 ^ 32) :
    execRegisterWrite i (0x1000 + 4 * k) v s =
      .next (s.modInst i fun x => { x with mbxT := { x.mbxT with out := x.mbxT.out.set 0 k v } }) := by
  have place : (0x1000 + 4 * k) % 256 / 4 = k := by omega
  have aligned : (0x1000 + 4 * k) % 4 = 0 := by omega
  unfold execRegisterWrite
  dsimp only
  rw [if_neg (by simp [ready, aligned]; omega), if_pos (by omega), Nat.mod_eq_of_lt small]
  unfold State.writeTenantReg
  rw [if_pos (by omega), place]

end

/-- Settles O59, by the place a write names. -/
theorem registerRows : Obligations.RegisterRows := by
  unfold Obligations.RegisterRows
  refine ⟨fun i o v s refused => ?_, fun o v s ready aligned gone => ?_, fun v s ready powered => ⟨?_, ?_, ?_⟩,
    fun i k v s ready first last word pos small => ⟨?_, fun on => ?_⟩, fun b s => ⟨?_, fun valid canonical => ?_⟩⟩
  · exact congrArg Host.Outcome.next (if_pos refused)
  · refine (execRegisterWrite_manager ready aligned).trans (congrArg _ ?_)
    exact if_pos gone
  · refine (execRegisterWrite_register (off := 0) ready rfl (by decide) powered).trans (congrArg _ ?_)
    exact State.writeManager_identity
  · intro inRange canonical on
    refine ⟨_, (execRegisterWrite_domSel ready on (by omega)).trans (congrArg _ (if_pos inRange)), ?_, fun k ne => ?_, rfl⟩
    · exact State.reg_setReg (State.regs_wf_of_tablesCanonical canonical)
    · exact State.reg_setReg_ne ne
  · intro outOfRange small on
    exact (execRegisterWrite_domSel ready on small).trans (congrArg _ (if_neg (by omega)))
  · exact ⟨_, execRegisterWrite_tenant ready ⟨first, last⟩ word small, State.buffer_modInst (g := fun x => x.mbxT.out) rfl rfl pos,
      fun j ne => State.inst_modInst_ne ne, rfl⟩
  · exact ⟨_, execRegisterWrite_window ready ⟨first, last⟩ word small on, State.buffer_modInst (g := fun x => x.mbxM.out) rfl rfl pos,
      fun j ne => State.inst_modInst_ne ne, rfl⟩
  · exact fun invalid => congrArg Host.Outcome.next (if_pos invalid)
  · refine ⟨_, congrArg Host.Outcome.next (if_neg valid), ?_, fun k ne => State.reg_setReg_ne ne, rfl⟩
    exact State.reg_setReg (State.regs_wf_of_tablesCanonical canonical)

end Sys2Proof.Machine
end

section
/-! Proofs: rails, the AON reset and PWRDIS (spec 20). -/

namespace Sys2Proof.Machine

set_option Elab.async false

variable {s : State}

/-! ### A message below Grave leaves the fault lines -/

section

variable {source kind address cls : Nat}

theorem State.accept_lines {m : Msg} {injected : Bool} {n : Nat} (low : m.cls < 3) :
    (s.accept m injected false n).fault.lines = s.fault.lines := by
  have fault := State.recorded_fault (s := s) (m := m) (injected := injected) (n := n)
  obtain ⟨below, -⟩ := State.clsAfter_lt (s := s) (m := m) (n := n) low
  rw [State.accept_eq]
  dsimp only
  rw [if_neg (Nat.ne_of_lt below)]
  generalize s.recorded m injected n = u at fault ⊢
  have lines : u.fault.lines = s.fault.lines := (congrArg FaultPart.lines fault).trans rfl
  split
  · exact lines
  · split
    · exact lines
    · exact lines

theorem State.report_lines (low : cls < 3) : (s.report source kind address cls).fault.lines = s.fault.lines := by
  unfold State.report State.fltMsg
  split
  · exact State.accept_lines low
  · rfl

end

/-! ### The start of a dump -/

section

variable {l : List Nat}

/-- What planning the dump's programs leaves: the start-up's part, the management's, intake, the fault part, and whether the
part is in dump mode. -/
def State.besidePlan (s : State) : BootPart × MgmtPart × IntakePart × FaultPart × Bool :=
  (s.boot, s.mgmt, s.intake, s.fault, s.trail.dumpMode)

theorem State.besidePlan_iff {t : State} : t.besidePlan = s.besidePlan ↔ t.boot = s.boot ∧ t.mgmt = s.mgmt ∧ t.intake = s.intake ∧
    t.fault = s.fault ∧ t.trail.dumpMode = s.trail.dumpMode := by
  simp only [State.besidePlan, Prod.mk.injEq]

theorem State.regionNext_besidePlan {role d : Nat} {x : (List Nat × Nat) × State} (region : s.regionNext role d = some x) :
    x.2.besidePlan = s.besidePlan := by
  unfold State.regionNext at region
  dsimp only at region
  split at region
  · cases region
    rfl
  · obtain ⟨b, taken, rfl⟩ := Option.map_eq_some_iff.1 region
    unfold State.takeBlocks at taken
    dsimp only at taken
    split at taken
    · cases taken
      exact (State.each_keeps State.besidePlan fun _ _ => rfl : State.besidePlan (State.setBlocks _ _ _ _) = _)
    · cases taken

theorem State.dumpOn_besidePlan {o : For} : ((s.dumpOn o l).getD s).besidePlan = s.besidePlan := by
  induction l with
  | nil => rfl
  | cons d rest ih =>
    unfold State.dumpOn
    split
    next x region => exact (rfl : _ = State.besidePlan _).trans (State.regionNext_besidePlan region)
    next => exact ih

theorem State.planDump_besidePlan {units : List DUnit} : (s.planDump units).besidePlan = s.besidePlan := by
  have programs (u : State) (heads : List (List Nat)) : (u.each heads fun s l => (s.dumpOn (.dump 0) l).getD s).besidePlan = u.besidePlan :=
    State.each_keeps State.besidePlan fun _ _ => State.dumpOn_besidePlan
  have planned (u : State) (chunks : List (Nat × List DUnit)) (place : Nat → List Nat) :
      (u.each chunks fun s c => (s.dumpOn (.dump (c.1 + 2)) (place c.1)).getD s).besidePlan = u.besidePlan :=
    State.each_keeps State.besidePlan fun _ _ => State.dumpOn_besidePlan
  exact (rfl : _ = State.besidePlan _).trans ((planned _ _ _).trans (State.dumpOn_besidePlan.trans (programs _ _)))

theorem State.dumpStart_boot : s.dumpStart.boot = s.boot := by
  unfold State.dumpStart
  dsimp only
  split
  · rfl
  · have given (u : State) : (u.abandonFences fun f => f.cls = 2).boot = u.boot :=
      congrArg (fun x => x.1) (State.abandonFences_besideFences (s := u) (test := fun f => f.cls = 2))
    obtain ⟨boot, -⟩ := State.besidePlan_iff.1 State.planDump_besidePlan
    exact boot.trans (given _)

/-- A dump that starts stops intake, shows it on its line and leaves the start-up's part. -/
theorem State.dumpStart_leaves (up : s.trail.dumpMode = false) (ready : s.boot.phase = .ready) : let t := s.dumpStart
    t.boot = s.boot ∧ t.trail.dumpMode = true ∧ t.intake.stopped = true ∧ t.fault.lines.dump = true := by
  unfold State.dumpStart
  dsimp only
  rw [if_neg (by simp [up, ready])]
  have given (u : State) : (u.abandonFences fun f => f.cls = 2).besideFences = u.besideFences := State.abandonFences_besideFences
  have before := given (State.post { s with fault := { s.fault with lines := { s.fault.lines with dump := true } } } 9 [0])
  generalize State.abandonFences _ _ = a at before ⊢
  obtain ⟨boot, -, fault, -⟩ : a.boot = s.boot ∧ a.klog = s.klog ∧
      a.fault = { s.fault with lines := { s.fault.lines with dump := true } } ∧ a.now = s.now := by
    simp only [State.besideFences, Prod.mk.injEq] at before
    obtain ⟨boot, klog, fault, now, -⟩ := before
    exact ⟨boot, klog, fault, now⟩
  obtain ⟨boot', -, intake, fault', mode⟩ := State.besidePlan_iff.1 State.planDump_besidePlan
  exact ⟨boot'.trans boot, mode.trans rfl, (congrArg IntakePart.stopped intake).trans rfl,
    (congrArg (fun f : FaultPart => f.lines.dump) (fault'.trans fault)).trans rfl⟩

end

/-! ### A rail below its threshold -/

section

variable {r : Nat}

/-- PWRFAIL_N shown low, and the dump it starts where the state calls for one. -/
def State.railFailed (s : State) : State :=
  let s := { s with boot := { s.boot with pwrfailLow := true } }
  if s.noDump then s else ({ s with boot := { s.boot with shut := none } }).dumpStart

theorem execRailLow_failed (known : r = 1 ∨ r = 2 ∨ (4 ≤ r ∧ r ≤ 7)) (high : s.boot.pwrfailLow = false) :
    execRailLow r s = .next ((s.railFailed.report 0x301 0x55 (96 + r) 2).lifeBreak 4) := by
  unfold execRailLow State.railFailed
  rw [if_neg (by omega), if_neg (by rw [high]; simp; omega)]

theorem execRailLow_other (known : r = 0 ∨ r = 3 ∨ 8 < r) : execRailLow r s = .next s := by
  unfold execRailLow
  rw [if_neg (by omega), if_pos (by omega)]

theorem State.lifeBreak_lifeBroken {c : Nat} : (s.lifeBreak c).mgmt.lifeBroken = true := by
  unfold State.lifeBreak
  split
  next broken => exact broken
  · rfl

/-- What breaks the module's expected life touches the management's part alone. -/
theorem State.lifeBreak_leaves {c : Nat} : let t := s.lifeBreak c
    t.boot = s.boot ∧ t.trail = s.trail ∧ t.intake = s.intake ∧ t.fault = s.fault := by
  unfold State.lifeBreak
  dsimp only
  split
  · exact ⟨rfl, rfl, rfl, rfl⟩
  · exact ⟨rfl, rfl, rfl, rfl⟩

theorem State.phase_of_dump (dumps : s.noDump = false) : s.boot.phase = .ready := by
  unfold State.noDump at dumps
  simp only [Bool.or_eq_false_iff, decide_eq_false_iff_not, ne_eq, not_not] at dumps
  exact dumps.1.1.1

theorem State.railFailed_idle (idle : s.noDump = true) : s.railFailed = { s with boot := { s.boot with pwrfailLow := true } } :=
  if_pos idle

theorem State.railFailed_dumping (dumps : s.noDump = false) :
    s.railFailed = ({ s with boot := { s.boot with pwrfailLow := true, shut := none } } : State).dumpStart :=
  if_neg (ne_true_of_eq_false (dumps : State.noDump { s with boot := { s.boot with pwrfailLow := true } } = false))

theorem State.railFailed_dumps (dumps : s.noDump = false) (up : s.trail.dumpMode = false) : let t := s.railFailed
    t.trail.dumpMode = true ∧ t.intake.stopped = true ∧ t.fault.lines.dump = true := by
  have ready := State.phase_of_dump dumps
  obtain ⟨-, started⟩ :=
    State.dumpStart_leaves (s := { s with boot := { s.boot with pwrfailLow := true, shut := none } }) up ready
  rw [State.railFailed_dumping dumps]
  exact started

theorem State.railFailed_pwrfailLow : s.railFailed.boot.pwrfailLow = true := by
  cases idle : s.noDump with
  | true => rw [State.railFailed_idle idle]
  | false =>
    rw [State.railFailed_dumping idle]
    exact congrArg BootPart.pwrfailLow State.dumpStart_boot

end

/-! ### The AON reset -/

section

variable {v : Nat → Nat} {l : List Nat}

theorem State.setRegs_only : l.foldl (fun (t : State) k => t.setReg k (v k)) s =
    { s with regs := (l.foldl (fun (t : State) k => t.setReg k (v k)) s).regs } := by
  induction l generalizing s with
  | nil => rfl
  | cons k l ih => exact ih

/-- Fields set in turn each show their value. -/
theorem State.reg_setRegs (wf : Tab.wf none s.regs = true) {k : Nat} (shows : k ∈ l ∨ s.reg k = v k) :
    (l.foldl (fun (t : State) k => t.setReg k (v k)) s).reg k = v k := by
  induction l generalizing s with
  | nil => exact shows.resolve_left List.not_mem_nil
  | cons j l ih =>
    refine ih (State.wf_setReg wf) ?_
    by_cases same : k = j
    · exact .inr (same ▸ State.reg_setReg wf)
    · rw [State.reg_setReg_ne same]
      exact shows.imp_left fun listed => (List.mem_cons.1 listed).resolve_left same

/-- The latched first source's registers carried into the state after an AON reset, and the Grave state with them. -/
theorem execAonReset_eq {t : State} (cold : s.restart true = t) :
    execAonReset s = .next (let u := firstFields.foldl (fun (t : State) k => t.setReg k (s.reg k)) t
      { u with fault := { u.fault with grave := s.fault.grave } }) := by
  subst cold
  rfl

/-- What a cold restart leaves and takes (R449, R453). -/
theorem State.restart_cold : let t := s.restart true
    t.boot.phase = .fresh ∧ t.now = 0 ∧ t.boot.otp = s.boot.otp ∧ t.boot.slots = s.boot.slots ∧
      t.klog.segments = s.klog.segments ∧ t.klog.ring = [] ∧ t.intake.tags = [] ∧ t.power = {} ∧
      t.trail.durable = s.trail.durable ∧ t.glaze.credentials = s.glaze.credentials ∧
      t.regs = s.regs.keep fun k _ => restoredFields.contains k := by
  unfold State.restart
  dsimp only
  rw [if_pos rfl]
  exact ⟨rfl, rfl, rfl, rfl, rfl, rfl, rfl, rfl, rfl, rfl, rfl⟩

end

/-! ### PWRDIS -/

section

theorem State.allShut_shst : ∀ x ∈ s.allShut.tenant.insts, x.2.shst = 2 := by
  intro x listed
  obtain ⟨y, shut⟩ := Tab.mem_mapVals listed
  exact congrArg Inst.shst shut

theorem execPwrdisAssert_down (down : s.boot.phase ≠ .ready) :
    execPwrdisAssert s = .next { s with boot := { s.boot with pwrdis := true } } :=
  congrArg Host.Outcome.next (if_pos (.inl down))

theorem execPwrdisAssert_free (ready : s.boot.phase = .ready) (up : s.trail.dumpMode = false) (runs : s.fault.graveStopped = false)
    (free : s.boot.shut = none) : execPwrdisAssert s =
      .next (let t : State := { s with boot := { s.boot with pwrdis := true }, intake := { s.intake with stopped := true } }
        if s.asleep ∨ (s.intake.stopped ∧ s.trail.clean) then t.allShut
        else { t with boot := { t.boot with shut := some .pwrdis } }) := by
  unfold execPwrdisAssert
  dsimp only
  rw [if_neg (by simp [ready, up, runs]), free]
  rfl

/-- PWRDIS as released. -/
def State.released (s : State) : State := { s with boot := { s.boot with pwrdis := false } }

theorem execPwrdisRelease_high (high : s.boot.pwrdis = false) : execPwrdisRelease s = .next s := by
  have same : s.released = s := (congrArg (fun b => { s with boot := { s.boot with pwrdis := b } }) high.symm).trans rfl
  refine (congrArg Host.Outcome.next (if_pos ?_)).trans (congrArg Host.Outcome.next same)
  rw [high]
  rfl

/-- A release of PWRDIS goes on by what the shutdown or the ROM has reached. -/
theorem execPwrdisRelease_low (low : s.boot.pwrdis = true) : execPwrdisRelease s =
    .next (match s.boot.phase, s.boot.shut, s.boot.waiting with
      | .ready, some .pwrdis, _ => { s.released with boot := { s.released.boot with pwrdisFell := true } }
      | .ready, none, _ =>
        if s.trail.dumpMode ∨ s.fault.graveStopped ∨ !s.intake.stopped then s.released else s.released.controllerReset
      | .romWait, _, some info => if s.boot.pwrfailLow then s.released else s.released.bootFrom3 info
      | _, _, _ => s.released) := by
  refine congrArg Host.Outcome.next ((if_neg ?_).trans ?_)
  · rw [low]
    decide
  · rfl

theorem execPwrfailHighBeforeStart_waiting {info : BootInfo} (waits : s.boot.phase = .romWait) (waiting : s.boot.waiting = some info) :
    execPwrfailHighBeforeStart s = .next (let t : State := { s with boot := { s.boot with pwrfailLow := false } }
      if s.boot.pwrdis then t else t.bootFrom3 info) := by
  unfold execPwrfailHighBeforeStart
  rw [waits, waiting]

theorem execPwrfailHighBeforeStart_other (other : s.boot.phase ≠ .romWait) : execPwrfailHighBeforeStart s = .next s := by
  unfold execPwrfailHighBeforeStart
  split
  next waits _ => exact absurd waits other
  · rfl

end

/-- Settles O57: a rail by what it shows, the AON reset by its cold restart, PWRDIS by the state it finds. -/
theorem electricalRows : Obligations.ElectricalRows := by
  unfold Obligations.ElectricalRows
  refine ⟨fun s => ⟨rfl, rfl, fun r known => execRailLow_other known, fun r known high => ?_⟩, fun s canonical => ?_, fun s => ?_⟩
  · refine ⟨_, execRailLow_failed known high, ?_, State.lifeBreak_lifeBroken, fun idle => ?_, fun dumps up => ?_⟩
    all_goals
      obtain ⟨boot, trail, intake, fault⟩ :=
        State.lifeBreak_leaves (s := s.railFailed.report 0x301 0x55 (96 + r) 2) (c := 4)
    · rw [boot, State.report_boot _ _ _ _ (by decide)]
      exact State.railFailed_pwrfailLow
    · rw [trail, State.report_trail _ _ _ _ (by decide), State.railFailed_idle idle]
    · rw [trail, intake, fault, State.report_trail _ _ _ _ (by decide), State.report_intake _ _ _ _ (by decide),
        State.report_lines (by decide)]
      exact State.railFailed_dumps dumps up
  · have left := State.restart_cold (s := s)
    have run := execAonReset_eq (s := s) rfl
    generalize s.restart true = t at left run
    obtain ⟨phase, now, otp, slots, segments, ring, tags, power, durable, credentials, regs⟩ := left
    refine ⟨_, run, ?_⟩
    have wf : Tab.wf none t.regs = true := by
      rw [regs]
      exact Tab.wf_keep (State.regs_wf_of_tablesCanonical canonical)
    have first : ∀ k ∈ firstFields, (firstFields.foldl (fun (t : State) k => t.setReg k (s.reg k)) t).reg k = s.reg k :=
      fun k listed => State.reg_setRegs wf (.inl listed)
    have only := State.setRegs_only (s := t) (v := s.reg) (l := firstFields)
    generalize firstFields.foldl (fun (t : State) k => t.setReg k (s.reg k)) t = u at first only ⊢
    generalize u.regs = r at only
    subst only
    exact ⟨phase, now, otp, slots, rfl, first, segments, ring, tags, power, durable, credentials⟩
  · refine ⟨execPwrdisAssert_down, fun ready up runs free => ⟨fun awake flows => ?_, fun asleep => ?_⟩, execPwrdisRelease_high,
      fun low ready => ⟨fun shut => ?_, fun free up runs stopped => ?_⟩, fun info waits waiting => ⟨fun low fell => ?_, fun low => ?_, fun high => ?_⟩,
      execPwrfailHighBeforeStart_other⟩
    · exact (execPwrdisAssert_free ready up runs free).trans (congrArg _ (if_neg (by simp [awake, flows])))
    · refine ⟨_, (execPwrdisAssert_free ready up runs free).trans (congrArg _ (if_pos (.inl asleep))), rfl, free,
        State.allShut_shst, rfl, rfl⟩
    · refine (execPwrdisRelease_low low).trans ?_
      rw [ready, shut]
      rfl
    · obtain ⟨phase, step3, otp, -⟩ := State.controllerReset_leaves (s := s.released)
      refine ⟨s.released.controllerReset, ?_, phase, step3, otp⟩
      refine (execPwrdisRelease_low low).trans ?_
      rw [ready, free]
      exact congrArg _ (if_neg (by simp [up, runs, stopped]))
    · refine (execPwrdisRelease_low low).trans ?_
      rw [waits, waiting, fell]
      rfl
    · exact (execPwrfailHighBeforeStart_waiting waits waiting).trans (congrArg _ (if_pos low))
    · exact (execPwrfailHighBeforeStart_waiting waits waiting).trans (congrArg _ (if_neg (by simp [high])))

end Sys2Proof.Machine
end

section
/-! Proofs: start-up (R322, R367, R479). -/

namespace Sys2Proof.Machine

set_option Elab.async false

/-! ### A saved tenant's weight may stand where the DRAM's highest rate does

A start-up restores each saved tenant's weight to CFG_INTAKE_WEIGHT's index of that tenant, and the key of a configuration
field is its identifier times 4,096 plus its index. Nothing bounds the saved tenants' numbers, so that the weight of a number
far beyond the 511 tenants is CFG_DMC_RATE_MAX, and no rate is left at which the DRAM may run. -/

/-- A signature block whose keys are those that its signatures, all 0, give. -/
def selfSigner : Signer :=
  { ecdsa := Config.ecdsaKey 0 0 0, lms := Config.lmsRoot 0 (be 48 0) 0 % 2 ^ 256, validTo := 1, usage := 3 }

def selfSigned : SigBlock :=
  { signer := selfSigner
    rootEcdsa := Config.ecdsaKey (Config.sha384 (signerBytes selfSigner)) 0 0
    rootLms := Config.lmsRoot 0 (signerBytes selfSigner) 0 % 2 ^ 256 }

theorem ecdsaOk_ecdsaKey (digest : Nat) : ecdsaOk (Config.ecdsaKey digest 0 0) digest 0 = true :=
  List.any_eq_true.2 ⟨0, by decide, decide_eq_true rfl⟩

theorem lmsOk_lmsRoot (message : List Nat) : lmsOk (Config.lmsRoot 0 message 0 % 2 ^ 256) message 0 = true := by
  have small : Config.lmsRoot 0 message 0 % 2 ^ 256 < 2 ^ 256 := Nat.mod_lt _ (by decide)
  unfold lmsOk
  rw [Nat.div_eq_of_lt small, Nat.mod_mod]
  exact decide_eq_true rfl

variable {s : State}

/-- In Blank the block is accepted for each of the two images. -/
theorem State.blockOk_selfSigned (blank : s.lifecycle = 0) {u : Nat} (image : u < 2) : s.blockOk selfSigned 0 u = true := by
  have used : bit selfSigned.signer.usage u = true := by
    obtain rfl | rfl : u = 0 ∨ u = 1 := by omega
    · decide
    · decide
  have trusted : s.rootTrusted selfSigned = true := by
    unfold State.rootTrusted
    rw [blank]
    rfl
  unfold State.blockOk
  rw [trusted, used]
  simp only [selfSigned, selfSigner, ecdsaOk_ecdsaKey, lmsOk_lmsRoot, decide_true, Bool.and_self]

theorem State.chainOk_selfSigned (blank : s.lifecycle = 0) {kind : Nat} (image : kind < 2) {parts : List Nat} :
    s.chainOk kind 0 0 parts { block := selfSigned, parts := parts } = true := by
  have block : s.blockOk selfSigned 0 kind = true := State.blockOk_selfSigned blank image
  unfold State.chainOk
  rw [block]
  simp only [selfSigned, selfSigner, decide_true, Bool.and_self, Nat.le_refl, Nat.zero_le]

/-- A firmware header and a configuration header, each sealed with its CRC, which covers all but the CRC. -/
def sealedFw (h : FwHeader) : FwHeader := { h with crc := crc32c (fwFront h) }

def sealedCfg (h : CfgHeader) : CfgHeader := { h with crc := crc32c (cfgFront h) }

theorem sealedFw_crc (h : FwHeader) : (sealedFw h).crc = crc32c (fwFront (sealedFw h)) := by
  have covered (c : Nat) : fwFront { h with crc := c } = fwFront h := rfl
  exact congrArg crc32c (covered _).symm

theorem sealedCfg_crc (h : CfgHeader) : (sealedCfg h).crc = crc32c (cfgFront (sealedCfg h)) := by
  have covered (c : Nat) : cfgFront { h with crc := c } = cfgFront h := rfl
  exact congrArg crc32c (covered _).symm

def smallFirmware : FwHeader :=
  sealedFw { length := 8192, overlay := { offset := 512, length := 512 }, control := { offset := 1024, length := 512 } }

def emptyImage : CfgHeader := sealedCfg {}

theorem State.fwHeaderOk_smallFirmware (counter : s.fwCounter = 0) : s.fwHeaderOk smallFirmware = true := by
  have crc : decide (smallFirmware.crc = crc32c (fwFront smallFirmware)) = true := decide_eq_true (sealedFw_crc _)
  have plain : bit smallFirmware.flags 0 = false := by decide
  unfold State.fwHeaderOk
  rw [crc, counter, plain]
  simp only [Bool.not_false, Bool.true_or]
  decide

theorem State.cfgHeaderOk_emptyImage (counter : s.cfgCounter = 0) : s.cfgHeaderOk emptyImage = true := by
  have crc : decide (emptyImage.crc = crc32c (cfgFront emptyImage)) = true := decide_eq_true (sealedCfg_crc _)
  unfold State.cfgHeaderOk
  rw [crc, counter]
  decide

/-- The firmware slot and the configuration slot of the images. -/
def confirmedSlot : FwSlot := { st := slotConfirmed, hdr := smallFirmware, chain := { block := selfSigned, parts := [0, 0] } }

def emptySlot : CfgSlot := { hdr := emptyImage, chain := { block := selfSigned, parts := [0] } }

/-- A part after a controller reset, an alarm latched, whose saved tenants hold one of the number at which the weight's key is
that of CFG_DMC_RATE_MAX. -/
def misnumbered : State :=
  { boot := { phase := .down, fromStep3 := true, slots := [(1, confirmedSlot)] }
    mgmt := { slots := [(0, some emptySlot)] }
    glaze := { alarm := some 0 }
    tenant := { saved := [((Cfg.DMC_RATE_MAX - Cfg.INTAKE_WEIGHT) * 4096, { weight := 1 })] } }

theorem misnumbered_lifecycle : misnumbered.lifecycle = 0 := by decide

theorem misnumbered_counters : misnumbered.fwCounter = 0 ∧ misnumbered.cfgCounter = 0 :=
  ⟨onesIn_zero 0 512, onesIn_zero 0 512⟩

theorem misnumbered_fwChainOk : misnumbered.fwChainOk (misnumbered.fwSlot 1).hdr (misnumbered.fwSlot 1).chain = true := by
  obtain ⟨counter, -⟩ := misnumbered_counters
  unfold State.fwChainOk
  rw [counter]
  exact State.chainOk_selfSigned misnumbered_lifecycle (by decide)

theorem misnumbered_cfgChainOk : misnumbered.cfgChainOk emptySlot.hdr emptySlot.chain = true := by
  obtain ⟨-, counter⟩ := misnumbered_counters
  unfold State.cfgChainOk
  rw [counter]
  exact State.chainOk_selfSigned misnumbered_lifecycle (by decide)

theorem State.chooseSlot_accepted {k : Nat} {rest : List Nat} (settled : (s.fwSlot k).st ≠ slotTrial)
    (header : s.fwHeaderOk (s.fwSlot k).hdr = true) (signed : s.fwChainOk (s.fwSlot k).hdr (s.fwSlot k).chain = true) :
    s.chooseSlot [] (k :: rest) = (some k, s) := by
  unfold State.chooseSlot
  simp [settled, header, signed]

theorem State.chooseCfg_accepted {k : Nat} {x : CfgSlot} {rest : List (Nat × CfgSlot)} (header : s.cfgHeaderOk x.hdr = true)
    (signed : s.cfgChainOk x.hdr x.chain = true) : s.chooseCfg [] ((k, x) :: rest) = (some (k, x), s) := by
  unfold State.chooseCfg
  simp [header, signed]

theorem confirmedSlot_ne : confirmedSlot ≠ {} := fun e => absurd (congrArg FwSlot.st e) (by decide)

theorem misnumbered_wf : Tab.wf ({} : FwSlot) misnumbered.boot.slots = true :=
  Bool.and_eq_true_iff.2 ⟨decide_eq_true confirmedSlot_ne, rfl⟩

theorem misnumbered_dropWriting : misnumbered.dropWriting = misnumbered := by
  have kept : Tab.mapVals ({} : FwSlot) (fun _ (x : FwSlot) => if x.st = slotWriting then ({} : FwSlot) else x) [(1, confirmedSlot)] =
      [(1, confirmedSlot)] := by
    have written : confirmedSlot.st ≠ slotWriting := by decide
    unfold Tab.mapVals Tab.cons
    rw [if_neg written, if_neg confirmedSlot_ne]
    rfl
  exact congrArg (fun x : Tab FwSlot => ({ misnumbered with boot := { misnumbered.boot with slots := x } } : State)) kept

theorem State.slotOrder_confirmed (first : (s.fwSlot 1).st = slotConfirmed) (second : (s.fwSlot 2).st = slotEmpty) :
    s.slotOrder = [1] := by
  unfold State.slotOrder
  simp [first, second]

theorem misnumbered_slotOrder : misnumbered.slotOrder = [1] := State.slotOrder_confirmed rfl rfl

theorem misnumbered_cfgOrder : misnumbered.cfgOrder = [(0, emptySlot)] := rfl

/-- Step 3 of a start-up with both images accepted (R479). -/
theorem State.bootFrom3_accepted {u : State} {x : CfgSlot} (again : { s with boot := { s.boot with waiting := none, phase := .down } } = u)
    (copies : u.boot.copiesLost = []) (written : u.dropWriting = u) (order : u.slotOrder = [1])
    (slot : u.chooseSlot [] [1] = (some 1, u)) (image : u.cfgOrder = [(0, x)]) (cfg : u.chooseCfg [] [(0, x)] = (some (0, x), u)) :
    s.bootFrom3 {} = u.bootRun {} 1 0 x := by
  unfold State.bootFrom3
  rw [again]
  dsimp only
  rw [copies, if_neg (by decide), if_pos (by decide), written, order, slot]
  dsimp only
  rw [image, cfg]

theorem misnumbered_bootFrom3 : misnumbered.bootFrom3 {} = misnumbered.bootRun {} 1 0 emptySlot := by
  obtain ⟨fw, cfg⟩ := misnumbered_counters
  exact State.bootFrom3_accepted rfl rfl misnumbered_dropWriting misnumbered_slotOrder
    (State.chooseSlot_accepted (by decide) (State.fwHeaderOk_smallFirmware fw) misnumbered_fwChainOk) misnumbered_cfgOrder
    (State.chooseCfg_accepted (State.cfgHeaderOk_emptyImage cfg) misnumbered_cfgChainOk)

theorem execBootSequence_after {info : BootInfo} (down : s.boot.phase = .down) (step3 : s.boot.fromStep3 = true)
    (alive : s.fault.grave = false) : execBootSequence info s = .next (s.bootFrom3 info) := by
  unfold execBootSequence
  rw [if_pos down, if_pos step3, if_neg (ne_true_of_eq_false alive)]

theorem State.enterHold_phase : s.enterHold.boot.phase = .graveHold := rfl

/-- Without a rate at which the DRAM trains a start-up ends in the Grave hold. -/
theorem misnumbered_bootRun : (misnumbered.bootRun {} 1 0 emptySlot).boot.phase = .graveHold := by
  have untrained : (({ misnumbered with boot := { misnumbered.boot with running := 1 } } : State).bootLoad 0 emptySlot).dramRateOf
      ({} : BootInfo).dramTrains = 0 := by decide
  unfold State.bootRun
  dsimp only
  rw [if_neg (by decide), if_pos untrained]
  exact State.enterHold_phase

/-- Refutes O56: in `misnumbered` both images are accepted and the DRAM trains at the image's rate, and yet the start-up ends in
the Grave hold. -/
theorem not_bootRows : ¬ Obligations.BootRows := by
  intro h
  obtain ⟨after, -⟩ := h
  obtain ⟨-, accepted⟩ := after {} misnumbered (by decide) (by decide)
  obtain ⟨fw, cfg⟩ := misnumbered_counters
  have rate : (misnumbered.loadImage 0 emptySlot).dramRateOf ({} : BootInfo).dramTrains ≠ 0 := by decide
  obtain ⟨t, run, ready, -⟩ := accepted emptySlot (by decide) (by decide) (by decide) misnumbered_wf (by decide) (by decide)
    (State.fwHeaderOk_smallFirmware fw) misnumbered_fwChainOk (by decide) rfl (by decide) (State.cfgHeaderOk_emptyImage cfg)
    misnumbered_cfgChainOk (by decide) (by decide) rate
  have held : execBootSequence {} misnumbered = .next (misnumbered.bootRun {} 1 0 emptySlot) :=
    (execBootSequence_after rfl rfl rfl).trans (congrArg _ misnumbered_bootFrom3)
  obtain rfl : t = misnumbered.bootRun {} 1 0 emptySlot := Host.Outcome.next.inj (run.symm.trans held)
  exact absurd (ready.symm.trans misnumbered_bootRun) (by decide)

end Sys2Proof.Machine
end

section
/-! Proofs: the Service Port (R500 to R508). -/

namespace Sys2Proof.Machine

set_option Elab.async false

variable {s : State} {q : Nat}

/-! ### A request at the port -/

section

variable {on : SmiliOn} {f : State → Nat × List Nat × State} {l : List Nat}

/-- The port is up in a running part, and the sequence is not the last request's. -/
structure State.Serves (s : State) (q : Nat) : Prop where
  up : s.portUp = true
  fresh : ∀ x, s.boot.lastReq = some x → x.1 ≠ q
  ready : s.boot.phase = .ready
  free : s.portHeld = false

theorem State.smili_again (up : s.portUp = true) (last : s.boot.lastReq = some (q, l)) :
    s.smili q on f = s.portHeard.emit (.reply Port.service l) := by
  unfold State.smili
  rw [if_neg (by simp [up]), last]
  exact if_pos rfl

theorem State.smili_fresh (serves : s.Serves q) : s.smili q on f = s.portHeard.smiliNew q on f := by
  unfold State.smili
  rw [if_neg (by simp [serves.up])]
  split
  next n l last => exact if_neg (serves.fresh _ last)
  next => rfl

theorem State.smiliOk_iff (serves : s.Serves q) : s.portHeard.smiliOk on = on.states.contains s.lifecycle := by
  have phase : s.portHeard.boot.phase = .ready := serves.ready
  have held : s.portHeard.portHeld = false := serves.free
  have life : s.portHeard.lifecycle = s.lifecycle := rfl
  unfold State.smiliOk
  rw [phase, held, life]
  simp

/-- A request that the lifecycle state permits is executed and answered. -/
theorem State.smili_permitted (serves : s.Serves q) (permitted : on.states.contains s.lifecycle = true) {st : Nat} {d : List Nat}
    {t : State} (gives : f s.portHeard = (st, d, t)) : (.next (s.smili q on f) : Res) = .next (t.smiliAnswer q st d) := by
  rw [State.smili_fresh serves]
  unfold State.smiliNew
  rw [if_pos ((State.smiliOk_iff serves).trans permitted), gives]

theorem State.smili_refused (serves : s.Serves q) (refused : on.states.contains s.lifecycle = false) :
    (.next (s.smili q on f) : Res) = .next (s.portHeard.smiliAnswer q 0x000A []) := by
  rw [State.smili_fresh serves]
  unfold State.smiliNew
  rw [if_neg (ne_true_of_eq_false ((State.smiliOk_iff serves).trans refused))]

theorem every_lifecycle {n : Nat} (small : n ≤ 3) : [0, 1, 2, 3].contains n = true := by
  simp
  omega

end

/-! ### Lifecycle states and OTP rows -/

section

variable {r m k : Nat}

theorem bit_eq_testBit {x i : Nat} : bit x i = x.testBit i := Nat.testBit_eq_decide_div_mod_eq.symm

theorem bit_or {x y i : Nat} : bit (x ||| y) i = (bit x i || bit y i) := by
  simp only [bit_eq_testBit, Nat.testBit_or]

theorem State.otpRow_programOtp (pos : 0 < m) (small : m < 2 ^ 512) : (s.programOtp r m).otpRow r = s.otpRow r ||| m := by
  have written : s.otpRow r ||| m % 2 ^ 512 ≠ 0 := by
    rw [Nat.mod_eq_of_lt small]
    exact Nat.ne_of_gt (Nat.lt_of_lt_of_le pos Nat.right_le_or)
  have row : (s.programOtp r m).otpRow r = s.otpRow r ||| m % 2 ^ 512 := Tab.get_set_self_of_ne written
  rw [row, Nat.mod_eq_of_lt small]

/-- A mask in the lower half of a row. -/
theorem lowMask (low : m < 2 ^ 256) : m < 2 ^ 512 := Nat.lt_of_lt_of_le low (Nat.pow_le_pow_right (by decide) (by decide))

/-- The locks of rows 0 to 8, each with its copy. -/
def rowLocks : Nat := 0x1FF + 0x1FF * 2 ^ 256

theorem rowLocks_pos : 0 < rowLocks := Nat.add_pos_left (by decide) _

theorem rowLocks_lt : rowLocks < 2 ^ 512 := by
  have square : (2 : Nat) ^ 512 = 2 ^ 256 * 2 ^ 256 := pow_add 2 256 256
  rw [square]
  decide

theorem bit_rowLocks : ∀ r < 9, bit rowLocks r = true := by decide +kernel

theorem State.otpRow_programOtp_ne (ne : k ≠ r) : (s.programOtp r m).otpRow k = s.otpRow k := by
  exact (Tab.get_upd_ne ne : (s.boot.otp.upd 0 r fun v => v ||| (m % 2 ^ 512)).get 0 k = s.boot.otp.get 0 k)

theorem onesIn_congr {x y lo n : Nat} (same : ∀ i < n, bit x (lo + i) = bit y (lo + i)) : onesIn x lo n = onesIn y lo n := by
  induction n with
  | zero => rfl
  | succ n ih =>
    unfold onesIn
    rw [ih fun i below => same i (Nat.lt_succ_of_lt below), same n (Nat.lt_succ_self n)]

theorem onesIn_full {x lo n : Nat} (full : ∀ i < n, bit x (lo + i) = true) : onesIn x lo n = n := by
  induction n with
  | zero => rfl
  | succ n ih =>
    unfold onesIn
    rw [ih fun i below => full i (Nat.lt_succ_of_lt below), full n (Nat.lt_succ_self n)]
    rfl

/-- A lifecycle group whose eight bits are programmed is reached. -/
theorem State.lifeGroup_of_full {v : Nat} (row : s.otpRow 13 = v ||| m) (full : ∀ i < 8, bit m (8 * k + i) = true) :
    s.lifeGroup k = true := by
  have ones : onesIn (s.otpRow 13) (8 * k) 8 = 8 := onesIn_full fun i below => by
    rw [row, bit_or, full i below, Bool.or_true]
  unfold State.lifeGroup
  rw [ones]
  rfl

/-- A lifecycle group of which no bit is programmed stays as it was. -/
theorem State.lifeGroup_of_clear {t : State} (row : t.otpRow 13 = s.otpRow 13 ||| m) (clear : ∀ i < 8, bit m (8 * k + i) = false) :
    t.lifeGroup k = s.lifeGroup k := by
  have ones : onesIn (t.otpRow 13) (8 * k) 8 = onesIn (s.otpRow 13) (8 * k) 8 := onesIn_congr fun i below => by
    rw [row, bit_or, clear i below, Bool.or_false]
  unfold State.lifeGroup
  rw [ones]

theorem State.lifecycle_eq_zero (blank : s.lifecycle = 0) : s.lifeGroup 2 = false ∧ s.lifeGroup 1 = false := by
  unfold State.lifecycle at blank
  split_ifs at blank with two one zero
  exact ⟨eq_false_of_ne_true two, eq_false_of_ne_true one⟩

theorem State.lifecycle_eq_one (provisioned : s.lifecycle = 1) : s.lifeGroup 2 = false := by
  refine eq_false_of_ne_true fun returned => ?_
  unfold State.lifecycle at provisioned
  rw [if_pos returned] at provisioned
  exact absurd provisioned (by decide)

theorem State.lifecycle_provisioned {t : State} (blank : s.lifecycle = 0) (row : t.otpRow 13 = s.otpRow 13 ||| 0xFF) :
    t.lifecycle = 1 := by
  obtain ⟨two, one⟩ := State.lifecycle_eq_zero blank
  unfold State.lifecycle
  rw [State.lifeGroup_of_clear row (by decide), State.lifeGroup_of_clear row (by decide), State.lifeGroup_of_full row (by decide), two, one]
  rfl

theorem State.lifecycle_production {t : State} (provisioned : s.lifecycle = 1) (row : t.otpRow 13 = s.otpRow 13 ||| 0xFF00) :
    t.lifecycle = 2 := by
  unfold State.lifecycle
  rw [State.lifeGroup_of_clear row (by decide), State.lifeGroup_of_full row (by decide), State.lifecycle_eq_one provisioned]
  rfl

theorem State.lifecycle_returned {t : State} (row : t.otpRow 13 = s.otpRow 13 ||| 0xFF0000) : t.lifecycle = 3 := by
  unfold State.lifecycle
  rw [State.lifeGroup_of_full row (by decide)]
  rfl

end

/-! ### The port itself -/

section

variable {b : Nat}

theorem execSmiliBadFrame_up (up : s.portUp = true) :
    execSmiliBadFrame q b s = .next (s.emit (.reply Port.service (smiliFrame 4 q [b]))) :=
  congrArg Host.Outcome.next (if_pos up)

theorem execServicePortAutobaud_known (up : s.portUp = true) {r : Nat} (known : portRate b = some r) : execServicePortAutobaud b s =
    .next (({ s with boot := { s.boot with baud := r, frameAt := s.now } }).emit (.reply Port.service (smiliFrame 3 0 (le 4 r)))) := by
  unfold execServicePortAutobaud
  rw [known]
  exact congrArg Host.Outcome.next (if_pos up)

theorem execServicePortAutobaud_unknown (unknown : portRate b = none) : execServicePortAutobaud b s = .next s := by
  unfold execServicePortAutobaud
  rw [unknown]

theorem execServiceReset_again (up : s.portUp = true) {l : List Nat} (last : s.boot.lastReq = some (q, l)) :
    execServiceReset q b s = .next (s.portHeard.emit (.reply Port.service l)) := by
  unfold execServiceReset
  dsimp only
  rw [if_pos (by simp [last]), State.smili_again up last]

theorem State.smiliAnswer_otp {st : Nat} {d : List Nat} : (s.smiliAnswer q st d).boot.otp = s.boot.otp := by
  unfold State.smiliAnswer
  dsimp only
  rw [State.emit_reply]

/-- A reset asked for at the port is answered before it begins (R500). -/
theorem execServiceReset_fresh (serves : s.Serves q) (life : s.lifecycle ≤ 3) (kind : b ≤ 1) : ∃ t, execServiceReset q b s = .next t ∧
    t.boot.phase = .down ∧ (t.boot.fromStep3 = true ↔ b = 0) ∧ t.boot.otp = s.boot.otp ∧
      .reply Port.service (smiliFrame 2 q [0, 0]) ∈ t.out := by
  have answered : s.smili q { bisque := true, held := 1 } (fun s => (if b ≤ 1 then 0 else 5, [], s)) = s.portHeard.smiliAnswer q 0 [] :=
    Host.Outcome.next.inj (State.smili_permitted serves (every_lifecycle life) (by rw [if_pos kind]))
  have new : (s.portUp && s.smiliOk { bisque := true, held := 1 } && decide (b ≤ 1) &&
      !(s.boot.lastReq.any fun x => decide (x.1 = q))) = true := by
    have permitted : s.smiliOk { bisque := true, held := 1 } = true := (State.smiliOk_iff serves).trans (every_lifecycle life)
    have unseen : (s.boot.lastReq.any fun x => decide (x.1 = q)) = false := by
      cases last : s.boot.lastReq with
      | none => rfl
      | some x => exact decide_eq_false (serves.fresh x last)
    rw [serves.up, permitted, unseen, decide_eq_true kind]
    rfl
  obtain ⟨phase, step3, otp, -⟩ := State.controllerReset_leaves (s := s.portHeard.smiliAnswer q 0 [])
  have sent : .reply Port.service (smiliFrame 2 q [0, 0]) ∈ (s.portHeard.smiliAnswer q 0 []).out := by
    unfold State.smiliAnswer
    dsimp only
    rw [State.emit_reply]
    exact List.mem_cons_self
  have grows : (s.portHeard.smiliAnswer q 0 []).out <:+ (s.portHeard.smiliAnswer q 0 []).controllerReset.out :=
    (Holds.controllerReset (w := True) (Holds.refl _)).sent
  unfold execServiceReset
  dsimp only
  rw [answered, new, if_neg (by decide)]
  by_cases first : b = 1
  · rw [if_pos (by simp [first])]
    exact ⟨_, rfl, phase, ⟨fun again => absurd again Bool.false_ne_true, fun zero => by omega⟩, otp.trans State.smiliAnswer_otp, grows.mem sent⟩
  · have running : ¬ (decide (b = 1) || decide (s.boot.phase = .bisque)) = true := by simp [first, serves.ready]
    rw [if_neg running]
    exact ⟨_, rfl, phase, ⟨fun _ => by omega, fun _ => step3⟩, otp.trans State.smiliAnswer_otp, grows.mem sent⟩

end

/-! ### Firmware over the port -/

section

variable {x : Staging}

theorem State.portSession_of (staged : s.boot.staging = some x) (path : x.path = 2) : s.portHeard.portSession = some x := by
  have same : s.portHeard.boot.staging = some x := staged
  unfold State.portSession
  rw [same]
  exact Option.filter_some_pos (decide_eq_true path)

theorem State.portSession_none (unstaged : s.boot.staging = none) : s.portHeard.portSession = none := by
  have same : s.portHeard.boot.staging = none := unstaged
  unfold State.portSession
  rw [same]
  rfl

variable {k a : Nat} {c : Chain}

theorem execFwBegin_new (serves : s.Serves q) (life : s.lifecycle ≤ 3) (unstaged : s.boot.staging = none) {h : FwHeader} {n : Nat}
    (header : s.fwHeaderOk h = true) (least : 512 ≤ n) (most : n ≤ 4094) (fits : n ≤ h.length) : execFwBegin q h n s =
      .next ((s.portHeard.setStaging (some { path := 2, hdr := h, pieces := [(0, n)], at_ := s.now })).smiliAnswer q 0 []) := by
  refine (State.smili_permitted serves (every_lifecycle life) ?_ : execFwBegin q h n s = _)
  have none_ : s.portHeard.boot.staging = none := unstaged
  have ok : s.portHeard.fwHeaderOk h = true := header
  have ready : s.portHeard.boot.phase ≠ .bisque := fun e => by
    have bisque := serves.ready.symm.trans e
    cases bisque
  dsimp only
  rw [if_neg (by omega), if_neg (by simp [none_]), if_neg (by simp [ok]), if_pos ready]
  rfl

theorem execFwAbort_none (serves : s.Serves q) (life : s.lifecycle ≤ 3) (unstaged : s.boot.staging = none) :
    execFwAbort q s = .next (s.portHeard.smiliAnswer q 9 []) :=
  (State.smili_permitted serves (every_lifecycle life) (by rw [State.portSession_none unstaged]) : execFwAbort q s = _)

theorem execFwChunk_none (serves : s.Serves q) (life : s.lifecycle ≤ 3) (unstaged : s.boot.staging = none) {o n : Nat} :
    execFwChunk q o n s = .next (s.portHeard.smiliAnswer q 9 []) :=
  (State.smili_permitted serves (every_lifecycle life) (by rw [State.portSession_none unstaged]) : execFwChunk q o n s = _)

theorem execFwAbort_staged (serves : s.Serves q) (life : s.lifecycle ≤ 3) (staged : s.boot.staging = some x) (path : x.path = 2) :
    execFwAbort q s = .next ((s.portHeard.setStaging none).smiliAnswer q 0 []) :=
  (State.smili_permitted serves (every_lifecycle life) (by rw [State.portSession_of staged path]) : execFwAbort q s = _)

theorem execFwChunk_next (serves : s.Serves q) (life : s.lifecycle ≤ 3) (staged : s.boot.staging = some x) (path : x.path = 2) {n : Nat}
    (short : n ≤ 4090) (fits : (x.pieces.map (·.2)).sum + n ≤ x.hdr.length) :
    execFwChunk q (x.pieces.map (·.2)).sum n s = .next ((s.portHeard.setStaging (some
      { x with pieces := x.pieces ++ [((x.pieces.map (·.2)).sum, n)], at_ := s.now })).smiliAnswer q 0 []) := by
  refine (State.smili_permitted serves (every_lifecycle life) ?_ : execFwChunk q _ n s = _)
  rw [State.portSession_of staged path]
  dsimp only
  rw [if_neg (by simp), if_neg (by omega)]
  rfl

theorem execFwChunk_gap (serves : s.Serves q) (life : s.lifecycle ≤ 3) (staged : s.boot.staging = some x) (path : x.path = 2) {o n : Nat}
    (gap : o ≠ (x.pieces.map (·.2)).sum) : execFwChunk q o n s = .next (s.portHeard.smiliAnswer q 9 []) := by
  refine (State.smili_permitted serves (every_lifecycle life) ?_ : execFwChunk q o n s = _)
  rw [State.portSession_of staged path]
  dsimp only
  rw [if_pos gap]

/-- A commit of a complete image answers what writing it gives. -/
theorem execFwCommit_complete (serves : s.Serves q) (life : s.lifecycle ≤ 3) (staged : s.boot.staging = some x) (path : x.path = 2)
    (known : k = 1 ∨ k = 2) (other : k ≠ s.boot.running) (action : a ≤ 1) (complete : x.complete = true) :
    execFwCommit q k a c s = (let r := s.portHeard.commitStaged 2 k (decide (a = 1)) c
      .next (r.2.smiliAnswer q (if r.1 = Status.success then 0 else if r.1 = 0x113 then 7 else 8) [])) := by
  refine (State.smili_permitted serves (every_lifecycle life) ?_ : execFwCommit q k a c s = _)
  have ready : s.portHeard.boot.phase ≠ .bisque := fun e => by
    have bisque := serves.ready.symm.trans e
    cases bisque
  have stays : k ≠ s.portHeard.boot.running := other
  rw [State.portSession_of staged path]
  dsimp only
  rw [if_neg ready, if_neg (show k ≠ 0 by omega), if_neg (by simp [stays]; omega), if_neg (by simp [complete])]

theorem State.commitStaged_of (staged : s.boot.staging = some x) (path : x.path = 2) (complete : x.complete = true)
    (fresh : s.fwCounter ≤ x.hdr.rollback) {trial : Bool} : s.portHeard.commitStaged 2 k trial c =
      if s.fwChainOk x.hdr c = true then (0, (s.portHeard.setStaging none).writeSlot k x.hdr c trial)
      else (0x107, s.portHeard.setStaging none) := by
  have mine : (s.portHeard.boot.staging.filter fun (x : Staging) => decide (x.path = 2)) = some x :=
    State.portSession_of staged path
  have counter : s.portHeard.fwCounter = s.fwCounter := rfl
  have chain : s.portHeard.fwChainOk x.hdr c = s.fwChainOk x.hdr c := rfl
  unfold State.commitStaged
  rw [mine]
  dsimp only
  rw [if_neg (by simp [complete]), counter, if_neg (Nat.not_lt_of_le fresh), chain]
  cases s.fwChainOk x.hdr c
  · rfl
  · rfl

end

/-! ### Tokens, OTP and the lifecycle over the port -/

section

variable {p k r m : Nat} {token : SigBlock}

theorem State.useToken_ok (accepted : s.tokenOk p token = true) :
    s.portHeard.useToken p token = some { s.portHeard with boot := { s.portHeard.boot with nonce := none } } :=
  if_pos accepted

theorem State.useToken_bad (refused : s.tokenOk p token = false) : s.portHeard.useToken p token = none :=
  if_neg (ne_true_of_eq_false refused)

theorem states_contains_of_mem {l : List Nat} {n : Nat} (listed : n ∈ l) : l.contains n = true := List.contains_iff_mem.2 listed

theorem execTrace_of (serves : s.Serves q) (life : s.lifecycle ≤ 3) {on : Bool} :
    let traced := fun (t : State) => ({ t with boot := { t.boot with tracing := on } } : State)
    let u := s.portHeard
    (s.lifecycle ≠ 2 → execTrace q token on s = .next ((traced u).smiliAnswer q 0 [])) ∧
      (s.lifecycle = 2 → s.tokenOk forDebug token = true →
        execTrace q token on s = .next ((traced { u with boot := { u.boot with nonce := none } }).smiliAnswer q 0 [])) ∧
      (s.lifecycle = 2 → s.tokenOk forDebug token = false → execTrace q token on s = .next (u.smiliAnswer q 8 [])) := by
  have always := every_lifecycle life
  refine ⟨fun free => (State.smili_permitted serves always (if_pos free) : execTrace q token on s = _),
    fun production accepted => (State.smili_permitted serves always ?_ : execTrace q token on s = _),
    fun production refused => (State.smili_permitted serves always ?_ : execTrace q token on s = _)⟩
  · refine (if_neg (not_not.2 production)).trans ?_
    rw [State.useToken_ok accepted]
  · refine (if_neg (not_not.2 production)).trans ?_
    rw [State.useToken_bad refused]

theorem execDebugUnlock_of (serves : s.Serves q) (life : s.lifecycle ≤ 3) :
    let opened := fun (t : State) => ({ t with boot := { t.boot with unlocked := true } } : State)
    let u := s.portHeard
    (s.lifecycle ≠ 2 → execDebugUnlock q token s = .next ((opened u).smiliAnswer q 0 [])) ∧
      (s.lifecycle = 2 → s.tokenOk forDebug token = true → execDebugUnlock q token s =
        .next (((opened { u with boot := { u.boot with nonce := none } }).zeroize 0).smiliAnswer q 0 [])) ∧
      (s.lifecycle = 2 → s.tokenOk forDebug token = false → execDebugUnlock q token s = .next (u.smiliAnswer q 8 [])) := by
  have always := every_lifecycle life
  refine ⟨fun free => (State.smili_permitted serves always (if_pos free) : execDebugUnlock q token s = _),
    fun production accepted => (State.smili_permitted serves always ?_ : execDebugUnlock q token s = _),
    fun production refused => (State.smili_permitted serves always ?_ : execDebugUnlock q token s = _)⟩
  · refine (if_neg (not_not.2 production)).trans ?_
    rw [State.useToken_ok accepted]
  · refine (if_neg (not_not.2 production)).trans ?_
    rw [State.useToken_bad refused]

theorem execOtpRead_within (serves : s.Serves q) (life : s.lifecycle ≤ 3) (within : r ≤ 63) : execOtpRead q r s =
    .next (s.portHeard.smiliAnswer q 0
      (if r = 1 ∨ r = 3 ∨ r = 5 ∨ r = 7 then le 4 (bits (s.otpRow r) 384 32) else le 64 (s.otpRow r))) := by
  have secret : (keyRows.contains r = true) = (r = 1 ∨ r = 3 ∨ r = 5 ∨ r = 7) := by simp [keyRows]
  refine (State.smili_permitted serves (every_lifecycle life) ?_ : execOtpRead q r s = _)
  refine (if_neg (Nat.not_lt_of_le within)).trans ?_
  simp only [secret]
  rfl

/-- In Blank the rows of the manufacturer are programmed as asked. -/
theorem execOtpProgram_blank (serves : s.Serves q) (blank : s.lifecycle = 0) (row : r = 0 ∨ r = 2 ∨ r = 6)
    (unlocked : s.otpRefused r = false) (up : s.trail.dumpMode = false) (small : m < 2 ^ 512) :
    execOtpProgram q r m 512 s = .next ((s.portHeard.programOtp r m).smiliAnswer q 0 []) := by
  refine (State.smili_permitted serves (states_contains_of_mem (by simp [blank])) ?_ : execOtpProgram q r m 512 s = _)
  have life : s.portHeard.lifecycle = 0 := blank
  have open_ : s.portHeard.otpRefused r = false := unlocked
  have calm : s.portHeard.trail.dumpMode = false := up
  have listed : [0, 2, 6].contains r = true := by simpa using row
  have whole : maskBelow (m % 2 ^ 512) 512 = m % 2 ^ 512 := Nat.mod_mod ..
  dsimp only
  rw [if_pos life, listed, open_, calm, if_neg (by decide), if_neg (by decide), if_pos whole, Nat.mod_eq_of_lt small]

theorem execOtpProgram_late (serves : s.Serves q) (late : 2 ≤ s.lifecycle) {f : Nat} :
    execOtpProgram q r m f s = .next (s.portHeard.smiliAnswer q 0x000A []) :=
  (State.smili_refused serves (by simp; omega) : execOtpProgram q r m f s = _)

theorem execCertWrite_of (serves : s.Serves q) {o n : Nat} :
    (s.lifecycle = 1 → n ≤ 4090 → o + n ≤ 12582912 → execCertWrite q o n s = .next (State.smiliAnswer
      { s.portHeard with boot := { s.portHeard.boot with certBytes := max s.portHeard.boot.certBytes (o + n) } } q 0 [])) ∧
      (s.lifecycle ≠ 1 → execCertWrite q o n s = .next (s.portHeard.smiliAnswer q 0x000A [])) :=
  ⟨fun provisioned short fits => (State.smili_permitted serves (states_contains_of_mem (by simp [provisioned])) (if_neg (by omega)) :
      execCertWrite q o n s = _),
    fun other => (State.smili_refused serves (by simpa using other) : execCertWrite q o n s = _)⟩

/-- The key rows as PROVISION_KEYS writes them, and the lifecycle with them. -/
def State.provisioned (s : State) : State :=
  let root := s.newKey
  let identity := root.2.newKey
  let s := ((identity.2.programOtp 1 (keyRow root.1)).programOtp 5 (keyRow root.1)).programOtp 3 (keyRow identity.1)
  (s.programOtp 7 (keyRow identity.1)).programOtp 13 0xFF

/-- Drawing a key leaves the OTP. -/
theorem State.otpRow_newKey : s.newKey.2.otpRow k = s.otpRow k := rfl

theorem State.otpRow_provisioned (others : k ≠ 1 ∧ k ≠ 3 ∧ k ≠ 5 ∧ k ≠ 7 ∧ k ≠ 13) : s.provisioned.otpRow k = s.otpRow k := by
  obtain ⟨one, three, five, seven, thirteen⟩ := others
  unfold State.provisioned
  dsimp only
  rw [State.otpRow_programOtp_ne thirteen, State.otpRow_programOtp_ne seven, State.otpRow_programOtp_ne three,
    State.otpRow_programOtp_ne five, State.otpRow_programOtp_ne one, State.otpRow_newKey, State.otpRow_newKey]

theorem State.lifecycle_of_provisioned (blank : s.lifecycle = 0) : s.provisioned.lifecycle = 1 := by
  refine State.lifecycle_provisioned blank ?_
  unfold State.provisioned
  dsimp only
  rw [State.otpRow_programOtp (by decide) (lowMask (by decide)), State.otpRow_programOtp_ne (by decide), State.otpRow_programOtp_ne (by decide),
    State.otpRow_programOtp_ne (by decide), State.otpRow_programOtp_ne (by decide), State.otpRow_newKey, State.otpRow_newKey]

/-- With the manufacturer's rows programmed, PROVISION_KEYS fails when the DRBG does, and else writes the key rows. -/
theorem execProvisionKeys_of (serves : s.Serves q) (blank : s.lifecycle = 0) (row0 : s.otpRow 0 ≠ 0) (row2 : s.otpRow 2 ≠ 0)
    (row6 : s.otpRow 6 ≠ 0) (unlocked : ∀ r ∈ [1, 3, 5, 7], s.otpRefused r = false) :
    (s.glaze.drbgFail = true → execProvisionKeys q s = .next (s.portHeard.smiliAnswer q 1 [])) ∧
      (s.trail.dumpMode = false → s.glaze.drbgFail = false → execProvisionKeys q s = .next (s.portHeard.provisioned.smiliAnswer q 0
        (be 96 (Config.kdf s.portHeard.provisioned.identitySeed [384])))) := by
  have permitted : ([0] : List Nat).contains s.lifecycle = true := states_contains_of_mem (by simp [blank])
  have rows : ¬ (s.otpRow 0 = 0 ∨ s.otpRow 2 = 0 ∨ s.otpRow 6 = 0) := by simp [row0, row2, row6]
  have open_ : ¬ [1, 3, 5, 7].any s.portHeard.otpRefused = true := fun locked => by
    obtain ⟨r, listed, refused⟩ := List.any_eq_true.1 locked
    exact Bool.false_ne_true ((unlocked r listed).symm.trans refused)
  refine ⟨fun fails => (State.smili_permitted serves permitted ?_ : execProvisionKeys q s = _),
    fun up works => (State.smili_permitted serves permitted ?_ : execProvisionKeys q s = _)⟩
  · exact (if_neg rows).trans ((if_neg open_).trans (if_pos fails))
  · exact (if_neg rows).trans ((if_neg open_).trans ((if_neg (ne_true_of_eq_false works)).trans (if_neg (ne_true_of_eq_false up))))

/-- From Provisioned to Production, which takes a certificate and locks the rows. -/
theorem execLifecycleAdvance_production (serves : s.Serves q) (provisioned : s.lifecycle = 1) (unlocked : s.otpRefused 13 = false)
    (up : s.trail.dumpMode = false) : execLifecycleAdvance q 2 token s =
      if s.boot.certBytes = 0 then .next (s.portHeard.smiliAnswer q 9 [])
      else .next (((s.portHeard.programOtp 13 0xFF00).programOtp 14 rowLocks).smiliAnswer q 0 []) := by
  have permitted : [1, 2].contains s.lifecycle = true := states_contains_of_mem (by simp [provisioned])
  have next : ¬ 2 ≠ s.lifecycle + 1 := by omega
  split
  next bare =>
    refine (State.smili_permitted serves permitted ?_ : execLifecycleAdvance q 2 token s = _)
    exact (if_neg next).trans ((if_neg (ne_true_of_eq_false unlocked)).trans ((if_neg (ne_true_of_eq_false up)).trans
      ((if_pos provisioned).trans (if_pos bare))))
  next certified =>
    refine (State.smili_permitted serves permitted ?_ : execLifecycleAdvance q 2 token s = _)
    exact (if_neg next).trans ((if_neg (ne_true_of_eq_false unlocked)).trans ((if_neg (ne_true_of_eq_false up)).trans
      ((if_pos provisioned).trans (if_neg certified))))

theorem State.lifecycle_locked (provisioned : s.lifecycle = 1) :
    let t := (s.programOtp 13 0xFF00).programOtp 14 rowLocks
    t.lifecycle = 2 ∧ ∀ r, r ≤ 8 → t.rowLocked r = true := by
  refine ⟨State.lifecycle_production provisioned ?_, fun r within => ?_⟩
  · rw [State.otpRow_programOtp_ne (by decide), State.otpRow_programOtp (by decide) (lowMask (by decide))]
  · unfold State.rowLocked
    rw [State.otpRow_programOtp rowLocks_pos rowLocks_lt, bit_or, bit_rowLocks r (by omega)]
    simp [within]

/-- From Production to Returned, which takes a return token. -/
theorem execLifecycleAdvance_returned (serves : s.Serves q) (production : s.lifecycle = 2) (unlocked : s.otpRefused 13 = false)
    (up : s.trail.dumpMode = false) :
    (s.tokenOk forReturn token = false → execLifecycleAdvance q 3 token s = .next (s.portHeard.smiliAnswer q 8 [])) ∧
      (s.tokenOk forReturn token = true → execLifecycleAdvance q 3 token s = .next ((State.programOtp
        { s.portHeard with boot := { s.portHeard.boot with nonce := none } } 13 0xFF0000).smiliAnswer q 0 [])) := by
  have permitted : [1, 2].contains s.lifecycle = true := states_contains_of_mem (by simp [production])
  have next : ¬ 3 ≠ s.lifecycle + 1 := by omega
  have later : ¬ s.lifecycle = 1 := by omega
  refine ⟨fun refused => (State.smili_permitted serves permitted ?_ : execLifecycleAdvance q 3 token s = _),
    fun accepted => (State.smili_permitted serves permitted ?_ : execLifecycleAdvance q 3 token s = _)⟩
  · refine (if_neg next).trans ((if_neg (ne_true_of_eq_false unlocked)).trans ((if_neg (ne_true_of_eq_false up)).trans
      ((if_neg later).trans ?_)))
    rw [State.useToken_bad refused]
  · refine (if_neg next).trans ((if_neg (ne_true_of_eq_false unlocked)).trans ((if_neg (ne_true_of_eq_false up)).trans
      ((if_neg later).trans ?_)))
    rw [State.useToken_ok accepted]

theorem State.lifecycle_programmed_returned : (s.programOtp 13 0xFF0000).lifecycle = 3 :=
  State.lifecycle_returned (State.otpRow_programOtp (by decide) (lowMask (by decide)))

/-- The nonce of a challenge, and the state that keeps it. -/
def State.challenged (s : State) : State :=
  { s.newKey.2 with boot := { s.newKey.2.boot with nonce := some (s.newKey.1 % 2 ^ 256) } }

theorem execDebugChallenge_failed (serves : s.Serves q) (life : s.lifecycle ≤ 3) (fails : s.glaze.drbgFail = true) :
    execDebugChallenge q s = .next (s.portHeard.smiliAnswer q 1 []) :=
  (State.smili_permitted serves (every_lifecycle life) (if_pos fails) : execDebugChallenge q s = _)

theorem execDebugChallenge_drawn (serves : s.Serves q) (life : s.lifecycle ≤ 3) (works : s.glaze.drbgFail = false) :
    execDebugChallenge q s = .next (s.portHeard.challenged.smiliAnswer q 0 (le 32 (s.portHeard.newKey.1 % 2 ^ 256))) :=
  (State.smili_permitted serves (every_lifecycle life) (if_neg (ne_true_of_eq_false works)) : execDebugChallenge q s = _)

end

/-- Settles O55, request by request: each is executed on the state that has heard it. -/
theorem serviceRows : Obligations.ServiceRows := by
  unfold Obligations.ServiceRows
  refine ⟨fun q b s up => ⟨execSmiliBadFrame_up up, fun r known => execServicePortAutobaud_known up known, execServicePortAutobaud_unknown,
    fun quiet => congrArg _ (if_pos quiet), fun heard => congrArg _ (if_neg (Nat.not_le_of_lt heard)), fun l last =>
      ⟨congrArg _ (State.smili_again up last), congrArg _ (State.smili_again up last), execServiceReset_again up last⟩⟩, ?_⟩
  intro q s up fresh ready free life u answers
  have serves : s.Serves q := ⟨up, fresh, ready, free⟩
  have always := every_lifecycle life
  refine ⟨?_, ?_, ?_, ?_, ?_, ?_, ?_, ?_, ?_, ?_, ?_, ?_, ?_, ?_, ?_, ?_, ?_, ?_, ?_, ?_⟩
  · exact (State.smili_permitted serves always rfl : execIdentifySmili q s = _)
  · exact (State.smili_permitted serves always rfl : execBootTimes q s = _)
  · exact fun a n => (State.smili_permitted serves always rfl : execLogRead q a n s = _)
  · exact fun o n => ⟨fun out => (State.smili_permitted serves always (if_pos out) : execLogAreaRead q o n s = _),
      fun within short => (State.smili_permitted serves always (if_neg (by omega)) : execLogAreaRead q o n s = _)⟩
  · exact fun k kind => execServiceReset_fresh serves life kind
  · exact fun h n unstaged header least most fits => execFwBegin_new serves life unstaged header least most fits
  · exact fun unstaged => ⟨execFwAbort_none serves life unstaged, fun o n => execFwChunk_none serves life unstaged⟩
  · refine fun x staged path => ⟨execFwAbort_staged serves life staged path, fun n short fits => execFwChunk_next serves life staged path short fits,
      fun o n gap => execFwChunk_gap serves life staged path gap, fun k a c known other action complete fresh => ⟨fun signed => ?_, fun unsigned => ?_⟩⟩
    · refine (execFwCommit_complete serves life staged path known other action complete).trans ?_
      rw [State.commitStaged_of staged path complete fresh, if_pos signed]
      rfl
    · refine (execFwCommit_complete serves life staged path known other action complete).trans ?_
      rw [State.commitStaged_of staged path complete fresh, if_neg (ne_true_of_eq_false unsigned)]
      rfl
  · intro op h o n l c r
    refine (State.smili_permitted serves always ?_ : execCfgMsg q op h o n l c s = _)
    exact if_neg (by simp [show s.portHeard.boot.phase = .ready from ready])
  · exact fun k on => execTrace_of serves life
  · exact fun r within => execOtpRead_within serves life within
  · refine fun r m blank row unlocked calm pos small => ⟨execOtpProgram_blank serves blank row unlocked calm small, ?_, ?_⟩
    · exact State.otpRow_programOtp pos small
    · exact fun k ne => State.otpRow_programOtp_ne ne
  · exact fun r m f late => execOtpProgram_late serves late
  · intro blank row0 row2 row6 unlocked
    obtain ⟨failed, written⟩ := execProvisionKeys_of serves blank row0 row2 row6 unlocked
    refine ⟨failed, fun calm works => ⟨_, State.lifecycle_of_provisioned (s := s.portHeard) blank, written calm works,
      fun k one three five seven thirteen => ?_⟩⟩
    exact State.otpRow_provisioned ⟨one, three, five, seven, thirteen⟩
  · exact fun o n => execCertWrite_of serves
  · intro k provisioned unlocked calm
    have run := execLifecycleAdvance_production (token := k) serves provisioned unlocked calm
    exact ⟨fun bare => run.trans (if_pos bare),
      fun certified => ⟨_, run.trans (if_neg certified), State.lifecycle_locked (s := s.portHeard) provisioned⟩⟩
  · intro k production unlocked calm
    obtain ⟨refused, accepted⟩ := execLifecycleAdvance_returned (token := k) serves production unlocked calm
    exact ⟨refused, fun ok => ⟨_, accepted ok, State.lifecycle_programmed_returned, rfl⟩⟩
  · exact fun fails => execDebugChallenge_failed serves life fails
  · exact fun works => ⟨_, s.portHeard.challenged, execDebugChallenge_drawn serves life works, rfl, Nat.mod_lt _ (by decide), rfl, rfl⟩
  · exact fun k => execDebugUnlock_of serves life

end Sys2Proof.Machine
end

section
/-! Proofs: stored layouts (spec 07, 08, 09, 11, 19). -/

namespace Sys2Proof.Machine

set_option Elab.async false

/-! ### Numbers in little-endian bytes -/

section

variable {n v off k : Nat} {a b l : List Nat}

@[simp] theorem le_length : (le n v).length = n := by simp [le]

@[simp] theorem be_length : (be n v).length = n := by simp [be]

@[simp] theorem padTo_length : (padTo n l).length = n := by
  simp only [padTo, List.length_append, List.length_take, List.length_replicate]
  omega

theorem le_succ : le (n + 1) v = v % 256 :: le n (v / 256) := by
  unfold le
  rw [List.range_succ_eq_map, List.map_cons, List.map_map]
  refine congrArg₂ _ (by simp) (List.map_congr_left fun i _ => ?_)
  simp [Nat.pow_succ', Nat.div_div_eq_div_mul]

/-- The number that `n` bytes hold. -/
theorem ofLe_le : ofLe (le n v) = v % 256 ^ n := by
  induction n generalizing v with
  | zero => simp [le, ofLe, Nat.mod_one]
  | succ n ih =>
    have split : ofLe (le (n + 1) v) = v % 256 % 256 + 256 * ofLe (le n (v / 256)) := by
      rw [le_succ]
      rfl
    rw [split, ih, Nat.mod_mod, Nat.pow_succ', Nat.mod_mul]

theorem pow_bytes : 256 ^ n = 2 ^ (8 * n) := by
  rw [Nat.pow_mul]

theorem slice_append_left (within : off + k ≤ a.length) : ((a ++ b).drop off).take k = (a.drop off).take k := by
  rw [List.drop_append_of_le_length (by omega), List.take_append_of_le_length (by rw [List.length_drop]; omega)]

theorem slice_append_right (beyond : a.length ≤ off) : ((a ++ b).drop off).take k = (b.drop (off - a.length)).take k := by
  rw [List.drop_append, List.drop_eq_nil_of_le beyond, List.nil_append]

theorem leAt_append_left (within : off + k ≤ a.length) : leAt (a ++ b) off k = leAt a off k := by
  unfold leAt
  rw [slice_append_left within]

theorem leAt_append_right (beyond : a.length ≤ off) : leAt (a ++ b) off k = leAt b (off - a.length) k := by
  unfold leAt
  rw [slice_append_right beyond]

/-- A number stored whole reads back, as far as its bytes go. -/
theorem leAt_le : leAt (le n v) 0 n = v % 2 ^ (8 * n) := by
  unfold leAt
  rw [List.drop_zero, List.take_of_length_le (Nat.le_of_eq le_length), ofLe_le, pow_bytes]

/-- A number stored whole, the most significant byte first, reads back in reverse. -/
theorem ofLe_reverse_be : ofLe (((be n v).drop 0).take n).reverse = v % 2 ^ (8 * n) := by
  have whole : ((be n v).drop 0).take n = be n v := List.take_of_length_le (Nat.le_of_eq be_length)
  rw [whole, be, List.reverse_reverse, ofLe_le, pow_bytes]

theorem take_padTo (within : k ≤ l.length) (room : k ≤ n) : (padTo n l).take k = l.take k := by
  unfold padTo
  rw [List.take_append_of_le_length (by rw [List.length_take]; omega), List.take_take, Nat.min_eq_left room]

theorem leAt_eq_take : leAt l off k = ofLe ((l.take (off + k)).drop off) := by
  unfold leAt
  rw [List.drop_take, Nat.add_sub_cancel_left]

theorem leAt_padTo (within : off + k ≤ l.length) (room : off + k ≤ n) : leAt (padTo n l) off k = leAt l off k := by
  rw [leAt_eq_take, take_padTo within room, ← leAt_eq_take]

/-- A padded list that fits begins with what was padded. -/
theorem padTo_of_le (fits : l.length ≤ n) : padTo n l = l ++ List.replicate (n - l.length) 0 := by
  unfold padTo
  rw [List.take_of_length_le fits]

end

/-! ### The page tag -/

section

variable {t : PageTag} {gcm : Nat}

theorem PageTag.front_length : (t.front gcm).length = 60 := by simp [PageTag.front]

theorem PageTag.bytes_length : (t.bytes gcm).length = 64 := by simp [PageTag.bytes, PageTag.front_length]

theorem PageTag.leAt_bytes {off k : Nat} (within : off + k ≤ 60) : leAt (t.bytes gcm) off k = leAt (t.front gcm) off k :=
  leAt_append_left (by rwa [PageTag.front_length])

theorem PageTag.bytes_fields : let b := t.bytes gcm
    leAt b 0 16 = gcm % 2 ^ 128 ∧ leAt b 16 8 = t.wseq % 2 ^ 64 ∧
      leAt b 24 6 = (if kindBlank t.kind then 0 else t.lba) % 2 ^ 48 ∧
      leAt b 30 2 = ((t.nsid - 1) % 1024 + 1024 * t.kind) % 2 ^ 16 ∧
      leAt b 32 4 = t.zone % 2 ^ 32 ∧ leAt b 36 6 = t.aseq % 2 ^ 48 ∧ leAt b 42 1 = t.pieceLen % 2 ^ 8 ∧
      leAt b 43 1 = t.pieceIdx % 2 ^ 8 := by
  refine ⟨?_, ?_, ?_, ?_, ?_, ?_, ?_, ?_⟩
  all_goals
    rw [PageTag.leAt_bytes (by decide), PageTag.front]
    simp (disch := simp) only [leAt_append_left, leAt_append_right, List.length_append, le_length, Nat.reduceAdd, Nat.reduceSub, leAt_le,
      Nat.reduceMul]

theorem kindBlank_iff {k : Nat} : kindBlank k = true ↔ k = 1 ∨ k = 2 ∨ k = 6 ∨ k = 7 := by
  simp [kindBlank]

/-- The namespace and the kind share 16 bits. -/
theorem nsid_kind {n k : Nat} (small : k < 64) :
    (n % 1024 + 1024 * k) % 2 ^ 16 % 1024 = n % 1024 ∧ (n % 1024 + 1024 * k) % 2 ^ 16 / 1024 = k := by
  omega

/-- The last four bytes are the CRC of what stands before them. -/
theorem leAt_crc {l : List Nat} {n : Nat} (len : l.length = n) :
    leAt (l ++ le 4 (crc32c l)) n 4 = crc32c ((l ++ le 4 (crc32c l)).take n) % 2 ^ 32 := by
  rw [List.take_left' len, leAt_append_right (Nat.le_of_eq len), len, Nat.sub_self, leAt_le]

end

/-! ### Codewords -/

section

variable {c : Codeword}

theorem Codeword.front_length : c.front.length = 4224 := by
  simp [Codeword.front, PageTag.bytes_length]

theorem Codeword.bytes_length : c.bytes.length = 4512 := by
  simp [Codeword.bytes, Codeword.front_length]

theorem Codeword.tag_bytes : (c.bytes.drop 4160).take 64 = c.tag.bytes c.gcm := by
  have before : (le 4096 c.data ++ le 64 c.host).length = 4160 := by simp
  unfold Codeword.bytes Codeword.front
  rw [List.append_assoc, List.drop_left' before, List.take_left' PageTag.bytes_length]

theorem Codeword.leAt_data : leAt c.bytes 0 4096 = c.data % 256 ^ 4096 := by
  unfold Codeword.bytes Codeword.front
  rw [leAt_append_left (by simp), leAt_append_left (by simp), leAt_append_left (by simp)]
  exact leAt_le.trans (by rw [pow_bytes])

theorem Codeword.leAt_host : leAt c.bytes 4096 64 = c.host % 256 ^ 64 := by
  unfold Codeword.bytes Codeword.front
  rw [leAt_append_left (by simp; omega), leAt_append_left (by simp), leAt_append_right (by simp), le_length, Nat.sub_self]
  exact leAt_le.trans (by rw [pow_bytes])

end

/-! ### Trailers and segments -/

section

variable {t : Trailer} {n z : Nat}

/-- The head of a trailer copy (Table 7.5), before its digests and holes. -/
def Trailer.head (t : Trailer) (nsid zone : Nat) : List Nat :=
  [0x43, 0x5A, 0x54, 0x52] ++ le 2 1 ++ le 2 (b2n t.chunks + 2 * b2n (decide (1024 < t.holes.length)) + 4 * b2n t.mismatch) ++
    le 4 nsid ++ le 4 zone ++ le 8 (zone * zoneBlocks) ++ le 8 t.dataEnd ++ be 32 t.digest ++ le 8 t.seqFirst ++ le 8 t.seqLast ++
    le 4 t.holes.length ++ le 4 t.chunkDigests.length

theorem Trailer.head_length : (t.head n z).length = 88 := by simp [Trailer.head]

theorem Trailer.front_take {k : Nat} (within : k ≤ 88) : (t.front n z).take k = (t.head n z).take k := by
  have head : 88 = (t.head n z).length := Trailer.head_length.symm
  unfold Trailer.front
  dsimp only
  rw [take_padTo (by simp only [List.length_append, padTo_length]; omega) (by omega),
    List.append_assoc, List.take_append_of_le_length (by rw [padTo_length]; omega)]
  exact take_padTo (within.trans (Nat.le_of_eq head)) (by omega)

theorem Trailer.front_length : (t.front n z).length = 65532 := padTo_length

theorem Trailer.bytes_take {k : Nat} (within : k ≤ 88) : (t.bytes n z).take k = (t.head n z).take k := by
  unfold Trailer.bytes
  rw [List.take_append_of_le_length (by rw [Trailer.front_length]; omega), Trailer.front_take within]

theorem Trailer.leAt_bytes {off k : Nat} (within : off + k ≤ 88) : leAt (t.bytes n z) off k = leAt (t.head n z) off k := by
  rw [leAt_eq_take, Trailer.bytes_take within, ← leAt_eq_take]

theorem Trailer.head_fields : leAt (t.head n z) 8 4 = n % 2 ^ 32 ∧ leAt (t.head n z) 12 4 = z % 2 ^ 32 := by
  refine ⟨?_, ?_⟩
  all_goals
    unfold Trailer.head
    simp (disch := simp) only [leAt_append_left, leAt_append_right, List.length_append, List.length_cons, List.length_nil, le_length,
      Nat.reduceAdd, Nat.reduceSub, leAt_le, Nat.reduceMul]

variable {s : State} {f : Flush} {k : Nat} {recs : List Nat}

/-- The head of a Trail segment (Table 8.6), before its records. -/
def State.segmentHead (s : State) (f : Flush) (k n : Nat) (recs : List Nat) : List Nat :=
  [0x43, 0x5A, 0x54, 0x4C] ++ le 2 1 ++ le 2 (s.flushFlags f) ++ le 8 (f.first + k) ++ le 8 f.seq ++ le 8 s.trail.ckptSeq ++
    le 2 k ++ le 2 n ++ le 4 recs.length

theorem State.segmentHead_length : (s.segmentHead f k n recs).length = 40 := by simp [State.segmentHead]

theorem State.segmentFront_length : (s.segmentFront f k n recs).length = 65532 := padTo_length

theorem State.segmentBytes_take {j : Nat} (within : j ≤ 40) : (s.segmentBytes f k n recs).take j = (s.segmentHead f k n recs).take j := by
  have head : 40 = (s.segmentHead f k n recs).length := State.segmentHead_length.symm
  unfold State.segmentBytes
  rw [List.take_append_of_le_length (by rw [State.segmentFront_length]; omega)]
  unfold State.segmentFront
  rw [take_padTo (by simp only [List.length_append, padTo_length]; omega) (by omega),
    List.take_append_of_le_length (by rw [padTo_length]; omega)]
  exact take_padTo (within.trans (Nat.le_of_eq head)) (by omega)

theorem State.leAt_segmentBytes {off j : Nat} (within : off + j ≤ 40) :
    leAt (s.segmentBytes f k n recs) off j = leAt (s.segmentHead f k n recs) off j := by
  rw [leAt_eq_take, State.segmentBytes_take within, ← leAt_eq_take]

theorem State.segmentHead_fields : let b := s.segmentHead f k n recs
    leAt b 8 8 = (f.first + k) % 2 ^ 64 ∧ leAt b 32 2 = k % 2 ^ 16 ∧ leAt b 34 2 = n % 2 ^ 16 ∧ leAt b 36 4 = recs.length % 2 ^ 32 := by
  refine ⟨?_, ?_, ?_, ?_⟩
  all_goals
    unfold State.segmentHead
    simp (disch := simp) only [leAt_append_left, leAt_append_right, List.length_append, List.length_cons, List.length_nil, le_length,
      Nat.reduceAdd, Nat.reduceSub, leAt_le, Nat.reduceMul]

/-- The records follow the 64 bytes of the head. -/
theorem State.segmentBytes_recs (fits : recs.length ≤ 65468) : ((s.segmentBytes f k n recs).drop 64).take recs.length = recs := by
  unfold State.segmentBytes State.segmentFront
  rw [padTo_of_le (by simp only [List.length_append, padTo_length]; omega), List.append_assoc, List.append_assoc,
    List.drop_left' padTo_length, List.take_left' rfl]

end

/-! ### Descriptors and bursts -/

section

variable {d : GDesc}

theorem descriptorBytes_length : (descriptorBytes d).length = 64 := by simp [descriptorBytes]

theorem leAt_byte {b : Nat} {l : List Nat} : leAt (b :: l) 0 1 = b % 256 := by
  simp [leAt, ofLe]

theorem descriptorBytes_fields : let b := descriptorBytes d
    leAt b 0 1 = d.op % 256 ∧ leAt b 2 2 = d.slotA % 2 ^ 16 ∧ leAt b 6 2 = d.slotB % 2 ^ 16 ∧ leAt b 16 8 = d.src % 2 ^ 64 ∧
      leAt b 24 8 = d.dst % 2 ^ 64 ∧ leAt b 32 8 = d.lba % 2 ^ 64 ∧ leAt b 40 4 = d.nsid % 2 ^ 32 ∧ leAt b 48 8 = d.wseq % 2 ^ 64 := by
  refine ⟨?_, ?_, ?_, ?_, ?_, ?_, ?_, ?_⟩
  all_goals
    unfold descriptorBytes
    simp (disch := simp) only [leAt_append_left, leAt_append_right, List.length_append, List.length_cons, List.length_nil, le_length,
      Nat.reduceAdd, Nat.reduceSub, leAt_le, Nat.reduceMul, leAt_byte, Nat.mod_mod]

variable {a : Nat} {l : List Nat} {p : Bool}

theorem burstCheck_length : (burstCheck a l p).length = 16 := by simp [burstCheck]

theorem leAt_burstCheck : leAt (burstCheck a l p) 12 1 = b2n p := by
  unfold burstCheck
  rw [leAt_append_right (by simp)]
  cases p
  · simp [leAt, ofLe, b2n]
  · simp [leAt, ofLe, b2n]

end

/-! ### Firmware headers -/

section

variable {x : Section} {h : FwHeader}

@[simp] theorem sectionBytes_length : (sectionBytes x).length = 64 := by simp [sectionBytes]

/-- A section's fields, each below its width, read back from its 64 bytes. -/
theorem sectionBytes_fields (offset : x.offset < 2 ^ 32) (length : x.length < 2 ^ 32) (digest : x.digest < 2 ^ 384) :
    leAt (sectionBytes x) 0 4 = x.offset ∧ leAt (sectionBytes x) 4 4 = x.length ∧
      ofLe (((sectionBytes x).drop 16).take 48).reverse = x.digest := by
  unfold sectionBytes
  refine ⟨?_, ?_, ?_⟩
  all_goals
    simp (disch := simp) only [leAt_append_left, leAt_append_right, slice_append_right, List.length_append, le_length, Nat.reduceAdd,
      Nat.reduceSub, leAt_le, Nat.reduceMul, ofLe_reverse_be]
  · exact Nat.mod_eq_of_lt offset
  · exact Nat.mod_eq_of_lt length
  · exact Nat.mod_eq_of_lt digest

theorem fwFront_length (magic : h.magic.length = 4) : (fwFront h).length = 508 := by
  simp only [fwFront, List.length_append, le_length, sectionBytes_length, List.length_replicate, magic]

theorem fwFront_take (magic : h.magic.length = 4) : (fwFront h).take 4 = h.magic := by
  unfold fwFront
  simp only [List.append_assoc]
  exact List.take_left' magic

/-- The header's numbers as its front holds them, and where its two sections stand (Table 19.9). -/
theorem fwFront_fields (magic : h.magic.length = 4) : let b := fwFront h
    leAt b 4 2 = h.format % 2 ^ 16 ∧ leAt b 6 2 = h.part % 2 ^ 16 ∧ leAt b 8 2 = h.steppings % 2 ^ 16 ∧
      leAt b 10 2 = h.release % 2 ^ 16 ∧ leAt b 12 4 = h.length % 2 ^ 32 ∧ leAt b 16 4 = h.rollback % 2 ^ 32 ∧
      leAt b 20 4 = h.flags % 2 ^ 32 ∧ leAt b 24 4 = h.build % 2 ^ 32 ∧ leAt b 28 4 = h.cfgFormat % 2 ^ 32 := by
  unfold fwFront
  refine ⟨?_, ?_, ?_, ?_, ?_, ?_, ?_, ?_, ?_⟩
  all_goals
    simp (disch := simp [magic]) only [leAt_append_left, leAt_append_right, List.length_append, le_length, magic, Nat.reduceAdd,
      Nat.reduceSub, leAt_le, Nat.reduceMul]

theorem fwFront_overlay (magic : h.magic.length = 4) {off k : Nat} (within : off + k ≤ 64) :
    ((fwFront h).drop (32 + off)).take k = ((sectionBytes h.overlay).drop off).take k := by
  unfold fwFront
  rw [slice_append_left, slice_append_left, slice_append_right]
  · simp only [List.length_append, le_length, magic, Nat.reduceAdd, Nat.add_sub_cancel_left]
  all_goals
    simp only [List.length_append, le_length, sectionBytes_length, magic]
    omega

theorem fwFront_control (magic : h.magic.length = 4) {off k : Nat} (within : off + k ≤ 64) :
    ((fwFront h).drop (96 + off)).take k = ((sectionBytes h.control).drop off).take k := by
  unfold fwFront
  rw [slice_append_left, slice_append_right]
  · simp only [List.length_append, le_length, sectionBytes_length, magic, Nat.reduceAdd, Nat.add_sub_cancel_left]
  all_goals
    simp only [List.length_append, le_length, sectionBytes_length, magic]
    omega

/-- Where a section's 64 bytes stand, its fields read back. -/
theorem section_of_bytes {l : List Nat} {o : Nat}
    (stands : ∀ off k, off + k ≤ 64 → (l.drop (o + off)).take k = ((sectionBytes x).drop off).take k)
    (offset : x.offset < 2 ^ 32) (length : x.length < 2 ^ 32) (digest : x.digest < 2 ^ 384) :
    ({ offset := leAt l o 4, length := leAt l (o + 4) 4, digest := ofLe ((l.drop (o + 16)).take 48).reverse } : Section) = x := by
  obtain ⟨offset', length', digest'⟩ := sectionBytes_fields offset length digest
  have first : leAt l o 4 = x.offset := (congrArg ofLe (stands 0 4 (by decide))).trans offset'
  have second : leAt l (o + 4) 4 = x.length := (congrArg ofLe (stands 4 4 (by decide))).trans length'
  have third : ofLe ((l.drop (o + 16)).take 48).reverse = x.digest := by
    rw [stands 16 48 (by decide)]
    exact digest'
  rw [first, second, third]

end

/-- Settles O58, layout by layout. -/
theorem storedLayouts : Obligations.StoredLayouts := by
  unfold Obligations.StoredLayouts
  refine ⟨fun c => ⟨Codeword.bytes_length, Codeword.tag_bytes, Codeword.leAt_data, Codeword.leAt_host⟩, fun t gcm => ?_, fun t n z => ?_,
    fun f k n recs s => ?_, fun d => ⟨descriptorBytes_length, descriptorBytes_fields⟩, fun a l p => ⟨burstCheck_length, leAt_burstCheck⟩, ?_⟩
  · obtain ⟨gcm', wseq, lba, name, zone, aseq, len, idx⟩ := PageTag.bytes_fields (t := t) (gcm := gcm)
    refine ⟨PageTag.bytes_length, gcm', wseq, ?_, fun small => ?_, zone, aseq, len, idx, leAt_crc PageTag.front_length⟩
    · simp only [lba, kindBlank_iff, apply_ite (· % 2 ^ 48), Nat.zero_mod]
    · rw [name]
      exact nsid_kind small
  · obtain ⟨nsid, zone⟩ := Trailer.head_fields (t := t) (n := n) (z := z)
    refine ⟨by simp [Trailer.bytes, Trailer.front_length], ?_, ?_, ?_, leAt_crc Trailer.front_length⟩
    · exact Trailer.bytes_take (by decide)
    · exact (Trailer.leAt_bytes (by decide)).trans nsid
    · exact (Trailer.leAt_bytes (by decide)).trans zone
  · obtain ⟨seq, index, count, len⟩ := State.segmentHead_fields (s := s) (f := f) (k := k) (n := n) (recs := recs)
    refine ⟨by simp [State.segmentBytes, State.segmentFront_length], ?_, ?_, ?_, ?_, fun fits => ⟨?_, State.segmentBytes_recs fits⟩,
      leAt_crc State.segmentFront_length⟩
    · exact State.segmentBytes_take (by decide)
    · exact (State.leAt_segmentBytes (by decide)).trans seq
    · exact (State.leAt_segmentBytes (by decide)).trans index
    · exact (State.leAt_segmentBytes (by decide)).trans count
    · rw [State.leAt_segmentBytes (by decide), len, Nat.mod_eq_of_lt (by omega)]
  · intro h magic format part steppings release length rollback flags build cfgFormat crc ooff olen odig coff clen cdig
    have len := fwFront_length magic
    obtain ⟨format', part', steppings', release', length', rollback', flags', build', cfgFormat'⟩ := fwFront_fields magic
    have front {o k : Nat} (within : o + k ≤ 508) : leAt (fwFront h ++ le 4 h.crc) o k = leAt (fwFront h) o k :=
      leAt_append_left (by rwa [len])
    have slice {o k : Nat} (within : o + k ≤ 508) :
        ((fwFront h ++ le 4 h.crc).drop o).take k = ((fwFront h).drop o).take k := slice_append_left (by rwa [len])
    refine ⟨by rw [List.length_append, len, le_length], ?_⟩
    have magic' : (fwFront h ++ le 4 h.crc).take 4 = h.magic :=
      (List.take_append_of_le_length (by rw [len]; decide)).trans (fwFront_take magic)
    have overlay := section_of_bytes (l := fwFront h ++ le 4 h.crc) (o := 0x20)
      (fun off k within => (slice (by omega)).trans (fwFront_overlay magic within)) ooff olen odig
    have control := section_of_bytes (l := fwFront h ++ le 4 h.crc) (o := 0x60)
      (fun off k within => (slice (by omega)).trans (fwFront_control magic within)) coff clen cdig
    have crc' : leAt (fwFront h ++ le 4 h.crc) 0x1FC 4 = h.crc := by
      rw [leAt_append_right (Nat.le_of_eq len), len, Nat.sub_self, leAt_le]
      exact Nat.mod_eq_of_lt crc
    unfold fwHeaderOf
    dsimp only
    rw [overlay, control, crc', magic', front (by decide), front (by decide), front (by decide), front (by decide), front (by decide),
      front (by decide), front (by decide), front (by decide), front (by decide), format', part', steppings', release', length',
      rollback', flags', build', cfgFormat', Nat.mod_eq_of_lt format, Nat.mod_eq_of_lt part, Nat.mod_eq_of_lt steppings,
      Nat.mod_eq_of_lt release, Nat.mod_eq_of_lt length, Nat.mod_eq_of_lt rollback, Nat.mod_eq_of_lt flags, Nat.mod_eq_of_lt build,
      Nat.mod_eq_of_lt cfgFormat]

end Sys2Proof.Machine
end
